-- ==== Sys2Proof/Word.lean ====
section
/-!
DEFINITION. The word types of the model and the plain data that commands carry as operands:
who makes a register access (R75, R77), the header of a RAP request (Table 3-6), and the measured
statistics, received frames and received units that the outside world hands to the block.
-/
namespace Sys2Proof

/-- A register word (R62). -/
abbrev Word := BitVec 32

/-- A byte of an addressed memory. -/
abbrev Byte := BitVec 8

/-- A carrier number (0.1: the part drives two carriers). -/
abbrev Carrier := Fin 2

/-- How a frame reaches the management port (R86, R87): over IPv6/UDP or raw, its EtherType, its destination and source (MAC
addresses in the low 48 bits, or IPv6 addresses), its UDP ports, and whether its UDP checksum is good. -/
structure Via where
  udp : Bool := false
  etherType : BitVec 16 := 0x88B5
  dst : BitVec 128 := 0
  src : BitVec 128 := 0
  dport : BitVec 16 := 0
  sport : BitVec 16 := 0
  sumOk : Bool := true
  deriving DecidableEq, Repr

/-- Where a frame of the part goes: a MAC address, or an IPv6 address and a UDP port. -/
structure Peer where
  udp : Bool := false
  addr : Nat := 0
  port : Nat := 0
  deriving DecidableEq, Repr

/-- The sender of a frame. -/
def Via.peer (v : Via) : Peer := if v.udp then ⟨true, v.src.toNat, v.sport.toNat⟩ else ⟨false, v.src.toNat, 0⟩

/-- What a RAP request of an open session carries beside its opcode and body (Table 3-6): the session slot that
its SESSION_ID names, SEQ, TAG and FLAGS.RETRY; and how it came. -/
structure ReqHdr where
  slot : Fin 8
  seq : BitVec 64
  tag : BitVec 16
  retry : Bool
  via : Via := {}
  deriving DecidableEq, Repr

/-- What a request of a session asks for (Table 3-8). -/
inductive Req where
  | nop
  | close
  | read (addr : BitVec 32)
  | write (addr : BitVec 32) (value : Word)
  | modify (addr : BitVec 32) (mask value : Word)
  | bulkWrite (addr : BitVec 32) (count : Nat) (words : List Word)
  | bulkRead (addr : BitVec 32) (count : Nat)
  | fill (addr : BitVec 32) (count : Nat) (pattern : List Word)
  | push (offset : BitVec 32) (bytes : List Byte)
  | commit (length : BitVec 32)
  | subscribe (pages : BitVec 128) (classes : BitVec 4)
  | ack (page index : BitVec 8)
  deriving DecidableEq, Repr

/-- A frame from the management port that is dropped, or answered with BAD_OPCODE or BAD_LENGTH (R87, R90 to R92). -/
inductive BadFrame where
  | hmac
  | unknownSession
  | noSession
  | parse
  | replay (slot : Fin 8)
  | rate
  | unknownOpcode (h : ReqHdr) (op : BitVec 8)
  | badLength (h : ReqHdr) (op : BitVec 8)
  deriving DecidableEq, Repr

/-- Who makes a register access: a RAP session by a request, or control core 0 to 7 (0 to 3 service, 4 to 7 user),
coded in REJECT_LAST.SOURCE (Table 3-3). -/
inductive Src where
  | rap (h : ReqHdr)
  | core (c : Fin 8)
  deriving DecidableEq, Repr

/-- REJECT_LAST.SOURCE: sessions 0x0 to 0x7, cores 0x8 to 0xF (Table 3-3). -/
def Src.code : Src → Nat
  | .rap h => h.slot.val
  | .core c => 8 + c.val

/-- A user core is core 4 to 7 (SOURCE 0xC to 0xF). -/
def Src.isUserCore : Src → Bool
  | .rap _ => false
  | .core c => decide (4 ≤ c.val)

/-- A complex sample of the datapath, exact: the spec gives its working precision nowhere (log 122). -/
structure Cx where
  re : Rat := 0
  im : Rat := 0
  deriving DecidableEq, Repr, Inhabited

/-- A sample of both polarisations. -/
structure Dual where
  x : Cx := {}
  y : Cx := {}
  deriving DecidableEq, Repr, Inhabited

/-- The figures of a subcarrier over a measurement period, in the units of Table 5-13 (R175). -/
structure SubMeas where
  dRes : Int := 0
  dgd : Nat := 0
  pdl : Nat := 0
  sopMax : Nat := 0
  sopMean : Nat := 0
  offset : Int := 0
  timing : Int := 0
  snr : Nat := 0
  gsnr : Nat := 0
  deriving DecidableEq, Repr, Inhabited

/-- A VLAN tag of a received frame. -/
structure Tag where
  tpid : BitVec 16
  pcp : Fin 8
  dei : Bool
  vid : BitVec 12
  deriving DecidableEq, Repr

/-- A frame received on a packet port: its bytes from DA to FCS, whether its FCS is good, its destination address, its tags
outermost first, and the EtherType after them. -/
structure RxFrame where
  len : Nat
  fcsOk : Bool
  dst : BitVec 48
  tags : List Tag
  etherType : BitVec 16
  deriving DecidableEq, Repr

/-- A received cell: its 16 header bytes and its payload bytes (R449). -/
structure RawCell where
  header : BitVec 128
  payload : List Byte
  deriving DecidableEq, Repr

/-- One link of a received topology record (R456). -/
structure TopoEdge where
  addr : Fin 512
  line : Bool
  cost : Nat
  cap : Nat
  delay : Nat
  deriving DecidableEq, Repr

/-- Who waits for a word of GDDR7 on the slow path (Table 16-2). -/
inductive MemReader where
  | buffer
  | collation (g : Fin 64) (p : Fin 2) (gsn : BitVec 32)
  | table
  deriving DecidableEq, Repr

/-- What one ADC position gathers over an estimation period (R110), of doubled centred samples X = 2x (odd numbers):
the sums of X, X², X times that of the next position and of the position after it, and of the squares of
2X − X of the position before − X of the position after; `stuck` an output bit constant throughout. -/
structure PosStat where
  s1 : Int := 0
  s2 : Nat := 0
  c1 : Int := 0
  c2 : Int := 0
  h : Nat := 0
  stuck : Bool := false
  deriving DecidableEq, Repr, Inhabited

/-- The statistics of one ADC over a period: samples a position, the 64 positions, the level as −dBFS × 10, the largest
|x| rounded down, the samples at code 0 or 255. -/
structure AdcStats where
  n : Nat
  pos : List PosStat
  level : Nat := 0
  peak : Nat := 0
  clips : Nat := 0
  deriving DecidableEq, Repr

/-- One observation of a DAC (R113): the observed sample `y`, and the intended samples before, at and after it. -/
structure DacObs where
  y : Int
  dm : Int
  d : Int
  dp : Int
  deriving DecidableEq, Repr, Inhabited

/-- One DAC position over a period: its observations; `absent` where no output was seen. -/
structure DacPos where
  obs : List DacObs := []
  absent : Bool := false
  deriving DecidableEq, Repr, Inhabited

/-- The fit of one DAC position (R113), in units of 2⁻²⁰: a, b, c, g; `absent` no output seen. -/
structure DacFit where
  a : Int
  b : Int := 0
  c : Int := 0
  g : Int := 0
  absent : Bool := false
  deriving DecidableEq, Repr, Inhabited

/-- A spare measured over a period as if it held position `pos` of converter `conv` (R123, R127): of an ADC its statistics, with
`prev` the sum of products with the position before it; of a DAC its observations. -/
structure SpareMeas where
  conv : Fin 8
  unit : Fin 68
  pos : Fin 64
  adc : PosStat := {}
  prev : Int := 0
  dac : DacPos := {}
  deriving DecidableEq, Repr

/-- The instructions of the test access port (R587); `vendor` stands for every one that 1149.1 does not define. -/
inductive TapInstr where
  | bypass | idcode | sample | extest | extestPulse | extestTrain | clamp | highz | vendor
  deriving DecidableEq, Repr

/-- What a repair sweep condemns (Table 22-2): a row or column of an SRAM array, a slice, an engine, a free spare lane, a data
lane, a free spare sub-converter; `dir` is 0 core to CX. -/
inductive SweepHit where
  | sram (array : BitVec 16) (row : Bool) (line : BitVec 8)
  | slice (n : Fin 2) (k : Fin 24)
  | engine (n : Fin 2) (u : Fin 26)
  | spareLane (n : Fin 2) (dir : Fin 2) (lane : Fin 528)
  | dataLane (n : Fin 2) (dir : Fin 2) (lane : Fin 528)
  | spareUnit (n : Fin 2) (c : Fin 8) (u : Fin 68)
  deriving DecidableEq, Repr

/-- A shaper: of a queue, an endpoint, a gathering, a fabric link (R421). -/
inductive ShaperSel where
  | queue (q : Fin 1048576)
  | endpoint (e : Fin 262144)
  | gathering (g : Fin 64)
  | link (k : Fin 8)
  deriving DecidableEq, Repr

/-- What the colophon copy in use holds (R571): the device identity, the upper bits of the management identity, grade (true for E),
copy, format version, silicon revision, manufacturer code, the certificate chain's words and the factory pre-emphasis profile. -/
structure Colophon where
  identity : BitVec 64
  mgmtId : BitVec 44
  grade : Bool := false
  copy : Bool := false
  format : BitVec 8 := 0
  revision : BitVec 4 := 0
  mfr : BitVec 11 := 0
  cert : List Word := []
  preemph : List (BitVec 16) := []
  deriving DecidableEq, Repr

end Sys2Proof
end

