-- ==== Sys2Proof/Syntax.lean ====
section
/-!
DEFINITION. The commands of the block: one constructor per row of the command table, with the operands its rule uses.
The table gives its rows no bits, so every operand here is the command's own: who makes an access, which instance, and
what arrives from outside (a received frame, a measured statistic, the outcome of a check the part makes on data that
the model does not carry).
-/
namespace Sys2Proof

/-- The commands, in the order of the command table. -/
inductive Instr where
  /-- R32: The later of PWRGOOD and RESET_N rises, ending device reset and defining t0. -/
  | deviceResetRelease
  /-- R37: PWRGOOD or RESET_N falls and the part enters device reset within 1 µs, letting an NV commit in progress finish. -/
  | deviceResetEntry (pwrgood resetN finish : Bool) (low : Nat)
  /-- R39: At +1 ms the part samples STRAP[15:0] and drives the OCP enables to their disabled levels. -/
  | strapsSampled (straps : BitVec 16)
  /-- R42: The root PLL locks, the main clocks start, DTIME moves to CK_SLOW and ALARM_N is released. -/
  | rootPllLocked
  /-- R61: The root PLL loses lock after +5 ms. -/
  | rootUnlock
  /-- R42: The NV store is read, the journal is replayed, the repair map is applied and the colophon is loaded. -/
  | nvLoaded (colophon : Option Colophon) (mapOk : Bool)
  /-- R607: SRAM BIST and repair complete, and the new entries are written as one NV transaction. -/
  | sramDone (repairs : List (BitVec 16 × Bool × BitVec 8)) (withheld : List (Option (Fin 128))) (rows cols : BitVec 16)
  /-- R46: GDDR7 initialisation and training complete, and the lowest failing channel is mapped out. -/
  | gddr7TrainingDone (failed : BitVec 16)
  /-- R46: The boot loader is verified by SM2, falling back to copy B or to ROM recovery, and MGT comes up. -/
  | loaderOk (copyA copyB : Bool)
  /-- R42: RAP begins to answer HELLO, under the pre-READY limits. -/
  | rapUp
  /-- R42: The client SerDes PLLs lock, and the lanes leave electrical idle sending local fault. -/
  | clientSerdesLocked
  /-- R44: The resident image is verified and started, or the part falls back to waiting for a pushed image. -/
  | fwVerify (good : Bool) (version : BitVec 16)
  /-- R42: The part reaches READY, lifts the RAP limits and records BOOT_TIME. -/
  | ready (power : Nat)
  /-- R56: A write of RESET_CTRL with WARM = 1 requests a warm reset; a wrong KEY is refused. -/
  | warmReset (key : BitVec 16) (src : Src)
  /-- R57: At t0w, 1 ms after the request, the warm reset acts as a device reset and boot resumes from NV_LOADED. -/
  | warmResetStart
  /-- R51: UPn changes to 1, the configuration checks run, and leave for carrier bring-up is requested. -/
  | carrierUp (n : Fin 2) (src : Src)
  /-- R55: UPn is written 0, so the DACs mute, the laser is disabled, queued leave is withdrawn and the status becomes DOWN. -/
  | carrierDown (n : Fin 2) (src : Src)
  /-- R171: Bring-up completes at FRM alignment or 200 ms after the grant, and the standing cost joins. -/
  | carrierUpComplete (n : Fin 2)
  /-- R50: A write of FABRIC_CTRL.OPEN lets the fabric links train; it is refused before READY. -/
  | fabricOpen (src : Src)
  /-- R66: ENABLE is written 1, and the block moves from OFF to CONFIG. -/
  | blockEnable (page : Fin 128) (src : Src)
  /-- R66: ENABLE is written 0, and the block goes to OFF, ending FAULT. -/
  | blockDisable (page : Fin 128) (src : Src)
  /-- R58: SOFT_RESET is written 1, starting a block soft reset that keeps the configuration. -/
  | blockSoftReset (page : Fin 128) (src : Src)
  /-- R58: The soft reset completes, and the block is in CONFIG, or in ACTIVE for the always-active blocks. -/
  | softResetComplete (page : Fin 128)
  /-- R66: STATE_REQ = ACTIVE runs the configuration check and moves the block from CONFIG or DRAIN to ACTIVE. -/
  | stateReqActive (page : Fin 128) (src : Src)
  /-- R71: STATE_REQ = DRAIN moves an ACTIVE block into DRAIN. -/
  | stateReqDrain (page : Fin 128) (src : Src)
  /-- R67: STATE_REQ = CONFIG is judged against Table 3-4 and refused where the table does not list it. -/
  | stateReqConfig (page : Fin 128) (src : Src)
  /-- R71: The block's DRAIN end condition or bound is reached, and it enters CONFIG with the effects of Table 3-13. -/
  | drainEnd (page : Fin 128)
  /-- R75: A write to a register with no row of its own is applied or refused, updating REJECT_LAST. -/
  | registerWrite (addr value : BitVec 32) (src : Src)
  /-- R90: A MGT frame that fails HMAC, session, replay, rate or parse checks is dropped and counted. -/
  | rapInvalidFrame (via : Via) (why : BadFrame)
  /-- R93: A HELLO request is answered with the part's version range and the agreed version. -/
  | hello (via : Via) (tag : BitVec 16) (min max : BitVec 8)
  /-- R94: The host's signed identity and key are verified, and SESSION_ACCEPT is returned with a new session id. -/
  | sessionInit (via : Via) (tag : BitVec 16) (identity : BitVec 128) (key : BitVec 512) (authority : Option (Fin 8)) (sigOk : Bool)
  /-- R94: The key-exchange confirmation is verified, and the session opens. -/
  | sessionConfirm (via : Via) (tag : BitVec 16) (slot : Fin 8) (good : Bool)
  /-- R95: The session is closed on request. -/
  | sessionClose (h : ReqHdr)
  /-- R95: The request keeps the session alive. -/
  | nop (h : ReqHdr)
  /-- R74: A RAP READ returns one register word or a status. -/
  | read (h : ReqHdr) (addr : BitVec 32)
  /-- R75: A RAP WRITE writes one register word, subject to the access and refusal rules. -/
  | write (h : ReqHdr) (addr value : BitVec 32)
  /-- R96: A masked read-modify-write of one register is done as one access. -/
  | modify (h : ReqHdr) (addr mask value : BitVec 32)
  /-- R97: Up to 1,024 consecutive words are written, stopping at the first failing word. -/
  | bulkWrite (h : ReqHdr) (addr : BitVec 32) (count : Nat) (words : List Word)
  /-- R97: Up to 1,024 consecutive words are read, stopping at NO_REG. -/
  | bulkRead (h : ReqHdr) (addr : BitVec 32) (count : Nat)
  /-- R98: A FILL requests leave and writes a pattern over a GDDR7 range or an on-die table in the background. -/
  | fill (h : ReqHdr) (addr : BitVec 32) (count : Nat) (pattern : List Word)
  /-- R98: A background FILL finishes or is cut short, and its response is sent. -/
  | fillComplete (written : Nat)
  /-- R101: Image bytes are written into the NV staging area at their offset. -/
  | imagePush (h : ReqHdr) (offset : BitVec 32) (bytes : List (BitVec 8))
  /-- R101: Verification of the staged image starts. -/
  | imageCommit (h : ReqHdr) (length : BitVec 32)
  /-- R45: Verification of a pushed image completes, and the image is installed, started or discarded. -/
  | imageVerified (good : Bool) (ty : Fin 4) (version : BitVec 16) (record : List Word)
  /-- R102: The session subscribes to event messages, filtered by page and class. -/
  | evtSubscribe (h : ReqHdr) (pages : BitVec 128) (classes : BitVec 4)
  /-- R104: An event source is acknowledged, clearing its sticky bit. -/
  | evtAck (h : ReqHdr) (page index : BitVec 8)
  /-- R95: A session with no valid frame for IDLE_TIMEOUT closes. -/
  | sessionIdleTimeout (slot : Fin 8) (idle : Nat)
  /-- R100: A kept response is discarded 1 s after it was sent. -/
  | responseRetentionExpiry (slot : Fin 8) (tag : BitVec 16)
  /-- R87: An IPv6 Neighbor Solicitation for the part's address is answered. -/
  | neighborSolicitation (addr : BitVec 128)
  /-- R87: An ICMPv6 Echo Request to the part's address is answered. -/
  | icmpv6Echo (addr : BitVec 128)
  /-- R88: A write of RAP.ENCAP.MODE takes effect after the response is sent in the old encapsulation. -/
  | encapModeWrite (ipv6 : Bool) (src : Src)
  /-- R105: The MGT link is lost after READY. -/
  | mgtLinkDown
  /-- R105: The MGT link comes up. -/
  | mgtLinkUp
  /-- R643: Line PLL n locks after its start, and the laser and driver enables are driven high. -/
  | linePllLocked (n : Fin 2)
  /-- R643: A running line PLL loses lock after first locking. -/
  | linePllUnlock (n : Fin 2)
  /-- R111: SIG_OK falls or rises, discarding or restarting the ADC estimation period. -/
  | sigOkChange (n : Fin 2) (ok : Bool)
  /-- R114: An estimation period ends, and CAL forms one update per converter and checks health. -/
  | calPeriodEnd (n : Fin 2) (adc : List AdcStats) (dac : List DacPos) (spares : List SpareMeas)
  /-- R115: A pending or held code update, or a MANUAL slew step, is committed at a valid gutter slot. -/
  | calGutterCommit (n : Fin 2) (tx : Bool) (gap : Option Nat)
  /-- R127: At a valid gutter the position map switches the failing position to the ready spare. -/
  | spareSwapCommit (n : Fin 2)
  /-- R129: A spare is not ready within 256 periods, is retired, and the next free spare is tried. -/
  | sparePrecalTimeout (n : Fin 2)
  /-- R125: CMD.FULL requests leave for a full converter calibration while the carrier is DOWN. -/
  | calFull (n : Fin 2) (src : Src)
  /-- R124: A full calibration ends, restoring the paths, setting CODES_VALID and reporting any residual failure. -/
  | fullCalDone (n : Fin 2) (obsFail : Bool)
  /-- R127: CMD.SWAP starts a spare swap of the position named. -/
  | calSwap (n : Fin 2) (conv : Fin 8) (pos : Fin 64) (src : Src)
  /-- R129: CMD.ABORT_SPARE ends the swap in progress and returns the spare to SPARE_FREE. -/
  | calAbortSpare (n : Fin 2) (src : Src)
  /-- R121: A MANUAL-mode target write to word 3 of a sub-converter entry sets its target codes. -/
  | calTargetWrite (n : Fin 2) (entry : Fin 544) (target : BitVec 32) (src : Src)
  /-- R12: A die-to-die data lane fails and is scheduled for exchange, or reported with no spare left. -/
  | d2dLaneFail (n : Fin 2) (toCore : Bool) (lane : Fin 528)
  /-- R12: A data lane is exchanged for a spare at a gutter-slot commit. -/
  | d2dLaneExchange (n : Fin 2) (toCore : Bool)
  /-- R170: After HOLD low-power intervals RX_LOS is declared and acquisition returns to WAIT_SIGNAL. -/
  | rxLosDeclare (n : Fin 2) (level : Nat)
  /-- R170: An interval at or above the threshold clears RX_LOS. -/
  | rxLosClear (n : Fin 2) (level : Nat)
  /-- R168: No RX_LOS for 100 µs moves the subcarrier from WAIT_SIGNAL to CD_SEARCH. -/
  | waitSignalExit (n : Fin 2) (i : Fin 16)
  /-- R142: A 25 µs CD trial completes, advancing the coarse or fine search and qualifying or failing a candidate. -/
  | cdTrial (n : Fin 2) (i : Fin 16) (metric : Nat)
  /-- R157: A 20 µs frequency estimate updates the derotator or steps the laser, ending FREQ_ACQ when the residual is small. -/
  | freqAcqEstimate (n : Fin 2) (i : Fin 16) (residual : Int)
  /-- R157: FREQ_ACQ reaches FREQ_TIMEOUT and returns to CD_SEARCH. -/
  | freqAcqTimeout (n : Fin 2) (i : Fin 16)
  /-- R149: The equaliser taps update once per 128-symbol block and the block-level state criteria are judged. -/
  | eqBlockUpdate (n : Fin 2) (i : Fin 16) (adc : List (List (BitVec 8)))
  /-- R168: 5 ms in EQ_BLIND returns the subcarrier to CD_SEARCH with the taps reset. -/
  | eqBlindTimeout (n : Fin 2) (i : Fin 16)
  /-- R168: Per-folio gutter correlation finds the gutter or declares it lost. -/
  | rxGutterCorrelate (n : Fin 2) (i : Fin 16) (pos : Int) (found : Bool) (swapped : Bool) (low : Bool) (pilotOk : Bool) (snrOk : Bool) (quireErr : Option Int)
  /-- R168: 2 ms in GUTTER_SEARCH returns the subcarrier to EQ_BLIND. -/
  | gutterSearchTimeout (n : Fin 2) (i : Fin 16)
  /-- R168: 10 ms in TRAIN returns the subcarrier to GUTTER_SEARCH. -/
  | acqTrainTimeout (n : Fin 2) (i : Fin 16)
  /-- R168: An offset above CAPTURE for 1 ms in TRAIN or TRACK returns the subcarrier to FREQ_ACQ. -/
  | freqCaptureLoss (n : Fin 2) (i : Fin 16)
  /-- R174: CMD.RESTART returns one or all subcarriers to WAIT_SIGNAL. -/
  | acqRestart (n : Fin 2) (subc : Option (Fin 16)) (src : Src)
  /-- R181: CMD.SNAP snapshots the taps of a subcarrier into the window. -/
  | rxdSnap (n : Fin 2) (subc : Fin 16) (src : Src)
  /-- R144: CMD.MEM_CLEAR clears the CD memory of all subcarriers. -/
  | cdMemClear (n : Fin 2) (src : Src)
  /-- R158: CMD.FB_ZERO sets the laser command C to 0 for sending when the laser is enabled. -/
  | fbZero (n : Fin 2) (src : Src)
  /-- R158: Every 1/RATE in TRACK the laser command is updated and sent over OCP when it changes. -/
  | laserFbUpdate (n : Fin 2) (f : Int)
  /-- R162: SETTLE after a large change of C, the laser's response is checked. -/
  | fbResponseCheck (n : Fin 2) (f : Int)
  /-- R164: NLC_REQ changes to 1 and leave for NLC enabling is requested. -/
  | nlcRequest (n : Fin 2) (src : Src)
  /-- R164: NLC_REQ changes to 0 and the stage stops, withdrawing leave and releasing its cost. -/
  | nlcStopRequest (n : Fin 2) (src : Src)
  /-- R164: After the grant, the stage starts at the next eligible gutter with subcarrier 0 in TRACK. -/
  | nlcGutterStart (n : Fin 2)
  /-- R164: 2 ms after the grant the enabling leave ends and the standing cost joins. -/
  | nlcLeaveEnd (n : Fin 2)
  /-- R175: A measurement period ends and the records and page registers latch their values. -/
  | measPeriodEnd (n : Fin 2)
  /-- R151: The SOP rate over 1 µs exceeds BOOST_TH and the tracking step size is boosted. -/
  | sopBoostStart (n : Fin 2)
  /-- R151: The SOP rate has stayed below the threshold for BOOST_HOLD and the boost ends. -/
  | sopBoostEnd (n : Fin 2)
  /-- R155: Two consecutive pilot phase estimates differ by more than π/2 and a phase jump is counted. -/
  | phaseJump (n : Fin 2) (i : Fin 16)
  /-- R139: Each ADC deskew moves by at most one step at the first sample of a gutter. -/
  | deskewStep (n : Fin 2) (d0 : Int) (d1 : Int) (d2 : Int) (d3 : Int)
  /-- R146: In TRACK the CD filter moves 10 ps/nm toward D_res at a gutter. -/
  | cdFilterMove (n : Fin 2) (i : Fin 16)
  /-- R178: A slice records 8 check errors in a folio and the spare enters SHADOW. -/
  | sliceFail (n : Fin 2) (slice : Fin 24) (errs : Nat)
  /-- R179: After 2 folios of clean shadowing the spare takes over at the next gutter. -/
  | sliceHandover (n : Fin 2)
  /-- R180: A check error during SHADOW marks the spare FAILED. -/
  | sliceShadowError (n : Fin 2) (errs : Nat)
  /-- R185: TXD maps a folio's coded bits to gutter, pilot, data and fill symbols and shapes them. -/
  | txFolioMap (n : Fin 2)
  /-- R207: LASER_WAIT elapses or LASER_READY arrives with calibration done, and the unmute ramp starts. -/
  | unmuteStart (n : Fin 2) (ready : Option Bool)
  /-- R207: LASER_READY is not active LASER_WAIT after the enables. -/
  | laserReadyTimeout (n : Fin 2)
  /-- R208: A mute or unmute ramp reaches gain 0 or 1. -/
  | outputRampDone (n : Fin 2)
  /-- R208: A write of CTRL.MUTE adds or removes the host mute cause. -/
  | txMuteWrite (n : Fin 2) (mute : Bool) (src : Src)
  /-- R208: The OPT_FAULT input changes, applying or starting the 100 ms hold of the mute cause. -/
  | optFaultChange (n : Fin 2) (active : Bool)
  /-- R208: OPT_FAULT has been inactive for 100 ms and its mute cause clears. -/
  | optFaultHoldoffExpiry (n : Fin 2)
  /-- R208: A write of FAULT_EN applies or ends the OPT_FAULT mute cause at once. -/
  | faultEnWrite (n : Fin 2) (on : Bool) (src : Src)
  /-- R200: MASKm_CTRL.CHECK starts a check of the inactive bank against the mask. -/
  | maskCheck (n : Fin 2) (m : Fin 2) (src : Src)
  /-- R200: A mask check completes and sets RESULT. -/
  | maskCheckDone (n : Fin 2) (m : Fin 2)
  /-- R200: MASKm_CTRL.APPLY exchanges the banks after a passing check. -/
  | maskApply (n : Fin 2) (m : Fin 2) (src : Src)
  /-- R200: In ACTIVE the applied bank takes effect at the first sample of the next gutter. -/
  | maskBankExchange (n : Fin 2) (m : Fin 2)
  /-- R201: Each quire the live spectrum is compared with the mask and the target may be muted. -/
  | maskLiveMeasure (n : Fin 2) (m : Fin 2)
  /-- R202: A write of CD_PRE.TARGET sets the target, taken up at once in OFF or CONFIG. -/
  | cdPreTargetWrite (n : Fin 2) (target : BitVec 16) (src : Src)
  /-- R202: Every 8 quires the CD pre-compensation moves 10 ps/nm toward its target. -/
  | cdPreMove (n : Fin 2)
  /-- R203: Each DAC launch delay moves one unit toward SKEW at a gutter. -/
  | txSkewStep (n : Fin 2) (carriesChange : Bool)
  /-- R205: Each quire the saturated samples of each DAC are checked against 10⁻⁴. -/
  | clipCheck (n : Fin 2)
  /-- R210: A host SPI word is queued for OCPn. -/
  | ocpSpiTx (n : Fin 2) (word : BitVec 32) (src : Src)
  /-- R210: An SPI transfer completes and the next queued word starts, frequency commands first. -/
  | ocpSpiTransferDone (n : Fin 2) (rx : BitVec 32)
  /-- R222: SCHED_CTRL.CHECK checks the inactive schedule bank against Table 7-3. -/
  | schedCheck (n : Fin 2) (src : Src)
  /-- R223: SCHED_CTRL.APPLY exchanges the schedule banks after a passing check. -/
  | schedApply (n : Fin 2) (src : Src)
  /-- R223: The new bank takes over grants from upstream folio u. -/
  | schedSwitch (n : Fin 2)
  /-- R224: Each downstream folio the hub fills the burst map for upstream folio f + 16. -/
  | burstMapFill (n : Fin 2) (f : Nat)
  /-- R225: A leaf decodes the burst map of a received folio and acts on its entries. -/
  | burstMapDecode (n : Fin 2) (f : Nat) (entries : List (BitVec 32))
  /-- R226: The hub opens a join quiet window and keeps the silent span free of grants. -/
  | quietWindowOpen (n : Fin 2) (opens : Bool)
  /-- R227: The hub decodes a join record, chooses a leaf entry and queues ACCEPT, or refuses. -/
  | joinDecision (n : Fin 2) (i : Fin 16) (record : BitVec 128)
  /-- R228: A write of LISTED moves a leaf entry between FREE and RESERVED. -/
  | leafListedWrite (n : Fin 2) (leaf : Fin 32) (listed : Bool) (src : Src)
  /-- R228: LEAF_CMD.DEREGISTER moves a leaf entry to LOST and queues DEREGISTER. -/
  | leafDeregister (n : Fin 2) (leaf : Fin 32) (src : Src)
  /-- R230: A change of UP_OWNER queues DEDICATED or RELEASE. -/
  | upOwnerWrite (n : Fin 2) (i : Fin 16) (owner : Option (Fin 32)) (src : Src)
  /-- R231: The carrier is UP, tracked and aligned, so the leaf enters WAIT_QUIET with a random backoff. -/
  | leafJoinStart (n : Fin 2)
  /-- R231: REPLY_WAIT elapses after a join burst and the leaf backs off again. -/
  | leafReplyTimeout (n : Fin 2)
  /-- R231: The first own grant or dedication begins and the leaf is IN_SERVICE. -/
  | leafFirstBurst (n : Fin 2)
  /-- R231: FRM loses alignment, and the leaf enters HOLD and ramps every subcarrier to zero. -/
  | leafHoldEntry (n : Fin 2)
  /-- R231: HOLD elapses without alignment and the leaf returns to IDLE. -/
  | leafHoldTimeout (n : Fin 2)
  /-- R237: At a window's first symbol the scheduled leaf's CD, taps and offset are loaded into RXD. -/
  | burstStateLoad (n : Fin 2) (i : Fin 16) (leaf : Fin 32)
  /-- R234: A correlator detects a preamble peak and the burst receiver moves by Table 7-7. -/
  | burstDetection (n : Fin 2) (i : Fin 16) (peakA : Option (Nat × Int)) (peakB : Option (Nat × Int))
  /-- R236: A sync word is found, values are latched and the burst is accepted, alien or a join. -/
  | burstSyncLatch (n : Fin 2) (i : Fin 16) (j : Fin 33) (off : Int) (metric : Nat) (folio : Nat) (rssi : Nat) (snr : Nat) (freq : Int) (arrival : Int) (cd : Int) (adc : List (List (BitVec 8)))
  /-- R234: No sync word is found 264 symbols after the candidate. -/
  | burstNoSync (n : Fin 2) (i : Fin 16)
  /-- R234: The payload reaches its ramp-down and the receiver re-arms. -/
  | burstRampDown (n : Fin 2) (i : Fin 16)
  /-- R238: FEC has decoded the burst's last codeword and the verdict is GOOD or ERRORED. -/
  | burstVerdict (n : Fin 2) (i : Fin 16)
  /-- R234: A granted window's sync instant plus WIN_TOL passes with no latch, recording MISSING. -/
  | burstWindowMissing (n : Fin 2) (i : Fin 16) (leaf : Fin 32) (folio : Nat)
  /-- R218: WINDOW_OK falls at the hub. -/
  | windowLost (n : Fin 2)
  /-- R243: A folio's streams are BCH encoded, LDPC encoded and interleaved. -/
  | fecEncode (n : Fin 2) (stream : Nat)
  /-- R252: An engine finishes decoding a codeword, converged or at the cap in force. -/
  | codewordDecode (n : Fin 2) (stream : Nat)
  /-- R253: The BCH decoder processes a stream and the stream is delivered to FRM with its counts. -/
  | bchDecode (n : Fin 2) (stream : Nat)
  /-- R261: A codeword misses its deadline during a pool change and is delivered UNCONVERGED. -/
  | lateCodeword (n : Fin 2) (stream : Nat) (iters : Fin 25)
  /-- R260: A quire of shadowing ends and a mismatch triggers reference decodes. -/
  | engineShadowCheck (n : Fin 2) (mismatch : Bool) (activePass : Bool) (sparePass : Bool)
  /-- R261: A verified spare joins the pool at the start of the next folio. -/
  | engineSpareJoin (n : Fin 2) (refPass : Bool)
  /-- R265: A write of IMAX lowers the host cap or requests leave to raise it. -/
  | imaxWrite (n : Fin 2) (imax : BitVec 5) (src : Src)
  /-- R268: CMD.HIST_CLEAR sets every histogram bin to 0. -/
  | histClear (n : Fin 2) (src : Src)
  /-- R284: A decoded folio arrives at FRM and is aligned, checked and descrambled, with its defects and headband fields taken. -/
  | folioRx (n : Fin 2) (i : Fin 16)
  /-- R281: CMD.ALIGN_RESTART puts every stream in SEARCH. -/
  | alignRestart (n : Fin 2) (src : Src)
  /-- R312: CMD.HB_SNAP snapshots the next non-missed headband. -/
  | hbSnap (n : Fin 2) (src : Src)
  /-- R277: FRM assembles and scrambles a transmitted folio with headband, PS, far-end fields and version. -/
  | folioTx (n : Fin 2) (core : Option (List (BitVec 8)))
  /-- R300: At the end of each wholly locked second SD is declared or cleared. -/
  | sdSecond (n : Fin 2) (i : Fin 16)
  /-- R286: A burst spine is checked once and a failing burst's payload is discarded. -/
  | burstSpineCheck (n : Fin 2) (i : Fin 16)
  /-- R292: A received MC unit is sent out on the extracting ports. -/
  | ospExtractUnit (n : Fin 2) (mc1 : Bool)
  /-- R293: A unit received on an insertion port enters the FIFO, or is discarded as short or overflowing. -/
  | ospInsertUnit (p : Fin 4) (unit : List (BitVec 8)) (cut : Bool)
  /-- R306: A second of the PM timescale ends and every entity's second is classified. -/
  | pmbSecondEnd
  /-- R307: 10 s after a second ends, unavailability is resolved and its counts enter the bins. -/
  | pmbSecondFinal
  /-- R310: On-die endpoint counts are added to the GDDR7 records. -/
  | epRecordFlush (e : Fin 262144) (lost : Bool)
  /-- R305: A write of the high word of ALIGN_OFFSET steps the PM timescale and marks the bins SUSPECT. -/
  | alignOffsetWrite (offset : BitVec 64) (src : Src)
  /-- R322: A write of word 15 commits a gathering entry after the check of Table 10-2. -/
  | gatheringCommit (g : Fin 64) (words : List Word) (src : Src)
  /-- R325: GTH fills a gathering's slots with a unit, its GSN and its markers. -/
  | gthTxUnit (g : Fin 64)
  /-- R329: A part's unit and marker arrive, advancing its state and possibly setting the timeline. -/
  | gatheringMarkerRx (g : Fin 64) (p : Fin 2)
  /-- R331: At O(g) GTH grades, selects and hands unit g to CRY, or fails it. -/
  | unitOutput (g : Fin 64)
  /-- R334: CMD RECOLLATE forces a re-collation of the gathering. -/
  | gthRecollate (g : Fin 64) (src : Src)
  /-- R337: CMD SEL_CLEAR removes a manual or forced 1+1 selection. -/
  | selClear (g : Fin 64) (src : Src)
  /-- R337: CMD SEL_MANUAL_A commands copy A on equal grades. -/
  | selManualA (g : Fin 64) (src : Src)
  /-- R337: CMD SEL_MANUAL_B commands copy B on equal grades. -/
  | selManualB (g : Fin 64) (src : Src)
  /-- R337: CMD SEL_FORCE_A forces copy A. -/
  | selForceA (g : Fin 64) (src : Src)
  /-- R337: CMD SEL_FORCE_B forces copy B. -/
  | selForceB (g : Fin 64) (src : Src)
  /-- R339: A write of PG_CFG enables or disables a 1:1 protection group after checks. -/
  | pgCfgWrite (q : Fin 4) (v : BitVec 32) (src : Src)
  /-- R343: PG_CMD CLEAR removes a host command and ends WTR or DNR. -/
  | pgClear (q : Fin 4) (src : Src)
  /-- R341: PG_CMD LOCKOUT requests lockout of protection. -/
  | pgLockout (q : Fin 4) (src : Src)
  /-- R341: PG_CMD FORCE requests a forced switch. -/
  | pgForce (q : Fin 4) (src : Src)
  /-- R341: PG_CMD MANUAL requests a manual switch. -/
  | pgManual (q : Fin 4) (src : Src)
  /-- R341: A failed unit has persisted for HOLD_OFF and the gathering is declared failed. -/
  | pgHoldOffExpiry (q : Fin 4) (isP : Bool)
  /-- R343: The wait-to-restore time ends and the group returns to NR. -/
  | pgWtrExpiry (q : Fin 4)
  /-- R345: SIG = 1 with received BR = 0 for 50 ms raises PG_FOP. -/
  | pgFop (q : Fin 4)
  /-- R366: CRY encrypts a unit, switching keys at a switch point and handling counter warning and exhaustion. -/
  | cryTxUnit (g : Fin 64)
  /-- R368: CRY verifies a received unit as old or new, commits a key switch and releases or zeroes it. -/
  | cryRxUnit (g : Fin 64) (okSel : Bool) (okOther : Bool) (left : Nat)
  /-- R381: A write of word 7 commits a gathering's key entry. -/
  | keyEntryCommit (g : Fin 64) (words : List Word) (src : Src)
  /-- R361: TX_LOAD in a commit starts loading a transmit next key. -/
  | txKeyLoad (g : Fin 64) (slot : Fin 512) (salt : BitVec 64) (src : Src)
  /-- R361: RX_LOAD in a commit starts loading a receive next key. -/
  | rxKeyLoad (g : Fin 64) (slot : Fin 512) (salt : BitVec 64) (src : Src)
  /-- R361: A next key becomes READY or ERROR. -/
  | keyLoadDone (g : Fin 64) (tx : Bool) (served : Bool)
  /-- R367: CMD SWITCH_TX requests a transmit key switch at the next switch point. -/
  | switchTx (g : Fin 64) (src : Src)
  /-- R369: CMD RX_RESYNC drops the current receive key to next and rebuilds the candidates. -/
  | rxResync (g : Fin 64) (src : Src)
  /-- R378: CMD.SELF_TEST requests leave for a cipher self-test. -/
  | crySelfTest (src : Src)
  /-- R378: The known-answer tests complete and RESULT is set. -/
  | crySelfTestDone (pass : Bool)
  /-- R375: AGREE_CMD.START begins a key agreement as initiator and sends A1. -/
  | agreeStart (g : Fin 64) (src : Src)
  /-- R377: AGREE_CMD.ABORT ends the exchange with AGREE_FAIL, cause HOST. -/
  | agreeAbort (src : Src)
  /-- R376: An A1 message is received and answered with A2, or with ABORT. -/
  | agreeA1Rx (n : Fin 2) (pos : Fin 32) (identity : BitVec 64) (sigOk : Bool)
  /-- R376: An A2 message is verified and answered with A3. -/
  | agreeA2Rx (identity : BitVec 64) (sigOk : Bool) (confOk : Bool)
  /-- R377: An A3 confirmation is verified and the derived keys are stored and loaded. -/
  | agreeA3Rx (confOk : Bool)
  /-- R377: An ABORT message ends the exchange with AGREE_FAIL. -/
  | agreeAbortRx
  /-- R377: An exchange not finished within 50 ms of START fails. -/
  | agreeTimeout
  /-- R377: The agreed keys are written to their slots, loaded as next keys and AGREE_DONE is raised. -/
  | agreeKeysStored
  /-- R391: A lane's SIG_DET, CDR lock or PCS alignment changes, failing or restoring a client. -/
  | clientLaneStatus (l : Fin 32) (sigDet cdrLock pcs hiSer : Bool) (snr : Fin 256) (errs corrCw uncorrCw corrSym : Nat)
  /-- R383: Receive adaptation of a client lane completes. -/
  | laneAdaptDone (l : Fin 32)
  /-- R386: A frame received on a packet port is checked, classified, metered and admitted or dropped. -/
  | portFrameRx (p : Fin 32) (f : RxFrame) (bw : Bool)
  /-- R399: A GDDR7 destination lookup completes, is cached and the frame continues to metering. -/
  | missLookupDone (ue : List (Fin 4)) (bw : Bool)
  /-- R399: The signature array build finishes after CLS enters ACTIVE and lookups begin. -/
  | signatureBuildDone
  /-- R400: CMD.CACHE_FLUSH empties the lookup cache. -/
  | cacheFlush (src : Src)
  /-- R388: A port starts or stops receiving local or remote fault. -/
  | pcsFaultRx (p : Fin 32) (lf rf : Bool)
  /-- R389: A transparent client's blocks are packed into a unit of its gathering. -/
  | transparentMapUnit (p : Fin 32) (arrived : Nat)
  /-- R392: A received transparent unit is written into the demapper FIFO, with slips handled. -/
  | demapUnit (p : Fin 32) (sent : Nat)
  /-- R417: A meter entry commit changes rates or mode, clipping or refilling buckets. -/
  | meterCommit (m : Fin 266240) (words : List Word) (src : Src)
  /-- R431: A queue entry commit sets its profile and enable. -/
  | queueEntryCommit (q : Fin 1048576) (profile : Fin 64) (en : Bool) (src : Src)
  /-- R424: A shaper commit changes rate or burst and moves its wheel entry. -/
  | shaperCommit (x : ShaperSel) (words : List Word) (src : Src)
  /-- R425: CLEAR_DEBT in a shaper commit sets negative credit to 0. -/
  | clearDebt (x : ShaperSel) (src : Src)
  /-- R423: A shaper's timing wheel slot comes round and it becomes eligible or moves wheels. -/
  | shaperWheelSlot (x : Fin 2097224)
  /-- R428: An output's scheduler dequeues a frame, charges its shapers and cuts it into cells. -/
  | frameDequeue (dest : Fin 512) (full noRoom : Bool)
  /-- R494: A staging page is written to GDDR7 when full or 4 µs after its first frame. -/
  | stagingPageWrite (q : Fin 1048576) (page : Nat)
  /-- R429: A port FIFO reaches XOFF and the port is paused here and across the domain. -/
  | egressFifoXoff (p : Fin 32)
  /-- R429: A port FIFO falls to XON and the pause ends. -/
  | egressFifoXon (p : Fin 32)
  /-- R458: Released cells are reassembled into frames and passed to egress or the overflow queue. -/
  | frameReassembly (src : Fin 512) (cls : Fin 4) (full noRoom : Bool)
  /-- R442: Every training condition holds and the link enters TRAIN. -/
  | fabricTrainStart (k : Fin 8)
  /-- R442: A lane finishes its CTLE sweep and sends READY. -/
  | ctleSweepDone (k : Fin 8) (l : Fin 4) (foms : List (BitVec 8))
  /-- R443: 20 ms after first SIG_DET the link goes to NEGOTIATE or BACKOFF. -/
  | linkTrainTimeout (k : Fin 8)
  /-- R443: 100 ms of BACKOFF ends and the link retrains. -/
  | backoffExpiry (k : Fin 8)
  /-- R443: 2 ms without a HELLO in NEGOTIATE returns the link to TRAIN. -/
  | negotiateTimeout (k : Fin 8)
  /-- R440: A lane frame is received, its lane word checked and its cells passed on. -/
  | laneFrameRx (k : Fin 8) (l : Fin 4) (word : BitVec 40) (bad0 bad1 : Bool) (cells : List RawCell)
  /-- R444: A lane fails, its RX_OK is cleared and the link degrades or retrains. -/
  | laneFail (k : Fin 8) (l : Fin 4) (sigDet cdrLock : Bool)
  /-- R445: A retrained lane has passed CRC for 1 ms and rejoins. -/
  | laneRestore (k : Fin 8) (l : Fin 4)
  /-- R446: Once per second a lane tries a neighbouring CTLE step for 100 µs. -/
  | ditherTrial (k : Fin 8) (l : Fin 4) (fom : BitVec 8)
  /-- R441: Every 100 µs a lane's figure of merit is recomputed. -/
  | fomRefresh (k : Fin 8) (l : Fin 4) (fom : BitVec 8)
  /-- R443: CMD.RETRAIN returns an UP or DEGRADED link to TRAIN. -/
  | fblRetrain (k : Fin 8) (src : Src)
  /-- R449: A cell arrives, is checked and forwarded to egress, transit or resequencing. -/
  | cellRx (m : Fin 72) (c : RawCell)
  /-- R452: FBR sends a HELLO cell on a link or gathering at its interval. -/
  | helloSend (m : Fin 72)
  /-- R452: A HELLO cell is received, advancing negotiation, liveness, domain and delay. -/
  | helloCellRx (m : Fin 72) (addr : Fin 512) (ver : Fin 3) (link : Fin 128) (ident domain t3 t1 t2 : BitVec 64)
  /-- R452: 4 × HELLO passes without a HELLO and the neighbour is dead. -/
  | neighbourDead (m : Fin 72)
  /-- R456: Firmware floods this part's TOPO record on a change or every 1 s. -/
  | topoFlood
  /-- R456: A TOPO record is received into the topology database. -/
  | topoCellRx (m : Fin 72) (addr : Fin 512) (ident : BitVec 64) (role : Fin 3) (seq : BitVec 16) (idx cnt : Fin 4) (links : List TopoEdge)
  /-- R456: A record not refreshed for 4 s is aged out. -/
  | topoAgeOut (addr : Fin 512)
  /-- R456: Firmware computes shortest paths, writes the inactive bank and applies it. -/
  | routeCompute
  /-- R461: ROUTE_CTRL.APPLY exchanges the route banks. -/
  | routeApply (src : Src)
  /-- R461: A route entry commits into the inactive bank. -/
  | routeEntryCommit (e : Fin 1024) (words : List Word) (src : Src)
  /-- R458: A resequencing gap stands for TIMEOUT and is skipped. -/
  | reseqGapTimeout (src : Fin 512)
  /-- R458: A source with no cell for 1 s loses its resequencing state. -/
  | reseqSourceTimeout (src : Fin 512)
  /-- R459: A PAUSE cell is received, applied and forwarded if new. -/
  | pauseCellRx (m : Fin 72) (origin : Fin 512) (port : Fin 32) (on : Bool) (seq : BitVec 16)
  /-- R459: Every 50 µs the origin resends PAUSE cells for a paused port. -/
  | pauseRefresh (p : Fin 32)
  /-- R459: A pause not refreshed for 200 µs ends at the receiving part. -/
  | pauseExpiry (origin : Fin 512) (port : Fin 32)
  /-- R467: Each second TIM measures slots, votes, detects drift and records control values. -/
  | timSecond (ys : List (Option Int)) (phases : List (Int × Int)) (c0 : Int) (c1 : Int) (e0 : Int) (e1 : Int)
  /-- R466: A slot's source becomes inactive or active, changing qualification and selection. -/
  | refActivityChange (slot : Fin 16) (active : Bool)
  /-- R466: A PPSIN rising edge is time-stamped. -/
  | ppsinEdge (ps : Fin 1000)
  /-- R469: A slot's wait-to-restore ends and it qualifies again. -/
  | refWtrExpiry (slot : Fin 16)
  /-- R477: Phase and frequency errors stay within limits for 10 s and the DPLL is LOCKED. -/
  | dpllLock (d : Fin 2)
  /-- R477: Phase error above 1 µs for 1 s returns the DPLL to LOCKING. -/
  | dpllLockLost (d : Fin 2)
  /-- R474: A write of DCTRL.MODE forces, holds over, free-runs or restores automatic selection. -/
  | dpllModeWrite (d : Fin 2) (v : BitVec 32) (src : Src)
  /-- R479: A write of PHASE_STEP jumps or slews the DPLL output phase. -/
  | phaseStep (d : Fin 2) (ps : BitVec 32) (src : Src)
  /-- R479: A slewed phase step completes. -/
  | slewDone (d : Fin 2)
  /-- R481: Every 1 ms TIM updates the steering of the line PLLs, clamping at ±50 ppm. -/
  | lineSteerUpdate (offset : Int)
  /-- R469: A write of a slot's source or enable changes its candidacy, qualifying without a wait. -/
  | slotCfgWrite (slot : Fin 16) (v : BitVec 32) (src : Src)
  /-- R464: The monitor reference changes and every measurement and history is discarded. -/
  | monrefChange (good : Bool) (offset : Int)
  /-- R482: A change of a clock output's frequency or source restarts it without a runt. -/
  | clkoutChange (i : Fin 4) (freq : Bool) (v : BitVec 32) (src : Src)
  /-- R484: CMD.ALIGNj aligns a pulse output at its staged period and offset. -/
  | ppsoutAlign (a0 : Bool) (a1 : Bool) (src : Src)
  /-- R484: A write of PPSOUT EN = 1 aligns the output. -/
  | ppsoutEnable (j : Fin 2) (v : BitVec 32) (src : Src)
  /-- R483: A pulse output sends a pulse at the start of its period. -/
  | ppsPulse (j : Fin 2)
  /-- R486: An ESMC PDU is received and firmware updates the slot QL. -/
  | esmcPduRx (slot : Fin 16) (ql : BitVec 8)
  /-- R486: No ESMC PDU for 5 s sets the slot QL to DNU or DUS. -/
  | esmcTimeout (slot : Fin 16)
  /-- R486: Firmware sends an ESMC information or event PDU. -/
  | esmcPduSend (port : Fin 32) (event : Bool)
  /-- R502: A GDDR7 read completes on the normal path with light correction. -/
  | gddr7Read (page : Nat) (ce : Fin 57)
  /-- R503: A strong decode of a page completes and the consumer receives the word or an uncorrectable result. -/
  | slowPathDone (page : Nat) (fixed lost : Fin 57) (who : MemReader)
  /-- R499: A write covering a whole page is encoded and written without reading. -/
  | wholePageWrite (page : Nat) (data : List (List (BitVec 8)))
  /-- R500: A partial page write updates words and parity by read-modify-write. -/
  | readModifyWrite (page : Nat) (words : List (Fin 56 × List (BitVec 8))) (ue lost : List (Fin 56))
  /-- R507: The scrubber reads a table page and logs a report when needed. -/
  | scrubPage (ce ue : Fin 57) (failed : Bool)
  /-- R509: Every 10 ms a channel reads its device temperature and changes band. -/
  | memTempRead (c : Fin 16) (temp : BitVec 8)
  /-- R511: A channel retrains at its interval, failing after three attempts. -/
  | memRetrain (c : Fin 16) (first again : Bool)
  /-- R512: A GDDR7 device stops answering and its channel becomes FAILED. -/
  | channelDeviceFail (c : Fin 16)
  /-- R514: A raw window write in test mode writes unencoded page bytes. -/
  | rawWindowWrite (i : Fin 512) (v : BitVec 32) (src : Src)
  /-- R521: A leave request is granted, queued or refused at once. -/
  | leaveRequest (op : Fin 9) (unit : Fin 16) (steps : Nat)
  /-- R522: The queue head is re-evaluated after a change and granted or refused. -/
  | leaveGrantQueued
  /-- R523: A leave ends on completion, failure or withdrawal and any standing cost joins. -/
  | leaveEnd (op : Fin 9) (unit : Fin 16) (completed : Bool)
  /-- R523: A leave held beyond twice its catalogued duration raises LEAVE_OVERRUN. -/
  | leaveOverrun (op : Fin 9) (unit : Fin 16)
  /-- R518: A write of BUDGET takes effect at once. -/
  | budgetWrite (mw : BitVec 32) (src : Src)
  /-- R519: A write of STANDING_BASE changes the standing load. -/
  | standingBaseWrite (mw : BitVec 32) (src : Src)
  /-- R525: Each PMBus period the rails are read and the governor adjusts GOV. -/
  | govPeriod (readings : List (Option Nat))
  /-- R529: Every 1 ms AVS reads the slack and adjusts VDD_CORE. -/
  | avsEval (slack : Nat) (ulinear16 : Bool) (commandOk : Bool)
  /-- R531: A droop detector trips, starting or extending a droop shed. -/
  | droopTrip (detector : Fin 6) (fall : Nat)
  /-- R531: SHED_US after the last trip the shed ends and paused work resumes. -/
  | droopShedEnd
  /-- R532: During a shed the cores gate or run as the sliding 1 ms gating budget allows. -/
  | coreGateWindow
  /-- R533: THM reads every sensor and applies the thresholds of Table 17-5. -/
  | thmSample (temps : List Int)
  /-- R545: The scan timer ticks and triggers the scan sequence. -/
  | scanTimerTick
  /-- R545: CMD.SCAN_START triggers the scan sequence. -/
  | scanStart (src : Src)
  /-- R546: A droop, guard or pin trigger starts, queues or overruns the tip-in sequence. -/
  | tipInTrigger (droop : Bool) (guard : Bool) (pin : Bool)
  /-- R542: An entry keeps its result and the sequence moves on, resumes or completes. -/
  | hkaEntryDone (v : Int) (peak : Nat)
  /-- R548: CMD.SCAN_STOP ends the scan sequence and clears a pending trigger. -/
  | scanStop (src : Src)
  /-- R549: CMD.CAL starts a self-calibration. -/
  | hkaCal (src : Src)
  /-- R549: A self-calibration ends and sets or keeps the factors. -/
  | hkaCalDone (zeroSum : Int) (refSum : Int)
  /-- R552: An enabled source fires, setting its sticky bit and capture and acting by class. -/
  | eventFire (page : Fin 128) (index : Fin 128)
  /-- R556: A grace timer reaches GRACE_MS and the block takes its next ladder step. -/
  | graceExpiry (page : Fin 128)
  /-- R562: QUIET_S passes and the block leaves FAULT. -/
  | quietExpiry (page : Fin 128)
  /-- R555: A write of FLT.ACK clears the named source's sticky bit. -/
  | fltAck (page : Fin 128) (index : Fin 128) (src : Src)
  /-- R555: A W1C write of EVT_STICKY acknowledges sources and may clear the capture. -/
  | evtStickyClear (page : Fin 128) (w : Fin 4) (bits : BitVec 32) (src : Src)
  /-- R555: A change of class starts or stops the grace timer and ALARM_N for set bits. -/
  | evtClassWrite (page : Fin 128) (w : Fin 8) (value : BitVec 32) (src : Src)
  /-- R556: A write of GRACE_MS takes effect at once for a running timer. -/
  | graceMsWrite (page : Fin 128) (ms : BitVec 14) (src : Src)
  /-- R562: A write of QUIET_S takes effect at once for the running quiet period. -/
  | quietSWrite (page : Fin 128) (seconds : BitVec 12) (src : Src)
  /-- R563: A write of FORCE_ALARM drives or releases ALARM_N. -/
  | forceAlarmWrite (on : Bool) (src : Src)
  /-- R568: A 64-byte NV commit completes and the transaction advances or seals. -/
  | nvCommitDone (readBack : Bool) (wear : Fin 101)
  /-- R570: The NV scrubber reads the store, rewriting corrected blocks. -/
  | nvScrubPass (corrected : Nat) (twice : Bool) (slots : List (Fin 512)) (user : Bool) (others : Nat)
  /-- R572: ATTEST_CMD.START builds a signed attestation report. -/
  | attestStart (src : Src)
  /-- R572: The attestation report appears in the window. -/
  | attestComplete (signed : Bool) (loader firmware user : BitVec 256) (signature : BitVec 512)
  /-- R573: AUTH_CMD ADD commits a staged authority key. -/
  | authAdd (index : Fin 8) (src : Src)
  /-- R573: AUTH_CMD REMOVE invalidates an authority entry. -/
  | authRemove (index : Fin 8) (src : Src)
  /-- R575: PEER_CMD ADD commits a peer entry. -/
  | peerAdd (index : Fin 64) (src : Src)
  /-- R575: PEER_CMD REMOVE invalidates a peer entry. -/
  | peerRemove (index : Fin 64) (src : Src)
  /-- R577: KS_CMD LOAD_KEK requests leave to replace the KEK. -/
  | ksLoadKek (ty : Bool) (src : Src)
  /-- R577: KS_CMD IMPORT requests leave to unwrap a key into a slot. -/
  | ksImport (slot : Fin 512) (ty : Bool) (src : Src)
  /-- R577: KS_CMD CLEAR requests leave to empty a slot. -/
  | ksClear (slot : Fin 512) (src : Src)
  /-- R578: A key-store operation completes, sets RESULT and zeroes the input buffer. -/
  | ksOperationDone (lengthOk verified : Bool)
  /-- R580: The random source fails a health test. -/
  | rngFail
  /-- R581: A guard sensor trips and applies its LOG, LOCK or ERASE policy. -/
  | guardTrip (sensors : BitVec 8)
  /-- R582: A write of GUARD_POLICY sets policies or the W1S policy lock. -/
  | guardPolicyWrite (policy : BitVec 32) (src : Src)
  /-- R583: GUARD_CMD.SELFTEST stimulates every sensor. -/
  | guardSelftest (src : Src)
  /-- R583: The guard self-test finishes and faulted sensors apply their action. -/
  | guardSelftestComplete (faults : BitVec 8)
  /-- R584: A W1S write sets DEBUG.LOCKED until power-up. -/
  | debugLockSet (src : Src)
  /-- R585: DEBUG_CMD OPEN requests leave and erases secrets before opening debug. -/
  | debugOpen (key : BitVec 16) (src : Src)
  /-- R586: FR_CMD CHALLENGE builds a field-return challenge record. -/
  | frChallenge (mode : Fin 4) (src : Src)
  /-- R586: FR_CMD ENTER verifies the signature and enters FIELD_RETURN via device safe state. -/
  | frEnter (mode : Fin 4) (sigOk : Bool) (src : Src)
  /-- R587: A TAP instruction is loaded, possibly entering safe state or tripping sensor 7. -/
  | tapInstruction (ins : TapInstr)
  /-- R591: The service cores are checkpointed and halted, and the new image is started. -/
  | fwQuiesceDone
  /-- R591: The new firmware reports running and the home region is written. -/
  | fwRunningReport (version : BitVec 16)
  /-- R593: The new firmware does not report running by t_h + 2 s and the previous image restarts. -/
  | fwReplaceTimeout
  /-- R594: A core's watchdog expires and the core or cores restart or halt. -/
  | coreWatchdog (core : Fin 8)
  /-- R595: USER_EN = 1 re-verifies the user image and starts the user cores. -/
  | userEnable (src : Src)
  /-- R595: USER_EN = 0 halts the user cores. -/
  | userDisable (src : Src)
  /-- R595: User image verification ends, leaving the user cores RUNNING or FAILED. -/
  | userVerifyDone (good : Bool)
  /-- R602: CMD.CLEAR zeroes the counters of one or all cores. -/
  | pmuClear (core : Fin 8) (all : Bool) (src : Src)
  /-- R602: A write of FREEZE_ALL stops or restarts every counter. -/
  | freezeAllWrite (on : Bool) (src : Src)
  /-- R601: A counter reaches SAMPLE_PERIOD events and a sample is taken. -/
  | pmuSample (core : Fin 8) (counters : BitVec 8) (pc : BitVec 64)
  /-- R610: The sweep period elapses and leave for a repair sweep is requested. -/
  | sweepPeriod
  /-- R610: CMD.SWEEP_NOW requests leave for a repair sweep. -/
  | sweepNow (src : Src)
  /-- R610: A sweep class completes or stops and its map entries are sealed. -/
  | sweepClassDone (hits : List SweepHit) (untested : Nat) (losses : List (BitVec 16))
  /-- R613: CMD.MEM_BIST starts memory BIST on a mapped-out or failed channel. -/
  | memBist (channel : Fin 16) (src : Src)
  /-- R613: Memory BIST ends and clears the channel's FAILED state on a pass. -/
  | memBistDone (pass : Bool)
  /-- R609: CMD.CLEAR marks a RETIRED repair entry CLEARED. -/
  | repairEntryClear (entry : Fin 2048) (src : Src)
  /-- R442: A fabric lane in TRAIN detects signal and locks its CDR, starting the 20 ms training count and its CTLE sweep. -/
  | fabricLaneCdrLock (k : Fin 8) (l : Fin 4)
  /-- R228: At the hub, a dedicated leaf's subcarrier has been out of TRACK for LOSS_N ms, so its entry goes to LOST and DEREGISTER is queued. -/
  | dedicatedLossTimeout (n : Fin 2) (leaf : Fin 32)
  /-- R403: A client quad PLL loses lock after boot, raising the URGENT PLL_UNLOCK source of CLNq. -/
  | quadPllUnlock (q : Fin 8)
  /-- R604: A fatal trap halts a control core and raises CORE_EXCEPTION for that core. -/
  | coreException (core : Fin 8)
  /-- R506: An access class has made no progress for 10 ms, so it is guaranteed 1 access slot in 64 on the channel, and SCRUB_STARVED is raised for the scrubber. -/
  | scrubStarved (scrubber : Bool)
  deriving DecidableEq, Repr

end Sys2Proof
end

