-- ==== Sys2Proof/Decode.lean ====
section
/-!
DEFINITION. The commands that a word spells. The command table gives none of its rows bits: a command comes from a frame on the
management port, from a core, from a pin or from the block's own engines, and no word stands for one.
-/
namespace Sys2Proof

/-- The command that `w` spells over the bits that the table numbers: none, since the table numbers no bits. -/
def decodeTableWord (_nbits _w : Nat) : Option Instr := none

end Sys2Proof
end

