-- ==== Sys2Proof/Config.lean ====
section
/-!
DEFINITION. What the spec leaves open as a value: an uninterpreted sequence that the model draws on where an operation
runs but the spec states no value for one of its results. Nothing here can be evaluated.
-/
namespace Sys2Proof.Config

/-- The n-th free value. -/
opaque freeNat : Nat → Nat

/-- Parity bit `i` of an LDPC codeword of a profile, from its information bits: the spec shows the base matrices only in
a window and gives no entry of them (R247, R269). -/
opaque ldpcParity : Nat → List Bool → Nat → Bool

/-- ΔM of a profile at a cap below 6, which Table 8-5 does not give. -/
opaque marginBelow6 : Nat → Nat → Nat

/-- Byte `i` of the trace that carrier `n` transmits: the spec gives no register that holds it (R298). -/
opaque txTrace : Nat → Nat → Nat

/-- A word that a window shows and the spec gives no value of: the amplitude compositions (R191), the FEC base matrices (R269)
and the columns of the light code (R516). -/
opaque shownWord : Nat → Nat

/-- What a byte of GDDR7 holds that nothing has written since power-on (R505). -/
opaque unwritten : Nat → Nat

/-- The 8-way set of the lookup cache that a key falls in (R398). -/
opaque cacheSet : Nat → Nat

/-- The place of an SSM code with a non-zero enhanced code in the order of an option (0 option 1, 1 option 2, 2 G.8262.1;
smaller is better): the spec names G.8264 for it and gives no order (R485). -/
opaque enhancedRank : Nat → Nat → Nat

/-- The code of QL-eEEC in SLOT_CFG.QL's layout, which the spec takes from G.8264 and does not give (R487). -/
opaque qlEeec : Nat

/-- Byte `i` of the HMAC-SM3 of bytes under a session key, which the spec takes from its standards (R89). -/
opaque hmac : Nat → List Nat → Nat → Nat

/-- The session key of an SM2 key exchange, from the host's ephemeral key, the part's and the nonce (R94). -/
opaque sessionKey : Nat → Nat → Nat → Nat

/-- A signature by the colophon device key over what it signs (R94). -/
opaque deviceSign : List Nat → Nat

/-- The estimate of the milliseconds that a FILL of so many words still takes (R98). -/
opaque fillMs : Nat → Nat

/-- Byte `i` of the payload of the cell with a SEQ from a part to a part: the model does not carry the bytes of frames (R449). -/
opaque frameByte : Nat → Nat → Nat → Nat → Nat

/-- Byte `i` of cell `j` of a topology record's payload, from the part, its record sequence: the spec gives no layout (R456). -/
opaque topoByte : Nat → Nat → Nat → Nat → Nat

/-- Bit `j` of the k-th 257-bit block of the client on a port (R389). -/
opaque clientBit : Nat → Nat → Nat → Bool

/-- Byte `i` of a unit's ciphertext, and of its plaintext, as the cipher gives it: the spec takes the suites from their standards
(R352). -/
opaque cipherByte : Nat → Nat → Nat
opaque plainByte : Nat → Nat → Nat

/-- Byte `i` of what a key agreement message holds of keys, nonces, confirmations and signatures (R376). -/
opaque agreeByte : Nat → Nat → Nat

/-! ### Real functions of the datapath: their values are no rational numbers, and the spec gives no working precision -/

/-- Cosine and sine of an angle in turns. -/
opaque cis : Rat → Cx

/-- Argument of a complex number in turns, above −1/2 and up to 1/2. -/
opaque arg : Cx → Rat

/-- Square root, natural logarithm, exponential and logarithm to base 10. -/
opaque sqrt : Rat → Rat
opaque ln : Rat → Rat
opaque exp : Rat → Rat
opaque log10 : Rat → Rat

/-- 10 to a power. -/
opaque pow10 : Rat → Rat

/-- Arc cosine in units of 1 radian. -/
opaque acos : Rat → Rat

/-! ### Stages of the datapath that the spec names and gives no formula of -/

/-- The front end: DC removal, the deskew of the four ADCs in units of 0.2 ps, orthogonalisation (R135, R139). -/
opaque frontEnd : List Int → List (List Nat) → List Dual

/-- Compensation of a dispersion in units of 10 ps/nm at an optical frequency in units of 0.1 GHz (R135, R140, R202). -/
opaque cdFilter : Int → Nat → List Dual → List Dual

/-- Subcarrier `s` of `k` at a centre in GHz, by the channeliser (R135). -/
opaque channel : Nat → Nat → Rat → List Dual → List Dual

/-- Resampling to 2 samples a symbol at a rate in GBd and a relative offset (R135, R153). -/
opaque resample : Rat → Rat → List Dual → List Dual

/-- The modified Gardner detector's change of the relative rate at a loop bandwidth in MHz, and the timing error of a block in
UI (R153). -/
opaque gardner : Nat → List Dual → Rat
opaque timingErr : List Dual → Rat

/-- The radius of the constant-modulus error for a format and entropy (Table 5-3). -/
opaque cmRadius : Nat → Nat → Rat

/-- LLRs of the coded bits of a block of 64 PCS-64QAM symbols from the composition, the noise variance and the symbols, with
Maxwell–Boltzmann priors at an entropy (R138, R191). -/
opaque demapPcs : Nat → List Nat → Rat → List Cx → List Rat

/-- The four counts of the composition for E where the window's word, whose value the spec does not give, holds none that meets
R191. -/
opaque composition : Nat → List Nat

/-- The root-raised-cosine shaping of a subcarrier at 2 samples a symbol, by roll-off in 1/1000 (R193). -/
opaque rrc : Nat → List Cx → List Cx

/-- A subcarrier's samples at 2 samples a symbol of B/K, brought to 2 samples a symbol of B (R183). -/
opaque upsample : Nat → List Cx → List Cx

/-- Resampling from a symbol rate in units of 0.5 GBd to 360 GS/s (R24, R183). -/
opaque toDac : Nat → List Dual → List Dual

/-- A launch delay in units of 0.2 ps (R203). -/
opaque delay : Int → List Rat → List Rat

/-- The power spectrum of an FIR output at 1,024 bins over the sampled band, averaged over a quire (R201). -/
opaque spectrum : List Dual → Nat → Rat

/-! ### Choices that the spec leaves to the part -/

/-- Of the two bits of a dimension's 4-PAM Gray label: whether the first tells the sign, whether 0 is the positive sign, whether 0
is the outer amplitude (R190, R249). -/
opaque gray16 : Bool × Bool × Bool

/-- Whether the data sign bit 0 is the positive sign (R191). -/
opaque signPlus : Bool

/-- The hard decision of an LLR of 0, and 0.75 times a magnitude in steps of 0.5, in the same steps (R251, R252). -/
opaque zeroBit : Bool
opaque norm75 : Nat → Nat

end Sys2Proof.Config
end

