-- ==== Sys2Proof/Machine/Regs.lean ====
section
/-!
DEFINITION. The register map: for every block kind the pages, the register offsets, the named fields and the
access classes of every register (Tables 3-1, 3-2, 3-3 and the page and field tables of chapters 2 to 22), and
the on-die table windows (chapter 3.5 and the window layouts of the block chapters).
An entry of a `regs` list gives offset, count, stride, reset value, and the masks of the RW, WO, W1C, W1S and RC
bits; `cfg` marks the bits written in OFF or CONFIG only (R70); `w64` is 1 on the low and 2 on the high word of a
64-bit register (R77).
-/
namespace Sys2Proof.Machine

/-- A field of a register: byte offset from its base, lowest bit, width. -/
structure Fld where
  off : Nat
  lo : Nat
  width : Nat
  deriving DecidableEq, Repr

/-- One register, or an array of like registers, of a page (R7, R70, R77). -/
structure RegSpec where
  off : Nat
  count : Nat
  stride : Nat
  reset : Nat
  rw : Nat
  wo : Nat
  w1c : Nat
  w1s : Nat
  rc : Nat
  cfg : Nat
  w64 : Nat
  deriving DecidableEq, Repr

/-- The block kinds of Table 3-1. -/
inductive Kind where
  | SYS | RAP | PWR | THM | HKA | FLT | SEC | CLK | TIM | CPU | NVS | RPR | CNV | CAL | RXD | TXD | SUB | FEC | FRM | GTH | CRY | OSP | PMB | CLN | MAC | CLS | QMG | MTR | SHP | FBL | FBR | MEM | ECC
  deriving DecidableEq, Repr

/-! ### The common page header (Tables 3-2, 3-3, 19-3) -/

def HDR.BLK_ID : Nat := 0x0
def HDR.BLK_CAP : Nat := 0x4
def HDR.BLK_CTRL : Nat := 0x8
def HDR.BLK_STATE : Nat := 0xc
def HDR.EVT_FIRST : Nat := 0x50
def HDR.EVT_FIRST_TIME : Nat := 0x54
def HDR.FLT_RECOVERIES : Nat := 0x5c
def HDR.REJECT_LAST : Nat := 0x60
def HDR.GRACE_CTRL : Nat := 0x64
def HDR.QUIET_CTRL : Nat := 0x68
def HDR.EVT_STICKY (w : Nat) : Nat := 0x10 + 4 * w
def HDR.EVT_ENABLE (w : Nat) : Nat := 0x20 + 4 * w
def HDR.EVT_CLASS (w : Nat) : Nat := 0x30 + 4 * w
def HDR.ENABLE : Fld := ⟨0x8, 0, 1⟩
def HDR.SOFT_RESET : Fld := ⟨0x8, 1, 1⟩
def HDR.STATE_REQ : Fld := ⟨0x8, 8, 3⟩
def HDR.STATE : Fld := ⟨0xc, 0, 3⟩
def HDR.BUSY : Fld := ⟨0xc, 3, 1⟩
def HDR.FIRST_INDEX : Fld := ⟨0x50, 0, 7⟩
def HDR.FIRST_CLASS : Fld := ⟨0x50, 8, 2⟩
def HDR.FIRST_VALID : Fld := ⟨0x50, 16, 1⟩
def HDR.FIRST_OVERFLOW : Fld := ⟨0x50, 17, 1⟩
def HDR.RECOVERIES : Fld := ⟨0x5c, 0, 16⟩
def HDR.REJ_OFFSET : Fld := ⟨0x60, 0, 12⟩
def HDR.REJ_REASON : Fld := ⟨0x60, 16, 4⟩
def HDR.REJ_SOURCE : Fld := ⟨0x60, 20, 4⟩
def HDR.REJ_WINDOW : Fld := ⟨0x60, 24, 1⟩
def HDR.GRACE_MS : Fld := ⟨0x64, 0, 14⟩
def HDR.URG_STEP : Fld := ⟨0x64, 16, 3⟩
def HDR.MAX_STEP : Fld := ⟨0x64, 20, 3⟩
def HDR.GRACE_RUNNING : Fld := ⟨0x64, 24, 1⟩
def HDR.STEP : Fld := ⟨0x64, 25, 3⟩
def HDR.QUIET_S : Fld := ⟨0x68, 0, 12⟩
def HDR.QUIET_LEFT : Fld := ⟨0x68, 16, 12⟩

/-- The header registers with the access classes of Tables 3-2, 3-3 and 19-3; EVT_ENABLE and EVT_CLASS take
their reset values and their used bits from the event tables, and BLK_ID, BLK_STATE and BLK_CTRL from the page. -/
def HDR.regs : List RegSpec :=
  [ ⟨0x00, 2, 4, 0, 0, 0, 0, 0, 0, 0, 0⟩, ⟨0x08, 1, 4, 1, 1, 0x702, 0, 0, 0, 0, 0⟩, ⟨0x0C, 1, 4, 1, 0, 0, 0, 0, 0, 0, 0⟩,
    ⟨0x10, 4, 4, 0, 0, 0, 0xFFFFFFFF, 0, 0, 0, 0⟩, ⟨0x20, 4, 4, 0, 0xFFFFFFFF, 0, 0, 0, 0, 0, 0⟩,
    ⟨0x30, 8, 4, 0, 0xFFFFFFFF, 0, 0, 0, 0, 0, 0⟩, ⟨0x50, 1, 4, 0, 0, 0, 0, 0, 0, 0, 0⟩,
    ⟨0x54, 1, 4, 0, 0, 0, 0, 0, 0, 0, 1⟩, ⟨0x58, 1, 4, 0, 0, 0, 0, 0, 0, 0, 2⟩, ⟨0x5C, 2, 4, 0, 0, 0, 0, 0, 0, 0, 0⟩,
    ⟨0x64, 1, 4, 0x003103E8, 0x00773FFF, 0, 0, 0, 0, 0, 0⟩, ⟨0x68, 1, 4, 0x3C, 0x0FFF, 0, 0, 0, 0, 0, 0⟩,
    ⟨0x6C, 37, 4, 0, 0, 0, 0, 0, 0, 0, 0⟩ ]

/-! ### SYS -/

/-- First address of page SYS (Table 3-1). -/
def SYS.page : Nat := 0x0
def SYS.SYS_STATE : Nat := 0x100
def SYS.SYS_STATE_STAGE : Fld := ⟨0x100, 0, 4⟩
def SYS.SYS_STATE_READY : Fld := ⟨0x100, 4, 1⟩
def SYS.STRAP_LATCH : Nat := 0x104
def SYS.STRAP_LATCH_STRAPS : Fld := ⟨0x104, 0, 16⟩
def SYS.BOOT_STATUS : Nat := 0x108
def SYS.BOOT_STATUS_SOURCE : Fld := ⟨0x108, 0, 2⟩
def SYS.BOOT_STATUS_LOADER_COPY : Fld := ⟨0x108, 2, 1⟩
def SYS.BOOT_STATUS_RES_FAIL : Fld := ⟨0x108, 3, 1⟩
def SYS.BOOT_STATUS_PUSH_FAIL : Fld := ⟨0x108, 4, 1⟩
def SYS.BOOT_STATUS_REPAIR_REBUILT : Fld := ⟨0x108, 5, 1⟩
def SYS.BOOT_TIME : Nat := 0x10c
def SYS.BOOT_TIME_READY_US : Fld := ⟨0x10c, 0, 20⟩
def SYS.RESET_CAUSE : Nat := 0x110
def SYS.RESET_CAUSE_POR : Fld := ⟨0x110, 0, 1⟩
def SYS.RESET_CAUSE_PIN : Fld := ⟨0x110, 1, 1⟩
def SYS.RESET_CAUSE_WARM : Fld := ⟨0x110, 2, 1⟩
def SYS.RESET_CTRL : Nat := 0x114
def SYS.RESET_CTRL_WARM : Fld := ⟨0x114, 0, 1⟩
def SYS.RESET_CTRL_KEY : Fld := ⟨0x114, 16, 16⟩
def SYS.FABRIC_CTRL : Nat := 0x118
def SYS.FABRIC_CTRL_OPEN : Fld := ⟨0x118, 0, 1⟩
def SYS.FABRIC_CTRL_AUTO_OPEN : Fld := ⟨0x118, 1, 1⟩
def SYS.CARRIER_CTRL : Nat := 0x11c
def SYS.CARRIER_CTRL_UP0 : Fld := ⟨0x11c, 0, 1⟩
def SYS.CARRIER_CTRL_UP1 : Fld := ⟨0x11c, 1, 1⟩
def SYS.CARRIER_STATUS : Nat := 0x120
def SYS.CARRIER_STATUS_STATE0 : Fld := ⟨0x120, 0, 3⟩
def SYS.CARRIER_STATUS_CAUSE0 : Fld := ⟨0x120, 4, 3⟩
def SYS.CARRIER_STATUS_STATE1 : Fld := ⟨0x120, 8, 3⟩
def SYS.CARRIER_STATUS_CAUSE1 : Fld := ⟨0x120, 12, 3⟩
def SYS.RAP_EARLY_DROPS : Nat := 0x124
def SYS.RAP_EARLY_DROPS_COUNT : Fld := ⟨0x124, 0, 32⟩
/-- The block-specific registers of SYS. -/
def SYS.regs : List RegSpec :=
  [ ⟨0x100, 1, 0x4, 0x0, 0x0, 0x0, 0x0, 0x0, 0x0, 0x0, 0⟩,
    ⟨0x104, 1, 0x4, 0x0, 0x0, 0x0, 0x0, 0x0, 0x0, 0x0, 0⟩,
    ⟨0x108, 1, 0x4, 0x0, 0x0, 0x0, 0x0, 0x0, 0x0, 0x0, 0⟩,
    ⟨0x10c, 1, 0x4, 0x0, 0x0, 0x0, 0x0, 0x0, 0x0, 0x0, 0⟩,
    ⟨0x110, 1, 0x4, 0x0, 0x0, 0x0, 0x7, 0x0, 0x0, 0x0, 0⟩,
    ⟨0x114, 1, 0x4, 0x0, 0x0, 0xffff0001, 0x0, 0x0, 0x0, 0x0, 0⟩,
    ⟨0x118, 1, 0x4, 0x0, 0x3, 0x0, 0x0, 0x0, 0x0, 0x0, 0⟩,
    ⟨0x11c, 1, 0x4, 0x0, 0x3, 0x0, 0x0, 0x0, 0x0, 0x0, 0⟩,
    ⟨0x120, 1, 0x4, 0x0, 0x0, 0x0, 0x0, 0x0, 0x0, 0x0, 0⟩,
    ⟨0x124, 1, 0x4, 0x0, 0x0, 0x0, 0x0, 0x0, 0xffffffff, 0x0, 0⟩ ]

/-! ### RAP -/

/-- First address of page RAP (Table 3-1). -/
def RAP.page : Nat := 0x1000
def RAP.ENCAP : Nat := 0x100
def RAP.ENCAP_MODE : Fld := ⟨0x100, 0, 1⟩
def RAP.UDP_PORT : Nat := 0x104
def RAP.UDP_PORT_PORT : Fld := ⟨0x104, 0, 16⟩
def RAP.IPV6_ADDR (i : Nat) : Nat := 0x108 + 4 * i
def RAP.IPV6_CFG : Nat := 0x118
def RAP.IPV6_CFG_PREFIX_LEN : Fld := ⟨0x118, 0, 8⟩
def RAP.IPV6_CFG_GLOBAL_EN : Fld := ⟨0x118, 8, 1⟩
def RAP.SESSION_STATUS : Nat := 0x11c
def RAP.SESSION_STATUS_OPEN : Fld := ⟨0x11c, 0, 8⟩
def RAP.OUTSTANDING : Nat := 0x120
def RAP.OUTSTANDING_COUNT : Fld := ⟨0x120, 0, 7⟩
def RAP.EVT_RATE : Nat := 0x124
def RAP.EVT_RATE_RATE : Fld := ⟨0x124, 0, 14⟩
def RAP.EVT_RATE_DEPTH : Fld := ⟨0x124, 16, 8⟩
def RAP.IDLE_TIMEOUT : Nat := 0x128
def RAP.IDLE_TIMEOUT_SECONDS : Fld := ⟨0x128, 0, 10⟩
def RAP.VERSION_RANGE : Nat := 0x12c
def RAP.VERSION_RANGE_MIN : Fld := ⟨0x12c, 0, 8⟩
def RAP.VERSION_RANGE_MAX : Fld := ⟨0x12c, 8, 8⟩
def RAP.AUTH_FAILS : Nat := 0x130
def RAP.REPLAY_DROPS : Nat := 0x134
def RAP.PARSE_DROPS : Nat := 0x138
def RAP.RX_FRAMES : Nat := 0x13c
def RAP.TX_FRAMES : Nat := 0x144
/-- The block-specific registers of RAP. -/
def RAP.regs : List RegSpec :=
  [ ⟨0x100, 1, 0x4, 0x0, 0x1, 0x0, 0x0, 0x0, 0x0, 0x0, 0⟩,
    ⟨0x104, 1, 0x4, 0x88b5, 0xffff, 0x0, 0x0, 0x0, 0x0, 0x0, 0⟩,
    ⟨0x108, 4, 0x4, 0x0, 0xffffffff, 0x0, 0x0, 0x0, 0x0, 0x0, 0⟩,
    ⟨0x118, 1, 0x4, 0x40, 0x1ff, 0x0, 0x0, 0x0, 0x0, 0x0, 0⟩,
    ⟨0x11c, 1, 0x4, 0x0, 0x0, 0x0, 0x0, 0x0, 0x0, 0x0, 0⟩,
    ⟨0x120, 1, 0x4, 0x0, 0x0, 0x0, 0x0, 0x0, 0x0, 0x0, 0⟩,
    ⟨0x124, 1, 0x4, 0x4003e8, 0xff3fff, 0x0, 0x0, 0x0, 0x0, 0x0, 0⟩,
    ⟨0x128, 1, 0x4, 0x3c, 0x3ff, 0x0, 0x0, 0x0, 0x0, 0x0, 0⟩,
    ⟨0x12c, 1, 0x4, 0x2110, 0x0, 0x0, 0x0, 0x0, 0x0, 0x0, 0⟩,
    ⟨0x130, 1, 0x4, 0x0, 0x0, 0x0, 0x0, 0x0, 0xffffffff, 0x0, 0⟩,
    ⟨0x134, 1, 0x4, 0x0, 0x0, 0x0, 0x0, 0x0, 0xffffffff, 0x0, 0⟩,
    ⟨0x138, 1, 0x4, 0x0, 0x0, 0x0, 0x0, 0x0, 0xffffffff, 0x0, 0⟩ ] ++
  [ ⟨0x13c, 1, 0x4, 0x0, 0x0, 0x0, 0x0, 0x0, 0x0, 0x0, 1⟩,
    ⟨0x140, 1, 0x4, 0x0, 0x0, 0x0, 0x0, 0x0, 0x0, 0x0, 2⟩,
    ⟨0x144, 1, 0x4, 0x0, 0x0, 0x0, 0x0, 0x0, 0x0, 0x0, 1⟩,
    ⟨0x148, 1, 0x4, 0x0, 0x0, 0x0, 0x0, 0x0, 0x0, 0x0, 2⟩ ]

/-! ### PWR -/

/-- First address of page PWR (Table 3-1). -/
def PWR.page : Nat := 0x2000
def PWR.BUDGET : Nat := 0x100
def PWR.BUDGET_MW : Fld := ⟨0x100, 0, 18⟩
def PWR.STANDING : Nat := 0x104
def PWR.STANDING_MW : Fld := ⟨0x104, 0, 18⟩
def PWR.STANDING_BASE : Nat := 0x108
def PWR.STANDING_BASE_MW : Fld := ⟨0x108, 0, 18⟩
def PWR.ACTIVE_LEAVE : Nat := 0x10c
def PWR.ACTIVE_LEAVE_MW : Fld := ⟨0x10c, 0, 18⟩
def PWR.MEASURED : Nat := 0x110
def PWR.MEASURED_MW : Fld := ⟨0x110, 0, 18⟩
def PWR.GOV_CFG : Nat := 0x114
def PWR.GOV_CFG_STEP_MW : Fld := ⟨0x114, 0, 16⟩
def PWR.GOV_CFG_HYST : Fld := ⟨0x114, 16, 16⟩
def PWR.GOV_STATUS : Nat := 0x118
def PWR.GOV_STATUS_GOV : Fld := ⟨0x118, 0, 5⟩
def PWR.GOV_STATUS_AT_FLOOR : Fld := ⟨0x118, 8, 1⟩
def PWR.LEAVE_STATUS : Nat := 0x11c
def PWR.LEAVE_STATUS_QUEUED : Fld := ⟨0x11c, 0, 5⟩
def PWR.LEAVE_STATUS_HEAD_OP : Fld := ⟨0x11c, 8, 4⟩
def PWR.LEAVE_STATUS_HEAD_VALID : Fld := ⟨0x11c, 12, 1⟩
def PWR.LEAVE_STATUS_LAST_OP : Fld := ⟨0x11c, 16, 4⟩
def PWR.LEAVE_STATUS_LAST_REASON : Fld := ⟨0x11c, 20, 2⟩
def PWR.GRANTS : Nat := 0x120
def PWR.REFUSALS : Nat := 0x124
def PWR.AVS_CFG : Nat := 0x128
def PWR.AVS_CFG_EN : Fld := ⟨0x128, 0, 1⟩
def PWR.AVS_CFG_SLACK_LOW : Fld := ⟨0x128, 8, 8⟩
def PWR.AVS_CFG_SLACK_HIGH : Fld := ⟨0x128, 16, 8⟩
def PWR.AVS_LIMITS : Nat := 0x12c
def PWR.AVS_LIMITS_VMIN : Fld := ⟨0x12c, 0, 10⟩
def PWR.AVS_LIMITS_VMAX : Fld := ⟨0x12c, 16, 10⟩
def PWR.AVS_STATUS : Nat := 0x130
def PWR.AVS_STATUS_VOUT : Fld := ⟨0x130, 0, 10⟩
def PWR.AVS_STATUS_SLACK : Fld := ⟨0x130, 16, 8⟩
def PWR.AVS_STATUS_AT_MAX : Fld := ⟨0x130, 24, 1⟩
def PWR.DROOP_CFG : Nat := 0x134
def PWR.DROOP_CFG_TH : Fld := ⟨0x134, 0, 4⟩
def PWR.DROOP_CFG_SHED_US : Fld := ⟨0x134, 8, 10⟩
def PWR.DROOP_CFG_STORM_N : Fld := ⟨0x134, 24, 8⟩
def PWR.DROOP_STATUS : Nat := 0x138
def PWR.DROOP_STATUS_SHED : Fld := ⟨0x138, 0, 1⟩
def PWR.DROOP_STATUS_CORES_GATED : Fld := ⟨0x138, 1, 1⟩
def PWR.DROOP_STATUS_LAST_RAILS : Fld := ⟨0x138, 8, 6⟩
def PWR.SHEDS : Nat := 0x13c
def PWR.PMBUS_CFG : Nat := 0x144
def PWR.PMBUS_CFG_SPEED : Fld := ⟨0x144, 0, 1⟩
def PWR.PMBUS_CFG_PERIOD_MS : Fld := ⟨0x144, 8, 8⟩
def PWR.PMBUS_ERRS : Nat := 0x148
def PWR.RAIL (i : Nat) : Nat := 0x180 + 4 * i
def PWR.RAIL_ADDR (i : Nat) : Fld := ⟨0x180 + 4 * i, 0, 7⟩
def PWR.RAIL_PAGE (i : Nat) : Fld := ⟨0x180 + 4 * i, 8, 8⟩
def PWR.RAIL_ROLE (i : Nat) : Fld := ⟨0x180 + 4 * i, 16, 2⟩
def PWR.RAIL_POWER (i : Nat) : Nat := 0x1c0 + 4 * i
def PWR.RAIL_POWER_MW (i : Nat) : Fld := ⟨0x1c0 + 4 * i, 0, 18⟩
def PWR.CAT (i : Nat) : Nat := 0x200 + 16 * i
def PWR.CAT_COST_MW (i : Nat) : Fld := ⟨0x200 + 16 * i, 0, 18⟩
def PWR.CAT_DURATION_MS (i : Nat) : Fld := ⟨0x200 + 16 * i + 4, 0, 16⟩
def PWR.CAT_STANDING_MW (i : Nat) : Fld := ⟨0x200 + 16 * i + 8, 0, 18⟩
/-- The block-specific registers of PWR. -/
def PWR.regs : List RegSpec :=
  [ ⟨0x100, 1, 0x4, 0x1d4c0, 0x3ffff, 0x0, 0x0, 0x0, 0x0, 0x0, 0⟩,
    ⟨0x104, 1, 0x4, 0x0, 0x0, 0x0, 0x0, 0x0, 0x0, 0x0, 0⟩,
    ⟨0x108, 1, 0x4, 0x0, 0x3ffff, 0x0, 0x0, 0x0, 0x0, 0x0, 0⟩,
    ⟨0x10c, 1, 0x4, 0x0, 0x0, 0x0, 0x0, 0x0, 0x0, 0x0, 0⟩,
    ⟨0x110, 1, 0x4, 0x0, 0x0, 0x0, 0x0, 0x0, 0x0, 0x0, 0⟩,
    ⟨0x114, 1, 0x4, 0xbb805dc, 0xffffffff, 0x0, 0x0, 0x0, 0x0, 0x0, 0⟩,
    ⟨0x118, 1, 0x4, 0x18, 0x0, 0x0, 0x0, 0x0, 0x0, 0x0, 0⟩,
    ⟨0x11c, 1, 0x4, 0x0, 0x0, 0x0, 0x0, 0x0, 0x0, 0x0, 0⟩,
    ⟨0x120, 1, 0x4, 0x0, 0x0, 0x0, 0x0, 0x0, 0xffffffff, 0x0, 0⟩,
    ⟨0x124, 1, 0x4, 0x0, 0x0, 0x0, 0x0, 0x0, 0xffffffff, 0x0, 0⟩,
    ⟨0x128, 1, 0x4, 0x140801, 0xffff01, 0x0, 0x0, 0x0, 0x0, 0x0, 0⟩,
    ⟨0x12c, 1, 0x4, 0x30c028a, 0x3ff03ff, 0x0, 0x0, 0x0, 0x0, 0x0, 0⟩ ] ++
  [ ⟨0x130, 1, 0x4, 0x0, 0x0, 0x0, 0x0, 0x0, 0x0, 0x0, 0⟩,
    ⟨0x134, 1, 0x4, 0x64000a06, 0xff03ff0f, 0x0, 0x0, 0x0, 0x0, 0x0, 0⟩,
    ⟨0x138, 1, 0x4, 0x0, 0x0, 0x0, 0x0, 0x0, 0x0, 0x0, 0⟩,
    ⟨0x13c, 1, 0x4, 0x0, 0x0, 0x0, 0x0, 0x0, 0x0, 0x0, 1⟩,
    ⟨0x140, 1, 0x4, 0x0, 0x0, 0x0, 0x0, 0x0, 0x0, 0x0, 2⟩,
    ⟨0x144, 1, 0x4, 0xa00, 0xff01, 0x0, 0x0, 0x0, 0x0, 0x0, 0⟩,
    ⟨0x148, 1, 0x4, 0x0, 0x0, 0x0, 0x0, 0x0, 0xffffffff, 0x0, 0⟩,
    ⟨0x180, 16, 0x4, 0x0, 0x3ff7f, 0x0, 0x0, 0x0, 0x0, 0x0, 0⟩,
    ⟨0x1c0, 16, 0x4, 0x0, 0x0, 0x0, 0x0, 0x0, 0x0, 0x0, 0⟩,
    ⟨0x200, 1, 0x4, 0x11170, 0x0, 0x0, 0x0, 0x0, 0x0, 0x0, 0⟩,
    ⟨0x204, 1, 0x4, 0xc8, 0x0, 0x0, 0x0, 0x0, 0x0, 0x0, 0⟩,
    ⟨0x208, 1, 0x4, 0xbb80, 0x0, 0x0, 0x0, 0x0, 0x0, 0x0, 0⟩ ] ++
  [ ⟨0x20c, 1, 0x4, 0x0, 0x0, 0x0, 0x0, 0x0, 0x0, 0x0, 0⟩,
    ⟨0x210, 1, 0x4, 0x2ee0, 0x0, 0x0, 0x0, 0x0, 0x0, 0x0, 0⟩,
    ⟨0x214, 1, 0x4, 0x28, 0x0, 0x0, 0x0, 0x0, 0x0, 0x0, 0⟩,
    ⟨0x218, 1, 0x4, 0x0, 0x0, 0x0, 0x0, 0x0, 0x0, 0x0, 0⟩,
    ⟨0x21c, 1, 0x4, 0x0, 0x0, 0x0, 0x0, 0x0, 0x0, 0x0, 0⟩,
    ⟨0x220, 1, 0x4, 0x320, 0x0, 0x0, 0x0, 0x0, 0x0, 0x0, 0⟩,
    ⟨0x224, 1, 0x4, 0x1, 0x0, 0x0, 0x0, 0x0, 0x0, 0x0, 0⟩,
    ⟨0x228, 1, 0x4, 0x320, 0x0, 0x0, 0x0, 0x0, 0x0, 0x0, 0⟩,
    ⟨0x22c, 1, 0x4, 0x0, 0x0, 0x0, 0x0, 0x0, 0x0, 0x0, 0⟩,
    ⟨0x230, 1, 0x4, 0x1f40, 0x0, 0x0, 0x0, 0x0, 0x0, 0x0, 0⟩,
    ⟨0x234, 1, 0x4, 0x2bc, 0x0, 0x0, 0x0, 0x0, 0x0, 0x0, 0⟩,
    ⟨0x238, 1, 0x4, 0x0, 0x0, 0x0, 0x0, 0x0, 0x0, 0x0, 0⟩ ] ++
  [ ⟨0x23c, 1, 0x4, 0x0, 0x0, 0x0, 0x0, 0x0, 0x0, 0x0, 0⟩,
    ⟨0x240, 1, 0x4, 0xfa0, 0x0, 0x0, 0x0, 0x0, 0x0, 0x0, 0⟩,
    ⟨0x244, 1, 0x4, 0x0, 0x0, 0x0, 0x0, 0x0, 0x0, 0x0, 0⟩,
    ⟨0x248, 1, 0x4, 0x0, 0x0, 0x0, 0x0, 0x0, 0x0, 0x0, 0⟩,
    ⟨0x24c, 1, 0x4, 0x0, 0x0, 0x0, 0x0, 0x0, 0x0, 0x0, 0⟩,
    ⟨0x250, 1, 0x4, 0x1770, 0x0, 0x0, 0x0, 0x0, 0x0, 0x0, 0⟩,
    ⟨0x254, 1, 0x4, 0x64, 0x0, 0x0, 0x0, 0x0, 0x0, 0x0, 0⟩,
    ⟨0x258, 1, 0x4, 0x0, 0x0, 0x0, 0x0, 0x0, 0x0, 0x0, 0⟩,
    ⟨0x25c, 1, 0x4, 0x0, 0x0, 0x0, 0x0, 0x0, 0x0, 0x0, 0⟩,
    ⟨0x260, 1, 0x4, 0x1f4, 0x0, 0x0, 0x0, 0x0, 0x0, 0x0, 0⟩,
    ⟨0x264, 1, 0x4, 0x5, 0x0, 0x0, 0x0, 0x0, 0x0, 0x0, 0⟩,
    ⟨0x268, 1, 0x4, 0x0, 0x0, 0x0, 0x0, 0x0, 0x0, 0x0, 0⟩ ] ++
  [ ⟨0x26c, 1, 0x4, 0x0, 0x0, 0x0, 0x0, 0x0, 0x0, 0x0, 0⟩,
    ⟨0x270, 1, 0x4, 0xbb8, 0x0, 0x0, 0x0, 0x0, 0x0, 0x0, 0⟩,
    ⟨0x274, 1, 0x4, 0xa, 0x0, 0x0, 0x0, 0x0, 0x0, 0x0, 0⟩,
    ⟨0x278, 1, 0x4, 0x0, 0x0, 0x0, 0x0, 0x0, 0x0, 0x0, 0⟩,
    ⟨0x27c, 1, 0x4, 0x0, 0x0, 0x0, 0x0, 0x0, 0x0, 0x0, 0⟩,
    ⟨0x280, 1, 0x4, 0xfa0, 0x0, 0x0, 0x0, 0x0, 0x0, 0x0, 0⟩,
    ⟨0x284, 1, 0x4, 0x2, 0x0, 0x0, 0x0, 0x0, 0x0, 0x0, 0⟩,
    ⟨0x288, 1, 0x4, 0xfa0, 0x0, 0x0, 0x0, 0x0, 0x0, 0x0, 0⟩,
    ⟨0x28c, 1, 0x4, 0x0, 0x0, 0x0, 0x0, 0x0, 0x0, 0x0, 0⟩ ]

/-! ### THM -/

/-- First address of page THM (Table 3-1). -/
def THM.page : Nat := 0x3000
def THM.STATUS : Nat := 0x100
def THM.STATUS_HOT : Fld := ⟨0x100, 0, 11⟩
def THM.STATUS_HOT_SENSOR : Fld := ⟨0x100, 16, 6⟩
def THM.STATUS_RATE : Fld := ⟨0x100, 24, 2⟩
def THM.STATUS_WARN : Fld := ⟨0x100, 28, 1⟩
def THM.STATUS_THROTTLE : Fld := ⟨0x100, 29, 1⟩
def THM.STATUS_NLC_LIMIT : Fld := ⟨0x100, 30, 1⟩
def THM.MAX_SEEN : Nat := 0x104
def THM.MAX_SEEN_T : Fld := ⟨0x104, 0, 11⟩
def THM.SENSOR_FAIL_LO : Nat := 0x108
def THM.SENSOR_FAIL_LO_FAILED : Fld := ⟨0x108, 0, 32⟩
def THM.SENSOR_FAIL_HI : Nat := 0x10c
def THM.SENSOR_FAIL_HI_FAILED : Fld := ⟨0x10c, 0, 8⟩
def THM.LAST_SHUTDOWN : Nat := 0x110
def THM.LAST_SHUTDOWN_T : Fld := ⟨0x110, 0, 11⟩
def THM.LAST_SHUTDOWN_SENSOR : Fld := ⟨0x110, 16, 6⟩
def THM.LAST_SHUTDOWN_VALID : Fld := ⟨0x110, 31, 1⟩
def THM.THROTTLE_MS : Nat := 0x114
def THM.THROTTLE_MS_MS : Fld := ⟨0x114, 0, 32⟩
def THM.SENSOR (i : Nat) : Nat := 0x200 + 4 * i
def THM.SENSOR_T (i : Nat) : Fld := ⟨0x200 + 4 * i, 0, 11⟩
def THM.SENSOR_FAILED (i : Nat) : Fld := ⟨0x200 + 4 * i, 14, 1⟩
def THM.SENSOR_VALID (i : Nat) : Fld := ⟨0x200 + 4 * i, 15, 1⟩
/-- The block-specific registers of THM. -/
def THM.regs : List RegSpec :=
  [ ⟨0x100, 1, 0x4, 0x0, 0x0, 0x0, 0x0, 0x0, 0x0, 0x0, 0⟩,
    ⟨0x104, 1, 0x4, 0x0, 0x0, 0x0, 0x0, 0x0, 0x7ff, 0x0, 0⟩,
    ⟨0x108, 1, 0x4, 0x0, 0x0, 0x0, 0x0, 0x0, 0x0, 0x0, 0⟩,
    ⟨0x10c, 1, 0x4, 0x0, 0x0, 0x0, 0x0, 0x0, 0x0, 0x0, 0⟩,
    ⟨0x110, 1, 0x4, 0x0, 0x0, 0x0, 0x0, 0x0, 0x0, 0x0, 0⟩,
    ⟨0x114, 1, 0x4, 0x0, 0x0, 0x0, 0x0, 0x0, 0x0, 0x0, 0⟩,
    ⟨0x200, 40, 0x4, 0x0, 0x0, 0x0, 0x0, 0x0, 0x0, 0x0, 0⟩ ]

/-! ### HKA -/

/-- First address of page HKA (Table 3-1). -/
def HKA.page : Nat := 0x4000
def HKA.CTRL : Nat := 0x100
def HKA.CTRL_LP : Fld := ⟨0x100, 0, 1⟩
def HKA.CTRL_TIMER_EN : Fld := ⟨0x100, 1, 1⟩
def HKA.CTRL_GUARD_TRIG_EN : Fld := ⟨0x100, 2, 1⟩
def HKA.CTRL_PIN_TRIG_EN : Fld := ⟨0x100, 3, 1⟩
def HKA.CMD : Nat := 0x104
def HKA.CMD_SCAN_START : Fld := ⟨0x104, 0, 1⟩
def HKA.CMD_SCAN_STOP : Fld := ⟨0x104, 1, 1⟩
def HKA.CMD_CAL : Fld := ⟨0x104, 2, 1⟩
def HKA.TIMER : Nat := 0x108
def HKA.TIMER_PERIOD : Fld := ⟨0x108, 0, 16⟩
def HKA.SEQ_LEN : Nat := 0x10c
def HKA.SEQ_LEN_SCAN_LEN : Fld := ⟨0x10c, 0, 5⟩
def HKA.SEQ_LEN_TIP_LEN : Fld := ⟨0x10c, 8, 3⟩
def HKA.STATUS : Nat := 0x110
def HKA.STATUS_STATE : Fld := ⟨0x110, 0, 2⟩
def HKA.STATUS_SCAN_INTERRUPTED : Fld := ⟨0x110, 4, 1⟩
def HKA.STATUS_SCAN_PENDING : Fld := ⟨0x110, 5, 1⟩
def HKA.STATUS_TIP_QUEUED : Fld := ⟨0x110, 6, 1⟩
def HKA.STATUS_PAUSED_SHED : Fld := ⟨0x110, 7, 1⟩
def HKA.STATUS_SCAN_ENTRY : Fld := ⟨0x110, 8, 4⟩
def HKA.STATUS_TIP_ENTRY : Fld := ⟨0x110, 12, 2⟩
def HKA.STATUS_CAL_VALID : Fld := ⟨0x110, 16, 1⟩
def HKA.SCAN_OVERRUNS : Nat := 0x114
def HKA.TIP_OVERRUNS : Nat := 0x118
def HKA.CAL_OFFSET : Nat := 0x11c
def HKA.CAL_OFFSET_OFFSET : Fld := ⟨0x11c, 0, 24⟩
def HKA.CAL_GAIN : Nat := 0x120
def HKA.CAL_GAIN_GAIN : Fld := ⟨0x120, 0, 24⟩
def HKA.TIP_TIME : Nat := 0x124
def HKA.TIP_CAUSE : Nat := 0x12c
def HKA.TIP_CAUSE_DROOP : Fld := ⟨0x12c, 0, 1⟩
def HKA.TIP_CAUSE_GUARD : Fld := ⟨0x12c, 1, 1⟩
def HKA.TIP_CAUSE_PIN : Fld := ⟨0x12c, 2, 1⟩
def HKA.SCAN_ENTRY (i : Nat) : Nat := 0x140 + 4 * i
def HKA.SCAN_ENTRY_CHANNEL (i : Nat) : Fld := ⟨0x140 + 4 * i, 0, 5⟩
def HKA.SCAN_ENTRY_GAIN (i : Nat) : Fld := ⟨0x140 + 4 * i, 8, 3⟩
def HKA.SCAN_ENTRY_OSR (i : Nat) : Fld := ⟨0x140 + 4 * i, 16, 9⟩
def HKA.SCAN_ENTRY_WAIT (i : Nat) : Fld := ⟨0x140 + 4 * i, 28, 4⟩
def HKA.TIP_ENTRY (i : Nat) : Nat := 0x180 + 4 * i
def HKA.SCAN_RESULT (i : Nat) : Nat := 0x1c0 + 4 * i
def HKA.SCAN_RESULT_VALUE (i : Nat) : Fld := ⟨0x1c0 + 4 * i, 0, 24⟩
def HKA.SCAN_RESULT_VALID (i : Nat) : Fld := ⟨0x1c0 + 4 * i, 24, 1⟩
def HKA.SCAN_RESULT_SETTLE (i : Nat) : Fld := ⟨0x1c0 + 4 * i, 25, 1⟩
def HKA.SCAN_RESULT_OVERLOAD (i : Nat) : Fld := ⟨0x1c0 + 4 * i, 26, 1⟩
def HKA.SCAN_RESULT_COUNT (i : Nat) : Fld := ⟨0x1c0 + 4 * i, 28, 4⟩
def HKA.TIP_RESULT (i : Nat) : Nat := 0x200 + 4 * i
/-- The block-specific registers of HKA. -/
def HKA.regs : List RegSpec :=
  [ ⟨0x100, 1, 0x4, 0x0, 0xf, 0x0, 0x0, 0x0, 0x0, 0x0, 0⟩,
    ⟨0x104, 1, 0x4, 0x0, 0x0, 0x7, 0x0, 0x0, 0x0, 0x0, 0⟩,
    ⟨0x108, 1, 0x4, 0x2710, 0xffff, 0x0, 0x0, 0x0, 0x0, 0x0, 0⟩,
    ⟨0x10c, 1, 0x4, 0x101, 0x71f, 0x0, 0x0, 0x0, 0x0, 0x0, 0⟩,
    ⟨0x110, 1, 0x4, 0x0, 0x0, 0x0, 0x0, 0x0, 0x0, 0x0, 0⟩,
    ⟨0x114, 1, 0x4, 0x0, 0x0, 0x0, 0x0, 0x0, 0xffffffff, 0x0, 0⟩,
    ⟨0x118, 1, 0x4, 0x0, 0x0, 0x0, 0x0, 0x0, 0xffffffff, 0x0, 0⟩,
    ⟨0x11c, 1, 0x4, 0x0, 0x0, 0x0, 0x0, 0x0, 0x0, 0x0, 0⟩,
    ⟨0x120, 1, 0x4, 0x400000, 0x0, 0x0, 0x0, 0x0, 0x0, 0x0, 0⟩,
    ⟨0x124, 1, 0x4, 0x0, 0x0, 0x0, 0x0, 0x0, 0x0, 0x0, 1⟩,
    ⟨0x128, 1, 0x4, 0x0, 0x0, 0x0, 0x0, 0x0, 0x0, 0x0, 2⟩,
    ⟨0x12c, 1, 0x4, 0x0, 0x0, 0x0, 0x0, 0x0, 0x0, 0x0, 0⟩ ] ++
  [ ⟨0x140, 16, 0x4, 0x100000, 0xf1ff071f, 0x0, 0x0, 0x0, 0x0, 0x0, 0⟩,
    ⟨0x180, 4, 0x4, 0x100000, 0xf1ff071f, 0x0, 0x0, 0x0, 0x0, 0x0, 0⟩,
    ⟨0x1c0, 16, 0x4, 0x0, 0x0, 0x0, 0x0, 0x0, 0x0, 0x0, 0⟩,
    ⟨0x200, 4, 0x4, 0x0, 0x0, 0x0, 0x0, 0x0, 0x0, 0x0, 0⟩ ]

/-! ### FLT -/

/-- First address of page FLT (Table 3-1). -/
def FLT.page : Nat := 0x5000
def FLT.CTRL : Nat := 0x100
def FLT.CTRL_FORCE_ALARM : Fld := ⟨0x100, 0, 1⟩
def FLT.STATUS : Nat := 0x104
def FLT.STATUS_SAFE : Fld := ⟨0x104, 0, 1⟩
def FLT.STATUS_ALARM : Fld := ⟨0x104, 1, 1⟩
def FLT.BLK_STICKY (i : Nat) : Nat := 0x110 + 4 * i
def FLT.BLK_FAULT (i : Nat) : Nat := 0x120 + 4 * i
def FLT.BLK_URGENT (i : Nat) : Nat := 0x130 + 4 * i
def FLT.LAST_STEP : Nat := 0x140
def FLT.LAST_STEP_PAGE : Fld := ⟨0x140, 0, 7⟩
def FLT.LAST_STEP_STEP : Fld := ⟨0x140, 8, 3⟩
def FLT.LAST_STEP_CAUSE : Fld := ⟨0x140, 12, 1⟩
def FLT.LAST_STEP_INDEX : Fld := ⟨0x140, 16, 7⟩
def FLT.LAST_STEP_TIME : Nat := 0x144
def FLT.ACK : Nat := 0x14c
def FLT.ACK_PAGE : Fld := ⟨0x14c, 0, 7⟩
def FLT.ACK_INDEX : Fld := ⟨0x14c, 8, 7⟩
def FLT.STEPS : Nat := 0x150
def FLT.STEPS_COUNT : Fld := ⟨0x150, 0, 32⟩
def FLT.SAFE_CAUSE : Nat := 0x154
def FLT.SAFE_CAUSE_PAGE : Fld := ⟨0x154, 0, 7⟩
def FLT.SAFE_CAUSE_INDEX : Fld := ⟨0x154, 8, 7⟩
/-- The block-specific registers of FLT. -/
def FLT.regs : List RegSpec :=
  [ ⟨0x100, 1, 0x4, 0x0, 0x1, 0x0, 0x0, 0x0, 0x0, 0x0, 0⟩,
    ⟨0x104, 1, 0x4, 0x0, 0x0, 0x0, 0x0, 0x0, 0x0, 0x0, 0⟩,
    ⟨0x110, 4, 0x4, 0x0, 0x0, 0x0, 0xffffffff, 0x0, 0x0, 0x0, 0⟩,
    ⟨0x120, 4, 0x4, 0x0, 0x0, 0x0, 0x0, 0x0, 0x0, 0x0, 0⟩,
    ⟨0x130, 4, 0x4, 0x0, 0x0, 0x0, 0x0, 0x0, 0x0, 0x0, 0⟩,
    ⟨0x140, 1, 0x4, 0x0, 0x0, 0x0, 0x0, 0x0, 0x0, 0x0, 0⟩,
    ⟨0x144, 1, 0x4, 0x0, 0x0, 0x0, 0x0, 0x0, 0x0, 0x0, 1⟩,
    ⟨0x148, 1, 0x4, 0x0, 0x0, 0x0, 0x0, 0x0, 0x0, 0x0, 2⟩,
    ⟨0x14c, 1, 0x4, 0x0, 0x0, 0x7f7f, 0x0, 0x0, 0x0, 0x0, 0⟩,
    ⟨0x150, 1, 0x4, 0x0, 0x0, 0x0, 0x0, 0x0, 0xffffffff, 0x0, 0⟩,
    ⟨0x154, 1, 0x4, 0x0, 0x0, 0x0, 0x0, 0x0, 0x0, 0x0, 0⟩ ]

/-! ### SEC -/

/-- First address of page SEC (Table 3-1). -/
def SEC.page : Nat := 0x6000
def SEC.DEBUG : Nat := 0x100
def SEC.DEBUG_LOCKED : Fld := ⟨0x100, 0, 1⟩
def SEC.DEBUG_STATE : Fld := ⟨0x100, 4, 2⟩
def SEC.DEBUG_CMD : Nat := 0x104
def SEC.DEBUG_CMD_OPEN : Fld := ⟨0x104, 0, 1⟩
def SEC.DEBUG_CMD_KEY : Fld := ⟨0x104, 16, 16⟩
def SEC.FR_CMD : Nat := 0x108
def SEC.FR_CMD_CHALLENGE : Fld := ⟨0x108, 0, 1⟩
def SEC.FR_CMD_ENTER : Fld := ⟨0x108, 1, 1⟩
def SEC.FR_CMD_MODE : Fld := ⟨0x108, 8, 2⟩
def SEC.FR_STATUS : Nat := 0x10c
def SEC.FR_STATUS_CHALLENGE_VALID : Fld := ⟨0x10c, 0, 1⟩
def SEC.FR_STATUS_RESULT : Fld := ⟨0x10c, 1, 3⟩
def SEC.FR_STATUS_COUNT : Fld := ⟨0x10c, 16, 16⟩
def SEC.GUARD_POLICY : Nat := 0x110
def SEC.GUARD_POLICY_POLICY (j : Nat) : Fld := ⟨0x110, 2 * j, 2⟩
def SEC.GUARD_POLICY_POLICY_LOCK : Fld := ⟨0x110, 31, 1⟩
def SEC.GUARD_STATUS : Nat := 0x114
def SEC.GUARD_STATUS_TRIPPED : Fld := ⟨0x114, 0, 8⟩
def SEC.GUARD_STATUS_SENSOR_FAULT : Fld := ⟨0x114, 8, 8⟩
def SEC.GUARD_STATUS_LOCK : Fld := ⟨0x114, 16, 1⟩
def SEC.GUARD_STATUS_ERASED : Fld := ⟨0x114, 17, 1⟩
def SEC.GUARD_STATUS_SELFTEST_BUSY : Fld := ⟨0x114, 18, 1⟩
def SEC.GUARD_CMD : Nat := 0x118
def SEC.GUARD_CMD_SELFTEST : Fld := ⟨0x118, 0, 1⟩
def SEC.KS_CMD : Nat := 0x11c
def SEC.KS_CMD_SLOT : Fld := ⟨0x11c, 0, 9⟩
def SEC.KS_CMD_OP : Fld := ⟨0x11c, 12, 2⟩
def SEC.KS_CMD_TYPE : Fld := ⟨0x11c, 16, 1⟩
def SEC.KS_STATUS : Nat := 0x120
def SEC.KS_STATUS_BUSY : Fld := ⟨0x120, 0, 1⟩
def SEC.KS_STATUS_RESULT : Fld := ⟨0x120, 1, 4⟩
def SEC.KS_STATUS_SLOTS_FULL : Fld := ⟨0x120, 16, 10⟩
def SEC.KS_STATUS_KEK_VALID : Fld := ⟨0x120, 28, 1⟩
def SEC.KS_STATUS_KEK_TYPE : Fld := ⟨0x120, 29, 1⟩
def SEC.AUTH_CMD : Nat := 0x124
def SEC.AUTH_CMD_INDEX : Fld := ⟨0x124, 0, 3⟩
def SEC.AUTH_CMD_ADD : Fld := ⟨0x124, 4, 1⟩
def SEC.AUTH_CMD_REMOVE : Fld := ⟨0x124, 5, 1⟩
def SEC.AUTH_STATUS : Nat := 0x128
def SEC.AUTH_STATUS_VALID : Fld := ⟨0x128, 0, 8⟩
def SEC.AUTH_STATUS_CLAIM : Fld := ⟨0x128, 8, 1⟩
def SEC.PEER_CMD : Nat := 0x12c
def SEC.PEER_CMD_INDEX : Fld := ⟨0x12c, 0, 6⟩
def SEC.PEER_CMD_ADD : Fld := ⟨0x12c, 8, 1⟩
def SEC.PEER_CMD_REMOVE : Fld := ⟨0x12c, 9, 1⟩
def SEC.PEER_VALID : Nat := 0x130
def SEC.ATTEST_CMD : Nat := 0x138
def SEC.ATTEST_CMD_START : Fld := ⟨0x138, 0, 1⟩
def SEC.ATTEST_STATUS : Nat := 0x13c
def SEC.ATTEST_STATUS_STATE : Fld := ⟨0x13c, 0, 2⟩
def SEC.ATTEST_STATUS_COUNT : Fld := ⟨0x13c, 16, 16⟩
def SEC.IDENTITY : Nat := 0x140
def SEC.IDCODE : Nat := 0x148
def SEC.IDCODE_ONE : Fld := ⟨0x148, 0, 1⟩
def SEC.IDCODE_MFR : Fld := ⟨0x148, 1, 11⟩
def SEC.IDCODE_PART : Fld := ⟨0x148, 12, 16⟩
def SEC.IDCODE_VERSION : Fld := ⟨0x148, 28, 4⟩
def SEC.COLOPHON : Nat := 0x14c
def SEC.COLOPHON_GRADE : Fld := ⟨0x14c, 0, 1⟩
def SEC.COLOPHON_COPY : Fld := ⟨0x14c, 1, 1⟩
def SEC.COLOPHON_FORMAT : Fld := ⟨0x14c, 8, 8⟩
def SEC.RNG_STATUS : Nat := 0x150
def SEC.RNG_STATUS_FAILED : Fld := ⟨0x150, 0, 1⟩
/-- The block-specific registers of SEC. -/
def SEC.regs : List RegSpec :=
  [ ⟨0x100, 1, 0x4, 0x0, 0x0, 0x0, 0x0, 0x1, 0x0, 0x0, 0⟩,
    ⟨0x104, 1, 0x4, 0x0, 0x0, 0xffff0001, 0x0, 0x0, 0x0, 0x0, 0⟩,
    ⟨0x108, 1, 0x4, 0x0, 0x0, 0x303, 0x0, 0x0, 0x0, 0x0, 0⟩,
    ⟨0x10c, 1, 0x4, 0x0, 0x0, 0x0, 0x0, 0x0, 0x0, 0x0, 0⟩,
    ⟨0x110, 1, 0x4, 0x6815, 0xffff, 0x0, 0x0, 0x80000000, 0x0, 0x0, 0⟩,
    ⟨0x114, 1, 0x4, 0x0, 0x0, 0x0, 0x0, 0x0, 0x0, 0x0, 0⟩,
    ⟨0x118, 1, 0x4, 0x0, 0x0, 0x1, 0x0, 0x0, 0x0, 0x0, 0⟩,
    ⟨0x11c, 1, 0x4, 0x0, 0x0, 0x131ff, 0x0, 0x0, 0x0, 0x0, 0⟩,
    ⟨0x120, 1, 0x4, 0x0, 0x0, 0x0, 0x0, 0x0, 0x0, 0x0, 0⟩,
    ⟨0x124, 1, 0x4, 0x0, 0x0, 0x37, 0x0, 0x0, 0x0, 0x0, 0⟩,
    ⟨0x128, 1, 0x4, 0x0, 0x0, 0x0, 0x0, 0x0, 0x0, 0x0, 0⟩,
    ⟨0x12c, 1, 0x4, 0x0, 0x0, 0x33f, 0x0, 0x0, 0x0, 0x0, 0⟩ ] ++
  [ ⟨0x130, 1, 0x4, 0x0, 0x0, 0x0, 0x0, 0x0, 0x0, 0x0, 1⟩,
    ⟨0x134, 1, 0x4, 0x0, 0x0, 0x0, 0x0, 0x0, 0x0, 0x0, 2⟩,
    ⟨0x138, 1, 0x4, 0x0, 0x0, 0x1, 0x0, 0x0, 0x0, 0x0, 0⟩,
    ⟨0x13c, 1, 0x4, 0x0, 0x0, 0x0, 0x0, 0x0, 0x0, 0x0, 0⟩,
    ⟨0x140, 1, 0x4, 0x0, 0x0, 0x0, 0x0, 0x0, 0x0, 0x0, 1⟩,
    ⟨0x144, 1, 0x4, 0x0, 0x0, 0x0, 0x0, 0x0, 0x0, 0x0, 2⟩,
    ⟨0x148, 1, 0x4, 0x4800001, 0x0, 0x0, 0x0, 0x0, 0x0, 0x0, 0⟩,
    ⟨0x14c, 1, 0x4, 0x0, 0x0, 0x0, 0x0, 0x0, 0x0, 0x0, 0⟩,
    ⟨0x150, 1, 0x4, 0x0, 0x0, 0x0, 0x0, 0x0, 0x0, 0x0, 0⟩ ]

/-! ### CLK -/

/-- First address of page CLK (Table 3-1). -/
def CLK.page : Nat := 0x7000
def CLK.ROOT_CFG : Nat := 0x100
def CLK.ROOT_CFG_XO_FREQ : Fld := ⟨0x100, 0, 1⟩
def CLK.ROOT_STATUS : Nat := 0x104
def CLK.ROOT_STATUS_LOCKED : Fld := ⟨0x104, 0, 1⟩
def CLK.ROOT_STATUS_UNLOCKS : Fld := ⟨0x104, 8, 8⟩
def CLK.OCXO_CFG : Nat := 0x108
def CLK.OCXO_CFG_EN : Fld := ⟨0x108, 0, 1⟩
def CLK.OCXO_CFG_FREQ_KHZ : Fld := ⟨0x108, 8, 17⟩
def CLK.OCXO_STATUS : Nat := 0x10c
def CLK.OCXO_STATUS_ACTIVE : Fld := ⟨0x10c, 0, 1⟩
def CLK.OCXO_STATUS_MONREF : Fld := ⟨0x10c, 1, 1⟩
def CLK.OCXO_STATUS_OFFSET : Fld := ⟨0x10c, 16, 16⟩
/-- The block-specific registers of CLK. -/
def CLK.regs : List RegSpec :=
  [ ⟨0x100, 1, 0x4, 0x0, 0x0, 0x0, 0x0, 0x0, 0x0, 0x0, 0⟩,
    ⟨0x104, 1, 0x4, 0x0, 0x0, 0x0, 0x0, 0x0, 0x0, 0x0, 0⟩,
    ⟨0x108, 1, 0x4, 0x271001, 0x1ffff01, 0x0, 0x0, 0x0, 0x0, 0x0, 0⟩,
    ⟨0x10c, 1, 0x4, 0x0, 0x0, 0x0, 0x0, 0x0, 0x0, 0x0, 0⟩ ]

/-! ### TIM -/

/-- First address of page TIM (Table 3-1). -/
def TIM.page : Nat := 0x8000
def TIM.LIMITS : Nat := 0x100
def TIM.LIMITS_SOFT : Fld := ⟨0x100, 0, 16⟩
def TIM.LIMITS_HARD : Fld := ⟨0x100, 16, 16⟩
def TIM.PEER_CFG : Nat := 0x104
def TIM.PEER_CFG_PEER_TH : Fld := ⟨0x104, 0, 16⟩
def TIM.PEER_CFG_VOTE_EN : Fld := ⟨0x104, 16, 1⟩
def TIM.DRIFT_CFG : Nat := 0x108
def TIM.DRIFT_CFG_RATE : Fld := ⟨0x108, 0, 16⟩
def TIM.DRIFT_CFG_SPAN : Fld := ⟨0x108, 16, 10⟩
def TIM.WTR_CFG : Nat := 0x10c
def TIM.WTR_CFG_WTR : Fld := ⟨0x10c, 0, 10⟩
def TIM.HOLD_CFG : Nat := 0x110
def TIM.HOLD_CFG_WINDOW : Fld := ⟨0x110, 0, 12⟩
def TIM.HOLD_CFG_GUARD : Fld := ⟨0x110, 16, 10⟩
def TIM.LINE_SYNC : Nat := 0x114
def TIM.LINE_SYNC_EN0 : Fld := ⟨0x114, 0, 1⟩
def TIM.LINE_SYNC_EN1 : Fld := ⟨0x114, 1, 1⟩
def TIM.LINE_SYNC_CLAMP0 : Fld := ⟨0x114, 16, 1⟩
def TIM.LINE_SYNC_CLAMP1 : Fld := ⟨0x114, 17, 1⟩
def TIM.CMD : Nat := 0x118
def TIM.CMD_ALIGN0 : Fld := ⟨0x118, 0, 1⟩
def TIM.CMD_ALIGN1 : Fld := ⟨0x118, 1, 1⟩
def TIM.PPSIN_PS : Nat := 0x11c
def TIM.PPSIN_PS_PS : Fld := ⟨0x11c, 0, 10⟩
def TIM.PPSIN_TIME : Nat := 0x120
def TIM.REFIN_FREQ (i : Nat) : Nat := 0x130 + 4 * i
def TIM.REFIN_FREQ_HZ (i : Nat) : Fld := ⟨0x130 + 4 * i, 0, 30⟩
def TIM.SLOT_CFG (i : Nat) : Nat := 0x140 + 4 * i
def TIM.SLOT_CFG_SOURCE (i : Nat) : Fld := ⟨0x140 + 4 * i, 0, 6⟩
def TIM.SLOT_CFG_RANK0 (i : Nat) : Fld := ⟨0x140 + 4 * i, 8, 4⟩
def TIM.SLOT_CFG_RANK1 (i : Nat) : Fld := ⟨0x140 + 4 * i, 12, 4⟩
def TIM.SLOT_CFG_QL (i : Nat) : Fld := ⟨0x140 + 4 * i, 16, 8⟩
def TIM.SLOT_CFG_QL_SRC (i : Nat) : Fld := ⟨0x140 + 4 * i, 24, 1⟩
def TIM.SLOT_CFG_EN (i : Nat) : Fld := ⟨0x140 + 4 * i, 31, 1⟩
def TIM.SLOT_STATUS (i : Nat) : Nat := 0x180 + 4 * i
def TIM.SLOT_STATUS_ACTIVE (i : Nat) : Fld := ⟨0x180 + 4 * i, 0, 1⟩
def TIM.SLOT_STATUS_QUALIFIED (i : Nat) : Fld := ⟨0x180 + 4 * i, 1, 1⟩
def TIM.SLOT_STATUS_HARD (i : Nat) : Fld := ⟨0x180 + 4 * i, 2, 1⟩
def TIM.SLOT_STATUS_SOFT (i : Nat) : Fld := ⟨0x180 + 4 * i, 3, 1⟩
def TIM.SLOT_STATUS_DRIFT (i : Nat) : Fld := ⟨0x180 + 4 * i, 4, 1⟩
def TIM.SLOT_STATUS_VOTED_OUT (i : Nat) : Fld := ⟨0x180 + 4 * i, 5, 1⟩
def TIM.SLOT_STATUS_DISAGREE (i : Nat) : Fld := ⟨0x180 + 4 * i, 6, 1⟩
def TIM.SLOT_STATUS_WTR (i : Nat) : Fld := ⟨0x180 + 4 * i, 7, 1⟩
def TIM.SLOT_STATUS_S_LOS (i : Nat) : Fld := ⟨0x180 + 4 * i, 8, 1⟩
def TIM.SLOT_STATUS_S_HARD (i : Nat) : Fld := ⟨0x180 + 4 * i, 9, 1⟩
def TIM.SLOT_STATUS_S_SOFT (i : Nat) : Fld := ⟨0x180 + 4 * i, 10, 1⟩
def TIM.SLOT_STATUS_S_DRIFT (i : Nat) : Fld := ⟨0x180 + 4 * i, 11, 1⟩
def TIM.SLOT_STATUS_S_VOTED (i : Nat) : Fld := ⟨0x180 + 4 * i, 12, 1⟩
def TIM.SLOT_STATUS_S_DISAGREE (i : Nat) : Fld := ⟨0x180 + 4 * i, 13, 1⟩
def TIM.SLOT_STATUS_WTR_LEFT (i : Nat) : Fld := ⟨0x180 + 4 * i, 16, 10⟩
def TIM.SLOT_STATUS_MON_VALID (i : Nat) : Fld := ⟨0x180 + 4 * i, 31, 1⟩
def TIM.SLOT_FREQ (i : Nat) : Nat := 0x1c0 + 4 * i
def TIM.SLOT_FREQ_Y (i : Nat) : Fld := ⟨0x1c0 + 4 * i, 0, 32⟩
def TIM.DCTRL (u : Nat) : Nat := 0x200 + 0x40 * u
def TIM.DCTRL_MODE (u : Nat) : Fld := ⟨0x200 + 0x40 * u, 0, 2⟩
def TIM.DCTRL_FORCE_SLOT (u : Nat) : Fld := ⟨0x200 + 0x40 * u, 4, 4⟩
def TIM.DCTRL_OPTION (u : Nat) : Fld := ⟨0x200 + 0x40 * u, 8, 2⟩
def TIM.DCTRL_BW (u : Nat) : Fld := ⟨0x200 + 0x40 * u, 12, 3⟩
def TIM.DCTRL_QL_EN (u : Nat) : Fld := ⟨0x200 + 0x40 * u, 16, 1⟩
def TIM.DSTATUS (u : Nat) : Nat := 0x204 + 0x40 * u
def TIM.DSTATUS_STATE (u : Nat) : Fld := ⟨0x204 + 0x40 * u, 0, 3⟩
def TIM.DSTATUS_SELECTED (u : Nat) : Fld := ⟨0x204 + 0x40 * u, 4, 4⟩
def TIM.DSTATUS_SEL_VALID (u : Nat) : Fld := ⟨0x204 + 0x40 * u, 8, 1⟩
def TIM.DSTATUS_HIST_VALID (u : Nat) : Fld := ⟨0x204 + 0x40 * u, 9, 1⟩
def TIM.DSTATUS_ONSET_VALID (u : Nat) : Fld := ⟨0x204 + 0x40 * u, 10, 1⟩
def TIM.DSTATUS_SLEWING (u : Nat) : Fld := ⟨0x204 + 0x40 * u, 11, 1⟩
def TIM.DSTATUS_S_LOCK_LOST (u : Nat) : Fld := ⟨0x204 + 0x40 * u, 16, 1⟩
def TIM.DSTATUS_S_HOLDOVER (u : Nat) : Fld := ⟨0x204 + 0x40 * u, 17, 1⟩
def TIM.DSTATUS_S_FREERUN (u : Nat) : Fld := ⟨0x204 + 0x40 * u, 18, 1⟩
def TIM.DSTATUS_S_SWITCH (u : Nat) : Fld := ⟨0x204 + 0x40 * u, 19, 1⟩
def TIM.DSTATUS_S_CLAMP (u : Nat) : Fld := ⟨0x204 + 0x40 * u, 20, 1⟩
def TIM.DSTATUS_S_MONREF (u : Nat) : Fld := ⟨0x204 + 0x40 * u, 21, 1⟩
def TIM.DSTATUS_QL_OUT (u : Nat) : Fld := ⟨0x204 + 0x40 * u, 24, 8⟩
def TIM.STEP_CFG (u : Nat) : Nat := 0x208 + 0x40 * u
def TIM.STEP_CFG_MODE (u : Nat) : Fld := ⟨0x208 + 0x40 * u, 0, 1⟩
def TIM.STEP_CFG_SLEW_RATE (u : Nat) : Fld := ⟨0x208 + 0x40 * u, 16, 14⟩
def TIM.PHASE_STEP (u : Nat) : Nat := 0x20c + 0x40 * u
def TIM.PHASE_STEP_PS (u : Nat) : Fld := ⟨0x20c + 0x40 * u, 0, 32⟩
def TIM.PHASE_ERR (u : Nat) : Nat := 0x210 + 0x40 * u
def TIM.PHASE_ERR_PS (u : Nat) : Fld := ⟨0x210 + 0x40 * u, 0, 32⟩
def TIM.FREQ (u : Nat) : Nat := 0x214 + 0x40 * u
def TIM.HOLD_VALUE (u : Nat) : Nat := 0x218 + 0x40 * u
def TIM.HOLD_SAMPLES (u : Nat) : Nat := 0x21c + 0x40 * u
def TIM.HOLD_SAMPLES_SECONDS (u : Nat) : Fld := ⟨0x21c + 0x40 * u, 0, 12⟩
def TIM.DRIFT_ONSET (u : Nat) : Nat := 0x220 + 0x40 * u
def TIM.PBO_TOTAL (u : Nat) : Nat := 0x228 + 0x40 * u
def TIM.PBO_TOTAL_PS (u : Nat) : Fld := ⟨0x228 + 0x40 * u, 0, 32⟩
def TIM.SWITCHES (u : Nat) : Nat := 0x22c + 0x40 * u
def TIM.SWITCHES_COUNT (u : Nat) : Fld := ⟨0x22c + 0x40 * u, 0, 32⟩
def TIM.CLKOUT_CFG (i : Nat) : Nat := 0x300 + 4 * i
def TIM.CLKOUT_CFG_EN (i : Nat) : Fld := ⟨0x300 + 4 * i, 0, 1⟩
def TIM.CLKOUT_CFG_SRC (i : Nat) : Fld := ⟨0x300 + 4 * i, 1, 2⟩
def TIM.CLKOUT_CFG_SQ (i : Nat) : Fld := ⟨0x300 + 4 * i, 4, 2⟩
def TIM.CLKOUT_FREQ (i : Nat) : Nat := 0x310 + 4 * i
def TIM.CLKOUT_FREQ_HZ (i : Nat) : Fld := ⟨0x310 + 4 * i, 0, 30⟩
def TIM.PPSOUT_CFG (i : Nat) : Nat := 0x320 + 4 * i
def TIM.PPSOUT_CFG_EN (i : Nat) : Fld := ⟨0x320 + 4 * i, 0, 1⟩
def TIM.PPSOUT_CFG_SRC (i : Nat) : Fld := ⟨0x320 + 4 * i, 1, 1⟩
def TIM.PPSOUT_CFG_WIDTH (i : Nat) : Fld := ⟨0x320 + 4 * i, 16, 16⟩
def TIM.PPSOUT_PERIOD (i : Nat) : Nat := 0x328 + 4 * i
def TIM.PPSOUT_PERIOD_US (i : Nat) : Fld := ⟨0x328 + 4 * i, 0, 20⟩
def TIM.PPSOUT_OFFSET (i : Nat) : Nat := 0x330 + 4 * i
def TIM.PPSOUT_OFFSET_NS (i : Nat) : Fld := ⟨0x330 + 4 * i, 0, 30⟩
/-- The block-specific registers of TIM. -/
def TIM.regs : List RegSpec :=
  [ ⟨0x100, 1, 0x4, 0x23f011f8, 0xffffffff, 0x0, 0x0, 0x0, 0x0, 0x0, 0⟩,
    ⟨0x104, 1, 0x4, 0x107d0, 0x1ffff, 0x0, 0x0, 0x0, 0x0, 0x0, 0⟩,
    ⟨0x108, 1, 0x4, 0x64000a, 0x3ffffff, 0x0, 0x0, 0x0, 0x0, 0x0, 0⟩,
    ⟨0x10c, 1, 0x4, 0x12c, 0x3ff, 0x0, 0x0, 0x0, 0x0, 0x0, 0⟩,
    ⟨0x110, 1, 0x4, 0x1e012c, 0x3ff0fff, 0x0, 0x0, 0x0, 0x0, 0x0, 0⟩,
    ⟨0x114, 1, 0x4, 0x0, 0x3, 0x0, 0x0, 0x0, 0x0, 0x0, 0⟩,
    ⟨0x118, 1, 0x4, 0x0, 0x0, 0x3, 0x0, 0x0, 0x0, 0x0, 0⟩,
    ⟨0x11c, 1, 0x4, 0x0, 0x0, 0x0, 0x0, 0x0, 0x0, 0x0, 0⟩,
    ⟨0x120, 1, 0x4, 0x0, 0x0, 0x0, 0x0, 0x0, 0x0, 0x0, 1⟩,
    ⟨0x124, 1, 0x4, 0x0, 0x0, 0x0, 0x0, 0x0, 0x0, 0x0, 2⟩,
    ⟨0x130, 4, 0x4, 0x989680, 0x3fffffff, 0x0, 0x0, 0x0, 0x0, 0x0, 0⟩,
    ⟨0x140, 16, 0x4, 0x3f, 0x81ffff3f, 0x0, 0x0, 0x0, 0x0, 0x0, 0⟩ ] ++
  [ ⟨0x180, 16, 0x4, 0x0, 0x0, 0x0, 0x3f00, 0x0, 0x0, 0x0, 0⟩,
    ⟨0x1c0, 16, 0x4, 0x0, 0x0, 0x0, 0x0, 0x0, 0x0, 0x0, 0⟩,
    ⟨0x200, 1, 0x4, 0x2000, 0x173f3, 0x0, 0x0, 0x0, 0x0, 0x300, 0⟩,
    ⟨0x240, 1, 0x4, 0x1000, 0x173f3, 0x0, 0x0, 0x0, 0x0, 0x300, 0⟩,
    ⟨0x204, 2, 0x40, 0x0, 0x0, 0x0, 0x3f0000, 0x0, 0x0, 0x0, 0⟩,
    ⟨0x208, 2, 0x40, 0x640000, 0x3fff0001, 0x0, 0x0, 0x0, 0x0, 0x0, 0⟩,
    ⟨0x20c, 2, 0x40, 0x0, 0x0, 0xffffffff, 0x0, 0x0, 0x0, 0x0, 0⟩,
    ⟨0x210, 2, 0x40, 0x0, 0x0, 0x0, 0x0, 0x0, 0x0, 0x0, 0⟩,
    ⟨0x214, 2, 0x40, 0x0, 0x0, 0x0, 0x0, 0x0, 0x0, 0x0, 0⟩,
    ⟨0x218, 2, 0x40, 0x0, 0x0, 0x0, 0x0, 0x0, 0x0, 0x0, 0⟩,
    ⟨0x21c, 2, 0x40, 0x0, 0x0, 0x0, 0x0, 0x0, 0x0, 0x0, 0⟩,
    ⟨0x220, 2, 0x40, 0x0, 0x0, 0x0, 0x0, 0x0, 0x0, 0x0, 1⟩ ] ++
  [ ⟨0x224, 2, 0x40, 0x0, 0x0, 0x0, 0x0, 0x0, 0x0, 0x0, 2⟩,
    ⟨0x228, 2, 0x40, 0x0, 0x0, 0x0, 0x0, 0x0, 0x0, 0x0, 0⟩,
    ⟨0x22c, 2, 0x40, 0x0, 0x0, 0x0, 0x0, 0x0, 0xffffffff, 0x0, 0⟩,
    ⟨0x300, 4, 0x4, 0x0, 0x37, 0x0, 0x0, 0x0, 0x0, 0x0, 0⟩,
    ⟨0x310, 4, 0x4, 0x989680, 0x3fffffff, 0x0, 0x0, 0x0, 0x0, 0x0, 0⟩,
    ⟨0x320, 2, 0x4, 0x27100002, 0xffff0003, 0x0, 0x0, 0x0, 0x0, 0x0, 0⟩,
    ⟨0x328, 2, 0x4, 0xf4240, 0xfffff, 0x0, 0x0, 0x0, 0x0, 0x0, 0⟩,
    ⟨0x330, 2, 0x4, 0x0, 0x3fffffff, 0x0, 0x0, 0x0, 0x0, 0x0, 0⟩ ]

/-! ### CPU -/

/-- First address of page CPU (Table 3-1). -/
def CPU.page : Nat := 0x9000
def CPU.CTRL : Nat := 0x100
def CPU.CTRL_USER_EN : Fld := ⟨0x100, 0, 1⟩
def CPU.CTRL_FREEZE_ALL : Fld := ⟨0x100, 1, 1⟩
def CPU.CMD : Nat := 0x104
def CPU.CMD_CLEAR : Fld := ⟨0x104, 0, 1⟩
def CPU.CMD_CORE : Fld := ⟨0x104, 8, 3⟩
def CPU.CMD_ALL : Fld := ⟨0x104, 12, 1⟩
def CPU.FW_STATUS : Nat := 0x108
def CPU.FW_STATUS_SVC_STATE : Fld := ⟨0x108, 0, 2⟩
def CPU.FW_STATUS_USER_STATE : Fld := ⟨0x108, 4, 2⟩
def CPU.FW_STATUS_VERSION : Fld := ⟨0x108, 16, 16⟩
def CPU.RESTARTS : Nat := 0x10c
def CPU.RESTARTS_COUNT : Fld := ⟨0x10c, 0, 32⟩
def CPU.LAST_RESTART_MS : Nat := 0x110
def CPU.LAST_RESTART_MS_MS : Fld := ⟨0x110, 0, 12⟩
def CPU.WDOG_CFG : Nat := 0x114
def CPU.WDOG_CFG_TIMEOUT_MS : Fld := ⟨0x114, 0, 14⟩
def CPU.USER_WR_MASK (i : Nat) : Nat := 0x120 + 4 * i
def CPU.USER_WR_MASK_PAGE (i : Nat) : Fld := ⟨0x120 + 4 * i, 0, 32⟩
def CPU.CORE_STATUS (u : Nat) : Nat := 0x200 + 0x100 * u
def CPU.CORE_STATUS_STATE (u : Nat) : Fld := ⟨0x200 + 0x100 * u, 0, 2⟩
def CPU.CORE_STATUS_HALT_CAUSE (u : Nat) : Fld := ⟨0x200 + 0x100 * u, 4, 4⟩
def CPU.PMU_CTRL (u : Nat) : Nat := 0x204 + 0x100 * u
def CPU.PMU_CTRL_EN (u : Nat) : Fld := ⟨0x204 + 0x100 * u, 0, 10⟩
def CPU.PMU_CTRL_SL_EN (u : Nat) : Fld := ⟨0x204 + 0x100 * u, 10, 1⟩
def CPU.PMU_CTRL_SAMPLE_EN (u : Nat) : Fld := ⟨0x204 + 0x100 * u, 16, 8⟩
def CPU.SAMPLE_PERIOD (u : Nat) : Nat := 0x208 + 0x100 * u
def CPU.SAMPLE_PERIOD_EVENTS (u : Nat) : Fld := ⟨0x208 + 0x100 * u, 0, 32⟩
def CPU.SAMPLE_COUNT (u : Nat) : Nat := 0x20c + 0x100 * u
def CPU.SAMPLE_COUNT_COUNT (u : Nat) : Fld := ⟨0x20c + 0x100 * u, 0, 32⟩
def CPU.EVTSEL (u : Nat) (i : Nat) : Nat := 0x210 + 0x100 * u + 4 * i
def CPU.EVTSEL_EVENT (u : Nat) (i : Nat) : Fld := ⟨0x210 + 0x100 * u + 4 * i, 0, 8⟩
def CPU.CYCLES (u : Nat) : Nat := 0x230 + 0x100 * u
def CPU.INSTRET (u : Nat) : Nat := 0x238 + 0x100 * u
def CPU.HPM (u : Nat) (i : Nat) : Nat := 0x240 + 0x100 * u + 8 * i
def CPU.SL_RETIRED (u : Nat) : Nat := 0x280 + 0x100 * u
def CPU.SL_FLUSHED (u : Nat) : Nat := 0x288 + 0x100 * u
def CPU.SL_NO_FETCH (u : Nat) : Nat := 0x290 + 0x100 * u
def CPU.SL_BLOCKED (u : Nat) : Nat := 0x298 + 0x100 * u
def CPU.SAMPLE_PC (u : Nat) : Nat := 0x2a0 + 0x100 * u
/-- The block-specific registers of CPU. -/
def CPU.regs : List RegSpec :=
  [ ⟨0x100, 1, 0x4, 0x0, 0x3, 0x0, 0x0, 0x0, 0x0, 0x0, 0⟩,
    ⟨0x104, 1, 0x4, 0x0, 0x0, 0x1701, 0x0, 0x0, 0x0, 0x0, 0⟩,
    ⟨0x108, 1, 0x4, 0x0, 0x0, 0x0, 0x0, 0x0, 0x0, 0x0, 0⟩,
    ⟨0x10c, 1, 0x4, 0x0, 0x0, 0x0, 0x0, 0x0, 0xffffffff, 0x0, 0⟩,
    ⟨0x110, 1, 0x4, 0x0, 0x0, 0x0, 0x0, 0x0, 0x0, 0x0, 0⟩,
    ⟨0x114, 1, 0x4, 0x1f4, 0x3fff, 0x0, 0x0, 0x0, 0x0, 0x0, 0⟩,
    ⟨0x120, 1, 0x4, 0xffff01bf, 0xffff01bf, 0x0, 0x0, 0x0, 0x0, 0x0, 0⟩,
    ⟨0x124, 1, 0x4, 0x1fff0003, 0x1fff0003, 0x0, 0x0, 0x0, 0x0, 0x0, 0⟩,
    ⟨0x128, 1, 0x4, 0xffff01ff, 0xffff01ff, 0x0, 0x0, 0x0, 0x0, 0x0, 0⟩,
    ⟨0x12c, 1, 0x4, 0x1, 0x1, 0x0, 0x0, 0x0, 0x0, 0x0, 0⟩,
    ⟨0x200, 8, 0x100, 0x0, 0x0, 0x0, 0x0, 0x0, 0x0, 0x0, 0⟩,
    ⟨0x204, 8, 0x100, 0x0, 0xff07ff, 0x0, 0x0, 0x0, 0x0, 0x0, 0⟩ ] ++
  [ ⟨0x208, 8, 0x100, 0xf4240, 0xffffffff, 0x0, 0x0, 0x0, 0x0, 0x0, 0⟩,
    ⟨0x20c, 8, 0x100, 0x0, 0x0, 0x0, 0x0, 0x0, 0xffffffff, 0x0, 0⟩,
    ⟨0x210, 8, 0x100, 0x0, 0xff, 0x0, 0x0, 0x0, 0x0, 0x0, 0⟩,
    ⟨0x214, 8, 0x100, 0x0, 0xff, 0x0, 0x0, 0x0, 0x0, 0x0, 0⟩,
    ⟨0x218, 8, 0x100, 0x0, 0xff, 0x0, 0x0, 0x0, 0x0, 0x0, 0⟩,
    ⟨0x21c, 8, 0x100, 0x0, 0xff, 0x0, 0x0, 0x0, 0x0, 0x0, 0⟩,
    ⟨0x220, 8, 0x100, 0x0, 0xff, 0x0, 0x0, 0x0, 0x0, 0x0, 0⟩,
    ⟨0x224, 8, 0x100, 0x0, 0xff, 0x0, 0x0, 0x0, 0x0, 0x0, 0⟩,
    ⟨0x228, 8, 0x100, 0x0, 0xff, 0x0, 0x0, 0x0, 0x0, 0x0, 0⟩,
    ⟨0x22c, 8, 0x100, 0x0, 0xff, 0x0, 0x0, 0x0, 0x0, 0x0, 0⟩,
    ⟨0x230, 8, 0x100, 0x0, 0x0, 0x0, 0x0, 0x0, 0x0, 0x0, 1⟩,
    ⟨0x234, 8, 0x100, 0x0, 0x0, 0x0, 0x0, 0x0, 0x0, 0x0, 2⟩ ] ++
  [ ⟨0x238, 8, 0x100, 0x0, 0x0, 0x0, 0x0, 0x0, 0x0, 0x0, 1⟩,
    ⟨0x23c, 8, 0x100, 0x0, 0x0, 0x0, 0x0, 0x0, 0x0, 0x0, 2⟩,
    ⟨0x240, 8, 0x100, 0x0, 0x0, 0x0, 0x0, 0x0, 0x0, 0x0, 1⟩,
    ⟨0x248, 8, 0x100, 0x0, 0x0, 0x0, 0x0, 0x0, 0x0, 0x0, 1⟩,
    ⟨0x250, 8, 0x100, 0x0, 0x0, 0x0, 0x0, 0x0, 0x0, 0x0, 1⟩,
    ⟨0x258, 8, 0x100, 0x0, 0x0, 0x0, 0x0, 0x0, 0x0, 0x0, 1⟩,
    ⟨0x260, 8, 0x100, 0x0, 0x0, 0x0, 0x0, 0x0, 0x0, 0x0, 1⟩,
    ⟨0x268, 8, 0x100, 0x0, 0x0, 0x0, 0x0, 0x0, 0x0, 0x0, 1⟩,
    ⟨0x270, 8, 0x100, 0x0, 0x0, 0x0, 0x0, 0x0, 0x0, 0x0, 1⟩,
    ⟨0x278, 8, 0x100, 0x0, 0x0, 0x0, 0x0, 0x0, 0x0, 0x0, 1⟩,
    ⟨0x244, 8, 0x100, 0x0, 0x0, 0x0, 0x0, 0x0, 0x0, 0x0, 2⟩,
    ⟨0x24c, 8, 0x100, 0x0, 0x0, 0x0, 0x0, 0x0, 0x0, 0x0, 2⟩ ] ++
  [ ⟨0x254, 8, 0x100, 0x0, 0x0, 0x0, 0x0, 0x0, 0x0, 0x0, 2⟩,
    ⟨0x25c, 8, 0x100, 0x0, 0x0, 0x0, 0x0, 0x0, 0x0, 0x0, 2⟩,
    ⟨0x264, 8, 0x100, 0x0, 0x0, 0x0, 0x0, 0x0, 0x0, 0x0, 2⟩,
    ⟨0x26c, 8, 0x100, 0x0, 0x0, 0x0, 0x0, 0x0, 0x0, 0x0, 2⟩,
    ⟨0x274, 8, 0x100, 0x0, 0x0, 0x0, 0x0, 0x0, 0x0, 0x0, 2⟩,
    ⟨0x27c, 8, 0x100, 0x0, 0x0, 0x0, 0x0, 0x0, 0x0, 0x0, 2⟩,
    ⟨0x280, 8, 0x100, 0x0, 0x0, 0x0, 0x0, 0x0, 0x0, 0x0, 1⟩,
    ⟨0x284, 8, 0x100, 0x0, 0x0, 0x0, 0x0, 0x0, 0x0, 0x0, 2⟩,
    ⟨0x288, 8, 0x100, 0x0, 0x0, 0x0, 0x0, 0x0, 0x0, 0x0, 1⟩,
    ⟨0x28c, 8, 0x100, 0x0, 0x0, 0x0, 0x0, 0x0, 0x0, 0x0, 2⟩,
    ⟨0x290, 8, 0x100, 0x0, 0x0, 0x0, 0x0, 0x0, 0x0, 0x0, 1⟩,
    ⟨0x294, 8, 0x100, 0x0, 0x0, 0x0, 0x0, 0x0, 0x0, 0x0, 2⟩ ] ++
  [ ⟨0x298, 8, 0x100, 0x0, 0x0, 0x0, 0x0, 0x0, 0x0, 0x0, 1⟩,
    ⟨0x29c, 8, 0x100, 0x0, 0x0, 0x0, 0x0, 0x0, 0x0, 0x0, 2⟩,
    ⟨0x2a0, 8, 0x100, 0x0, 0x0, 0x0, 0x0, 0x0, 0x0, 0x0, 1⟩,
    ⟨0x2a4, 8, 0x100, 0x0, 0x0, 0x0, 0x0, 0x0, 0x0, 0x0, 2⟩ ]

/-! ### NVS -/

/-- First address of page NVS (Table 3-1). -/
def NVS.page : Nat := 0xa000
def NVS.STATUS : Nat := 0x100
def NVS.STATUS_BUSY : Fld := ⟨0x100, 0, 1⟩
def NVS.STATUS_REPLAYED : Fld := ⟨0x100, 1, 1⟩
def NVS.STATUS_DISCARDED : Fld := ⟨0x100, 2, 1⟩
def NVS.COMMITS : Nat := 0x104
def NVS.ECC_CORR : Nat := 0x10c
def NVS.ECC_UNCORR : Nat := 0x110
def NVS.WRITE_FAILS : Nat := 0x114
def NVS.ABANDONED : Nat := 0x118
def NVS.WEAR : Nat := 0x11c
def NVS.WEAR_PCT : Fld := ⟨0x11c, 0, 8⟩
def NVS.IMAGE_STATUS : Nat := 0x120
def NVS.IMAGE_STATUS_STATE : Fld := ⟨0x120, 0, 2⟩
def NVS.IMAGE_STATUS_TYPE : Fld := ⟨0x120, 4, 2⟩
def NVS.IMAGE_STATUS_LENGTH : Fld := ⟨0x120, 8, 22⟩
def NVS.SCRUB_CFG : Nat := 0x124
def NVS.SCRUB_CFG_HOURS : Fld := ⟨0x124, 0, 8⟩
/-- The block-specific registers of NVS. -/
def NVS.regs : List RegSpec :=
  [ ⟨0x100, 1, 0x4, 0x0, 0x0, 0x0, 0x0, 0x0, 0x0, 0x0, 0⟩,
    ⟨0x104, 1, 0x4, 0x0, 0x0, 0x0, 0x0, 0x0, 0x0, 0x0, 1⟩,
    ⟨0x108, 1, 0x4, 0x0, 0x0, 0x0, 0x0, 0x0, 0x0, 0x0, 2⟩,
    ⟨0x10c, 1, 0x4, 0x0, 0x0, 0x0, 0x0, 0x0, 0xffffffff, 0x0, 0⟩,
    ⟨0x110, 1, 0x4, 0x0, 0x0, 0x0, 0x0, 0x0, 0xffffffff, 0x0, 0⟩,
    ⟨0x114, 1, 0x4, 0x0, 0x0, 0x0, 0x0, 0x0, 0xffffffff, 0x0, 0⟩,
    ⟨0x118, 1, 0x4, 0x0, 0x0, 0x0, 0x0, 0x0, 0xffffffff, 0x0, 0⟩,
    ⟨0x11c, 1, 0x4, 0x0, 0x0, 0x0, 0x0, 0x0, 0x0, 0x0, 0⟩,
    ⟨0x120, 1, 0x4, 0x0, 0x0, 0x0, 0x0, 0x0, 0x0, 0x0, 0⟩,
    ⟨0x124, 1, 0x4, 0x18, 0xff, 0x0, 0x0, 0x0, 0x0, 0x0, 0⟩ ]

/-! ### RPR -/

/-- First address of page RPR (Table 3-1). -/
def RPR.page : Nat := 0xb000
def RPR.CTRL : Nat := 0x100
def RPR.CTRL_SWEEP_EN : Fld := ⟨0x100, 0, 1⟩
def RPR.CTRL_PERIOD : Fld := ⟨0x100, 8, 8⟩
def RPR.CTRL_CLASS_MASK : Fld := ⟨0x100, 16, 6⟩
def RPR.CMD : Nat := 0x104
def RPR.CMD_SWEEP_NOW : Fld := ⟨0x104, 0, 1⟩
def RPR.CMD_MEM_BIST : Fld := ⟨0x104, 1, 1⟩
def RPR.CMD_CLEAR : Fld := ⟨0x104, 2, 1⟩
def RPR.CMD_CHANNEL : Fld := ⟨0x104, 4, 4⟩
def RPR.CMD_ENTRY : Fld := ⟨0x104, 16, 11⟩
def RPR.STATUS : Nat := 0x108
def RPR.STATUS_STATE : Fld := ⟨0x108, 0, 2⟩
def RPR.STATUS_CLASS : Fld := ⟨0x108, 4, 3⟩
def RPR.STATUS_ENTRIES : Fld := ⟨0x108, 16, 12⟩
def RPR.SPARES : Nat := 0x10c
def RPR.SPARES_SUBCONV : Fld := ⟨0x10c, 0, 7⟩
def RPR.SPARES_LANES : Fld := ⟨0x10c, 8, 7⟩
def RPR.SPARES_SLICES : Fld := ⟨0x10c, 16, 2⟩
def RPR.SPARES_ENGINES : Fld := ⟨0x10c, 20, 3⟩
def RPR.SRAM_FREE : Nat := 0x110
def RPR.SRAM_FREE_ROWS : Fld := ⟨0x110, 0, 16⟩
def RPR.SRAM_FREE_COLUMNS : Fld := ⟨0x110, 16, 16⟩
def RPR.AGEING_CFG : Nat := 0x114
def RPR.AGEING_CFG_WARN : Fld := ⟨0x114, 0, 16⟩
def RPR.AGEING_CFG_LIMIT : Fld := ⟨0x114, 16, 16⟩
def RPR.AGEING_WORST : Nat := 0x118
def RPR.AGEING_WORST_LOSS : Fld := ⟨0x118, 0, 16⟩
def RPR.AGEING_WORST_BANK : Fld := ⟨0x118, 16, 5⟩
def RPR.LAST_SWEEP_TIME : Nat := 0x11c
def RPR.SKIPPED : Nat := 0x124
def RPR.REPAIRS : Nat := 0x128
/-- The block-specific registers of RPR. -/
def RPR.regs : List RegSpec :=
  [ ⟨0x100, 1, 0x4, 0x3f1801, 0x3fff01, 0x0, 0x0, 0x0, 0x0, 0x0, 0⟩,
    ⟨0x104, 1, 0x4, 0x0, 0x0, 0x7ff00f7, 0x0, 0x0, 0x0, 0x0, 0⟩,
    ⟨0x108, 1, 0x4, 0x0, 0x0, 0x0, 0x0, 0x0, 0x0, 0x0, 0⟩,
    ⟨0x10c, 1, 0x4, 0x0, 0x0, 0x0, 0x0, 0x0, 0x0, 0x0, 0⟩,
    ⟨0x110, 1, 0x4, 0x0, 0x0, 0x0, 0x0, 0x0, 0x0, 0x0, 0⟩,
    ⟨0x114, 1, 0x4, 0x1f4012c, 0xffffffff, 0x0, 0x0, 0x0, 0x0, 0x0, 0⟩,
    ⟨0x118, 1, 0x4, 0x0, 0x0, 0x0, 0x0, 0x0, 0x0, 0x0, 0⟩,
    ⟨0x11c, 1, 0x4, 0x0, 0x0, 0x0, 0x0, 0x0, 0x0, 0x0, 1⟩,
    ⟨0x120, 1, 0x4, 0x0, 0x0, 0x0, 0x0, 0x0, 0x0, 0x0, 2⟩,
    ⟨0x124, 1, 0x4, 0x0, 0x0, 0x0, 0x0, 0x0, 0xffffffff, 0x0, 0⟩,
    ⟨0x128, 1, 0x4, 0x0, 0x0, 0x0, 0x0, 0x0, 0xffffffff, 0x0, 0⟩ ]

/-! ### CNV -/

/-- First address of page CNVn (Table 3-1). -/
def CNV.page (n : Nat) : Nat := 0x10000 + 0x1000 * n
def CNV.PLL_STATUS : Nat := 0x100
def CNV.PLL_STATUS_LOCKED : Fld := ⟨0x100, 0, 1⟩
def CNV.PLL_STATUS_UNLOCKS : Fld := ⟨0x100, 8, 8⟩
def CNV.PATH_STATE : Nat := 0x104
def CNV.PATH_STATE_DAC_OUT : Fld := ⟨0x104, 0, 2⟩
def CNV.PATH_STATE_ADC_IN : Fld := ⟨0x104, 2, 2⟩
def CNV.PATH_STATE_SIG_OK : Fld := ⟨0x104, 4, 1⟩
def CNV.SPARES : Nat := 0x108
def CNV.SPARES_FREE (j : Nat) : Fld := ⟨0x108, 4 * j, 3⟩
def CNV.D2D_STATUS : Nat := 0x10c
def CNV.D2D_STATUS_SPARES_TX : Fld := ⟨0x10c, 0, 5⟩
def CNV.D2D_STATUS_SPARES_RX : Fld := ⟨0x10c, 8, 5⟩
def CNV.D2D_STATUS_LINK_OK : Fld := ⟨0x10c, 16, 1⟩
def CNV.ADC_LEVEL (i : Nat) : Nat := 0x110 + 4 * i
def CNV.ADC_LEVEL_RMS (i : Nat) : Fld := ⟨0x110 + 4 * i, 0, 10⟩
def CNV.ADC_LEVEL_PEAK (i : Nat) : Fld := ⟨0x110 + 4 * i, 16, 8⟩
def CNV.ADC_CLIP (i : Nat) : Nat := 0x120 + 4 * i
def CNV.ADC_CLIP_COUNT (i : Nat) : Fld := ⟨0x120 + 4 * i, 0, 28⟩
/-- The block-specific registers of CNV. -/
def CNV.regs : List RegSpec :=
  [ ⟨0x100, 1, 0x4, 0x0, 0x0, 0x0, 0x0, 0x0, 0x0, 0x0, 0⟩,
    ⟨0x104, 1, 0x4, 0x0, 0x0, 0x0, 0x0, 0x0, 0x0, 0x0, 0⟩,
    ⟨0x108, 1, 0x4, 0x44444444, 0x0, 0x0, 0x0, 0x0, 0x0, 0x0, 0⟩,
    ⟨0x10c, 1, 0x4, 0x0, 0x0, 0x0, 0x0, 0x0, 0x0, 0x0, 0⟩,
    ⟨0x110, 4, 0x4, 0x0, 0x0, 0x0, 0x0, 0x0, 0x0, 0x0, 0⟩,
    ⟨0x120, 4, 0x4, 0x0, 0x0, 0x0, 0x0, 0x0, 0x0, 0x0, 0⟩ ]

/-! ### CAL -/

/-- First address of page CALn (Table 3-1). -/
def CAL.page (n : Nat) : Nat := 0x12000 + 0x1000 * n
def CAL.CTRL : Nat := 0x100
def CAL.CTRL_MODE : Fld := ⟨0x100, 0, 2⟩
def CAL.CTRL_AUTO_SPARE : Fld := ⟨0x100, 4, 1⟩
def CAL.CTRL_FULL_AT_UP : Fld := ⟨0x100, 5, 1⟩
def CAL.CTRL_ADC_EN : Fld := ⟨0x100, 8, 1⟩
def CAL.CTRL_DAC_EN : Fld := ⟨0x100, 9, 1⟩
def CAL.CTRL_OFF_EN : Fld := ⟨0x100, 16, 1⟩
def CAL.CTRL_GAIN_EN : Fld := ⟨0x100, 17, 1⟩
def CAL.CTRL_SKEW_EN : Fld := ⟨0x100, 18, 1⟩
def CAL.CTRL_BW_EN : Fld := ⟨0x100, 19, 1⟩
def CAL.CMD : Nat := 0x104
def CAL.CMD_FULL : Fld := ⟨0x104, 0, 1⟩
def CAL.CMD_SWAP : Fld := ⟨0x104, 1, 1⟩
def CAL.CMD_ABORT_SPARE : Fld := ⟨0x104, 2, 1⟩
def CAL.CMD_CONV : Fld := ⟨0x104, 8, 3⟩
def CAL.CMD_POS : Fld := ⟨0x104, 16, 6⟩
def CAL.EST_CTRL : Nat := 0x108
def CAL.EST_CTRL_LENGTH_LOG2 : Fld := ⟨0x108, 0, 4⟩
def CAL.EST_CTRL_DEADBAND : Fld := ⟨0x108, 8, 6⟩
def CAL.STATUS : Nat := 0x10c
def CAL.STATUS_PHASE : Fld := ⟨0x10c, 0, 3⟩
def CAL.STATUS_HOLD : Fld := ⟨0x10c, 4, 1⟩
def CAL.STATUS_RX_GUTTER_OK : Fld := ⟨0x10c, 5, 1⟩
def CAL.STATUS_TX_GUTTER_OK : Fld := ⟨0x10c, 6, 1⟩
def CAL.STATUS_SPARE_BUSY : Fld := ⟨0x10c, 8, 1⟩
def CAL.STATUS_CODES_VALID : Fld := ⟨0x10c, 9, 1⟩
def CAL.STATUS_SKEW_WEAK : Fld := ⟨0x10c, 10, 1⟩
def CAL.COMMIT_COUNT : Nat := 0x110
def CAL.HOLD_REPLACED : Nat := 0x118
def CAL.HOLD_REPLACED_COUNT : Fld := ⟨0x118, 0, 32⟩
def CAL.SPARE_STATUS : Nat := 0x11c
def CAL.SPARE_STATUS_CONV : Fld := ⟨0x11c, 0, 3⟩
def CAL.SPARE_STATUS_POS : Fld := ⟨0x11c, 4, 6⟩
def CAL.SPARE_STATUS_UNIT : Fld := ⟨0x11c, 10, 7⟩
def CAL.SPARE_STATUS_STAGE : Fld := ⟨0x11c, 17, 3⟩
def CAL.SPARE_STATUS_PERIODS : Fld := ⟨0x11c, 20, 9⟩
def CAL.LIMITS : Nat := 0x120
def CAL.LIMITS_HEALTH_MARGIN : Fld := ⟨0x120, 0, 8⟩
def CAL.LIMITS_HEALTH_PERSIST : Fld := ⟨0x120, 8, 8⟩
def CAL.LIMITS_HEALTH_ERR : Fld := ⟨0x120, 16, 8⟩
def CAL.OBS_CTRL : Nat := 0x124
def CAL.OBS_CTRL_OBS_EN : Fld := ⟨0x124, 0, 1⟩
def CAL.OBS_CTRL_DWELL : Fld := ⟨0x124, 8, 4⟩
def CAL.LAST_COMMIT_TIME : Nat := 0x128
/-- The block-specific registers of CAL. -/
def CAL.regs : List RegSpec :=
  [ ⟨0x100, 1, 0x4, 0xf0310, 0xf0333, 0x0, 0x0, 0x0, 0x0, 0x0, 0⟩,
    ⟨0x104, 1, 0x4, 0x0, 0x0, 0x3f0707, 0x0, 0x0, 0x0, 0x0, 0⟩,
    ⟨0x108, 1, 0x4, 0xa08, 0x3f0f, 0x0, 0x0, 0x0, 0x0, 0x0, 0⟩,
    ⟨0x10c, 1, 0x4, 0x0, 0x0, 0x0, 0x0, 0x0, 0x0, 0x0, 0⟩,
    ⟨0x110, 1, 0x4, 0x0, 0x0, 0x0, 0x0, 0x0, 0x0, 0x0, 1⟩,
    ⟨0x114, 1, 0x4, 0x0, 0x0, 0x0, 0x0, 0x0, 0x0, 0x0, 2⟩,
    ⟨0x118, 1, 0x4, 0x0, 0x0, 0x0, 0x0, 0x0, 0xffffffff, 0x0, 0⟩,
    ⟨0x11c, 1, 0x4, 0x0, 0x0, 0x0, 0x0, 0x0, 0x0, 0x0, 0⟩,
    ⟨0x120, 1, 0x4, 0x100808, 0xffffff, 0x0, 0x0, 0x0, 0x0, 0x0, 0⟩,
    ⟨0x124, 1, 0x4, 0x101, 0xf01, 0x0, 0x0, 0x0, 0x0, 0x0, 0⟩,
    ⟨0x128, 1, 0x4, 0x0, 0x0, 0x0, 0x0, 0x0, 0x0, 0x0, 1⟩,
    ⟨0x12c, 1, 0x4, 0x0, 0x0, 0x0, 0x0, 0x0, 0x0, 0x0, 2⟩ ]

/-! ### RXD -/

/-- First address of page RXDn (Table 3-1). -/
def RXD.page (n : Nat) : Nat := 0x14000 + 0x1000 * n
def RXD.CTRL : Nat := 0x100
def RXD.CTRL_FO_MODE : Fld := ⟨0x100, 0, 2⟩
def RXD.CTRL_NLC_REQ : Fld := ⟨0x100, 4, 1⟩
def RXD.CTRL_SOP_BOOST_EN : Fld := ⟨0x100, 5, 1⟩
def RXD.CTRL_MEM_EN : Fld := ⟨0x100, 6, 1⟩
def RXD.CTRL_HINT_EN : Fld := ⟨0x100, 7, 1⟩
def RXD.CMD : Nat := 0x104
def RXD.CMD_RESTART : Fld := ⟨0x104, 0, 1⟩
def RXD.CMD_SNAP : Fld := ⟨0x104, 1, 1⟩
def RXD.CMD_MEM_CLEAR : Fld := ⟨0x104, 2, 1⟩
def RXD.CMD_FB_ZERO : Fld := ⟨0x104, 3, 1⟩
def RXD.CMD_SUBC : Fld := ⟨0x104, 8, 4⟩
def RXD.CMD_ALL : Fld := ⟨0x104, 12, 1⟩
def RXD.MOD : Nat := 0x108
def RXD.MOD_FORMAT : Fld := ⟨0x108, 0, 2⟩
def RXD.MOD_ENTROPY : Fld := ⟨0x108, 8, 9⟩
def RXD.OPT_FREQ : Nat := 0x10c
def RXD.OPT_FREQ_FREQ : Fld := ⟨0x10c, 0, 21⟩
def RXD.CD_WINDOW : Nat := 0x110
def RXD.CD_WINDOW_MIN : Fld := ⟨0x110, 0, 16⟩
def RXD.CD_WINDOW_MAX : Fld := ⟨0x110, 16, 16⟩
def RXD.CD_HINT : Nat := 0x114
def RXD.CD_HINT_HINT : Fld := ⟨0x114, 0, 16⟩
def RXD.CD_HINT_SPAN : Fld := ⟨0x114, 16, 16⟩
def RXD.CD_MEM0 : Nat := 0x118
def RXD.CD_MEM0_VALUE : Fld := ⟨0x118, 0, 16⟩
def RXD.CD_MEM0_VALID : Fld := ⟨0x118, 31, 1⟩
def RXD.CD_MEM1 : Nat := 0x11c
def RXD.EQ_CFG : Nat := 0x120
def RXD.EQ_CFG_N_TAPS : Fld := ⟨0x120, 0, 4⟩
def RXD.EQ_CFG_MU_BLIND : Fld := ⟨0x120, 8, 4⟩
def RXD.EQ_CFG_MU_TRAIN : Fld := ⟨0x120, 12, 4⟩
def RXD.EQ_CFG_MU_TRACK : Fld := ⟨0x120, 16, 4⟩
def RXD.EQ_CFG_MU_BOOST : Fld := ⟨0x120, 20, 4⟩
def RXD.SOP_CFG : Nat := 0x124
def RXD.SOP_CFG_BOOST_TH : Fld := ⟨0x124, 0, 16⟩
def RXD.SOP_CFG_BOOST_HOLD : Fld := ⟨0x124, 16, 16⟩
def RXD.CR_CFG : Nat := 0x128
def RXD.CR_CFG_PILOT_K : Fld := ⟨0x128, 0, 4⟩
def RXD.CR_CFG_BPS_T : Fld := ⟨0x128, 4, 1⟩
def RXD.CR_CFG_BPS_STEP : Fld := ⟨0x128, 8, 4⟩
def RXD.CR_CFG_BPS_W : Fld := ⟨0x128, 16, 6⟩
def RXD.TR_CFG : Nat := 0x12c
def RXD.TR_CFG_BW : Fld := ⟨0x12c, 0, 2⟩
def RXD.DESKEW_INIT : Nat := 0x130
def RXD.DESKEW_INIT_DSK (j : Nat) : Fld := ⟨0x130, 8 * j, 8⟩
def RXD.DESKEW_CUR : Nat := 0x134
def RXD.DESKEW_CUR_DSK (j : Nat) : Fld := ⟨0x134, 8 * j, 8⟩
def RXD.FO_CFG : Nat := 0x138
def RXD.FO_CFG_CAPTURE : Fld := ⟨0x138, 0, 12⟩
def RXD.FO_CFG_FREQ_TIMEOUT : Fld := ⟨0x138, 16, 8⟩
def RXD.FB_CFG : Nat := 0x13c
def RXD.FB_CFG_RATE : Fld := ⟨0x13c, 0, 4⟩
def RXD.FB_CFG_GAIN_LOG2 : Fld := ⟨0x13c, 4, 3⟩
def RXD.FB_CFG_DEADBAND : Fld := ⟨0x13c, 8, 8⟩
def RXD.FB_CFG_SETTLE : Fld := ⟨0x13c, 16, 8⟩
def RXD.FB_TEMPLATE : Nat := 0x140
def RXD.FB_TEMPLATE_TEMPLATE : Fld := ⟨0x140, 0, 32⟩
def RXD.FB_FMT : Nat := 0x144
def RXD.FB_FMT_POS : Fld := ⟨0x144, 0, 5⟩
def RXD.FB_FMT_WIDTH : Fld := ⟨0x144, 8, 5⟩
def RXD.FB_FMT_SIGN : Fld := ⟨0x144, 16, 1⟩
def RXD.FB_LIMIT : Nat := 0x148
def RXD.FB_LIMIT_LSB : Fld := ⟨0x148, 0, 16⟩
def RXD.FB_LIMIT_MAX : Fld := ⟨0x148, 16, 16⟩
def RXD.FB_CMD : Nat := 0x14c
def RXD.FB_CMD_C : Fld := ⟨0x14c, 0, 32⟩
def RXD.NLC_CFG : Nat := 0x150
def RXD.NLC_CFG_GAIN : Fld := ⟨0x150, 0, 16⟩
def RXD.NLC_CFG_ENTRIES : Fld := ⟨0x150, 16, 11⟩
def RXD.NLC_STATUS : Nat := 0x154
def RXD.NLC_STATUS_STATE : Fld := ⟨0x154, 0, 3⟩
def RXD.NLC_STATUS_THERMAL_OFFS : Fld := ⟨0x154, 8, 8⟩
def RXD.MEAS_CFG : Nat := 0x158
def RXD.MEAS_CFG_PERIOD : Fld := ⟨0x158, 0, 8⟩
def RXD.MEAS_CFG_TRX_SNR : Fld := ⟨0x158, 16, 16⟩
def RXD.LOS_CFG : Nat := 0x15c
def RXD.LOS_CFG_THRESH : Fld := ⟨0x15c, 0, 8⟩
def RXD.LOS_CFG_HOLD : Fld := ⟨0x15c, 8, 8⟩
def RXD.REACQ_CFG : Nat := 0x160
def RXD.REACQ_CFG_MEM_TIME : Fld := ⟨0x160, 0, 16⟩
def RXD.ACQ_STATUS : Nat := 0x164
def RXD.ACQ_STATUS_STATE0 : Fld := ⟨0x164, 0, 4⟩
def RXD.ACQ_STATUS_TRACK_MASK : Fld := ⟨0x164, 16, 16⟩
def RXD.LAST_ACQ : Nat := 0x168
def RXD.LAST_ACQ_US : Fld := ⟨0x168, 0, 24⟩
def RXD.LAST_ACQ_TRIALS : Fld := ⟨0x168, 24, 8⟩
def RXD.RESTARTS : Nat := 0x16c
def RXD.RESTARTS_COUNT : Fld := ⟨0x16c, 0, 32⟩
def RXD.SLICE_STATUS : Nat := 0x170
def RXD.SLICE_STATUS_SPARE_STATE : Fld := ⟨0x170, 0, 2⟩
def RXD.SLICE_STATUS_SLICE : Fld := ⟨0x170, 8, 5⟩
def RXD.SLICE_STATUS_CHECK_ERRS : Fld := ⟨0x170, 16, 16⟩
def RXD.PREFEC_ERRS : Nat := 0x174
def RXD.PREFEC_BITS : Nat := 0x17c
def RXD.PREFEC_BER : Nat := 0x184
def RXD.PREFEC_BER_MANT : Fld := ⟨0x184, 0, 10⟩
def RXD.PREFEC_BER_EXP : Fld := ⟨0x184, 12, 4⟩
def RXD.PREFEC_BER_VALID : Fld := ⟨0x184, 16, 1⟩
def RXD.NGMI : Nat := 0x188
def RXD.NGMI_X : Fld := ⟨0x188, 0, 16⟩
def RXD.NGMI_Y : Fld := ⟨0x188, 16, 16⟩
def RXD.SNAP_TIME : Nat := 0x18c
/-- The block-specific registers of RXD. -/
def RXD.regs : List RegSpec :=
  [ ⟨0x100, 1, 0x4, 0x60, 0xf3, 0x0, 0x0, 0x0, 0x0, 0x3, 0⟩,
    ⟨0x104, 1, 0x4, 0x0, 0x0, 0x1f0f, 0x0, 0x0, 0x0, 0x8, 0⟩,
    ⟨0x108, 1, 0x4, 0x13400, 0x1ff03, 0x0, 0x0, 0x0, 0x0, 0x1ff03, 0⟩,
    ⟨0x10c, 1, 0x4, 0x1d76f8, 0x1fffff, 0x0, 0x0, 0x0, 0x0, 0x0, 0⟩,
    ⟨0x110, 1, 0x4, 0x4e20b1e0, 0xffffffff, 0x0, 0x0, 0x0, 0x0, 0x0, 0⟩,
    ⟨0x114, 1, 0x4, 0x1f40000, 0xffffffff, 0x0, 0x0, 0x0, 0x0, 0x0, 0⟩,
    ⟨0x118, 1, 0x4, 0x0, 0x0, 0x0, 0x0, 0x0, 0x0, 0x0, 0⟩,
    ⟨0x11c, 1, 0x4, 0x0, 0x0, 0x0, 0x0, 0x0, 0x0, 0x0, 0⟩,
    ⟨0x120, 1, 0x4, 0x2c9a06, 0xffff0f, 0x0, 0x0, 0x0, 0x0, 0xf, 0⟩,
    ⟨0x124, 1, 0x4, 0x3e801f4, 0xffffffff, 0x0, 0x0, 0x0, 0x0, 0x0, 0⟩,
    ⟨0x128, 1, 0x4, 0x180403, 0x3f0f1f, 0x0, 0x0, 0x0, 0x0, 0x0, 0⟩,
    ⟨0x12c, 1, 0x4, 0x1, 0x3, 0x0, 0x0, 0x0, 0x0, 0x0, 0⟩ ] ++
  [ ⟨0x130, 1, 0x4, 0x0, 0xffffffff, 0x0, 0x0, 0x0, 0x0, 0x0, 0⟩,
    ⟨0x134, 1, 0x4, 0x0, 0x0, 0x0, 0x0, 0x0, 0x0, 0x0, 0⟩,
    ⟨0x138, 1, 0x4, 0x320064, 0xff0fff, 0x0, 0x0, 0x0, 0x0, 0x0, 0⟩,
    ⟨0x13c, 1, 0x4, 0xa012a, 0xffff7f, 0x0, 0x0, 0x0, 0x0, 0x0, 0⟩,
    ⟨0x140, 1, 0x4, 0x0, 0xffffffff, 0x0, 0x0, 0x0, 0x0, 0x0, 0⟩,
    ⟨0x144, 1, 0x4, 0x1000, 0x11f1f, 0x0, 0x0, 0x0, 0x0, 0x0, 0⟩,
    ⟨0x148, 1, 0x4, 0x177003e8, 0xffffffff, 0x0, 0x0, 0x0, 0x0, 0x0, 0⟩,
    ⟨0x14c, 1, 0x4, 0x0, 0x0, 0x0, 0x0, 0x0, 0x0, 0x0, 0⟩,
    ⟨0x150, 1, 0x4, 0x1000, 0x7ffffff, 0x0, 0x0, 0x0, 0x0, 0x0, 0⟩,
    ⟨0x154, 1, 0x4, 0x0, 0x0, 0x0, 0x0, 0x0, 0x0, 0x0, 0⟩,
    ⟨0x158, 1, 0x4, 0x2, 0xffff00ff, 0x0, 0x0, 0x0, 0x0, 0x0, 0⟩,
    ⟨0x15c, 1, 0x4, 0x41e, 0xffff, 0x0, 0x0, 0x0, 0x0, 0x0, 0⟩ ] ++
  [ ⟨0x160, 1, 0x4, 0x3c, 0xffff, 0x0, 0x0, 0x0, 0x0, 0x0, 0⟩,
    ⟨0x164, 1, 0x4, 0x0, 0x0, 0x0, 0x0, 0x0, 0x0, 0x0, 0⟩,
    ⟨0x168, 1, 0x4, 0x0, 0x0, 0x0, 0x0, 0x0, 0x0, 0x0, 0⟩,
    ⟨0x16c, 1, 0x4, 0x0, 0x0, 0x0, 0x0, 0x0, 0xffffffff, 0x0, 0⟩,
    ⟨0x170, 1, 0x4, 0x0, 0x0, 0x0, 0x0, 0x0, 0x0, 0x0, 0⟩,
    ⟨0x174, 1, 0x4, 0x0, 0x0, 0x0, 0x0, 0x0, 0x0, 0x0, 1⟩,
    ⟨0x178, 1, 0x4, 0x0, 0x0, 0x0, 0x0, 0x0, 0x0, 0x0, 2⟩,
    ⟨0x17c, 1, 0x4, 0x0, 0x0, 0x0, 0x0, 0x0, 0x0, 0x0, 1⟩,
    ⟨0x180, 1, 0x4, 0x0, 0x0, 0x0, 0x0, 0x0, 0x0, 0x0, 2⟩,
    ⟨0x184, 1, 0x4, 0x0, 0x0, 0x0, 0x0, 0x0, 0x0, 0x0, 0⟩,
    ⟨0x188, 1, 0x4, 0x0, 0x0, 0x0, 0x0, 0x0, 0x0, 0x0, 0⟩,
    ⟨0x18c, 1, 0x4, 0x0, 0x0, 0x0, 0x0, 0x0, 0x0, 0x0, 1⟩ ] ++
  [ ⟨0x190, 1, 0x4, 0x0, 0x0, 0x0, 0x0, 0x0, 0x0, 0x0, 2⟩ ]

/-! ### TXD -/

/-- First address of page TXDn (Table 3-1). -/
def TXD.page (n : Nat) : Nat := 0x16000 + 0x1000 * n
def TXD.CTRL : Nat := 0x100
def TXD.CTRL_MUTE : Fld := ⟨0x100, 0, 1⟩
def TXD.CTRL_PREEMPH_EN : Fld := ⟨0x100, 4, 1⟩
def TXD.MOD : Nat := 0x104
def TXD.MOD_FORMAT : Fld := ⟨0x104, 0, 2⟩
def TXD.MOD_ENTROPY : Fld := ⟨0x104, 8, 9⟩
def TXD.SC_CFG : Nat := 0x108
def TXD.SC_CFG_K_LOG2 : Fld := ⟨0x108, 0, 3⟩
def TXD.SC_CFG_ROLLOFF : Fld := ⟨0x108, 4, 3⟩
def TXD.CD_PRE : Nat := 0x10c
def TXD.CD_PRE_TARGET : Fld := ⟨0x10c, 0, 16⟩
def TXD.CD_PRE_CURRENT : Fld := ⟨0x10c, 16, 16⟩
def TXD.SKEW : Nat := 0x110
def TXD.SKEW_SKW (j : Nat) : Fld := ⟨0x110, 8 * j, 8⟩
def TXD.SKEW_CUR : Nat := 0x114
def TXD.SKEW_CUR_SKW (j : Nat) : Fld := ⟨0x114, 8 * j, 8⟩
def TXD.LEVEL : Nat := 0x118
def TXD.LEVEL_RMS : Fld := ⟨0x118, 0, 10⟩
def TXD.OCP_CFG : Nat := 0x11c
def TXD.OCP_CFG_LASER_WAIT : Fld := ⟨0x11c, 0, 10⟩
def TXD.OCP_CFG_READY_EN : Fld := ⟨0x11c, 12, 1⟩
def TXD.OCP_CFG_READY_POL : Fld := ⟨0x11c, 13, 1⟩
def TXD.OCP_CFG_FAULT_EN : Fld := ⟨0x11c, 14, 1⟩
def TXD.OCP_CFG_FAULT_POL : Fld := ⟨0x11c, 15, 1⟩
def TXD.OCP_CFG_UNMUTE_RAMP : Fld := ⟨0x11c, 16, 8⟩
def TXD.OUT_STATE : Nat := 0x120
def TXD.OUT_STATE_STATE : Fld := ⟨0x120, 0, 3⟩
def TXD.OUT_STATE_C_HOST : Fld := ⟨0x120, 8, 1⟩
def TXD.OUT_STATE_C_FAULT : Fld := ⟨0x120, 9, 1⟩
def TXD.OUT_STATE_C_OPT : Fld := ⟨0x120, 10, 1⟩
def TXD.OUT_STATE_C_DOWN : Fld := ⟨0x120, 11, 1⟩
def TXD.OUT_STATE_C_MASK : Fld := ⟨0x120, 12, 1⟩
def TXD.OUT_STATE_READY_IN : Fld := ⟨0x120, 16, 1⟩
def TXD.OUT_STATE_FAULT_IN : Fld := ⟨0x120, 17, 1⟩
def TXD.OUT_STATE_LASER_EN : Fld := ⟨0x120, 18, 1⟩
def TXD.OUT_STATE_DRV_EN : Fld := ⟨0x120, 19, 1⟩
def TXD.MASK_ASSIGN : Nat := 0x124
def TXD.MASK_ASSIGN_U0 : Fld := ⟨0x124, 0, 5⟩
def TXD.MASK_ASSIGN_U1 : Fld := ⟨0x124, 8, 5⟩
def TXD.MASK_CTRL (i : Nat) : Nat := 0x128 + 4 * i
def TXD.MASK_CTRL_CHECK (i : Nat) : Fld := ⟨0x128 + 4 * i, 0, 1⟩
def TXD.MASK_CTRL_APPLY (i : Nat) : Fld := ⟨0x128 + 4 * i, 1, 1⟩
def TXD.MASK_CTRL_ACTION (i : Nat) : Fld := ⟨0x128 + 4 * i, 4, 1⟩
def TXD.MASK_CTRL_BANK_ACTIVE (i : Nat) : Fld := ⟨0x128 + 4 * i, 8, 1⟩
def TXD.MASK_CTRL_RESULT (i : Nat) : Fld := ⟨0x128 + 4 * i, 9, 2⟩
def TXD.MASK_MARGIN (i : Nat) : Nat := 0x130 + 4 * i
def TXD.MASK_MARGIN_MARGIN (i : Nat) : Fld := ⟨0x130 + 4 * i, 0, 16⟩
def TXD.MASK_MARGIN_FREQ (i : Nat) : Fld := ⟨0x130 + 4 * i, 16, 16⟩
def TXD.RAMP_CFG : Nat := 0x138
def TXD.RAMP_CFG_LEN : Fld := ⟨0x138, 0, 11⟩
def TXD.RAMP_CFG_PROFILE : Fld := ⟨0x138, 12, 1⟩
def TXD.CLIP_COUNT : Nat := 0x13c
def TXD.CLIP_COUNT_COUNT : Fld := ⟨0x13c, 0, 32⟩
def TXD.CAPACITY : Nat := 0x140
def TXD.CAPACITY_BITS : Fld := ⟨0x140, 0, 24⟩
def TXD.DEMAND : Nat := 0x144
def TXD.DEMAND_BITS : Fld := ⟨0x144, 0, 24⟩
def TXD.OCP_GPIO : Nat := 0x148
def TXD.OCP_GPIO_DIR4 : Fld := ⟨0x148, 4, 1⟩
def TXD.OCP_GPIO_DIR5 : Fld := ⟨0x148, 5, 1⟩
def TXD.OCP_GPIO_OUT4 : Fld := ⟨0x148, 12, 1⟩
def TXD.OCP_GPIO_OUT5 : Fld := ⟨0x148, 13, 1⟩
def TXD.OCP_GPIO_IN4 : Fld := ⟨0x148, 20, 1⟩
def TXD.OCP_GPIO_IN5 : Fld := ⟨0x148, 21, 1⟩
def TXD.OCP_SPI_TX : Nat := 0x14c
def TXD.OCP_SPI_TX_WORD : Fld := ⟨0x14c, 0, 32⟩
def TXD.OCP_SPI_RX : Nat := 0x150
def TXD.OCP_SPI_RX_WORD : Fld := ⟨0x150, 0, 32⟩
def TXD.OCP_SPI_STAT : Nat := 0x154
def TXD.OCP_SPI_STAT_BUSY : Fld := ⟨0x154, 0, 1⟩
def TXD.OCP_SPI_STAT_QUEUED : Fld := ⟨0x154, 8, 4⟩
/-- The block-specific registers of TXD. -/
def TXD.regs : List RegSpec :=
  [ ⟨0x100, 1, 0x4, 0x10, 0x11, 0x0, 0x0, 0x0, 0x0, 0x0, 0⟩,
    ⟨0x104, 1, 0x4, 0x13400, 0x1ff03, 0x0, 0x0, 0x0, 0x0, 0x1ff03, 0⟩,
    ⟨0x108, 1, 0x4, 0x20, 0x77, 0x0, 0x0, 0x0, 0x0, 0x77, 0⟩,
    ⟨0x10c, 1, 0x4, 0x0, 0xffff, 0x0, 0x0, 0x0, 0x0, 0x0, 0⟩,
    ⟨0x110, 1, 0x4, 0x0, 0xffffffff, 0x0, 0x0, 0x0, 0x0, 0x0, 0⟩,
    ⟨0x114, 1, 0x4, 0x0, 0x0, 0x0, 0x0, 0x0, 0x0, 0x0, 0⟩,
    ⟨0x118, 1, 0x4, 0x6e, 0x3ff, 0x0, 0x0, 0x0, 0x0, 0x0, 0⟩,
    ⟨0x11c, 1, 0x4, 0xa0064, 0xfff3ff, 0x0, 0x0, 0x0, 0x0, 0x0, 0⟩,
    ⟨0x120, 1, 0x4, 0x0, 0x0, 0x0, 0x0, 0x0, 0x0, 0x0, 0⟩,
    ⟨0x124, 1, 0x4, 0x1f1f, 0x1f1f, 0x0, 0x0, 0x0, 0x0, 0x1f1f, 0⟩,
    ⟨0x128, 2, 0x4, 0x0, 0x10, 0x3, 0x0, 0x0, 0x0, 0x0, 0⟩,
    ⟨0x130, 2, 0x4, 0x0, 0x0, 0x0, 0x0, 0x0, 0x0, 0x0, 0⟩ ] ++
  [ ⟨0x138, 1, 0x4, 0x1040, 0x17ff, 0x0, 0x0, 0x0, 0x0, 0x0, 0⟩,
    ⟨0x13c, 1, 0x4, 0x0, 0x0, 0x0, 0x0, 0x0, 0xffffffff, 0x0, 0⟩,
    ⟨0x140, 1, 0x4, 0x0, 0x0, 0x0, 0x0, 0x0, 0x0, 0x0, 0⟩,
    ⟨0x144, 1, 0x4, 0x0, 0x0, 0x0, 0x0, 0x0, 0x0, 0x0, 0⟩,
    ⟨0x148, 1, 0x4, 0x0, 0x3030, 0x0, 0x0, 0x0, 0x0, 0x0, 0⟩,
    ⟨0x14c, 1, 0x4, 0x0, 0x0, 0xffffffff, 0x0, 0x0, 0x0, 0x0, 0⟩,
    ⟨0x150, 1, 0x4, 0x0, 0x0, 0x0, 0x0, 0x0, 0x0, 0x0, 0⟩,
    ⟨0x154, 1, 0x4, 0x0, 0x0, 0x0, 0x0, 0x0, 0x0, 0x0, 0⟩ ]

/-! ### SUB -/

/-- First address of page SUBn (Table 3-1). -/
def SUB.page (n : Nat) : Nat := 0x18000 + 0x1000 * n
def SUB.ROLE : Nat := 0x100
def SUB.ROLE_ROLE : Fld := ⟨0x100, 0, 2⟩
def SUB.UP_TYPE : Nat := 0x104
def SUB.UP_TYPE_TYPE (j : Nat) : Fld := ⟨0x104, 2 * j, 2⟩
def SUB.UP_OWNER (i : Nat) : Nat := 0x108 + 4 * i
def SUB.UP_OWNER_LEAF (i : Nat) (j : Nat) : Fld := ⟨0x108 + 4 * i, 8 * j, 5⟩
def SUB.UP_OWNER_VALID (i : Nat) (j : Nat) : Fld := ⟨0x108 + 4 * i, 7 + 8 * j, 1⟩
def SUB.T_EQ : Nat := 0x118
def SUB.T_EQ_T_EQ : Fld := ⟨0x118, 0, 22⟩
def SUB.RTT_RANGE : Nat := 0x11c
def SUB.RTT_RANGE_RTT_MIN : Fld := ⟨0x11c, 0, 16⟩
def SUB.RTT_RANGE_RTT_MAX : Fld := ⟨0x11c, 16, 16⟩
def SUB.BURST_CFG : Nat := 0x120
def SUB.BURST_CFG_GUARD : Fld := ⟨0x120, 0, 8⟩
def SUB.BURST_CFG_WIN_TOL : Fld := ⟨0x120, 8, 8⟩
def SUB.BURST_CFG_DET_TH : Fld := ⟨0x120, 16, 8⟩
def SUB.BURST_CFG_SYNC_TH : Fld := ⟨0x120, 24, 8⟩
def SUB.CAPTURE : Nat := 0x124
def SUB.CAPTURE_MARGIN : Fld := ⟨0x124, 0, 8⟩
def SUB.SCHED_CTRL : Nat := 0x128
def SUB.SCHED_CTRL_CHECK : Fld := ⟨0x128, 0, 1⟩
def SUB.SCHED_CTRL_APPLY : Fld := ⟨0x128, 1, 1⟩
def SUB.SCHED_CTRL_BANK_ACTIVE : Fld := ⟨0x128, 4, 1⟩
def SUB.SCHED_CTRL_RESULT : Fld := ⟨0x128, 5, 2⟩
def SUB.SCHED_CTRL_NEXT_CYCLE_LOG2 : Fld := ⟨0x128, 8, 4⟩
def SUB.SCHED_CTRL_CYCLE_LOG2 : Fld := ⟨0x128, 12, 4⟩
def SUB.SCHED_CTRL_FAIL_ENTRY : Fld := ⟨0x128, 16, 8⟩
def SUB.SCHED_CTRL_FAIL_RULE : Fld := ⟨0x128, 24, 4⟩
def SUB.JOIN_CFG : Nat := 0x12c
def SUB.JOIN_CFG_EN : Fld := ⟨0x12c, 0, 1⟩
def SUB.JOIN_CFG_ADMIT : Fld := ⟨0x12c, 1, 1⟩
def SUB.JOIN_CFG_SUBC : Fld := ⟨0x12c, 4, 4⟩
def SUB.JOIN_CFG_PERIOD_LOG2 : Fld := ⟨0x12c, 8, 4⟩
def SUB.JOIN_CFG_START : Fld := ⟨0x12c, 16, 10⟩
def SUB.RANGE_CFG : Nat := 0x130
def SUB.RANGE_CFG_TRACK_TH : Fld := ⟨0x130, 0, 8⟩
def SUB.RANGE_CFG_WINDOW_TOL : Fld := ⟨0x130, 8, 8⟩
def SUB.RANGE_CFG_LOSS_N : Fld := ⟨0x130, 16, 8⟩
def SUB.RANGE_CFG_AVG_N : Fld := ⟨0x130, 24, 8⟩
def SUB.LEAF_CFG : Nat := 0x134
def SUB.LEAF_CFG_REPLY_WAIT : Fld := ⟨0x134, 0, 4⟩
def SUB.LEAF_CFG_BACKOFF_LOG2 : Fld := ⟨0x134, 4, 3⟩
def SUB.LEAF_CFG_HOLD : Fld := ⟨0x134, 8, 8⟩
def SUB.LEAF_STATUS : Nat := 0x138
def SUB.LEAF_STATUS_STATE : Fld := ⟨0x138, 0, 3⟩
def SUB.LEAF_STATUS_LEAF : Fld := ⟨0x138, 4, 5⟩
def SUB.LEAF_STATUS_NUM_VALID : Fld := ⟨0x138, 9, 1⟩
def SUB.LEAF_STATUS_DED_SUBC : Fld := ⟨0x138, 10, 4⟩
def SUB.LEAF_STATUS_DED_VALID : Fld := ⟨0x138, 14, 1⟩
def SUB.LEAF_STATUS_ATTEMPTS : Fld := ⟨0x138, 16, 16⟩
def SUB.LEAF_OFFSET : Nat := 0x13c
def SUB.LEAF_OFFSET_DELTA : Fld := ⟨0x13c, 0, 22⟩
def SUB.HUB_STATUS : Nat := 0x140
def SUB.HUB_STATUS_IN_SERVICE : Fld := ⟨0x140, 0, 6⟩
def SUB.HUB_STATUS_WINDOW_OK : Fld := ⟨0x140, 8, 1⟩
def SUB.HUB_STATUS_QUIET_OPEN : Fld := ⟨0x140, 9, 1⟩
def SUB.HUB_STATUS_ASSIGN_QUEUED : Fld := ⟨0x140, 16, 6⟩
def SUB.LEAF_CMD : Nat := 0x144
def SUB.LEAF_CMD_LEAF : Fld := ⟨0x144, 0, 5⟩
def SUB.LEAF_CMD_DEREGISTER : Fld := ⟨0x144, 8, 1⟩
def SUB.LOG_WR : Nat := 0x148
def SUB.LOG_WR_COUNT : Fld := ⟨0x148, 0, 32⟩
def SUB.LOG_CTRL : Nat := 0x14c
def SUB.LOG_CTRL_FREEZE : Fld := ⟨0x14c, 0, 1⟩
def SUB.LOG_CTRL_MASK : Fld := ⟨0x14c, 16, 16⟩
def SUB.LOG_LOST : Nat := 0x150
def SUB.NOSYNC_COUNT : Nat := 0x154
def SUB.REPLACED_COUNT : Nat := 0x158
def SUB.INTRUDER_COUNT : Nat := 0x15c
def SUB.SUPPRESSED_COUNT : Nat := 0x160
/-- The block-specific registers of SUB. -/
def SUB.regs : List RegSpec :=
  [ ⟨0x100, 1, 0x4, 0x0, 0x3, 0x0, 0x0, 0x0, 0x0, 0x3, 0⟩,
    ⟨0x104, 1, 0x4, 0x0, 0xffffffff, 0x0, 0x0, 0x0, 0x0, 0xffffffff, 0⟩,
    ⟨0x108, 4, 0x4, 0x0, 0x9f9f9f9f, 0x0, 0x0, 0x0, 0x0, 0x0, 0⟩,
    ⟨0x118, 1, 0x4, 0xf4240, 0x3fffff, 0x0, 0x0, 0x0, 0x0, 0x3fffff, 0⟩,
    ⟨0x11c, 1, 0x4, 0x1f40000, 0xffffffff, 0x0, 0x0, 0x0, 0x0, 0xffffffff, 0⟩,
    ⟨0x120, 1, 0x4, 0x80401408, 0xffffffff, 0x0, 0x0, 0x0, 0x0, 0x0, 0⟩,
    ⟨0x124, 1, 0x4, 0x6, 0xff, 0x0, 0x0, 0x0, 0x0, 0x0, 0⟩,
    ⟨0x128, 1, 0x4, 0x5500, 0xf00, 0x3, 0x0, 0x0, 0x0, 0x0, 0⟩,
    ⟨0x12c, 1, 0x4, 0x800, 0x3ff0ff3, 0x0, 0x0, 0x0, 0x0, 0x0, 0⟩,
    ⟨0x130, 1, 0x4, 0x10080a05, 0xffffffff, 0x0, 0x0, 0x0, 0x0, 0x0, 0⟩,
    ⟨0x134, 1, 0x4, 0xa34, 0xff7f, 0x0, 0x0, 0x0, 0x0, 0x0, 0⟩,
    ⟨0x138, 1, 0x4, 0x0, 0x0, 0x0, 0x0, 0x0, 0x0, 0x0, 0⟩ ] ++
  [ ⟨0x13c, 1, 0x4, 0x0, 0x0, 0x0, 0x0, 0x0, 0x0, 0x0, 0⟩,
    ⟨0x140, 1, 0x4, 0x0, 0x0, 0x0, 0x0, 0x0, 0x0, 0x0, 0⟩,
    ⟨0x144, 1, 0x4, 0x0, 0x0, 0x11f, 0x0, 0x0, 0x0, 0x0, 0⟩,
    ⟨0x148, 1, 0x4, 0x0, 0x0, 0x0, 0x0, 0x0, 0x0, 0x0, 0⟩,
    ⟨0x14c, 1, 0x4, 0xff0000, 0xffff0001, 0x0, 0x0, 0x0, 0x0, 0x0, 0⟩,
    ⟨0x150, 1, 0x4, 0x0, 0x0, 0x0, 0x0, 0x0, 0xffffffff, 0x0, 0⟩,
    ⟨0x154, 1, 0x4, 0x0, 0x0, 0x0, 0x0, 0x0, 0xffffffff, 0x0, 0⟩,
    ⟨0x158, 1, 0x4, 0x0, 0x0, 0x0, 0x0, 0x0, 0xffffffff, 0x0, 0⟩,
    ⟨0x15c, 1, 0x4, 0x0, 0x0, 0x0, 0x0, 0x0, 0xffffffff, 0x0, 0⟩,
    ⟨0x160, 1, 0x4, 0x0, 0x0, 0x0, 0x0, 0x0, 0xffffffff, 0x0, 0⟩ ]

/-! ### FEC -/

/-- First address of page FECn (Table 3-1). -/
def FEC.page (n : Nat) : Nat := 0x1a000 + 0x1000 * n
def FEC.CTRL : Nat := 0x100
def FEC.CTRL_PROFILE : Fld := ⟨0x100, 0, 1⟩
def FEC.CMD : Nat := 0x104
def FEC.CMD_HIST_CLEAR : Fld := ⟨0x104, 0, 1⟩
def FEC.CAP_REQ : Nat := 0x108
def FEC.CAP_REQ_IMAX : Fld := ⟨0x108, 0, 5⟩
def FEC.CAP_STATUS : Nat := 0x10c
def FEC.CAP_STATUS_EFF : Fld := ⟨0x10c, 0, 5⟩
def FEC.CAP_STATUS_L_HOST : Fld := ⟨0x10c, 8, 1⟩
def FEC.CAP_STATUS_L_STRUCT : Fld := ⟨0x10c, 9, 1⟩
def FEC.CAP_STATUS_L_THERM : Fld := ⟨0x10c, 10, 1⟩
def FEC.CAP_STATUS_L_DROOP : Fld := ⟨0x10c, 11, 1⟩
def FEC.CAP_STATUS_L_GOV : Fld := ⟨0x10c, 12, 1⟩
def FEC.CAP_STATUS_IMAX_STATE : Fld := ⟨0x10c, 16, 2⟩
def FEC.CAP_STATUS_HOST_EFF : Fld := ⟨0x10c, 24, 5⟩
def FEC.CAP_CAUSES : Nat := 0x110
def FEC.CAP_CAUSES_STRUCT : Fld := ⟨0x110, 0, 5⟩
def FEC.CAP_CAUSES_THERM : Fld := ⟨0x110, 8, 5⟩
def FEC.CAP_CAUSES_DROOP : Fld := ⟨0x110, 16, 5⟩
def FEC.CAP_CAUSES_GOV : Fld := ⟨0x110, 24, 5⟩
def FEC.MARGIN : Nat := 0x114
def FEC.MARGIN_NOW : Fld := ⟨0x114, 0, 16⟩
def FEC.MARGIN_AVG : Fld := ⟨0x114, 16, 16⟩
def FEC.MARGIN_CAUSE : Nat := 0x118
def FEC.MARGIN_CAUSE_STRUCT : Fld := ⟨0x118, 0, 8⟩
def FEC.MARGIN_CAUSE_THERM : Fld := ⟨0x118, 8, 8⟩
def FEC.MARGIN_CAUSE_DROOP : Fld := ⟨0x118, 16, 8⟩
def FEC.MARGIN_CAUSE_GOV : Fld := ⟨0x118, 24, 8⟩
def FEC.CODEWORDS : Nat := 0x11c
def FEC.CODEWORDS_NT : Fld := ⟨0x11c, 0, 9⟩
def FEC.CODEWORDS_NB : Fld := ⟨0x11c, 16, 10⟩
def FEC.FILL : Nat := 0x120
def FEC.FILL_BITS : Fld := ⟨0x120, 0, 16⟩
def FEC.ENGINES : Nat := 0x124
def FEC.ENGINES_POOL : Fld := ⟨0x124, 0, 5⟩
def FEC.ENGINES_SPARES_FREE : Fld := ⟨0x124, 8, 2⟩
def FEC.ENGINES_MISMATCHES : Fld := ⟨0x124, 16, 16⟩
def FEC.ENGINE_FAILED : Nat := 0x128
def FEC.ENGINE_FAILED_UNITS : Fld := ⟨0x128, 0, 26⟩
def FEC.LDPC_CORR_BITS : Nat := 0x12c
def FEC.BCH_CORR_BITS : Nat := 0x134
def FEC.CW_DECODED : Nat := 0x13c
def FEC.UNCORR_CW : Nat := 0x144
def FEC.LIM_HOST : Nat := 0x14c
def FEC.LIM_STRUCT : Nat := 0x154
def FEC.LIM_THERM : Nat := 0x15c
def FEC.LIM_DROOP : Nat := 0x164
def FEC.LIM_GOV : Nat := 0x16c
def FEC.BCH_FAILED : Nat := 0x174
def FEC.LATE_CW : Nat := 0x178
def FEC.ABSENT_CW : Nat := 0x17c
def FEC.UNCORR_FOLIOS : Nat := 0x180
/-- The block-specific registers of FEC. -/
def FEC.regs : List RegSpec :=
  [ ⟨0x100, 1, 0x4, 0x0, 0x1, 0x0, 0x0, 0x0, 0x0, 0x1, 0⟩,
    ⟨0x104, 1, 0x4, 0x0, 0x0, 0x1, 0x0, 0x0, 0x0, 0x0, 0⟩,
    ⟨0x108, 1, 0x4, 0x18, 0x1f, 0x0, 0x0, 0x0, 0x0, 0x0, 0⟩,
    ⟨0x10c, 1, 0x4, 0x18000018, 0x0, 0x0, 0x0, 0x0, 0x0, 0x0, 0⟩,
    ⟨0x110, 1, 0x4, 0x18181818, 0x0, 0x0, 0x0, 0x0, 0x0, 0x0, 0⟩,
    ⟨0x114, 1, 0x4, 0x0, 0x0, 0x0, 0x0, 0x0, 0x0, 0x0, 0⟩,
    ⟨0x118, 1, 0x4, 0x0, 0x0, 0x0, 0x0, 0x0, 0x0, 0x0, 0⟩,
    ⟨0x11c, 1, 0x4, 0x0, 0x0, 0x0, 0x0, 0x0, 0x0, 0x0, 0⟩,
    ⟨0x120, 1, 0x4, 0x0, 0x0, 0x0, 0x0, 0x0, 0x0, 0x0, 0⟩,
    ⟨0x124, 1, 0x4, 0x218, 0x0, 0x0, 0x0, 0x0, 0x0, 0x0, 0⟩,
    ⟨0x128, 1, 0x4, 0x0, 0x0, 0x0, 0x0, 0x0, 0x0, 0x0, 0⟩,
    ⟨0x12c, 1, 0x4, 0x0, 0x0, 0x0, 0x0, 0x0, 0x0, 0x0, 1⟩ ] ++
  [ ⟨0x130, 1, 0x4, 0x0, 0x0, 0x0, 0x0, 0x0, 0x0, 0x0, 2⟩,
    ⟨0x134, 1, 0x4, 0x0, 0x0, 0x0, 0x0, 0x0, 0x0, 0x0, 1⟩,
    ⟨0x138, 1, 0x4, 0x0, 0x0, 0x0, 0x0, 0x0, 0x0, 0x0, 2⟩,
    ⟨0x13c, 1, 0x4, 0x0, 0x0, 0x0, 0x0, 0x0, 0x0, 0x0, 1⟩,
    ⟨0x140, 1, 0x4, 0x0, 0x0, 0x0, 0x0, 0x0, 0x0, 0x0, 2⟩,
    ⟨0x144, 1, 0x4, 0x0, 0x0, 0x0, 0x0, 0x0, 0x0, 0x0, 1⟩,
    ⟨0x148, 1, 0x4, 0x0, 0x0, 0x0, 0x0, 0x0, 0x0, 0x0, 2⟩,
    ⟨0x14c, 1, 0x4, 0x0, 0x0, 0x0, 0x0, 0x0, 0x0, 0x0, 1⟩,
    ⟨0x150, 1, 0x4, 0x0, 0x0, 0x0, 0x0, 0x0, 0x0, 0x0, 2⟩,
    ⟨0x154, 1, 0x4, 0x0, 0x0, 0x0, 0x0, 0x0, 0x0, 0x0, 1⟩,
    ⟨0x158, 1, 0x4, 0x0, 0x0, 0x0, 0x0, 0x0, 0x0, 0x0, 2⟩,
    ⟨0x15c, 1, 0x4, 0x0, 0x0, 0x0, 0x0, 0x0, 0x0, 0x0, 1⟩ ] ++
  [ ⟨0x160, 1, 0x4, 0x0, 0x0, 0x0, 0x0, 0x0, 0x0, 0x0, 2⟩,
    ⟨0x164, 1, 0x4, 0x0, 0x0, 0x0, 0x0, 0x0, 0x0, 0x0, 1⟩,
    ⟨0x168, 1, 0x4, 0x0, 0x0, 0x0, 0x0, 0x0, 0x0, 0x0, 2⟩,
    ⟨0x16c, 1, 0x4, 0x0, 0x0, 0x0, 0x0, 0x0, 0x0, 0x0, 1⟩,
    ⟨0x170, 1, 0x4, 0x0, 0x0, 0x0, 0x0, 0x0, 0x0, 0x0, 2⟩,
    ⟨0x174, 1, 0x4, 0x0, 0x0, 0x0, 0x0, 0x0, 0xffffffff, 0x0, 0⟩,
    ⟨0x178, 1, 0x4, 0x0, 0x0, 0x0, 0x0, 0x0, 0xffffffff, 0x0, 0⟩,
    ⟨0x17c, 1, 0x4, 0x0, 0x0, 0x0, 0x0, 0x0, 0xffffffff, 0x0, 0⟩,
    ⟨0x180, 1, 0x4, 0x0, 0x0, 0x0, 0x0, 0x0, 0xffffffff, 0x0, 0⟩ ]

/-! ### FRM -/

/-- First address of page FRMn (Table 3-1). -/
def FRM.page (n : Nat) : Nat := 0x1c000 + 0x1000 * n
def FRM.RATE : Nat := 0x100
def FRM.RATE_BAUD : Fld := ⟨0x100, 0, 10⟩
def FRM.RATE_SERVICE : Fld := ⟨0x100, 16, 5⟩
def FRM.CTRL : Nat := 0x104
def FRM.CTRL_UNC_SQUELCH : Fld := ⟨0x104, 0, 1⟩
def FRM.CTRL_TRACE_CMP : Fld := ⟨0x104, 1, 1⟩
def FRM.CTRL_TRACE_ACT : Fld := ⟨0x104, 2, 1⟩
def FRM.CTRL_RDI_EN : Fld := ⟨0x104, 3, 1⟩
def FRM.CTRL_PS_HOST : Fld := ⟨0x104, 4, 1⟩
def FRM.CMD : Nat := 0x108
def FRM.CMD_ALIGN_RESTART : Fld := ⟨0x108, 0, 1⟩
def FRM.CMD_HB_SNAP : Fld := ⟨0x108, 1, 1⟩
def FRM.ALIGN_CFG : Nat := 0x10c
def FRM.ALIGN_CFG_FAW_TOL : Fld := ⟨0x10c, 0, 3⟩
def FRM.UNC_CFG : Nat := 0x110
def FRM.UNC_CFG_N : Fld := ⟨0x110, 0, 4⟩
def FRM.UNC_CFG_M : Fld := ⟨0x110, 8, 4⟩
def FRM.SD_CFG : Nat := 0x114
def FRM.SD_CFG_SET : Fld := ⟨0x114, 0, 16⟩
def FRM.SD_CFG_CLEAR : Fld := ⟨0x114, 16, 16⟩
def FRM.PS_PERSIST : Nat := 0x118
def FRM.PS_PERSIST_N : Fld := ⟨0x118, 0, 3⟩
def FRM.PS_TX : Nat := 0x11c
def FRM.PS_TX_VALUE : Fld := ⟨0x11c, 0, 32⟩
def FRM.PS_RX : Nat := 0x120
def FRM.PS_RX_ACCEPTED : Fld := ⟨0x120, 0, 32⟩
def FRM.PS_RX_LAST : Nat := 0x124
def FRM.PS_RX_LAST_VALUE : Fld := ⟨0x124, 0, 32⟩
def FRM.CAP_CFG : Nat := 0x128
def FRM.CAP_CFG_VER_MAX : Fld := ⟨0x128, 0, 4⟩
def FRM.CAP_RX : Nat := 0x12c
def FRM.CAP_STATUS : Nat := 0x134
def FRM.CAP_STATUS_VER_AGREED : Fld := ⟨0x134, 0, 4⟩
def FRM.CAP_STATUS_VER_RX : Fld := ⟨0x134, 4, 4⟩
def FRM.CAP_STATUS_PEER_VALID : Fld := ⟨0x134, 8, 1⟩
def FRM.CAP_STATUS_M_VER : Fld := ⟨0x134, 16, 1⟩
def FRM.CAP_STATUS_M_FORMAT : Fld := ⟨0x134, 17, 1⟩
def FRM.CAP_STATUS_M_ENTROPY : Fld := ⟨0x134, 18, 1⟩
def FRM.CAP_STATUS_M_PROFILE : Fld := ⟨0x134, 19, 1⟩
def FRM.CAP_STATUS_M_K : Fld := ⟨0x134, 20, 1⟩
def FRM.CAP_STATUS_M_ROLE : Fld := ⟨0x134, 21, 1⟩
def FRM.CAP_STATUS_M_SLOTS : Fld := ⟨0x134, 22, 1⟩
def FRM.CAP_STATUS_M_BAUD : Fld := ⟨0x134, 23, 1⟩
def FRM.ALIGN_STATUS : Nat := 0x138
def FRM.ALIGN_STATUS_LOCKED : Fld := ⟨0x138, 0, 16⟩
def FRM.ALIGN_STATUS_HYPS : Fld := ⟨0x138, 16, 3⟩
def FRM.ALIGN_STATUS_HYP_DROPS : Fld := ⟨0x138, 24, 8⟩
def FRM.DEFECTS : Nat := 0x13c
def FRM.DEFECTS_LOA : Fld := ⟨0x13c, 0, 1⟩
def FRM.DEFECTS_UNC : Fld := ⟨0x13c, 1, 1⟩
def FRM.DEFECTS_TIM : Fld := ⟨0x13c, 2, 1⟩
def FRM.DEFECTS_SD : Fld := ⟨0x13c, 3, 1⟩
def FRM.DEFECTS_RDI_RX : Fld := ⟨0x13c, 4, 1⟩
def FRM.DEFECTS_CAP : Fld := ⟨0x13c, 5, 1⟩
def FRM.DEFECTS_LADDER : Fld := ⟨0x13c, 6, 1⟩
def FRM.DEFECTS_RDI_TX : Fld := ⟨0x13c, 8, 1⟩
def FRM.STREAM_DEFECTS : Nat := 0x140
def FRM.STREAM_DEFECTS_LOA_S : Fld := ⟨0x140, 0, 16⟩
def FRM.STREAM_DEFECTS_UNC_S : Fld := ⟨0x140, 16, 16⟩
def FRM.RX_FES : Nat := 0x144
def FRM.RX_FES_BEI : Fld := ⟨0x144, 0, 7⟩
def FRM.RX_FES_RDI : Fld := ⟨0x144, 8, 1⟩
def FRM.RX_RDI_POS : Nat := 0x148
def FRM.RX_RDI_POS_POS : Fld := ⟨0x148, 0, 32⟩
def FRM.BIP_ERRS : Nat := 0x14c
def FRM.BEI_ERRS : Nat := 0x154
def FRM.ERR_FOLIOS : Nat := 0x15c
def FRM.ABSENT_FOLIOS : Nat := 0x160
def FRM.MISSES : Nat := 0x164
def FRM.LOA_COUNT : Nat := 0x168
def FRM.MC_DROPPED : Nat := 0x16c
def FRM.SPINE_BAD : Nat := 0x170
/-- The block-specific registers of FRM. -/
def FRM.regs : List RegSpec :=
  [ ⟨0x100, 1, 0x4, 0x180258, 0x1f03ff, 0x0, 0x0, 0x0, 0x0, 0x1f03ff, 0⟩,
    ⟨0x104, 1, 0x4, 0x8, 0x1f, 0x0, 0x0, 0x0, 0x0, 0x0, 0⟩,
    ⟨0x108, 1, 0x4, 0x0, 0x0, 0x3, 0x0, 0x0, 0x0, 0x0, 0⟩,
    ⟨0x10c, 1, 0x4, 0x3, 0x7, 0x0, 0x0, 0x0, 0x0, 0x0, 0⟩,
    ⟨0x110, 1, 0x4, 0x803, 0xf0f, 0x0, 0x0, 0x0, 0x0, 0x0, 0⟩,
    ⟨0x114, 1, 0x4, 0x6403e8, 0xffffffff, 0x0, 0x0, 0x0, 0x0, 0x0, 0⟩,
    ⟨0x118, 1, 0x4, 0x3, 0x7, 0x0, 0x0, 0x0, 0x0, 0x0, 0⟩,
    ⟨0x11c, 1, 0x4, 0x0, 0xffffffff, 0x0, 0x0, 0x0, 0x0, 0x0, 0⟩,
    ⟨0x120, 1, 0x4, 0x0, 0x0, 0x0, 0x0, 0x0, 0x0, 0x0, 0⟩,
    ⟨0x124, 1, 0x4, 0x0, 0x0, 0x0, 0x0, 0x0, 0x0, 0x0, 0⟩,
    ⟨0x128, 1, 0x4, 0x2, 0xf, 0x0, 0x0, 0x0, 0x0, 0xf, 0⟩,
    ⟨0x12c, 1, 0x4, 0x0, 0x0, 0x0, 0x0, 0x0, 0x0, 0x0, 1⟩ ] ++
  [ ⟨0x130, 1, 0x4, 0x0, 0x0, 0x0, 0x0, 0x0, 0x0, 0x0, 2⟩,
    ⟨0x134, 1, 0x4, 0x0, 0x0, 0x0, 0x0, 0x0, 0x0, 0x0, 0⟩,
    ⟨0x138, 1, 0x4, 0x0, 0x0, 0x0, 0x0, 0x0, 0x0, 0x0, 0⟩,
    ⟨0x13c, 1, 0x4, 0x0, 0x0, 0x0, 0x0, 0x0, 0x0, 0x0, 0⟩,
    ⟨0x140, 1, 0x4, 0x0, 0x0, 0x0, 0x0, 0x0, 0x0, 0x0, 0⟩,
    ⟨0x144, 1, 0x4, 0x0, 0x0, 0x0, 0x0, 0x0, 0x0, 0x0, 0⟩,
    ⟨0x148, 1, 0x4, 0x0, 0x0, 0x0, 0x0, 0x0, 0x0, 0x0, 0⟩,
    ⟨0x14c, 1, 0x4, 0x0, 0x0, 0x0, 0x0, 0x0, 0x0, 0x0, 1⟩,
    ⟨0x150, 1, 0x4, 0x0, 0x0, 0x0, 0x0, 0x0, 0x0, 0x0, 2⟩,
    ⟨0x154, 1, 0x4, 0x0, 0x0, 0x0, 0x0, 0x0, 0x0, 0x0, 1⟩,
    ⟨0x158, 1, 0x4, 0x0, 0x0, 0x0, 0x0, 0x0, 0x0, 0x0, 2⟩,
    ⟨0x15c, 1, 0x4, 0x0, 0x0, 0x0, 0x0, 0x0, 0xffffffff, 0x0, 0⟩ ] ++
  [ ⟨0x160, 1, 0x4, 0x0, 0x0, 0x0, 0x0, 0x0, 0xffffffff, 0x0, 0⟩,
    ⟨0x164, 1, 0x4, 0x0, 0x0, 0x0, 0x0, 0x0, 0xffffffff, 0x0, 0⟩,
    ⟨0x168, 1, 0x4, 0x0, 0x0, 0x0, 0x0, 0x0, 0xffffffff, 0x0, 0⟩,
    ⟨0x16c, 1, 0x4, 0x0, 0x0, 0x0, 0x0, 0x0, 0xffffffff, 0x0, 0⟩,
    ⟨0x170, 1, 0x4, 0x0, 0x0, 0x0, 0x0, 0x0, 0xffffffff, 0x0, 0⟩ ]

/-! ### GTH -/

/-- First address of page GTH (Table 3-1). -/
def GTH.page : Nat := 0x1e000
def GTH.COLL_CFG : Nat := 0x100
def GTH.COLL_CFG_GUARD : Fld := ⟨0x100, 0, 13⟩
def GTH.COLL_CFG_STEP_LIMIT : Fld := ⟨0x100, 16, 13⟩
def GTH.LOSS_CFG : Nat := 0x104
def GTH.LOSS_CFG_LOSS_N : Fld := ⟨0x104, 0, 8⟩
def GTH.LOSS_CFG_LOCK_N : Fld := ⟨0x104, 8, 4⟩
def GTH.CMD : Nat := 0x108
def GTH.CMD_GATHERING : Fld := ⟨0x108, 0, 6⟩
def GTH.CMD_ACTION : Fld := ⟨0x108, 8, 3⟩
def GTH.CHECK_LAST : Nat := 0x10c
def GTH.CHECK_LAST_GATHERING : Fld := ⟨0x10c, 0, 6⟩
def GTH.CHECK_LAST_RULE : Fld := ⟨0x10c, 8, 4⟩
def GTH.COLL_RESERVED : Nat := 0x110
def GTH.COLL_RESERVED_SLOTS : Fld := ⟨0x110, 0, 7⟩
def GTH.ENABLED : Nat := 0x114
def GTH.FAILED : Nat := 0x11c
def GTH.PG_CMD : Nat := 0x124
def GTH.PG_CMD_GROUP : Fld := ⟨0x124, 0, 2⟩
def GTH.PG_CMD_CMD : Fld := ⟨0x124, 4, 3⟩
def GTH.PG_CFG (i : Nat) : Nat := 0x128 + 4 * i
def GTH.PG_CFG_W (i : Nat) : Fld := ⟨0x128 + 4 * i, 0, 6⟩
def GTH.PG_CFG_P (i : Nat) : Fld := ⟨0x128 + 4 * i, 8, 6⟩
def GTH.PG_CFG_EN (i : Nat) : Fld := ⟨0x128 + 4 * i, 15, 1⟩
def GTH.PG_CFG_WTR (i : Nat) : Fld := ⟨0x128 + 4 * i, 16, 10⟩
def GTH.PG_CFG_REVERTIVE (i : Nat) : Fld := ⟨0x128 + 4 * i, 26, 1⟩
def GTH.PG_CFG_HOLD_OFF (i : Nat) : Fld := ⟨0x128 + 4 * i, 28, 4⟩
def GTH.PG_STATUS (i : Nat) : Nat := 0x138 + 4 * i
def GTH.PG_STATUS_LOCAL_REQ (i : Nat) : Fld := ⟨0x138 + 4 * i, 0, 4⟩
def GTH.PG_STATUS_FAR_REQ (i : Nat) : Fld := ⟨0x138 + 4 * i, 4, 4⟩
def GTH.PG_STATUS_SIG (i : Nat) : Fld := ⟨0x138 + 4 * i, 8, 1⟩
def GTH.PG_STATUS_BR (i : Nat) : Fld := ⟨0x138 + 4 * i, 9, 1⟩
def GTH.PG_STATUS_FAR_BR (i : Nat) : Fld := ⟨0x138 + 4 * i, 10, 1⟩
def GTH.PG_STATUS_SEL_P (i : Nat) : Fld := ⟨0x138 + 4 * i, 11, 1⟩
def GTH.PG_STATUS_SF_W (i : Nat) : Fld := ⟨0x138 + 4 * i, 12, 1⟩
def GTH.PG_STATUS_SD_W (i : Nat) : Fld := ⟨0x138 + 4 * i, 13, 1⟩
def GTH.PG_STATUS_SF_P (i : Nat) : Fld := ⟨0x138 + 4 * i, 14, 1⟩
def GTH.PG_STATUS_WTR_LEFT (i : Nat) : Fld := ⟨0x138 + 4 * i, 16, 10⟩
def GTH.PS_TX : Nat := 0x148
def GTH.PS_TX_VALUE : Fld := ⟨0x148, 0, 32⟩
def GTH.PSW_COUNT : Nat := 0x14c
def GTH.RECOLL_COUNT : Nat := 0x150
/-- The block-specific registers of GTH. -/
def GTH.regs : List RegSpec :=
  [ ⟨0x100, 1, 0x4, 0x3e807d0, 0x1fff1fff, 0x0, 0x0, 0x0, 0x0, 0x0, 0⟩,
    ⟨0x104, 1, 0x4, 0x308, 0xfff, 0x0, 0x0, 0x0, 0x0, 0x0, 0⟩,
    ⟨0x108, 1, 0x4, 0x0, 0x0, 0x73f, 0x0, 0x0, 0x0, 0x0, 0⟩,
    ⟨0x10c, 1, 0x4, 0x0, 0x0, 0x0, 0x0, 0x0, 0x0, 0x0, 0⟩,
    ⟨0x110, 1, 0x4, 0x0, 0x0, 0x0, 0x0, 0x0, 0x0, 0x0, 0⟩,
    ⟨0x114, 1, 0x4, 0x0, 0x0, 0x0, 0x0, 0x0, 0x0, 0x0, 1⟩,
    ⟨0x118, 1, 0x4, 0x0, 0x0, 0x0, 0x0, 0x0, 0x0, 0x0, 2⟩,
    ⟨0x11c, 1, 0x4, 0x0, 0x0, 0x0, 0x0, 0x0, 0x0, 0x0, 1⟩,
    ⟨0x120, 1, 0x4, 0x0, 0x0, 0x0, 0x0, 0x0, 0x0, 0x0, 2⟩,
    ⟨0x124, 1, 0x4, 0x0, 0x0, 0x73, 0x0, 0x0, 0x0, 0x0, 0⟩,
    ⟨0x128, 4, 0x4, 0x52c0000, 0xf7ffbf3f, 0x0, 0x0, 0x0, 0x0, 0x0, 0⟩,
    ⟨0x138, 4, 0x4, 0x0, 0x0, 0x0, 0x0, 0x0, 0x0, 0x0, 0⟩ ] ++
  [ ⟨0x148, 1, 0x4, 0x0, 0x0, 0x0, 0x0, 0x0, 0x0, 0x0, 0⟩,
    ⟨0x14c, 1, 0x4, 0x0, 0x0, 0x0, 0x0, 0x0, 0xffffffff, 0x0, 0⟩,
    ⟨0x150, 1, 0x4, 0x0, 0x0, 0x0, 0x0, 0x0, 0xffffffff, 0x0, 0⟩ ]

/-! ### CRY -/

/-- First address of page CRY (Table 3-1). -/
def CRY.page : Nat := 0x1f000
def CRY.CTRL : Nat := 0x100
def CRY.CTRL_AUTO_SWITCH : Fld := ⟨0x100, 0, 1⟩
def CRY.CMD : Nat := 0x104
def CRY.CMD_GATHERING : Fld := ⟨0x104, 0, 6⟩
def CRY.CMD_ACTION : Fld := ⟨0x104, 8, 2⟩
def CRY.CMD_SELF_TEST : Fld := ⟨0x104, 16, 1⟩
def CRY.CTR_WARN : Nat := 0x108
def CRY.CTR_WARN_THRESHOLD : Fld := ⟨0x108, 0, 32⟩
def CRY.SELFTEST : Nat := 0x10c
def CRY.SELFTEST_RESULT : Fld := ⟨0x10c, 0, 2⟩
def CRY.SELFTEST_RUNNING : Fld := ⟨0x10c, 2, 1⟩
def CRY.AGREE_CMD : Nat := 0x110
def CRY.AGREE_CMD_GATHERING : Fld := ⟨0x110, 0, 6⟩
def CRY.AGREE_CMD_START : Fld := ⟨0x110, 8, 1⟩
def CRY.AGREE_CMD_ABORT : Fld := ⟨0x110, 9, 1⟩
def CRY.AGREE_STATUS : Nat := 0x114
def CRY.AGREE_STATUS_STATE : Fld := ⟨0x114, 0, 3⟩
def CRY.AGREE_STATUS_ROLE : Fld := ⟨0x114, 3, 1⟩
def CRY.AGREE_STATUS_GATHERING : Fld := ⟨0x114, 8, 6⟩
def CRY.AGREE_STATUS_CAUSE : Fld := ⟨0x114, 16, 4⟩
def CRY.GUARD_STATE : Nat := 0x118
def CRY.GUARD_STATE_LOCK : Fld := ⟨0x118, 0, 1⟩
def CRY.RELEASED_UNVERIFIED : Nat := 0x11c
def CRY.RU_FLAGS : Nat := 0x124
def CRY.UNITS_VERIFIED : Nat := 0x12c
def CRY.TAG_FAILS : Nat := 0x134
def CRY.KEY_MISSING : Nat := 0x138
/-- The block-specific registers of CRY. -/
def CRY.regs : List RegSpec :=
  [ ⟨0x100, 1, 0x4, 0x1, 0x1, 0x0, 0x0, 0x0, 0x0, 0x0, 0⟩,
    ⟨0x104, 1, 0x4, 0x0, 0x0, 0x1033f, 0x0, 0x0, 0x0, 0x0, 0⟩,
    ⟨0x108, 1, 0x4, 0x80000000, 0xffffffff, 0x0, 0x0, 0x0, 0x0, 0x0, 0⟩,
    ⟨0x10c, 1, 0x4, 0x0, 0x0, 0x0, 0x0, 0x0, 0x0, 0x0, 0⟩,
    ⟨0x110, 1, 0x4, 0x0, 0x0, 0x33f, 0x0, 0x0, 0x0, 0x0, 0⟩,
    ⟨0x114, 1, 0x4, 0x0, 0x0, 0x0, 0x0, 0x0, 0x0, 0x0, 0⟩,
    ⟨0x118, 1, 0x4, 0x0, 0x0, 0x0, 0x0, 0x0, 0x0, 0x0, 0⟩,
    ⟨0x11c, 1, 0x4, 0x0, 0x0, 0x0, 0x0, 0x0, 0x0, 0x0, 1⟩,
    ⟨0x120, 1, 0x4, 0x0, 0x0, 0x0, 0x0, 0x0, 0x0, 0x0, 2⟩,
    ⟨0x124, 1, 0x4, 0x0, 0x0, 0x0, 0xffffffff, 0x0, 0x0, 0x0, 1⟩,
    ⟨0x128, 1, 0x4, 0x0, 0x0, 0x0, 0xffffffff, 0x0, 0x0, 0x0, 2⟩,
    ⟨0x12c, 1, 0x4, 0x0, 0x0, 0x0, 0x0, 0x0, 0x0, 0x0, 1⟩ ] ++
  [ ⟨0x130, 1, 0x4, 0x0, 0x0, 0x0, 0x0, 0x0, 0x0, 0x0, 2⟩,
    ⟨0x134, 1, 0x4, 0x0, 0x0, 0x0, 0x0, 0x0, 0xffffffff, 0x0, 0⟩,
    ⟨0x138, 1, 0x4, 0x0, 0x0, 0x0, 0x0, 0x0, 0xffffffff, 0x0, 0⟩ ]

/-! ### OSP -/

/-- First address of page OSP (Table 3-1). -/
def OSP.page : Nat := 0x20000
def OSP.PORT_CFG (i : Nat) : Nat := 0x100 + 4 * i
def OSP.PORT_CFG_EXT_EN (i : Nat) : Fld := ⟨0x100 + 4 * i, 0, 1⟩
def OSP.PORT_CFG_INS_EN (i : Nat) : Fld := ⟨0x100 + 4 * i, 1, 1⟩
def OSP.PORT_CFG_CARRIER (i : Nat) : Fld := ⟨0x100 + 4 * i, 2, 1⟩
def OSP.PORT_CFG_CHAN (i : Nat) : Fld := ⟨0x100 + 4 * i, 3, 1⟩
def OSP.PORT_CFG_IDLE (i : Nat) : Fld := ⟨0x100 + 4 * i, 8, 8⟩
def OSP.MC_SRC : Nat := 0x110
def OSP.MC_SRC_SRC (j : Nat) : Fld := ⟨0x110, 2 * j, 2⟩
def OSP.INS_LEVEL : Nat := 0x114
def OSP.INS_LEVEL_LEVEL (j : Nat) : Fld := ⟨0x114, 8 * j, 5⟩
def OSP.INS_OVERFLOWS (i : Nat) : Nat := 0x118 + 4 * i
def OSP.INS_SHORT (i : Nat) : Nat := 0x128 + 4 * i
/-- The block-specific registers of OSP. -/
def OSP.regs : List RegSpec :=
  [ ⟨0x100, 4, 0x4, 0x7e00, 0xff0f, 0x0, 0x0, 0x0, 0x0, 0x0, 0⟩,
    ⟨0x110, 1, 0x4, 0x55, 0xff, 0x0, 0x0, 0x0, 0x0, 0x0, 0⟩,
    ⟨0x114, 1, 0x4, 0x0, 0x0, 0x0, 0x0, 0x0, 0x0, 0x0, 0⟩,
    ⟨0x118, 4, 0x4, 0x0, 0x0, 0x0, 0x0, 0x0, 0xffffffff, 0x0, 0⟩,
    ⟨0x128, 4, 0x4, 0x0, 0x0, 0x0, 0x0, 0x0, 0xffffffff, 0x0, 0⟩ ]

/-! ### PMB -/

/-- First address of page PMB (Table 3-1). -/
def PMB.page : Nat := 0x21000
def PMB.CTRL : Nat := 0x100
def PMB.CTRL_CAR_EN : Fld := ⟨0x100, 0, 1⟩
def PMB.CTRL_GTH_EN : Fld := ⟨0x100, 1, 1⟩
def PMB.CTRL_EP_EN : Fld := ⟨0x100, 2, 1⟩
def PMB.ALIGN_OFFSET : Nat := 0x104
def PMB.EP_BASE : Nat := 0x10c
def PMB.EP_BASE_BASE : Fld := ⟨0x10c, 0, 21⟩
def PMB.INTERVAL : Nat := 0x110
def PMB.INTERVAL_Q : Fld := ⟨0x110, 0, 32⟩
def PMB.DAY : Nat := 0x114
def PMB.DAY_D : Fld := ⟨0x114, 0, 32⟩
def PMB.TCA_WR : Nat := 0x118
def PMB.TCA_WR_COUNT : Fld := ⟨0x118, 0, 32⟩
/-- The block-specific registers of PMB. -/
def PMB.regs : List RegSpec :=
  [ ⟨0x100, 1, 0x4, 0x3, 0x7, 0x0, 0x0, 0x0, 0x0, 0x0, 0⟩,
    ⟨0x104, 1, 0x4, 0x0, 0xffffffff, 0x0, 0x0, 0x0, 0x0, 0x0, 1⟩,
    ⟨0x108, 1, 0x4, 0x0, 0xffffffff, 0x0, 0x0, 0x0, 0x0, 0x0, 2⟩,
    ⟨0x10c, 1, 0x4, 0x0, 0x1fffff, 0x0, 0x0, 0x0, 0x0, 0x0, 0⟩,
    ⟨0x110, 1, 0x4, 0x0, 0x0, 0x0, 0x0, 0x0, 0x0, 0x0, 0⟩,
    ⟨0x114, 1, 0x4, 0x0, 0x0, 0x0, 0x0, 0x0, 0x0, 0x0, 0⟩,
    ⟨0x118, 1, 0x4, 0x0, 0x0, 0x0, 0x0, 0x0, 0x0, 0x0, 0⟩ ]

/-! ### CLN -/

/-- First address of page CLNn (Table 3-1). -/
def CLN.page (n : Nat) : Nat := 0x30000 + 0x1000 * n
def CLN.QUAD_CFG : Nat := 0x100
def CLN.QUAD_CFG_MODE : Fld := ⟨0x100, 0, 4⟩
def CLN.QUAD_CFG_TX_TIMING : Fld := ⟨0x100, 4, 1⟩
def CLN.QUAD_STATUS : Nat := 0x104
def CLN.QUAD_STATUS_PLL_LOCK : Fld := ⟨0x104, 0, 1⟩
def CLN.TX_FFE (u : Nat) : Nat := 0x200 + 0x40 * u
def CLN.TX_FFE_PRE2 (u : Nat) : Fld := ⟨0x200 + 0x40 * u, 0, 6⟩
def CLN.TX_FFE_PRE1 (u : Nat) : Fld := ⟨0x200 + 0x40 * u, 6, 6⟩
def CLN.TX_FFE_POST1 (u : Nat) : Fld := ⟨0x200 + 0x40 * u, 12, 6⟩
def CLN.TX_FFE_PRE3 (u : Nat) : Fld := ⟨0x200 + 0x40 * u, 18, 6⟩
def CLN.TX_CTRL (u : Nat) : Nat := 0x204 + 0x40 * u
def CLN.TX_CTRL_POL (u : Nat) : Fld := ⟨0x204 + 0x40 * u, 0, 1⟩
def CLN.TX_CTRL_SQUELCH (u : Nat) : Fld := ⟨0x204 + 0x40 * u, 1, 1⟩
def CLN.TX_CTRL_PATTERN (u : Nat) : Fld := ⟨0x204 + 0x40 * u, 8, 3⟩
def CLN.RX_CFG (u : Nat) : Nat := 0x208 + 0x40 * u
def CLN.RX_CFG_POL (u : Nat) : Fld := ⟨0x208 + 0x40 * u, 0, 1⟩
def CLN.RX_CFG_ADAPT_FREEZE (u : Nat) : Fld := ⟨0x208 + 0x40 * u, 1, 1⟩
def CLN.RX_CFG_CHECK (u : Nat) : Fld := ⟨0x208 + 0x40 * u, 8, 3⟩
def CLN.RX_STATUS (u : Nat) : Nat := 0x20c + 0x40 * u
def CLN.RX_STATUS_SIG_DET (u : Nat) : Fld := ⟨0x20c + 0x40 * u, 0, 1⟩
def CLN.RX_STATUS_CDR_LOCK (u : Nat) : Fld := ⟨0x20c + 0x40 * u, 1, 1⟩
def CLN.RX_STATUS_ADAPT_DONE (u : Nat) : Fld := ⟨0x20c + 0x40 * u, 2, 1⟩
def CLN.RX_STATUS_SNR (u : Nat) : Fld := ⟨0x20c + 0x40 * u, 8, 8⟩
def CLN.PATTERN_ERRS (u : Nat) : Nat := 0x210 + 0x40 * u
def CLN.PATTERN_ERRS_COUNT (u : Nat) : Fld := ⟨0x210 + 0x40 * u, 0, 32⟩
/-- The block-specific registers of CLN. -/
def CLN.regs : List RegSpec :=
  [ ⟨0x100, 1, 0x4, 0x1, 0x1f, 0x0, 0x0, 0x0, 0x0, 0xf, 0⟩,
    ⟨0x104, 1, 0x4, 0x0, 0x0, 0x0, 0x0, 0x0, 0x0, 0x0, 0⟩,
    ⟨0x200, 4, 0x40, 0x0, 0xffffff, 0x0, 0x0, 0x0, 0x0, 0x0, 0⟩,
    ⟨0x204, 4, 0x40, 0x0, 0x703, 0x0, 0x0, 0x0, 0x0, 0x0, 0⟩,
    ⟨0x208, 4, 0x40, 0x0, 0x703, 0x0, 0x0, 0x0, 0x0, 0x0, 0⟩,
    ⟨0x20c, 4, 0x40, 0x0, 0x0, 0x0, 0x0, 0x0, 0x0, 0x0, 0⟩,
    ⟨0x210, 4, 0x40, 0x0, 0x0, 0x0, 0x0, 0x0, 0xffffffff, 0x0, 0⟩ ]

/-! ### MAC -/

/-- First address of page MAC (Table 3-1). -/
def MAC.page : Nat := 0x38000
def MAC.PORT_CFG (i : Nat) : Nat := 0x100 + 4 * i
def MAC.PORT_CFG_EN (i : Nat) : Fld := ⟨0x100 + 4 * i, 0, 1⟩
def MAC.PORT_CFG_PATH (i : Nat) : Fld := ⟨0x100 + 4 * i, 1, 1⟩
def MAC.PORT_CFG_MAX_FRAME (i : Nat) : Fld := ⟨0x100 + 4 * i, 16, 14⟩
def MAC.PORT_STATUS (i : Nat) : Nat := 0x180 + 4 * i
def MAC.PORT_STATUS_PCS_ALIGNED (i : Nat) : Fld := ⟨0x180 + 4 * i, 0, 1⟩
def MAC.PORT_STATUS_HI_SER (i : Nat) : Fld := ⟨0x180 + 4 * i, 1, 1⟩
def MAC.PORT_STATUS_RX_LF (i : Nat) : Fld := ⟨0x180 + 4 * i, 2, 1⟩
def MAC.PORT_STATUS_RX_RF (i : Nat) : Fld := ⟨0x180 + 4 * i, 3, 1⟩
def MAC.PORT_STATUS_TX_LF (i : Nat) : Fld := ⟨0x180 + 4 * i, 4, 1⟩
def MAC.PORT_STATUS_CLIENT_FAIL (i : Nat) : Fld := ⟨0x180 + 4 * i, 5, 1⟩
def MAC.PORT_STATUS_MAP_SHORT (i : Nat) : Fld := ⟨0x180 + 4 * i, 6, 1⟩
/-- The block-specific registers of MAC. -/
def MAC.regs : List RegSpec :=
  [ ⟨0x100, 32, 0x4, 0x24000000, 0x3fff0003, 0x0, 0x0, 0x0, 0x0, 0x0, 0⟩,
    ⟨0x180, 32, 0x4, 0x0, 0x0, 0x0, 0x0, 0x0, 0x0, 0x0, 0⟩ ]

/-! ### CLS -/

/-- First address of page CLS (Table 3-1). -/
def CLS.page : Nat := 0x39000
def CLS.CTRL : Nat := 0x100
def CLS.CTRL_DT_EN : Fld := ⟨0x100, 0, 1⟩
def CLS.DT_BASE : Nat := 0x104
def CLS.DT_BASE_BASE : Fld := ⟨0x104, 0, 25⟩
def CLS.CMD : Nat := 0x108
def CLS.CMD_CACHE_FLUSH : Fld := ⟨0x108, 0, 1⟩
def CLS.MISS_LEVEL : Nat := 0x10c
def CLS.CACHE_HITS : Nat := 0x110
def CLS.CACHE_MISSES : Nat := 0x118
def CLS.NO_EP : Nat := 0x120
def CLS.UNKNOWN_DROP : Nat := 0x124
def CLS.UNKNOWN_FLOOD : Nat := 0x128
def CLS.MISS_OVERFLOW : Nat := 0x12c
def CLS.DT_READ_FAIL : Nat := 0x130
def CLS.DISCARDS : Nat := 0x134
/-- The block-specific registers of CLS. -/
def CLS.regs : List RegSpec :=
  [ ⟨0x100, 1, 0x4, 0x0, 0x1, 0x0, 0x0, 0x0, 0x0, 0x1, 0⟩,
    ⟨0x104, 1, 0x4, 0x0, 0x1ffffff, 0x0, 0x0, 0x0, 0x0, 0x1ffffff, 0⟩,
    ⟨0x108, 1, 0x4, 0x0, 0x0, 0x1, 0x0, 0x0, 0x0, 0x0, 0⟩,
    ⟨0x10c, 1, 0x4, 0x0, 0x0, 0x0, 0x0, 0x0, 0x0, 0x0, 0⟩,
    ⟨0x110, 1, 0x4, 0x0, 0x0, 0x0, 0x0, 0x0, 0x0, 0x0, 1⟩,
    ⟨0x114, 1, 0x4, 0x0, 0x0, 0x0, 0x0, 0x0, 0x0, 0x0, 2⟩,
    ⟨0x118, 1, 0x4, 0x0, 0x0, 0x0, 0x0, 0x0, 0x0, 0x0, 1⟩,
    ⟨0x11c, 1, 0x4, 0x0, 0x0, 0x0, 0x0, 0x0, 0x0, 0x0, 2⟩,
    ⟨0x120, 1, 0x4, 0x0, 0x0, 0x0, 0x0, 0x0, 0xffffffff, 0x0, 0⟩,
    ⟨0x124, 1, 0x4, 0x0, 0x0, 0x0, 0x0, 0x0, 0xffffffff, 0x0, 0⟩,
    ⟨0x128, 1, 0x4, 0x0, 0x0, 0x0, 0x0, 0x0, 0xffffffff, 0x0, 0⟩,
    ⟨0x12c, 1, 0x4, 0x0, 0x0, 0x0, 0x0, 0x0, 0xffffffff, 0x0, 0⟩ ] ++
  [ ⟨0x130, 1, 0x4, 0x0, 0x0, 0x0, 0x0, 0x0, 0xffffffff, 0x0, 0⟩,
    ⟨0x134, 1, 0x4, 0x0, 0x0, 0x0, 0x0, 0x0, 0xffffffff, 0x0, 0⟩ ]

/-! ### QMG -/

/-- First address of page QMG (Table 3-1). -/
def QMG.page : Nat := 0x3a000
def QMG.CTRL : Nat := 0x100
def QMG.CTRL_ONDIE_FLOOR : Fld := ⟨0x100, 0, 16⟩
def QMG.ONDIE_FREE : Nat := 0x104
def QMG.ONDIE_FREE_KIB : Fld := ⟨0x104, 0, 17⟩
def QMG.BP_CFG : Nat := 0x108
def QMG.BP_CFG_XOFF : Fld := ⟨0x108, 0, 8⟩
def QMG.BP_CFG_XON : Fld := ⟨0x108, 8, 8⟩
def QMG.BP_STATE : Nat := 0x10c
def QMG.BP_STATE_PAUSED : Fld := ⟨0x10c, 0, 32⟩
def QMG.DROP_DISABLED : Nat := 0x110
def QMG.DROP_COLOUR : Nat := 0x114
def QMG.DROP_NOBUF : Nat := 0x118
def QMG.DROP_BW : Nat := 0x11c
def QMG.DEQ_DISCARDS : Nat := 0x120
def QMG.EGRESS_OVF_BYTES : Nat := 0x124
def QMG.EGRESS_STALLS : Nat := 0x12c
def QMG.ADM_PROFILE (i : Nat) : Nat := 0x200 + 16 * i
def QMG.ADM_PROFILE_TH_G (i : Nat) : Fld := ⟨0x200 + 16 * i, 0, 32⟩
def QMG.ADM_PROFILE_TH_Y (i : Nat) : Fld := ⟨0x200 + 16 * i + 4, 0, 32⟩
def QMG.ADM_PROFILE_TH_R (i : Nat) : Fld := ⟨0x200 + 16 * i + 8, 0, 32⟩
def QMG.ADM_PROFILE_SPILL (i : Nat) : Fld := ⟨0x200 + 16 * i + 12, 0, 32⟩
/-- The block-specific registers of QMG. -/
def QMG.regs : List RegSpec :=
  [ ⟨0x100, 1, 0x4, 0x1000, 0xffff, 0x0, 0x0, 0x0, 0x0, 0x0, 0⟩,
    ⟨0x104, 1, 0x4, 0x10000, 0x0, 0x0, 0x0, 0x0, 0x0, 0x0, 0⟩,
    ⟨0x108, 1, 0x4, 0x4060, 0xffff, 0x0, 0x0, 0x0, 0x0, 0x0, 0⟩,
    ⟨0x10c, 1, 0x4, 0x0, 0x0, 0x0, 0x0, 0x0, 0x0, 0x0, 0⟩,
    ⟨0x110, 1, 0x4, 0x0, 0x0, 0x0, 0x0, 0x0, 0xffffffff, 0x0, 0⟩,
    ⟨0x114, 1, 0x4, 0x0, 0x0, 0x0, 0x0, 0x0, 0xffffffff, 0x0, 0⟩,
    ⟨0x118, 1, 0x4, 0x0, 0x0, 0x0, 0x0, 0x0, 0xffffffff, 0x0, 0⟩,
    ⟨0x11c, 1, 0x4, 0x0, 0x0, 0x0, 0x0, 0x0, 0xffffffff, 0x0, 0⟩,
    ⟨0x120, 1, 0x4, 0x0, 0x0, 0x0, 0x0, 0x0, 0xffffffff, 0x0, 0⟩,
    ⟨0x124, 1, 0x4, 0x0, 0x0, 0x0, 0x0, 0x0, 0x0, 0x0, 1⟩,
    ⟨0x128, 1, 0x4, 0x0, 0x0, 0x0, 0x0, 0x0, 0x0, 0x0, 2⟩,
    ⟨0x12c, 1, 0x4, 0x0, 0x0, 0x0, 0x0, 0x0, 0xffffffff, 0x0, 0⟩ ] ++
  [ ⟨0x200, 64, 0x10, 0x1000, 0xffffffff, 0x0, 0x0, 0x0, 0x0, 0x0, 0⟩,
    ⟨0x204, 64, 0x10, 0x800, 0xffffffff, 0x0, 0x0, 0x0, 0x0, 0x0, 0⟩,
    ⟨0x208, 64, 0x10, 0x0, 0xffffffff, 0x0, 0x0, 0x0, 0x0, 0x0, 0⟩,
    ⟨0x20c, 64, 0x10, 0x400, 0xffffffff, 0x0, 0x0, 0x0, 0x0, 0x0, 0⟩ ]

/-! ### MTR -/

/-- First address of page MTR (Table 3-1). -/
def MTR.page : Nat := 0x3b000
def MTR.CTRL : Nat := 0x100
def MTR.CTRL_PRECOLOUR_DEI : Fld := ⟨0x100, 0, 1⟩
def MTR.GREEN_FRAMES : Nat := 0x104
def MTR.YELLOW_FRAMES : Nat := 0x10c
def MTR.RED_FRAMES : Nat := 0x114
/-- The block-specific registers of MTR. -/
def MTR.regs : List RegSpec :=
  [ ⟨0x100, 1, 0x4, 0x1, 0x1, 0x0, 0x0, 0x0, 0x0, 0x0, 0⟩,
    ⟨0x104, 1, 0x4, 0x0, 0x0, 0x0, 0x0, 0x0, 0x0, 0x0, 1⟩,
    ⟨0x108, 1, 0x4, 0x0, 0x0, 0x0, 0x0, 0x0, 0x0, 0x0, 2⟩,
    ⟨0x10c, 1, 0x4, 0x0, 0x0, 0x0, 0x0, 0x0, 0x0, 0x0, 1⟩,
    ⟨0x110, 1, 0x4, 0x0, 0x0, 0x0, 0x0, 0x0, 0x0, 0x0, 2⟩,
    ⟨0x114, 1, 0x4, 0x0, 0x0, 0x0, 0x0, 0x0, 0x0, 0x0, 1⟩,
    ⟨0x118, 1, 0x4, 0x0, 0x0, 0x0, 0x0, 0x0, 0x0, 0x0, 2⟩ ]

/-! ### SHP -/

/-- First address of page SHP (Table 3-1). -/
def SHP.page : Nat := 0x3c000
def SHP.DEBT_FORGIVEN : Nat := 0x100
def SHP.WHEEL_CLAMPS : Nat := 0x108
def SHP.WHEEL_CLAMPS_COUNT : Fld := ⟨0x108, 0, 32⟩
def SHP.OVH_PROFILE (i : Nat) : Nat := 0x200 + 4 * i
def SHP.OVH_PROFILE_OVH (i : Nat) : Fld := ⟨0x200 + 4 * i, 0, 7⟩
/-- The block-specific registers of SHP. -/
def SHP.regs : List RegSpec :=
  [ ⟨0x100, 1, 0x4, 0x0, 0x0, 0x0, 0x0, 0x0, 0x0, 0x0, 1⟩,
    ⟨0x104, 1, 0x4, 0x0, 0x0, 0x0, 0x0, 0x0, 0x0, 0x0, 2⟩,
    ⟨0x108, 1, 0x4, 0x0, 0x0, 0x0, 0x0, 0x0, 0xffffffff, 0x0, 0⟩,
    ⟨0x200, 16, 0x4, 0x14, 0x7f, 0x0, 0x0, 0x0, 0x0, 0x0, 0⟩ ]

/-! ### FBL -/

/-- First address of page FBLn (Table 3-1). -/
def FBL.page (n : Nat) : Nat := 0x40000 + 0x1000 * n
def FBL.CFG : Nat := 0x100
def FBL.CFG_EN : Fld := ⟨0x100, 0, 1⟩
def FBL.CFG_FREF : Fld := ⟨0x100, 1, 1⟩
def FBL.CFG_ALLOW3 : Fld := ⟨0x100, 2, 1⟩
def FBL.CFG_DITHER_EN : Fld := ⟨0x100, 3, 1⟩
def FBL.CFG_COST : Fld := ⟨0x100, 16, 16⟩
def FBL.CMD : Nat := 0x104
def FBL.CMD_RETRAIN : Fld := ⟨0x104, 0, 1⟩
def FBL.STATUS : Nat := 0x108
def FBL.STATUS_STATE : Fld := ⟨0x108, 0, 3⟩
def FBL.STATUS_ACTIVE : Fld := ⟨0x108, 4, 4⟩
def FBL.STATUS_PEER_RX_OK : Fld := ⟨0x108, 8, 4⟩
def FBL.STATUS_VER : Fld := ⟨0x108, 12, 2⟩
def FBL.STATUS_PEER_ADDR : Fld := ⟨0x108, 16, 9⟩
def FBL.STATUS_PEER_LINK : Fld := ⟨0x108, 25, 3⟩
def FBL.STATUS_PEER_VALID : Fld := ⟨0x108, 31, 1⟩
def FBL.LANE (i : Nat) : Nat := 0x10c + 4 * i
def FBL.LANE_FOM (i : Nat) : Fld := ⟨0x10c + 4 * i, 0, 8⟩
def FBL.LANE_CTLE (i : Nat) : Fld := ⟨0x10c + 4 * i, 8, 4⟩
def FBL.LANE_SIG_DET (i : Nat) : Fld := ⟨0x10c + 4 * i, 12, 1⟩
def FBL.LANE_CDR_LOCK (i : Nat) : Fld := ⟨0x10c + 4 * i, 13, 1⟩
def FBL.LANE_CW_LOCK (i : Nat) : Fld := ⟨0x10c + 4 * i, 14, 1⟩
def FBL.LANE_RX_OK (i : Nat) : Fld := ⟨0x10c + 4 * i, 15, 1⟩
def FBL.FOM_CFG : Nat := 0x11c
def FBL.FOM_CFG_FOM_MIN : Fld := ⟨0x11c, 0, 8⟩
def FBL.FOM_CFG_DITHER_GAIN : Fld := ⟨0x11c, 8, 8⟩
def FBL.DELAY : Nat := 0x120
def FBL.DELAY_NS : Fld := ⟨0x120, 0, 20⟩
def FBL.CELLS_TX : Nat := 0x124
def FBL.CELLS_RX : Nat := 0x12c
def FBL.CW_UNCORR : Nat := 0x134
def FBL.CELL_DISCARDS : Nat := 0x138
def FBL.LANE_DROPS : Nat := 0x13c
def FBL.RETRAINS : Nat := 0x140
/-- The block-specific registers of FBL. -/
def FBL.regs : List RegSpec :=
  [ ⟨0x100, 1, 0x4, 0x5, 0xffff000f, 0x0, 0x0, 0x0, 0x0, 0x2, 0⟩,
    ⟨0x104, 1, 0x4, 0x0, 0x0, 0x1, 0x0, 0x0, 0x0, 0x0, 0⟩,
    ⟨0x108, 1, 0x4, 0x0, 0x0, 0x0, 0x0, 0x0, 0x0, 0x0, 0⟩,
    ⟨0x10c, 4, 0x4, 0x0, 0x0, 0x0, 0x0, 0x0, 0x0, 0x0, 0⟩,
    ⟨0x11c, 1, 0x4, 0x440, 0xffff, 0x0, 0x0, 0x0, 0x0, 0x0, 0⟩,
    ⟨0x120, 1, 0x4, 0x0, 0x0, 0x0, 0x0, 0x0, 0x0, 0x0, 0⟩,
    ⟨0x124, 1, 0x4, 0x0, 0x0, 0x0, 0x0, 0x0, 0x0, 0x0, 1⟩,
    ⟨0x128, 1, 0x4, 0x0, 0x0, 0x0, 0x0, 0x0, 0x0, 0x0, 2⟩,
    ⟨0x12c, 1, 0x4, 0x0, 0x0, 0x0, 0x0, 0x0, 0x0, 0x0, 1⟩,
    ⟨0x130, 1, 0x4, 0x0, 0x0, 0x0, 0x0, 0x0, 0x0, 0x0, 2⟩,
    ⟨0x134, 1, 0x4, 0x0, 0x0, 0x0, 0x0, 0x0, 0xffffffff, 0x0, 0⟩,
    ⟨0x138, 1, 0x4, 0x0, 0x0, 0x0, 0x0, 0x0, 0xffffffff, 0x0, 0⟩ ] ++
  [ ⟨0x13c, 1, 0x4, 0x0, 0x0, 0x0, 0x0, 0x0, 0xffffffff, 0x0, 0⟩,
    ⟨0x140, 1, 0x4, 0x0, 0x0, 0x0, 0x0, 0x0, 0xffffffff, 0x0, 0⟩ ]

/-! ### FBR -/

/-- First address of page FBR (Table 3-1). -/
def FBR.page : Nat := 0x48000
def FBR.CTRL : Nat := 0x100
def FBR.CTRL_ROLE : Fld := ⟨0x100, 0, 2⟩
def FBR.CTRL_ROUTE_SRC : Fld := ⟨0x100, 2, 1⟩
def FBR.CTRL_VER_MAX : Fld := ⟨0x100, 4, 2⟩
def FBR.ADDR : Nat := 0x104
def FBR.ADDR_LOCAL : Fld := ⟨0x104, 0, 9⟩
def FBR.DOMAIN_ID : Nat := 0x108
def FBR.TIMERS : Nat := 0x110
def FBR.TIMERS_HELLO : Fld := ⟨0x110, 0, 8⟩
def FBR.TIMERS_HOP_LIMIT : Fld := ⟨0x110, 16, 6⟩
def FBR.RESEQ_CFG : Nat := 0x114
def FBR.RESEQ_CFG_TIMEOUT : Fld := ⟨0x114, 0, 10⟩
def FBR.RESEQ_CFG_SKEW : Fld := ⟨0x114, 16, 8⟩
def FBR.STATE : Nat := 0x118
def FBR.STATE_DOMAIN : Fld := ⟨0x118, 0, 2⟩
def FBR.STATE_PARTS : Fld := ⟨0x118, 16, 10⟩
def FBR.ROUTE_CTRL : Nat := 0x11c
def FBR.ROUTE_CTRL_APPLY : Fld := ⟨0x11c, 0, 1⟩
def FBR.ROUTE_CTRL_BANK_ACTIVE : Fld := ⟨0x11c, 4, 1⟩
def FBR.ROUTE_CTRL_APPLIED : Fld := ⟨0x11c, 16, 16⟩
def FBR.NO_ROUTE : Nat := 0x120
def FBR.HOP_DROPS : Nat := 0x124
def FBR.RESEQ_SKIPS : Nat := 0x128
def FBR.RESEQ_LATE : Nat := 0x12c
def FBR.REASM_DISCARDS : Nat := 0x130
def FBR.TRANSIT_DROPS : Nat := 0x134
def FBR.RESEQ_LEVEL : Nat := 0x138
/-- The block-specific registers of FBR. -/
def FBR.regs : List RegSpec :=
  [ ⟨0x100, 1, 0x4, 0x20, 0x37, 0x0, 0x0, 0x0, 0x0, 0x3, 0⟩,
    ⟨0x104, 1, 0x4, 0x0, 0x1ff, 0x0, 0x0, 0x0, 0x0, 0x1ff, 0⟩,
    ⟨0x108, 1, 0x4, 0x0, 0x0, 0x0, 0x0, 0x0, 0x0, 0x0, 1⟩,
    ⟨0x10c, 1, 0x4, 0x0, 0x0, 0x0, 0x0, 0x0, 0x0, 0x0, 2⟩,
    ⟨0x110, 1, 0x4, 0x10000a, 0x3f00ff, 0x0, 0x0, 0x0, 0x0, 0x0, 0⟩,
    ⟨0x114, 1, 0x4, 0xa0014, 0xff03ff, 0x0, 0x0, 0x0, 0x0, 0x0, 0⟩,
    ⟨0x118, 1, 0x4, 0x0, 0x0, 0x0, 0x0, 0x0, 0x0, 0x0, 0⟩,
    ⟨0x11c, 1, 0x4, 0x0, 0x0, 0x1, 0x0, 0x0, 0x0, 0x0, 0⟩,
    ⟨0x120, 1, 0x4, 0x0, 0x0, 0x0, 0x0, 0x0, 0xffffffff, 0x0, 0⟩,
    ⟨0x124, 1, 0x4, 0x0, 0x0, 0x0, 0x0, 0x0, 0xffffffff, 0x0, 0⟩,
    ⟨0x128, 1, 0x4, 0x0, 0x0, 0x0, 0x0, 0x0, 0xffffffff, 0x0, 0⟩,
    ⟨0x12c, 1, 0x4, 0x0, 0x0, 0x0, 0x0, 0x0, 0xffffffff, 0x0, 0⟩ ] ++
  [ ⟨0x130, 1, 0x4, 0x0, 0x0, 0x0, 0x0, 0x0, 0xffffffff, 0x0, 0⟩,
    ⟨0x134, 1, 0x4, 0x0, 0x0, 0x0, 0x0, 0x0, 0xffffffff, 0x0, 0⟩,
    ⟨0x138, 1, 0x4, 0x0, 0x0, 0x0, 0x0, 0x0, 0x0, 0x0, 0⟩ ]

/-! ### MEM -/

/-- First address of page MEMn (Table 3-1). -/
def MEM.page (n : Nat) : Nat := 0x50000 + 0x1000 * n
def MEM.CFG : Nat := 0x100
def MEM.CFG_DENSITY : Fld := ⟨0x100, 0, 1⟩
def MEM.CFG_RATE : Fld := ⟨0x100, 8, 6⟩
def MEM.STATUS : Nat := 0x104
def MEM.STATUS_TRAINED : Fld := ⟨0x104, 0, 1⟩
def MEM.STATUS_FAILED : Fld := ⟨0x104, 1, 1⟩
def MEM.STATUS_MAPPED_OUT : Fld := ⟨0x104, 2, 1⟩
def MEM.STATUS_BAND : Fld := ⟨0x104, 4, 2⟩
def MEM.STATUS_TEMP : Fld := ⟨0x104, 8, 8⟩
def MEM.STATUS_RETRAIN_FAILS : Fld := ⟨0x104, 16, 4⟩
def MEM.CE_WORDS : Nat := 0x108
def MEM.UE_WORDS : Nat := 0x10c
def MEM.STRONG_FIXED : Nat := 0x110
def MEM.STRONG_FAIL : Nat := 0x114
def MEM.RETRAINS : Nat := 0x118
def MEM.DEFERRED : Nat := 0x11c
/-- The block-specific registers of MEM. -/
def MEM.regs : List RegSpec :=
  [ ⟨0x100, 1, 0x4, 0x2400, 0x3f01, 0x0, 0x0, 0x0, 0x0, 0x3f01, 0⟩,
    ⟨0x104, 1, 0x4, 0x0, 0x0, 0x0, 0x0, 0x0, 0x0, 0x0, 0⟩,
    ⟨0x108, 1, 0x4, 0x0, 0x0, 0x0, 0x0, 0x0, 0xffffffff, 0x0, 0⟩,
    ⟨0x10c, 1, 0x4, 0x0, 0x0, 0x0, 0x0, 0x0, 0xffffffff, 0x0, 0⟩,
    ⟨0x110, 1, 0x4, 0x0, 0x0, 0x0, 0x0, 0x0, 0xffffffff, 0x0, 0⟩,
    ⟨0x114, 1, 0x4, 0x0, 0x0, 0x0, 0x0, 0x0, 0xffffffff, 0x0, 0⟩,
    ⟨0x118, 1, 0x4, 0x0, 0x0, 0x0, 0x0, 0x0, 0xffffffff, 0x0, 0⟩,
    ⟨0x11c, 1, 0x4, 0x0, 0x0, 0x0, 0x0, 0x0, 0xffffffff, 0x0, 0⟩ ]

/-! ### ECC -/

/-- First address of page ECC (Table 3-1). -/
def ECC.page : Nat := 0x60000
def ECC.COLL_PAGES : Nat := 0x100
def ECC.COLL_PAGES_C : Fld := ⟨0x100, 0, 25⟩
def ECC.TABLE_PAGES : Nat := 0x104
def ECC.TABLE_PAGES_T : Fld := ⟨0x104, 0, 21⟩
def ECC.MAP : Nat := 0x108
def ECC.MAP_OUT : Fld := ⟨0x108, 0, 4⟩
def ECC.MAP_OUT_EN : Fld := ⟨0x108, 4, 1⟩
def ECC.MAP_AUTO : Fld := ⟨0x108, 8, 1⟩
def ECC.MAP_CHANNELS : Fld := ⟨0x108, 16, 5⟩
def ECC.TOTAL_PAGES : Nat := 0x10c
def ECC.TOTAL_PAGES_P : Fld := ⟨0x10c, 0, 25⟩
def ECC.BUF_FREE : Nat := 0x110
def ECC.BUF_FREE_PAGES : Fld := ⟨0x110, 0, 25⟩
def ECC.SCRUB_CFG : Nat := 0x114
def ECC.SCRUB_CFG_PASS : Fld := ⟨0x114, 0, 12⟩
def ECC.SCRUB_CFG_CE_TH : Fld := ⟨0x114, 16, 6⟩
def ECC.SCRUB_STATUS : Nat := 0x118
def ECC.SCRUB_STATUS_PAGE : Fld := ⟨0x118, 0, 25⟩
def ECC.SCRUB_STATUS_STARVED : Fld := ⟨0x118, 31, 1⟩
def ECC.SCRUB_WR : Nat := 0x11c
def ECC.SCRUB_WR_COUNT : Fld := ⟨0x11c, 0, 32⟩
def ECC.TEST : Nat := 0x120
def ECC.TEST_EN : Fld := ⟨0x120, 0, 1⟩
def ECC.RAW_PAGE : Nat := 0x124
def ECC.RAW_PAGE_PAGE : Fld := ⟨0x124, 0, 25⟩
def ECC.POISONED : Nat := 0x128
def ECC.POISONED_COUNT : Fld := ⟨0x128, 0, 32⟩
/-- The block-specific registers of ECC. -/
def ECC.regs : List RegSpec :=
  [ ⟨0x100, 1, 0x4, 0x0, 0x1ffffff, 0x0, 0x0, 0x0, 0x0, 0x1ffffff, 0⟩,
    ⟨0x104, 1, 0x4, 0x0, 0x1fffff, 0x0, 0x0, 0x0, 0x0, 0x1fffff, 0⟩,
    ⟨0x108, 1, 0x4, 0x100100, 0x11f, 0x0, 0x0, 0x0, 0x0, 0x1f, 0⟩,
    ⟨0x10c, 1, 0x4, 0x0, 0x0, 0x0, 0x0, 0x0, 0x0, 0x0, 0⟩,
    ⟨0x110, 1, 0x4, 0x0, 0x0, 0x0, 0x0, 0x0, 0x0, 0x0, 0⟩,
    ⟨0x114, 1, 0x4, 0x2003c, 0x3f0fff, 0x0, 0x0, 0x0, 0x0, 0x0, 0⟩,
    ⟨0x118, 1, 0x4, 0x0, 0x0, 0x0, 0x0, 0x0, 0x0, 0x0, 0⟩,
    ⟨0x11c, 1, 0x4, 0x0, 0x0, 0x0, 0x0, 0x0, 0x0, 0x0, 0⟩,
    ⟨0x120, 1, 0x4, 0x0, 0x1, 0x0, 0x0, 0x0, 0x0, 0x0, 0⟩,
    ⟨0x124, 1, 0x4, 0x0, 0x1ffffff, 0x0, 0x0, 0x0, 0x0, 0x0, 0⟩,
    ⟨0x128, 1, 0x4, 0x0, 0x0, 0x0, 0x0, 0x0, 0xffffffff, 0x0, 0⟩ ]

/-- The registers of a kind, header first (R74). -/
def Kind.regs : Kind → List RegSpec
  | .SYS => HDR.regs ++ SYS.regs
  | .RAP => HDR.regs ++ RAP.regs
  | .PWR => HDR.regs ++ PWR.regs
  | .THM => HDR.regs ++ THM.regs
  | .HKA => HDR.regs ++ HKA.regs
  | .FLT => HDR.regs ++ FLT.regs
  | .SEC => HDR.regs ++ SEC.regs
  | .CLK => HDR.regs ++ CLK.regs
  | .TIM => HDR.regs ++ TIM.regs
  | .CPU => HDR.regs ++ CPU.regs
  | .NVS => HDR.regs ++ NVS.regs
  | .RPR => HDR.regs ++ RPR.regs
  | .CNV => HDR.regs ++ CNV.regs
  | .CAL => HDR.regs ++ CAL.regs
  | .RXD => HDR.regs ++ RXD.regs
  | .TXD => HDR.regs ++ TXD.regs
  | .SUB => HDR.regs ++ SUB.regs
  | .FEC => HDR.regs ++ FEC.regs
  | .FRM => HDR.regs ++ FRM.regs
  | .GTH => HDR.regs ++ GTH.regs
  | .CRY => HDR.regs ++ CRY.regs
  | .OSP => HDR.regs ++ OSP.regs
  | .PMB => HDR.regs ++ PMB.regs
  | .CLN => HDR.regs ++ CLN.regs
  | .MAC => HDR.regs ++ MAC.regs
  | .CLS => HDR.regs ++ CLS.regs
  | .QMG => HDR.regs ++ QMG.regs
  | .MTR => HDR.regs ++ MTR.regs
  | .SHP => HDR.regs ++ SHP.regs
  | .FBL => HDR.regs ++ FBL.regs
  | .FBR => HDR.regs ++ FBR.regs
  | .MEM => HDR.regs ++ MEM.regs
  | .ECC => HDR.regs ++ ECC.regs

/-- First page number of a kind and its number of pages (Table 3-1). -/
def Kind.pages : Kind → Nat × Nat
  | .SYS => (0x0, 1)
  | .RAP => (0x1, 1)
  | .PWR => (0x2, 1)
  | .THM => (0x3, 1)
  | .HKA => (0x4, 1)
  | .FLT => (0x5, 1)
  | .SEC => (0x6, 1)
  | .CLK => (0x7, 1)
  | .TIM => (0x8, 1)
  | .CPU => (0x9, 1)
  | .NVS => (0xa, 1)
  | .RPR => (0xb, 1)
  | .CNV => (0x10, 2)
  | .CAL => (0x12, 2)
  | .RXD => (0x14, 2)
  | .TXD => (0x16, 2)
  | .SUB => (0x18, 2)
  | .FEC => (0x1a, 2)
  | .FRM => (0x1c, 2)
  | .GTH => (0x1e, 1)
  | .CRY => (0x1f, 1)
  | .OSP => (0x20, 1)
  | .PMB => (0x21, 1)
  | .CLN => (0x30, 8)
  | .MAC => (0x38, 1)
  | .CLS => (0x39, 1)
  | .QMG => (0x3a, 1)
  | .MTR => (0x3b, 1)
  | .SHP => (0x3c, 1)
  | .FBL => (0x40, 8)
  | .FBR => (0x48, 1)
  | .MEM => (0x50, 16)
  | .ECC => (0x60, 1)

/-- All kinds, in the order of their first pages. -/
def Kind.all : List Kind :=
  [.SYS, .RAP, .PWR, .THM, .HKA, .FLT, .SEC, .CLK, .TIM, .CPU, .NVS, .RPR, .CNV, .CAL, .RXD, .TXD, .SUB, .FEC, .FRM, .GTH, .CRY, .OSP, .PMB, .CLN, .MAC, .CLS, .QMG, .MTR, .SHP, .FBL, .FBR, .MEM, .ECC]

/-! ### Table windows (R80, R81) -/

/-- A table of a window: window number, byte offset in the window, entries, entry stride, owning page, the RW mask
of each word of an entry, and the first word of the entry that starts a 64-bit pair (R77), if any. -/
structure WinSeg where
  win : Nat
  off : Nat
  entries : Nat
  stride : Nat
  owner : Nat
  rw : List Nat
  w64 : Option Nat
  deriving DecidableEq, Repr

/-- Address of entry `e` of the SUBCONV table of CALn. -/
def CALW.SUBCONV (n e : Nat) : Nat := 0x20000000 + 0x1000000 * n + 16 * e
def CALW.SUBCONV_OFFSET : Fld := ⟨0, 0, 8⟩
def CALW.SUBCONV_GAIN : Fld := ⟨0, 8, 9⟩
def CALW.SUBCONV_DELAY : Fld := ⟨0, 17, 9⟩
def CALW.SUBCONV_BW : Fld := ⟨0, 26, 6⟩
def CALW.SUBCONV_E_OFF : Fld := ⟨4, 0, 8⟩
def CALW.SUBCONV_E_GAIN : Fld := ⟨4, 8, 8⟩
def CALW.SUBCONV_E_SKEW : Fld := ⟨4, 16, 8⟩
def CALW.SUBCONV_E_BW : Fld := ⟨4, 24, 8⟩
def CALW.SUBCONV_ROLE : Fld := ⟨8, 0, 2⟩
def CALW.SUBCONV_POSITION : Fld := ⟨8, 2, 6⟩
def CALW.SUBCONV_FAIL_CAUSE : Fld := ⟨8, 8, 4⟩
def CALW.SUBCONV_COMMITS : Fld := ⟨8, 16, 16⟩
def CALW.SUBCONV_TARGET : Fld := ⟨12, 0, 32⟩
/-- Address of entry `e` of the POSMAP table of CALn. -/
def CALW.POSMAP (n e : Nat) : Nat := 0x20002200 + 0x1000000 * n + 16 * e
/-- Address of entry `e` of the TAPS table of RXDn. -/
def RXDW.TAPS (n e : Nat) : Nat := 0x22000000 + 0x1000000 * n + 4 * e
/-- Address of entry `e` of the MEAS table of RXDn. -/
def RXDW.MEAS (n e : Nat) : Nat := 0x22004000 + 0x1000000 * n + 64 * e
def RXDW.MEAS_STATE : Fld := ⟨0, 0, 4⟩
def RXDW.MEAS_VALID : Fld := ⟨0, 4, 1⟩
def RXDW.MEAS_RESTARTS : Fld := ⟨0, 16, 16⟩
def RXDW.MEAS_CD : Fld := ⟨4, 0, 32⟩
def RXDW.MEAS_CD_FILTER : Fld := ⟨8, 0, 16⟩
def RXDW.MEAS_D_RES : Fld := ⟨8, 16, 16⟩
def RXDW.MEAS_DGD : Fld := ⟨12, 0, 16⟩
def RXDW.MEAS_PDL : Fld := ⟨12, 16, 16⟩
def RXDW.MEAS_SOP_MAX : Fld := ⟨16, 0, 24⟩
def RXDW.MEAS_SOP_MEAN : Fld := ⟨20, 0, 24⟩
def RXDW.MEAS_OFFSET : Fld := ⟨24, 0, 32⟩
def RXDW.MEAS_TIMING : Fld := ⟨28, 0, 32⟩
def RXDW.MEAS_SNR_MEAS : Fld := ⟨32, 0, 16⟩
def RXDW.MEAS_GSNR : Fld := ⟨32, 16, 16⟩
def RXDW.MEAS_CD_FAILS : Fld := ⟨36, 0, 16⟩
def RXDW.MEAS_PHASE_JUMPS : Fld := ⟨40, 0, 16⟩
def RXDW.MEAS_SINGULAR : Fld := ⟨44, 0, 16⟩
/-- Address of entry `e` of the NLC table of RXDn. -/
def RXDW.NLC (n e : Nat) : Nat := 0x22004400 + 0x1000000 * n + 4 * e
/-- Address of entry `e` of the FIR table of TXDn. -/
def TXDW.FIR (n e : Nat) : Nat := 0x24000000 + 0x1000000 * n + 4 * e
def TXDW.FIR_RE : Fld := ⟨0, 0, 16⟩
def TXDW.FIR_IM : Fld := ⟨0, 16, 16⟩
/-- Address of entry `e` of the BRK table of TXDn. -/
def TXDW.BRK (n e : Nat) : Nat := 0x24001000 + 0x1000000 * n + 4 * e
def TXDW.BRK_F : Fld := ⟨0, 0, 16⟩
def TXDW.BRK_L : Fld := ⟨0, 16, 15⟩
def TXDW.BRK_BVALID : Fld := ⟨0, 31, 1⟩
/-- Address of entry `e` of the PREEMPH table of TXDn. -/
def TXDW.PREEMPH (n e : Nat) : Nat := 0x24001200 + 0x1000000 * n + 4 * e
/-- Address of entry `e` of the COMP table of TXDn. -/
def TXDW.COMP (n e : Nat) : Nat := 0x24001400 + 0x1000000 * n + 4 * e
/-- Address of entry `e` of the SCHED table of SUBn. -/
def SUBW.SCHED (n e : Nat) : Nat := 0x26000000 + 0x1000000 * n + 8 * e
def SUBW.SCHED_LEAF : Fld := ⟨0, 0, 5⟩
def SUBW.SCHED_WVALID : Fld := ⟨0, 7, 1⟩
def SUBW.SCHED_FOLIO : Fld := ⟨0, 8, 8⟩
def SUBW.SCHED_START : Fld := ⟨0, 16, 10⟩
def SUBW.SCHED_LEN : Fld := ⟨4, 0, 11⟩
/-- Address of entry `e` of the LEAFE table of SUBn. -/
def SUBW.LEAFE (n e : Nat) : Nat := 0x26001000 + 0x1000000 * n + 32 * e
def SUBW.LEAFE_LSTATE : Fld := ⟨0, 0, 3⟩
def SUBW.LEAFE_MISSED_RUN : Fld := ⟨0, 8, 8⟩
def SUBW.LEAFE_JOINS : Fld := ⟨0, 16, 16⟩
def SUBW.LEAFE_LOFFSET : Fld := ⟨4, 0, 22⟩
def SUBW.LEAFE_LCD : Fld := ⟨8, 0, 32⟩
def SUBW.LEAFE_LRSSI : Fld := ⟨12, 0, 10⟩
def SUBW.LEAFE_LSNR : Fld := ⟨12, 16, 10⟩
def SUBW.LEAFE_ARRIVAL_AVG : Fld := ⟨16, 0, 32⟩
def SUBW.LEAFE_ID_LO : Fld := ⟨20, 0, 32⟩
def SUBW.LEAFE_ID_HI : Fld := ⟨24, 0, 32⟩
def SUBW.LEAFE_LISTED : Fld := ⟨28, 0, 1⟩
/-- Address of entry `e` of the LOG table of SUBn. -/
def SUBW.LOG (n e : Nat) : Nat := 0x26002000 + 0x1000000 * n + 32 * e
def SUBW.LOG_TIME_LO : Fld := ⟨0, 0, 32⟩
def SUBW.LOG_TIME_HI : Fld := ⟨4, 0, 32⟩
def SUBW.LOG_SEQ : Fld := ⟨8, 0, 16⟩
def SUBW.LOG_VERDICT : Fld := ⟨8, 16, 4⟩
def SUBW.LOG_GLEAF : Fld := ⟨8, 20, 5⟩
def SUBW.LOG_GLEAF_VALID : Fld := ⟨8, 25, 1⟩
def SUBW.LOG_SUBC : Fld := ⟨8, 26, 4⟩
def SUBW.LOG_INTRUDED : Fld := ⟨8, 30, 1⟩
def SUBW.LOG_GRSSI : Fld := ⟨12, 0, 10⟩
def SUBW.LOG_GSNR : Fld := ⟨12, 16, 10⟩
def SUBW.LOG_FREQ : Fld := ⟨16, 0, 32⟩
def SUBW.LOG_ARRIVAL : Fld := ⟨20, 0, 32⟩
def SUBW.LOG_METRIC : Fld := ⟨24, 0, 8⟩
def SUBW.LOG_UNCORR : Fld := ⟨24, 8, 8⟩
def SUBW.LOG_TAG : Fld := ⟨28, 0, 32⟩
/-- Address of entry `e` of the HIST table of FECn. -/
def FECW.HIST (n e : Nat) : Nat := 0x28000000 + 0x1000000 * n + 8 * e
/-- Address of entry `e` of the DM table of FECn. -/
def FECW.DM (n e : Nat) : Nat := 0x28000100 + 0x1000000 * n + 4 * e
/-- Address of entry `e` of the FP15 table of FECn. -/
def FECW.FP15 (n e : Nat) : Nat := 0x28001000 + 0x1000000 * n + 4 * e
/-- Address of entry `e` of the FP20 table of FECn. -/
def FECW.FP20 (n e : Nat) : Nat := 0x28004000 + 0x1000000 * n + 4 * e
/-- Address of entry `e` of the TRACE_EXP table of FRMn. -/
def FRMW.TRACE_EXP (n e : Nat) : Nat := 0x2A000000 + 0x1000000 * n + 4 * e
/-- Address of entry `e` of the TRACE_RX table of FRMn. -/
def FRMW.TRACE_RX (n e : Nat) : Nat := 0x2A000040 + 0x1000000 * n + 4 * e
/-- Address of entry `e` of the HB table of FRMn. -/
def FRMW.HB (n e : Nat) : Nat := 0x2A001000 + 0x1000000 * n + 4 * e
/-- Address of entry `e` of the CAR table of PMB. -/
def PMBW.CAR (e : Nat) : Nat := 0x2C000000 + 64 * e
/-- Address of entry `e` of the GTHR table of PMB. -/
def PMBW.GTHR (e : Nat) : Nat := 0x2C002000 + 64 * e
/-- Address of entry `e` of the THR table of PMB. -/
def PMBW.THR (e : Nat) : Nat := 0x2C030000 + 8 * e
/-- Address of entry `e` of the TCA table of PMB. -/
def PMBW.TCA (e : Nat) : Nat := 0x2C031000 + 16 * e
def PMBW.TCA_TIME_LO : Fld := ⟨0, 0, 32⟩
def PMBW.TCA_TIME_HI : Fld := ⟨4, 0, 32⟩
def PMBW.TCA_KIND : Fld := ⟨8, 0, 2⟩
def PMBW.TCA_ENTITY : Fld := ⟨8, 2, 18⟩
def PMBW.TCA_COUNTER : Fld := ⟨8, 20, 3⟩
def PMBW.TCA_DAYBIN : Fld := ⟨8, 23, 1⟩
def PMBW.TCA_NUMBER : Fld := ⟨12, 0, 32⟩
/-- Address of entry `e` of the CFG table of GTH. -/
def GTHW.CFG (e : Nat) : Nat := 0x2D000000 + 64 * e
def GTHW.CFG_EN : Fld := ⟨0, 0, 1⟩
def GTHW.CFG_MODE : Fld := ⟨0, 1, 1⟩
def GTHW.CFG_TYPE : Fld := ⟨0, 2, 1⟩
def GTHW.CFG_CLIENT : Fld := ⟨0, 4, 5⟩
def GTHW.CFG_LEAF : Fld := ⟨0, 16, 5⟩
def GTHW.CFG_LEAF_VALID : Fld := ⟨0, 21, 1⟩
def GTHW.CFG_POS0 : Fld := ⟨4, 0, 5⟩
def GTHW.CFG_POS0_VALID : Fld := ⟨4, 7, 1⟩
def GTHW.CFG_POS1 : Fld := ⟨4, 8, 5⟩
def GTHW.CFG_POS1_VALID : Fld := ⟨4, 15, 1⟩
def GTHW.CFG_COLL_BASE : Fld := ⟨32, 0, 25⟩
def GTHW.CFG_COLL_DEPTH : Fld := ⟨36, 0, 11⟩
/-- Address of entry `e` of the STAT table of GTH. -/
def GTHW.STAT (e : Nat) : Nat := 0x2D001000 + 32 * e
def GTHW.STAT_PART0 : Fld := ⟨0, 0, 3⟩
def GTHW.STAT_PART1 : Fld := ⟨0, 4, 3⟩
def GTHW.STAT_SEL : Fld := ⟨0, 8, 1⟩
def GTHW.STAT_GFAILED : Fld := ⟨0, 9, 1⟩
def GTHW.STAT_SF0 : Fld := ⟨0, 10, 1⟩
def GTHW.STAT_SD0 : Fld := ⟨0, 11, 1⟩
def GTHW.STAT_SF1 : Fld := ⟨0, 12, 1⟩
def GTHW.STAT_SD1 : Fld := ⟨0, 13, 1⟩
def GTHW.STAT_SEL_CMD : Fld := ⟨0, 16, 3⟩
def GTHW.STAT_IN_GDDR7 : Fld := ⟨0, 24, 2⟩
def GTHW.STAT_DELAY : Fld := ⟨4, 0, 32⟩
def GTHW.STAT_LREF : Fld := ⟨8, 0, 32⟩
def GTHW.STAT_GSN_TX : Fld := ⟨12, 0, 32⟩
def GTHW.STAT_GSN_OUT : Fld := ⟨16, 0, 32⟩
def GTHW.STAT_RECOLLATE : Fld := ⟨20, 0, 16⟩
def GTHW.STAT_PSW : Fld := ⟨20, 16, 16⟩
def GTHW.STAT_AO_UNITS : Fld := ⟨24, 0, 32⟩
def GTHW.STAT_DISCARD_KB : Fld := ⟨28, 0, 32⟩
/-- Address of entry `e` of the KEY table of CRY. -/
def CRYW.KEY (e : Nat) : Nat := 0x2E000000 + 32 * e
def CRYW.KEY_SUITE : Fld := ⟨0, 0, 2⟩
def CRYW.KEY_RELEASE : Fld := ⟨0, 4, 1⟩
def CRYW.KEY_AGREE_RESP : Fld := ⟨0, 5, 1⟩
def CRYW.KEY_TX_SLOT : Fld := ⟨4, 0, 9⟩
def CRYW.KEY_TX_LOAD : Fld := ⟨4, 15, 1⟩
def CRYW.KEY_RX_SLOT : Fld := ⟨4, 16, 9⟩
def CRYW.KEY_RX_LOAD : Fld := ⟨4, 31, 1⟩
def CRYW.KEY_TX_SALT_HI : Fld := ⟨8, 0, 32⟩
def CRYW.KEY_TX_SALT_LO : Fld := ⟨12, 0, 32⟩
def CRYW.KEY_RX_SALT_HI : Fld := ⟨16, 0, 32⟩
def CRYW.KEY_RX_SALT_LO : Fld := ⟨20, 0, 32⟩
def CRYW.KEY_AGREE_TX_SLOT : Fld := ⟨24, 0, 9⟩
def CRYW.KEY_AGREE_RX_SLOT : Fld := ⟨24, 16, 9⟩
/-- Address of entry `e` of the CTX table of CRY. -/
def CRYW.CTX (e : Nat) : Nat := 0x2E001000 + 32 * e
def CRYW.CTX_TX_CUR_SLOT : Fld := ⟨0, 0, 9⟩
def CRYW.CTX_TX_PHASE : Fld := ⟨0, 9, 1⟩
def CRYW.CTX_TX_NEXT : Fld := ⟨0, 10, 2⟩
def CRYW.CTX_TX_STATE : Fld := ⟨0, 12, 3⟩
def CRYW.CTX_TX_ERR : Fld := ⟨0, 16, 3⟩
def CRYW.CTX_TX_CUR_VALID : Fld := ⟨0, 31, 1⟩
def CRYW.CTX_RX_CUR_SLOT : Fld := ⟨4, 0, 9⟩
def CRYW.CTX_RX_PHASE : Fld := ⟨4, 9, 1⟩
def CRYW.CTX_RX_NEXT : Fld := ⟨4, 10, 2⟩
def CRYW.CTX_RX_TRIAL : Fld := ⟨4, 12, 1⟩
def CRYW.CTX_RX_ERR : Fld := ⟨4, 16, 3⟩
def CRYW.CTX_RX_CUR_VALID : Fld := ⟨4, 31, 1⟩
def CRYW.CTX_TX_CTR : Fld := ⟨8, 0, 32⟩
def CRYW.CTX_TX_B : Fld := ⟨12, 0, 32⟩
def CRYW.CTX_RX_B : Fld := ⟨16, 0, 32⟩
def CRYW.CTX_CTX_TAG_FAILS : Fld := ⟨20, 0, 32⟩
def CRYW.CTX_CTX_RU : Fld := ⟨24, 0, 32⟩
def CRYW.CTX_CTX_KEY_MISSING : Fld := ⟨28, 0, 32⟩
/-- Address of entry `e` of the PORT table of CLS. -/
def CLSW.PORT (e : Nat) : Nat := 0x2F000000 + 4 * e
def CLSW.PORT_PORT_EP : Fld := ⟨0, 0, 18⟩
def CLSW.PORT_UNTAG_VALID : Fld := ⟨0, 18, 1⟩
def CLSW.PORT_OUTER_TPID : Fld := ⟨0, 21, 1⟩
def CLSW.PORT_PMODE : Fld := ⟨0, 22, 1⟩
/-- Address of entry `e` of the OUTER table of CLS. -/
def CLSW.OUTER (e : Nat) : Nat := 0x2F010000 + 4 * e
def CLSW.OUTER_OEP : Fld := ⟨0, 0, 18⟩
def CLSW.OUTER_INNER_BLK : Fld := ⟨0, 0, 6⟩
def CLSW.OUTER_INNER : Fld := ⟨0, 30, 1⟩
def CLSW.OUTER_OVALID : Fld := ⟨0, 31, 1⟩
/-- Address of entry `e` of the INNERE table of CLS. -/
def CLSW.INNERE (e : Nat) : Nat := 0x2F100000 + 4 * e
def CLSW.INNERE_IEP : Fld := ⟨0, 0, 18⟩
def CLSW.INNERE_IVALID : Fld := ⟨0, 31, 1⟩
/-- Address of entry `e` of the EP table of CLS. -/
def CLSW.EP (e : Nat) : Nat := 0x30000000 + 16 * e
def CLSW.EP_EVALID : Fld := ⟨0, 0, 1⟩
def CLSW.EP_UNK_ACT : Fld := ⟨0, 1, 1⟩
def CLSW.EP_EDOMAIN : Fld := ⟨0, 16, 16⟩
def CLSW.EP_PCP_MAP : Fld := ⟨4, 0, 16⟩
def CLSW.EP_EG_PORT : Fld := ⟨8, 0, 5⟩
def CLSW.EP_EG_TAGS : Fld := ⟨8, 5, 2⟩
def CLSW.EP_EG_VALID : Fld := ⟨8, 7, 1⟩
def CLSW.EP_EG_OVID : Fld := ⟨8, 8, 12⟩
def CLSW.EP_EG_IVID : Fld := ⟨8, 20, 12⟩
def CLSW.EP_FL_PART : Fld := ⟨12, 0, 9⟩
def CLSW.EP_FL_EP : Fld := ⟨12, 9, 18⟩
def CLSW.EP_FL_VALID : Fld := ⟨12, 27, 1⟩
/-- Address of entry `e` of the CNT table of MAC. -/
def MACW.CNT (e : Nat) : Nat := 0x31000000 + 128 * e
/-- Address of entry `e` of the Q table of QMG. -/
def QMGW.Q (e : Nat) : Nat := 0x32000000 + 16 * e
def QMGW.Q_PROFILE : Fld := ⟨0, 0, 6⟩
def QMGW.Q_QEN : Fld := ⟨0, 8, 1⟩
def QMGW.Q_DEPTH : Fld := ⟨4, 0, 32⟩
def QMGW.Q_SPILLED : Fld := ⟨8, 0, 32⟩
def QMGW.Q_DROPS : Fld := ⟨12, 0, 32⟩
/-- Address of entry `e` of the M table of MTR. -/
def MTRW.M (e : Nat) : Nat := 0x33000000 + 32 * e
def MTRW.M_MODE : Fld := ⟨0, 0, 2⟩
def MTRW.M_AWARE : Fld := ⟨0, 2, 1⟩
def MTRW.M_AGG : Fld := ⟨0, 16, 12⟩
def MTRW.M_AGG_VALID : Fld := ⟨0, 31, 1⟩
def MTRW.M_CIR : Fld := ⟨4, 0, 32⟩
def MTRW.M_CBS : Fld := ⟨8, 0, 24⟩
def MTRW.M_PIR_EIR : Fld := ⟨12, 0, 32⟩
def MTRW.M_PBS_EBS : Fld := ⟨16, 0, 24⟩
def MTRW.M_TC : Fld := ⟨20, 0, 32⟩
def MTRW.M_TP_TE : Fld := ⟨24, 0, 32⟩
/-- Address of entry `e` of the QSH table of SHP. -/
def SHPW.QSH (e : Nat) : Nat := 0x34000000 + 16 * e
def SHPW.QSH_RATE : Fld := ⟨0, 0, 32⟩
def SHPW.QSH_BURST : Fld := ⟨4, 0, 24⟩
def SHPW.QSH_OVHP : Fld := ⟨4, 24, 4⟩
def SHPW.QSH_SEN : Fld := ⟨4, 31, 1⟩
def SHPW.QSH_CREDIT : Fld := ⟨8, 0, 32⟩
def SHPW.QSH_CLEAR_DEBT : Fld := ⟨12, 0, 1⟩
def SHPW.QSH_SCHED : Fld := ⟨12, 1, 1⟩
def SHPW.QSH_EP_WEIGHT : Fld := ⟨12, 8, 8⟩
def SHPW.QSH_W0 : Fld := ⟨12, 16, 4⟩
def SHPW.QSH_W1 : Fld := ⟨12, 20, 4⟩
def SHPW.QSH_W2 : Fld := ⟨12, 24, 4⟩
def SHPW.QSH_W3 : Fld := ⟨12, 28, 4⟩
/-- Address of entry `e` of the ESH table of SHP. -/
def SHPW.ESH (e : Nat) : Nat := 0x35000000 + 16 * e
/-- Address of entry `e` of the GSH table of SHP. -/
def SHPW.GSH (e : Nat) : Nat := 0x35400000 + 16 * e
/-- Address of entry `e` of the FSH table of SHP. -/
def SHPW.FSH (e : Nat) : Nat := 0x35400400 + 16 * e
/-- Address of entry `e` of the ROUTE table of FBR. -/
def FBRW.ROUTE (e : Nat) : Nat := 0x36000000 + 16 * e
def FBRW.ROUTE_LINKS : Fld := ⟨0, 0, 8⟩
def FBRW.ROUTE_LOCAL : Fld := ⟨0, 8, 1⟩
def FBRW.ROUTE_RVALID : Fld := ⟨0, 31, 1⟩
def FBRW.ROUTE_GSET_LO : Fld := ⟨4, 0, 32⟩
def FBRW.ROUTE_GSET_HI : Fld := ⟨8, 0, 32⟩
/-- Address of entry `e` of the GCOST table of FBR. -/
def FBRW.GCOST (e : Nat) : Nat := 0x36004000 + 4 * e
/-- Address of entry `e` of the TOPO table of FBR. -/
def FBRW.TOPO (e : Nat) : Nat := 0x37000000 + 32 * e
def FBRW.TOPO_TVALID : Fld := ⟨0, 0, 1⟩
def FBRW.TOPO_TROLE : Fld := ⟨0, 1, 2⟩
def FBRW.TOPO_TLINKS : Fld := ⟨0, 4, 8⟩
def FBRW.TOPO_TSEQ : Fld := ⟨0, 16, 16⟩
def FBRW.TOPO_TID_LO : Fld := ⟨4, 0, 32⟩
def FBRW.TOPO_TID_HI : Fld := ⟨8, 0, 32⟩
def FBRW.TOPO_TTIME_LO : Fld := ⟨12, 0, 32⟩
def FBRW.TOPO_TTIME_HI : Fld := ⟨16, 0, 32⟩
/-- Address of entry `e` of the RAW table of ECC. -/
def ECCW.RAW (e : Nat) : Nat := 0x38000000 + 4 * e
/-- Address of entry `e` of the SLOG table of ECC. -/
def ECCW.SLOG (e : Nat) : Nat := 0x38001000 + 16 * e
def ECCW.SLOG_TIME_LO : Fld := ⟨0, 0, 32⟩
def ECCW.SLOG_TIME_HI : Fld := ⟨4, 0, 32⟩
def ECCW.SLOG_PAGE : Fld := ⟨8, 0, 25⟩
def ECCW.SLOG_CORR : Fld := ⟨12, 0, 8⟩
def ECCW.SLOG_UNCORR : Fld := ⟨12, 8, 8⟩
def ECCW.SLOG_STRONG : Fld := ⟨12, 16, 2⟩
/-- Address of entry `e` of the PCOL table of ECC. -/
def ECCW.PCOL (e : Nat) : Nat := 0x38002000 + 4 * e
/-- Address of entry `e` of the INBUF table of SEC. -/
def SECW.INBUF (e : Nat) : Nat := 0x39000000 + 4 * e
/-- Address of entry `e` of the SLOT table of SEC. -/
def SECW.SLOT (e : Nat) : Nat := 0x39000400 + 4 * e
def SECW.SLOT_FULL : Fld := ⟨0, 0, 1⟩
def SECW.SLOT_STYPE : Fld := ⟨0, 1, 1⟩
def SECW.SLOT_USED : Fld := ⟨0, 2, 1⟩
def SECW.SLOT_ORIGIN : Fld := ⟨0, 3, 1⟩
def SECW.SLOT_SBUSY : Fld := ⟨0, 4, 1⟩
def SECW.SLOT_WRITES : Fld := ⟨0, 16, 16⟩
/-- Address of entry `e` of the AUTH table of SEC. -/
def SECW.AUTH (e : Nat) : Nat := 0x39001000 + 64 * e
/-- Address of entry `e` of the PEER table of SEC. -/
def SECW.PEER (e : Nat) : Nat := 0x39001200 + 128 * e
/-- Address of entry `e` of the NONCE table of SEC. -/
def SECW.NONCE (e : Nat) : Nat := 0x39004000 + 4 * e
/-- Address of entry `e` of the REPORT table of SEC. -/
def SECW.REPORT (e : Nat) : Nat := 0x39004100 + 4 * e
/-- Address of entry `e` of the CHAL table of SEC. -/
def SECW.CHAL (e : Nat) : Nat := 0x39004200 + 4 * e
/-- Address of entry `e` of the FRSIG table of SEC. -/
def SECW.FRSIG (e : Nat) : Nat := 0x39004300 + 4 * e
/-- Address of entry `e` of the CERT table of SEC. -/
def SECW.CERT (e : Nat) : Nat := 0x39005000 + 4 * e
/-- Address of entry `e` of the MAP table of RPR. -/
def RPRW.MAP (e : Nat) : Nat := 0x3A000000 + 8 * e
def RPRW.MAP_CLASS : Fld := ⟨0, 0, 4⟩
def RPRW.MAP_MSTATE : Fld := ⟨0, 4, 4⟩
def RPRW.MAP_LOCATION : Fld := ⟨0, 8, 24⟩
def RPRW.MAP_MSEQ : Fld := ⟨4, 0, 16⟩
/-- Address of entry `e` of the AGE table of RPR. -/
def RPRW.AGE (e : Nat) : Nat := 0x3A004000 + 4 * e
def RPRW.AGE_LOSS : Fld := ⟨0, 0, 16⟩
def RPRW.AGE_WARNED : Fld := ⟨0, 31, 1⟩

/-- Every on-die table reached through a window. -/
def winSegs : List WinSeg :=
  [ ⟨0, 0x0, 544, 16, 0x12, [0x0, 0x0, 0x0, 0xffffffff], none⟩,
    ⟨1, 0x0, 544, 16, 0x13, [0x0, 0x0, 0x0, 0xffffffff], none⟩,
    ⟨0, 0x2200, 32, 16, 0x12, [0x0, 0x0, 0x0, 0x0], none⟩,
    ⟨1, 0x2200, 32, 16, 0x13, [0x0, 0x0, 0x0, 0x0], none⟩,
    ⟨2, 0x0, 4096, 4, 0x14, [0x0], none⟩,
    ⟨3, 0x0, 4096, 4, 0x15, [0x0], none⟩,
    ⟨2, 0x4000, 16, 64, 0x14, [0x0, 0x0, 0x0, 0x0, 0x0, 0x0, 0x0, 0x0, 0x0, 0x0, 0x0, 0x0, 0x0, 0x0, 0x0, 0x0], none⟩,
    ⟨3, 0x4000, 16, 64, 0x15, [0x0, 0x0, 0x0, 0x0, 0x0, 0x0, 0x0, 0x0, 0x0, 0x0, 0x0, 0x0, 0x0, 0x0, 0x0, 0x0], none⟩ ] ++
  [ ⟨2, 0x4400, 1024, 4, 0x14, [0xffffffff], none⟩,
    ⟨3, 0x4400, 1024, 4, 0x15, [0xffffffff], none⟩,
    ⟨4, 0x0, 1024, 4, 0x16, [0xffffffff], none⟩,
    ⟨5, 0x0, 1024, 4, 0x17, [0xffffffff], none⟩,
    ⟨4, 0x1000, 128, 4, 0x16, [0xffffffff], none⟩,
    ⟨5, 0x1000, 128, 4, 0x17, [0xffffffff], none⟩,
    ⟨4, 0x1200, 64, 4, 0x16, [0xffff], none⟩,
    ⟨5, 0x1200, 64, 4, 0x17, [0xffff], none⟩ ] ++
  [ ⟨4, 0x1400, 231, 4, 0x16, [0x0], none⟩,
    ⟨5, 0x1400, 231, 4, 0x17, [0x0], none⟩,
    ⟨6, 0x0, 512, 8, 0x18, [0x3ffff9f, 0x7ff], none⟩,
    ⟨7, 0x0, 512, 8, 0x19, [0x3ffff9f, 0x7ff], none⟩,
    ⟨6, 0x1000, 32, 32, 0x18, [0x0, 0x0, 0x0, 0x0, 0x0, 0xffffffff, 0xffffffff, 0x1], none⟩,
    ⟨7, 0x1000, 32, 32, 0x19, [0x0, 0x0, 0x0, 0x0, 0x0, 0xffffffff, 0xffffffff, 0x1], none⟩,
    ⟨6, 0x2000, 1024, 32, 0x18, [0x0, 0x0, 0x0, 0x0, 0x0, 0x0, 0x0, 0x0], none⟩,
    ⟨7, 0x2000, 1024, 32, 0x19, [0x0, 0x0, 0x0, 0x0, 0x0, 0x0, 0x0, 0x0], none⟩ ] ++
  [ ⟨8, 0x0, 32, 8, 0x1a, [0x0, 0x0], some 0⟩,
    ⟨9, 0x0, 32, 8, 0x1b, [0x0, 0x0], some 0⟩,
    ⟨8, 0x100, 38, 4, 0x1a, [0x0], none⟩,
    ⟨9, 0x100, 38, 4, 0x1b, [0x0], none⟩,
    ⟨8, 0x1000, 1920, 4, 0x1a, [0x0], none⟩,
    ⟨9, 0x1000, 1920, 4, 0x1b, [0x0], none⟩,
    ⟨8, 0x4000, 2400, 4, 0x1a, [0x0], none⟩,
    ⟨9, 0x4000, 2400, 4, 0x1b, [0x0], none⟩ ] ++
  [ ⟨10, 0x0, 16, 4, 0x1c, [0xffffffff], none⟩,
    ⟨11, 0x0, 16, 4, 0x1d, [0xffffffff], none⟩,
    ⟨10, 0x40, 16, 4, 0x1c, [0x0], none⟩,
    ⟨11, 0x40, 16, 4, 0x1d, [0x0], none⟩,
    ⟨10, 0x1000, 256, 4, 0x1c, [0x0], none⟩,
    ⟨11, 0x1000, 256, 4, 0x1d, [0x0], none⟩,
    ⟨12, 0x0, 70, 64, 0x21, [0x0, 0x0, 0x0, 0x0, 0x0, 0x0, 0x0, 0x0, 0x0, 0x0, 0x0, 0x0, 0x0, 0x0, 0x0, 0x0], some 2⟩,
    ⟨12, 0x2000, 2240, 64, 0x21, [0x0, 0x0, 0x0, 0x0, 0x0, 0x0, 0x0, 0x0, 0x0, 0x0, 0x0, 0x0, 0x0, 0x0, 0x0, 0x0], some 2⟩ ] ++
  [ ⟨12, 0x30000, 42, 8, 0x21, [0xffffffff, 0xffffffff], some 0⟩,
    ⟨12, 0x31000, 256, 16, 0x21, [0x0, 0x0, 0x0, 0x0], none⟩,
    ⟨13, 0x0, 64, 64, 0x1e, [0x3f01f7, 0x9f9f, 0xffffffff, 0xffffffff, 0xffffffff, 0xffffffff, 0xffffffff, 0xffffffff, 0x1ffffff, 0x7ff, 0x0, 0x0, 0x0, 0x0, 0x0, 0x0], none⟩,
    ⟨13, 0x1000, 64, 32, 0x1e, [0x0, 0x0, 0x0, 0x0, 0x0, 0x0, 0x0, 0x0], none⟩,
    ⟨14, 0x0, 64, 32, 0x1f, [0x33, 0x81ff81ff, 0xffffffff, 0xffffffff, 0xffffffff, 0xffffffff, 0x1ff01ff, 0x0], none⟩,
    ⟨14, 0x1000, 64, 32, 0x1f, [0x0, 0x0, 0x0, 0x0, 0x0, 0x0, 0x0, 0x0], none⟩,
    ⟨15, 0x0, 32, 4, 0x39, [0x67ffff], none⟩,
    ⟨15, 0x10000, 131072, 4, 0x39, [0xc003ffff], none⟩ ] ++
  [ ⟨15, 0x100000, 262144, 4, 0x39, [0x8003ffff], none⟩,
    ⟨16, 0x0, 262144, 16, 0x39, [0xffff0003, 0xffff, 0xffffffff, 0xfffffff], none⟩,
    ⟨17, 0x0, 32, 128, 0x38, [0x0, 0x0, 0x0, 0x0, 0x0, 0x0, 0x0, 0x0, 0x0, 0x0, 0x0, 0x0, 0x0, 0x0, 0x0, 0x0, 0x0, 0x0, 0x0, 0x0, 0x0, 0x0, 0x0, 0x0, 0x0, 0x0, 0x0, 0x0, 0x0, 0x0, 0x0, 0x0], some 0⟩,
    ⟨18, 0x0, 1048576, 16, 0x3a, [0x13f, 0x0, 0x0, 0x0], none⟩,
    ⟨19, 0x0, 266240, 32, 0x3b, [0x8fff0007, 0xffffffff, 0xffffff, 0xffffffff, 0xffffff, 0x0, 0x0, 0x0], none⟩,
    ⟨20, 0x0, 1048576, 16, 0x3c, [0xffffffff, 0x8fffffff, 0x0, 0x1], none⟩,
    ⟨21, 0x0, 262144, 16, 0x3c, [0xffffffff, 0x8fffffff, 0x0, 0xffffff03], none⟩,
    ⟨21, 0x400000, 64, 16, 0x3c, [0xffffffff, 0x8fffffff, 0x0, 0x1], none⟩ ] ++
  [ ⟨21, 0x400400, 8, 16, 0x3c, [0xffffffff, 0x8fffffff, 0x0, 0x1], none⟩,
    ⟨22, 0x0, 1024, 16, 0x48, [0x800001ff, 0xffffffff, 0xffffffff, 0x0], none⟩,
    ⟨22, 0x4000, 64, 4, 0x48, [0xffff], none⟩,
    ⟨23, 0x0, 512, 32, 0x48, [0x0, 0x0, 0x0, 0x0, 0x0, 0x0, 0x0, 0x0], none⟩,
    ⟨24, 0x0, 512, 4, 0x60, [0xffffffff], none⟩,
    ⟨24, 0x1000, 256, 16, 0x60, [0x0, 0x0, 0x0, 0x0], none⟩,
    ⟨24, 0x2000, 272, 4, 0x60, [0x0], none⟩,
    ⟨25, 0x0, 64, 4, 0x6, [0xffffffff], none⟩ ] ++
  [ ⟨25, 0x400, 512, 4, 0x6, [0x0], none⟩,
    ⟨25, 0x1000, 8, 64, 0x6, [0xffffffff, 0xffffffff, 0xffffffff, 0xffffffff, 0xffffffff, 0xffffffff, 0xffffffff, 0xffffffff, 0xffffffff, 0xffffffff, 0xffffffff, 0xffffffff, 0xffffffff, 0xffffffff, 0xffffffff, 0xffffffff], none⟩,
    ⟨25, 0x1200, 64, 128, 0x6, [0xffffffff, 0xffffffff, 0xffffffff, 0xffffffff, 0xffffffff, 0xffffffff, 0xffffffff, 0xffffffff, 0xffffffff, 0xffffffff, 0xffffffff, 0xffffffff, 0xffffffff, 0xffffffff, 0xffffffff, 0xffffffff, 0xffffffff, 0xffffffff, 0x0, 0x0, 0x0, 0x0, 0x0, 0x0, 0x0, 0x0, 0x0, 0x0, 0x0, 0x0, 0x0, 0x0], none⟩,
    ⟨25, 0x4000, 8, 4, 0x6, [0xffffffff], none⟩,
    ⟨25, 0x4100, 64, 4, 0x6, [0x0], none⟩,
    ⟨25, 0x4200, 16, 4, 0x6, [0x0], none⟩,
    ⟨25, 0x4300, 16, 4, 0x6, [0xffffffff], none⟩,
    ⟨25, 0x5000, 1024, 4, 0x6, [0x0], none⟩ ] ++
  [ ⟨26, 0x0, 2048, 8, 0xb, [0x0, 0x0], none⟩,
    ⟨26, 0x4000, 32, 4, 0xb, [0x0], none⟩ ]

/-! ### Event sources (Tables of each chapter; 19-7) -/

def SYS.ev_READY : Nat := 0
def SYS.ev_LOADER_FALLBACK : Nat := 1
def SYS.ev_RECOVERY : Nat := 2
def SYS.ev_RES_IMAGE_FAIL : Nat := 3
def SYS.ev_PUSH_IMAGE_FAIL : Nat := 4
def SYS.ev_REPAIR_REBUILT : Nat := 5
def SYS.ev_ROOT_UNLOCK : Nat := 6
def SYS.ev_CARRIER_REFUSED : Nat := 7
def SYS.ev_EARLY_DROP : Nat := 8
def RAP.ev_SESSION_OPEN : Nat := 0
def RAP.ev_SESSION_CLOSED : Nat := 1
def RAP.ev_AUTH_FAIL : Nat := 2
def RAP.ev_REPLAY : Nat := 3
def RAP.ev_VERSION_REJECT : Nat := 4
def RAP.ev_EVT_LOST : Nat := 5
def RAP.ev_MGT_LINK_DOWN : Nat := 6
def RAP.ev_MGT_LINK_UP : Nat := 7
def CNV.ev_PLL_UNLOCK : Nat := 0
def CNV.ev_PLL_LOCK : Nat := 1
def CNV.ev_ADC_CLIP : Nat := 2
def CNV.ev_SIG_LOW : Nat := 3
def CNV.ev_D2D_LANE_SPARED : Nat := 4
def CNV.ev_D2D_SPARES_EXHAUSTED : Nat := 5
def CNV.ev_D2D_LINK_FAIL : Nat := 6
def CAL.ev_FULL_DONE : Nat := 0
def CAL.ev_FULL_FAIL : Nat := 1
def CAL.ev_HEALTH_FAIL : Nat := 2
def CAL.ev_SPARE_READY : Nat := 3
def CAL.ev_SPARE_SWAPPED : Nat := 4
def CAL.ev_SPARE_FAIL : Nat := 5
def CAL.ev_SPARES_EXHAUSTED : Nat := 6
def CAL.ev_HOLD_START : Nat := 7
def CAL.ev_HOLD_END : Nat := 8
def CAL.ev_SKEW_WEAK : Nat := 9
def CAL.ev_CODE_LIMIT : Nat := 10
def CAL.ev_OBS_FAIL : Nat := 11
def RXD.ev_ACQ_TRACK : Nat := 0
def RXD.ev_ACQ_LOST : Nat := 1
def RXD.ev_RX_LOS : Nat := 2
def RXD.ev_CD_SEARCH_FAIL : Nat := 3
def RXD.ev_EQ_SINGULAR : Nat := 4
def RXD.ev_POL_SWAP : Nat := 5
def RXD.ev_SOP_TRANSIENT : Nat := 6
def RXD.ev_PHASE_JUMP : Nat := 7
def RXD.ev_FB_CLAMP : Nat := 8
def RXD.ev_FB_NO_RESPONSE : Nat := 9
def RXD.ev_NLC_ON : Nat := 10
def RXD.ev_NLC_OFF : Nat := 11
def RXD.ev_SLICE_FAIL : Nat := 12
def RXD.ev_SLICE_SWAPPED : Nat := 13
def RXD.ev_SLICE_SPARE_EXHAUSTED : Nat := 14
def RXD.ev_SNAP_DONE : Nat := 15
def RXD.ev_CD_MEM_HIT : Nat := 16
def TXD.ev_OUTPUT_LIVE : Nat := 0
def TXD.ev_OUTPUT_MUTED : Nat := 1
def TXD.ev_OPT_FAULT : Nat := 2
def TXD.ev_LASER_READY_TIMEOUT : Nat := 3
def TXD.ev_MASK_CHECK_DONE : Nat := 4
def TXD.ev_MASK_CHECK_FAIL : Nat := 5
def TXD.ev_MASK_LIVE_FAIL : Nat := 6
def TXD.ev_CLIP : Nat := 7
def TXD.ev_PRECOMP_DONE : Nat := 8
def SUB.ev_LEAF_JOINED : Nat := 0
def SUB.ev_LEAF_LOST : Nat := 1
def SUB.ev_JOIN_REFUSED : Nat := 2
def SUB.ev_ALIEN : Nat := 3
def SUB.ev_COLLIDED : Nat := 4
def SUB.ev_SCHED_APPLIED : Nat := 5
def SUB.ev_SCHED_CHECK_FAIL : Nat := 6
def SUB.ev_WINDOW_LOST : Nat := 7
def SUB.ev_OFFSET_SENT : Nat := 8
def SUB.ev_ASSIGN_OVERFLOW : Nat := 9
def SUB.ev_LEAF_IN_SERVICE : Nat := 10
def SUB.ev_LEAF_DEREGISTERED : Nat := 11
def SUB.ev_JOIN_NO_REPLY : Nat := 12
def FEC.ev_UNCORR : Nat := 0
def FEC.ev_BCH_FAIL : Nat := 1
def FEC.ev_CAP_LIMITED : Nat := 2
def FEC.ev_CAP_RESTORED : Nat := 3
def FEC.ev_IMAX_REFUSED : Nat := 4
def FEC.ev_ENGINE_FAIL : Nat := 5
def FEC.ev_ENGINE_SPARED : Nat := 6
def FEC.ev_ENGINE_SPARES_EXHAUSTED : Nat := 7
def FEC.ev_ENGINE_SHORT : Nat := 8
def FEC.ev_LATE : Nat := 9
def FRM.ev_ALIGN_LOCK : Nat := 0
def FRM.ev_ALIGN_LOST : Nat := 1
def FRM.ev_UNC_SET : Nat := 2
def FRM.ev_UNC_CLEAR : Nat := 3
def FRM.ev_SD_SET : Nat := 4
def FRM.ev_SD_CLEAR : Nat := 5
def FRM.ev_TIM : Nat := 6
def FRM.ev_RDI_RX : Nat := 7
def FRM.ev_RDI_CLEAR : Nat := 8
def FRM.ev_CAP_MISMATCH : Nat := 9
def FRM.ev_VERSION_CHANGE : Nat := 10
def FRM.ev_PS_ACCEPT : Nat := 11
def FRM.ev_PS_INCONSISTENT : Nat := 12
def FRM.ev_SPINE_BAD : Nat := 13
def FRM.ev_HB_SNAP_DONE : Nat := 14
def OSP.ev_INS_OVERFLOW : Nat := 0
def OSP.ev_INS_SHORT : Nat := 1
def PMB.ev_TCA : Nat := 0
def PMB.ev_BIN_END : Nat := 1
def PMB.ev_DAY_END : Nat := 2
def PMB.ev_EP_READ_FAIL : Nat := 3
def PMB.ev_SUSPECT : Nat := 4
def GTH.ev_GATHERING_FAIL : Nat := 0
def GTH.ev_GATHERING_OK : Nat := 1
def GTH.ev_COLL_LOCK : Nat := 2
def GTH.ev_COLL_LOST : Nat := 3
def GTH.ev_RECOLLATE : Nat := 4
def GTH.ev_DELAY_RANGE : Nat := 5
def GTH.ev_PSW : Nat := 6
def GTH.ev_PG_SWITCH : Nat := 7
def GTH.ev_PG_FOP : Nat := 8
def GTH.ev_PG_MISMATCH : Nat := 9
def GTH.ev_CHECK_FAIL : Nat := 10
def CRY.ev_TAG_FAIL : Nat := 0
def CRY.ev_RELEASED_UNVERIFIED : Nat := 1
def CRY.ev_CTR_WARN : Nat := 2
def CRY.ev_CTR_EXHAUSTED : Nat := 3
def CRY.ev_TX_SWITCHED : Nat := 4
def CRY.ev_RX_SWITCHED : Nat := 5
def CRY.ev_KEY_MISSING : Nat := 6
def CRY.ev_KEY_LOAD_FAIL : Nat := 7
def CRY.ev_RX_KEY_LOST : Nat := 8
def CRY.ev_SUITE_VERSION : Nat := 9
def CRY.ev_SELFTEST_DONE : Nat := 10
def CRY.ev_SELFTEST_FAIL : Nat := 11
def CRY.ev_AGREE_DONE : Nat := 12
def CRY.ev_AGREE_FAIL : Nat := 13
def CRY.ev_KEYS_ZEROISED : Nat := 14
def CLN.ev_SIG_LOST (i : Nat) : Nat := 0 + i
def CLN.ev_CDR_UNLOCK (i : Nat) : Nat := 4 + i
def CLN.ev_PLL_UNLOCK : Nat := 8
def MAC.ev_PCS_LOST (i : Nat) : Nat := 0 + i
def MAC.ev_CLIENT_FAIL (i : Nat) : Nat := 32 + i
def MAC.ev_MAP_SHORT (i : Nat) : Nat := 64 + i
def MAC.ev_DEMAP_SLIP (i : Nat) : Nat := 96 + i
def CLS.ev_MISS_OVERFLOW : Nat := 0
def CLS.ev_DT_READ_FAIL : Nat := 1
def CLS.ev_NO_EP : Nat := 2
def QMG.ev_NOBUF : Nat := 0
def QMG.ev_BW_REFUSED : Nat := 1
def QMG.ev_BP_ON : Nat := 2
def QMG.ev_EGRESS_OVERFLOW : Nat := 3
def QMG.ev_BUF_READ_FAIL : Nat := 4
def SHP.ev_DEBT_CAPPED : Nat := 0
def SHP.ev_WHEEL_CLAMP : Nat := 1
def FBL.ev_LINK_UP : Nat := 0
def FBL.ev_LINK_DOWN : Nat := 1
def FBL.ev_LANE_DROPPED : Nat := 2
def FBL.ev_LANE_RESTORED : Nat := 3
def FBL.ev_TRAIN_FAIL : Nat := 4
def FBL.ev_FOM_LOW : Nat := 5
def FBL.ev_VERSION_LOW : Nat := 6
def FBR.ev_ADDR_CONFLICT : Nat := 0
def FBR.ev_DOMAIN_FOREIGN : Nat := 1
def FBR.ev_ROUTE_APPLIED : Nat := 2
def FBR.ev_NO_ROUTE : Nat := 3
def FBR.ev_TOPO_CHANGE : Nat := 4
def FBR.ev_RESEQ_SKIP : Nat := 5
def FBR.ev_TRANSIT_DROP : Nat := 6
def FBR.ev_HOP_DROP : Nat := 7
def FBR.ev_PAUSE_EXPIRED : Nat := 8
def TIM.ev_REF_DISQUALIFIED (i : Nat) : Nat := 0 + i
def TIM.ev_REF_QUALIFIED (i : Nat) : Nat := 16 + i
def TIM.ev_SOFT_LIMIT (i : Nat) : Nat := 32 + i
def TIM.ev_DRIFT_ONSET (i : Nat) : Nat := 48 + i
def TIM.ev_VOTED_OUT (i : Nat) : Nat := 64 + i
def TIM.ev_PEER_DISAGREE : Nat := 80
def TIM.ev_MONREF_CHANGE : Nat := 81
def TIM.ev_QL_CHANGE : Nat := 82
def TIM.ev_LOCKED (d : Nat) : Nat := 96 + 16 * d
def TIM.ev_LOCK_LOST (d : Nat) : Nat := 97 + 16 * d
def TIM.ev_HOLDOVER (d : Nat) : Nat := 98 + 16 * d
def TIM.ev_FREERUN (d : Nat) : Nat := 99 + 16 * d
def TIM.ev_SWITCHED (d : Nat) : Nat := 100 + 16 * d
def TIM.ev_STEP_DONE (d : Nat) : Nat := 101 + 16 * d
def TIM.ev_HOLD_NO_HISTORY (d : Nat) : Nat := 102 + 16 * d
def TIM.ev_STEER_CLAMP (i : Nat) : Nat := 120 + i
def CLK.ev_OCXO_LOST : Nat := 0
def CLK.ev_OCXO_RESTORED : Nat := 1
def CLK.ev_XO_OFFSET : Nat := 2
def MEM.ev_TRAIN_FAIL : Nat := 0
def MEM.ev_CH_FAIL : Nat := 1
def MEM.ev_BAND_CHANGE : Nat := 2
def MEM.ev_OVERTEMP : Nat := 3
def MEM.ev_STRONG_USED : Nat := 4
def MEM.ev_STRONG_FAIL : Nat := 5
def ECC.ev_SCRUB_REPORT : Nat := 0
def ECC.ev_SCRUB_STARVED : Nat := 1
def ECC.ev_SECOND_FAIL : Nat := 2
def ECC.ev_MAP_CHANGED : Nat := 3
def PWR.ev_LEAVE_GRANTED : Nat := 0
def PWR.ev_LEAVE_REFUSED : Nat := 1
def PWR.ev_LEAVE_OVERRUN : Nat := 2
def PWR.ev_GOV_CHANGE : Nat := 3
def PWR.ev_OVER_BUDGET : Nat := 4
def PWR.ev_DROOP_SHED : Nat := 5
def PWR.ev_DROOP_STORM : Nat := 6
def PWR.ev_AVS_LIMIT : Nat := 7
def PWR.ev_PMBUS_FAIL : Nat := 8
def THM.ev_WARN : Nat := 0
def THM.ev_WARN_CLEAR : Nat := 1
def THM.ev_THROTTLE_ON : Nat := 2
def THM.ev_THROTTLE_OFF : Nat := 3
def THM.ev_NLC_LIMIT : Nat := 4
def THM.ev_SENSOR_FAIL : Nat := 5
def THM.ev_SENSORS_SHORT : Nat := 6
def THM.ev_LAST_SHUTDOWN : Nat := 7
def HKA.ev_SCAN_DONE : Nat := 0
def HKA.ev_TIP_DONE : Nat := 1
def HKA.ev_SCAN_OVERRUN : Nat := 2
def HKA.ev_TIP_OVERRUN : Nat := 3
def HKA.ev_OVERLOAD : Nat := 4
def HKA.ev_CAL_DONE : Nat := 5
def HKA.ev_CAL_FAIL : Nat := 6
def HKA.ev_CAL_ABORTED : Nat := 7
def FLT.ev_SAFE_STATE : Nat := 0
def FLT.ev_ESCALATED : Nat := 1
def FLT.ev_URGENT_STEP : Nat := 2
def FLT.ev_FAULT_EXIT : Nat := 3
def FLT.ev_STEP3_RESET : Nat := 4
def FLT.ev_CORE_EVT_LOST : Nat := 5
def FLT.ev_ALARM_ON : Nat := 6
def FLT.ev_ALARM_OFF : Nat := 7
def SEC.ev_GUARD_TRIP (i : Nat) : Nat := 0 + i
def SEC.ev_SENSOR_FAULT (i : Nat) : Nat := 8 + i
def SEC.ev_LOCK_ON : Nat := 16
def SEC.ev_KEYSTORE_ERASED : Nat := 17
def SEC.ev_SECRETS_ERASED : Nat := 18
def SEC.ev_KEY_WRITTEN : Nat := 19
def SEC.ev_KEY_WRITE_FAIL : Nat := 20
def SEC.ev_UNWRAP_FAIL : Nat := 21
def SEC.ev_SLOT_CLEARED : Nat := 22
def SEC.ev_KEK_LOADED : Nat := 23
def SEC.ev_KEK_LOAD_FAIL : Nat := 24
def SEC.ev_AUTHORITY_ADDED : Nat := 25
def SEC.ev_AUTHORITY_REMOVED : Nat := 26
def SEC.ev_CLAIM_OPEN : Nat := 27
def SEC.ev_PEER_CHANGED : Nat := 28
def SEC.ev_ATTEST_DONE : Nat := 29
def SEC.ev_ATTEST_FAIL : Nat := 30
def SEC.ev_DEBUG_OPENED : Nat := 31
def SEC.ev_DEBUG_REFUSED : Nat := 32
def SEC.ev_FR_CHALLENGE : Nat := 33
def SEC.ev_FR_ENTERED : Nat := 34
def SEC.ev_FR_REFUSED : Nat := 35
def SEC.ev_KEYBUS_ERROR : Nat := 36
def SEC.ev_RNG_FAIL : Nat := 37
def SEC.ev_GUARD_SELFTEST_DONE : Nat := 38
def NVS.ev_JOURNAL_REPLAYED : Nat := 0
def NVS.ev_JOURNAL_DISCARDED : Nat := 1
def NVS.ev_ECC_CORRECTED : Nat := 2
def NVS.ev_ECC_UNCORRECTABLE : Nat := 3
def NVS.ev_WRITE_FAIL : Nat := 4
def NVS.ev_WEAR_WARN : Nat := 5
def NVS.ev_IMAGE_RECEIVED : Nat := 6
def NVS.ev_IMAGE_INSTALLED : Nat := 7
def NVS.ev_STAGING_OVERFLOW : Nat := 8
def NVS.ev_COLOPHON_UPDATED : Nat := 9
def NVS.ev_REPAIR_MAP_UPDATED : Nat := 10
def NVS.ev_BOARD_RECORD_UPDATED : Nat := 11
def NVS.ev_SCRUB_DONE : Nat := 12
def NVS.ev_RETENTION_WEAK : Nat := 13
def NVS.ev_COMMIT_ABANDONED : Nat := 14
def CPU.ev_WATCHDOG (i : Nat) : Nat := 0 + i
def CPU.ev_CORE_EXCEPTION (i : Nat) : Nat := 8 + i
def CPU.ev_PMU_SAMPLE (i : Nat) : Nat := 16 + i
def CPU.ev_FW_REPLACE_START : Nat := 24
def CPU.ev_FW_REPLACE_DONE : Nat := 25
def CPU.ev_FW_REPLACE_FAIL : Nat := 26
def CPU.ev_USER_FW_FAIL : Nat := 27
def CPU.ev_USER_STARTED : Nat := 28
def RPR.ev_BIST_DONE : Nat := 0
def RPR.ev_BIST_UNREPAIRED : Nat := 1
def RPR.ev_SRAM_REPAIRED : Nat := 2
def RPR.ev_SRAM_SPARES_LOW : Nat := 3
def RPR.ev_SWEEP_START : Nat := 4
def RPR.ev_SWEEP_DONE : Nat := 5
def RPR.ev_SWEEP_SKIPPED : Nat := 6
def RPR.ev_SWEEP_REFUSED : Nat := 7
def RPR.ev_UNIT_CONDEMNED : Nat := 8
def RPR.ev_SPARE_RETIRED : Nat := 9
def RPR.ev_LANE_EXCHANGED : Nat := 10
def RPR.ev_AGEING_WARN : Nat := 11
def RPR.ev_AGEING_LIMIT : Nat := 12
def RPR.ev_MEM_BIST_PASS : Nat := 13
def RPR.ev_MEM_BIST_FAIL : Nat := 14
def RPR.ev_MAP_WRITTEN : Nat := 15
def RPR.ev_MAP_FULL : Nat := 16
def RPR.ev_ENTRY_CLEARED : Nat := 17
def RPR.ev_SPARES_EXHAUSTED : Nat := 18
def MTR.ev_TOKENS_CLIPPED : Nat := 0

/-- Source index 127 of every page (R65). -/
def evWRITE_REJECTED : Nat := 127

/-- The four EVT_ENABLE words at reset, which are also the masks of the used source indices (R551). -/
def Kind.evUsed : Kind → List Nat
  | .SYS => [0x1ff, 0x0, 0x0, 0x80000000]
  | .RAP => [0xff, 0x0, 0x0, 0x80000000]
  | .PWR => [0x1ff, 0x0, 0x0, 0x80000000]
  | .THM => [0xff, 0x0, 0x0, 0x80000000]
  | .HKA => [0xff, 0x0, 0x0, 0x80000000]
  | .FLT => [0xff, 0x0, 0x0, 0x80000000]
  | .SEC => [0xffffffff, 0x7f, 0x0, 0x80000000]
  | .CLK => [0x7, 0x0, 0x0, 0x80000000]
  | .TIM => [0xffffffff, 0xffffffff, 0x7ffff, 0x837f007f]
  | .CPU => [0x1fffffff, 0x0, 0x0, 0x80000000]
  | .NVS => [0x7fff, 0x0, 0x0, 0x80000000]
  | .RPR => [0x7ffff, 0x0, 0x0, 0x80000000]
  | .CNV => [0x7f, 0x0, 0x0, 0x80000000]
  | .CAL => [0xfff, 0x0, 0x0, 0x80000000]
  | .RXD => [0x1ffff, 0x0, 0x0, 0x80000000]
  | .TXD => [0x1ff, 0x0, 0x0, 0x80000000]
  | .SUB => [0x1fff, 0x0, 0x0, 0x80000000]
  | .FEC => [0x3ff, 0x0, 0x0, 0x80000000]
  | .FRM => [0x7fff, 0x0, 0x0, 0x80000000]
  | .GTH => [0x7ff, 0x0, 0x0, 0x80000000]
  | .CRY => [0x7fff, 0x0, 0x0, 0x80000000]
  | .OSP => [0x3, 0x0, 0x0, 0x80000000]
  | .PMB => [0x1f, 0x0, 0x0, 0x80000000]
  | .CLN => [0x1ff, 0x0, 0x0, 0x80000000]
  | .MAC => [0xffffffff, 0xffffffff, 0xffffffff, 0xffffffff]
  | .CLS => [0x7, 0x0, 0x0, 0x80000000]
  | .QMG => [0x1f, 0x0, 0x0, 0x80000000]
  | .MTR => [0x1, 0x0, 0x0, 0x80000000]
  | .SHP => [0x3, 0x0, 0x0, 0x80000000]
  | .FBL => [0x7f, 0x0, 0x0, 0x80000000]
  | .FBR => [0x1ff, 0x0, 0x0, 0x80000000]
  | .MEM => [0x3f, 0x0, 0x0, 0x80000000]
  | .ECC => [0xf, 0x0, 0x0, 0x80000000]

/-- The eight EVT_CLASS words at reset: the default classes (R551). -/
def Kind.evClass : Kind → List Nat
  | .SYS => [0x7175, 0x0, 0x0, 0x0, 0x0, 0x0, 0x0, 0x0]
  | .RAP => [0x1010, 0x0, 0x0, 0x0, 0x0, 0x0, 0x0, 0x0]
  | .PWR => [0x15114, 0x0, 0x0, 0x0, 0x0, 0x0, 0x0, 0x0]
  | .THM => [0x5411, 0x0, 0x0, 0x0, 0x0, 0x0, 0x0, 0x0]
  | .HKA => [0x1144, 0x0, 0x0, 0x0, 0x0, 0x0, 0x0, 0x0]
  | .FLT => [0x507, 0x0, 0x0, 0x0, 0x0, 0x0, 0x0, 0x0]
  | .SEC => [0x55555555, 0x5055451d, 0xd51, 0x0, 0x0, 0x0, 0x0, 0x0]
  | .CLK => [0x11, 0x0, 0x0, 0x0, 0x0, 0x0, 0x0, 0x0]
  | .TIM => [0x55555555, 0x0, 0x55555555, 0x55555555, 0x55555555, 0x5, 0x1054, 0x51054]
  | .CPU => [0x55555555, 0x540000, 0x0, 0x0, 0x0, 0x0, 0x0, 0x0]
  | .NVS => [0x40105c1, 0x0, 0x0, 0x0, 0x0, 0x0, 0x0, 0x0]
  | .RPR => [0x1145404c, 0x11, 0x0, 0x0, 0x0, 0x0, 0x0, 0x0]
  | .CNV => [0x3453, 0x0, 0x0, 0x0, 0x0, 0x0, 0x0, 0x0]
  | .CAL => [0x501514, 0x0, 0x0, 0x0, 0x0, 0x0, 0x0, 0x0]
  | .RXD => [0x31450154, 0x0, 0x0, 0x0, 0x0, 0x0, 0x0, 0x0]
  | .TXD => [0x5454, 0x0, 0x0, 0x0, 0x0, 0x0, 0x0, 0x0]
  | .SUB => [0x445015, 0x0, 0x0, 0x0, 0x0, 0x0, 0x0, 0x0]
  | .FEC => [0x74501, 0x0, 0x0, 0x0, 0x0, 0x0, 0x0, 0x0]
  | .FRM => [0x445114, 0x0, 0x0, 0x0, 0x0, 0x0, 0x0, 0x0]
  | .GTH => [0x54541, 0x0, 0x0, 0x0, 0x0, 0x0, 0x0, 0x0]
  | .CRY => [0x14455055, 0x0, 0x0, 0x0, 0x0, 0x0, 0x0, 0x0]
  | .OSP => [0x1, 0x0, 0x0, 0x0, 0x0, 0x0, 0x0, 0x0]
  | .PMB => [0x41, 0x0, 0x0, 0x0, 0x0, 0x0, 0x0, 0x0]
  | .CLN => [0x35555, 0x0, 0x0, 0x0, 0x0, 0x0, 0x0, 0x0]
  | .MAC => [0x55555555, 0x55555555, 0x55555555, 0x55555555, 0x55555555, 0x55555555, 0x0, 0x0]
  | .CLS => [0x5, 0x0, 0x0, 0x0, 0x0, 0x0, 0x0, 0x0]
  | .QMG => [0x145, 0x0, 0x0, 0x0, 0x0, 0x0, 0x0, 0x0]
  | .MTR => [0x0, 0x0, 0x0, 0x0, 0x0, 0x0, 0x0, 0x0]
  | .SHP => [0x0, 0x0, 0x0, 0x0, 0x0, 0x0, 0x0, 0x0]
  | .FBL => [0x114, 0x0, 0x0, 0x0, 0x0, 0x0, 0x0, 0x0]
  | .FBR => [0x1045, 0x0, 0x0, 0x0, 0x0, 0x0, 0x0, 0x0]
  | .MEM => [0x44d, 0x0, 0x0, 0x0, 0x0, 0x0, 0x0, 0x0]
  | .ECC => [0x71, 0x0, 0x0, 0x0, 0x0, 0x0, 0x0, 0x0]

end Sys2Proof.Machine
end

