-- ==== Sys2Proof/Machine/State.lean ====
section
/-!
DEFINITION. The state of the block as plain data: the register and window words, the GDDR7 table region, and the
internal state that the chapters give each block beside its registers; the reasons a step can stop; the state at
reset; the queue of the commands that are waiting.
-/
namespace Sys2Proof.Machine

/-! ### Keyed tables -/

/-- A sparse table by number: keys strictly rising, no entry equal to what an unlisted key holds. -/
abbrev Tab (α : Type) := List (Nat × α)

/-- One value per carrier. -/
structure Pair (α : Type) where
  c0 : α
  c1 : α
  deriving DecidableEq, Repr

/-! ### Chapter 3: the Relwin Access Protocol -/

/-- The body of a RAP response (Table 3-8): status of Table 3-9, register words, words done, RETRY_AFTER. -/
structure Resp where
  status : Nat
  words : List Word := []
  done : Nat := 0
  retryAfter : Nat := 0
  deriving DecidableEq, Repr

/-- A response kept for 1 s under its TAG (R100). -/
structure Kept where
  tag : Nat
  resp : Resp
  sentAt : Nat
  deriving DecidableEq, Repr

/-- Set-up stage of a session slot (R94, R95). -/
inductive SessStage where
  | free | accepted | opened
  deriving DecidableEq, Repr

/-- The header of a frame that the part sends (Table 3-6); LENGTH follows its body and FLAGS are 0. -/
structure RapHdr where
  version : Nat
  typ : Nat
  opcode : Nat
  status : Nat
  tag : Nat
  sid : Nat
  seq : Nat
  retryAfter : Nat := 0
  deriving DecidableEq, Repr

/-- What leaves the block, oldest first in `State.out`: RAP frames with where they go and their bytes from the header on (R86 to
R89), events to the service cores, and the cells, words, pulses and messages that the chapters say are sent. -/
inductive Out where
  | response (slot tag : Nat) (r : Resp) (to_ : Peer) (wire : List Nat)
  | frame (opcode status : Nat) (body : List Nat) (to_ : Peer) (wire : List Nat)
  | eventMsg (slot page idx cls time seq : Nat) (to_ : Peer) (wire : List Nat)
  | evtLost (slot count : Nat) (to_ : Peer) (wire : List Nat)
  | coreEvent (page idx cls time : Nat)
  | sent (what : String) (args : List Int)
  deriving DecidableEq, Repr

/-- One of the 8 session slots (R88, R91, R94, R95, R100, R102 to R104). `seqHigh` is the highest SEQ accepted and
`seqSeen` the accepted ones among the 64 below it, bit k for seqHigh − 1 − k. `hostId`, `hostKey`, `partKey`, `nonce` and `key`
are what the set-up exchanged and derived; `asked` the opcode and sender of each request by TAG, `peer` where the next frame of the
session goes, and `unsent` what waits for a peer after a change of encapsulation. -/
structure Session where
  stage : SessStage := .free
  claim : Bool := false
  authority : Nat := 0
  sid : Nat := 0
  version : Nat := 0x10
  seqHigh : Nat := 0
  seqSeen : Nat := 0
  txSeq : Nat := 0
  lastValid : Nat := 0
  hostId : Nat := 0
  hostKey : Nat := 0
  partKey : Nat := 0
  nonce : Nat := 0
  key : Nat := 0
  asked : List (Nat × Nat × Peer) := []
  peer : Option Peer := none
  unsent : List Out := []
  kept : List Kept := []
  subscribed : Bool := false
  pageMask : Nat := 0
  classMask : Nat := 0
  tokens : Nat := 0
  tokenTime : Nat := 0
  evtSeq : Nat := 0
  withheld : Nat := 0
  deriving DecidableEq, Repr

/-- Per-requester access state: the 64-bit snapshot (R77) and the staged words of a table entry (R81). -/
structure Requester where
  lastLow : Option Nat := none
  snap : Word := 0
  entry : Option Nat := none
  staged : List (Nat × Word) := []
  deriving DecidableEq, Repr

/-- The FILL in progress or waiting for leave (R98): its range (start, words), pattern, requester and TAG; `applied` when all it
still has to do is writes that wait in band OVER (R510). -/
structure FillJob where
  addr : Nat
  count : Nat
  pattern : List Word
  slot : Nat
  tag : Nat
  running : Bool := false
  applied : Bool := false
  deriving DecidableEq, Repr

/-- What waits in a session's order behind a request that answers later: a request to run, or a response to send (R99). -/
inductive Held where
  | run (q : Req)
  | say (r : Resp)
  deriving DecidableEq, Repr

/-- The rest of a BULK_WRITE behind a word whose answer comes later: its slot and request, the next address, the words left, the
words done, and whether the word has been answered OK (R97). -/
structure BulkRest where
  slot : Nat
  h : ReqHdr
  addr : Nat
  words : List Nat
  done : Nat
  go : Bool := false
  deriving DecidableEq, Repr

/-- RAP's own state. `agreed` is the version of the last HELLO; `blocked` names the slots with a request in progress that holds
back those after it, `held` what is held back, by slot, `rest` the bulk writes that pause (R97, R99), `udp` the encapsulation in
force (R88), `earlyDropped` that a frame has been dropped before READY; a slot of 8 stands for a session closed since. The tokens of
R49 are in nanoseconds of credit, 100,000 a frame. -/
structure RapState where
  sessions : Tab Session := []
  requesters : Tab Requester := []
  fill : Option FillJob := none
  agreed : Nat := 0x10
  outstanding : Nat := 0
  blocked : List Nat := []
  held : List (Nat × ReqHdr × Held) := []
  rest : List BulkRest := []
  udp : Bool := false
  earlyDropped : Bool := false
  earlyTokens : Nat := 6400000
  earlyTime : Nat := 0
  mgtUp : Bool := false
  deriving DecidableEq, Repr

/-! ### Chapter 17: leave -/

/-- A heavy operation asking for leave, by its code of Table 17-1 and its requester. -/
structure LeaveReq where
  op : Nat
  unit : Nat
  cost : Nat
  durationMs : Nat
  standing : Nat
  at_ : Nat := 0
  overrun : Bool := false
  deriving DecidableEq, Repr

/-- The governor's, AVS's and the droop detectors' state that no register holds (R519 to R532): the leaves, the standing
costs that joined, the last evaluation of the governor, the run of failed PMBus periods, AVS started, refused for its VOUT_MODE, its run of high slack and a
command to retry, the end of the shed, the past spans of core gating and the start of the present one, the trips of the
present second, and a board record with two AVS rails. -/
structure PwrState where
  queue : List LeaveReq := []
  active : List LeaveReq := []
  carrierStanding : Pair Nat := ⟨0, 0⟩
  nlcStanding : Pair Nat := ⟨0, 0⟩
  pmbusFailRun : Nat := 0
  govAt : Nat := 0
  avsStarted : Bool := false
  avsSlackRun : Nat := 0
  shedEnd : Nat := 0
  gating : List (Nat × Nat) := []
  gateFrom : Option Nat := none
  avsBad : Bool := false
  avsRetry : Option Nat := none
  stormSecond : Nat := 0
  stormTrips : Nat := 0
  stormRaised : Bool := false
  twoAvs : Bool := false
  deriving DecidableEq, Repr

/-- Temperature sensing (R533 to R537): per sensor the run of samples away from its die's mean and the run at or
above 125 °C, the run of samples cool enough for a longer interval, whether MAX_SEEN waits for its first sample since its
read, a shortage of sensors, and the throttled time below a millisecond. -/
structure ThmState where
  farRun : Tab Nat := []
  hotRun : Tab Nat := []
  coolRun : Nat := 0
  maxFresh : Bool := true
  short : Bool := false
  throttleNs : Nat := 0
  deriving DecidableEq, Repr

/-! ### Chapter 19: pages and the ladder -/

/-- What a page holds beside its header: when its grace timer last started, the state held before FAULT, the later
of its last step and last non-INFO fire, a soft reset in progress, and since when it is in DRAIN. -/
structure PageCtl where
  graceFrom : Option Nat := none
  prior : Nat := 1
  quietFrom : Nat := 0
  softReset : Bool := false
  quietHeld : Option Nat := none
  drainFrom : Nat := 0
  deriving DecidableEq, Repr

/-! ### Chapter 2: boot, reset and pins -/

/-- Level of an output that reset holds (R35, Table 2-5, Table 17-6). -/
inductive PinState where
  | hiZ | elecIdle | low | idle | localFault | live
  deriving DecidableEq, Repr

/-- Boot and reset state (R32 to R57): the reset inputs, the warm reset due, whether this boot is a warm one, thermal shutdown,
t0 or t0w, the parallel steps done, the firmware started, ROM recovery, the management identity, the balls that no register
shows, and who asked for each carrier (REJECT_LAST.SOURCE). -/
structure BootState where
  pwrgood : Bool := false
  resetN : Bool := false
  pwrgoodFell : Bool := true
  warmDue : Option Nat := none
  warm : Bool := false
  shutdown : Bool := false
  t0 : Nat := 0
  gddrDone : Bool := false
  serdesLocked : Bool := false
  fwStarted : Bool := false
  recovery : Bool := false
  mgmtId : Nat := 0
  alarmHold : Bool := true
  alarmLow : Bool := true
  ocpDriven : Bool := false
  clientTx : PinState := .elecIdle
  fabricTx : PinState := .elecIdle
  mgtTx : PinState := .elecIdle
  clockOut : PinState := .hiZ
  ospOut : PinState := .hiZ
  pmbusOut : PinState := .hiZ
  strapsSampled : Bool := false
  upSrc : Pair Nat := ⟨0, 0⟩
  deriving DecidableEq, Repr

/-! ### Chapters 4 and 6: converters, calibration, transmit output -/

/-- One step of one code of one sub-converter (R114): entry number c × 68 + u, code 0 OFFSET, 1 GAIN, 2 DELAY, 3 BW. -/
structure CodeStep where
  entry : Nat
  code : Nat
  up : Bool
  deriving DecidableEq, Repr

/-- A spare swap in progress (R127). -/
structure Swap where
  conv : Nat
  pos : Nat
  unit : Nat
  failed : Nat
  okRun : Nat := 0
  periods : Nat := 0
  ready : Bool := false
  deriving DecidableEq, Repr

/-- CALn and CNVn beside their registers: updates waiting for a gutter by converter, the runs of periods with a large
error by entry (Table 4-5), the swap, the last swap's time, a full calibration in progress, the observed DAC, the
die-to-die data lanes due for exchange (direction 0 core to CX or 1, lane, found by a sweep) and those that failed with
no spare, the free spare lanes, the line PLL (R643) and whether a bring-up has seen its lock, the failed positions that wait for
their swap (R127), the entries whose failure has been raised; from when a converter's period runs, where that is known (R119);
when a gutter of each direction, 0 transmit, last carried a change (R118); and of a full calibration its start, its step of
Table 4-4 (0 OFFSET and GAIN, 1 DELAY, 2 BW, 3 residual), the ranges that the bisection has left by 4 × entry + code, the
entries that its step still works on, and the runs of good residual periods (R123). -/
structure CalState where
  pend : Tab (List CodeStep) := []
  persist : Tab Nat := []
  swap : Option Swap := none
  lastSwap : Option Nat := none
  fullRunning : Bool := false
  fullByUp : Bool := false
  swapWait : List (Nat × Nat) := []
  obsDac : Nat := 0
  obsCount : Nat := 0
  obsFailed : Bool := false
  d2dDue : List (Nat × Nat × Bool) := []
  d2dDead : List (Nat × Nat) := []
  d2dSpares : Pair Nat := ⟨16, 16⟩
  pllRuns : Bool := false
  pllLockedOnce : Bool := false
  upLocked : Bool := false
  sick : List Nat := []
  periodFrom : Tab (Option Nat) := []
  slotAt : Pair (Option Nat) := ⟨none, none⟩
  fullFrom : Nat := 0
  fullStage : Nat := 0
  fullLim : Tab (Option (Int × Int)) := []
  fullTodo : List Nat := []
  fullGood : Tab Nat := []
  deriving DecidableEq, Repr

/-- Direction of the mute and unmute gain (R208). -/
inductive Ramp where
  | steady | rising | falling
  deriving DecidableEq, Repr

/-- One mask unit beside its registers (R200, R201): an exchange due at the next gutter, whether the active bank has
passed, whether the target is muted, and the power of its signal in the 1,024 bins over the quire so far. -/
structure MaskUnit where
  exchangeDue : Bool := false
  checking : Bool := false
  activePassed : Bool := false
  liveMuted : Bool := false
  spectrum : List Rat := []
  deriving DecidableEq, Repr

/-- TXDn's output beside its registers (R206 to R210): the gain in 1/1000 at `rampAt`, its direction, the mute causes,
the inputs after polarity, when OPT_FAULT last ended and when the enables went high, the points of Table 6-4 reached, the SPI port,
the pre-emphasis taps in use (R204), the folios that FRMn handed over, by count and streams, the coded bits of each stream by folio, the last
symbols of each subcarrier (2 × number + 1 for Y) and the last samples of each DAC that the filters still see, the saturated samples of
the quire by DAC (R205), the count of the folio last sent. -/
structure TxState where
  gain : Nat := 0
  ramp : Ramp := .steady
  rampAt : Nat := 0
  cHost : Bool := false
  cStep1 : Bool := false
  cFault : Bool := false
  cOpt : Bool := false
  cDown : Bool := false
  cSafe : Bool := false
  optActive : Bool := false
  optRecent : Bool := false
  optOffAt : Nat := 0
  enabledAt : Nat := 0
  laserReady : Bool := false
  laserEn : Bool := false
  drvEn : Bool := false
  waitDone : Bool := false
  calDone : Bool := false
  reached : Bool := false
  armed : Bool := false
  spi : List Word := []
  spiBusy : Option (Bool × Word) := none
  freqCmd : List Word := []
  mask0 : MaskUnit := {}
  mask1 : MaskUnit := {}
  tapsInUse : List Rat := []
  due : List (Nat × List Nat) := []
  coded : Tab (List (Nat × List Bool)) := []
  tail : Tab (List Cx) := []
  dacTail : List (List Rat) := [[], [], [], []]
  clips : List Nat := [0, 0, 0, 0]
  folio : Nat := 0
  deriving DecidableEq, Repr

/-! ### Chapter 5: the receiver -/

/-- An acquisition state (Table 5-5), by its code 0 to 8. -/
inductive Acq where
  | idle | waitSignal | cdSearch | freqAcq | eqBlind | gutterSearch | train | track | burst
  deriving DecidableEq, Repr

/-- A slot of the CD memory (R144); value in units of 10 ps/nm. -/
structure CdSlot where
  value : Int := 0
  taps : List Cx := []
  fd : Int := 0
  leftAt : Nat := 0
  valid : Bool := false
  deriving DecidableEq, Repr

/-- The candidates of a CD search in their order (R143). -/
inductive CdCand where
  | slot0 | slot1 | hint | full
  deriving DecidableEq, Repr

/-- A CD search in progress (R142, R143): the candidate and those after it, whether the fine pass runs, the pass's
range and the number of its next trial, the metrics found in it, and the coarse set a fine pass is judged against.
Values are in units of 10 ps/nm. -/
structure CdSearch where
  cand : CdCand := .full
  rest : List CdCand := []
  fine : Bool := false
  lo : Int := 0
  hi : Int := 0
  j : Nat := 0
  found : List Nat := []
  coarse : List Nat := []
  deriving DecidableEq, Repr

/-- Sums of a subcarrier over a measurement period (Table 5-9): over gutter and pilot symbols of |z|², Re(z a*) and |a|², over
data symbols of |z|², the pilot phase steps in turns and the symbols they span, and the SOP samples, 1 µs apart, with the time
since the last, its unitary factor and its rate. -/
structure MeasAcc where
  known : Rat := 0
  cross : Rat := 0
  ref : Rat := 0
  nKnown : Nat := 0
  data : Rat := 0
  nData : Nat := 0
  slope : Rat := 0
  span : Nat := 0
  sopClk : Rat := 0
  sopU : List Cx := []
  sopMax : Rat := 0
  sopSum : Rat := 0
  sopN : Nat := 0
  sopLast : Rat := 0
  deriving DecidableEq, Repr

/-- Sums over a window of 1,024 blocks of 128 symbols: the output powers, the constant-modulus cost, the squared timing error in
UI² (R153, R168). -/
structure EqWin where
  n : Nat := 0
  px : Rat := 0
  py : Rat := 0
  cost : Rat := 0
  time : Rat := 0
  deriving DecidableEq, Repr

/-- A subcarrier of the receiver: its acquisition machine (R168), the search, the CD memory, the equaliser taps (in
order 64 f + k), the derotator frequency in kHz and its angle in turns, the resampler's relative rate, the folio position of the
next block (in a burst counted from the start of its window's folio), the last two pilot phases, the sums behind the transitions
and the record, when TRACK was left last and when FREQ_ACQ made its last estimate, |det H| at the last entry to TRACK, and the data symbols of the folio or burst in progress by data index. -/
structure Subc where
  st : Acq := .idle
  enteredAt : Nat := 0
  lostAt : Nat := 0
  estAt : Option Nat := none
  search : CdSearch := {}
  cd : Int := 0
  slot0 : CdSlot := {}
  slot1 : CdSlot := {}
  fromSlot : Option Bool := none
  taps : List Cx := []
  fd : Int := 0
  rot : Rat := 0
  timing : Rat := 0
  pos : Nat := 0
  phases : List Rat := []
  win : EqWin := {}
  costPrev : Option Rat := none
  detRef : Option Rat := none
  detRun : Nat := 0
  corrRun : Nat := 0
  pilotOk : Bool := false
  syms : List (Nat × Dual) := []
  acc : MeasAcc := {}
  trials : Nat := 0
  acqFrom : Option Nat := none
  folios : Nat := 0
  gutterHits : Nat := 0
  gutterPos : Int := 0
  gutterMiss : Nat := 0
  restarts : Nat := 0
  cdFails : Nat := 0
  phaseJumps : Nat := 0
  singular : Nat := 0
  trackFrom : Option Nat := none
  dRes : Int := 0
  moveDue : Bool := false
  swapDue : Bool := false
  deriving DecidableEq, Repr

/-- The receiver of a carrier beside its registers: the subcarriers, the loss detector and its run of dark intervals, the SOP boost with the time the rate last exceeded the threshold, the flagged
gutter (R150), the laser command in units of 1/128 kHz with the field last sent, its hold and the check due with the time of its change, and when the laser loop last ran
(R158 to R162), a zero to be sent, the NLC stage with the time its hold has been cool (R164, R165), the slices that have failed, the start of the measurement period, and the quire of the received grid at it with the time and quire from which
an unlocked grid counts, and whether FRMn has locked (R175). -/
structure RxState where
  subs : Tab Subc := []
  los : Bool := false
  losRun : Nat := 0
  boost : Bool := false
  boostAt : Nat := 0
  flagged : Bool := false
  cLaser : Int := 0
  sentField : Option Int := none
  zeroDue : Bool := false
  holdC : Bool := false
  checkC : Option (Int × Int) := none
  checkAt : Nat := 0
  fbAt : Option Nat := none
  nlcOn : Bool := false
  nlcStop : Bool := false
  nlcLeave : Bool := false
  nlcHeld : Bool := false
  nlcCool : Option Nat := none
  failedSlices : List Nat := []
  measFrom : Nat := 0
  measQuire : Nat := 0
  gridAt : Nat := 0
  gridQuire : Nat := 0
  gridLocked : Bool := false
  deriving DecidableEq, Repr

/-! ### Chapter 7: subcarriers and bursts -/

/-- A queued ASSIGN pair (R224, R225): leaf number, action, OFFSET field, join tag. -/
structure Assign where
  leaf : Nat
  action : Nat
  offset : Nat
  tag : Nat
  deriving DecidableEq, Repr

/-- A window granted for an upstream folio: leaf, subcarrier, START and LEN, and whether its sync word was latched. -/
structure Grant where
  leaf : Nat
  subc : Nat
  folio : Nat
  start : Nat
  len : Nat
  latched : Bool := false
  deriving DecidableEq, Repr

/-- Burst receiver states of Table 7-7; `join` decodes the payload of a join burst. -/
inductive BurstSt where
  | armed | syncSearch | payload | join
  deriving DecidableEq, Repr

/-- The values of Table 7-8 that a sync word latches, and the CD estimated from the preamble (R227). -/
structure Latched where
  rssi : Nat := 0
  snr : Nat := 0
  freq : Int := 0
  arrival : Int := 0
  metric : Nat := 0
  cd : Int := 0
  deriving DecidableEq, Repr

/-- A burst that a receiver holds: its leaf, upstream folio, START and LEN, the latched values, whether an intruder was seen, and
at its ramp-down the state it leaves in the receiver (R237). -/
structure Burst where
  leaf : Nat
  folio : Nat
  start : Nat := 0
  len : Nat := 0
  latched : Latched
  intruded : Bool := false
  cd : Int := 0
  taps : List Cx := []
  fd : Int := 0
  deriving DecidableEq, Repr

/-- The burst receiver of a SHARED subcarrier (R233 to R238): `corrB` and `candM` name the candidate's correlator and
metric in 2⁻¹⁶, `captured` a candidate that captured the receiver, `cur` the burst in PAYLOAD, `ended` one whose verdict
is awaited, `last` one that has its verdict and whose spine is to be checked. -/
structure BurstRx where
  st : BurstSt := .armed
  corrB : Bool := false
  candM : Nat := 0
  captured : Bool := false
  latched : Latched := {}
  cur : Option Burst := none
  ended : Option Burst := none
  last : Option Burst := none
  deriving DecidableEq, Repr

/-- What the hub keeps of a leaf beside its entry: the burst state it stores and loads (R237), and the running average
of arrival errors with the upstream folio it runs from (R229), and the last arrival error measured, in ps (R218). -/
structure LeafMem where
  cd : Int := 0
  taps : List Cx := []
  fd : Int := 0
  sum : Int := 0
  n : Nat := 0
  avgFrom : Nat := 0
  err : Option Int := none
  deriving DecidableEq, Repr

/-- What a map entry has a leaf do from an upstream folio on (R224, R225): an ASSIGN pair, or a GRANT word. -/
inductive LeafDo where
  | assign (a : Assign)
  | grant (word : Nat)
  deriving DecidableEq, Repr

/-- A burst that a leaf sends (R219, R221): its subcarrier, upstream folio, START and LEN, its sync word, of a join burst the
record, whether GTH and FRMn have made its unit and its spine and payload, and from its first folio on its coded bits and the LEN
and PROFILE of its ramp-up. -/
structure TxBurst where
  subc : Nat
  folio : Nat
  start : Nat
  len : Nat
  sync : Nat
  record : Option (BitVec 128) := none
  unitMade : Bool := false
  assembled : Bool := false
  bits : List Bool := []
  ramp : Option (Nat × Bool) := none
  deriving DecidableEq, Repr

/-- SUBn beside its registers (R222 to R239): the ASSIGN FIFO, the grants open, the burst receivers and leaves, the
bank that governs grants with its cycle and the folio from which the active bank takes over, the downstream folio in
progress; and in LEAF role the moment its state began, the state before HOLD, the join tag, the backoff count, and ASSIGN pairs waiting for the
upstream folio from which they act (R225), and the bursts it sends; and of a hub the windows (subcarrier, folio, START, LEN) of the
bank that governed before `oldUntil`, with its cycle (R223). -/
structure SubState where
  assign : List Assign := []
  grants : List Grant := []
  rx : Tab BurstRx := []
  leaves : Tab LeafMem := []
  activePassed : Bool := true
  govBank : Nat := 0
  govCycle : Nat := 5
  switchAt : Option Nat := none
  folio : Nat := 0
  leafHeld : Nat := 0
  leafAt : Nat := 0
  tag : Nat := 0
  backoff : Nat := 0
  leafDue : List (Nat × LeafDo) := []
  bursts : List TxBurst := []
  oldWins : List (Nat × Nat × Nat × Nat) := []
  oldCycle : Nat := 5
  oldUntil : Nat := 0
  deriving DecidableEq, Repr

/-! ### Chapter 8: FEC -/

/-- A decoded LDPC codeword: its kind (0 CONVERGED, 1 UNCONVERGED, 2 ABSENT) and information bits (R251, R252). -/
structure DecWord where
  kind : Nat
  bits : List Bool
  deriving DecidableEq, Repr

/-- What FECn passes to FRMn for a stream (R254): the decoded bytes, the UNCORRECTED and ABSENT codewords, any FAILED BCH word,
and whether codeword 0 was ABSENT. -/
structure Passed where
  bytes : List Nat := []
  unc : Nat := 0
  absent : Nat := 0
  failed : Bool := false
  absent0 : Bool := false
  deriving DecidableEq, Repr

/-- FECn beside its registers: a raise of IMAX waiting for leave, the engines in the pool and the free spares by number,
the place of the engine shadowed, the spares due to join, whether the cap stands below the HOST value; the streams handed over by
FRMn for encoding with their folio counts, oldest first (R243); the LLRs of each subcarrier's last folio or burst by block and polarisation, none for an
absent position; the codewords of each stream decoded so far and what was passed to FRMn (R254); and the period's sums behind
MARGIN.AVG (R266), PREFEC_BER and NGMI (R175; bits and the sum of log₂(1 + exp ...) by polarisation). -/
structure FecState where
  raiseTo : Option Nat := none
  active : List Nat := (List.range 24)
  spares : List Nat := [24, 25]
  shadow : Nat := 0
  joinDue : Nat := 0
  exhausted : Bool := false
  limited : Bool := false
  txIn : Tab (List (Nat × List Bool)) := []
  soft : Tab (List (Nat × List (Option Rat))) := []
  dec : Tab (List DecWord) := []
  toFrm : Tab (Option Passed) := []
  avgSum : Nat := 0
  avgN : Nat := 0
  berErrs : Nat := 0
  berBits : Nat := 0
  gmiX : Rat := 0
  gmiY : Rat := 0
  gmiBitsX : Nat := 0
  gmiBitsY : Nat := 0
  deriving DecidableEq, Repr

/-! ### Chapter 9: framing, overhead ports, performance monitoring -/

/-- A hypothesis of the alignment search (R282). -/
structure Hyp where
  pos : Nat
  count : Nat
  hits : Nat
  deriving DecidableEq, Repr

/-- Alignment and defects of one received stream (R281 to R285, R300). -/
structure Stream where
  inUse : Bool := false
  locked : Bool := false
  pos : Nat := 0
  expected : Nat := 0
  missRun : Nat := 0
  hyps : List Hyp := []
  bipOwn : Option (BitVec 64) := none
  uncHist : List Bool := []
  unc : Bool := false
  sd : Bool := false
  bipSecond : Nat := 0
  wholeSecond : Bool := false
  rdiRun : Nat := 0
  noRdiRun : Nat := 0
  rdiRx : Bool := false
  lastErr : Bool := false
  tail : List Nat := []
  held : List Nat := []
  lead : Nat := 0
  deriving DecidableEq, Repr

/-- A unit that CRY has passed to the line (R327, R354): its GSN, key phase bit and tag, and its bytes as they stand in the slots. -/
structure LineUnit where
  gsn : Nat
  phase : Bool
  tag : Nat
  bytes : List Nat
  deriving DecidableEq, Repr

/-- What a received folio, or burst, gives a gathering on one stream (R278, R285, R300 to R302): the DTIME of its first byte, its
slots' bytes with their all-ones and SD marks, the marker and phase bit of its unit where the folio was not missed, the tag of its own
unit for a burst and of the unit before for a folio. -/
structure FolioIn where
  at_ : Nat
  ones : Bool
  sd : Bool
  bytes : List Nat
  marker : Option Nat := none
  phase : Option Bool := none
  tag : Option Nat := none
  own : Bool := false
  deriving DecidableEq, Repr

/-- FRMn beside its registers: streams, the PS quire in progress and its run (R288, R289), the capability run (R295),
trace collection (R298), the snapshot due, the transmit count, PS value and version, the BIP of each transmitted stream's
last payload and the BIP errors to report on each, the markers, key phases and tags by position, with the tags of the
previous folio's units (R277), the burst map of the folio, the MC0 and MC1 units received and due to the ports, the last folio's descrambled headband with
whether it was missed, the units of each gathering that wait for a transmit folio (R325), and what received folios (by 16 g + stream)
and bursts (by g) gave each gathering, and the MC1 units of key agreement to send. -/
structure FrmState where
  streams : Tab Stream := []
  psVal : Option Nat := none
  psOk : Bool := false
  psRunVal : Nat := 0
  psRun : Nat := 0
  capVal : BitVec 64 := 0
  capRun : Nat := 0
  capHeld : Bool := false
  trace : List Nat := []
  traceLast : List Nat := []
  traceRun : Nat := 0
  snapDue : Bool := false
  txCount : Nat := 0
  psSend : Nat := 0
  verUsed : Nat := 1
  verAgreed : Nat := 1
  bipTx : Tab Nat := []
  bei : Tab Nat := []
  txMarkers : Tab Nat := []
  txPhases : Tab Bool := []
  txTags : Tab Nat := []
  tagsPrev : Tab Nat := []
  burstMap : List Nat := []
  mc0 : List (List Nat) := []
  mc1 : List (List Nat) := []
  rxHead : List Nat := []
  rxValid : Bool := false
  txReady : Tab (List LineUnit) := []
  toGth : Tab (List FolioIn) := []
  burstIn : Tab (List FolioIn) := []
  coreTx : List (List Nat) := []
  deriving DecidableEq, Repr

/-- A second of a PM entity (R306 to R308): its counts and classes, whether a defect held. -/
structure PmSecond where
  sec : Nat := 0
  defect : Bool := false
  errored : Nat := 0
  failed : Nat := 0
  bip : Nat := 0
  bei : Nat := 0
  beiFolios : Nat := 0
  rdi : Bool := false
  tagFail : Nat := 0
  recollate : Nat := 0
  psw : Nat := 0
  unavailable : Bool := false
  deriving DecidableEq, Repr

/-- A PM entity (carrier n at n, gathering g at 2 + g): the second in progress and those not yet final. -/
structure PmEnt where
  cur : PmSecond := {}
  past : List PmSecond := []
  unavail : Bool := false
  deriving DecidableEq, Repr

/-- Counts of an endpoint waiting to be added to its GDDR7 record (R310): the seven counters of Table 9-5. -/
structure EpCounts where
  c : List Nat := [0, 0, 0, 0, 0, 0, 0]
  deriving DecidableEq, Repr

/-- PMB beside its registers: the offset in force (R305), the entities, the endpoint counts on die, the (kind, entity, counter,
day, number) that gave their entry in their bin, and the intervals and days that are SUSPECT. -/
structure PmbState where
  offset : Int := 0
  ents : Tab PmEnt := []
  eps : Tab EpCounts := []
  crossed : List (Nat × Nat × Nat × Nat × Nat) := []
  suspectQ : List Nat := []
  suspectD : List Nat := []
  deriving DecidableEq, Repr

/-! ### Chapter 10: gatherings -/

/-- State of a part of a gathering (Table 10-3). -/
inductive PartSt where
  | off | acquire | locked | in_ | early | late
  deriving DecidableEq, Repr

/-- A unit that a part has delivered and GTH stores: its GSN, the DTIME of its first byte, any slot all-ones, any slot
with the SD flag, its bytes, its phase bit where its folio was valid, and its tag: the outer none until the folio that carries it
has come, the inner one where that was missed (R285, R354). -/
structure PUnit where
  gsn : Nat
  t : Nat
  ao : Bool
  sd : Bool
  data : List Nat := []
  phase : Option Bool := none
  tag : Option (Option Nat) := none
  deriving DecidableEq, Repr

/-- A part of a gathering (R329 to R334): its state, the last GSN read or predicted, the run of valid ascending markers,
the run of folios without the predicted marker, folios since it locked, the units stored, the last lead and those of the
last quire, the run of leads away from their mean, and whether CRY failed the tag of this copy's previous unit. -/
structure GPart where
  st : PartSt := .off
  last : Nat := 0
  run : Nat := 0
  lossRun : Nat := 0
  lockedFor : Nat := 0
  units : List PUnit := []
  lead : Int := 0
  leads : List Int := []
  stepRun : Nat := 0
  tagFailed : Bool := false
  deriving DecidableEq, Repr

/-- A unit that GTH has handed to CRY: its GSN, failed or not, the copy selected, whether the other copy is there, the gathering over
which it came, and what each part, or copy, of it delivered. -/
structure Handed where
  gsn : Nat
  failed : Bool
  sel : Bool
  other : Bool
  src : Nat := 0
  units : List (Option PUnit) := []
  deriving DecidableEq, Repr

/-- A unit of a gathering that GTH has ready for CRY (R325, R339, R347): its GSN, whether it is all-ones, whether a protection
gathering sends it for its working gathering, and its bytes. -/
structure TxUnit where
  gsn : Nat
  ones : Bool
  bridged : Bool := false
  bytes : List Nat := []
  deriving DecidableEq, Repr

/-- A gathering beside its window entries: the next GSN to send, the units ready for CRY, oldest first, the last unit that CRY passed
to the line (R342), the parts, the
timeline (next GSN and its output instant, R331), the correction made in this quire, the sums behind DELAY (R330), the
selection command (its ACTION code, R337), the alarm of R346 with its run of good units, discarded bytes below a KB,
the units handed to CRY, oldest first, and those that CRY has released, each verified or not with its bytes (R371). -/
structure Gath where
  gsnNext : Nat := 0
  txUnits : List TxUnit := []
  txLast : Option LineUnit := none
  p0 : GPart := {}
  p1 : GPart := {}
  line : Option (Nat × Int) := none
  corrected : Nat := 0
  refPart : Nat := 0
  delayBlk : Nat := 0
  delaySum : Int := 0
  delayN : Nat := 0
  selB : Bool := false
  cmd : Nat := 0
  alarm : Bool := false
  goodRun : Nat := 0
  discRem : Nat := 0
  handed : List Handed := []
  released : List (Bool × List Nat) := []
  cryFailed : Bool := false
  deriving DecidableEq, Repr

/-- A 1:1 protection group beside its registers (R341 to R345): the host command (a REQ code, 0 none), when W and P last
began to fail with no good unit since, the runs of good units that clear SF, wait-to-restore's end, DNR, and when SIG was
first sent with no BR received, and P's last unit with its failure. -/
structure PGroup where
  host : Nat := 0
  failFromW : Option Nat := none
  failFromP : Option Nat := none
  goodW : Nat := 0
  goodP : Nat := 0
  wtrEnd : Option Nat := none
  dnr : Bool := false
  fopFrom : Option Nat := none
  pFailed : Bool := false
  pUnit : Option PUnit := none
  deriving DecidableEq, Repr

/-! ### Chapter 11: line encryption -/

/-- A key named by its slot with its salt (R356, R361). -/
structure KeyRef where
  slot : Nat
  salt : Nat
  deriving DecidableEq, Repr

/-- A gathering's two key contexts beside their status words (R361 to R369): current and next keys, a load in progress,
a switch requested, CTR_WARN given for this key, EXHAUSTED; on receive g_last, the number of the candidate to try next,
the runs of new units, of new units that failed and of units with no READY next key; keys being fetched again after a
soft reset (R363), and whether a transmit key has ever been current. -/
structure CryCtx where
  txCur : Option KeyRef := none
  txNext : Option KeyRef := none
  txLoad : Option KeyRef := none
  switchReq : Bool := false
  warned : Bool := false
  exhausted : Bool := false
  rxCur : Option KeyRef := none
  rxNext : Option KeyRef := none
  rxLoad : Option KeyRef := none
  gLast : Option Nat := none
  cand : Nat := 0
  newFails : Nat := 0
  keyMissRun : Bool := false
  refetchTx : Bool := false
  refetchRx : Bool := false
  verFail : Bool := false
  hadKey : Bool := false
  deriving DecidableEq, Repr

/-- The key agreement in progress (R375 to R377): an exchange runs, since when, its gathering, this part's role, and how
far the keys are on their way to the store (0 none, 1 leave asked, 2 being written). -/
structure Agree where
  on : Bool := false
  from_ : Nat := 0
  gathering : Nat := 0
  responder : Bool := false
  storing : Nat := 0
  stored : Bool := false
  deriving DecidableEq, Repr

/-! ### Chapter 12: client ports and classification -/

/-- A frame inside the packet stage: its length from DA to FCS as received, its ingress port and endpoint, the tags
removed, its DEI, its destination, class and colour (0 green, 1 yellow, 2 red), and, stored in GDDR7, the bytes still in the
staging page, the pages that hold it, and whether one of them could not be read. -/
structure Frame where
  len : Nat := 0
  ing : Nat := 0
  removed : Nat := 0
  dei : Bool := false
  part : Nat := 0
  ep : Nat := 0
  cls : Nat := 0
  colour : Nat := 0
  spilled : Bool := false
  staged : Nat := 0
  pages : List Nat := []
  bad : Bool := false
  deriving DecidableEq, Repr

/-- A lookup result in the cache (R398): its key, DOMAIN and MAC as one number, and the entry found, as DEST_PART, DEST_EP
and DISCARD, or none. -/
structure CacheEnt where
  key : Nat
  found : Option (Nat × Nat × Bool)
  deriving DecidableEq, Repr

/-- A frame that waits in the miss queue with its key (R398). -/
structure Miss where
  key : Nat
  frame : Frame
  deriving DecidableEq, Repr

/-- CLS beside its registers: the cache, most recently used first, the miss queue, oldest first, and whether the signature
array is built. -/
structure ClsState where
  cache : List CacheEnt := []
  miss : List Miss := []
  sigReady : Bool := false
  deriving DecidableEq, Repr

/-- A client port: the bucket of link-local frames in 1/1,000,000 frame with its time (R387), the transmit FIFO's bytes and
the frames of its egress overflow queue as (endpoint, bytes, on die) (R429, R430), whether reassembly for it is stalled, the
blocks in the demapper FIFO, whether it is being refilled after a slip, whether the unit it sends is failed (R392), the
blocks that wait to be mapped, the number of the next block, and the units mapped as (N, number of their first block) (R389). -/
structure PortState where
  llTokens : Nat := 64000000
  llAt : Nat := 0
  fifo : Nat := 0
  ovf : List (Nat × Nat × Bool) := []
  stalled : Bool := false
  demap : Nat := 0
  refill : Bool := false
  failedUnit : Bool := false
  blocksWaiting : Nat := 0
  blockNo : Nat := 0
  mapped : List (Nat × Nat) := []
  deriving DecidableEq, Repr

/-! ### Chapter 13: queues, meters, shapers -/

/-- A queue: its frames in admission order and when the first frame of its staging page arrived (R494). -/
structure Queue where
  frames : List Frame := []
  stageAt : Nat := 0
  deriving DecidableEq, Repr

/-- A meter's buckets in 1/8,000,000 byte, and when they were last brought up to date (R416). -/
structure Meter where
  tc : Nat := 0
  tp : Nat := 0
  at_ : Nat := 0
  deriving DecidableEq, Repr

/-- A shaper's credit in 1/8,000,000 byte and its time, and its place on the timing wheel: the next eligible time, the
instant at which its slot comes round, on the coarse wheel or not (R421 to R424). -/
structure Shaper where
  c : Int := 0
  at_ : Nat := 0
  te : Option Nat := none
  slotAt : Nat := 0
  coarse : Bool := false
  deriving DecidableEq, Repr

/-- A deficit round robin: the active members in turn, the deficits, and whether the one in turn has its quantum. -/
structure Drr where
  order : List Nat := []
  deficit : Tab Nat := []
  fresh : Bool := true
  deriving DecidableEq, Repr

/-- QMG, MTR and SHP beside their registers: the queues, the on-die bytes and the buffer pages in use, the meters and
shapers, the round robins of the outputs (by their number, see `outKey`) and of the endpoints' classes. -/
structure PktState where
  queues : Tab Queue := []
  onDie : Nat := 0
  pagesUsed : List Nat := []
  meters : Tab Meter := []
  shapers : Tab Shaper := []
  outDrr : Tab Drr := []
  epDrr : Tab Drr := []
  deriving DecidableEq, Repr

/-! ### Chapter 14: the fabric -/

/-- A data cell on its way (Table 14-5): its fields, and where it came from (0 this part, 1 + k link k, 9 + g gathering
g), whose credit it holds, and its payload, empty where this part cut it: the frames' bytes are not carried. -/
structure Cell where
  sof : Bool := false
  eof : Bool := false
  cls : Nat := 0
  dest : Nat := 0
  src : Nat := 0
  ep : Nat := 0
  len : Nat := 0
  hops : Nat := 0
  seq : Nat := 0
  sync : Bool := false
  from_ : Nat := 0
  data : List Nat := []
  deriving DecidableEq, Repr

/-- A lane of a fabric link: consecutive good and bad lane words, consecutive uncorrectable codewords, since when its FOM
is below FOM_MIN and its lane words have passed, the sweep done, a dither trial's old step and FOM, and its next direction. -/
structure FabLane where
  goodRun : Nat := 0
  badRun : Nat := 0
  uncorrRun : Nat := 0
  fomLow : Option Nat := none
  passFrom : Option Nat := none
  sweptAt : Option Nat := none
  up : Bool := true
  dithering : Option (Nat × Nat) := none
  failed : Bool := false
  deriving DecidableEq, Repr

/-- FBLk beside its registers (R440 to R455): when its state was entered, the first SIG_DET in TRAIN, the run of BACKOFFs,
HELLOs heard in NEGOTIATE, credits to send with, the delay sums, and the lanes. -/
structure FabLink where
  since : Nat := 0
  sigAt : Option Nat := none
  backoffs : Nat := 0
  hellos : Nat := 0
  credits : Nat := 1024
  delaySum : Int := 0
  delayN : Nat := 0
  l0 : FabLane := {}
  l1 : FabLane := {}
  l2 : FabLane := {}
  l3 : FabLane := {}
  deriving DecidableEq, Repr

/-- What a HELLO told of the neighbour on a link (member k) or gathering (member 8 + g): its address, identity, domain,
version, link number, whether it is alive, the last HELLO's arrival and its sender's DTIME, the version run of a gathering
(R455), whether it is foreign (R453), the delay (R455). -/
structure Neigh where
  alive : Bool := false
  addr : Nat := 0
  ident : Nat := 0
  domain : Nat := 0
  ver : Nat := 0
  verSeen : Nat := 0
  verRun : Nat := 0
  heardAt : Nat := 0
  sentT : Nat := 0
  arrT : Nat := 0
  foreign : Bool := false
  delay : Nat := 0
  delaySum : Int := 0
  delayN : Nat := 0
  deriving DecidableEq, Repr

/-- One link of a topology record (R456): the neighbour, fabric or line, cost, capacity, delay. -/
structure TopoLink where
  addr : Nat
  line : Bool
  cost : Nat
  cap : Nat
  delay : Nat
  deriving DecidableEq, Repr

/-- A topology record of an address beside its window entry: identity, role, sequence, links, the parts of a newer record
that have come, and its last refresh. -/
structure TopoRec where
  ident : Nat
  role : Nat
  seq : Nat
  links : List TopoLink
  refreshed : Nat := 0
  deriving DecidableEq, Repr

/-- The resequencing state of a source (R458): the next expected SEQ, the cells held with their arrival, and its last cell. -/
structure Reseq where
  expect : Nat
  held : List (Cell × Nat) := []
  lastAt : Nat := 0
  deriving DecidableEq, Repr

/-- Cells of a source and class in reassembly: released cells not yet assembled, oldest first. -/
structure Reasm where
  ready : List Cell := []
  deriving DecidableEq, Repr

/-- A pause heard from another part (R459): origin, port, last refresh. -/
structure Pause where
  origin : Nat
  port : Nat
  at_ : Nat
  deriving DecidableEq, Repr

/-- FBR beside its registers: the neighbours by member, the topology database with the identities seen under an address in
conflict, this part's record sequence, the last SEQ sent per destination and since when the counters run, the cells that
wait for a member, the local cells passed over in favour of transit (R22), the data cells given to each line gathering and the control cells due
on it, the sprays' round robins by next-hop set, resequencing, reassembly, the pauses heard and seen, this part's pause sequence. -/
structure FbrState where
  neigh : Tab Neigh := []
  topo : Tab (Option TopoRec) := []
  parts : List (Nat × Nat × Nat × List TopoLink) := []
  mySeq : Nat := 0
  sentSeq : Tab Nat := []
  seqFrom : Nat := 0
  wait : List Cell := []
  transitRun : Tab Nat := []
  lines : Tab (List Cell) := []
  ctl : Tab (List (List Nat)) := []
  spray : Tab Drr := []
  reseq : Tab (Option Reseq) := []
  reasm : Tab Reasm := []
  pauses : List Pause := []
  seen : List (Nat × Nat × Nat) := []
  pauseSeq : Nat := 0
  computeDue : Bool := false
  deriving DecidableEq, Repr

/-! ### Chapter 15: references and outputs -/

/-- A candidate slot beside its registers (R467 to R473): the values of y since it became active, newest first, in units of
0.01 ppb; the runs of seconds with the slope above and not above RATE, the onset of the former run; whether it may qualify
without a wait; its phase last measured against the outputs of DPLL0 and DPLL1, in ps; and when its last ESMC PDU came (R486). -/
structure SlotState where
  hist : List Int := []
  overRun : Nat := 0
  underRun : Nat := 0
  onset : Nat := 0
  fresh : Bool := true
  phase0 : Int := 0
  phase1 : Int := 0
  pduAt : Nat := 0
  deriving DecidableEq, Repr

/-- A DPLL beside its registers (R473, R478, R479): the per-second control values with their marks, newest first; LOCKED
throughout the second so far; the pre-onset value with its number of samples and of marked ones; the amount of a slewed
step in ps, and how much of it is done in 10⁻¹¹ ns; the part of DTIME steps below 1 ns; when its state began; and, for DPLL1,
the part of DTIME below 1 ns that its frequency left, in 10⁻¹¹ ns. -/
structure Dpll where
  ring : List (Int × Bool) := []
  lockedAll : Bool := false
  pre : Int × Nat × Nat := (0, 0, 0)
  slew : Int := 0
  slewed : Nat := 0
  carryPs : Int := 0
  since : Nat := 0
  frac : Int := 0
  deriving DecidableEq, Repr

/-- A pulse output: the DTIME of its next pulse, from an alignment on, the period in force in ns, and whether pulses run since
the alignment. -/
structure PpsOut where
  next : Option Nat := none
  period : Nat := 0
  run : Bool := false
  deriving DecidableEq, Repr

/-- TIM beside its registers: slots, DPLLs, the disagreeing pairs reported, the steering of the line PLLs in 0.01 ppb, the
pulse outputs, the last 16 edges of PPSIN in ps of DTIME, newest first (R467). -/
structure TimState where
  slots : Tab SlotState := []
  dpll : Pair Dpll := ⟨{}, {}⟩
  pairs : List (Nat × Nat) := []
  steer : Pair Int := ⟨0, 0⟩
  pps : Pair PpsOut := ⟨{}, {}⟩
  ppsin : List Int := []
  deriving DecidableEq, Repr

/-! ### Chapter 16: GDDR7 -/

/-- A table-region page write that waits while its channel is in band OVER (R510): the physical page, the words with their
32 bytes, and the RAP request that waits for it (slot, TAG, its COUNT). -/
structure MemJob where
  chan : Nat
  page : Nat
  words : List (Nat × List Byte)
  who : Option (Nat × Nat × Nat) := none
  deriving DecidableEq, Repr

/-- ECC beside its registers: the channels of the map in force (R491), the pages written raw, whose bytes are all held
(R514), the writes that wait, and the collation and table pages in force when buffer pages were last laid out,
and when the scrubber's pass began (R507). -/
structure EccState where
  map : List Nat := []
  raw : List Nat := []
  waiting : List MemJob := []
  region : Nat := 0
  passAt : Option Nat := none
  deriving DecidableEq, Repr

/-! ### Chapter 18: the housekeeping converter -/

/-- HKA beside its registers (R542, R549): the settings of the last conversion (channel, gain and OSR of an entry word,
with LP), whether a change preceded the entry that converts now, when the entry or the calibration began, and when the scan
timer ticked last or was enabled. -/
structure HkaState where
  last : Option (Nat × Bool) := none
  changed : Bool := true
  at_ : Nat := 0
  tick : Nat := 0
  deriving DecidableEq, Repr

/-! ### Chapter 20: the NV store and security -/

/-- What a transaction of the NV store records once it is sealed (R568): repair map entries (R608, R609), images taken
home (R567, R591), authority and peer changes (R573, R575), the key store (R577, R579), an ERASE (R582), and the opening
of debug or field return (R585, R586). -/
inductive NvOp where
  | mapEntry (word0 : Nat)
  | mapCleared (entry : Nat)
  | image (ty : Nat)
  | authority (index : Nat) (key : Option (List Word)) (slot : Nat)
  | peer (index : Nat) (entry : Option (List Word))
  | key (slot ty : Nat)
  | kek (ty : Nat)
  | slotClear (slot : Nat)
  | agreed (gathering txSlot rxSlot ty : Nat)
  | usedKey (slot : Nat)
  | erase
  | secrets (debugState : Nat)
  deriving DecidableEq, Repr

/-- A transaction of 1 to 64 commits: the commits done, and whether its seal is written; after the seal the home copies
follow, one commit each. -/
structure NvTx where
  op : NvOp
  commits : Nat
  done : Nat := 0
  sealed : Bool := false
  deriving DecidableEq, Repr

/-- NVS beside its registers (R566 to R570): the transactions in request order; what a reset left in the journal; the bytes
staged and a verification in progress; and what the store holds that no window shows: user firmware, the valid authorities
and peers, the KEK's type, the field-return counter, the endurance used, the board record; the
last scrub pass (R570). -/
structure NvState where
  queue : List NvTx := []
  unsealedLeft : Bool := false
  sealedLeft : Bool := false
  staged : List Host.Cell := []
  verifying : Bool := false
  userHome : Bool := false
  auths : Nat := 0
  peers : Nat := 0
  kek : Option Nat := none
  frCount : Nat := 0
  wear : Nat := 0
  scrubAt : Nat := 0
  board : Option (List Word) := none
  newBoard : List Word := []
  deriving DecidableEq, Repr

/-- SEC beside its registers: a key-store command in progress (OP, SLOT, TYPE), whether its leave is granted, its transaction
(0 none, 1 queued, 2 sealed) and an ERASE since it began; the staged authority and peer words by window address; the
challenge (issue time, MODE, used); the run of requests refused for their signature; a debug or field-return request that
waits (the new debug state, the session slot and tag that asked), and whether its transaction runs; a boundary-scan
instruction in force; the nonce of the attestation in progress; a signature verdict that a command carries. -/
structure SecState where
  ksOp : Option (Nat × Nat × Nat) := none
  ksGranted : Bool := false
  ksTx : Nat := 0
  ksErased : Bool := false
  authStage : Tab Word := []
  peerStage : Tab Word := []
  challenge : Option (Nat × Nat × Bool) := none
  sigFails : Nat := 0
  opening : Option (Nat × Nat × Nat) := none
  granted : Bool := false
  boundary : Bool := false
  nonce : Nat := 0
  sigHint : Option Bool := none
  deriving DecidableEq, Repr

/-! ### Chapter 21: the control cores -/

/-- The service cores' restart (R591 to R594): its kind (0 none, 1 a replacement, 2 a return to the home image), and t_h; and
the events that HPMk of core c has counted since its last sample, at 8c + k (R601). -/
structure CpuState where
  restart : Nat := 0
  haltAt : Nat := 0
  sinceSample : Tab Nat := []
  deriving DecidableEq, Repr

/-! ### Chapter 22: repair -/

/-- RPR beside its registers (R606 to R613): the class last swept, a sweep granted, the channel under memory BIST, the
map sequence number, the banks whose LIMIT was reported, entries waiting for their transaction, the pages whose
array was withheld at boot (R607), whether the class swept has ended but its entries are not sealed, and the spare rows and
columns used of each SRAM array (R605); when the sweep period last began (R610). -/
structure RprState where
  lastClass : Nat := 5
  sweepOn : Bool := false
  periodAt : Nat := 0
  bistChannel : Option Nat := none
  mapSeq : Nat := 0
  ageLimited : List Nat := []
  mapPending : Nat := 0
  withheld : List Nat := []
  sweepEnding : Bool := false
  rowsUsed : Tab Nat := []
  colsUsed : Tab Nat := []
  deriving DecidableEq, Repr


/-! ### The state -/

/-- The whole state of the block. `dtime` is DTIME in nanoseconds (R43), `now` the same clock never stepped, `raised`
the event sources raised by the command in progress (page, index), `acked` those whose sticky bit it cleared, `freeCtr` the model's own counter behind free values,
`out` what has left the part, and `pending` the commands that are waiting, first in, first out. -/
structure State where
  regs : List (Nat × Word) := []
  mem : List Host.Cell := []
  poisoned : List Nat := []
  dtime : Nat := 0
  now : Nat := 0
  freeCtr : Nat := 0
  boot : BootState := {}
  rap : RapState := {}
  pwr : PwrState := {}
  thm : ThmState := {}
  pages : Tab PageCtl := []
  coreQueue : Nat := 0
  safe : Bool := false
  raised : List (Nat × Nat) := []
  acked : List (Nat × Nat) := []
  cal : Pair CalState := ⟨{}, {}⟩
  tx : Pair TxState := ⟨{}, {}⟩
  rx : Pair RxState := ⟨{}, {}⟩
  sub : Pair SubState := ⟨{}, {}⟩
  fec : Pair FecState := ⟨{}, {}⟩
  frm : Pair FrmState := ⟨{}, {}⟩
  osp : Tab (List (List Nat)) := []
  pmb : PmbState := {}
  gath : Tab Gath := []
  pg : Tab PGroup := []
  cry : Tab CryCtx := []
  agree : Agree := {}
  cryPassed : Bool := false
  cls : ClsState := {}
  ports : Tab PortState := []
  pkt : PktState := {}
  fbl : Tab FabLink := []
  fbr : FbrState := {}
  tim : TimState := {}
  ecc : EccState := {}
  hka : HkaState := {}
  nv : NvState := {}
  sec : SecState := {}
  cpu : CpuState := {}
  rpr : RprState := {}
  out : List Out := []
  pending : List Instr := []
  deriving DecidableEq, Repr

/-- The reasons a step can stop with a fault. -/
inductive Fault where
  /-- Raised by a TAP instruction whose effect the spec does not give (R587); safe: the machine stops where the
  hardware goes on in a way the spec does not describe. -/
  | tapUndescribed
  deriving DecidableEq, Repr

/-- The reasons a command can be refused. -/
inductive Refusal where
  /-- Answered by the arm of a command whose meaning is not written yet; safe. -/
  | notModelled (mnemonic : String)
  deriving DecidableEq, Repr

/-- The block while device reset is in force at power-up (R32, R35): every register at its reset value, the balls as
R35 says, nothing pending. -/
def State.reset : State := {}

end Sys2Proof.Machine
end

