-- ==== Sys2Proof/Machine/Ops.lean ====
section
/-!
DEFINITION. The named operations over the state: the sparse tables, the register words and their reset values, fields
and counters, blocks and their states, outputs, and the frame every meaning stands in (no effect while device reset or
thermal shutdown is in force).
-/
namespace Sys2Proof.Machine

/-! ### Sparse tables in canonical form -/

/-- What key `k` holds: its listed value, or the default of that key. -/
def Tab.get {α : Type} (d : Nat → α) : Tab α → Nat → α
  | [], k => d k
  | (j, v) :: r, k => if j = k then v else Tab.get d r k

/-- Writing key `k`: keys stay strictly rising and a value equal to the default of its key is not listed. -/
def Tab.put {α : Type} [DecidableEq α] (d : Nat → α) : Tab α → Nat → α → Tab α
  | [], k, v => if v = d k then [] else [(k, v)]
  | (j, x) :: r, k, v =>
    if j < k then (j, x) :: Tab.put d r k v
    else if j = k then (if v = d k then r else (k, v) :: r)
    else (if v = d k then (j, x) :: r else (k, v) :: (j, x) :: r)

/-- The canonical form: keys strictly rising, no entry equal to its key's default. -/
def Tab.Canon {α : Type} (d : Nat → α) (t : Tab α) : Prop :=
  t.Pairwise (fun a b => a.1 < b.1) ∧ ∀ e ∈ t, e.2 ≠ d e.1

/-- A carrier's value. -/
def Pair.at {α : Type} (p : Pair α) (n : Nat) : α := if n = 0 then p.c0 else p.c1

/-- Writing a carrier's value. -/
def Pair.put {α : Type} (p : Pair α) (n : Nat) (v : α) : Pair α :=
  if n = 0 then { p with c0 := v } else { p with c1 := v }

/-! ### Bits and numbers -/

/-- `w` bits of `v` from bit `lo`. -/
def bitsOf (v lo w : Nat) : Nat := (v >>> lo) % 2 ^ w

/-- Bit `i` of `v`. -/
def bitOf (v i : Nat) : Bool := (v >>> i) % 2 = 1

/-- `v` with `x` (cut to `w` bits) in its `w` bits from bit `lo`. -/
def withBits (v lo w x : Nat) : Nat :=
  v - bitsOf v lo w * 2 ^ lo + (x % 2 ^ w) * 2 ^ lo

/-- The signed number that `w` bits hold in two's complement. -/
def toSigned (w v : Nat) : Int := if v < 2 ^ (w - 1) then (v : Int) else (v : Int) - (2 ^ w : Nat)

/-- The `w`-bit two's complement code of a signed number. -/
def ofSigned (w : Nat) (v : Int) : Nat := (v % ((2 ^ w : Nat) : Int)).toNat

/-- A signed number kept within ±m. -/
def clampI (m : Nat) (v : Int) : Int := max (-(m : Int)) (min (m : Int) v)

/-- Division rounding to the nearest, halves upward. -/
def divRound (a : Int) (b : Nat) : Int := (2 * a + b) / (2 * (b : Int))

/-- Division rounding up. -/
def ceilDiv (a b : Nat) : Nat := (a + b - 1) / b

/-- One bit as a number. -/
def b2n (b : Bool) : Nat := if b then 1 else 0

/-- `v` with bit `i` set. -/
def setBit (v i : Nat) : Nat := withBits v i 1 1

/-- `v` with bit `i` clear. -/
def clrBit (v i : Nat) : Nat := withBits v i 1 0

/-- How many of the low `n` bits of `v` are 1. -/
def popcount : Nat → Nat → Nat
  | 0, _ => 0
  | n + 1, v => b2n (bitOf v n) + popcount n v

/-- The `k` bytes of a number, most significant first. -/
def beBytes (k v : Nat) : List Nat := (List.range k).map (fun i => bitsOf v (8 * (k - 1 - i)) 8)

/-! ### RAP frames (R89, Table 3-6) -/

/-- The 24 bytes of a header before a body of `len` bytes. -/
def RapHdr.bytes (h : RapHdr) (len : Nat) : List Nat :=
  [h.version % 256, h.typ % 256, h.opcode % 256, h.status % 256] ++ beBytes 2 h.tag ++ beBytes 2 len ++ beBytes 4 h.sid
    ++ beBytes 8 h.seq ++ [0, 0] ++ beBytes 2 h.retryAfter

/-- A frame: header, body, and the HMAC-SM3 trailer under a session's key. -/
def rapWire (h : RapHdr) (body : List Nat) (key : Option Nat) : List Nat :=
  let l := h.bytes body.length ++ body
  match key with
  | none => l
  | some k => l ++ (List.range 32).map (fun i => Config.hmac k l i % 256)

/-- The same frame to another peer. -/
def Out.toPeer (o : Out) (p : Peer) : Out :=
  match o with
  | .response a b c _ w => .response a b c p w
  | .frame a b c _ w => .frame a b c p w
  | .eventMsg a b c d e f _ w => .eventMsg a b c d e f p w
  | .evtLost a b _ w => .evtLost a b p w
  | .coreEvent a b c d => .coreEvent a b c d
  | .sent a b => .sent a b

/-! ### CRC-32 (R221, R396) -/

/-- One step of the reflected CRC-32 of IEEE 802.3 over a byte. -/
def crcByte (c b : Nat) : Nat :=
  (List.range 8).foldl (fun x _ => if x % 2 = 1 then (x / 2) ^^^ 0xEDB88320 else x / 2) (c ^^^ b)

/-- CRC-32 of IEEE 802.3 over bytes. -/
def crc32 (l : List Nat) : Nat := l.foldl crcByte 0xFFFFFFFF ^^^ 0xFFFFFFFF

/-! ### Pages and kinds -/

/-- The block kind and instance of a page number (Table 3-1). -/
def pageKind (p : Nat) : Option (Kind × Nat) :=
  (Kind.all.find? (fun k => k.pages.1 ≤ p && p < k.pages.1 + k.pages.2)).map (fun k => (k, p - k.pages.1))

/-- The pages that refuse ENABLE = 0 and DRAIN and take no ladder step (R68, R72, R560). -/
def alwaysActive (p : Nat) : Bool := p = 0 || p = 1 || p = 2 || p = 3 || p = 5 || p = 6 || p = 7 || p = 0xA

/-- The data blocks: CNV, RXD, TXD, SUB, FEC, FRM, GTH, CRY, OSP, CLN, MAC, CLS, MTR, QMG, SHP, FBL, FBR, MEM, ECC,
the blocks above the line in Table 3-13 (log: DEDUCED). -/
def isDataPage (p : Nat) : Bool :=
  match pageKind p with
  | some (k, _) => k ∈ [.CNV, .RXD, .TXD, .SUB, .FEC, .FRM, .GTH, .CRY, .OSP, .CLN, .MAC, .CLS, .MTR, .QMG, .SHP,
      .FBL, .FBR, .MEM, .ECC]
  | none => false

/-- The page numbers of all pages, ascending. -/
def allPages : List Nat := Kind.all.flatMap (fun k => (List.range k.pages.2).map (k.pages.1 + ·))

/-- First address of page `p` (R62). -/
def pageBase (p : Nat) : Nat := p * 0x1000

/-- The register of a list at offset `off`, with its index in its array. -/
def findReg (l : List RegSpec) (off : Nat) : Option RegSpec :=
  l.find? (fun r => r.off ≤ off && off < r.off + r.stride * r.count && (off - r.off) % r.stride = 0)

/-- The register of an address below the windows, with the kind and instance of its page (R62 to R64, R74). -/
def regAt (a : Nat) : Option (Kind × Nat × RegSpec) :=
  match pageKind (a / 0x1000) with
  | none => none
  | some (k, n) => (findReg k.regs (a % 0x1000)).map (fun r => (k, n, r))

/-- The table of a window address, with the entry and the word of the entry (R80). -/
def segAt (a : Nat) : Option (WinSeg × Nat × Nat) :=
  if a < 0x20000000 ∨ 0x40000000 ≤ a then none
  else
    let w := (a - 0x20000000) / 0x1000000
    let o := (a - 0x20000000) % 0x1000000
    match winSegs.find? (fun g => g.win = w && g.off ≤ o && o < g.off + g.entries * g.stride) with
    | none => none
    | some g => some (g, (o - g.off) / g.stride, (o - g.off) % g.stride / 4)

/-- Reset value of a sub-converter entry's words: unit u of a converter holds position u, units 64 to 67 are free
spares (R106, R109, Table 4-12). -/
def subconvReset (e w : Nat) : Nat :=
  let u := e % 68
  match w with
  | 0 => 0x82000000
  | 2 => if u < 64 then u * 4 else 1
  | 3 => 0x82000000
  | _ => 0

/-- Reset value of a position-map word: positions 4w to 4w + 3 of its 16 hold their own numbers (Table 4-11). -/
def posmapReset (e w : Nat) : Nat :=
  let b := 16 * (e % 4) + 4 * w
  b + (b + 1) * 2 ^ 8 + (b + 2) * 2 ^ 16 + (b + 3) * 2 ^ 24

/-- ΔM in 0.01 dB for caps 6 to 24 (Table 8-5). -/
def marginTable (profile : Nat) : List Nat :=
  if profile = 0 then [92, 73, 58, 47, 38, 31, 25, 20, 16, 13, 10, 8, 6, 4, 3, 2, 1, 1, 0]
  else [100, 79, 63, 52, 42, 34, 28, 22, 18, 14, 11, 9, 7, 5, 4, 3, 2, 1, 0]

/-- A word that a window shows and whose value the spec does not give: an amplitude composition (R191; both carriers show the
same), an entry of the FEC base matrices (shift in [7:0], VALID in [31]; both carriers show the same) or a column of the light
code (R269, R516). The columns of the check bits are
unit vectors: the check bits are formed from the data bits (R496; log: DEDUCED). -/
def shownReset (a : Nat) : Nat :=
  if a < 0x28000000 then Config.shownWord (0x24000000 + a % 0x1000000) &&& 0x7F7F7F7F
  else if a < 0x30000000 then
    Config.shownWord (a % 0x1000000) % 256 + 2 ^ 31 * (Config.shownWord (a % 0x1000000) / 256 % 2)
  else if 0x38002400 ≤ a then 2 ^ ((a - 0x38002400) / 4)
  else Config.shownWord a % 65536

/-- An address that shows such a word. -/
def isShown (a : Nat) : Bool :=
  (decide (0x24000000 ≤ a) && decide (a < 0x26000000) && decide (0x1400 ≤ a % 0x1000000) && decide (a % 0x1000000 < 0x179C))
  || (decide (0x28000000 ≤ a) && decide (a < 0x2A000000) && decide (0x1000 ≤ a % 0x1000000)
    && (decide (a % 0x1000000 < 0x2E00) || (decide (0x4000 ≤ a % 0x1000000) && decide (a % 0x1000000 < 0x6580))))
  || (decide (0x38002000 ≤ a) && decide (a < 0x38002440))

/-- Reset value of a window word (the window layouts). -/
def winReset (a : Nat) : Nat :=
  if a < 0x22000000 then
    match segAt a with
    | some (g, e, w) => if g.off = 0 then subconvReset e w else posmapReset e w
    | none => 0
  else if 0x28000000 ≤ a ∧ a < 0x2A000000 ∧ 0x100 ≤ a % 0x1000000 ∧ a % 0x1000000 < 0x198 then
    let e := (a % 0x1000000 - 0x100) / 4
    (marginTable (e / 19)).getD (e % 19) 0
  else if isShown a then shownReset a
  else 0

/-- Reset value of a header register that depends on its page (Tables 3-2, 3-3; R551). -/
def headerReset (k : Kind) (n off : Nat) : Nat :=
  if off = HDR.BLK_ID then n * 2 ^ 16 + (k.pages.1 % 256) * 2 ^ 24
  else if off = HDR.BLK_STATE then (if alwaysActive k.pages.1 then 2 else 1)
  else if 0x20 ≤ off ∧ off < 0x30 then k.evUsed.getD ((off - 0x20) / 4) 0
  else if 0x30 ≤ off ∧ off < 0x50 then k.evClass.getD ((off - 0x30) / 4) 0
  else match findReg HDR.regs off with
    | some r => r.reset
    | none => 0

/-- What a register or window word holds at reset (the Reset columns; strap-dependent fields at strap zero). -/
def resetWord (a : Nat) : Word :=
  if a < 0x20000000 then
    match pageKind (a / 0x1000) with
    | none => 0
    | some (k, n) =>
      if a % 0x1000 < 0x100 then BitVec.ofNat 32 (headerReset k n (a % 0x1000))
      else match findReg k.regs (a % 0x1000) with
        | some r => BitVec.ofNat 32 r.reset
        | none => 0
  else BitVec.ofNat 32 (winReset a)

/-! ### Words, fields, counters -/

/-- The word at a register or window address. -/
def State.word (s : State) (a : Nat) : Word := Tab.get resetWord s.regs a

/-- Setting the word at a register or window address. -/
def State.setWord (s : State) (a : Nat) (v : Word) : State := { s with regs := Tab.put resetWord s.regs a v }

/-- The word as a number. -/
def State.nat (s : State) (a : Nat) : Nat := (s.word a).toNat

/-- Setting a word by number. -/
def State.setNat (s : State) (a v : Nat) : State := s.setWord a (BitVec.ofNat 32 v)

/-- A field, unsigned. -/
def State.get (s : State) (base : Nat) (f : Fld) : Nat := bitsOf (s.nat (base + f.off)) f.lo f.width

/-- A field, signed. -/
def State.getI (s : State) (base : Nat) (f : Fld) : Int := toSigned f.width (s.get base f)

/-- A one-bit field. -/
def State.flag (s : State) (base : Nat) (f : Fld) : Bool := s.get base f = 1

/-- Writing a field (the value cut to the field's width). -/
def State.set (s : State) (base : Nat) (f : Fld) (v : Nat) : State :=
  s.setNat (base + f.off) (withBits (s.nat (base + f.off)) f.lo f.width v)

/-- Writing a signed field. -/
def State.setI (s : State) (base : Nat) (f : Fld) (v : Int) : State := s.set base f (ofSigned f.width v)

/-- Writing a one-bit field. -/
def State.setB (s : State) (base : Nat) (f : Fld) (b : Bool) : State := s.set base f (b2n b)

/-- Adding to a field that saturates at its largest value. -/
def State.bumpBy (s : State) (base : Nat) (f : Fld) (n : Nat) : State :=
  s.set base f (min (2 ^ f.width - 1) (s.get base f + n))

/-- Adding 1 to a saturating field. -/
def State.bump (s : State) (base : Nat) (f : Fld) : State := s.bumpBy base f 1

/-- A whole register as a field. -/
def whole (off : Nat) : Fld := ⟨off, 0, 32⟩

/-- Adding to a saturating 32-bit counter register. -/
def State.count (s : State) (a : Nat) (n : Nat := 1) : State := s.bumpBy 0 (whole a) n

/-- A 64-bit register (R77). -/
def State.nat64 (s : State) (a : Nat) : Nat := s.nat a + 2 ^ 32 * s.nat (a + 4)

/-- Writing a 64-bit register. -/
def State.setNat64 (s : State) (a v : Nat) : State :=
  (s.setNat a (v % 2 ^ 32)).setNat (a + 4) (v / 2 ^ 32 % 2 ^ 32)

/-- Adding to a 64-bit statistics counter, which wraps (R78). -/
def State.count64 (s : State) (a n : Nat) : State := s.setNat64 a ((s.nat64 a + n) % 2 ^ 64)

/-- Adding to a 64-bit PM counter, which saturates (R78). -/
def State.sat64 (s : State) (a n : Nat) : State := s.setNat64 a (min (2 ^ 64 - 1) (s.nat64 a + n))

/-- Words written one after another from an address. -/
def State.setWords (s : State) (a : Nat) : List Nat → State
  | [] => s
  | v :: r => (s.setNat a v).setWords (a + 4) r

/-- Folding an action over a list. -/
def each {α : Type} (l : List α) (f : α → State → State) (s : State) : State := l.foldl (fun t x => f x t) s

/-- An action taken on a condition. -/
def whenB (b : Bool) (f : State → State) (s : State) : State := if b then f s else s

/-! ### Blocks -/

/-- The state of a block: 0 OFF, 1 CONFIG, 2 ACTIVE, 3 DRAIN, 4 FAULT (Table 3-3). -/
def State.blk (s : State) (p : Nat) : Nat := s.get (pageBase p) HDR.STATE

def bOFF : Nat := 0
def bCONFIG : Nat := 1
def bACTIVE : Nat := 2
def bDRAIN : Nat := 3
def bFAULT : Nat := 4


/-- A block is in OFF or CONFIG, the states in which a CONFIG only field may be written (R70). -/
def State.inConfig (s : State) (p : Nat) : Bool := s.blk p = bOFF || s.blk p = bCONFIG

/-- The control data of a page. -/
def State.page (s : State) (p : Nat) : PageCtl := Tab.get (fun _ => {}) s.pages p

/-- Writing the control data of a page. -/
def State.setPage (s : State) (p : Nat) (c : PageCtl) : State := { s with pages := Tab.put (fun _ => {}) s.pages p c }

/-- A block is ACTIVE and not in soft reset (R58: a block in soft reset passes no traffic). -/
def State.active (s : State) (p : Nat) : Bool := s.blk p = bACTIVE && !(s.page p).softReset

/-- A block carries traffic: it is ACTIVE, or in DRAIN and still delivers what it holds, and not in soft reset (R58, R71). -/
def State.serves (s : State) (p : Nat) : Bool := (s.blk p = bACTIVE || s.blk p = bDRAIN) && !(s.page p).softReset

/-- Present ladder step of a page (Table 19-3). -/
def State.step_ (s : State) (p : Nat) : Nat := s.get (pageBase p) HDR.STEP

/-- FLT.BLK_FAULT follows the block's state (Table 19-4). -/
def State.syncFault (s : State) (p : Nat) : State :=
  s.setB FLT.page ⟨FLT.BLK_FAULT (p / 32), p % 32, 1⟩ (s.blk p = bFAULT)

/-- Putting a block into a state; leaving FAULT this way resets its step (R563). -/
def State.setBlk (s : State) (p st : Nat) : State :=
  let s := s.set (pageBase p) HDR.STATE st
  let s := if st = bFAULT then s else s.set (pageBase p) HDR.STEP 0
  s.syncFault p

/-! ### Outputs, events raised -/

/-- Something leaves the part. -/
def State.emit (s : State) (o : Out) : State := { s with out := s.out ++ [o] }

/-- Something with a name and numbers leaves the part. -/
def State.send (s : State) (what : String) (args : List Int) : State := s.emit (.sent what args)

/-- An event source's cause occurs; it fires when the command ends (R552). -/
def State.raise (s : State) (p i : Nat) : State := { s with raised := s.raised ++ [(p, i)] }

/-- A source's cause occurs on a condition. -/
def State.raiseIf (s : State) (b : Bool) (p i : Nat) : State := if b then s.raise p i else s

/-- Page number of an instance of a kind. -/
def Kind.pg (k : Kind) (n : Nat) : Nat := k.pages.1 + n

/-- The next free value; `freeCtr` is the model's own counter (log 2). -/
def State.freeVal (s : State) : Nat := Config.freeNat s.freeCtr

/-- A free value is used up. -/
def State.nextFree (s : State) : State := { s with freeCtr := s.freeCtr + 1 }

/-! ### Time and power -/

/-- Nanoseconds of a second, a millisecond and a microsecond. -/
def nsSec : Nat := 1000000000
def nsMs : Nat := 1000000
def nsUs : Nat := 1000

/-- Device reset is in force while PWRGOOD or RESET_N is low (R32). -/
def State.inReset (s : State) : Bool := !(s.boot.pwrgood && s.boot.resetN)

/-- Commands act while neither device reset nor thermal shutdown is in force (R35, R536). -/
def State.running (s : State) : Bool := !s.inReset && !s.boot.shutdown

/-- READY has been reached (Table 2-7). -/
def State.ready (s : State) : Bool := s.flag SYS.page SYS.SYS_STATE_READY

/-- A droop shed is in force (R531). -/
def State.shed (s : State) : Bool := s.flag PWR.page PWR.DROOP_STATUS_SHED

end Sys2Proof.Machine
end

