-- ==== Sys2Proof/Machine/Symbols.lean ====
section
/-!
DEFINITION. The symbols of a folio on either side of the line: the arithmetic of complex samples, positions and values of
symbols (R185 to R193), the ramps (R195), the fixed parts of a burst (R219 to R221).
-/
namespace Sys2Proof.Machine

/-! ### Complex samples -/

def cadd (a b : Cx) : Cx := ⟨a.re + b.re, a.im + b.im⟩
def csub (a b : Cx) : Cx := ⟨a.re - b.re, a.im - b.im⟩
def cmul (a b : Cx) : Cx := ⟨a.re * b.re - a.im * b.im, a.re * b.im + a.im * b.re⟩
def conj (a : Cx) : Cx := ⟨a.re, -a.im⟩
def cscale (r : Rat) (a : Cx) : Cx := ⟨r * a.re, r * a.im⟩
def cabs2 (a : Cx) : Rat := a.re * a.re + a.im * a.im
def csum (l : List Cx) : Cx := l.foldl cadd {}
def cdiv (a b : Cx) : Cx := cscale (1 / cabs2 b) (cmul a (conj b))

/-- The sum of rationals. -/
def rsum (l : List Rat) : Rat := l.foldl (· + ·) 0

/-- A polarisation of a sample, Y when `y`. -/
def polOf (d : Dual) (y : Bool) : Cx := if y then d.y else d.x

/-- A sample turned by an angle in turns. -/
def turn (a : Cx) (t : Rat) : Cx := cmul a (Config.cis t)

/-- The nearest whole number, halves upward. -/
def nearest (r : Rat) : Int := (r + 1 / 2).floor

/-- The coefficients in a word: [15:0] real and [31:16] imaginary parts, each signed, as value/16,384 (R181, R211). -/
def cxOf (w : Nat) : Cx := ⟨(toSigned 16 (bitsOf w 0 16) : Rat) / 16384, (toSigned 16 (bitsOf w 16 16) : Rat) / 16384⟩

/-- The word of a coefficient, each part to the nearest and kept within 16 bits (R181). -/
def cxWord (c : Cx) : Nat :=
  let k := fun (r : Rat) => ofSigned 16 (max (-32768) (min 32767 (nearest (16384 * r))))
  k c.re + 65536 * k c.im

/-! ### Positions and bits (R185 to R193) -/

/-- S_K, symbols of a subcarrier per polarisation in a folio; BAUD is in units of 0.5 GBd (R185). -/
def symS (baud k : Nat) : Nat := 1000 * baud / k

/-- G_K, P_K and D_K of R185. -/
def symG (k : Nat) : Nat := 2048 / k
def symP (baud k : Nat) : Nat := symS baud k / 64
def symD (baud k : Nat) : Nat := symS baud k - symG k - symP baud k

/-- E, coded bits of a block of 64 data symbols of one polarisation (R191). -/
def blockBits (format entropy : Nat) : Nat :=
  match format with
  | 0 => 128
  | 1 => 256
  | _ => entropy

/-- CAPACITY of a folio (R192). -/
def txCapacity (baud k e : Nat) : Nat := k * 2 * (symD baud k / 64) * e

/-- Input bits D of a P2P stream at a service rate in units of 100 Gbit/s (R275, Table 8-2). -/
def streamBits (service : Nat) : Nat := 200000 * service + 8192

/-- N_b BCH codewords of a stream (R246). -/
def bchWords (d : Nat) : Nat := ceilDiv d 6500

/-- k of an FEC profile: 26,624 for FP15 and 25,600 for FP20 out of n = 30,720 (R245). -/
def ldpcK (profile : Nat) : Nat := if profile = 0 then 26624 else 25600

/-- N_c LDPC codewords of a stream (R247). -/
def ldpcWords (d profile : Nat) : Nat := ceilDiv (d + 52 * bchWords d) (ldpcK profile)

/-- Sizes D of the streams of a stream-per-subcarrier carrier (R275): with the headband on stream 0 or a spine. -/
def subStreamBits (service k i : Nat) (headband : Bool) : Nat :=
  8 * ((if headband && i = 0 then 1024 else 64) + 6250 * (4 * service / k))

/-- Post-gutter position of pilot i (R186). -/
def pilotPos (baud k i : Nat) : Nat := i * (symS baud k - symG k) / symP baud k

/-- The state of the pilot PRBS x¹⁵ + x¹⁴ + 1 after one bit (R188). -/
def prbsNext (r : Nat) : Nat := (r * 2 + (b2n (bitOf r 14 != bitOf r 13))) % 2 ^ 15

/-- `n` bits of the pilot PRBS from register `r` (R188). -/
def prbsBits : Nat → Nat → List Bool
  | 0, _ => []
  | n + 1, r => (bitOf r 14 != bitOf r 13) :: prbsBits n (prbsNext r)

/-- Seed of subcarrier s: 0x7FFF for X, 0x5555 for Y, each XORed with s (R188). -/
def prbsSeed (y : Bool) (s : Nat) : Nat := (if y then 0x5555 else 0x7FFF) ^^^ s

/-- Twice the phase index n² of the gutter's symbol n in units of π/G_K; Y is X rotated by G_K/2 (R187). -/
def gutterPhase (g : Nat) (y : Bool) (n : Nat) : Nat :=
  let m := if y then (n + g / 2) % g else n
  m * m % (2 * g)

/-- n factorial. -/
def fact : Nat → Nat
  | 0 => 1
  | n + 1 => (n + 1) * fact n

/-- Number of sequences of a composition of amplitudes (n₁, n₃, n₅, n₇) (R191). -/
def multinomial (c : List Nat) : Nat := fact c.sum / (c.map fact).foldl (· * ·) 1

/-- The amplitude sequence of index `m` among those of a composition, in lexicographic order (R191): amplitude code 0
to 3 for 1, 3, 5, 7. -/
def unrank : Nat → List Nat → Nat → List Nat
  | 0, _, _ => []
  | len + 1, c, m =>
    let rec pick : Nat → Nat → Nat → Nat × Nat
      | 0, a, r => (a, r)
      | fuel + 1, a, r =>
        let here := if c.getD a 0 = 0 then 0 else multinomial (c.set a (c.getD a 0 - 1))
        if r < here then (a, r) else pick fuel (a + 1) (r - here)
    let (a, r) := pick 4 0 m
    a :: unrank len (c.set a (c.getD a 0 - 1)) r

/-- A number from bits, most significant first. -/
def bitsToNat (b : List Bool) : Nat := b.foldl (fun n x => 2 * n + b2n x) 0

/-- The labels of the 64 data symbols of a block from its E coded bits (R191): for QPSK and 16QAM the bits of each
symbol; for PCS-64QAM amplitude and sign of I and Q as 8 × (2 aI + sI) + (2 aQ + sQ). -/
def blockSymbols (format e : Nat) (comp : List Nat) (bits : List Bool) : List Nat :=
  if format = 0 then (List.range 64).map (fun i => bitsToNat ((bits.drop (2 * i)).take 2))
  else if format = 1 then (List.range 64).map (fun i => bitsToNat ((bits.drop (4 * i)).take 4))
  else
    let ai := (e - 128) / 2
    let aq := e - 128 - ai
    let ampI := unrank 64 comp (bitsToNat (bits.take ai))
    let ampQ := unrank 64 comp (bitsToNat ((bits.drop ai).take aq))
    let sg := bits.drop (ai + aq)
    (List.range 64).map (fun i =>
      8 * (2 * ampI.getD i 0 + b2n (sg.getD (2 * i) false)) + (2 * ampQ.getD i 0 + b2n (sg.getD (2 * i + 1) false)))

/-- Kind of post-gutter position j: pilot number, or data or fill index (R185, R186). -/
def pilotAt (baud k j : Nat) : Option Nat :=
  let i := ceilDiv (j * symP baud k) (symS baud k - symG k)
  if i < symP baud k ∧ pilotPos baud k i = j then some i else none

/-- The symbols of one polarisation of a subcarrier: gutter phases, then pilots, data labels and fill in order, each
coded 4 × value + kind (0 gutter, 1 pilot, 2 data, 3 fill) (R185 to R189). -/
def folioSymbols (baud k sub : Nat) (y : Bool) (data : List Nat) : List Int :=
  let p := symP baud k
  let nd := 64 * (symD baud k / 64)
  let nf := symD baud k - nd
  let prbs := prbsBits (2 * (p + nf)) (prbsSeed y sub)
  let two := fun i => 2 * b2n (prbs.getD (2 * i) false) + b2n (prbs.getD (2 * i + 1) false)
  let gut := (List.range (symG k)).map (fun n => ((4 * gutterPhase (symG k) y n : Nat) : Int))
  let post := (List.range (symS baud k - symG k)).map (fun j =>
    match pilotAt baud k j with
    | some i => ((4 * two i + 1 : Nat) : Int)
    | none =>
      let q := j - min j (ceilDiv (j * p) (symS baud k - symG k))
      if q < nd then ((4 * data.getD q 0 + 2 : Nat) : Int) else ((4 * two (p + (q - nd)) + 3 : Nat) : Int))
  gut ++ post

/-- α by ROLLOFF, in 1/1000 (Table 6-7). -/
def rolloffPm (r : Nat) : Nat :=
  match r with
  | 0 => 10 | 1 => 20 | 2 => 50 | 3 => 100 | _ => 200

/-! ### Values of symbols (R187 to R191, R195) -/

/-- The data constellation's mean power P_s on the scale of its points ±1, ±3, ±5, ±7; of PCS-64QAM from its composition
(R189, R191). -/
def meanPower (format : Nat) (comp : List Nat) : Rat :=
  match format with
  | 0 => 2
  | 1 => 10
  | _ => 2 * rsum (comp.zipIdx.map (fun x => (x.1 : Rat) * ((2 * x.2 + 1) * (2 * x.2 + 1) : Nat))) / 64

/-- A QPSK symbol of two bits as pilots carry it, without its scale (R188). -/
def qpsk (b0 b1 : Bool) : Cx := ⟨1 - 2 * (b2n b0 : Rat), 1 - 2 * (b2n b1 : Rat)⟩

/-- Amplitude and sign as a number: amplitude code 0 to 3 for 1, 3, 5, 7. -/
def ampSign (a : Nat) (sign : Bool) : Rat := if sign == Config.signPlus then -(2 * a + 1 : Nat) else (2 * a + 1 : Nat)

/-- A dimension of 16QAM from its two label bits: a Gray label, which of them the spec does not say (R190). -/
def gray4 (b0 b1 : Bool) : Rat :=
  let (first, plus0, outer0) := Config.gray16
  let sg := if first then b0 else b1
  let am := if first then b1 else b0
  let v : Rat := if am == outer0 then 1 else 3
  if sg == plus0 then -v else v

/-- The point of a data symbol from its label (`blockSymbols`) (R190, R191). -/
def dataPoint (format label : Nat) : Cx :=
  match format with
  | 0 => qpsk (bitOf label 1) (bitOf label 0)
  | 1 => ⟨gray4 (bitOf label 3) (bitOf label 2), gray4 (bitOf label 1) (bitOf label 0)⟩
  | _ => ⟨ampSign (label / 16) (bitOf label 3), ampSign (label / 2 % 4) (bitOf label 0)⟩

/-- The labels of all points of a constellation. -/
def allLabels (format : Nat) : List Nat := List.range (match format with | 0 => 4 | 1 => 16 | _ => 64)

/-- The nearest constellation point, dec() (R154). -/
def decide_ (format : Nat) (z : Cx) : Cx :=
  (allLabels format).foldl (fun b l =>
    let p := dataPoint format l
    if cabs2 (csub z p) < cabs2 (csub z b) then p else b) (dataPoint format 0)

/-- The value of a symbol coded as `folioSymbols` codes it: gutter, pilot and fill scaled to P_s (R187 to R189). -/
def symbolValue (g format : Nat) (ps : Rat) (code : Int) : Cx :=
  let v := (code / 4).toNat
  match (code % 4).toNat with
  | 0 => cscale (Config.sqrt ps) (Config.cis (-(v : Rat) / (2 * g)))
  | 2 => dataPoint format v
  | _ => cscale (Config.sqrt (ps / 2)) (qpsk (bitOf v 1) (bitOf v 0))

/-- The gain of ramp-up symbol j of L: linear, or raised cosine sin²(π(j + 0.5)/(2L)) (R195). -/
def rampGainAt (len : Nat) (cosine : Bool) (j : Nat) : Rat :=
  if cosine then (1 - (Config.cis ((2 * j + 1 : Nat) / (4 * len : Nat))).re) / 2 else (2 * j + 1 : Nat) / (2 * len : Nat)

/-- The value of a known symbol, gutter or pilot, at a folio position (R187, R188); none at a data or fill position. -/
def knownAt (baud k sub : Nat) (y : Bool) (ps : Rat) (p : Nat) : Option Cx :=
  let g := symG k
  if p < g then some (symbolValue g 0 ps ((4 * gutterPhase g y p : Nat) : Int))
  else
    match pilotAt baud k (p - g) with
    | none => none
    | some i =>
      let b := prbsBits (2 * i + 2) (prbsSeed y sub)
      some (cscale (Config.sqrt (ps / 2)) (qpsk (b.getD (2 * i) false) (b.getD (2 * i + 1) false)))

/-- The data index of a folio position: none for gutter, pilot and fill (R185, R186). -/
def dataAt (baud k p : Nat) : Option Nat :=
  let g := symG k
  if p < g then none
  else if (pilotAt baud k (p - g)).isSome then none
  else
    let j := p - g
    let q := j - min j (ceilDiv (j * symP baud k) (symS baud k - symG k))
    if q < 64 * (symD baud k / 64) then some q else none

/-- Data positions of one polarisation below post-gutter position x, fill among them (R186). -/
def dataBelow (baud k x : Nat) : Nat := x - ceilDiv (x * symP baud k) (symS baud k - symG k)

/-- Positions that carry neither gutter nor pilot below symbol x, counted from a folio start over folios. -/
def dataTo (baud k x : Nat) : Nat :=
  let sy := symS baud k
  x / sy * dataBelow baud k (sy - symG k) + dataBelow baud k (x % sy - symG k)

/-! ### The fixed parts of a burst (R219 to R221) -/

/-- Symbol n of the preamble: exp(−3iπn²/256) on X, the X sequence rotated by 128 on Y, scaled to P_s (R219). -/
def preambleAt (ps : Rat) (y : Bool) (n : Nat) : Cx :=
  let m := if y then (n + 128) % 256 else n % 256
  cscale (Config.sqrt ps) (Config.cis (-((3 * m * m % 512 : Nat) : Rat) / 512))

/-- Sync word j: 64 QPSK symbols of one polarisation as two-bit labels (R220). -/
def syncWord (y : Bool) (j : Nat) : List Nat :=
  let b := prbsBits 128 ((if y then 0x2000 else 0x1000) + j)
  (List.range 64).map (fun i => 2 * b2n (b.getD (2 * i) false) + b2n (b.getD (2 * i + 1) false))

/-- The 320 known symbols of a burst of sender j: preamble and sync word (R219, R220). -/
def knownBurst (ps : Rat) (j : Nat) (y : Bool) : List Cx :=
  (List.range 256).map (preambleAt ps y)
    ++ (syncWord y j).map (fun v => cscale (Config.sqrt (ps / 2)) (qpsk (bitOf v 1) (bitOf v 0)))

end Sys2Proof.Machine
end

