-- ==== Sys2Proof/Machine/Dsp.lean ====
section
/-!
DEFINITION. The arithmetic of the receive chain (Tables 5-1, 5-3, 5-9; R149 to R154, R163) and of the transmit chain (Table 6-1,
R193 to R205), over exact samples.
-/
namespace Sys2Proof.Machine

/-! ### The equaliser (R147 to R152) -/

/-- The settings of a subcarrier's receiver. -/
structure RxSet where
  baud : Nat
  k : Nat
  sub : Nat
  format : Nat
  entropy : Nat
  comp : List Nat
  nt : Nat
  pilotK : Nat
  bpsT : Nat
  bpsStep : Nat
  bpsW : Nat

/-- P_s of the constellation (R189). -/
def RxSet.ps (c : RxSet) : Rat := meanPower c.format c.comp

/-- The symbol rate B/K in GBd. -/
def RxSet.rate (c : RxSet) : Rat := (c.baud : Rat) / (2 * c.k : Nat)

/-- Symbols on either side of a block that its carrier recovery and NLC look at: 16 pilots of at most 64 symbols and one more, the
BPS window, NLC's two reaches of 62. -/
def rxSpan : Nat := 1408

/-- An output of the equaliser: output `row` (0 X, 1 Y) of symbol j, from input samples that start N − 1 before its own; tap 0 is
the earliest of the response (R147, R181; log 123). -/
def eqAt (nt : Nat) (h : List Cx) (u : List Dual) (row j : Nat) : Cx :=
  csum ((List.range nt).map (fun k =>
    let v := u.getD (2 * j + nt - 1 - k) {}
    cadd (cmul (h.getD (128 * row + k) {}) v.x) (cmul (h.getD (128 * row + 64 + k) {}) v.y)))

/-- `m` symbols at the equaliser's outputs. -/
def eqOut (nt : Nat) (h : List Cx) (u : List Dual) (m : Nat) : List Dual :=
  (List.range m).map (fun j => ⟨eqAt nt h u 0 j, eqAt nt h u 1 j⟩)

/-- The taps after a block: each moves by μ times the mean over the block of the error times the conjugate input sample that the
tap weighs (R149). `e` holds the error of each symbol used, by its number in `u`. -/
def adapt (nt : Nat) (mu : Rat) (h : List Cx) (u : List Dual) (e : List (Nat × Dual)) : List Cx :=
  let n : Rat := max 1 e.length
  (List.range 256).map (fun t =>
    let k := t % 64
    if nt ≤ k then {}
    else
      let g := csum (e.map (fun x =>
        cmul (polOf x.2 (decide (128 ≤ t))) (conj (polOf (u.getD (2 * x.1 + nt - 1 - k) {}) (decide (64 ≤ t % 128))))))
      cadd (h.getD t {}) (cscale (mu / n) g))

/-- The constant-modulus error z(R − |z|²) and its cost (Table 5-3). -/
def cmError (c : RxSet) (z : Cx) : Cx := cscale (Config.cmRadius c.format c.entropy - cabs2 z) z
def cmCost (c : RxSet) (z : Cx) : Rat :=
  let d := Config.cmRadius c.format c.entropy - cabs2 z
  d * d

/-- The taps of an equaliser without stored taps: h_xx and h_yy are 1 at tap N/2 (R147). -/
def defaultTaps (nt : Nat) : List Cx :=
  (List.range 256).map (fun j => if (j / 64 = 0 ∨ j / 64 = 3) ∧ j % 64 = nt / 2 then ⟨1, 0⟩ else {})

/-- The taps rebuilt after a singular equaliser: h_yx and h_yy are the time-reversed conjugates of h_xy and −h_xx (R152). -/
def rebuildTaps (nt : Nat) (t : List Cx) : List Cx :=
  (List.range 256).map (fun j =>
    let k := j % 64
    let src := fun (f : Nat) => t.getD (64 * f + (nt - 1 - k)) {}
    if nt ≤ k then {}
    else if j / 64 = 2 then conj (src 1)
    else if j / 64 = 3 then conj (cscale (-1) (src 0))
    else t.getD j {})

/-- Exchanging the two outputs exchanges the rows of the taps. -/
def swapTaps (t : List Cx) : List Cx := (List.range 256).map (fun j => t.getD ((j + 128) % 256) {})

/-! ### Carrier recovery (R154) -/

/-- The pilots of a stretch that starts at folio position `pos`: their index in it and known value. -/
def pilotsIn (c : RxSet) (y : Bool) (pos m : Nat) : List (Nat × Cx) :=
  (List.range m).filterMap (fun j =>
    let p := (pos + j) % symS c.baud c.k
    if p < symG c.k then none else (knownAt c.baud c.k c.sub y c.ps p).map (fun a => (j, a)))

/-- Pilot phase in turns at each pilot of a stretch: the argument of the sum of z·a* over the 2k + 1 pilots centred on it, unwrapped
(R154). -/
def pilotPhases (c : RxSet) (y : Bool) (z : List Cx) (pos : Nat) : List (Nat × Rat) :=
  let ps := (pilotsIn c y pos z.length).map (fun x => (x.1, cmul (z.getD x.1 {}) (conj x.2)))
  let raw := ps.zipIdx.map (fun x =>
    (x.1.1, Config.arg (csum (((ps.drop (x.2 - c.pilotK)).take (min x.2 c.pilotK + c.pilotK + 1)).map (·.2)))))
  (raw.foldl (fun (acc : List (Nat × Rat) × Rat) x =>
    let v := x.2 + (nearest (acc.2 - x.2) : Rat)
    (acc.1 ++ [(x.1, v)], v)) ([], (raw.head?.map (·.2)).getD 0)).1

/-- Phase at symbol j, linear between pilots. -/
def phaseAt (e : List (Nat × Rat)) (j : Nat) : Rat :=
  match (e.filter (fun x => x.1 ≤ j)).getLast?, e.find? (fun x => j < x.1) with
  | some a, some b => a.2 + (b.2 - a.2) * ((j - a.1 : Nat) : Rat) / ((b.1 - a.1 : Nat) : Rat)
  | some a, none => a.2
  | none, some b => b.2
  | none, none => 0

/-- Index of the first smallest value. -/
def argMin : List Rat → Nat
  | [] => 0
  | x :: r => (r.zipIdx.foldl (fun b v => if v.1 < b.1 then (v.1, v.2 + 1) else b) (x, 0)).2

/-- The phase of a data symbol after the blind phase search around φ_p, in turns; the step is 1/2,880 turn times STEP (R154). -/
def bpsPhase (c : RxSet) (z : List Cx) (e : List (Nat × Rat)) (j : Nat) : Rat :=
  let p := phaseAt e j
  let phi := fun (b : Nat) => p + ((b : Rat) - (c.bpsT - 1 : Nat) / 2) * c.bpsStep / 2880
  let cost := fun (b : Nat) => rsum ((List.range (2 * c.bpsW + 1)).map (fun i =>
    let v := turn (z.getD (j + i - c.bpsW) {}) (-phi b)
    cabs2 (csub v (decide_ c.format v))))
  phi (argMin ((List.range c.bpsT).map cost))

/-- The phase in force at symbol j of a stretch: at a data symbol after the blind phase search, elsewhere the pilot phase. -/
def phaseOf (c : RxSet) (z : List Cx) (e : List (Nat × Rat)) (pos j : Nat) : Rat :=
  if (dataAt c.baud c.k ((pos + j) % symS c.baud c.k)).isSome then bpsPhase c z e j else phaseAt e j

/-- Symbols after the frequency derotator: `rot` turns at the first, `df` turns a symbol (R154). -/
def derotate (rot df : Rat) (z : List Dual) : List Dual :=
  z.zipIdx.map (fun x => ⟨turn x.1.x (-(rot + df * (x.2 : Rat))), turn x.1.y (-(rot + df * (x.2 : Rat)))⟩)

/-! ### Nonlinear compensation (R163) -/

/-- An NLC entry: m, k, and the coefficient C (R181). -/
structure NlcEntry where
  m : Int
  k : Int
  c : Cx

def nlcEntry (w : Nat) : NlcEntry :=
  ⟨toSigned 6 (bitsOf w 0 6), toSigned 6 (bitsOf w 6 6),
   ⟨(toSigned 10 (bitsOf w 12 10) : Rat) / 256, (toSigned 10 (bitsOf w 22 10) : Rat) / 256⟩⟩

/-- The entries that apply: one with m ≠ k also as (k, m). -/
def nlcAll (l : List NlcEntry) : List NlcEntry := l.flatMap (fun e => if e.m = e.k then [e] else [e, { e with m := e.k, k := e.m }])

/-- The perturbation of the polarisation `own` at symbol n, from hard decisions of both: γ Σ C (x̂[n+m] x̂*[n+m+k] +
ŷ[n+m] ŷ*[n+m+k]) x̂[n+k]. -/
def nlcDelta (gain : Nat) (l : List NlcEntry) (own other : Int → Cx) (n : Int) : Cx :=
  cscale ((gain : Rat) / 4096) (csum ((nlcAll l).map (fun e =>
    cmul e.c (cmul (cadd (cmul (own (n + e.m)) (conj (own (n + e.m + e.k)))) (cmul (other (n + e.m)) (conj (other (n + e.m + e.k)))))
      (own (n + e.k))))))

/-! ### Soft demapping (R138, R251) -/

/-- LLRs ln(P(b = 0)/P(b = 1)) of the bits of a QPSK or 16QAM symbol, most significant of its label first. -/
def llrSymbol (format : Nat) (sigma2 : Rat) (z : Cx) : List Rat :=
  let m := if format = 0 then 2 else 4
  let w := fun (b : Bool) (i : Nat) => rsum (((allLabels format).filter (fun l => bitOf l (m - 1 - i) == b)).map (fun l =>
    Config.exp (-(cabs2 (csub z (dataPoint format l))) / sigma2)))
  (List.range m).map (fun i => Config.ln (w false i) - Config.ln (w true i))

/-- LLRs of the coded bits of a block of 64 data symbols of one polarisation, in the order of R249. -/
def llrBlock (format entropy : Nat) (comp : List Nat) (sigma2 : Rat) (z : List Cx) : List Rat :=
  if format < 2 then z.flatMap (llrSymbol format sigma2) else Config.demapPcs entropy comp sigma2 z

/-! ### The equaliser's response and the measurements (R152, Table 5-9) -/

/-- Frequency j of the 64, as a share of B_c: evenly over |f| ≤ 0.45 B_c. -/
def fShare (j : Nat) : Rat := -(45 : Rat) / 100 + 90 * (j : Rat) / 6300

/-- Σ k^w h[k] e^(−2πi f k T/2) of filter `f`. -/
def tapSum (nt : Nat) (h : List Cx) (f w : Nat) (share : Rat) : Cx :=
  csum ((List.range nt).map (fun k => cscale ((k ^ w : Nat) : Rat) (turn (h.getD (64 * f + k) {}) (-share * (k : Rat) / 2))))

/-- A 2×2 matrix. -/
structure M2 where
  a : Cx
  b : Cx
  c : Cx
  d : Cx

def M2.det (m : M2) : Cx := csub (cmul m.a m.d) (cmul m.b m.c)
def M2.mul (m n : M2) : M2 :=
  ⟨cadd (cmul m.a n.a) (cmul m.b n.c), cadd (cmul m.a n.b) (cmul m.b n.d),
   cadd (cmul m.c n.a) (cmul m.d n.c), cadd (cmul m.c n.b) (cmul m.d n.d)⟩
def M2.herm (m : M2) : M2 := ⟨conj m.a, conj m.c, conj m.b, conj m.d⟩
def M2.scale (k : Cx) (m : M2) : M2 := ⟨cmul k m.a, cmul k m.b, cmul k m.c, cmul k m.d⟩
def M2.plus (m n : M2) : M2 := ⟨cadd m.a n.a, cadd m.b n.b, cadd m.c n.c, cadd m.d n.d⟩
def M2.adj (m : M2) : M2 := ⟨m.d, cscale (-1) m.b, cscale (-1) m.c, m.a⟩
def M2.inv (m : M2) : M2 := m.adj.scale (cdiv ⟨1, 0⟩ m.det)
def M2.trace (m : M2) : Cx := cadd m.a m.d
def M2.norm2 (m : M2) : Rat := cabs2 m.a + cabs2 m.b + cabs2 m.c + cabs2 m.d

/-- H(f), and the same sums weighted by k. -/
def respAt (nt : Nat) (h : List Cx) (w : Nat) (share : Rat) : M2 :=
  ⟨tapSum nt h 0 w share, tapSum nt h 1 w share, tapSum nt h 2 w share, tapSum nt h 3 w share⟩

/-- |det H(f)| averaged over the band (R152). -/
def detMean (nt : Nat) (h : List Cx) : Rat :=
  rsum ((List.range 64).map (fun j => Config.sqrt (cabs2 (respAt nt h 0 (fShare j)).det))) / 64

/-- A square root of a complex number. -/
def csqrt (z : Cx) : Cx := cscale (Config.sqrt (Config.sqrt (cabs2 z))) (Config.cis (Config.arg z / 2))

/-- The unitary factor of a matrix: A + |det A| A⁻ᴴ, scaled to determinant of magnitude 1. -/
def M2.unitary (m : M2) : M2 :=
  let dm := Config.sqrt (cabs2 m.det)
  let v := m.plus ((m.inv.herm).scale ⟨dm, 0⟩)
  v.scale ⟨1 / Config.sqrt (Config.sqrt (cabs2 v.det)), 0⟩

/-- D_res in ps/nm: τ(f) = −(1/4π) d arg det H/df, the slope s of its least-squares line in ps/GHz, −s F²/c with F = OPT_FREQ
(units of 0.1 GHz) and c = 299,792,458 nm·GHz. -/
def dResOf (c : RxSet) (h : List Cx) (optFreq : Nat) : Rat :=
  let t := 1000 / c.rate
  let pts := (List.range 64).map (fun j =>
    let f := fShare j
    let m := respAt c.nt h 0 f
    let w := respAt c.nt h 1 f
    let dm := csub (cadd (cmul w.a m.d) (cmul m.a w.d)) (cadd (cmul w.b m.c) (cmul m.b w.c))
    (f * c.rate, t / 4 * (cdiv dm m.det).re))
  let fm := rsum (pts.map (·.1)) / 64
  let tm := rsum (pts.map (·.2)) / 64
  let s := rsum (pts.map (fun x => (x.1 - fm) * (x.2 - tm))) / rsum (pts.map (fun x => (x.1 - fm) * (x.1 - fm)))
  (-s) * ((optFreq * optFreq : Nat) : Rat) / 100 / 299792458

/-- DGD in ps: the mean over the 63 adjacent pairs of |arg(ρ₁/ρ₂)|/(2πΔf). -/
def dgdOf (c : RxSet) (h : List Cx) : Rat :=
  let df := 90 / 6300 * c.rate
  rsum ((List.range 63).map (fun j =>
    let m := (respAt c.nt h 0 (fShare (j + 1))).mul (respAt c.nt h 0 (fShare j)).inv
    let half := cscale (1 / 2) m.trace
    let r := csqrt (csub (cmul half half) m.det)
    let a := Config.arg (cdiv (cadd half r) (csub half r))
    1000 * (if a < 0 then -a else a) / df)) / 63

/-- PDL in dB: the mean of 20 log₁₀ of the ratio of the singular values. -/
def pdlOf (c : RxSet) (h : List Cx) : Rat :=
  rsum ((List.range 64).map (fun j =>
    let m := respAt c.nt h 0 (fShare j)
    let q := m.norm2
    let r := Config.sqrt (q * q - 4 * cabs2 m.det)
    10 * Config.log10 ((q + r) / (q - r)))) / 64

/-- The SOP rate in krad/s between two unitary factors 1 µs apart: 2 arccos(|tr(U U'ᴴ)|/2) in radians, times 1,000. -/
def sopRate (u v : M2) : Rat := 2000 * Config.acos (Config.sqrt (cabs2 (u.mul v.herm).trace) / 2)

/-! ### Shaping and the DAC (R193, R197 to R205) -/

/-- A FIR at 2 samples a symbol over symbols (R197). -/
def fir2 (h : List Cx) (z : List Cx) : List Cx :=
  (List.range (2 * z.length)).map (fun m => csum (h.zipIdx.map (fun t =>
    if t.2 ≤ m ∧ (m - t.2) % 2 = 0 then cmul t.1 (z.getD ((m - t.2) / 2) {}) else {})))

/-- Subcarrier s of K shifted to its centre f_s = (s − (K − 1)/2) Δ with Δ = (B/K)(1 + α), at 2 samples a symbol of B; α in 1/1000
(R193); `m` is the number of the first sample. -/
def shiftSub (k s alpha m : Nat) (z : List Cx) : List Cx :=
  let step := ((s : Rat) - (k - 1 : Nat) / 2) * (1000 + alpha : Nat) / 1000 / (2 * k : Nat)
  z.zipIdx.map (fun x => turn x.1 (step * ((m + x.2 : Nat) : Rat)))

/-- Streams added sample by sample. -/
def sumStreams (l : List (List Cx)) : List Cx :=
  (List.range ((l.map (·.length)).foldl max 0)).map (fun m => csum (l.map (fun z => z.getD m {})))

/-- A real FIR (R204). -/
def firReal (h : List Rat) (v : List Rat) : List Rat :=
  (List.range v.length).map (fun m => rsum (h.zipIdx.map (fun t => if t.2 ≤ m then t.1 * v.getD (m - t.2) 0 else 0)))

/-- A DAC stream scaled to a level in −dBFS × 10, its rms taken over the folio; full scale is 127.5 about the middle of the codes
(R205). -/
def levelled (rms : Nat) (v : List Rat) : List Rat :=
  let p := Config.sqrt (rsum (v.map (fun x => x * x)) / max 1 v.length)
  v.map (fun x => x * (255 / 2 / Config.sqrt 2) * Config.pow10 (-(rms : Rat) / 200) / p)

/-- The 8-bit code of a sample about the middle of the range, and whether it saturates (R205). -/
def dacCode (x : Rat) : Nat × Bool :=
  let c := nearest (255 / 2 + x)
  if c < 0 then (0, true) else if 255 < c then (255, true) else (c.toNat, false)

/-- A code after the mute gain in 1/1000 (Table 6-1, stage 9). -/
def muteCode (gain c : Nat) : Nat := (nearest (255 / 2 + ((c : Rat) - 255 / 2) * gain / 1000)).toNat

/-- |H(f)|² of an FIR at bin b of the 1,024 spread evenly over ±B/K (R198, R200). -/
def firPower (h : List Cx) (b : Nat) : Rat :=
  cabs2 (csum (h.zipIdx.map (fun t => turn t.1 (-((b : Rat) - 512) * (t.2 : Rat) / 1024))))

/-- Levels of 1,024 powers in units of 0.1 dB relative to their peak (R198). -/
def binLevels (p : Nat → Rat) : List Rat :=
  let l := (List.range 1024).map p
  let top := l.foldl max 0
  l.map (fun x => 100 * Config.log10 (x / top))

/-- Frequency of bin b in units of 100 MHz from the signal's centre; BAUD in units of 0.5 GBd (R198). -/
def binFreq (baud k b : Nat) : Rat := ((b : Rat) - 512) / 512 * (5 * baud : Nat) / (k : Rat)

end Sys2Proof.Machine
end

