-- ==== Sys2Proof/Machine/Blocks.lean ====
section
/-!
DEFINITION. What blocks share below the events: the re-initialisation of a block (R58), the transmit output and its
mute causes (R206 to R209), the power governor's accounts (R518 to R523), and a carrier going DOWN (R55, R59).
-/
namespace Sys2Proof.Machine

/-! ### Re-initialising a page (R58) -/

/-- A register after re-initialisation: RW and W1S bits kept, every other bit at its reset value. -/
def reinitWord (s : State) (a : Nat) (r : RegSpec) : State :=
  let keep := r.rw ||| r.w1s
  s.setNat a ((s.nat a &&& keep) ||| ((resetWord a).toNat &&& (0xFFFFFFFF - keep)))

/-- The bits of word `w` of a table's entry that re-initialisation of its block keeps beside what the host writes: the codes with
their positions (R109), the key contexts (R363), the key store (R72), the repair map (R606). -/
def winKeep (k : Kind) (g : WinSeg) (w : Nat) : Nat :=
  match k with
  | .CAL => if g.off = 0x2200 ∨ w = 0 then 0xFFFFFFFF else if w = 2 then 0xFF else 0
  | .CRY => if g.off = 0x1000 ∧ w < 5 then 0xFFFFFFFF else 0
  | .SEC => 0xFFFFFFFF
  | .RPR => if g.off = 0 then 0xFFFFFFFF else 0
  | _ => 0

/-- The window entries of a page's block after re-initialisation: what the host writes is kept (R58). -/
def State.reinitWins (s : State) (p : Nat) (k : Kind) : State :=
  { s with regs := s.regs.filterMap (fun e =>
      match segAt e.1 with
      | some (g, _, w) =>
        if g.owner = p then
          let keep := g.rw.getD w 0 ||| winKeep k g w
          let v := (e.2 &&& BitVec.ofNat 32 keep) ||| (resetWord e.1 &&& BitVec.ofNat 32 (0xFFFFFFFF - keep))
          if v = resetWord e.1 then none else some (e.1, v)
        else some e
      | none => some e) }

/-- The block-specific registers of a page after re-initialisation; the header keeps its values. -/
def State.reinitRegs (s : State) (p : Nat) : State :=
  match pageKind p with
  | none => s
  | some (k, _) =>
    let s := s.reinitWins p k
    each (k.regs.filter (fun r => 0x100 ≤ r.off))
      (fun r t => each (List.range r.count) (fun i u => reinitWord u (pageBase p + r.off + r.stride * i) r) t) s

/-! ### The state of a carrier's blocks -/

/-- The transmit state of a carrier. -/
def State.txs (s : State) (n : Nat) : TxState := s.tx.at n
def State.setTx (s : State) (n : Nat) (t : TxState) : State := { s with tx := s.tx.put n t }
def State.cals (s : State) (n : Nat) : CalState := s.cal.at n
def State.setCal (s : State) (n : Nat) (t : CalState) : State := { s with cal := s.cal.put n t }
def State.rxs (s : State) (n : Nat) : RxState := s.rx.at n
def State.setRx (s : State) (n : Nat) (t : RxState) : State := { s with rx := s.rx.put n t }
def State.subst (s : State) (n : Nat) : SubState := s.sub.at n
def State.setSub (s : State) (n : Nat) (t : SubState) : State := { s with sub := s.sub.put n t }
def State.fecs (s : State) (n : Nat) : FecState := s.fec.at n
def State.setFec (s : State) (n : Nat) (t : FecState) : State := { s with fec := s.fec.put n t }
def State.frms (s : State) (n : Nat) : FrmState := s.frm.at n
def State.setFrm (s : State) (n : Nat) (t : FrmState) : State := { s with frm := s.frm.put n t }

/-! ### Codes of a sub-converter (R108, Table 4-12) -/

/-- Entry number of unit u of converter c. -/
def subEntry (c u : Nat) : Nat := c * 68 + u

/-- A code in a word laid out as word 0. -/
def codeIn (w k : Nat) : Int :=
  match k with
  | 0 => toSigned 8 (bitsOf w 0 8)
  | 1 => toSigned 9 (bitsOf w 8 9)
  | 2 => bitsOf w 17 9
  | _ => bitsOf w 26 6

/-- A word laid out as word 0 with one code replaced. -/
def codePut (w k : Nat) (v : Int) : Nat :=
  match k with
  | 0 => withBits w 0 8 (ofSigned 8 v)
  | 1 => withBits w 8 9 (ofSigned 9 v)
  | 2 => withBits w 17 9 v.toNat
  | _ => withBits w 26 6 v.toNat

/-- The range of a code (Table 4-3). -/
def codeRange (k : Nat) : Int × Int :=
  match k with
  | 0 => (-127, 127)
  | 1 => (-255, 255)
  | 2 => (0, 511)
  | _ => (0, 63)

/-- The address of a sub-converter's entry. -/
def State.subAt (n e : Nat) : Nat := CALW.SUBCONV n e

/-- A committed code. -/
def State.code (s : State) (n e k : Nat) : Int := codeIn (s.nat (State.subAt n e)) k

/-- Setting a committed code. -/
def State.setCode (s : State) (n e k : Nat) (v : Int) : State :=
  s.setNat (State.subAt n e) (codePut (s.nat (State.subAt n e)) k v)

/-- The roles of a sub-converter (Table 4-12). -/
def roleACTIVE : Nat := 0
def roleFREE : Nat := 1
def rolePRECAL : Nat := 2
def roleRETIRED : Nat := 3

def State.roleOf (s : State) (n e : Nat) : Nat := s.get (State.subAt n e) CALW.SUBCONV_ROLE
def State.setRole (s : State) (n e r : Nat) : State := s.set (State.subAt n e) CALW.SUBCONV_ROLE r

/-- The unit frozen by a swap in progress (R127). -/
def State.frozen (s : State) (n e : Nat) : Bool :=
  match (s.cals n).swap with
  | some w => e = subEntry w.conv w.failed
  | none => false

/-- CALn commits to a side. -/
def State.sideEn (s : State) (n c : Nat) : Bool :=
  s.flag (CAL.page n) (if c < 4 then CAL.CTRL_DAC_EN else CAL.CTRL_ADC_EN)

/-- The MANUAL steps of a direction: every code that differs from its target moves one step; a unit frozen or
pre-calibrated by a swap and one out of service does not (R121, R127, R130). -/
def State.slewSteps (s : State) (n : Nat) (tx : Bool) : List CodeStep :=
  ((List.range 4).flatMap (fun i => (List.range 68).map (fun u => subEntry (if tx then i else 4 + i) u))).flatMap (fun e =>
    if s.frozen n e || 2 ≤ s.roleOf n e then []
    else
      let t := s.nat (State.subAt n e + 12)
      ([0, 1, 2, 3].filter (fun k => codeIn t k != s.code n e k)).map (fun k =>
        { entry := e, code := k, up := decide (s.code n e k < codeIn t k) }))

/-! ### Gutter slots for calibration (R116, R117) -/

/-- A receive gutter slot is valid: FRMn aligned and SIG_OK; in HUB role the upstream window established, no quiet span
open, and SIG_OK (R116, R218). -/
def State.rxGutter (s : State) (n : Nat) : Bool :=
  let sig := s.flag (CNV.page n) CNV.PATH_STATE_SIG_OK
  if s.get (SUB.page n) SUB.ROLE_ROLE = 1 then
    sig && s.flag (SUB.page n) SUB.HUB_STATUS_WINDOW_OK && !s.flag (SUB.page n) SUB.HUB_STATUS_QUIET_OPEN
  else sig && bitOf (s.get (FRM.page n) FRM.ALIGN_STATUS_LOCKED) 0

/-- A transmit gutter slot is valid: TXDn ACTIVE and DAC_OUT LIVE (R117). -/
def State.txGutter (s : State) (n : Nat) : Bool :=
  s.active (Kind.TXD.pg n) && s.get (CNV.page n) CNV.PATH_STATE_DAC_OUT = 2

/-- The gutter of a converter's direction: converters 0 to 3 are DACs (Table 4-1). -/
def State.convGutter (s : State) (n c : Nat) : Bool := if c < 4 then s.txGutter n else s.rxGutter n

/-- Steps wait while no gutter slot of their direction is valid: an update in TRACK, or in MANUAL codes that differ from their
targets (R116, R117, R121). -/
def State.calHeld (s : State) (n : Nat) : Bool :=
  (s.cals n).pend.any (fun e => !e.2.isEmpty && !s.convGutter n e.1)
    || (s.get (CAL.page n) CAL.CTRL_MODE = 2 && s.active (Kind.CAL.pg n)
        && ([(true, 0), (false, 4)].any (fun d => s.sideEn n d.2 && !s.convGutter n d.2 && !(s.slewSteps n d.1).isEmpty)))

/-- HOLD rises, with HOLD_START, once steps are held (R116, R117, R121). -/
def State.calHold (s : State) (n : Nat) : State :=
  let h := s.calHeld n
  let was := s.flag (CAL.page n) CAL.STATUS_HOLD
  let s := if h then s.setB (CAL.page n) CAL.STATUS_HOLD true else s
  s.raiseIf (h && !was) (Kind.CAL.pg n) CAL.ev_HOLD_START

/-! ### The transmit output (R206 to R209, Tables 6-4 and 6-5) -/

/-- Any mute cause of Table 6-5 in force. -/
def TxState.muted (t : TxState) : Bool := t.cHost || t.cStep1 || t.cFault || t.cOpt || t.cDown || t.cSafe

/-- The gain in 1/1000 after `dt` ns of a ramp at full gain per UNMUTE_RAMP µs (R208). -/
def rampGain (t : TxState) (dt rampUs : Nat) : Nat :=
  match t.ramp with
  | .steady => t.gain
  | .rising => min 1000 (t.gain + dt / max 1 rampUs)
  | .falling => t.gain - min t.gain (dt / max 1 rampUs)

/-- OUT_STATE and PATH_STATE.DAC_OUT follow the output, and with it the hold of DAC updates (R117, R208, Table 6-7). -/
def State.showOut (s : State) (n : Nat) : State :=
  let t := s.txs n
  let b := TXD.page n
  let st :=
    if t.ramp = .rising then 2 else if t.ramp = .falling then 4
    else if t.gain = 1000 then 3
    else if t.reached then 5
    else if t.laserEn then 1 else 0
  let s := s.set b TXD.OUT_STATE_STATE st
  let s := s.setB b TXD.OUT_STATE_C_HOST t.cHost
  let s := s.setB b TXD.OUT_STATE_C_FAULT (t.cStep1 || t.cFault)
  let s := s.setB b TXD.OUT_STATE_C_OPT t.cOpt
  let s := s.setB b TXD.OUT_STATE_C_DOWN t.cDown
  let s := s.setB b TXD.OUT_STATE_C_MASK (t.mask0.liveMuted || t.mask1.liveMuted)
  let s := s.setB b TXD.OUT_STATE_READY_IN t.laserReady
  let s := s.setB b TXD.OUT_STATE_FAULT_IN t.optActive
  let s := s.setB b TXD.OUT_STATE_LASER_EN t.laserEn
  let s := s.setB b TXD.OUT_STATE_DRV_EN t.drvEn
  let iso := (s.cals n).fullRunning
  (s.set (CNV.page n) CNV.PATH_STATE_DAC_OUT (if iso then 1 else if t.gain = 0 && t.ramp != .rising then 0 else 2)).calHold n

/-- The enable lines of Table 6-5: low for a cause that lowers them; for a carrier DOWN, when the ramp has ended. -/
def TxState.enables (t : TxState) : TxState :=
  if t.cSafe then { t with laserEn := false, drvEn := false }
  else if t.cDown && t.gain = 0 && t.ramp = .steady then { t with laserEn := false, drvEn := false, waitDone := false, armed := false }
  else { t with drvEn := t.laserEn && !t.cOpt }

/-- Applying a change of mute causes (R208, R209): the gain turns or falls to zero, OUTPUT_MUTED is raised when the
first cause appears, and the unmute ramp starts and OUTPUT_LIVE is raised when the last clears with LASER_EN high. -/
def State.outCause (s : State) (n : Nat) (f : TxState → TxState) : State :=
  let old := s.txs n
  let us := s.get (TXD.page n) TXD.OCP_CFG_UNMUTE_RAMP
  let g := rampGain old (s.now - old.rampAt) us
  let new := f { old with gain := g, rampAt := s.now }
  let zero := (new.cFault && !old.cFault) || (new.cOpt && !old.cOpt) || (new.cSafe && !old.cSafe)
  let new :=
    if new.muted then
      if zero || g = 0 then { new with gain := 0, ramp := .steady }
      else { new with ramp := .falling }
    else if new.laserEn && new.armed && g < 1000 then { new with ramp := .rising }
    else new
  let s := s.setTx n new.enables
  let s := s.raiseIf (new.muted && !old.muted) (Kind.TXD.pg n) TXD.ev_OUTPUT_MUTED
  let s := s.raiseIf (!new.muted && old.muted && new.ramp = .rising) (Kind.TXD.pg n) TXD.ev_OUTPUT_LIVE
  s.showOut n

/-! ### The governor's accounts (R518 to R523) -/

/-- Standing load S (R519). -/
def State.standing (s : State) : Nat :=
  s.get PWR.page PWR.STANDING_BASE_MW + s.pwr.carrierStanding.c0 + s.pwr.carrierStanding.c1
    + s.pwr.nlcStanding.c0 + s.pwr.nlcStanding.c1

/-- Sum A of the costs of the leaves granted (R521). -/
def State.activeCost (s : State) : Nat := (s.pwr.active.map (·.cost)).sum

/-- STANDING, ACTIVE_LEAVE and LEAVE_STATUS follow the accounts (Table 17-8). -/
def State.syncPower (s : State) : State :=
  let s := s.set PWR.page PWR.STANDING_MW s.standing
  let s := s.set PWR.page PWR.ACTIVE_LEAVE_MW s.activeCost
  let s := s.set PWR.page PWR.LEAVE_STATUS_QUEUED s.pwr.queue.length
  let s := s.setB PWR.page PWR.LEAVE_STATUS_HEAD_VALID (!s.pwr.queue.isEmpty)
  s.set PWR.page PWR.LEAVE_STATUS_HEAD_OP ((s.pwr.queue.head?.map (·.op)).getD 0)

/-- Decision on a request for leave. -/
inductive Decision where
  | granted | queued | refused
  deriving DecidableEq, Repr

/-- The grant row of R521, but for the queue: S + A + C within BUDGET, no WARN, not at the floor, no shed. -/
def State.mayGrant (s : State) (c : Nat) : Bool :=
  decide (s.standing + s.activeCost + c ≤ s.get PWR.page PWR.BUDGET_MW)
    && !s.flag THM.page THM.STATUS_WARN && !s.flag PWR.page PWR.GOV_STATUS_AT_FLOOR && !s.shed

/-- Recording a refusal of leave (R521). -/
def State.leaveRefused (s : State) (op reason : Nat) : State :=
  let s := s.set PWR.page PWR.LEAVE_STATUS_LAST_OP op
  let s := s.set PWR.page PWR.LEAVE_STATUS_LAST_REASON reason
  let s := s.count (PWR.page + PWR.REFUSALS)
  s.raise Kind.PWR.pages.1 PWR.ev_LEAVE_REFUSED

/-- Recording a grant: the cost joins A (R521). -/
def State.leaveGranted (s : State) (r : LeaveReq) : State :=
  let s := { s with pwr := { s.pwr with active := s.pwr.active ++ [{ r with at_ := s.now }] } }
  let s := s.count (PWR.page + PWR.GRANTS)
  (s.raise Kind.PWR.pages.1 PWR.ev_LEAVE_GRANTED).syncPower

/-- A request for leave, decided at once (the four rows of R521 in order). -/
def State.requestLeave (s : State) (r : LeaveReq) : Decision × State :=
  if s.get PWR.page PWR.BUDGET_MW < s.standing + r.cost then (.refused, s.leaveRefused r.op 1)
  else if 16 ≤ s.pwr.queue.length then (.refused, s.leaveRefused r.op 2)
  else if s.pwr.queue.isEmpty && s.mayGrant r.cost then (.granted, s.leaveGranted r)
  else (.queued, { s with pwr := { s.pwr with queue := s.pwr.queue ++ [r] } }.syncPower)

/-- Withdrawing a queued request, with no report (R522). -/
def State.withdrawLeave (s : State) (op unit : Nat) : State :=
  { s with pwr := { s.pwr with queue := s.pwr.queue.filter (fun r => !(r.op = op && r.unit = unit)) } }.syncPower

/-- Ending a granted leave: its cost leaves A (R523). -/
def State.endLeave (s : State) (op unit : Nat) : State :=
  { s with pwr := { s.pwr with active := s.pwr.active.filter (fun r => !(r.op = op && r.unit = unit)) } }.syncPower

/-- A leave of this operation and unit is granted now. -/
def State.hasLeave (s : State) (op unit : Nat) : Bool := s.pwr.active.any (fun r => r.op = op && r.unit = unit)

/-- A leave of this operation and unit is queued. -/
def State.leaveQueued (s : State) (op unit : Nat) : Bool := s.pwr.queue.any (fun r => r.op = op && r.unit = unit)

/-- The catalogue entry of Table 17-1 as a request by unit `u`. -/
def catalogue (op u : Nat) : LeaveReq :=
  match op with
  | 0 => { op := 0, unit := u, cost := 70000, durationMs := 200, standing := 48000 }
  | 1 => { op := 1, unit := u, cost := 12000, durationMs := 40, standing := 0 }
  | 2 => { op := 2, unit := u, cost := 800, durationMs := 1, standing := 800 }
  | 3 => { op := 3, unit := u, cost := 8000, durationMs := 700, standing := 0 }
  | 4 => { op := 4, unit := u, cost := 4000, durationMs := 0, standing := 0 }
  | 5 => { op := 5, unit := u, cost := 6000, durationMs := 100, standing := 0 }
  | 6 => { op := 6, unit := u, cost := 500, durationMs := 5, standing := 0 }
  | 7 => { op := 7, unit := u, cost := 3000, durationMs := 10, standing := 0 }
  | _ => { op := 8, unit := u, cost := 4000, durationMs := 2, standing := 4000 }

/-! ### The iteration cap (R262 to R266) -/

/-- The THERM value: from the last sample's T (0.25 °C), or 6 on a shortage of sensors (Table 8-4, R533). -/
def State.thermCap (s : State) (imax : Nat) : Nat :=
  let t := s.getI THM.page THM.STATUS_HOT
  if s.thm.short then 6
  else if t < 420 then 24
  else (max 6 (min 24 ((imax : Int) + (-((imax : Int) - 6) * (t - 420)) / 40))).toNat

/-- ΔM of a cap; below 6 the spec states none, and a free value stands for it (R266). -/
def State.deltaM (s : State) (n c : Nat) : Nat :=
  if c < 6 then Config.marginBelow6 (s.get (FEC.page n) FEC.CTRL_PROFILE) c else (marginTable (s.get (FEC.page n) FEC.CTRL_PROFILE)).getD (c - 6) 0

/-- The cap in force, its causes, the margins and the CAP events follow the five values (R262, R264, R266). -/
def State.fecCaps (s : State) (n : Nat) : State :=
  let b := FEC.page n
  let host := s.get b FEC.CAP_STATUS_HOST_EFF
  let st := s.get b FEC.CAP_CAUSES_STRUCT
  let th := s.thermCap host
  let dr := if s.shed then 8 else 24
  let gv := s.get PWR.page PWR.GOV_STATUS_GOV
  let eff := min host (min st (min th (min dr gv)))
  let lim := fun v => decide (eff < 24) && v = eff
  let s := ((s.set b FEC.CAP_CAUSES_THERM th).set b FEC.CAP_CAUSES_DROOP dr).set b FEC.CAP_CAUSES_GOV gv
  let s := s.set b FEC.CAP_STATUS_EFF eff
  let s := (s.setB b FEC.CAP_STATUS_L_HOST (lim host)).setB b FEC.CAP_STATUS_L_STRUCT (lim st)
  let s := (s.setB b FEC.CAP_STATUS_L_THERM (lim th)).setB b FEC.CAP_STATUS_L_DROOP (lim dr)
  let s := s.setB b FEC.CAP_STATUS_L_GOV (lim gv)
  let s := (s.set b FEC.MARGIN_NOW (s.deltaM n eff)).set b FEC.MARGIN_CAUSE_STRUCT (s.deltaM n st)
  let s := (s.set b FEC.MARGIN_CAUSE_THERM (s.deltaM n th)).set b FEC.MARGIN_CAUSE_DROOP (s.deltaM n dr)
  let s := s.set b FEC.MARGIN_CAUSE_GOV (s.deltaM n gv)
  let low := decide (eff < host)
  let was := (s.fecs n).limited
  let s := s.setFec n { s.fecs n with limited := low }
  let s := s.raiseIf (low && !was) (Kind.FEC.pg n) FEC.ev_CAP_LIMITED
  s.raiseIf (!low && was) (Kind.FEC.pg n) FEC.ev_CAP_RESTORED

/-- Both carriers' caps. -/
def State.allCaps (s : State) : State := (s.fecCaps 0).fecCaps 1

/-- The pool, the free spares and the failed engines shown in ENGINES and ENGINE_FAILED. -/
def State.showEngines (s : State) (n : Nat) : State :=
  let b := FEC.page n
  let f := s.fecs n
  let s := (s.set b FEC.ENGINES_POOL f.active.length).set b FEC.ENGINES_SPARES_FREE f.spares.length
  s.set b FEC.ENGINE_FAILED_UNITS (((List.range 26).filter (fun u => !(f.active.contains u || f.spares.contains u))).map (2 ^ ·)).sum

/-! ### A carrier going DOWN (R55, R59) -/

/-- Carrier states of Table 2-13. -/
def cDOWN : Nat := 0
def cWAIT : Nat := 1
def cBRINGING : Nat := 2
def cUP : Nat := 3
def cREFUSED : Nat := 4

/-- STATEn of CARRIER_STATUS. -/
def carrierStateFld (n : Nat) : Fld := if n = 0 then SYS.CARRIER_STATUS_STATE0 else SYS.CARRIER_STATUS_STATE1
def carrierCauseFld (n : Nat) : Fld := if n = 0 then SYS.CARRIER_STATUS_CAUSE0 else SYS.CARRIER_STATUS_CAUSE1
def carrierUpFld (n : Nat) : Fld := if n = 0 then SYS.CARRIER_CTRL_UP0 else SYS.CARRIER_CTRL_UP1

def State.carrier (s : State) (n : Nat) : Nat := s.get SYS.page (carrierStateFld n)

/-- The line PLL stops; a stop is no loss of lock (R643). -/
def State.stopPll (s : State) (n : Nat) : State :=
  let c := s.cals n
  let s := s.setCal n { c with pllRuns := false, pllLockedOnce := false }
  (s.setB (CNV.page n) CNV.PLL_STATUS_LOCKED false).setB (CNV.page n) CNV.D2D_STATUS_LINK_OK false

/-- A full calibration that CMD.FULL started runs. -/
def State.fullByCmd (s : State) (n : Nat) : Bool := (s.cals n).fullRunning && !(s.cals n).fullByUp

/-- A full calibration ends: inputs and outputs are back in their states, and one that CMD.FULL started gives back its leave
(R122, R123, R125). -/
def State.fullEnd (s : State) (n : Nat) : State :=
  if !(s.cals n).fullRunning then s
  else
    let cmd := s.fullByCmd n
    let s := s.setCal n { s.cals n with fullRunning := false, fullByUp := false }
    let s := (s.set (CNV.page n) CNV.PATH_STATE_ADC_IN 0).showOut n
    if cmd then s.endLeave 1 n else s

/-- A subcarrier of carrier n. -/
def State.subc (s : State) (n i : Nat) : Subc := Tab.get (fun _ => {}) (s.rxs n).subs i
def State.setSubc (s : State) (n i : Nat) (c : Subc) : State :=
  s.setRx n { s.rxs n with subs := Tab.put (fun _ => {}) (s.rxs n).subs i c }

/-- The code of an acquisition state (Table 5-5). -/
def Acq.code : Acq → Nat
  | .idle => 0 | .waitSignal => 1 | .cdSearch => 2 | .freqAcq => 3 | .eqBlind => 4
  | .gutterSearch => 5 | .train => 6 | .track => 7 | .burst => 8

/-- NLC stops: its queued leave is withdrawn and its standing cost released (R164, R165). -/
def State.nlcRelease (s : State) (n : Nat) : State :=
  let s := (s.withdrawLeave 8 n)
  { s with pwr := { s.pwr with nlcStanding := s.pwr.nlcStanding.put n 0 } }.syncPower

/-- The NLC stage has stopped; STATE becomes OFF when NLC_REQ is 0 (R164). -/
def State.nlcStopped (s : State) (n : Nat) : State :=
  let s := s.setRx n { s.rxs n with nlcOn := false, nlcStop := false }
  if s.flag (RXD.page n) RXD.CTRL_NLC_REQ then s else s.set (RXD.page n) RXD.NLC_STATUS_STATE 0

/-- The role of a carrier: 0 P2P, 1 HUB, 2 LEAF (`SUBn.ROLE.ROLE`). -/
def State.role (s : State) (n : Nat) : Nat := s.get (SUB.page n) SUB.ROLE_ROLE

/-- Number of subcarriers K of a carrier (R136, Table 6-7). -/
def State.kSub (s : State) (n : Nat) : Nat := 2 ^ s.get (TXD.page n) TXD.SC_CFG_K_LOG2

/-- BAUD, in units of 0.5 GBd. -/
def State.baud (s : State) (n : Nat) : Nat := s.get (FRM.page n) FRM.RATE_BAUD

/-- Number of taps N (R147). -/
def State.nTaps (s : State) (n : Nat) : Nat := 8 * s.get (RXD.page n) RXD.EQ_CFG_N_TAPS

/-- The composition of the amplitudes for E, from the window's table (R191). Of a word that does not hold 64 amplitudes, or fewer
sequences than 2^A_Q, the part has none: the four counts are then free values that the window does not show. -/
def State.composition (s : State) (n e : Nat) : List Nat :=
  let w := s.nat (TXDW.COMP n (e - 128))
  let l := [bitsOf w 0 7, bitsOf w 8 7, bitsOf w 16 7, bitsOf w 24 7]
  if l.sum = 64 ∧ 2 ^ (e - 128 - (e - 128) / 2) ≤ multinomial l then l else Config.composition e

/-- The receive settings of a subcarrier. -/
def State.rxSet (s : State) (n i : Nat) : RxSet :=
  let b := RXD.page n
  let e := s.get b RXD.MOD_ENTROPY
  { baud := s.baud n, k := s.kSub n, sub := i, format := s.get b RXD.MOD_FORMAT, entropy := e, comp := s.composition n e,
    nt := s.nTaps n, pilotK := s.get b RXD.CR_CFG_PILOT_K, bpsT := if s.flag b RXD.CR_CFG_BPS_T then 32 else 16,
    bpsStep := s.get b RXD.CR_CFG_BPS_STEP, bpsW := s.get b RXD.CR_CFG_BPS_W }

/-! ### LLRs to FECn (R138, R169, R251) -/

/-- The scale that brings data symbols to mean power P_s, over the period so far (Table 5-9). -/
def MeasAcc.gain (a : MeasAcc) (ps : Rat) : Rat := if a.nData = 0 then 1 else Config.sqrt (ps * a.nData / a.data)

/-- σ², the mean |z − a|² over gutter and pilot symbols of both polarisations, z scaled (Table 5-9). -/
def MeasAcc.noise (a : MeasAcc) (ps : Rat) : Rat :=
  let g := a.gain ps
  (g * g * a.known - 2 * g * a.cross + a.ref) / max 1 a.nKnown

/-- The LLRs of block b of one polarisation, from the data symbols received: none where a symbol is absent; of PCS-64QAM where any of
the block's is (R191, R251). -/
def softBlock (c : RxSet) (a : MeasAcc) (syms : List (Nat × Dual)) (y : Bool) (b : Nat) : List (Option Rat) :=
  let g := a.gain c.ps
  let sg := a.noise c.ps
  let z := (List.range 64).map (fun j => (syms.find? (fun x => x.1 = 64 * b + j)).map (fun x => cscale g (polOf x.2 y)))
  if c.format < 2 then
    z.flatMap (fun v => match v with
      | some v => (llrSymbol c.format sg v).map some
      | none => List.replicate (if c.format = 0 then 2 else 4) none)
  else if z.all (·.isSome) then (llrBlock c.format c.entropy c.comp sg (z.map (·.getD {}))).map some
  else List.replicate c.entropy none

/-- The data symbols of a folio, or of a burst, pass to FECn as LLRs, block by block, X as 2b and Y as 2b + 1; positions without a
symbol are absent (R169, R238, R251). -/
def State.deliverSoft (s : State) (n i : Nat) : State :=
  let c := s.subc n i
  let x := s.rxSet n i
  let blocks := ((c.syms.map (fun y => y.1 / 64)).eraseDups)
  let l := blocks.flatMap (fun b => [(2 * b, softBlock x c.acc c.syms false b), (2 * b + 1, softBlock x c.acc c.syms true b)])
  let f := s.fecs n
  (s.setFec n { f with soft := Tab.put (fun _ => []) f.soft i l }).setSubc n i { c with syms := [] }

/-- A subcarrier changes its acquisition state: ACQ_STATUS and the record's live STATE follow; leaving TRACK counts a
restart, raises ACQ_LOST, stamps the slot of the value in use, drops a filter move that was due (R146), passes on what of the folio in
progress was received, the rest being absent (R169), and a stop of NLC that waits for a gutter comes at once (R164); entering TRACK
raises ACQ_TRACK (R144). An exchange of outputs stays due in GUTTER_SEARCH, TRAIN and TRACK only (R152). -/
def State.acqTo (s : State) (n i : Nat) (st : Acq) : State :=
  let c := s.subc n i
  if c.st = st then s
  else
    let leaving := c.st = .track
    let s := if leaving then s.deliverSoft n i else s
    let c := s.subc n i
    let c' := { c with
      st := st, enteredAt := s.now, estAt := none, lostAt := if leaving then s.now else c.lostAt,
      folios := 0, gutterHits := 0, gutterMiss := 0, detRun := 0, corrRun := 0, win := {},
      costPrev := none,
      trackFrom := if st = .track then some s.now else none,
      moveDue := c.moveDue && !leaving, dRes := if leaving then 0 else c.dRes,
      swapDue := c.swapDue && (st = .gutterSearch || st = .train || st = .track),
      restarts := if leaving then min 65535 (c.restarts + 1) else c.restarts,
      slot0 := if leaving then { c.slot0 with leftAt := s.dtime } else c.slot0 }
    let s := s.setSubc n i c'
    let s := if leaving && i = 0 && (s.rxs n).nlcStop then s.nlcStopped n else s
    let s := if i = 0 then s.set (RXD.page n) RXD.ACQ_STATUS_STATE0 st.code else s
    let s := s.set (RXDW.MEAS n i) RXDW.MEAS_STATE st.code
    let s := s.set (RXD.page n) ⟨RXD.ACQ_STATUS, 16 + i, 1⟩ (b2n (st = .track))
    let s := if leaving then (s.count (RXD.page n + RXD.RESTARTS)).raise (Kind.RXD.pg n) RXD.ev_ACQ_LOST else s
    s.raiseIf (st = .track) (Kind.RXD.pg n) RXD.ev_ACQ_TRACK

/-- Every subcarrier goes to IDLE (Table 5-6, first row); DEFECTS of the far end are FRMn's own. -/
def State.rxIdle (s : State) (n : Nat) : State :=
  each (List.range 16) (fun i t => t.acqTo n i .idle) s

/-- Clearing the CD memory of every subcarrier (R144). -/
def State.cdClear (s : State) (n : Nat) : State :=
  let s := each (List.range 16) (fun i t => t.setSubc n i { t.subc n i with slot0 := {}, slot1 := {} }) s
  (s.setNat (RXD.page n + RXD.CD_MEM0) 0).setNat (RXD.page n + RXD.CD_MEM1) 0

/-- FRMn discards alignment and clears its defects with no event (R281). -/
def State.frmDiscard (s : State) (n : Nat) : State :=
  let f := s.frms n
  let s := s.setFrm n { f with
    streams := [], psVal := none, psOk := false, psRun := 0, capRun := 0, txReady := [], toGth := [], burstIn := [] }
  let b := FRM.page n
  let s := s.setNat (b + FRM.DEFECTS) 0
  let s := s.setNat (b + FRM.STREAM_DEFECTS) 0
  let s := s.setNat (b + FRM.RX_FES) 0
  let s := s.setNat (b + FRM.RX_RDI_POS) 0
  let s := s.setNat (b + FRM.PS_RX) 0
  let s := s.setNat (b + FRM.PS_RX_LAST) 0
  let s := s.set b FRM.ALIGN_STATUS_LOCKED 0
  (s.set b FRM.ALIGN_STATUS_HYPS 0).calHold n

/-- RXDn enters ACTIVE: the loss detector's grid starts, and before FRMn's first lock that of the measurement periods
(R170, R175). -/
def State.rxEnter (s : State) (n : Nat) : State :=
  let r := { s.rxs n with los := false, losRun := 0 }
  s.setRx n (if r.gridLocked then r else { r with gridAt := s.now, gridQuire := 0, measFrom := s.now, measQuire := 0 })

/-- A leaf whose carrier goes DOWN is IDLE and gives up its number (Table 7-6), and burst reception ends. -/
def State.leafIdle (s : State) (n : Nat) : State :=
  let s := s.setSub n { s.subst n with backoff := 0, leafDue := [], bursts := [], rx := [], grants := [] }
  let b := SUB.page n
  let s := (s.set b SUB.LEAF_STATUS_STATE 0).set b SUB.LEAF_OFFSET_DELTA 0
  let s := s.set b SUB.LEAF_STATUS_NUM_VALID 0
  s.set b SUB.LEAF_STATUS_DED_VALID 0

/-- Carrier n goes DOWN: the DACs mute, the laser and drivers are disabled, queued leave is withdrawn and a running
bring-up leave ends, the standing cost is released, the line PLL stops, the receiver and FRMn fall back, and the status
reads DOWN (R55, R59, R144, R168, R281, R519, R643, Table 7-6). -/
def State.carrierDown (s : State) (n : Nat) : State :=
  if s.carrier n = cDOWN then s
  else
    let s := s.outCause n (fun t => { t with cDown := true, waitDone := false, calDone := false })
    let s := (s.withdrawLeave 0 n).endLeave 0 n
    let s := { s with pwr := { s.pwr with carrierStanding := s.pwr.carrierStanding.put n 0 } }.syncPower
    let s := if s.fullByCmd n then s else (s.fullEnd n).stopPll n
    let s := s.setCal n { s.cals n with upLocked := false }
    let s := (s.rxIdle n).cdClear n
    let s := (s.frmDiscard n).leafIdle n
    let s := s.setTx n { s.txs n with due := [], coded := [], tail := [], dacTail := [[], [], [], []] }
    let s := s.setFec n { s.fecs n with txIn := [] }
    s.set SYS.page (carrierStateFld n) cDOWN

/-! ### Moving a block between states (Table 3-4) -/

/-- The ladder causes of the output follow the steps at which TXDn and CNVn stand (Tables 6-5, 19-2). -/
def State.txLadder (s : State) (n : Nat) : State :=
  let m := max (s.step_ (Kind.TXD.pg n)) (s.step_ (Kind.CNV.pg n))
  let t := s.txs n
  if t.cStep1 = decide (m = 1) ∧ t.cFault = decide (2 ≤ m) then s
  else s.outCause n (fun t => { t with cStep1 := decide (m = 1), cFault := decide (2 ≤ m) })

/-- The streams a carrier receives: one in P2P, K in LEAF and HUB (R258, 9.1). -/
def State.streamCount (s : State) (n : Nat) : Nat :=
  if s.get (SUB.page n) SUB.ROLE_ROLE = 0 then 1 else s.kSub n

/-- The received streams of a carrier: a hub receives only its DEDICATED upstream subcarriers as streams (R258, R286). -/
def State.rxStreams (s : State) (n : Nat) : List Nat :=
  if s.get (SUB.page n) SUB.ROLE_ROLE = 1 then
    (List.range (s.kSub n)).filter (fun i => s.get (SUB.page n) (SUB.UP_TYPE_TYPE i) = 1)
  else List.range (s.streamCount n)

/-- A stream's alignment and defects. -/
def State.stream (s : State) (n i : Nat) : Stream := Tab.get (fun _ => {}) (s.frms n).streams i
def State.setStream (s : State) (n i : Nat) (x : Stream) : State :=
  s.setFrm n { s.frms n with streams := Tab.put (fun _ => {}) (s.frms n).streams i x }

/-- A receive defect of the primary stream that Table 9-4 marks for RDI. -/
def State.rdiCause (s : State) (n : Nat) : Bool :=
  let b := FRM.page n
  s.flag b FRM.DEFECTS_LOA || s.flag b FRM.DEFECTS_UNC || s.flag b FRM.DEFECTS_LADDER
    || (s.flag b FRM.DEFECTS_TIM && s.flag b FRM.CTRL_TRACE_ACT)

/-- DEFECTS, STREAM_DEFECTS and ALIGN_STATUS follow the streams (Tables 9-4, 9-7). -/
def State.showFrm (s : State) (n : Nat) : State :=
  let b := FRM.page n
  let bits := fun (f : Stream → Bool) => ((List.range 16).map (fun i => b2n (f (s.stream n i)) * 2 ^ i)).sum
  let x := s.stream n 0
  let loa := fun (y : Stream) => y.inUse && !y.locked
  let s := (s.set b FRM.STREAM_DEFECTS_LOA_S (bits loa)).set b FRM.STREAM_DEFECTS_UNC_S (bits (·.unc))
  let s := (s.set b FRM.ALIGN_STATUS_LOCKED (bits (·.locked))).set b FRM.ALIGN_STATUS_HYPS x.hyps.length
  let s := (s.setB b FRM.DEFECTS_LOA (loa x)).setB b FRM.DEFECTS_UNC x.unc
  let s := ((s.setB b FRM.DEFECTS_SD x.sd).setB b FRM.DEFECTS_RDI_RX x.rdiRx).setB b FRM.RX_FES_RDI x.rdiRx
  (s.setB b FRM.DEFECTS_CAP (bitsOf (s.nat (b + FRM.CAP_STATUS)) 16 8 != 0)).calHold n

/-- FRMn entering ACTIVE from CONFIG puts every stream in SEARCH; a HUB or LEAF carrier runs version 2 (R281, R295). -/
def State.frmSearch (s : State) (n : Nat) : State :=
  let p2p := s.get (SUB.page n) SUB.ROLE_ROLE = 0
  let v := if p2p then 1 else 2
  let s := s.setFrm n { s.frms n with streams := (s.rxStreams n).map (fun i => (i, { inUse := true })),
                                      verUsed := v, verAgreed := v }
  let s := if p2p then s else s.set (FRM.page n) FRM.CAP_STATUS_VER_AGREED 2
  s.showFrm n

/-- Type of an upstream subcarrier: 0 OFF, 1 DEDICATED, 2 SHARED (R214). -/
def State.upType (s : State) (n i : Nat) : Nat := s.get (SUB.page n) (SUB.UP_TYPE_TYPE i)

/-- The subcarriers that carrier n receives in use: all K, but in HUB role those whose upstream type is OFF (R167, R214). -/
def State.usedSubs (s : State) (n : Nat) : List Nat :=
  (List.range (s.kSub n)).filter (fun i => s.get (SUB.page n) SUB.ROLE_ROLE ≠ 1 || s.upType n i ≠ 0)

/-- The subcarriers in use leave IDLE for WAIT_SIGNAL (Table 5-6, second row); a SHARED upstream subcarrier of a hub
is run by its burst receiver (R173). -/
def State.rxStart (s : State) (n : Nat) : State :=
  each (s.usedSubs n) (fun i t =>
    if t.get (SUB.page n) SUB.ROLE_ROLE = 1 ∧ t.upType n i = 2 then t.acqTo n i .burst
    else if (t.subc n i).st = .idle then t.acqTo n i .waitSignal else t) s

/-- Carrier n is BRINGING_UP or UP. -/
def State.carrierOn (s : State) (n : Nat) : Bool := s.carrier n = cBRINGING || s.carrier n = cUP

/-! ### The line PLL and the calibration of a bring-up (R122, R168, R207, R643) -/

/-- Bring-up completes: UP, the leave ends, and the standing cost joins, lower for a lower HOST value (R53, R171, R519). -/
def State.carrierComplete (s : State) (n : Nat) : State :=
  let low := 800 * (24 - s.get (FEC.page n) FEC.CAP_STATUS_HOST_EFF)
  let s := (s.set SYS.page (carrierStateFld n) cUP).endLeave 0 n
  { s with pwr := { s.pwr with carrierStanding := s.pwr.carrierStanding.put n (48000 - low) } }.syncPower

/-- FRMn declares alignment of stream 0: a bring-up completes (R171). -/
def State.alignedUp (s : State) (n : Nat) : State := if s.carrier n = cBRINGING then s.carrierComplete n else s

/-- The line PLL starts or stops with its two cases: the carrier BRINGING_UP or UP, a full calibration of CMD.FULL; never while CNVn
is OFF. -/
def State.pllFollow (s : State) (n : Nat) : State :=
  let on := (s.carrierOn n || s.fullByCmd n) && s.blk (Kind.CNV.pg n) != bOFF
  if on then s.setCal n { s.cals n with pllRuns := true } else if (s.cals n).pllRuns then s.stopPll n else s

/-- The unmute point of Table 6-4 is reached when the wait has ended, or with READY_EN = 1 LASER_READY is active, and calibration is
done: the ramp starts unless a cause is in force (R207, R208). -/
def State.unmutePoint (s : State) (n : Nat) : State :=
  let t := s.txs n
  let ready := if s.flag (TXD.page n) TXD.OCP_CFG_READY_EN then t.laserReady else t.waitDone
  if !(t.laserEn && ready && t.calDone) || t.armed then s
  else
    let t := { t with armed := true, reached := true }
    let s := s.setTx n (if t.muted then t else { t with ramp := .rising, gain := 0, rampAt := s.now })
    let s := s.raiseIf (!t.muted) (Kind.TXD.pg n) TXD.ev_OUTPUT_LIVE
    s.showOut n

/-- Calibration of a bring-up is done: the output may unmute, and acquisition begins on an ACTIVE receiver (R168,
R207). -/
def State.bringUpCalDone (s : State) (n : Nat) : State :=
  if !s.carrierOn n then s
  else
    let s := s.setTx n { s.txs n with calDone := true }
    let s := s.unmutePoint n
    if s.active (Kind.RXD.pg n) then s.rxStart n else s

/-- A full calibration is cut short as CALn leaves ACTIVE: the codes hold where they are, and a bring-up goes on (R120, R124). -/
def State.fullCut (s : State) (n : Nat) : State :=
  if !(s.cals n).fullRunning then s else ((s.fullEnd n).pllFollow n).bringUpCalDone n

end Sys2Proof.Machine
end

