-- ==== Sys2Proof/Machine/LinkCore.lean ====
section
/-!
DEFINITION. The states of fabric links, lanes and neighbours, and what ends a link (14.1, 14.2, R452, R454).
-/
namespace Sys2Proof.Machine

def State.link (s : State) (k : Nat) : FabLink := Tab.get (fun _ => {}) s.fbl k

def State.setLink (s : State) (k : Nat) (x : FabLink) : State := { s with fbl := Tab.put (fun _ => {}) s.fbl k x }

def FabLink.lane (x : FabLink) (l : Nat) : FabLane :=
  match l with
  | 0 => x.l0 | 1 => x.l1 | 2 => x.l2 | _ => x.l3

def FabLink.setLane (x : FabLink) (l : Nat) (y : FabLane) : FabLink :=
  match l with
  | 0 => { x with l0 := y } | 1 => { x with l1 := y } | 2 => { x with l2 := y } | _ => { x with l3 := y }

def State.lane (s : State) (k l : Nat) : FabLane := (s.link k).lane l

def State.setLane (s : State) (k l : Nat) (y : FabLane) : State := s.setLink k ((s.link k).setLane l y)

def State.neigh (s : State) (m : Nat) : Neigh := Tab.get (fun _ => {}) s.fbr.neigh m

def State.setNeigh (s : State) (m : Nat) (x : Neigh) : State :=
  { s with fbr := { s.fbr with neigh := Tab.put (fun _ => {}) s.fbr.neigh m x } }

/-- Link states of Table 14-3. -/
def kDISABLED : Nat := 0

def kTRAIN : Nat := 1

def kBACKOFF : Nat := 2

def kNEGOTIATE : Nat := 3

def kUP : Nat := 4

def kDEGRADED : Nat := 5

def State.linkSt (s : State) (k : Nat) : Nat := s.get (FBL.page k) FBL.STATUS_STATE

/-- UP or DEGRADED. -/
def State.linkUp (s : State) (k : Nat) : Bool := decide (kUP ≤ s.linkSt k)

def State.fabRole (s : State) : Nat := s.get FBR.page FBR.CTRL_ROLE

def State.myAddr (s : State) : Nat := s.get FBR.page FBR.ADDR_LOCAL

def State.myIdent (s : State) : Nat := s.nat64 (SEC.page + SEC.IDENTITY)

def State.inConflict (s : State) : Bool := s.get FBR.page FBR.STATE_DOMAIN = 2

/-- A lane received in service, and one that carries cells both ways. -/
def State.rxOk (s : State) (k l : Nat) : Bool := s.flag (FBL.page k) (FBL.LANE_RX_OK l)

def State.peerOk (s : State) (k l : Nat) : Bool := bitOf (s.get (FBL.page k) FBL.STATUS_PEER_RX_OK) l

def State.lanesIn (s : State) (k : Nat) : List Nat := (List.range 4).filter (fun l => s.rxOk k l && s.peerOk k l)

/-- STATUS.ACTIVE shows the lanes that carry cells. -/
def State.showLanes (s : State) (k : Nat) : State :=
  s.set (FBL.page k) FBL.STATUS_ACTIVE (if s.linkUp k then ((s.lanesIn k).map (2 ^ ·)).sum else 0)

/-- The conditions of R442 hold, and the block's lanes run: not OFF, not in soft reset, below ladder step 2. -/
def State.mayTrain (s : State) (k : Nat) : Bool :=
  s.flag (FBL.page k) FBL.CFG_EN && s.flag SYS.page SYS.FABRIC_CTRL_OPEN && s.fabRole != 0
    && s.blk (Kind.FBL.pg k) != bOFF && !(s.page (Kind.FBL.pg k)).softReset && decide (s.step_ (Kind.FBL.pg k) < 2) && !s.safe

/-- The neighbour of a member is gone: it leaves the route computation (R452). -/
def State.dropNeigh (s : State) (m : Nat) : State :=
  let x := s.neigh m
  let s := if x.alive then { s with fbr := { s.fbr with computeDue := true } } else s
  let s := s.setNeigh m { x with alive := false, foreign := false }
  if m < 8 then s.setB (FBL.page m) FBL.STATUS_PEER_VALID false else s

/-- A link enters a state: leaving UP or DEGRADED for TRAIN or DISABLED raises LINK_DOWN, and into TRAIN counts RETRAINS
(R443). -/
def State.linkTo (s : State) (k st : Nat) : State :=
  let b := FBL.page k
  let was := s.linkUp k
  let s := s.set b FBL.STATUS_STATE st
  let s := if st < kNEGOTIATE then
      let fresh : FabLane := {}
      let x := s.link k
      let s := s.setLink k { x with sigAt := none, l0 := fresh, l1 := fresh, l2 := fresh, l3 := fresh }
      let s := s.set b FBL.STATUS_PEER_RX_OK 0
      each (List.range 4) (fun l t => (t.setB b (FBL.LANE_RX_OK l) false).setB b (FBL.LANE_CW_LOCK l) false) s
    else s
  let s := s.setLink k { s.link k with since := s.now, hellos := 0 }
  let s := if was && decide (st < kNEGOTIATE) then
      let s := s.raise (Kind.FBL.pg k) FBL.ev_LINK_DOWN
      let s := if st = kTRAIN then s.count (b + FBL.RETRAINS) else s
      s.dropNeigh k
    else s
  s.showLanes k

/-- A condition of R442 has ended: the link is DISABLED. -/
def State.linkCheck (s : State) (k : Nat) : State :=
  if s.linkSt k ≠ kDISABLED ∧ !s.mayTrain k then s.linkTo k kDISABLED else s

/-- Every link's conditions. -/
def State.linkChecks (s : State) : State := each (List.range 8) (fun k t => t.linkCheck k) s

/-- STATE.DOMAIN follows ROLE and the block, CONFLICT kept until LOCAL is written (R454). -/
def State.showFbr (s : State) : State :=
  if s.fabRole = 0 ∨ s.blk Kind.FBR.pages.1 ≠ bACTIVE then (if s.inConflict then s else s.set FBR.page FBR.STATE_DOMAIN 0)
  else if s.inConflict then s else s.set FBR.page FBR.STATE_DOMAIN 1

end Sys2Proof.Machine
end

