-- ==== Sys2Proof/Machine/Ports.lean ====
section
/-!
DEFINITION. The gatherings' entries and the client ports as other blocks see them (10.1, 12.1, 12.2), and GDDR7 channels
that fail (R511, R512).
-/
namespace Sys2Proof.Machine

def State.gthEn (s : State) (g : Nat) : Bool := s.flag (GTHW.CFG g) GTHW.CFG_EN

/-- The slots of a gathering on carrier n. -/
def State.slotsOn (s : State) (g n : Nat) : List Nat :=
  (List.range 96).filter (fun i => bitOf (s.nat (GTHW.CFG g + 8 + 12 * n + 4 * (i / 32))) (i % 32))

/-- A gathering has slots on a carrier. -/
def State.onCarrier (s : State) (g n : Nat) : Bool := !(s.slotsOn g n).isEmpty

/-- MODE is ONE_PLUS_ONE; a gathering collates when it is bonded or 1+1 (Table 10-1). -/
def State.onePlusOne (s : State) (g : Nat) : Bool := s.flag (GTHW.CFG g) GTHW.CFG_MODE

def State.collates (s : State) (g : Nat) : Bool := s.onCarrier g 0 && s.onCarrier g 1

def State.transparent (s : State) (g : Nat) : Bool := s.flag (GTHW.CFG g) GTHW.CFG_TYPE

/-- The enabled gatherings. -/
def State.gatherings (s : State) : List Nat := (List.range 64).filter s.gthEn

/-- Bytes of a unit (R324). -/
def State.unitBytes (s : State) (g : Nat) : Nat :=
  6250 * (if s.onePlusOne g then (s.slotsOn g 0).length else (s.slotsOn g 0).length + (s.slotsOn g 1).length)

def State.quadMode (s : State) (q : Nat) : Nat := s.get (CLN.page q) CLN.QUAD_CFG_MODE

/-- The lanes of port p; none where p is no port. -/
def State.portLanes (s : State) (p : Nat) : List Nat :=
  let m := s.quadMode (p / 4)
  let n := if m = 1 ∨ m = 5 ∨ m = 6 then 1 else if m = 2 then 2 else if m = 3 ∨ m = 7 then 4
    else if m = 4 ∧ p / 4 % 2 = 0 then 8 else 0
  if n = 0 ∨ p % (min n 8) ≠ 0 then [] else (List.range n).map (p + ·)

def State.isPort (s : State) (p : Nat) : Bool := !(s.portLanes p).isEmpty

/-- The port of a lane. -/
def State.lanePort (s : State) (l : Nat) : Option Nat := (List.range 32).find? (fun p => (s.portLanes p).contains l)

/-- Least slots of a transparent client of port p (Table 12-4). -/
def State.clientSlots (s : State) (p : Nat) : Nat := [0, 9, 17, 33, 65, 5, 3, 17].getD (s.quadMode (p / 4)) 0

def State.portEn (s : State) (p : Nat) : Bool := s.flag MAC.page (MAC.PORT_CFG_EN p) && s.isPort p

def State.portTransparent (s : State) (p : Nat) : Bool := s.flag MAC.page (MAC.PORT_CFG_PATH p)

def State.port (s : State) (p : Nat) : PortState := Tab.get (fun _ => {}) s.ports p

def State.setPort (s : State) (p : Nat) (x : PortState) : State := { s with ports := Tab.put (fun _ => {}) s.ports p x }

/-- Counter i of a port (R404), and adding to it. -/
def State.macCount (s : State) (p i n : Nat) : State := s.count64 (MACW.CNT p + 8 * i) n

/-- The transparent gathering that names a port. -/
def State.portGath (s : State) (p : Nat) : Option Nat :=
  s.gatherings.find? (fun g => s.transparent g && s.get (GTHW.CFG g) GTHW.CFG_CLIENT = p)

/-- Signal and clock on every lane of a port. -/
def State.lanesGood (s : State) (p : Nat) : Bool :=
  (s.portLanes p).all (fun l => s.flag (CLN.page (l / 4)) (CLN.RX_STATUS_SIG_DET (l % 4))
    && s.flag (CLN.page (l / 4)) (CLN.RX_STATUS_CDR_LOCK (l % 4)))

/-- The quads of a port are ACTIVE. -/
def State.quadsActive (s : State) (p : Nat) : Bool := (s.portLanes p).all (fun l => s.active (Kind.CLN.pg (l / 4)))

/-- MAP_SHORT, CLIENT_FAIL and TX_LF of a port follow its state (R388, R390 to R392). -/
def State.refreshPort (s : State) (p : Nat) : State :=
  let b := MAC.page
  let pcs := s.flag b (MAC.PORT_STATUS_PCS_ALIGNED p)
  let x := s.port p
  let g := if s.portEn p && s.portTransparent p then s.portGath p else none
  let short := match g with
    | some g => decide (s.unitBytes g / 6250 < s.clientSlots p)
    | none => false
  let fail := g.isSome && (!s.lanesGood p || !pcs || s.flag b (MAC.PORT_STATUS_HI_SER p) || short)
  let carries := s.active Kind.MAC.pages.1 && s.quadsActive p
    && (if s.portTransparent p then g.isSome && !short else s.active Kind.CLS.pages.1)
  let lf := s.isPort p && (!s.ready || !s.portEn p || !pcs || !carries || (g.isSome && (x.refill || x.failedUnit)))
  let s := s.raiseIf (short && !s.flag b (MAC.PORT_STATUS_MAP_SHORT p)) Kind.MAC.pages.1 (MAC.ev_MAP_SHORT p)
  let s := s.raiseIf (fail && !s.flag b (MAC.PORT_STATUS_CLIENT_FAIL p)) Kind.MAC.pages.1 (MAC.ev_CLIENT_FAIL p)
  let s := s.setB b (MAC.PORT_STATUS_MAP_SHORT p) short
  let s := s.setB b (MAC.PORT_STATUS_CLIENT_FAIL p) fail
  s.setB b (MAC.PORT_STATUS_TX_LF p) lf

/-- Every port's status. -/
def State.refreshPorts (s : State) : State := each (List.range 32) (fun p t => t.refreshPort p) s

/-- A channel is FAILED, or its block serves no access, which is treated the same (R512, Table 3-13). -/
def State.chFailed (s : State) (c : Nat) : Bool := s.flag (MEM.page c) MEM.STATUS_FAILED

/-- The channel map in force: all sixteen channels until ECC or a failed training fixes another (R491, R513). -/
def State.channelMap (s : State) : List Nat := if s.ecc.map.isEmpty then List.range 16 else s.ecc.map

/-- GDDR7 serves accesses: ECC is ACTIVE or in FAULT and not in soft reset (R513). -/
def State.eccServes (s : State) : Bool :=
  (s.blk Kind.ECC.pages.1 = bACTIVE || s.blk Kind.ECC.pages.1 = bFAULT)
    && !(s.page Kind.ECC.pages.1).softReset

/-- The channel of a page and its number among all devices' pages. -/
def State.physPage (s : State) (p : Nat) : Nat × Nat :=
  let n := max 1 s.channelMap.length
  let c := s.channelMap.getD (p % n) 0
  (c, c * 2 ^ 21 + p / n)

def State.chDown (s : State) (c : Nat) : Bool :=
  s.chFailed c || !(s.blk (Kind.MEM.pg c) = bACTIVE || s.blk (Kind.MEM.pg c) = bFAULT) || (s.page (Kind.MEM.pg c)).softReset

/-- A channel becomes FAILED: CH_FAIL, and SECOND_FAIL when it is the second. -/
def State.failChannel (s : State) (c : Nat) : State :=
  if s.chFailed c then s
  else
    let second := decide (((List.range 16).filter (fun d => s.chFailed d)).length = 1)
    let s := (s.setB (MEM.page c) MEM.STATUS_FAILED true).raise (Kind.MEM.pg c) MEM.ev_CH_FAIL
    s.raiseIf second Kind.ECC.pages.1 ECC.ev_SECOND_FAIL

def State.gth (s : State) (g : Nat) : Gath := Tab.get (fun _ => {}) s.gath g

def State.setGth (s : State) (g : Nat) (x : Gath) : State := { s with gath := Tab.put (fun _ => {}) s.gath g x }

def State.pgrp (s : State) (q : Nat) : PGroup := Tab.get (fun _ => {}) s.pg q

def State.setPgrp (s : State) (q : Nat) (x : PGroup) : State := { s with pg := Tab.put (fun _ => {}) s.pg q x }

/-- A part of a gathering. -/
def Gath.part (x : Gath) (p : Nat) : GPart := if p = 0 then x.p0 else x.p1

def Gath.setPart (x : Gath) (p : Nat) (y : GPart) : Gath := if p = 0 then { x with p0 := y } else { x with p1 := y }

/-- Slots max(S_0, S_1) that a collating gathering reserves (R333), and pages of its area (R332). -/
def State.collSlots (s : State) (g : Nat) : Nat := max (s.slotsOn g 0).length (s.slotsOn g 1).length

/-- ENABLED and COLL_RESERVED follow the entries. -/
def State.showGth (s : State) : State :=
  let en := (s.gatherings.map (2 ^ ·)).sum
  let s := s.setNat64 (GTH.page + GTH.ENABLED) en
  s.set GTH.page GTH.COLL_RESERVED_SLOTS ((s.gatherings.filter s.collates).map s.collSlots).sum

/-- The state of a part as a code of the status window. -/
def PartSt.code : PartSt → Nat
  | .off => 0 | .acquire => 1 | .locked => 2 | .in_ => 3 | .early => 4 | .late => 5

/-- A part's lead is above 4,000 ns, so GDDR7 holds it (R332). -/
def GPart.inGddr (p : GPart) : Bool := p.st = .in_ && decide (4000 < p.lead)

/-- The status entry follows the gathering's parts and selection. -/
def State.showPart (s : State) (g : Nat) : State :=
  let a := GTHW.STAT g
  let x := s.gth g
  let s := (s.set a GTHW.STAT_PART0 x.p0.st.code).set a GTHW.STAT_PART1 x.p1.st.code
  let s := (s.setB a GTHW.STAT_SEL x.selB).set a GTHW.STAT_SEL_CMD x.cmd
  let s := s.set a GTHW.STAT_IN_GDDR7 (b2n x.p0.inGddr + 2 * b2n x.p1.inGddr)
  s.setI a GTHW.STAT_LREF (x.part x.refPart).lead

/-- The byte received for a group: PSq of the carrier that holds P (R340). -/
def State.farByte (s : State) (q : Nat) : Nat :=
  let p := s.get GTH.page (GTH.PG_CFG_P q)
  bitsOf (s.nat (FRM.page (if s.onCarrier p 1 then 1 else 0) + FRM.PS_RX)) (24 - 8 * q) 8

/-- The local request of a group (Table 10-5, R341). -/
def State.localReq (s : State) (q : Nat) : Nat :=
  let b := GTH.page
  let x := s.pgrp q
  max x.host (max (if s.flag b (GTH.PG_STATUS_SF_P q) then 0xE else 0)
    (max (if s.flag b (GTH.PG_STATUS_SF_W q) then 0xB else 0)
      (max (if s.flag b (GTH.PG_STATUS_SD_W q) then 9 else 0) (if x.wtrEnd.isSome then 5 else if x.dnr then 1 else 0))))

/-- Requests under which the sender asks for normal traffic on protection. -/
def reqSwitches (r : Nat) : Bool := r ∈ [0xD, 0xB, 9, 7, 5, 1]

/-- What a group sends follows its local and far requests (R341): REQ, SIG and BR, the REV bit, and the PS value
supplied to FRMn. -/
def State.pgEval (s : State) (q : Nat) : State :=
  let b := GTH.page
  let en := s.flag b (GTH.PG_CFG_EN q)
  let far := s.farByte q
  let farReq := far / 16
  let loc := s.localReq q
  let mine := decide (farReq ≤ loc)
  let actv := if mine then loc else farReq
  let sig := en && actv != 0xF && actv != 0xE && (reqSwitches actv || (!mine && bitOf far 3))
  let rev := s.flag b (GTH.PG_CFG_REVERTIVE q)
  let byte := if en then (if mine then loc else 0) * 16 + b2n sig * 8 + b2n sig * 4 + b2n rev * 2 else 0
  let s := ((s.set b (GTH.PG_STATUS_LOCAL_REQ q) loc).set b (GTH.PG_STATUS_FAR_REQ q) farReq).setB b (GTH.PG_STATUS_SIG q) sig
  let s := (s.setB b (GTH.PG_STATUS_BR q) sig).setB b (GTH.PG_STATUS_FAR_BR q) (bitOf far 2)
  let s := s.setNat (b + GTH.PS_TX) (withBits (s.nat (b + GTH.PS_TX)) (24 - 8 * q) 8 byte)
  let x := s.pgrp q
  let wait := sig && !bitOf far 2
  s.setPgrp q { x with fopFrom := if wait then (if x.fopFrom.isSome then x.fopFrom else some s.now) else none }

/-- The slots of a stream of carrier n (R274, R275). -/
def State.streamSlots (s : State) (n : Nat) : Nat :=
  if s.role n = 0 then 4 * s.get (FRM.page n) FRM.RATE_SERVICE else max 1 (4 * s.get (FRM.page n) FRM.RATE_SERVICE / s.kSub n)

/-- The stream of carrier n that carries slot i (R273, R275). -/
def State.slotStream (s : State) (n i : Nat) : Nat := if s.role n = 0 then 0 else i / s.streamSlots n

/-- Headband position of a gathering on a carrier. -/
def State.gthPos (s : State) (g n : Nat) : Option Nat :=
  if n = 0 then (if s.flag (GTHW.CFG g) GTHW.CFG_POS0_VALID then some (s.get (GTHW.CFG g) GTHW.CFG_POS0) else none)
  else (if s.flag (GTHW.CFG g) GTHW.CFG_POS1_VALID then some (s.get (GTHW.CFG g) GTHW.CFG_POS1) else none)

/-- What a gathering has waiting for the line or from it goes, and its positions carry zeros (R278, R323). -/
def State.lineClear (s : State) (g : Nat) : State :=
  each [0, 1] (fun n t =>
    let f := t.frms n
    let h := (t.gthPos g n).getD 32
    t.setFrm n { f with
      txReady := Tab.put (fun _ => []) f.txReady g [], burstIn := Tab.put (fun _ => []) f.burstIn g [],
      toGth := (List.range 16).foldl (fun u i => Tab.put (fun _ => []) u (16 * g + i) []) f.toGth,
      txMarkers := Tab.put (fun _ => 0) f.txMarkers h 0, txPhases := Tab.put (fun _ => false) f.txPhases h false,
      txTags := Tab.put (fun _ => 0) f.txTags h 0 }) s

/-- FRMn receives folios of a stream: the carrier is not DOWN, the block is past CONFIG and out of soft reset (R281). -/
def State.frmReceives (s : State) (n i : Nat) : Bool :=
  s.carrierOn n && (s.blk (Kind.FRM.pg n) = bACTIVE || s.blk (Kind.FRM.pg n) = bDRAIN || s.blk (Kind.FRM.pg n) = bFAULT)
    && !(s.page (Kind.FRM.pg n)).softReset && (s.stream n i).inUse

/-- FRMn sends folios (R277). -/
def State.frmSends (s : State) (n : Nat) : Bool :=
  s.carrierOn n && (s.blk (Kind.FRM.pg n) = bACTIVE || s.blk (Kind.FRM.pg n) = bDRAIN || s.blk (Kind.FRM.pg n) = bFAULT)

/-- The carrier in LEAF role whose upstream payload a gathering supplies (R321). -/
def State.leafOf (s : State) (g : Nat) : Option Nat :=
  if s.flag (GTHW.CFG g) GTHW.CFG_LEAF_VALID then [0, 1].find? (fun n => s.role n = 2 && s.onCarrier g n) else none

/-- A leaf sends on a dedicated subcarrier. -/
def State.leafDed (s : State) (n : Nat) : Bool := s.flag (SUB.page n) SUB.LEAF_STATUS_DED_VALID

/-- The slots in which a gathering's units leave on carrier n: in LEAF role those of the dedicated subcarrier (R275, R321). -/
def State.txSlots (s : State) (g n : Nat) : List Nat :=
  if s.role n ≠ 2 then s.slotsOn g n
  else if s.leafOf g = some n && s.leafDed n then
    (s.slotsOn g n).filter (fun k => s.slotStream n k = s.get (SUB.page n) SUB.LEAF_STATUS_DED_SUBC)
  else []

/-- The stream of a single gathering's first slot is LOCKED. -/
def State.singleLocked (s : State) (g : Nat) : Bool :=
  [0, 1].any (fun n => match s.slotsOn g n with
    | i :: _ => (Tab.get (fun _ => {}) (s.frms n).streams (s.slotStream n i)).locked
    | [] => false)

/-- The stream of carrier n that carries a gathering's first slot there is LOCKED. -/
def State.partLocked (s : State) (g n : Nat) : Bool :=
  match s.slotsOn g n with
  | i :: _ => (s.stream n (s.slotStream n i)).locked
  | [] => false

/-- The gatherings follow the alignment of carrier n: a collating part whose stream is not LOCKED is in ACQUIRE, a single
gathering's part reads IN or ACQUIRE with its stream (Table 10-3, R335), and the groups whose P lies there follow the
accepted PS value (R340). -/
def State.gthFollow (s : State) (n : Nat) : State :=
  let s := each (s.gatherings.filter (fun g => s.onCarrier g n)) (fun g t =>
    let x := t.gth g
    let up := t.partLocked g n
    if t.collates g then (if up then t else (t.setGth g (x.setPart n { st := .acquire })).showPart g)
    else (t.setGth g { x with p0 := { x.p0 with st := if up then .in_ else .acquire } }).showPart g) s
  each (List.range 4) (fun q t =>
    if t.flag GTH.page (GTH.PG_CFG_EN q) && t.onCarrier (t.get GTH.page (GTH.PG_CFG_P q)) n then t.pgEval q else t) s

/-- Carrier n goes DOWN, with what the gatherings make of it. -/
def State.carrierOff (s : State) (n : Nat) : State := (s.carrierDown n).gthFollow n

end Sys2Proof.Machine
end

