-- ==== Sys2Proof/Machine/TimCore.lean ====
section
/-!
DEFINITION. The candidate slots and DPLLs, quality levels, holdover, and how TIM leaves ACTIVE (R464, R473, R477, R478,
R485, R487, Table 15-3). Offsets are in units of 0.01 ppb.
-/
namespace Sys2Proof.Machine

def State.slot (s : State) (i : Nat) : SlotState := Tab.get (fun _ => {}) s.tim.slots i

def State.setSlot (s : State) (i : Nat) (x : SlotState) : State :=
  { s with tim := { s.tim with slots := Tab.put (fun _ => {}) s.tim.slots i x } }

def State.dpll (s : State) (d : Nat) : Dpll := s.tim.dpll.at d

def State.setDpll (s : State) (d : Nat) (x : Dpll) : State := { s with tim := { s.tim with dpll := s.tim.dpll.put d x } }

/-- DSTATUS.STATE (Table 15-5). -/
def dpFREERUN : Nat := 0

def dpLOCKING : Nat := 1

def dpLOCKED : Nat := 2

def dpHOLDOVER : Nat := 3

def timPg : Nat := Kind.TIM.pages.1

def State.dpState (s : State) (d : Nat) : Nat := s.get TIM.page (TIM.DSTATUS_STATE d)

def State.slotIs (s : State) (f : Nat → Fld) (i : Nat) : Bool := s.flag TIM.page (f i)

/-- The selected slot of a DPLL. -/
def State.selected (s : State) (d : Nat) : Option Nat :=
  if s.flag TIM.page (TIM.DSTATUS_SEL_VALID d) then some (s.get TIM.page (TIM.DSTATUS_SELECTED d)) else none

/-- The option of DPLL0 (Table 15-5). -/
def State.timOption (s : State) : Nat := s.get TIM.page (TIM.DCTRL_OPTION 0)

/-- A QL is DNU or DUS: the SSM code 0xF of G.781 (PRESUMED). -/
def qlDead (ql : Nat) : Bool := ql % 16 = 15

/-- The place of a QL in the order of G.781 (PRESUMED; smaller is better); codes of no level come after the levels. -/
def qlRank (opt ql : Nat) : Nat :=
  if ql / 16 != 0 then Config.enhancedRank opt ql
  else
    let order := if opt = 1 then [1, 0, 7, 4, 13, 10, 12, 14] else [2, 4, 8, 11]
    4 * order.findIdx (· = ql)

/-- QL_OUT of a DPLL (R487): QL-SEC 0xB, QL-ST3 0xA (PRESUMED), QL-eEEC. -/
def State.qlOut (s : State) (d : Nat) : Nat :=
  let lvl := if s.timOption = 1 then 10 else if s.timOption = 2 then Config.qlEeec % 256 else 11
  match s.selected d with
  | some i => if s.dpState d = dpLOCKING ∨ s.dpState d = dpLOCKED then s.get TIM.page (TIM.SLOT_CFG_QL i) else lvl
  | none => lvl

/-- DSTATUS.QL_OUT follows. -/
def State.showQl (s : State) : State :=
  each [0, 1] (fun d t => t.set TIM.page (TIM.DSTATUS_QL_OUT d) (t.qlOut d)) s

/-- Mean of a list of offsets, to the nearest. -/
def meanOff (l : List Int) : Int := if l.isEmpty then 0 else divRound (l.foldl (· + ·) 0) l.length

/-- The value an entry to HOLDOVER would use now, with its samples and whether the history is valid (R478). -/
def State.holdNow (s : State) (d : Nat) : Int × Nat × Bool :=
  let x := s.dpll d
  if s.flag TIM.page (TIM.DSTATUS_ONSET_VALID d) then (x.pre.1, x.pre.2.1, decide (10 ≤ x.pre.2.2))
  else
    let w := (x.ring.drop (s.get TIM.page TIM.HOLD_CFG_GUARD)).take (s.get TIM.page TIM.HOLD_CFG_WINDOW)
    let m := (w.filter (·.2)).map (·.1)
    (meanOff m, m.length, decide (10 ≤ m.length))

/-- HOLD_VALUE, HOLD_SAMPLES and HIST_VALID show it, frozen during HOLDOVER (R478). -/
def State.showHold (s : State) (d : Nat) : State :=
  if s.dpState d = dpHOLDOVER then s
  else
    let h := s.holdNow d
    let s := s.setI TIM.page (whole (TIM.HOLD_VALUE d)) h.1
    (s.set TIM.page (TIM.HOLD_SAMPLES_SECONDS d) h.2.1).setB TIM.page (TIM.DSTATUS_HIST_VALID d) h.2.2

/-- CLKOUTi runs: it is enabled and the state of its DPLL does not squelch it (R482). -/
def State.clkoutRuns (s : State) (i : Nat) : Bool :=
  let v := s.nat (TIM.page + TIM.CLKOUT_CFG i)
  let sq := bitsOf v 4 2
  let st := s.dpState (bitsOf v 1 2)
  bitOf v 0 && (bitsOf v 1 2 = 2 || !((sq != 0 && st = dpFREERUN) || (sq = 2 && st = dpHOLDOVER)))

/-- The clock outputs whose running changed since `old` start, or are held low (R482). -/
def State.clkoutFollow (s old : State) : State :=
  each (List.range 4) (fun i t => if t.clkoutRuns i = old.clkoutRuns i then t else t.send "clkout" [i, b2n (t.clkoutRuns i)]) s

/-- A DPLL takes a state; leaving LOCKED unmarks the second in progress, and the clock outputs follow. -/
def State.dpTo (s : State) (d st : Nat) : State :=
  let t := s.set TIM.page (TIM.DSTATUS_STATE d) st
  (t.setDpll d { t.dpll d with since := t.now, lockedAll := (t.dpll d).lockedAll && st = dpLOCKED }).clkoutFollow s

/-- No slot is selected; a new selection, or none, clears ONSET_VALID (R473). -/
def State.unselect (s : State) (d : Nat) : State :=
  (s.setB TIM.page (TIM.DSTATUS_SEL_VALID d) false).setB TIM.page (TIM.DSTATUS_ONSET_VALID d) false

/-- Entry to FREERUN (R464, R477). -/
def State.freerun (s : State) (d : Nat) : State :=
  let s := s.unselect d
  if s.dpState d = dpFREERUN then s
  else
    let s := (s.dpTo d dpFREERUN).setI TIM.page (whole (TIM.FREQ d)) 0
    ((s.setB TIM.page (TIM.DSTATUS_S_FREERUN d) true).raise timPg (TIM.ev_FREERUN d)).showHold d

/-- Entry to HOLDOVER when the history is valid, else FREERUN with HOLD_NO_HISTORY (R477, R478). -/
def State.holdover (s : State) (d : Nat) : State :=
  let h := s.holdNow d
  if h.2.2 then
    let s := (s.showHold d).unselect d
    let s := (s.dpTo d dpHOLDOVER).setI TIM.page (whole (TIM.FREQ d)) h.1
    (s.setB TIM.page (TIM.DSTATUS_S_HOLDOVER d) true).raise timPg (TIM.ev_HOLDOVER d)
  else (s.raise timPg (TIM.ev_HOLD_NO_HISTORY d)).freerun d

/-- A slot loses qualification and has WTR seconds to wait (R469). -/
def State.disqualify (s : State) (i : Nat) : State :=
  let b := TIM.page
  let s := s.setSlot i { s.slot i with fresh := false }
  let s := (s.setB b (TIM.SLOT_STATUS_QUALIFIED i) false).setB b (TIM.SLOT_STATUS_WTR i) true
  (s.set b (TIM.SLOT_STATUS_WTR_LEFT i) (s.get b TIM.WTR_CFG_WTR)).raise timPg (TIM.ev_REF_DISQUALIFIED i)

/-- TIM leaves ACTIVE (Table 15-3): through ENABLE = 0 both DPLLs free-run; through a soft reset or DRAIN they hold over when
their history is valid; the slots are unqualified, and wait before they qualify again (R469). -/
def State.timLeave (s : State) (off : Bool) : State :=
  let s := each (List.range 16) (fun i t =>
    let was := t.slotIs TIM.SLOT_STATUS_QUALIFIED i
    if was then t.disqualify i
    else if t.slotIs TIM.SLOT_STATUS_WTR i then t.set TIM.page (TIM.SLOT_STATUS_WTR_LEFT i) (t.get TIM.page TIM.WTR_CFG_WTR)
    else t) s
  (each [0, 1] (fun d t => if off then t.freerun d else if t.dpState d = dpHOLDOVER then t
    else if (t.holdNow d).2.2 then t.holdover d else t.freerun d) s).showQl

end Sys2Proof.Machine
end

