-- ==== Sys2Proof/Machine/Moves.lean ====
section
/-!
DEFINITION. What the other blocks see when a block moves between states (Table 3-4), enters a ladder step (Table 19-2), or is
re-initialised (R58).
-/
namespace Sys2Proof.Machine

/-! ### Blocks that stop -/

/-- The user cores halt with a cause, and USER_STATE takes a value (R595, R596). -/
def State.haltUsers (s : State) (cause st : Nat) : State :=
  let b := CPU.page
  let s := each [4, 5, 6, 7] (fun c t =>
    if t.get b (CPU.CORE_STATUS_STATE c) = 1 then t
    else (t.set b (CPU.CORE_STATUS_STATE c) 1).set b (CPU.CORE_STATUS_HALT_CAUSE c) cause) s
  s.set b CPU.FW_STATUS_USER_STATE st

/-- HPMk of a core counts events; while it samples, those since its last sample too (R599, R601). -/
def State.hpmAdd (s : State) (c k n : Nat) : State :=
  let s := s.count64 (CPU.page + CPU.HPM c k) n
  if bitOf (s.get CPU.page (CPU.PMU_CTRL_SAMPLE_EN c)) k then
    let m := Tab.get (fun _ => 0) s.cpu.sinceSample (8 * c + k)
    { s with cpu := { s.cpu with sinceSample := Tab.put (fun _ => 0) s.cpu.sinceSample (8 * c + k) (m + n) } }
  else s

/-- Spare slices that a sweep had in SHADOW are FREE again; one that shadows a failed slice goes on (R610). -/
def State.sweepUnshadow (s : State) : State :=
  each [0, 1] (fun n t =>
    let b := RXD.page n
    let sl := t.get b RXD.SLICE_STATUS_SLICE
    if t.get b RXD.SLICE_STATUS_SPARE_STATE = 1 ∧ !(t.rxs n).failedSlices.contains sl then
      (t.set b RXD.SLICE_STATUS_SPARE_STATE 0).set b RXD.SLICE_STATUS_SLICE 0
    else t) s

/-- A sweep or memory BIST in progress ends with its leave, and a queued request is withdrawn (R71, R611). -/
def State.rprStop (s : State) : State :=
  let s := s.sweepUnshadow
  let s := (((s.withdrawLeave 5 0).withdrawLeave 3 0).endLeave 5 0).endLeave 3 0
  { s with rpr := { s.rpr with sweepOn := false, sweepEnding := false, bistChannel := none } }.set RPR.page RPR.STATUS_STATE 0

/-- HKA's sequences stop (Table 19-2). -/
def State.hkStop (s : State) : State :=
  let b := HKA.page
  let s := (s.set b HKA.STATUS_STATE 0).setB b HKA.STATUS_TIP_QUEUED false
  let s := (s.setB b HKA.STATUS_SCAN_INTERRUPTED false).setB b HKA.STATUS_SCAN_PENDING false
  { s with hka := {} }.setB b HKA.STATUS_PAUSED_SHED false

/-- Updates held for a gutter are discarded (Table 3-13). -/
def State.calDrop (s : State) (n : Nat) : State :=
  (s.setCal n { s.cals n with pend := [] }).setB (CAL.page n) CAL.STATUS_HOLD false

/-- Both DPLLs go to HOLDOVER (Table 19-2). -/
def State.timHold (s : State) : State :=
  (each [0, 1] (fun d t => if t.dpState d = dpLOCKING ∨ t.dpState d = dpLOCKED then t.holdover d else t) s).showQl

/-- CURRENT takes a value; PRECOMP_DONE when it comes to equal TARGET after differing from it (R202). -/
def State.cdPreTo (s : State) (n : Nat) (v : Int) : State :=
  let b := TXD.page n
  let old := s.getI b TXD.CD_PRE_CURRENT
  let s := s.setI b TXD.CD_PRE_CURRENT v
  s.raiseIf (old != v && v = s.getI b TXD.CD_PRE_TARGET) (Kind.TXD.pg n) TXD.ev_PRECOMP_DONE

/-- In OFF and CONFIG the pre-compensation and the launch delays take their targets at once (R202, R203). -/
def State.txTake (s : State) (n : Nat) : State :=
  let b := TXD.page n
  let s := s.cdPreTo n (s.getI b TXD.CD_PRE_TARGET)
  each (List.range 4) (fun c t => t.setI b (TXD.SKEW_CUR_SKW c) (t.getI b (TXD.SKEW_SKW c))) s

/-! ### Moving between states -/


/-- What the blocks around page `p` show follows its state: the ports, the links, the fabric state (R388, R442, R454). -/
def State.showMove (s : State) (p : Nat) : State :=
  match pageKind p with
  | some (k, n) =>
    if k = .CLN ∨ k = .MAC ∨ k = .CLS then s.refreshPorts
    else if k = .FBL then s.linkCheck n
    else if k = .FBR then s.showFbr.linkChecks
    else s
  | none => s

/-- What a block's chapter ties to its move to state `st` from `old`: RXDn leaving ACTIVE goes IDLE and returns from DRAIN or
FAULT to WAIT_SIGNAL (R168), FRMn discards or starts alignment (R281), CNVn OFF stops its PLL (R643), TXDn takes its targets (R202), the output follows
the ladder, and blocks that stop end what they do. -/
def State.moved (s : State) (p old st : Nat) : State :=
  match pageKind p with
  | some (.RXD, n) =>
    if st ≠ bACTIVE then s.rxIdle n
    else
      let s := if old ≠ bACTIVE then s.rxEnter n else s
      if (old = bDRAIN ∨ old = bFAULT) ∧ s.carrierOn n then s.rxStart n else s
  | some (.FRM, n) =>
    let s := s.setB (FRM.page n) FRM.DEFECTS_LADDER (st = bFAULT)
    if st = bOFF ∨ st = bCONFIG then (s.frmDiscard n).gthFollow n
    else if st = bACTIVE ∧ old = bCONFIG then (s.frmSearch n).gthFollow n else s
  | some (.CNV, n) => (s.pllFollow n).txLadder n
  | some (.TXD, n) => (if st = bOFF ∨ st = bCONFIG then s.txTake n else s).txLadder n
  | some (.CAL, n) => if st = bACTIVE then s.calHold n else if st = bFAULT then s.fullCut n else (s.calDrop n).fullCut n
  | some (.TIM, _) =>
    if st = bOFF then s.timLeave true
    else if st = bDRAIN then s.timLeave false
    else if st = bFAULT then s.timHold else s
  | some (.HKA, _) => if st = bOFF ∨ st = bFAULT then s.hkStop else s
  | some (.RPR, _) => if st = bOFF ∨ st = bFAULT then s.rprStop else s
  | some (.CPU, _) => if st = bFAULT then s.haltUsers 2 0 else if st = bOFF then s.haltUsers 0 0 else s
  | _ => s

/-- A block moves to a state. -/
def State.goTo (s : State) (p st : Nat) : State :=
  let old := s.blk p
  let s := if st = bDRAIN then s.setPage p { s.page p with drainFrom := s.now } else s
  ((s.setBlk p st).moved p old st).showMove p

/-! ### Ladder steps (Table 19-2) -/

/-- What a block does on entering step `k` (0 to 2) beyond being in FAULT. The effects that hold while the block is in FAULT
(frames dropped, folios absent, commits held, counting stopped) are read from its state. -/
def State.stepEffect (s : State) (p k : Nat) : State :=
  let s := match pageKind p with
    | some (.CNV, n) => s.txLadder n
    | some (.TXD, n) => s.txLadder n
    | some (.MEM, n) => if k = 2 then s.failChannel n else s
    | some (.ECC, _) => if k = 2 then each s.channelMap (fun c t => t.failChannel c) s else s
    | _ => s
  s.showMove p

/-! ### RAP's sessions -/

/-- A RAP session slot. -/
def State.session (s : State) (i : Nat) : Session := Tab.get (fun _ => {}) s.rap.sessions i
def State.setSession (s : State) (i : Nat) (x : Session) : State :=
  { s with rap := { s.rap with sessions := Tab.put (fun _ => {}) s.rap.sessions i x } }

/-- Where the next frame of a session goes: to `to_`, the sender of the request it answers, while that one's encapsulation is in
force, else to the session's peer, if it has one now (R86 to R88). -/
def State.peerOf (s : State) (slot : Nat) (to_ : Option Peer) : Option Peer :=
  match to_ with
  | some p => if p.udp = s.rap.udp then some p else (s.session slot).peer
  | none => (s.session slot).peer

/-- A frame of a session leaves, or waits for the session's next valid request (R88). -/
def State.sendTo (s : State) (slot : Nat) (to_ : Option Peer) (o : Out) : State :=
  let x := s.session slot
  match (if x.unsent.isEmpty then s.peerOf slot to_ else none) with
  | some p => (s.emit (o.toPeer p)).count64 (RAP.page + RAP.TX_FRAMES) 1
  | none => s.setSession slot { x with unsent := x.unsent ++ [o] }

/-- A valid request of a session names its peer, and what has waited for one leaves (R88). -/
def State.heardFrom (s : State) (slot : Nat) (p : Peer) : State :=
  let x := s.session slot
  each x.unsent (fun o t => (t.emit (o.toPeer p)).count64 (RAP.page + RAP.TX_FRAMES) 1)
    (s.setSession slot { x with peer := some p, unsent := [] })

/-- The encapsulation that `RAP.ENCAP.MODE` asks for comes into force; the sessions go on, and each waits for its next valid request
(R88). -/
def State.modeTake (s : State) : State :=
  let m := s.flag RAP.page RAP.ENCAP_MODE
  if s.rap.udp = m then s
  else each (List.range 8) (fun i t => t.setSession i { t.session i with peer := none }) { s with rap := { s.rap with udp := m } }

/-- SESSION_STATUS.OPEN follows the sessions. -/
def State.showSessions (s : State) : State :=
  s.set RAP.page RAP.SESSION_STATUS_OPEN (((List.range 8).filter (fun i => (s.session i).stage = .opened)).map (2 ^ ·)).sum

/-- What a closed session still has in progress goes on as nobody's: its responses are discarded (R95). -/
def State.orphan (s : State) (i : Nat) : State :=
  let k := fun (j : Nat) => if j = i then 8 else j
  let job := fun (j : MemJob) => { j with who := j.who.map (fun w => (k w.1, w.2)) }
  { s with
    rap := { s.rap with fill := s.rap.fill.map (fun f => { f with slot := k f.slot }), blocked := s.rap.blocked.map k,
                        held := s.rap.held.map (fun e => (k e.1, e.2)),
                        rest := s.rap.rest.map (fun b => { b with slot := k b.slot }) }
    ecc := { s.ecc with waiting := s.ecc.waiting.map job }
    sec := { s.sec with opening := s.sec.opening.map (fun o => (o.1, k o.2.1, o.2.2)) } }

/-- A session closes, with SESSION_CLOSED where it was open: its kept responses and subscription go, and what it has in
progress goes on with its response discarded (R95). -/
def State.closeSession (s : State) (i : Nat) : State :=
  let was := (s.session i).stage = .opened
  let s := s.orphan i
  let s := (s.setSession i {}).showSessions
  let s := { s with rap := { s.rap with requesters := Tab.put (fun _ => {}) s.rap.requesters i {} } }
  s.raiseIf was Kind.RAP.pages.1 RAP.ev_SESSION_CLOSED

/-! ### Re-initialisation (R58, R72) -/

/-- The number under which a withheld buffer array is listed (R607). -/
def bufferArray : Nat := 0x100

/-- ONDIE_FREE follows the bytes stored on die and the buffer arrays withheld at boot. -/
def State.showOnDie (s : State) : State :=
  s.set QMG.page QMG.ONDIE_FREE_KIB (65536 - 64 * (s.rpr.withheld.filter (· = bufferArray)).length - ceilDiv s.pkt.onDie 1024)

/-- Sparse entries all set to one value. -/
def Tab.refill {α : Type} [DecidableEq α] (d : Nat → α) (t : Tab α) (v : α) : Tab α :=
  t.foldl (fun u e => Tab.put d u e.1 v) []

/-- Fields copied from one state to another. -/
def State.copy (r s : State) (base : Nat) (fs : List Fld) : State := each fs (fun f t => t.set base f (s.get base f)) r

/-- GTH: the enabled gatherings start afresh, with their parts in ACQUIRE, and the groups follow their commands and bytes. -/
def State.reinitGth (r : State) : State :=
  let r := each [0, 1] (fun n t => t.setFrm n { t.frms n with txReady := [], toGth := [], burstIn := [] }) { r with gath := [], pg := [] }
  let r := each r.gatherings (fun g t =>
    let off : GPart := {}
    let acq : GPart := { st := .acquire }
    (t.setGth g { p0 := acq, p1 := if t.collates g then acq else off }).showPart g) r
  each (List.range 4) (fun q t => if t.flag GTH.page (GTH.PG_CFG_EN q) then t.pgEval q else t) r.showGth

/-- CRY keeps every context and fetches the keys again (R363); an exchange and a self-test in progress end with their leave.
GUARD_STATE keeps the guard's LOCK (R72). -/
def State.reinitCry (s r : State) : State :=
  let again := fun (c : CryCtx) =>
    { c with refetchTx := c.txCur.isSome || c.txNext.isSome, refetchRx := c.rxCur.isSome || c.rxNext.isSome }
  let r := { r with cry := s.cry.foldl (fun u (e : Nat × CryCtx) => Tab.put (fun _ => {}) u e.1 (again e.2)) [], agree := {} }
  let r := (((r.withdrawLeave 6 1).endLeave 6 1).withdrawLeave 7 0).endLeave 7 0
  r.copy s CRY.page [CRY.GUARD_STATE_LOCK]

/-- TIM: the DPLLs leave ACTIVE's operation as under Table 15-3; DTIME, the output settings and the line steering are kept
(R477). -/
def State.reinitTim (s : State) : State :=
  let t := s.timLeave false
  let r := t.reinitRegs timPg
  let fs := [0, 1].flatMap (fun d => [TIM.DSTATUS_STATE d, TIM.DSTATUS_QL_OUT d, TIM.DSTATUS_HIST_VALID d, whole (TIM.HOLD_VALUE d),
    TIM.HOLD_SAMPLES_SECONDS d, whole (TIM.FREQ d)])
  let r := r.copy t TIM.page (whole TIM.LINE_SYNC :: fs)
  let r := each [0, 1] (fun d u =>
    let a := t.dpState d
    let new_ := a != s.dpState d
    (u.setB TIM.page (TIM.DSTATUS_S_HOLDOVER d) (new_ && a = dpHOLDOVER)).setB TIM.page (TIM.DSTATUS_S_FREERUN d) (new_ && a = dpFREERUN)) r
  let x : Dpll := { carryPs := (t.dpll 1).carryPs, frac := (t.dpll 1).frac }
  { r with tim := { slots := [], dpll := ⟨{}, x⟩, pairs := [], steer := t.tim.steer, pps := t.tim.pps } }

/-- CALn keeps its codes and CODES_VALID (R109); a spare in pre-calibration is free again, and a full calibration is cut short. -/
def State.reinitCal (s : State) (p n : Nat) : State :=
  let s := s.fullCut n
  let c := s.cals n
  let r := (s.reinitRegs p).withdrawLeave 1 n
  let r := r.setCal n { d2dDue := c.d2dDue, d2dDead := c.d2dDead, d2dSpares := c.d2dSpares, lastSwap := c.lastSwap,
                        pllRuns := c.pllRuns, pllLockedOnce := c.pllLockedOnce, upLocked := c.upLocked, slotAt := c.slotAt }
  let r := r.copy s (CAL.page n) [CAL.STATUS_CODES_VALID]
  match c.swap with
  | some w =>
    let f := CNV.SPARES_FREE w.conv
    (r.set (CALW.SUBCONV n (68 * w.conv + w.unit)) CALW.SUBCONV_ROLE 1).set (CNV.page n) f (r.get (CNV.page n) f + 1)
  | none => r

/-- The data that the packet stage holds is dropped; buffer pages in use are free again. -/
def State.reinitQmg (s r : State) : State :=
  let r := r.bumpBy ECC.page ECC.BUF_FREE_PAGES s.pkt.pagesUsed.length
  let r := { r with pkt := { r.pkt with queues := [], onDie := 0, pagesUsed := [], outDrr := [], epDrr := [] } }
  r.showOnDie

/-! ### A block's internal state as re-initialisation leaves it -/

/-- The internal state of the block of page `p` as re-initialisation leaves it: its host-written fields are kept, and what its
chapter keeps (R58, R72, R109, R207, R363, R477). -/
def State.reinitState (s : State) (p : Nat) : State :=
  let now_ := s.now
  match pageKind p with
  | some (.CNV, n) =>
    ((s.reinitRegs p).copy s (CNV.page n) [whole CNV.SPARES, whole CNV.D2D_STATUS, whole CNV.PLL_STATUS, CNV.PATH_STATE_ADC_IN]).showOut n
  | some (.CAL, n) => s.reinitCal p n
  | some (.RXD, n) =>
    let r := ((s.nlcRelease n).endLeave 8 n).reinitRegs p
    r.setRx n { subs := (s.rxs n).subs, nlcHeld := (s.rxs n).nlcHeld, nlcCool := (s.rxs n).nlcCool }
  | some (.TXD, n) =>
    let r := (s.reinitRegs p).copy s (TXD.page n) [TXD.MASK_CTRL_BANK_ACTIVE 0, TXD.MASK_CTRL_BANK_ACTIVE 1]
    let t := s.txs n
    (r.setTx n { t with spi := [], spiBusy := none, freqCmd := [], reached := false,
                        mask0 := { activePassed := t.mask0.activePassed }, mask1 := { activePassed := t.mask1.activePassed } }).showOut n
  | some (.SUB, n) =>
    (s.reinitRegs p).setSub n { activePassed := (s.subst n).activePassed && s.get (SUB.page n) SUB.SCHED_CTRL_BANK_ACTIVE = 0 }
  | some (.FEC, n) =>
    let f := s.fecs n
    let r := ((s.withdrawLeave 2 n).reinitRegs p).setFec n
      { active := f.active, spares := f.spares, exhausted := f.exhausted, limited := f.limited }
    let r := r.set (FEC.page n) FEC.CAP_STATUS_HOST_EFF (s.get (FEC.page n) FEC.CAP_REQ_IMAX)
    (r.showEngines n).fecCaps n
  | some (.FRM, n) => (s.reinitRegs p).setFrm n {}
  | some (.GTH, _) => (s.reinitRegs p).reinitGth
  | some (.CRY, _) => s.reinitCry (s.reinitRegs p)
  | some (.OSP, _) => { s.reinitRegs p with osp := [] }
  | some (.PMB, _) => { s.reinitRegs p with pmb := { eps := s.pmb.eps, offset := s.pmb.offset } }
  | some (.CLN, q) => ((s.reinitRegs p).copy s (CLN.page q) [CLN.QUAD_STATUS_PLL_LOCK]).refreshPorts
  | some (.MAC, _) => { s.reinitRegs p with ports := [] }.refreshPorts
  | some (.CLS, _) => { s.reinitRegs p with cls := {} }.refreshPorts
  | some (.QMG, _) => s.reinitQmg (s.reinitRegs p)
  | some (.MTR, _) =>
    let r := s.reinitRegs p
    { r with pkt := { r.pkt with meters := Tab.refill (fun _ => {}) r.pkt.meters { at_ := now_ } } }
  | some (.SHP, _) =>
    let r := s.reinitRegs p
    { r with pkt := { r.pkt with shapers := Tab.refill (fun _ => {}) r.pkt.shapers { at_ := now_ } } }
  | some (.FBL, k) =>
    let t := if s.linkSt k = kDISABLED then s else s.linkTo k kDISABLED
    (t.reinitRegs p).setLink k { since := now_ }
  | some (.FBR, _) =>
    let r := s.reinitRegs p
    let r := if s.inConflict then r.copy s FBR.page [FBR.STATE_DOMAIN] else r
    { r with fbr := { seqFrom := now_ } }.showFbr
  | some (.MEM, c) => (s.reinitRegs p).copy s (MEM.page c) [whole MEM.STATUS]
  | some (.ECC, _) =>
    (s.reinitRegs p).copy s ECC.page [whole ECC.MAP, whole ECC.TOTAL_PAGES, whole ECC.BUF_FREE]
  | some (.TIM, _) => s.reinitTim
  | some (.HKA, _) => s.hkStop.reinitRegs p
  | some (.RPR, _) =>
    (s.rprStop.reinitRegs p).copy s RPR.page [RPR.STATUS_ENTRIES, whole RPR.SPARES, whole RPR.SRAM_FREE]
  | some (.CPU, _) =>
    let t := s.haltUsers 0 0
    (t.reinitRegs p).copy t CPU.page ([CPU.FW_STATUS_SVC_STATE, CPU.FW_STATUS_VERSION] ++ (List.range 8).map (whole <| CPU.CORE_STATUS ·))
  | some (.PWR, _) => { s with pwr := { s.pwr with avsSlackRun := 0, pmbusFailRun := 0 } }
  | some (.THM, _) => { s with thm := { s.thm with farRun := [], coolRun := 0 } }
  | some (.SEC, _) => { s with sec := { s.sec with authStage := [], peerStage := [] } }
  | some (.RAP, _) => each (List.range 8) (fun i t => t.closeSession i) s
  | _ => s

/-! ### Step 3 (R559) -/

/-- The address is of a block-specific register of page `p`, or, where `wins` is set, of a window that its block owns. -/
def ownAddr (p : Nat) (wins : Bool) (a : Nat) : Bool :=
  if a < 0x20000000 then a / 0x1000 = p && decide (0x100 ≤ a % 0x1000)
  else match segAt a with
    | some (g, _, _) => wins && g.owner = p
    | none => false

/-- Every register field of page `p`, and its block's window entries, as they were in `s` (R559). -/
def State.keepRegs (r s : State) (p : Nat) : State :=
  let wins : Bool := match pageKind p with
    | some (k, _) => k != .FBR && k != .CAL
    | none => false
  let own := fun (e : Nat × Word) => ownAddr p wins e.1
  { r with regs := (s.regs.filter own).foldl (fun (t : List (Nat × Word)) e => Tab.put resetWord t e.1 e.2)
                     (r.regs.filter (fun e => !own e)) }

/-- The fields that report the block's present state follow it. -/
def State.showLive (s : State) (p : Nat) : State :=
  match pageKind p with
  | some (.CNV, n) => s.pllFollow n
  | some (.CAL, n) => (s.calDrop n).set (CAL.page n) CAL.SPARE_STATUS_STAGE 0
  | some (.TXD, n) => s.showOut n
  | some (.FEC, n) => (s.showEngines n).fecCaps n
  | some (.FRM, n) => s.showFrm n
  | some (.GTH, _) => s.reinitGth
  | some (.CRY, _) => (s.set CRY.page CRY.AGREE_STATUS_STATE 0).setB CRY.page CRY.SELFTEST_RUNNING false
  | some (.CLS, _) => (s.setNat (CLS.page + CLS.MISS_LEVEL) 0).refreshPorts
  | some (.QMG, _) => s.showOnDie
  | some (.FBL, k) => s.linkCheck k
  | some (.FBR, _) => (s.setNat (FBR.page + FBR.RESEQ_LEVEL) 0).showFbr
  | some (.TIM, _) => each (List.range 16) (fun i t => t.setB TIM.page (TIM.SLOT_STATUS_QUALIFIED i) false) s
  | some (.HKA, _) => s.hkStop
  | some (.RPR, _) => s.rprStop
  | _ => s.showMove p

end Sys2Proof.Machine
end

