-- ==== Sys2Proof/Machine/Events.lean ====
section
/-!
DEFINITION. Events and reactions (chapter 19): firing a source, messages, ALARM_N, the ladder, device safe state,
leaving FAULT, acknowledgement; and the end of every meaning, at which the sources it raised fire.
-/
namespace Sys2Proof.Machine

/-! ### Places of a source (R551) -/

def evBit (i : Nat) : Fld := ⟨HDR.EVT_STICKY (i / 32), i % 32, 1⟩
def evEnable (i : Nat) : Fld := ⟨HDR.EVT_ENABLE (i / 32), i % 32, 1⟩
def evClassFld (i : Nat) : Fld := ⟨HDR.EVT_CLASS (i / 16), 2 * (i % 16), 2⟩

/-- A source's sticky bit. -/
def State.sticky (s : State) (p i : Nat) : Bool := s.flag (pageBase p) (evBit i)

/-- A source's present class: 0 INFO, 1 NOTIFY, 2 GRACE, 3 URGENT. -/
def State.evClass (s : State) (p i : Nat) : Nat := s.get (pageBase p) (evClassFld i)

/-- The sources whose sticky bits are set and whose present class is `c`. -/
def State.stickyOf (s : State) (p c : Nat) : List Nat :=
  (List.range 128).filter (fun i => s.sticky p i && s.evClass p i = c)

/-- Every sticky bit of a page is 0. -/
def State.noSticky (s : State) (p : Nat) : Bool :=
  (List.range 4).all (fun w => s.nat (pageBase p + HDR.EVT_STICKY w) = 0)

/-! ### ALARM_N (R563) -/

/-- Something holds ALARM_N low: the boot times, an URGENT sticky bit, safe state, FORCE_ALARM, thermal shutdown. -/
def State.alarmWanted (s : State) : Bool :=
  s.boot.alarmHold || s.safe || s.boot.shutdown || s.flag FLT.page FLT.CTRL_FORCE_ALARM
    || (List.range 4).any (fun w => s.nat (FLT.page + FLT.BLK_URGENT w) != 0)

/-- ALARM_N follows, and ALARM_ON or ALARM_OFF records the change. -/
def State.refreshAlarm (s : State) : State :=
  let w := s.alarmWanted
  if s.boot.alarmLow = w then s
  else
    let s := { s with boot := { s.boot with alarmLow := w } }
    s.raise Kind.FLT.pages.1 (if w then FLT.ev_ALARM_ON else FLT.ev_ALARM_OFF)

/-- FLT.BLK_URGENT follows the page's sticky bits and classes, and ALARM_N with it. -/
def State.syncUrgent (s : State) (p : Nat) : State :=
  (s.setB FLT.page ⟨FLT.BLK_URGENT (p / 32), p % 32, 1⟩ (!(s.stickyOf p 3).isEmpty)).refreshAlarm

/-- The grace timer runs while a GRACE source's sticky bit is set, except on the pages of R560, while OFF and while a
soft reset is in progress (R556, R645). -/
def State.syncGrace (s : State) (p : Nat) : State :=
  let want := !(s.stickyOf p 2).isEmpty && !alwaysActive p && s.blk p != bOFF && !(s.page p).softReset
  let c := s.page p
  let c' := { c with graceFrom := if want then (if c.graceFrom.isSome then c.graceFrom else some s.now) else none }
  (s.setPage p c').setB (pageBase p) HDR.GRACE_RUNNING want

/-! ### Messages (R102 to R104, R555) -/

/-- Tokens of the session's message bucket now, in 10⁻⁹ of a message (R104). -/
def State.evTokens (s : State) (x : Session) : Nat :=
  min (s.get RAP.page RAP.EVT_RATE_DEPTH * nsSec)
    (x.tokens + (s.now - x.tokenTime) * s.get RAP.page RAP.EVT_RATE_RATE)

/-- The bytes of an event message or an EVT_LOST: TYPE 3 with OPCODE 0 or 1; the body in the order of R103: page, index, class and a
zero byte, DTIME, the number in the session; or the count (DESIGN CHOICE, log 130). -/
def Session.evtWire (x : Session) (opcode seq : Nat) (body : List Nat) : List Nat :=
  rapWire { version := x.version, typ := 3, opcode := opcode, status := 0, tag := 0, sid := x.sid, seq := seq } body (some x.key)

/-- An event message towards one session, where its masks admit it under version 2.1: bit p of the page mask for page p, bit c of
the class mask for class code c (DESIGN CHOICE, log 130). It is withheld when the bucket is empty; where a run was withheld, EVT_LOST goes before it
under version 2.1, for the same token (R102 to R104). -/
def State.msgTo (s : State) (slot p i cls : Nat) : State :=
  let x := s.session slot
  let want := x.stage = .opened && x.subscribed
    && (x.version < 0x21 || (bitOf x.pageMask p && bitOf x.classMask cls))
  if !want then s
  else
    let tok := s.evTokens x
    let x := { x with tokens := tok, tokenTime := s.now }
    if tok < nsSec then
      (s.setSession slot { x with withheld := x.withheld + 1 }).raiseIf (x.withheld = 0) Kind.RAP.pages.1 RAP.ev_EVT_LOST
    else
      let lost := x.withheld != 0 && x.version ≥ 0x21
      let n := if lost then 2 else 1
      let y := { x with tokens := x.tokens - nsSec, evtSeq := x.evtSeq + 1, txSeq := x.txSeq + n, withheld := 0 }
      let s := s.setSession slot y
      let s := if lost then s.sendTo slot none (.evtLost slot x.withheld {} (x.evtWire 1 (x.txSeq + 1) (beBytes 4 x.withheld))) else s
      s.sendTo slot none (.eventMsg slot p i cls s.dtime y.evtSeq {}
        (x.evtWire 0 y.txSeq ([p, i, cls, 0] ++ beBytes 8 s.dtime ++ beBytes 4 y.evtSeq)))

/-- A message to every session and to the service cores' queue of 256 (R555, Table 19-6). -/
def State.message (s : State) (p i cls : Nat) : State :=
  let s := each (List.range 8) (fun k t => t.msgTo k p i cls) s
  if 256 ≤ s.coreQueue then s.raise Kind.FLT.pages.1 FLT.ev_CORE_EVT_LOST
  else { s with coreQueue := s.coreQueue + 1 }.emit (.coreEvent p i cls s.dtime)

/-! ### The ladder (R556 to R561) -/

/-- A page is taken to step `k`: FAULT, the state before it kept, the step's effects (R559). -/
def State.faultAt (s : State) (p k : Nat) : State :=
  let s := if s.blk p = bFAULT then s else
    let st := s.blk p
    (s.setPage p { s.page p with prior := st }).goTo p bFAULT
  let s := s.set (pageBase p) HDR.STEP k
  let s := s.setPage p { s.page p with quietFrom := s.now }
  s.stepEffect p (min k 2)

/-- The line-side blocks whose re-initialisation takes the carrier DOWN (R59). -/
def carrierBlock (p : Nat) : Option Nat :=
  match pageKind p with
  | some (k, n) => if k ∈ [.CNV, .RXD, .TXD, .SUB, .FEC, .FRM] then some n else none
  | none => none

/-- Step 3: the internal state is re-initialised, every register field is kept but for those that report the present state
(R559), and a line-side block takes its carrier DOWN (R59). -/
def State.step3 (s : State) (p : Nat) : State :=
  let s := ((s.reinitState p).keepRegs s p).showLive p
  let s := match carrierBlock p with
    | some n => s.carrierOff n
    | none => s
  s.raise Kind.FLT.pages.1 FLT.ev_STEP3_RESET

/-- Seconds left of a page's quiet period, rounded up (R562). -/
def State.quietLeft (s : State) (p : Nat) : Nat :=
  min 0xFFF (ceilDiv ((s.page p).quietFrom + s.get (pageBase p) HDR.QUIET_S * nsSec - s.now) nsSec)

/-- QUIET_LEFT as a read returns it: 0 outside FAULT; held in device safe state (R561, R562). -/
def State.quietShown (s : State) (p : Nat) : Nat :=
  if s.blk p ≠ bFAULT then 0 else if s.safe then (s.page p).quietHeld.getD (s.quietLeft p) else s.quietLeft p

/-- Device safe state: every data block at step 2 or above, the lasers and drivers off, every fabric link DISABLED
(R561). -/
def State.enterSafe (s : State) (p i : Nat) : State :=
  if s.safe then s
  else
    let s := { s with safe := true }
    let s := s.setB FLT.page FLT.STATUS_SAFE true
    let s := s.set FLT.page FLT.SAFE_CAUSE_PAGE p
    let s := s.set FLT.page FLT.SAFE_CAUSE_INDEX i
    let s := each (allPages.filter isDataPage) (fun q t =>
      let t := if 2 ≤ t.step_ q then t else t.faultAt q 2
      t.setPage q { t.page q with quietHeld := some (t.quietLeft q) }) s
    let s := each [0, 1] (fun n t => t.outCause n (fun x => { x with cSafe := true })) s
    (s.linkChecks.raise Kind.FLT.pages.1 FLT.ev_SAFE_STATE).refreshAlarm

/-- An automatic step of page `p` to `k`, for cause `urgent` and source `i`: not beyond MAX_STEP, not on the pages of
R560, not while OFF or in soft reset (R557, R558, R645). -/
def State.takeStep (s : State) (p k i : Nat) (urgent : Bool) : State :=
  if alwaysActive p ∨ s.blk p = bOFF ∨ (s.page p).softReset ∨ s.get (pageBase p) HDR.MAX_STEP < k ∨ 4 < k then s
  else
    let s := s.faultAt p k
    let s := s.set FLT.page FLT.LAST_STEP_PAGE p
    let s := s.set FLT.page FLT.LAST_STEP_STEP k
    let s := s.setB FLT.page FLT.LAST_STEP_CAUSE urgent
    let s := s.set FLT.page FLT.LAST_STEP_INDEX i
    let s := s.setNat64 (FLT.page + FLT.LAST_STEP_TIME) s.dtime
    let s := s.count (FLT.page + FLT.STEPS)
    let s := if k = 3 then s.step3 p else if k = 4 then s.enterSafe p i else s
    s.raise Kind.FLT.pages.1 (if urgent then FLT.ev_URGENT_STEP else FLT.ev_ESCALATED)

/-- The step an URGENT fire takes: URG_STEP, or the next step when the block stands there or above (R557). -/
def State.urgentStep (s : State) (p i : Nat) : State :=
  let cur := s.step_ p
  let u := s.get (pageBase p) HDR.URG_STEP
  s.takeStep p (if u ≤ cur then cur + 1 else u) i true

/-! ### Firing (R552 to R555) -/

/-- EVT_FIRST captures a fire, or records an overflow (R553). -/
def State.capture (s : State) (p i cls : Nat) : State :=
  let b := pageBase p
  if s.flag b HDR.FIRST_VALID then s.setB b HDR.FIRST_OVERFLOW true
  else
    let s := s.set b HDR.FIRST_INDEX i
    let s := s.set b HDR.FIRST_CLASS cls
    let s := s.setB b HDR.FIRST_VALID true
    s.setNat64 (b + HDR.EVT_FIRST_TIME) s.dtime

/-- One source fires. A disabled source does nothing. Where the same command cleared the source's sticky bit, the bit ends set
and nothing more comes of it than the capture (R8, R553). -/
def State.fire (s : State) (p i : Nat) : State :=
  if !s.flag (pageBase p) (evEnable i) then s
  else
    let cls := s.evClass p i
    let was := s.sticky p i
    let s := s.setB (pageBase p) (evBit i) true
    let s := s.capture p i cls
    if cls = 0 || s.acked.contains (p, i) then s
    else
      let s := s.setPage p { s.page p with quietFrom := s.now }
      let s := s.setB FLT.page ⟨FLT.BLK_STICKY (p / 32), p % 32, 1⟩ true
      let s := if was then s else s.message p i cls
      if cls = 2 then s.syncGrace p
      else if cls = 3 then (s.syncUrgent p).urgentStep p i
      else s

/-- Ordered insertion of a raised source. -/
def insertRaised (x : Nat × Nat) : List (Nat × Nat) → List (Nat × Nat)
  | [] => [x]
  | y :: r => if x.1 < y.1 ∨ (x.1 = y.1 ∧ x.2 ≤ y.2) then x :: y :: r else y :: insertRaised x r

/-- The sources of one cycle in ascending page and index, as R553 captures them. -/
def sortRaised : List (Nat × Nat) → List (Nat × Nat)
  | [] => []
  | x :: r => insertRaised x (sortRaised r)

/-- The raised sources fire; those that their reactions raise fire after them, in at most `n` rounds. What is still
raised then stays raised for the next command. -/
def State.settleN : Nat → State → State
  | 0, s => s
  | n + 1, s =>
    match s.raised with
    | [] => s
    | l => (each (sortRaised l) (fun e t => t.fire e.1 e.2) { s with raised := [] }).settleN n

/-- The capture of a page clears at the end of a cycle that leaves every sticky bit of the page at 0 (R553). -/
def State.releaseFirst (s : State) (p : Nat) : State :=
  if s.noSticky p then (s.setB (pageBase p) HDR.FIRST_VALID false).setB (pageBase p) HDR.FIRST_OVERFLOW false else s

/-- The end of a cycle in which sticky bits were cleared: the grace timers, ALARM_N and the captures of their pages follow what
the cycle left (R8, R553, R556, R563). -/
def State.endCycle (s : State) : State :=
  let l := s.acked.map (·.1)
  let s := (each l (fun p t => (t.syncGrace p).syncUrgent p) s).settleN 6
  { each l (fun p t => t.releaseFirst p) s with acked := [] }

/-- The end of a command, which is the end of its CK_SYS cycle: the sources it raised fire (R552, log 10, 111), and a new encapsulation comes
into force, the response of the command having been sent (R88). -/
def State.settle (s : State) : State :=
  let s := s.settleN 6
  (if s.acked.isEmpty then s else s.endCycle).modeTake

/-- A meaning that reaches its next state. -/
def done (s : State) : Host.Outcome State Fault Refusal := .next s.settle

/-- A meaning that acts while neither device reset nor thermal shutdown is in force, and has no effect otherwise. -/
def act (s : State) (f : State → State) : Host.Outcome State Fault Refusal :=
  if s.running then done (f s) else .next s

/-! ### Acknowledgement and leaving FAULT (R553, R555, R562) -/

/-- Sticky bits of one word are cleared; what follows from it comes at the end of the cycle, since a set of the same cycle
prevails (R8, R553). -/
def State.clearSticky (s : State) (p w mask : Nat) : State :=
  let a := pageBase p + HDR.EVT_STICKY w
  let hit := (List.range 32).filter (fun b => bitOf mask b && bitOf (s.nat a) b)
  { s.setNat a (s.nat a &&& (0xFFFFFFFF - mask % 2 ^ 32)) with acked := s.acked ++ hit.map (fun b => (p, 32 * w + b)) }

/-- Acknowledging one source. -/
def State.ackSource (s : State) (p i : Nat) : State := s.clearSticky p (i / 32) (2 ^ (i % 32))

/-- A source index that the page uses (R551). -/
def evUsed (p i : Nat) : Bool :=
  match pageKind p with
  | some (k, _) => i < 128 && bitOf (k.evUsed.getD (i / 32) 0) (i % 32)
  | none => false

/-- A block leaves FAULT: the state before it, step 0, one recovery (R562). -/
def State.exitFault (s : State) (p : Nat) : State :=
  let s := s.goTo p (s.page p).prior
  let s := s.bump (pageBase p) HDR.RECOVERIES
  s.raise Kind.FLT.pages.1 FLT.ev_FAULT_EXIT

end Sys2Proof.Machine
end

