-- ==== Sys2Proof/Machine/Writes.lean ====
section
/-!
DEFINITION. What a register write can answer: taken, or refused with a reason of Table 3-5; the shared checks of field
values; and the record of a refusal in REJECT_LAST (R75).
-/
namespace Sys2Proof.Machine

/-- The reasons of Table 3-5. -/
inductive Rej where
  | state | transition | range | key | lock | leave | fillActive
  deriving DecidableEq, Repr

/-- REJECT_LAST.REASON (Table 3-3). -/
def Rej.code : Rej → Nat
  | .state => 1 | .transition => 2 | .range => 3 | .key => 4 | .lock => 5 | .leave => 6 | .fillActive => 7

/-- RAP status of a refusal (Tables 3-5, 3-9). -/
def Rej.status : Rej → Nat
  | .range => 3 | .leave => 0xB | _ => 2

/-- The outcome of a write: a refusal's reason, if any, whether its response comes later, and the state. -/
structure WOut where
  rej : Option Rej
  later : Bool
  st : State

def ok (s : State) : WOut := ⟨none, false, s⟩
def no (r : Rej) (s : State) : WOut := ⟨some r, false, s⟩

/-- A write taken whose response follows when the operation that it starts has come to its end. -/
def later (s : State) : WOut := ⟨none, true, s⟩

/-- A refused write updates REJECT_LAST of page `p` and raises WRITE_REJECTED (R65, R75). -/
def State.refuse (s : State) (p off : Nat) (window : Bool) (r : Rej) (src : Nat) : State :=
  let b := pageBase p
  let s := s.set b HDR.REJ_OFFSET off
  let s := s.set b HDR.REJ_REASON r.code
  let s := s.set b HDR.REJ_SOURCE src
  let s := s.setB b HDR.REJ_WINDOW window
  s.raise p evWRITE_REJECTED

/-- An unsigned field's value lies in a range. -/
def inR (v : Nat) (f : Fld) (lo hi : Nat) : Bool :=
  let x := bitsOf v f.lo f.width
  lo ≤ x && x ≤ hi

/-- A signed field's value lies in a range. -/
def inRI (v : Nat) (f : Fld) (lo hi : Int) : Bool :=
  let x := toSigned f.width (bitsOf v f.lo f.width)
  lo ≤ x && x ≤ hi

/-- The value of a field in a word to be written. -/
def fv (v : Nat) (f : Fld) : Nat := bitsOf v f.lo f.width

/-- A one-bit field of a word to be written. -/
def fb (v : Nat) (f : Fld) : Bool := fv v f = 1

/-- A word with a field replaced. -/
def putF (v : Nat) (f : Fld) (x : Nat) : Nat := withBits v f.lo f.width x

end Sys2Proof.Machine
end

