-- ==== Sys2Proof/Machine/Answer.lean ====
section
/-!
DEFINITION. RAP responses: sent to an open session, kept for 1 s under their TAG, and those that follow later (R95, R98 to
R100).
-/
namespace Sys2Proof.Machine

/-- The body of a response to opcode `op` (Table 3-8). -/
def Resp.body (r : Resp) (op : Nat) : List Nat :=
  if op = 0x13 ∨ op = 0x15 then beBytes 4 r.done else r.words.flatMap (fun w => beBytes 4 w.toNat)

/-- The bytes of a response on session `x` to a request of opcode `op` (R89). -/
def Session.respWire (x : Session) (op tag : Nat) (r : Resp) : List Nat :=
  rapWire { version := x.version, typ := 2, opcode := op, status := r.status, tag := tag, sid := x.sid, seq := x.txSeq + 1,
            retryAfter := r.retryAfter } (r.body op) (some x.key)

/-- A response leaves towards the sender of its request and is kept under its TAG, for 1 s from this sending, be it the first or a
repeat (DESIGN CHOICE, log 128); the response of a closed session is discarded (R86, R87, R91, R95, R100). -/
def State.respond (s : State) (slot tag : Nat) (r : Resp) : State :=
  let x := s.session slot
  if x.stage ≠ .opened then s
  else
    let k := { tag := tag, resp := r, sentAt := s.now }
    let a := x.asked.find? (fun e => e.1 = tag)
    let op := (a.map (fun e => e.2.1)).getD 0
    let s := s.setSession slot { x with txSeq := x.txSeq + 1, kept := x.kept.filter (fun y => y.tag ≠ tag) ++ [k] }
    s.sendTo slot (a.map (fun e => e.2.2)) (.response slot tag r {} (x.respWire op tag r))

/-- The count of requests that wait for their response, with OUTSTANDING. -/
def State.setOutstanding (s : State) (n : Nat) : State :=
  { s with rap := { s.rap with outstanding := n } }.set RAP.page RAP.OUTSTANDING_COUNT n

/-- A request waits for its response. -/
def State.deferred (s : State) : State := s.setOutstanding (s.rap.outstanding + 1)

/-- A request of a slot that held back those after it has ended. -/
def State.unblock (s : State) (slot : Nat) : State := { s with rap := { s.rap with blocked := s.rap.blocked.erase slot } }

/-- A bulk write pauses behind the word that this answers. -/
def State.pausedAt (s : State) (slot tag : Nat) : Option BulkRest :=
  s.rap.rest.find? (fun b => b.slot = slot && b.h.tag.toNat = tag && !b.go)

/-- A response that comes later is sent. Where it answers a word of a bulk write, the words after it go on next, in the order of the
session, when it is OK; otherwise the bulk write stops there (R97). -/
def State.answer (s : State) (slot tag : Nat) (r : Resp) : State :=
  match s.pausedAt slot tag with
  | none => (s.setOutstanding (s.rap.outstanding - 1)).respond slot tag r
  | some b =>
    let l := s.rap.rest.erase b
    if r.status = 0 then
      { s with rap := { s.rap with rest := { b with done := b.done + 1, go := true } :: l, blocked := s.rap.blocked ++ [slot] } }
    else
      (({ s with rap := { s.rap with rest := l } } : State).setOutstanding (s.rap.outstanding - 1)).respond slot tag { r with done := b.done }

end Sys2Proof.Machine
end

