-- ==== Sys2Proof/Machine/Cells.lean ====
section
/-!
DEFINITION. The bytes of cells and of the units that carry them (R389, R449, R450, Tables 14-5 and 14-6).
-/
namespace Sys2Proof.Machine

/-- CRC-16 with x¹⁶ + x¹² + x⁵ + 1 over the top bits of a header, from bit `i` down. -/
def crc16 (v : Nat) : Nat :=
  (List.range 112).foldl (fun c i => let top := bitOf c 15 != bitOf v (111 - i); (2 * c % 65536) ^^^ (if top then 0x1021 else 0)) 0xFFFF

/-- A header from its upper 112 bits. -/
def withHcrc (top : Nat) : Nat := 65536 * top + crc16 top

/-- The header of a DATA cell (Table 14-5). -/
def dataHeader (c : Cell) : Nat :=
  withHcrc (b2n c.sof * 2 ^ 107 + b2n c.eof * 2 ^ 106 + c.cls * 2 ^ 104 + c.dest * 2 ^ 95 + c.src * 2 ^ 86 + c.ep * 2 ^ 68
    + c.len * 2 ^ 60 + c.hops * 2 ^ 54 + c.seq * 2 ^ 22 + b2n c.sync * 2 ^ 21)

/-- A payload of 240 bytes, zeros after what there is. -/
def pad240 (l : List Nat) : List Nat := (List.range 240).map (fun i => l.getD i 0)

/-- The payload of a data cell: what was received, or the frame's bytes, which the model does not carry, followed by zeros in an EOF
cell (R449; DESIGN CHOICE, log entry 141). -/
def Cell.payload (c : Cell) : List Nat :=
  if !c.data.isEmpty then pad240 c.data
  else (List.range 240).map (fun i => if c.eof && c.len != 0 && decide (c.len ≤ i) then 0 else Config.frameByte c.dest c.src c.seq i % 256)

/-- The 256 bytes of a data cell. -/
def Cell.bytes (c : Cell) : List Nat := beBytes 16 (dataHeader c) ++ c.payload

/-- The 256 bytes of a control cell from its TYPE, the part that sends it and its payload; its other header fields are 0 (R449). -/
def ctlCell (ty src : Nat) (pay : List Nat) : List Nat := beBytes 16 (withHcrc (ty * 2 ^ 108 + src * 2 ^ 86)) ++ pad240 pay

/-- A filler cell (R449). -/
def fillerCell : List Nat := beBytes 16 (withHcrc (2 ^ 108)) ++ List.replicate 240 0

/-- The unit of a packet gathering of so many bytes: control cells, then the cells given, then fillers, and zeros where no whole cell
fits (R450, R451). -/
def packUnit (bytes : Nat) (ctl : List (List Nat)) (cells : List Cell) : List Nat :=
  let l := ctl.flatten ++ cells.flatMap Cell.bytes
  l ++ (List.replicate (bytes / 256 - (ctl.length + cells.length)) fillerCell).flatten ++ List.replicate (bytes % 256) 0

/-- The bytes of bits, the first bit the most significant, a short last byte filled with zeros. -/
def packBits (l : List Bool) : List Nat :=
  (List.range (ceilDiv l.length 8)).map (fun i => (List.range 8).foldl (fun v j => 2 * v + b2n (l.getD (8 * i + j) false)) 0)

/-- The bits of bytes, most significant first. -/
def bitsOfBytes (l : List Nat) : List Bool := l.flatMap (fun b => (List.range 8).map (fun j => bitOf b (7 - j)))

/-- The unit of a transparent client on port `p`: an 8-byte header with N, the N blocks from `first` on, whose content is the
client's, and zero fill (R389). -/
def clientUnit (bytes p n first : Nat) : List Nat :=
  let blocks := packBits ((List.range n).flatMap (fun k => (List.range 257).map (fun j => Config.clientBit p (first + k) j)))
  (beBytes 2 n ++ List.replicate 6 0 ++ blocks ++ List.replicate (bytes - (8 + blocks.length)) 0).take bytes

/-- HELLO payload (Table 14-6). -/
def helloBytes (addr verMax role link ident domain t t1 t2 : Nat) : List Nat :=
  beBytes 2 addr ++ [verMax * 16 + role * 4, link] ++ beBytes 8 ident ++ beBytes 8 domain ++ beBytes 8 t ++ beBytes 8 t1 ++ beBytes 8 t2

/-- PAUSE payload (R459). -/
def pauseBytes (origin port : Nat) (paused : Bool) (seq : Nat) : List Nat := beBytes 2 origin ++ [port, b2n paused] ++ beBytes 2 seq

end Sys2Proof.Machine
end

