-- ==== Sys2Proof/Machine/Codes.lean ====
section
/-!
DEFINITION. The two codes of FECn over plain data: the BCH cleaner over GF(2¹³) with its decoder (R246, R253), the encoding into
codewords (R247, R248), and the layered normalised min-sum decoder (R252).
-/
namespace Sys2Proof.Machine

/-! ### The BCH cleaner: encoding (R246) -/

/-- The generator of the BCH cleaner over GF(2), of degree 52: the product of the minimal polynomials of α, α³, α⁵ and
α⁷ for x¹³ + x⁴ + x³ + x + 1 (R246). -/
def bchGen : Nat := 0x14523043AB86AB

/-- One step of the division by the generator: the remainder takes an information bit. -/
def bchStep (r : Nat) (b : Bool) : Nat :=
  let x := 2 * r
  if bitOf r 51 != b then (x ^^^ bchGen) % 2 ^ 52 else x % 2 ^ 52

/-- The 52 parity bits of a BCH codeword, most significant coefficient first (R246). -/
def bchParity (info : List Bool) : List Bool :=
  let r := info.foldl bchStep 0
  (List.range 52).map (fun i => bitOf r (51 - i))

/-- The input bits of BCH codeword j of N_b (R246). -/
def bchInfo (bits : List Bool) (nb j : Nat) : List Bool :=
  (bits.zipIdx.filter (fun x => x.2 % nb = j)).map (·.1)

/-- W: the input bits, then each codeword's parity (R246). -/
def bchEncode (bits : List Bool) : List Bool :=
  let nb := bchWords bits.length
  bits ++ (List.range nb).flatMap (fun j => bchParity (bchInfo bits nb j))

/-! ### GF(2¹³) and the BCH decoder (R246, R253) -/

/-- A product in GF(2¹³) with the primitive polynomial x¹³ + x⁴ + x³ + x + 1. -/
def bchMul (a b : Nat) : Nat :=
  (List.range 13).foldr (fun i r =>
    let x := 2 * r
    let y := if 2 ^ 13 ≤ x then x ^^^ 0x201B else x
    if bitOf b i then y ^^^ a else y) 0

/-- α^n, α being the element x. -/
def bchPow (n : Nat) : Nat := (List.range 13).foldr (fun i r =>
  let q := bchMul r r
  if bitOf n i then bchMul q 2 else q) 1

/-- The inverse a^(2¹³ − 2). -/
def bchInv (a : Nat) : Nat := (List.range 13).foldr (fun i r =>
  let q := bchMul r r
  if i = 0 then q else bchMul q a) 1

/-- Syndrome j of a word, its first bit the highest coefficient: the word at α^j. -/
def bchSyndrome (word : List Bool) (j : Nat) : Nat := word.foldl (fun r b => bchMul r (bchPow j) ^^^ b2n b) 0

/-- A step of Berlekamp and Massey's search: connection polynomial, its predecessor, length, shift, last discrepancy. -/
structure Bm where
  c : List Nat := [1]
  b : List Nat := [1]
  len : Nat := 0
  m : Nat := 1
  d : Nat := 1

def Bm.next (syn : List Nat) (x : Bm) (k : Nat) : Bm :=
  let d := (List.range (x.len + 1)).foldl (fun r i => r ^^^ bchMul (x.c.getD i 0) (syn.getD (k - i) 0)) 0
  let q := bchMul d (bchInv x.d)
  let c' := (List.range (max x.c.length (x.b.length + x.m))).map (fun i =>
    x.c.getD i 0 ^^^ (if x.m ≤ i then bchMul q (x.b.getD (i - x.m) 0) else 0))
  if d = 0 then { x with m := x.m + 1 }
  else if 2 * x.len ≤ k then { c := c', b := x.c, len := k + 1 - x.len, m := 1, d := d }
  else { x with c := c', m := x.m + 1 }

/-- A BCH codeword corrected in up to 4 bits, with their number; none when its syndrome shows more (R253). -/
def bchCorrect (word : List Bool) : Option (List Bool × Nat) :=
  let syn := (List.range 8).map (fun j => bchSyndrome word (j + 1))
  if syn.all (· = 0) then some (word, 0)
  else
    let x := (List.range 8).foldl (Bm.next syn) {}
    let n := word.length
    let wrong := (List.range n).filter (fun i =>
      let p := n - 1 - i
      ((List.range (x.len + 1)).foldl (fun r j => r ^^^ bchMul (x.c.getD j 0) (bchPow ((8191 * j - p * j) % 8191))) 0) = 0)
    if x.len ≤ 4 ∧ wrong.length = x.len then
      some (word.zipIdx.map (fun b => if wrong.contains b.2 then !b.1 else b.1), x.len)
    else none

/-! ### LDPC encoding and interleaving (R247, R248) -/

/-- A systematic LDPC codeword: k information bits, then n − k parity bits; the base matrices that give the parity are
not in the spec, so each parity bit is an open function of the information (R247). -/
def ldpcEncode (profile : Nat) (info : List Bool) : List Bool :=
  info ++ (List.range (30720 - ldpcK profile)).map (fun i => Config.ldpcParity profile info i)

/-- The coded bits of a stream: N_c codewords interleaved bit by bit (R247, R248). -/
def fecEncode (profile : Nat) (bits : List Bool) : List Bool :=
  let w := bchEncode bits
  let k := ldpcK profile
  let nc := ceilDiv w.length k
  let words := (List.range nc).map (fun c =>
    let blk := (w.drop (c * k)).take k
    ldpcEncode profile (blk ++ List.replicate (k - blk.length) false))
  (List.range (nc * 30720)).map (fun p => ((words.getD (p % nc) []).getD (p / nc) false))

/-! ### LDPC decoding (R251, R252) -/

/-- An LLR in steps of 0.5, clipped at ±15.5 (R251). -/
def quantLlr (l : Rat) : Int := clampI 31 (nearest (2 * l))

/-- The hard decision of a value. -/
def hardBit (v : Int) : Bool := if v = 0 then Config.zeroBit else decide (v < 0)

/-- A block row of the base matrix: its columns with their shifts. -/
abbrev BaseRow := List (Nat × Nat)

/-- The column of the codeword that row z of a circulant of shift s meets: the identity shifted right by s (R247). -/
def circAt (e : Nat × Nat) (z : Nat) : Nat := 256 * e.1 + (z + e.2) % 256

/-- The hard decisions satisfy every check. -/
def parityOk (rows : List BaseRow) (v : Nat → Int) : Bool :=
  rows.all (fun r => (List.range 256).all (fun z => !(r.foldl (fun b e => b != hardBit (v (circAt e z))) false)))

/-- The decoder's values of the codeword's bits, and the messages of layer, column and row of the circulant. -/
structure LdpcSt where
  v : Nat → Int
  m : Nat → Nat → Nat → Int

/-- One layer: each check's message to a bit is 0.75 times the least magnitude of its other bits with the product of their signs, in
6 bits (R252). -/
def ldpcLayer (x : LdpcSt) (r : Nat × BaseRow) : LdpcSt :=
  let t := fun (e : Nat × Nat) (z : Nat) => x.v (circAt e z) - x.m r.1 e.1 z
  let new := fun (e : Nat × Nat) (z : Nat) =>
    let o := (r.2.filter (fun f => f.1 != e.1)).map (fun f => t f z)
    let mag := clampI 31 (Config.norm75 ((o.map (·.natAbs)).foldl min 31))
    if o.foldl (fun b w => b != decide (w < 0)) false then -mag else mag
  { v := fun i => match r.2.find? (fun e => e.1 = i / 256) with
      | none => x.v i
      | some e => t e ((i + 256 - e.2 % 256) % 256) + new e ((i + 256 - e.2 % 256) % 256),
    m := fun l c z => if l = r.1 then (match r.2.find? (fun e => e.1 = c) with | some e => new e z | none => 0) else x.m l c z }

/-- Decoding within `fuel` further iterations, one pass over all layers each: the count at which the syndrome is zero, if it comes to
that, and the values then (R252). -/
def ldpcRun (rows : List BaseRow) : Nat → Nat → LdpcSt → Option Nat × LdpcSt
  | 0, k, x => (if parityOk rows x.v then some k else none, x)
  | f + 1, k, x =>
    if parityOk rows x.v then (some k, x)
    else ldpcRun rows f (k + 1) ((rows.zipIdx.map (fun r => (r.2, r.1))).foldl ldpcLayer x)

end Sys2Proof.Machine
end

