-- ==== Sys2Proof/Machine/Repair.lean ====
section
/-!
DEFINITION. Requests for NV transactions (R568) and the repair map's record of a repair (R606, R608).
-/
namespace Sys2Proof.Machine

/-- A transaction joins the queue in request order; `first` is the storage-key destruction of R569, which goes next
after the one whose commit is in progress. -/
def State.nvRequest (s : State) (op : NvOp) (commits : Nat) (first : Bool := false) : State :=
  let q := s.nv.queue
  let q' := if first then q.take 1 ++ { op := op, commits := commits } :: q.drop 1 else q ++ [{ op := op, commits := commits }]
  { s with nv := { s.nv with queue := q' } }.setB NVS.page NVS.STATUS_BUSY true

/-- The first word of a map entry: class, state, location (Table 22-6). -/
def mapWord (cls state loc : Nat) : Nat := cls + 16 * state + 256 * loc

/-- Location of a sub-converter, a slice or engine, a lane, and an SRAM row or column; Table 22-6 numbers the bits from
bit 8 of the word. -/
def locSubconv (carrier c unit : Nat) : Nat := carrier + 2 * c + 16 * unit
def locUnit (carrier number : Nat) : Nat := carrier + 16 * number
def locLane (die dir lane : Nat) : Nat := die + 2 * dir + 4 * lane
def locSram (array line : Nat) : Nat := array + 65536 * line

/-- A repair acts at once; its entry is queued for the map, or MAP_FULL is raised (R608). -/
def State.repair (s : State) (cls state loc : Nat) : State :=
  let s := s.count (RPR.page + RPR.REPAIRS)
  if 2048 ≤ s.get RPR.page RPR.STATUS_ENTRIES + s.rpr.mapPending then s.raise Kind.RPR.pages.1 RPR.ev_MAP_FULL
  else
    { s with rpr := { s.rpr with mapPending := s.rpr.mapPending + 1 } }.nvRequest (.mapEntry (mapWord cls state loc)) 1

/-- A spare of a class leaves the free count of SPARES; the last one raises SPARES_EXHAUSTED (Table 22-7). -/
def State.useSpare (s : State) (f : Fld) : State :=
  let n := s.get RPR.page f
  let s := s.set RPR.page f (n - 1)
  s.raiseIf (n = 1) Kind.RPR.pages.1 RPR.ev_SPARES_EXHAUSTED

/-- STATUS.STATE follows: a sweep, a memory BIST, a request that waits (Table 22-5). -/
def State.showRpr (s : State) : State :=
  let st := if s.rpr.sweepOn then 2 else if s.hasLeave 3 0 then 3 else if s.leaveQueued 5 0 || s.leaveQueued 3 0 then 1 else 0
  s.set RPR.page RPR.STATUS_STATE st

/-- The spare slice of carrier n shadows a failed slice until the gutter that hands over (R179). -/
def State.handingOver (s : State) (n : Nat) : Bool :=
  let b := RXD.page n
  s.get b RXD.SLICE_STATUS_SPARE_STATE = 1 && (s.rxs n).failedSlices.contains (s.get b RXD.SLICE_STATUS_SLICE)

/-- A sweep whose entries are all sealed ends its leave (R610); one of the slices when what it condemned has been handed over. -/
def State.sweepSealed (s : State) : State :=
  if s.rpr.sweepEnding && s.rpr.mapPending = 0 && !(s.rpr.lastClass = 1 && (s.handingOver 0 || s.handingOver 1)) then
    let s := { s with rpr := { s.rpr with sweepOn := false, sweepEnding := false } }.endLeave 5 0
    let s := s.setNat64 (RPR.page + RPR.LAST_SWEEP_TIME) s.dtime
    s.showRpr.raise Kind.RPR.pages.1 RPR.ev_SWEEP_DONE
  else s

/-- The most resources that a class tests (Table 22-1, Table 22-2). -/
def classSize (k : Nat) : Nat := [0, 48, 52, 2112, 64, 0].getD k 0

/-- A real failure of a class's resource starts a repair: the sweep of that class ends at once, and what it had not tested yet,
which no register shows and is a free value, counts as skipped (R611). -/
def State.sweepYield (s : State) (k : Nat) : State :=
  if !s.rpr.sweepOn ∨ s.rpr.sweepEnding ∨ s.rpr.lastClass ≠ k then s
  else
    let n := s.freeVal % (classSize k + 1)
    let s := s.nextFree.sweepUnshadow
    let s := (s.count (RPR.page + RPR.SKIPPED) n).raiseIf (n != 0) Kind.RPR.pages.1 RPR.ev_SWEEP_SKIPPED
    { s with rpr := { s.rpr with sweepEnding := true } }.sweepSealed

end Sys2Proof.Machine
end

