-- ==== Sys2Proof/Machine/Txd.lean ====
section
/-!
DEFINITION. TXDn: symbol mapping and shaping of a folio, mask units, pre-compensation, skew, clipping, the output
sequence and the SPI port (chapter 6).
-/
namespace Sys2Proof.Machine

/-! ### Streams and mask targets -/

/-- Codewords of each continuous stream that the carrier sends: one over all subcarriers in P2P role, else one a subcarrier,
the headband leading a hub's (R244, R247, R275). -/
def State.txWords (s : State) (n : Nat) : List Nat :=
  let sv := s.get (FRM.page n) FRM.RATE_SERVICE
  let role := s.get (SUB.page n) SUB.ROLE_ROLE
  let sizes := if role = 0 then [streamBits sv] else (List.range (s.kSub n)).map (fun i => subStreamBits sv (s.kSub n) i (role = 1))
  sizes.map (fun d => ldpcWords d (s.get (FEC.page n) FEC.CTRL_PROFILE))

/-- DEMAND: 30,720 coded bits for each codeword of a folio (R192, R248). -/
def State.demand (s : State) (n : Nat) : Nat := (s.txWords n).sum * 30720

/-- A mask unit of a carrier. -/
def TxState.mask (t : TxState) (m : Nat) : MaskUnit := if m = 0 then t.mask0 else t.mask1
def TxState.setMask (t : TxState) (m : Nat) (u : MaskUnit) : TxState :=
  if m = 0 then { t with mask0 := u } else { t with mask1 := u }

/-- Target of mask unit m: subcarrier 0 to 15, 0x10 the full carrier, 0x1F OFF. -/
def State.maskTarget (s : State) (n m : Nat) : Nat :=
  s.get (TXD.page n) (if m = 0 then TXD.MASK_ASSIGN_U0 else TXD.MASK_ASSIGN_U1)

/-- A subcarrier is muted by a mask unit (R201). -/
def State.subMuted (s : State) (n i : Nat) : Bool :=
  [0, 1].any (fun m => ((s.txs n).mask m).liveMuted && (s.maskTarget n m = i || s.maskTarget n m = 0x10))

/-- A leaf's ramp gain is 0 on a subcarrier that is not its own: but for bursts it sends on its dedicated one, while RANGED
or IN_SERVICE (Tables 7-1, 7-6). -/
def State.txSilent (s : State) (n i : Nat) : Bool :=
  let b := SUB.page n
  let st := s.get b SUB.LEAF_STATUS_STATE
  s.get b SUB.ROLE_ROLE = 2
    && !((st = 3 || st = 4) && s.flag b SUB.LEAF_STATUS_DED_VALID && s.get b SUB.LEAF_STATUS_DED_SUBC = i)

/-! ### The symbols of a folio (R185 to R196, R219 to R221) -/

/-- LEN and PROFILE of RAMP_CFG, which a ramp takes as it starts (R195). -/
def State.rampCfg (s : State) (n : Nat) : Nat × Bool :=
  (s.get (TXD.page n) TXD.RAMP_CFG_LEN, s.flag (TXD.page n) TXD.RAMP_CFG_PROFILE)

/-- The send settings of a carrier: format, E, composition and P_s (R189 to R191). -/
structure TxSet where
  baud : Nat
  k : Nat
  format : Nat
  e : Nat
  comp : List Nat
  ps : Rat

def State.txSet (s : State) (n : Nat) : TxSet :=
  let b := TXD.page n
  let f := s.get b TXD.MOD_FORMAT
  let e := blockBits f (s.get b TXD.MOD_ENTROPY)
  let c := s.composition n e
  { baud := s.baud n, k := s.kSub n, format := f, e := e, comp := c, ps := meanPower f c }

/-- Symbols of a subcarrier in a folio. -/
def TxSet.sy (c : TxSet) : Nat := symS c.baud c.k

/-- The labels of block `idx` of a run of coded bits, zeros beyond its end (R191, R192). -/
def TxSet.block (c : TxSet) (bits : List Bool) (idx : Nat) : List Nat :=
  let raw := (bits.drop (idx * c.e)).take c.e
  blockSymbols c.format c.e c.comp (raw ++ List.replicate (c.e - raw.length) false)

/-- One polarisation of subcarrier `sub` from a stream's coded bits, blocks in the order of R249: a P2P stream runs over all
subcarriers. -/
def TxSet.continuous (c : TxSet) (p2p : Bool) (sub : Nat) (y : Bool) (bits : List Bool) : List Cx :=
  let labels := (List.range (symD c.baud c.k / 64)).flatMap (fun b => c.block bits ((if p2p then b * c.k + sub else b) * 2 + b2n y))
  (folioSymbols c.baud c.k sub y labels).map (symbolValue (symG c.k) c.format c.ps)

/-- A fill symbol: the pilots' PRBS, continued after the last pilot (R189). -/
def TxSet.fillAt (c : TxSet) (sub : Nat) (y : Bool) (q : Nat) : Cx :=
  let j := symP c.baud c.k + q
  let b := prbsBits (2 * j + 2) (prbsSeed y sub)
  cscale (Config.sqrt (c.ps / 2)) (qpsk (b.getD (2 * j) false) (b.getD (2 * j + 1) false))

/-- First symbol of a burst, and the one after its ramp-down, counted from the start of its folio; a join burst's payload is 512
symbols (R219, R221, R222). `up` and `down` are the lengths of its ramps. -/
def TxBurst.span (u : TxBurst) (sy up down : Nat) : Nat × Nat :=
  let a := ceilDiv (u.start * sy) 1024
  (a, if u.record.isSome then a + up + 832 + down else (u.start + 16 * u.len) * sy / 1024)

/-- Symbol `o` of a burst, counted from the start of its folio: ramp-up over the preamble's cyclic prefix, preamble, sync word, payload,
ramp-down over the folio's symbols. In the payload the gutter and the pilots stand at their places, and data go in groups of 64; a
shorter group, and the data positions under the ramp-down, carry fill, counted from its first. A join record's bits go out from bit
0 on, bits 2i and 2i + 1 as the QPSK bits of symbol i of each copy (R195, R219 to R221, R249; log 126). -/
def State.burstSymbol (s : State) (n : Nat) (u : TxBurst) (y : Bool) (o : Nat) : Cx :=
  let c := s.txSet n
  let (up, upC) := u.ramp.getD (s.rampCfg n)
  let (dn, dnC) := s.rampCfg n
  let (a, b) := u.span c.sy up dn
  let head := a + up + 320
  if o < a ∨ b ≤ o then {}
  else if o < a + up then cscale (rampGainAt up upC (o - a)) (preambleAt c.ps y (o - a + 1024 - up))
  else if o < head then (knownBurst c.ps u.sync y).getD (o - a - up) {}
  else
    let q := dataTo c.baud c.k o - dataTo c.baud c.k head
    let groups := (dataTo c.baud c.k (b - dn) - dataTo c.baud c.k head) / 64
    let gain := if b - dn ≤ o then rampGainAt dn dnC (b - 1 - o) else 1
    let v := match u.record with
      | some r =>
        if o < b - dn then
          let j := (o - head) % 64
          some (cscale (Config.sqrt (c.ps / 2)) (qpsk (r.getLsbD (2 * j)) (r.getLsbD (2 * j + 1))))
        else none
      | none => none
    cscale gain (match v, knownAt c.baud c.k u.subc y c.ps (o % c.sy) with
      | some v, _ => v
      | none, some v => v
      | none, none =>
        if u.record.isNone ∧ q < 64 * groups then
          dataPoint c.format ((c.block u.bits (2 * (q / 64) + b2n y)).getD (q % 64) 0)
        else c.fillAt u.subc y (q - 64 * groups))

/-- A pair that waits for upstream folio `c` with one of these actions for this leaf (R225, R230). -/
def State.assignDue (s : State) (n c : Nat) (actions : List Nat) : Option Assign :=
  let b := SUB.page n
  ((s.subst n).leafDue.filterMap (fun d => match d.2 with
    | .assign a =>
      if d.1 % 4096 = c % 4096 ∧ actions.contains a.action ∧ s.flag b SUB.LEAF_STATUS_NUM_VALID
          ∧ a.leaf = s.get b SUB.LEAF_STATUS_LEAF then some a else none
    | .grant _ => none)).head?

/-- The gain of symbol `p` of folio `c` on a leaf's dedicated subcarrier `i`: it reaches 1, or 0, as the folio ends before which the
pair acts (R196, R230). -/
def State.dedGain (s : State) (n c i p : Nat) : Rat :=
  let sy := (s.txSet n).sy
  let (len, cos) := s.rampCfg n
  let j := p - (sy - len)
  let end_ := decide (sy - len ≤ p)
  if s.txSilent n i then
    match s.assignDue n (c + 1) [2] with
    | some a => if a.offset / 2 ^ 18 = i ∧ end_ then rampGainAt len cos j else 0
    | none => 0
  else if (s.assignDue n (c + 1) [3, 4]).isSome then (if end_ then rampGainAt len cos (len - 1 - j) else 1)
  else 1

/-- The bursts of a leaf that reach into folio `c` on a subcarrier, each with the symbol of its own count at which the folio starts. -/
def State.burstsIn (s : State) (n c i : Nat) : List (TxBurst × Nat) :=
  (s.subst n).bursts.filterMap (fun u =>
    let d := (c % 4096 + 4096 - u.folio % 4096) % 4096
    if u.subc = i ∧ d < 64 then some (u, d * (s.txSet n).sy) else none)

/-- One polarisation of subcarrier `i` in folio `c`, after the ramp gain: zeros where a mask unit mutes it, a leaf's bursts and its
dedicated subcarrier, else the stream (R196, R201, Table 6-1 stages 1 and 2). -/
def State.subSymbols (s : State) (n c i : Nat) (y : Bool) (bits : List Bool) : List Cx :=
  let x := s.txSet n
  if s.subMuted n i then List.replicate x.sy {}
  else
    let cont := x.continuous (s.role n = 0) i y bits
    if s.role n ≠ 2 then cont
    else
      let us := s.burstsIn n c i
      (List.range x.sy).map (fun p =>
        (us.map (fun u => s.burstSymbol n u.1 y (u.2 + p))).foldl cadd (cscale (s.dedGain n c i p) (cont.getD p {})))

/-! ### From symbols to the DACs (Table 6-1, stages 3 to 9) -/

/-- The mask unit that serves a subcarrier. -/
def State.maskOf (s : State) (n i : Nat) : Option Nat :=
  [0, 1].find? (fun m => s.maskTarget n m = i || s.maskTarget n m = 0x10)

/-- The 256 taps of bank `b` of unit m (R197, R211). -/
def State.maskTaps (s : State) (n m b : Nat) : List Cx :=
  (List.range 256).map (fun k => cxOf (s.nat (TXDW.FIR n (512 * m + 256 * b + k))))

/-- Symbols of the folio before that a shaping filter still sees. -/
def txMem : Nat := 128

/-- A subcarrier's symbols shaped at 2 samples a symbol: by the active bank of its mask unit, else by the root-raised cosine
(R193, R197). -/
def State.shaped (s : State) (n i : Nat) (old z : List Cx) : List Cx :=
  let w := old ++ z
  let out := match s.maskOf n i with
    | some m => fir2 (s.maskTaps n m (s.get (TXD.page n) (TXD.MASK_CTRL_BANK_ACTIVE m))) w
    | none => Config.rrc (rolloffPm (s.get (TXD.page n) TXD.SC_CFG_ROLLOFF)) w
  out.drop (2 * old.length)

/-- The folio's samples at 2 samples a symbol of B: subcarriers shifted to their centres and added, then the pre-compensation of
CURRENT (R193, R202). `x` and `y` hold the shaped subcarriers. -/
def State.composed (s : State) (n c : Nat) (x y : List (List Cx)) : List Dual :=
  let k := s.kSub n
  let alpha := rolloffPm (s.get (TXD.page n) TXD.SC_CFG_ROLLOFF)
  let at_ := fun (i : Nat) (z : List Cx) =>
    if k = 1 then z else shiftSub k i alpha (c * 2000 * s.baud n) (Config.upsample k z)
  let add := fun (l : List (List Cx)) => sumStreams (l.zipIdx.map (fun v => at_ v.2 v.1))
  let dual := ((add x).zip (add y)).map (fun v => (⟨v.1, v.2⟩ : Dual))
  Config.cdFilter (s.getI (TXD.page n) TXD.CD_PRE_CURRENT) (s.get (RXD.page n) RXD.OPT_FREQ_FREQ) dual

/-- DAC d's real stream at 360 GS/s: XI, XQ, YI, YQ (Table 4-1). -/
def dacPart (v : List Dual) (d : Nat) : List Rat :=
  v.map (fun u => match d with | 0 => u.x.re | 1 => u.x.im | 2 => u.y.re | _ => u.y.im)

/-- The 16 pre-emphasis taps of DAC d in the window, value/4,096 (R204, Table 6-8). -/
def State.preTaps (s : State) (n d : Nat) : List Rat :=
  (List.range 16).map (fun k => (toSigned 16 (bitsOf (s.nat (TXDW.PREEMPH n (16 * d + k))) 0 16) : Rat) / 4096)

/-- The power of a unit's FIR output in its 1,024 bins over a folio. -/
def maskSpectrum (x y : List Cx) : List Rat :=
  let v := (x.zip y).map (fun v => (⟨v.1, v.2⟩ : Dual))
  (List.range 1024).map (Config.spectrum v)

/-- Two lists of 1,024 powers added. -/
def addBins (a b : List Rat) : List Rat := (List.range 1024).map (fun i => a.getD i 0 + b.getD i 0)

/-- A target's signal reaches its unit: it is neither muted nor, of a leaf, silent (R201). -/
def State.carries (s : State) (n m : Nat) : Bool :=
  let u := s.maskTarget n m
  u != 0x1F && s.active (Kind.TXD.pg n) && !((s.txs n).mask m).liveMuted && (u = 0x10 || !s.txSilent n u)

/-- The spectra that the mask units add up over the quire (R201). -/
def State.addSpectra (s : State) (n : Nat) (x y : List (List Cx)) : State :=
  each [0, 1] (fun m t =>
    if !t.carries n m then t
    else
      let i := if t.maskTarget n m = 0x10 then 0 else t.maskTarget n m
      let u := (t.txs n).mask m
      t.setTx n ((t.txs n).setMask m { u with spectrum := addBins u.spectrum (maskSpectrum (x.getD i []) (y.getD i [])) })) s

/-- DAC d sends a folio: launch delay, pre-emphasis, level, the codes with those that saturate counted, and the mute gain, sample by
sample at 360 GS/s (R203 to R205, R208). -/
def State.dacFolio (s : State) (n d : Nat) (v : List Dual) : State :=
  let b := TXD.page n
  let t := s.txs n
  let r := Config.delay (s.getI b (TXD.SKEW_CUR_SKW d)) (dacPart v d)
  let old := t.dacTail.getD d []
  let f := if s.flag b TXD.CTRL_PREEMPH_EN then (firReal ((t.tapsInUse.drop (16 * d)).take 16) (old ++ r)).drop old.length else r
  let codes := (levelled (s.get b TXD.LEVEL_RMS) f).map dacCode
  let us := s.get b TXD.OCP_CFG_UNMUTE_RAMP
  let out := codes.zipIdx.map (fun x => (muteCode (rampGain t (s.now - t.rampAt + x.2 / 360) us) x.1.1 : Int))
  let hit := (codes.filter (·.2)).length
  (s.setTx n { t with clips := t.clips.set d (t.clips.getD d 0 + hit), dacTail := t.dacTail.set d (r.drop (r.length - 15)) }).send "dac"
    ((n : Int) :: (d : Int) :: out)

/-- The coded bits of folio `c` of a stream, in the order of their encoding. -/
def TxState.codedOf (t : TxState) (st c : Nat) : List (List Bool) :=
  ((Tab.get (fun _ => []) t.coded st).filter (fun x => x.1 = c)).map (·.2)

/-- The bursts that start in folio `c` take their coded bits and the ramp-up (R195, R249). -/
def State.startBursts (s : State) (n c : Nat) : State :=
  let x := s.subst n
  let go := x.bursts.foldl (fun (a : List TxBurst × List (Nat × Nat)) u =>
    if u.folio % 4096 ≠ c % 4096 then (a.1 ++ [u], a.2)
    else
      let j := (a.2.filter (fun e => e.1 = u.subc)).length
      let bits := if u.record.isSome then [] else ((s.txs n).codedOf (16 + u.subc) c).getD j []
      (a.1 ++ [{ u with bits := bits, ramp := some (s.rampCfg n) }], if u.record.isSome then a.2 else a.2 ++ [(u.subc, 0)])) ([], [])
  s.setSub n { x with bursts := go.1 }

/-- Bursts whose ramp-down has ended before folio `c` go. -/
def State.endBursts (s : State) (n c : Nat) : State :=
  let x := s.subst n
  let sy := (s.txSet n).sy
  let dn := (s.rampCfg n).1
  let left := fun (u : TxBurst) =>
    let d := (c % 4096 + 4096 - u.folio % 4096) % 4096
    !(decide (d < 64) && decide ((u.span sy (u.ramp.getD (0, false)).1 dn).2 ≤ d * sy))
  s.setSub n { x with bursts := x.bursts.filter left }

/-- TX_FOLIO_MAP: the oldest folio that FRMn handed over, once FECn has coded its streams, goes through Table 6-1: each subcarrier's
symbols from its stream's coded bits, shaping, shift and sum, pre-compensation, resampling, and the four DACs. Pre-emphasis taps
written meanwhile are in use from its gutter on (R183 to R205). -/
def execTxFolioMap (n : Fin 2) (s : State) : Host.Outcome State Fault Refusal :=
  act s fun s =>
    let t := s.txs n
    match t.due with
    | [] => s
    | (c, streams) :: r =>
      if !s.active (Kind.TXD.pg n) || streams.any (fun st => decide ((t.codedOf st c).length < streams.count st)) then s
      else
        let s := (s.endBursts n c).startBursts n c
        let subs := List.range (s.kSub n)
        let bits := fun (i : Nat) => (t.codedOf (if s.role n = 0 then 0 else i) c).headD []
        let zx := subs.map (fun i => s.subSymbols n c i false (bits i))
        let zy := subs.map (fun i => s.subSymbols n c i true (bits i))
        let old := fun (y : Bool) (i : Nat) => Tab.get (fun _ => []) t.tail (2 * i + b2n y)
        let x := subs.map (fun i => s.shaped n i (old false i) (zx.getD i []))
        let y := subs.map (fun i => s.shaped n i (old true i) (zy.getD i []))
        let v := Config.toDac (s.baud n) (s.composed n c x y)
        let keep := fun (z : List Cx) => z.drop (z.length - txMem)
        let tail := subs.foldl (fun u i => Tab.put (fun _ => []) (Tab.put (fun _ => []) u (2 * i) (keep (zx.getD i []))) (2 * i + 1)
          (keep (zy.getD i []))) []
        let s := s.addSpectra n x y
        let s := s.setTx n { s.txs n with
          due := r, coded := t.coded.foldl (fun u e => Tab.put (fun _ => []) u e.1 (e.2.filter (fun x => x.1 != c))) [],
          tail := tail, tapsInUse := (List.range 4).flatMap (s.preTaps n), folio := c }
        each (List.range 4) (fun d t => t.dacFolio n d v) s

/-- A leaf's DACs are ramped to zero at symbol `p` of the folio on the line, between its bursts (R117, R196). -/
def State.betweenBursts (s : State) (n p : Nat) : Bool :=
  let c := (s.txs n).folio
  let sy := (s.txSet n).sy
  let dn := (s.rampCfg n).1
  let covers := fun (u : TxBurst × Nat) =>
    let w := u.1.span sy (u.1.ramp.getD (s.rampCfg n)).1 dn
    decide (w.1 ≤ u.2 + p) && decide (u.2 + p < w.2)
  s.role n = 2 && s.active (Kind.TXD.pg n) && !s.flag (SUB.page n) SUB.LEAF_STATUS_DED_VALID
    && (List.range (s.kSub n)).all (fun i => (s.burstsIn n c i).all (fun u => !covers u))

/-! ### Configuration check (R194) -/

/-- CAPACITY of the carrier as configured (R192). -/
def State.capacity (s : State) (n : Nat) : Nat :=
  txCapacity (s.get (FRM.page n) FRM.RATE_BAUD) (s.kSub n)
    (blockBits (s.get (TXD.page n) TXD.MOD_FORMAT) (s.get (TXD.page n) TXD.MOD_ENTROPY))

/-- The targets of the mask units obey R199. -/
def maskAssignOk (k u0 u1 : Nat) : Bool :=
  let one := fun (m u : Nat) => u = 0x1F || (u = 0x10 && k = 1 && m = 0) || (u < 16 && u < k)
  one 0 u0 && one 1 u1 && !(u0 < 16 && u0 = u1)

/-- The configuration check of TXDn (R194); it sets CAPACITY and DEMAND. -/
def State.checkTxd (s : State) (n : Nat) : Bool × State :=
  let b := TXD.page n
  let k := s.kSub n
  let baud := s.get (FRM.page n) FRM.RATE_BAUD
  let cap := s.capacity n
  let dem := s.demand n
  let assigned := fun m => s.maskTarget n m != 0x1F
  let good := baud * (1000 + rolloffPm (s.get b TXD.SC_CFG_ROLLOFF)) ≤ 648000
    && !(k = 16 && baud % 2 = 1)
    && dem ≤ cap
    && maskAssignOk k (s.maskTarget n 0) (s.maskTarget n 1)
    && (!assigned 0 || (s.txs n).mask0.activePassed) && (!assigned 1 || (s.txs n).mask1.activePassed)
  (good, (s.set b TXD.CAPACITY_BITS cap).set b TXD.DEMAND_BITS dem)

/-! ### Mask units (R197 to R201) -/

/-- The banks of unit m are exchanged: RESULT reads NONE, the bank counts as passed, a muted target is freed. -/
def State.maskExchange (s : State) (n m : Nat) : State :=
  let b := TXD.page n
  let t := s.txs n
  let u := t.mask m
  let s := s.setTx n (t.setMask m { u with exchangeDue := false, activePassed := true, liveMuted := false })
  let s := s.set b (TXD.MASK_CTRL_BANK_ACTIVE m) (1 - s.get b (TXD.MASK_CTRL_BANK_ACTIVE m))
  (s.set b (TXD.MASK_CTRL_RESULT m) 0).showOut n

/-- The valid breakpoints of unit m, in entry order. -/
def State.breakpoints (s : State) (n m : Nat) : List (Int × Int) :=
  ((List.range 64).map (fun i => TXDW.BRK n (64 * m + i))).filterMap (fun a =>
    if s.flag a TXDW.BRK_BVALID then some (s.getI a TXDW.BRK_F, s.getI a TXDW.BRK_L) else none)

/-- A list in strictly ascending frequency. -/
def ascending : List (Int × Int) → Bool
  | a :: b :: r => a.1 < b.1 && ascending (b :: r)
  | _ => true

/-- The limit at frequency f, in units of 0.1 dB and 100 MHz: interpolated between breakpoints, the end level beyond (R198). -/
def maskLimit : List (Int × Int) → Rat → Rat
  | [], _ => 0
  | [a], _ => a.2
  | a :: b :: r, f =>
    if f ≤ a.1 then a.2
    else if f ≤ b.1 then a.2 + ((b.2 - a.2 : Int) : Rat) * (f - a.1) / ((b.1 - a.1 : Int) : Rat)
    else maskLimit (b :: r) f

/-- The margins of the 1,024 bins to the limit, in units of 0.1 dB, each with its frequency (R198, R201). -/
def maskMargins (baud k : Nat) (l : List (Int × Int)) (levels : List Rat) : List (Rat × Rat) :=
  levels.zipIdx.map (fun x => (maskLimit l (binFreq baud k x.2) - x.1, binFreq baud k x.2))

/-- The smallest margin and where it stands, the first of equals. -/
def worstBin (l : List (Rat × Rat)) : Rat × Rat :=
  match l with
  | [] => (0, 0)
  | x :: r => r.foldl (fun m y => if y.1 < m.1 then y else m) x

/-- MASK_CHECK_DONE: |H(f)|² of the inactive bank at the 1,024 bins is compared with the mask; no valid breakpoint, or an unordered
list, fails (R198, R200, R644). -/
def execMaskCheckDone (n : Fin 2) (m : Fin 2) (s : State) : Host.Outcome State Fault Refusal :=
  act s fun s =>
    let t := s.txs n
    let u := t.mask m
    if !u.checking then s
    else
      let l := s.breakpoints n m
      let taps := s.maskTaps n m (1 - s.get (TXD.page n) (TXD.MASK_CTRL_BANK_ACTIVE m))
      let w := worstBin (maskMargins (s.baud n) (s.kSub n) l (binLevels (firPower taps)))
      let pass := !l.isEmpty && ascending l && decide (0 ≤ w.1)
      let s := s.setTx n (t.setMask m { u with checking := false })
      let s := s.set (TXD.page n) (TXD.MASK_CTRL_RESULT m) (if pass then 1 else 2)
      let s := s.raise (Kind.TXD.pg n) TXD.ev_MASK_CHECK_DONE
      s.raiseIf (!pass) (Kind.TXD.pg n) TXD.ev_MASK_CHECK_FAIL

/-- MASK_BANK_EXCHANGE: in ACTIVE an applied bank takes effect at the first sample of the next gutter (R200). -/
def execMaskBankExchange (n : Fin 2) (m : Fin 2) (s : State) : Host.Outcome State Fault Refusal :=
  act s fun s => if ((s.txs n).mask m).exchangeDue then s.maskExchange n m else s

/-- MASK_LIVE_MEASURE: a quire ends: while the target carries signal the smallest margin of its averaged spectrum is reported; more
than 1 dB over raises MASK_LIVE_FAIL, and ACTION = 1 mutes the target (R201). -/
def execMaskLiveMeasure (n : Fin 2) (m : Fin 2) (s : State) : Host.Outcome State Fault Refusal :=
  act s fun s =>
    let b := TXD.page n
    let u := (s.txs n).mask m
    let s' := s.setTx n ((s.txs n).setMask m { u with spectrum := [] })
    if !s.carries n m || u.spectrum.isEmpty then s'
    else
      let w := worstBin (maskMargins (s.baud n) (s.kSub n) (s.breakpoints n m) (binLevels (u.spectrum.getD · 0)))
      let s := s'.setI b (TXD.MASK_MARGIN_MARGIN m) (clampI 32767 (nearest w.1))
      let s := s.setI b (TXD.MASK_MARGIN_FREQ m) (nearest w.2)
      if w.1 < -10 then
        let s := s.raise (Kind.TXD.pg n) TXD.ev_MASK_LIVE_FAIL
        if s.flag b (TXD.MASK_CTRL_ACTION m) then
          let t := s.txs n
          (s.setTx n (t.setMask m { t.mask m with liveMuted := true })).showOut n
        else s
      else s

/-! ### Pre-compensation, skew, level (R202 to R205) -/

/-- CD_PRE_MOVE: at a quire whose index is a multiple of 8, CURRENT moves 10 ps/nm toward TARGET (R202). -/
def execCdPreMove (n : Fin 2) (s : State) : Host.Outcome State Fault Refusal :=
  act s fun s =>
    let b := TXD.page n
    let c := s.getI b TXD.CD_PRE_CURRENT
    let t := s.getI b TXD.CD_PRE_TARGET
    if s.inConfig (Kind.TXD.pg n) ∨ c = t then s
    else s.cdPreTo n (if c < t then c + 1 else c - 1)

/-- TX_SKEW_STEP: in ACTIVE each DAC moves at most one unit toward SKEW at a gutter, and none on a gutter that carries
a change of R118 (R203). -/
def execTxSkewStep (n : Fin 2) (carriesChange : Bool) (s : State) : Host.Outcome State Fault Refusal :=
  act s fun s =>
    if !s.active (Kind.TXD.pg n) ∨ carriesChange then s
    else
      each (List.range 4) (fun c t =>
        let b := TXD.page n
        let v := t.getI b (TXD.SKEW_CUR_SKW c)
        let w := t.getI b (TXD.SKEW_SKW c)
        t.setI b (TXD.SKEW_CUR_SKW c) (if v < w then v + 1 else if w < v then v - 1 else v)) s

/-- CLIP_CHECK: each quire the saturated samples of the four DACs are counted; more than 18,432 of one DAC's
184,320,000 raise CLIP (R205). -/
def execClipCheck (n : Fin 2) (s : State) : Host.Outcome State Fault Refusal :=
  act s fun s =>
    let l := (s.txs n).clips
    let s := s.setTx n { s.txs n with clips := [0, 0, 0, 0] }
    let s := s.count (TXD.page n + TXD.CLIP_COUNT) l.sum
    s.raiseIf (l.any (fun x => 18432 < x)) (Kind.TXD.pg n) TXD.ev_CLIP

/-! ### The output sequence (R206 to R209) -/

/-- LASER_WAIT ms have passed since the enables (R207). -/
def State.laserWaited (s : State) (n : Nat) : Bool :=
  decide ((s.txs n).enabledAt + s.get (TXD.page n) TXD.OCP_CFG_LASER_WAIT * nsMs ≤ s.now)

/-- UNMUTE_START: LASER_WAIT has elapsed since the enables, or LASER_READY changes to a level after polarity (R207). -/
def execUnmuteStart (n : Fin 2) (ready : Option Bool) (s : State) : Host.Outcome State Fault Refusal :=
  act s fun s =>
    let t := s.txs n
    let t := match ready with
      | none => { t with waitDone := t.waitDone || (t.laserEn && s.laserWaited n) }
      | some r => { t with laserReady := r }
    ((s.setTx n t).showOut n).unmutePoint n

/-- LASER_READY_TIMEOUT: with READY_EN = 1, LASER_READY is not active LASER_WAIT after the enables (R207). -/
def execLaserReadyTimeout (n : Fin 2) (s : State) : Host.Outcome State Fault Refusal :=
  act s fun s =>
    let t := s.txs n
    let late := t.laserEn && !t.armed && s.laserWaited n
    let s := s.setTx n { t with waitDone := t.waitDone || late }
    s.raiseIf (late && s.flag (TXD.page n) TXD.OCP_CFG_READY_EN && !t.laserReady) (Kind.TXD.pg n) TXD.ev_LASER_READY_TIMEOUT

/-- OUTPUT_RAMP_DONE: a ramp that UNMUTE_RAMP sets the length of reaches gain 0 or 1 (R208); at gain 0 of a carrier DOWN the enables fall (Table 6-5). -/
def execOutputRampDone (n : Fin 2) (s : State) : Host.Outcome State Fault Refusal :=
  act s fun s =>
    let t := s.txs n
    let g := rampGain t (s.now - t.rampAt) (s.get (TXD.page n) TXD.OCP_CFG_UNMUTE_RAMP)
    if (t.ramp = .rising ∧ g < 1000) ∨ (t.ramp = .falling ∧ 0 < g) then s
    else match t.ramp with
    | .steady => s
    | .rising => (s.setTx n { t with ramp := .steady, gain := 1000, rampAt := s.now }).showOut n
    | .falling => (s.setTx n ({ t with ramp := .steady, gain := 0, rampAt := s.now } : TxState).enables).showOut n

/-- The OPT_FAULT cause as a level (R208). -/
def State.optCause (s : State) (n : Nat) : State :=
  let t := s.txs n
  let c := s.flag (TXD.page n) TXD.OCP_CFG_FAULT_EN && (t.optActive || t.optRecent)
  s.outCause n (fun t => { t with cOpt := c })

/-- OPT_FAULT_CHANGE: the input, after polarity, becomes active or inactive; inactive starts the 100 ms hold (R208). -/
def execOptFaultChange (n : Fin 2) (active : Bool) (s : State) : Host.Outcome State Fault Refusal :=
  act s fun s =>
    let t := s.txs n
    let s := s.raiseIf (active && !t.optActive) (Kind.TXD.pg n) TXD.ev_OPT_FAULT
    let s := s.setTx n { t with optActive := active, optRecent := active || t.optActive || t.optRecent,
                                optOffAt := if t.optActive && !active then s.now else t.optOffAt }
    s.optCause n

/-- OPT_FAULT_HOLDOFF_EXPIRY: the input has been inactive for 100 ms (R208). -/
def execOptFaultHoldoffExpiry (n : Fin 2) (s : State) : Host.Outcome State Fault Refusal :=
  act s fun s =>
    let t := s.txs n
    if t.optActive ∨ s.now < t.optOffAt + 100 * nsMs then s
    else (s.setTx n { t with optRecent := false }).optCause n

/-! ### The SPI port (R159, R160, R210) -/

/-- BUSY and QUEUED follow the port. -/
def State.showSpi (s : State) (n : Nat) : State :=
  let t := s.txs n
  let s := s.setB (TXD.page n) TXD.OCP_SPI_STAT_BUSY ((t.spiBusy.map (·.1)).getD false)
  s.set (TXD.page n) TXD.OCP_SPI_STAT_QUEUED t.spi.length

/-- An idle port starts the next word: frequency commands first (R160, R210). -/
def State.spiStart (s : State) (n : Nat) : State :=
  let t := s.txs n
  if t.spiBusy.isSome then s.showSpi n
  else match t.freqCmd, t.spi with
    | f :: fr, _ => (((s.setTx n { t with freqCmd := fr, spiBusy := some (false, f) }).send "spi" [n, f.toNat])).showSpi n
    | [], w :: r => (((s.setTx n { t with spi := r, spiBusy := some (true, w) }).send "spi" [n, w.toNat])).showSpi n
    | [], [] => s.showSpi n

/-- OCP_SPI_TRANSFER_DONE: the word in transfer completes with the word received; a host transaction's goes to
OCP_SPI_RX, and the next queued word starts (R210). -/
def execOcpSpiTransferDone (n : Fin 2) (rx : BitVec 32) (s : State) : Host.Outcome State Fault Refusal :=
  act s fun s =>
    let t := s.txs n
    match t.spiBusy with
    | none => s
    | some (host, _) =>
      let s := s.setTx n { t with spiBusy := none }
      let s := if host then s.setWord (TXD.page n + TXD.OCP_SPI_RX) rx else s
      s.spiStart n

/-! ### Register writes of TXDn -/

/-- Field ranges of Table 6-7. -/
def rangeTXD (off v : Nat) : Bool :=
  if off = TXD.MOD then fv v TXD.MOD_FORMAT != 3 && inR v TXD.MOD_ENTROPY 128 358
  else if off = TXD.SC_CFG then inR v TXD.SC_CFG_K_LOG2 0 4 && inR v TXD.SC_CFG_ROLLOFF 0 4
  else if off = TXD.CD_PRE then inRI v TXD.CD_PRE_TARGET (-2000) 2000
  else if off = TXD.SKEW then (List.range 4).all (fun c => inRI v (TXD.SKEW_SKW c) (-127) 127)
  else if off = TXD.LEVEL then inR v TXD.LEVEL_RMS 60 200
  else if off = TXD.OCP_CFG then inR v TXD.OCP_CFG_LASER_WAIT 1 1000 && inR v TXD.OCP_CFG_UNMUTE_RAMP 1 255
  else if off = TXD.MASK_ASSIGN then
    [TXD.MASK_ASSIGN_U0, TXD.MASK_ASSIGN_U1].all (fun f => fv v f ≤ 0x10 || fv v f = 0x1F)
  else if off = TXD.RAMP_CFG then inR v TXD.RAMP_CFG_LEN 16 1024
  else true

/-- A write that reaches TXDn's registers: `v` holds the new word with its RW fields merged and its WO bits as
written. -/
def wrTXD (n off v : Nat) (s : State) : WOut :=
  let b := TXD.page n
  if off = TXD.CTRL then
    ok (((s.setNat (b + off) v).outCause n (fun t => { t with cHost := fb v TXD.CTRL_MUTE })))
  else if off = TXD.CD_PRE ∨ off = TXD.SKEW then
    let s' := s.setNat (b + off) v
    ok (if s.inConfig (Kind.TXD.pg n) then s'.txTake n
      else
        let cur := s.getI b TXD.CD_PRE_CURRENT
        s'.raiseIf (s.getI b TXD.CD_PRE_TARGET != cur && s'.getI b TXD.CD_PRE_TARGET = cur) (Kind.TXD.pg n) TXD.ev_PRECOMP_DONE)
  else if off = TXD.OCP_CFG then
    let t := s.txs n
    let flipR := fb v TXD.OCP_CFG_READY_POL != s.flag b TXD.OCP_CFG_READY_POL
    let flipF := fb v TXD.OCP_CFG_FAULT_POL != s.flag b TXD.OCP_CFG_FAULT_POL
    let s := (s.setNat (b + off) v).setTx n { t with
      laserReady := t.laserReady != flipR, optActive := t.optActive != flipF,
      optRecent := t.optRecent || (t.optActive != flipF) }
    ok (((s.raiseIf (flipF && !t.optActive) (Kind.TXD.pg n) TXD.ev_OPT_FAULT).optCause n).unmutePoint n)
  else if off = TXD.MASK_ASSIGN then
    if maskAssignOk (s.kSub n) (fv v TXD.MASK_ASSIGN_U0) (fv v TXD.MASK_ASSIGN_U1) then ok (s.setNat (b + off) v)
    else no .state s
  else if off = TXD.MASK_CTRL 0 ∨ off = TXD.MASK_CTRL 1 then
    let m := (off - TXD.MASK_CTRL 0) / 4
    let chk := fb v (TXD.MASK_CTRL_CHECK m)
    let app := fb v (TXD.MASK_CTRL_APPLY m)
    let act_ := fb v (TXD.MASK_CTRL_ACTION m)
    if app && s.get b (TXD.MASK_CTRL_RESULT m) != 1 then no .state s
    else
      let t := s.txs n
      let s := s.setB b (TXD.MASK_CTRL_ACTION m) act_
      let u := t.mask m
      let s := s.setTx n (t.setMask m { u with liveMuted := u.liveMuted && act_, checking := u.checking || chk })
      let s := s.showOut n
      ok (if !app then s
        else if s.inConfig (Kind.TXD.pg n) then s.maskExchange n m
        else
          let t := s.txs n
          s.setTx n (t.setMask m { t.mask m with exchangeDue := true }))
  else if off = TXD.OCP_GPIO then
    ok ((s.setNat (b + off) v).send "gpio" [n, fv v TXD.OCP_GPIO_DIR4, fv v TXD.OCP_GPIO_OUT4, fv v TXD.OCP_GPIO_DIR5,
      fv v TXD.OCP_GPIO_OUT5])
  else if off = TXD.OCP_SPI_TX then
    let t := s.txs n
    if 8 ≤ t.spi.length then no .state s
    else ok ((s.setTx n { t with spi := t.spi ++ [BitVec.ofNat 32 v] }).spiStart n)
  else ok (s.setNat (b + off) v)

/-- A write into TXDn's window: FIR taps reach the inactive bank only; a write to it or to the breakpoints sets RESULT
to NONE (R197, R200); a pre-emphasis tap is in use from the next folio's gutter on (R204). -/
def winTXD (n a v : Nat) (s : State) : WOut :=
  let b := TXD.page n
  let o := a - TXDW.FIR n 0
  if o < 0x1000 then
    let m := o / 2048
    if o % 2048 / 1024 = s.get b (TXD.MASK_CTRL_BANK_ACTIVE m) then no .state s
    else ok ((s.setNat a v).set b (TXD.MASK_CTRL_RESULT m) 0)
  else if o < 0x1200 then ok ((s.setNat a v).set b (TXD.MASK_CTRL_RESULT ((o - 0x1000) / 256)) 0)
  else if o < 0x1400 then ok (s.setNat a v)
  else ok s

end Sys2Proof.Machine
end

