-- ==== Sys2Proof/Machine/Rxd.lean ====
section
/-!
DEFINITION. RXDn: the loss detector, the CD search and memory, frequency acquisition and laser feedback, the equaliser,
the acquisition machine, nonlinear compensation, measurements and the spare slice (chapter 5).
-/
namespace Sys2Proof.Machine

/-! ### Roles and figures -/

/-- How many signals share B at the CD filter: 1 for the whole carrier, K in HUB role (Table 5-1). -/
def State.cdDiv (s : State) (n : Nat) : Nat := if s.role n = 1 then s.kSub n else 1

/-- The coarse step S_c in units of 10 ps/nm (R142). -/
def State.cdStep (s : State) (n : Nat) : Nat := 72000000 * s.cdDiv n * s.cdDiv n / (s.baud n * s.baud n)

/-- D_max in units of 10 ps/nm (R140). -/
def State.cdMax (s : State) (n : Nat) : Nat :=
  let d := s.cdDiv n
  20000 - ceilDiv (35 * (s.baud n - 200 * d)) d

/-- The search window in units of 10 ps/nm (R141). -/
def State.cdWindow (s : State) (n : Nat) : Int × Int :=
  let b := RXD.page n
  let m : Int := s.cdMax n
  (max (s.getI b RXD.CD_WINDOW_MIN) (-m), min (s.getI b RXD.CD_WINDOW_MAX) m)

/-- A range limited to the search window, when something of it lies there. -/
def limitTo (w : Int × Int) (lo hi : Int) : Option (Int × Int) :=
  let a := max lo w.1
  let b := min hi w.2
  if a ≤ b then some (a, b) else none

/-- A slot of the CD memory is usable: valid, and left TRACK no more than MEM_TIME seconds ago (R144). -/
def State.slotUsable (s : State) (n : Nat) (c : CdSlot) : Bool :=
  c.valid && decide (s.dtime ≤ c.leftAt + s.get (RXD.page n) RXD.REACQ_CFG_MEM_TIME * nsSec)

/-- The range of a candidate and whether its search starts with the fine pass, or nothing when it is skipped (R143). -/
def State.cdRange (s : State) (n i : Nat) (c : CdCand) : Option (Int × Int) :=
  let b := RXD.page n
  let w := s.cdWindow n
  let st : Int := s.cdStep n
  let mem := fun (x : CdSlot) =>
    if s.flag b RXD.CTRL_MEM_EN && s.slotUsable n x then limitTo w (x.value - st) (x.value + st) else none
  match c with
  | .slot0 => mem (s.subc n i).slot0
  | .slot1 => mem (s.subc n i).slot1
  | .hint =>
    let h := s.getI b RXD.CD_HINT_HINT
    let sp : Int := s.get b RXD.CD_HINT_SPAN
    if s.flag b RXD.CTRL_HINT_EN then limitTo w (h - sp) (h + sp) else none
  | .full => limitTo w w.1 w.2

/-- The first candidate of a list that is not skipped starts its search. -/
def State.cdTry (s : State) (n i : Nat) : List CdCand → State
  | [] => s
  | c :: r =>
    match s.cdRange n i c with
    | none => s.cdTry n i r
    | some (lo, hi) =>
      s.setSubc n i { s.subc n i with
        search := { cand := c, rest := r, fine := c = .slot0 || c = .slot1, lo := lo, hi := hi } }

/-- The value of a trial in units of 10 ps/nm: steps of S_c, or of S_c/20 in the fine pass (R142). -/
def trialValue (st : Nat) (f : CdSearch) (j : Nat) : Int :=
  if f.fine then f.lo + divRound (j * st : Nat) 20 else f.lo + (j * st : Nat)

/-- Trial j lies in the range of its pass (R142). -/
def trialIn (st : Nat) (f : CdSearch) (j : Nat) : Bool :=
  if f.fine then decide (((j * st : Nat) : Int) ≤ 20 * (f.hi - f.lo)) else decide (f.lo + (j * st : Nat) ≤ f.hi)

/-- The largest of a list. -/
def maxOf (l : List Nat) : Nat := l.foldl max 0

/-- Insertion into a sorted list. -/
def insertNat (x : Nat) : List Nat → List Nat
  | [] => [x]
  | y :: r => if x ≤ y then x :: y :: r else y :: insertNat x r

/-- A sorted list. -/
def sortNat (l : List Nat) : List Nat := l.foldr insertNat []

/-- Twice the median: twice the middle value, or the sum of the two middle values. -/
def median2 (l : List Nat) : Nat :=
  let s := sortNat l
  s.getD ((l.length - 1) / 2) 0 + s.getD (l.length / 2) 0

/-- The best trial stands out: its metric is at least four times the median of the reference set (R142). -/
def stands (found ref : List Nat) : Bool := decide (2 * median2 ref ≤ maxOf found)

/-- Number of the first best trial. -/
def bestOf (l : List Nat) : Nat := l.findIdx (fun x => x = maxOf l)

/-- The result of a fine pass: the best point at an end of the range, else the vertex of the parabola through it and
its two neighbours, rounded to 10 ps/nm and kept in the search window (R142). -/
def fineResult (st : Nat) (w : Int × Int) (f : CdSearch) : Int :=
  let k := bestOf f.found
  if k = 0 ∨ k + 1 = f.found.length then trialValue st f k
  else
    let a : Int := f.found.getD (k - 1) 0
    let b : Int := f.found.getD k 0
    let c : Int := f.found.getD (k + 1) 0
    let den := 2 * (2 * b - a - c)
    let v := f.lo + divRound (st * (den * k + (c - a))) (20 * den.toNat)
    max w.1 (min w.2 v)

/-! ### The laser command (R158 to R162) -/

/-- FB_CMD shows C in kHz. -/
def State.showC (s : State) (n : Nat) : State :=
  s.setI (RXD.page n) RXD.FB_CMD_C (divRound (s.rxs n).cLaser 128)

/-- The command field for C: the value in LSB units, negated with SIGN = 1, saturated at the field's limits (R159). -/
def State.laserField (s : State) (n : Nat) : Int :=
  let b := RXD.page n
  let v := divRound (s.rxs n).cLaser (128 * s.get b RXD.FB_LIMIT_LSB)
  let v := if s.flag b RXD.FB_FMT_SIGN then -v else v
  let h : Int := 2 ^ (s.get b RXD.FB_FMT_WIDTH - 1)
  max (-h) (min (h - 1) v)

/-- The SPI word of a command: the template with the field replaced (R159). -/
def State.laserWord (s : State) (n : Nat) : Word :=
  let b := RXD.page n
  let w := s.get b RXD.FB_FMT_WIDTH
  BitVec.ofNat 32 (withBits (s.nat (b + RXD.FB_TEMPLATE)) (s.get b RXD.FB_FMT_POS) w (ofSigned w (s.laserField n)))

/-- A frequency command joins the front of the OCP port's queue (R160). -/
def State.queueLaser (s : State) (n : Nat) : State :=
  let s := s.setRx n { s.rxs n with sentField := some (s.laserField n) }
  let t := s.txs n
  (s.setTx n { t with freqCmd := t.freqCmd ++ [s.laserWord n] }).spiStart n

/-- A command is sent only when the field value changes (R158). -/
def State.sendLaser (s : State) (n : Nat) : State :=
  if (s.rxs n).sentField = some (s.laserField n) then s else s.queueLaser n

/-- C takes a value in 1/128 kHz, kept within ±MAX; reaching MAX raises FB_CLAMP, and a change of 50 MHz or more calls
for a check of the laser's response (R158, R162). `f` is the offset measured now, in kHz. -/
def State.laserTo (s : State) (n : Nat) (v f : Int) : State :=
  let m := s.get (RXD.page n) RXD.FB_LIMIT_MAX * 128000
  let old := (s.rxs n).cLaser
  let c := clampI m v
  let hit := c.natAbs = m && old.natAbs != m
  let chk := if 50000 * 128 ≤ (c - old).natAbs then some (f, c - old) else (s.rxs n).checkC
  let at_ := if 50000 * 128 ≤ (c - old).natAbs then s.now else (s.rxs n).checkAt
  let s := (s.setRx n { s.rxs n with cLaser := c, checkC := chk, checkAt := at_ }).showC n
  (s.raiseIf hit (Kind.RXD.pg n) RXD.ev_FB_CLAMP).sendLaser n

/-- The laser is enabled: a zero that waited for it is sent (CMD.FB_ZERO). -/
def State.laserEnabled (s : State) (n : Nat) : State :=
  if (s.rxs n).zeroDue then (s.setRx n { s.rxs n with zeroDue := false }).queueLaser n else s

/-- C is 0 at carrier bring-up, and nothing has been sent (R158). -/
def State.laserBringUp (s : State) (n : Nat) : State :=
  (s.setRx n { s.rxs n with cLaser := 0, sentField := none, holdC := false, checkC := none }).showC n

/-! ### Moves of the acquisition machine -/

/-- Entry to EQ_BLIND: from the taps of the memory slot that qualified, when the offset lies within CAPTURE of the
slot's derotator frequency (R172), else from the default taps (R147). -/
def State.enterEqBlind (s : State) (n i : Nat) : State :=
  let c := s.subc n i
  let near := fun (x : CdSlot) =>
    decide ((c.fd - x.fd).natAbs ≤ 1000 * s.get (RXD.page n) RXD.FO_CFG_CAPTURE) && !x.taps.isEmpty
  let taps := match c.fromSlot with
    | some false => if near c.slot0 then c.slot0.taps else defaultTaps (s.nTaps n)
    | some true => if near c.slot1 then c.slot1.taps else defaultTaps (s.nTaps n)
    | none => defaultTaps (s.nTaps n)
  (s.setSubc n i { c with taps := taps }).acqTo n i .eqBlind

/-- The value of the CD filter of a subcarrier: the whole carrier's in P2P and LEAF roles (Table 5-1). -/
def State.cdOf (s : State) (n i : Nat) : Int := if s.role n = 1 then (s.subc n i).cd else (s.subc n 0).cd

/-- Entry to CD_SEARCH: DESKEW_INIT is loaded (R139) and the candidates are tried from slot 0 on (R143). In P2P and
LEAF roles only subcarrier 0 searches, and the others go to WAIT_SIGNAL; another subcarrier waits there while subcarrier 0 has no
result, and takes the carrier's result otherwise (R167, R168). -/
def State.enterCd (s : State) (n i : Nat) (cands : List CdCand) : State :=
  if s.role n ≠ 1 ∧ i ≠ 0 then
    let z := (s.subc n 0).st
    if z = .idle ∨ z = .waitSignal ∨ z = .cdSearch then s.acqTo n i .waitSignal
    else (s.setSubc n i { s.subc n i with cd := (s.subc n 0).cd, fromSlot := none }).acqTo n i .freqAcq
  else
    let b := RXD.page n
    let s := s.setNat (b + RXD.DESKEW_CUR) (s.nat (b + RXD.DESKEW_INIT))
    let s := s.setSubc n i { s.subc n i with fromSlot := none, taps := [] }
    let s := (s.acqTo n i .cdSearch).cdTry n i cands
    if s.role n = 1 then s
    else each (s.usedSubs n) (fun j t => if j ≠ 0 ∧ (t.subc n j).st ≠ .idle then t.acqTo n j .waitSignal else t) s

/-- All candidates in the order of R143. -/
def allCands : List CdCand := [.slot0, .slot1, .hint, .full]

/-- Entry to TRACK: the value in use goes to slot 0, the old slot 0 to slot 1 when it differs by more than S_c (R144); |det H| is
the reference of R152; subcarrier 0 reports the length of its acquisition. -/
def State.enterTrack (s : State) (n i : Nat) : State :=
  let c := s.subc n i
  let v := s.cdOf n i
  let keep := c.slot0.valid && decide (s.cdStep n < (v - c.slot0.value).natAbs)
  let c' := { c with
    slot1 := if keep then c.slot0 else c.slot1,
    slot0 := { value := v, taps := c.taps, fd := c.fd, leftAt := s.dtime, valid := true }, acqFrom := none,
    detRef := some (detMean (s.nTaps n) c.taps) }
  let b := RXD.page n
  let s := s.setSubc n i c'
  let s :=
    if i = 0 then
      let show_ := fun (f g : Fld) (x : CdSlot) (t : State) => (t.setI b f x.value).setB b g x.valid
      let s := show_ RXD.CD_MEM0_VALUE RXD.CD_MEM0_VALID c'.slot0 s
      let s := show_ ⟨RXD.CD_MEM1, 0, 16⟩ ⟨RXD.CD_MEM1, 31, 1⟩ c'.slot1 s
      match c.acqFrom with
      | some t0 => s.set b RXD.LAST_ACQ_US (min (2 ^ 24 - 1) ((s.now - t0) / nsUs))
      | none => s
    else s
  s.acqTo n i .track

/-! ### Loss of signal and WAIT_SIGNAL (R168, R170) -/

/-- The states CD_SEARCH to TRACK. -/
def Acq.acquiring (a : Acq) : Bool := 2 ≤ a.code && a.code ≤ 7

/-- An interval of the loss detector ends with mean power −`level`/10 dBFS: at the HOLD-th consecutive one below −THRESH, RX_LOS is
declared, raised, and acquisition goes back to WAIT_SIGNAL; one at or above it clears RX_LOS (R168, R170). The intervals follow
one another from the entry of RXDn to ACTIVE. -/
def State.losInterval (s : State) (n level : Nat) : State :=
  let b := RXD.page n
  let r := s.rxs n
  if !s.active (Kind.RXD.pg n) then s
  else if level ≤ 10 * s.get b RXD.LOS_CFG_THRESH then s.setRx n { r with los := false, losRun := 0 }
  else
    let run := min 255 (r.losRun + 1)
    let s := s.setRx n { r with losRun := run, los := r.los || decide (s.get b RXD.LOS_CFG_HOLD ≤ run) }
    if r.los ∨ run < s.get b RXD.LOS_CFG_HOLD then s
    else each (List.range 16) (fun i t => if (t.subc n i).st.acquiring then t.acqTo n i .waitSignal else t)
      (s.raise (Kind.RXD.pg n) RXD.ev_RX_LOS)

/-- RX_LOS_DECLARE: an interval of the loss detector ends, a dark one counting toward RX_LOS (R170). -/
def execRxLosDeclare (n : Fin 2) (level : Nat) (s : State) : Host.Outcome State Fault Refusal :=
  act s fun s => s.losInterval n level

/-- RX_LOS_CLEAR: an interval of the loss detector ends; one at or above the threshold clears RX_LOS (R170). -/
def execRxLosClear (n : Fin 2) (level : Nat) (s : State) : Host.Outcome State Fault Refusal :=
  act s fun s => s.losInterval n level

/-- WAIT_SIGNAL_EXIT: no RX_LOS for 100 µs (R168); the acquisition's trials and time start here. -/
def execWaitSignalExit (n : Fin 2) (i : Fin 16) (s : State) : Host.Outcome State Fault Refusal :=
  act s fun s =>
    let c := s.subc n i
    if c.st ≠ .waitSignal ∨ (s.rxs n).los then s
    else
      let s := s.setSubc n i { c with trials := 0, acqFrom := some s.now }
      let s := if i.val = 0 then
          (s.setRx n { s.rxs n with holdC := false }).set (RXD.page n) RXD.LAST_ACQ_TRIALS 0
        else s
      s.enterCd n i allCands

/-- CMD.RESTART of one subcarrier: any state but IDLE goes to WAIT_SIGNAL; a burst subcarrier is SUBn's (R168, R173,
R174). -/
def State.acqRestart (s : State) (n i : Nat) : State :=
  if (s.subc n i).st = .idle ∨ (s.subc n i).st = .burst then s else s.acqTo n i .waitSignal

/-! ### CD search (R142 to R145) -/

/-- A candidate qualifies: the value is the filter's, a memory slot raises CD_MEM_HIT, and FREQ_ACQ follows; in P2P and
LEAF roles the result is the whole carrier's and the waiting subcarriers go on with it (R143, R167, R168). -/
def State.cdQualify (s : State) (n i : Nat) (cand : CdCand) (v : Int) : State :=
  let slot := match cand with
    | .slot0 => some false
    | .slot1 => some true
    | _ => none
  let s := s.setSubc n i { s.subc n i with cd := v, fromSlot := slot }
  let s := s.raiseIf slot.isSome (Kind.RXD.pg n) RXD.ev_CD_MEM_HIT
  let s := s.acqTo n i .freqAcq
  if s.role n = 1 then s
  else each (s.usedSubs n) (fun j t =>
    if j ≠ 0 ∧ (t.subc n j).st = .waitSignal then
      (t.setSubc n j { t.subc n j with cd := v, fromSlot := slot, trials := 0 }).acqTo n j .freqAcq
    else t) s

/-- A candidate fails: the next one is tried; a failed full window raises CD_SEARCH_FAIL and starts again (R145). -/
def State.cdFail (s : State) (n i : Nat) : State :=
  let c := s.subc n i
  if c.search.cand = .full then
    let s := s.setSubc n i { c with cdFails := min 65535 (c.cdFails + 1) }
    (s.raise (Kind.RXD.pg n) RXD.ev_CD_SEARCH_FAIL).cdTry n i [.full]
  else s.cdTry n i c.search.rest

/-- CD_TRIAL: a trial's clock-tone metric is known; the pass goes on, ends, qualifies or fails (R142). -/
def execCdTrial (n : Fin 2) (i : Fin 16) (metric : Nat) (s : State) : Host.Outcome State Fault Refusal :=
  act s fun s =>
    let c := s.subc n i
    if c.st ≠ .cdSearch then s
    else
      let w := s.cdWindow n
      let st := s.cdStep n
      let tr := min 255 (c.trials + 1)
      let f := { c.search with found := c.search.found ++ [metric], j := c.search.j + 1 }
      let s := s.setSubc n i { c with trials := tr, search := f }
      let s := if i.val = 0 then s.set (RXD.page n) RXD.LAST_ACQ_TRIALS tr else s
      if trialIn st f f.j && 0 < st then s
      else if !f.fine then
        if !stands f.found f.found then s.cdFail n i
        else
          let dp := trialValue st f (bestOf f.found)
          let g := { f with fine := true, lo := max (dp - st) w.1, hi := min (dp + st) w.2, j := 0, found := [],
                            coarse := f.found }
          s.setSubc n i { s.subc n i with search := g }
      else
        let ref := if f.cand = .slot0 ∨ f.cand = .slot1 then f.found else f.coarse
        if !stands f.found ref then s.cdFail n i
        else s.cdQualify n i f.cand (fineResult st w f)

/-- CD_FILTER_MOVE: at a gutter that is not flagged, a filter due for it moves 10 ps/nm toward D_res, within
±D_max, all that the filter covers (R140, R146). -/
def execCdFilterMove (n : Fin 2) (i : Fin 16) (s : State) : Host.Outcome State Fault Refusal :=
  act s fun s =>
    let c := s.subc n i
    if c.st ≠ .track ∨ !c.moveDue ∨ (s.rxs n).flagged then s
    else s.setSubc n i { c with moveDue := false, cd := clampI (s.cdMax n) (if c.dRes < 0 then c.cd - 1 else c.cd + 1) }

/-! ### Frequency acquisition and laser feedback (R156 to R162) -/

/-- FO_MODE: 0 BOTH, 1 FEEDBACK, 2 PILOT (Table 5-4). -/
def State.foMode (s : State) (n : Nat) : Nat := s.get (RXD.page n) RXD.CTRL_FO_MODE

/-- A residual in kHz lies below F_acq = min(CAPTURE, 0.25 × B_c MHz) (R157). -/
def State.belowFAcq (s : State) (n : Nat) (residual : Int) : Bool :=
  decide (residual.natAbs < 1000 * s.get (RXD.page n) RXD.FO_CFG_CAPTURE)
    && decide (residual.natAbs * s.cdDiv n < 125 * s.baud n)

/-- A subcarrier has been in an acquisition state for a time in ns (Table 5-6). -/
def State.inFor (s : State) (n i : Nat) (st : Acq) (ns : Nat) : Bool :=
  (s.subc n i).st = st && decide ((s.subc n i).enteredAt + ns ≤ s.now)

/-- FREQ_ACQ_ESTIMATE: a 20 µs estimate of the residual in kHz updates the derotator, or in FEEDBACK steps the laser
by it and SETTLE is waited before the next; a residual below F_acq ends FREQ_ACQ (R157). The laser is stepped from subcarrier 0. -/
def execFreqAcqEstimate (n : Fin 2) (i : Fin 16) (residual : Int) (s : State) : Host.Outcome State Fault Refusal :=
  act s fun s =>
    let c := s.subc n i
    let settle := s.get (RXD.page n) RXD.FB_CFG_SETTLE * nsMs
    if c.st ≠ .freqAcq ∨ (s.foMode n = 1 ∧ c.estAt.any (fun t => s.now < t + settle)) then s
    else
      let c := { c with estAt := some s.now }
      let s := s.setSubc n i c
      let s :=
        if s.foMode n = 1 then
          let s := s.setSubc n i { c with fd := 0 }
          if i.val = 0 then s.laserTo n ((s.rxs n).cLaser + residual * 128) residual else s
        else s.setSubc n i { c with fd := c.fd + residual }
      if s.belowFAcq n residual then s.enterEqBlind n i else s

/-- FREQ_ACQ_TIMEOUT: FREQ_TIMEOUT has passed in FREQ_ACQ (R157, R168). -/
def execFreqAcqTimeout (n : Fin 2) (i : Fin 16) (s : State) : Host.Outcome State Fault Refusal :=
  act s fun s =>
    if s.inFor n i .freqAcq (s.get (RXD.page n) RXD.FO_CFG_FREQ_TIMEOUT * nsMs) then s.enterCd n i allCands else s

/-- FREQ_CAPTURE_LOSS: |f| has been above CAPTURE for 1 ms in TRAIN or TRACK (R168). -/
def execFreqCaptureLoss (n : Fin 2) (i : Fin 16) (s : State) : Host.Outcome State Fault Refusal :=
  act s fun s =>
    let st := (s.subc n i).st
    if st = .train ∨ st = .track then s.acqTo n i .freqAcq else s

/-- LASER_FB_UPDATE: each 1/RATE in TRACK the laser command integrates the offset `f` in kHz, which in BOTH is the
derotator's frequency (R158). -/
def execLaserFbUpdate (n : Fin 2) (f : Int) (s : State) : Host.Outcome State Fault Refusal :=
  act s fun s =>
    let c := s.subc n 0
    let b := RXD.page n
    if c.st ≠ .track ∨ 2 ≤ s.foMode n ∨ (s.rxs n).fbAt.any (fun t => s.now < t + 1000000 / s.get b RXD.FB_CFG_RATE) then s
    else
      let s := s.setRx n { s.rxs n with fbAt := some s.now }
      let s := if s.foMode n = 0 then s.setSubc n 0 { c with fd := f } else s
      if (s.rxs n).holdC ∨ f.natAbs < 100 * s.get b RXD.FB_CFG_DEADBAND then s
      else s.laserTo n ((s.rxs n).cLaser + f * 2 ^ (7 - s.get b RXD.FB_CFG_GAIN_LOG2)) f

/-- FB_RESPONSE_CHECK: SETTLE after a change of C of 50 MHz or more, the offset `f` in kHz is compared; less than half
of the change raises FB_NO_RESPONSE, and BOTH then holds C (R162). -/
def execFbResponseCheck (n : Fin 2) (f : Int) (s : State) : Host.Outcome State Fault Refusal :=
  act s fun s =>
    match (s.rxs n).checkC with
    | none => s
    | some (f0, d) =>
      if s.now < (s.rxs n).checkAt + s.get (RXD.page n) RXD.FB_CFG_SETTLE * nsMs then s
      else
      let bad := decide (256 * (f - f0).natAbs < d.natAbs)
      let r := s.rxs n
      let s := s.setRx n { r with checkC := none, holdC := r.holdC || (bad && s.foMode n = 0) }
      s.raiseIf bad (Kind.RXD.pg n) RXD.ev_FB_NO_RESPONSE

/-! ### The equaliser (R147 to R152) -/

/-- The step size exponent in force for a block, `gut` in a gutter (Table 5-3, R150, R151). -/
def State.muNow (s : State) (n i : Nat) (gut : Bool) : Nat :=
  let b := RXD.page n
  match (s.subc n i).st with
  | .track =>
    if gut && (s.rxs n).flagged then s.get b RXD.EQ_CFG_MU_TRAIN
    else if (s.rxs n).boost then max 4 (s.get b RXD.EQ_CFG_MU_TRACK - s.get b RXD.EQ_CFG_MU_BOOST)
    else s.get b RXD.EQ_CFG_MU_TRACK
  | .train | .burst => s.get b RXD.EQ_CFG_MU_TRAIN
  | _ => s.get b RXD.EQ_CFG_MU_BLIND

/-- Stages 1 to 5 of Table 5-1: from the samples of the four ADCs to 2 samples a symbol. -/
def State.rxChain (s : State) (n i : Nat) (adc : List (List (BitVec 8))) : List Dual :=
  let b := RXD.page n
  let c := s.subc n i
  let k := s.kSub n
  let opt := s.get b RXD.OPT_FREQ_FREQ
  let dsk := (List.range 4).map (fun a => s.getI b (RXD.DESKEW_CUR_DSK a))
  let alpha := rolloffPm (s.get (TXD.page n) TXD.SC_CFG_ROLLOFF)
  let v := Config.frontEnd dsk (adc.map (·.map (·.toNat)))
  let v := if s.role n = 1 then v else Config.cdFilter (s.cdOf n i) opt v
  let v := if k = 1 then v else
    Config.channel k i (((i : Rat) - (k - 1 : Nat) / 2) * (s.rxSet n i).rate * (1000 + alpha : Nat) / 1000) v
  let v := if s.role n = 1 then Config.cdFilter (s.cdOf n i) opt v else v
  Config.resample (s.rxSet n i).rate c.timing v

/-- The NLC entries in use: the first ENTRIES of the window (R163). -/
def State.nlcEntries (s : State) (n : Nat) : List NlcEntry :=
  (List.range (s.get (RXD.page n) RXD.NLC_CFG_ENTRIES)).map (fun e => nlcEntry (s.nat (RXDW.NLC n e)))

/-- A block of 128 symbols after stages 6 to 8 of Table 5-1: the equaliser's input and outputs, the phases removed in turns, and the
symbols corrected. Entry j of the lists of outputs stands for symbol j − `rxSpan` of the block. -/
structure Block where
  u : List Dual
  z : List Dual
  turns : List (Rat × Rat)
  out : List Dual
  estX : List (Nat × Rat)

/-- Stages 6 to 8 of Table 5-1 on a block (R147, R154, R163). -/
def State.rxBlock (s : State) (n i : Nat) (adc : List (List (BitVec 8))) : Block :=
  let c := s.subc n i
  let x := s.rxSet n i
  let sy := symS x.baud x.k
  let u := s.rxChain n i adc
  let z := eqOut x.nt c.taps u (128 + 2 * rxSpan)
  let df : Rat := c.fd / (1000000 * x.rate)
  let d := derotate (c.rot - df * rxSpan) df z
  let pos := (c.pos + rxSpan * sy - rxSpan) % max 1 sy
  let zx := d.map (·.x)
  let zy := d.map (·.y)
  let ex := pilotPhases x false zx pos
  let ey := pilotPhases x true zy pos
  let px := fun j => phaseOf x zx ex pos j
  let py := fun j => phaseOf x zy ey pos j
  let cor := fun (j : Nat) => (⟨turn (zx.getD j {}) (-px j), turn (zy.getD j {}) (-py j)⟩ : Dual)
  let dec := fun (y : Bool) (j : Int) => decide_ x.format (polOf (cor j.toNat) y)
  let l := s.nlcEntries n
  let gain := s.get (RXD.page n) RXD.NLC_CFG_GAIN
  let out := (List.range 128).map (fun t =>
    let j := rxSpan + t
    if (s.rxs n).nlcOn && x.k = 1 then
      (⟨csub (cor j).x (nlcDelta gain l (dec false) (dec true) j), csub (cor j).y (nlcDelta gain l (dec true) (dec false) j)⟩ : Dual)
    else cor j)
  { u := u, z := z, out := out, estX := ex,
    turns := (List.range 128).map (fun (t : Nat) => (c.rot + df * t + px (rxSpan + t), c.rot + df * t + py (rxSpan + t))) }

/-- The error of a data-aided block: gutter and pilot symbols against known values, data symbols by decision once the pilot phase is
locked, before the phases are removed (Table 5-3). -/
def lmsErrors (x : RxSet) (pos : Nat) (locked : Bool) (b : Block) : List (Nat × Dual) :=
  (List.range 128).filterMap (fun t =>
    let p := (pos + t) % symS x.baud x.k
    let z := b.z.getD (rxSpan + t) {}
    let o := b.out.getD t {}
    let f := b.turns.getD t (0, 0)
    let want := match knownAt x.baud x.k x.sub false x.ps p, knownAt x.baud x.k x.sub true x.ps p with
      | some a, some b => some (a, b)
      | _, _ => if locked && (dataAt x.baud x.k p).isSome then some (decide_ x.format o.x, decide_ x.format o.y) else none
    want.map (fun w => (rxSpan + t, ⟨csub (turn w.1 f.1) z.x, csub (turn w.2 f.2) z.y⟩)))

/-- What a block in TRACK adds to the measurement period's sums (Table 5-9). `resp` is H(0). -/
def measBlock (x : RxSet) (pos : Nat) (b : Block) (resp : M2) (a : MeasAcc) : MeasAcc :=
  let one := fun (a : MeasAcc) (t : Nat) =>
    let p := (pos + t) % symS x.baud x.k
    let o := b.out.getD t {}
    match knownAt x.baud x.k x.sub false x.ps p, knownAt x.baud x.k x.sub true x.ps p with
    | some wx, some wy =>
      { a with known := a.known + cabs2 o.x + cabs2 o.y, ref := a.ref + cabs2 wx + cabs2 wy,
               cross := a.cross + (cmul o.x (conj wx)).re + (cmul o.y (conj wy)).re, nKnown := a.nKnown + 2 }
    | _, _ =>
      if (dataAt x.baud x.k p).isSome then { a with data := a.data + cabs2 o.x + cabs2 o.y, nData := a.nData + 2 } else a
  let a := (List.range 128).foldl one a
  let steps := (b.estX.zip (b.estX.drop 1)).filter (fun e => decide (rxSpan ≤ e.2.1) && decide (e.2.1 < rxSpan + 128))
  let a := { a with slope := a.slope + rsum (steps.map (fun (e : (Nat × Rat) × (Nat × Rat)) => e.2.2 - e.1.2)),
                    span := a.span + (steps.map (fun (e : (Nat × Rat) × (Nat × Rat)) => e.2.1 - e.1.1)).sum }
  let clk := a.sopClk + 128 / x.rate
  if clk < 1000 then { a with sopClk := clk }
  else
    let v := resp.unitary
    let now := [v.a, v.b, v.c, v.d]
    match a.sopU with
    | [p, q, r, w] =>
      let rate := sopRate v ⟨p, q, r, w⟩
      { a with sopClk := clk - 1000, sopU := now, sopMax := max a.sopMax rate, sopSum := a.sopSum + rate, sopN := a.sopN + 1,
               sopLast := rate }
    | _ => { a with sopClk := clk - 1000, sopU := now }

/-- The window of 1,024 blocks takes a block: output powers, constant-modulus cost, timing error (R153, R168). -/
def EqWin.add (w : EqWin) (x : RxSet) (z u : List Dual) : EqWin :=
  let e := Config.timingErr u
  { n := w.n + 1, px := w.px + rsum (z.map (fun v => cabs2 v.x)), py := w.py + rsum (z.map (fun v => cabs2 v.y)),
    cost := w.cost + rsum (z.map (fun v => cmCost x v.x + cmCost x v.y)), time := w.time + e * e }

/-- EQ_BLIND's criteria over a full window: powers of X and Y within 1 dB, the cost within 1 % of the window before, the timing loop
locked, its rms error below 0.05 UI (R153, R168). -/
def EqWin.settled (w : EqWin) (before : Option Rat) : Bool :=
  let r := 10 * Config.log10 (w.px / w.py)
  let calm := match before with
    | some c => decide (100 * (w.cost - c) < c) && decide (100 * (c - w.cost) < c)
    | none => false
  decide (r ≤ 1) && decide (-1 ≤ r) && calm && decide (400 * w.time < w.n)

/-- The X and Y outputs of a block correlate with magnitude above 0.9 (R152). -/
def correlated (z : List Dual) : Bool :=
  let c := csum (z.map (fun v => cmul v.x (conj v.y)))
  decide (81 * (rsum (z.map (fun v => cabs2 v.x)) * rsum (z.map (fun v => cabs2 v.y))) < 100 * cabs2 c)

/-- A burst receiver delivers LLRs: a burst is in its payload (R238). -/
def State.burstPayload (s : State) (n i : Nat) : Option Burst := (Tab.get (fun _ => {}) (s.subst n).rx i).cur

/-- Symbols of a burst before its payload: ramp, preamble, sync word (R219). -/
def State.burstHead (s : State) (n : Nat) : Nat := s.get (TXD.page n) TXD.RAMP_CFG_LEN + 320

/-- The first symbol of a burst's payload, and of its ramp-down, counted from the start of its window's folio (R219, R222). -/
def State.burstFrom (s : State) (n : Nat) (u : Burst) : Nat := ceilDiv (u.start * symS (s.baud n) (s.kSub n)) 1024 + s.burstHead n
def State.burstTo (s : State) (n : Nat) (u : Burst) : Nat :=
  (u.start + 16 * u.len) * symS (s.baud n) (s.kSub n) / 1024 - s.get (TXD.page n) TXD.RAMP_CFG_LEN

/-- The data symbols of a block by data index: of a folio, or of a burst's payload from its first position on (R185, R219). -/
def State.blockData (s : State) (n i : Nat) (out : List Dual) : List (Nat × Dual) :=
  let c := s.subc n i
  let x := s.rxSet n i
  let sy := symS x.baud x.k
  match s.burstPayload n i with
  | some u =>
    let a := s.burstFrom n u
    out.zipIdx.filterMap (fun v =>
      let p := c.pos + v.2
      if decide (a ≤ p) && decide (p < s.burstTo n u) && decide (symG x.k ≤ p % sy) && (pilotAt x.baud x.k (p % sy - symG x.k)).isNone then
        some (dataTo x.baud x.k p - dataTo x.baud x.k a, v.1) else none)
  | none => out.zipIdx.filterMap (fun v => (dataAt x.baud x.k ((c.pos + v.2) % max 1 sy)).map (fun q => (q, v.1)))

/-- The data symbols of a block are kept; with the last of a folio they pass to FECn (R169). A folio opens with
at least 128 gutter symbols, so that a block that ends one holds none of the next. -/
def State.takeData (s : State) (n i : Nat) (out : List Dual) : State :=
  let c := s.subc n i
  let sy := symS (s.baud n) (s.kSub n)
  if (s.burstPayload n i).isSome then s.setSubc n i { c with syms := c.syms ++ s.blockData n i out }
  else if sy ≤ c.pos + 128 then
    (s.setSubc n i { c with syms := c.syms ++ s.blockData n i (out.take (sy - c.pos)) }).deliverSoft n i
  else s.setSubc n i { c with syms := c.syms ++ s.blockData n i out }

/-- A SOP rate in krad/s exceeds BOOST_TH (R151). -/
def State.sopFast (s : State) (n : Nat) (rate : Rat) : Bool :=
  decide (((10 * s.get (RXD.page n) RXD.SOP_CFG_BOOST_TH : Nat) : Rat) < rate)

/-- The last SOP rate found: a boost holds on from the last one above the threshold (R151). -/
def State.sopSeen (s : State) (n : Nat) (rate : Rat) : State :=
  if s.sopFast n rate then s.setRx n { s.rxs n with boostAt := s.now } else s

/-- The taps, timing, phases and sums after a block, and the criteria of a singular equaliser counted (R149, R152 to R154). -/
def State.eqStep (s : State) (n i : Nat) (b : Block) : State :=
  let c := s.subc n i
  let x := s.rxSet n i
  let sy := max 1 (symS x.baud x.k)
  let z := (b.z.drop rxSpan).take 128
  let gut := decide (c.pos % sy < symG x.k) || decide (sy < c.pos % sy + 128)
  let mu : Rat := 1 / (2 ^ s.muNow n i gut : Nat)
  let e := match c.st with
    | .eqBlind | .gutterSearch => z.zipIdx.map (fun v => (rxSpan + v.2, (⟨cmError x v.1.x, cmError x v.1.y⟩ : Dual)))
    | .train | .track => lmsErrors x c.pos c.pilotOk b
    | _ => []
  let taps := if c.st = .burst then c.taps else adapt x.nt mu c.taps b.u e
  let low := match c.detRef with
    | some r => decide (10 * detMean x.nt taps < r)
    | none => false
  let acc := if c.st = .track then measBlock x c.pos b (respAt x.nt c.taps 0 0) c.acc else c.acc
  let bound : Rat := 1 / 5000
  let tm := c.timing + Config.gardner (2 ^ s.get (RXD.page n) RXD.TR_CFG_BW) b.u
  let est := (b.estX.filter (fun v => decide (v.1 < rxSpan + 128))).map (·.2)
  let s := s.sopSeen n (acc.sopLast)
  s.setSubc n i { c with
    taps := taps, timing := max (-bound) (min bound tm), detRun := if low then c.detRun + 1 else 0,
    corrRun := if correlated z then c.corrRun + 1 else 0,
    rot := c.rot + 128 * (c.fd / (1000000 * x.rate)), phases := est.drop (est.length - 2),
    win := c.win.add x z b.u,
    acc := acc,
    pos := if c.st = .burst then c.pos + 128 else (c.pos + 128) % sy }

/-- A singular equaliser rebuilds its Y output and returns to EQ_BLIND, raising EQ_SINGULAR (R152). -/
def State.eqSingular (s : State) (n i : Nat) : State :=
  let c := s.subc n i
  let s := s.setSubc n i { c with taps := rebuildTaps (s.nTaps n) c.taps, singular := min 65535 (c.singular + 1), detRun := 0, corrRun := 0 }
  (s.raise (Kind.RXD.pg n) RXD.ev_EQ_SINGULAR).acqTo n i .eqBlind

/-- EQ_BLOCK_UPDATE: a block of 128 symbols of a subcarrier passes the receive chain, from the samples of the four ADCs (with those on
either side that its filters and carrier recovery span) to LLRs, which leave only in TRACK and in a burst's payload (R135, R169,
R238); the equaliser adapts (R149), and the block-level criteria are judged: a criterion of a singular equaliser that has held for 16
blocks (R152), and in EQ_BLIND those of a full window of 1,024 blocks (R168). -/
def execEqBlockUpdate (n : Fin 2) (i : Fin 16) (adc : List (List (BitVec 8))) (s : State) : Host.Outcome State Fault Refusal :=
  act s fun s =>
    let c := s.subc n i
    if c.st.code < 4 ∨ (c.st = .burst ∧ (s.burstPayload n i).isNone) then s
    else
      let b := s.rxBlock n i adc
      let s := if c.st = .track ∨ c.st = .burst then s.takeData n i b.out else s
      let s := s.eqStep n i b
      let c := s.subc n i
      if c.st = .burst then s
      else if 16 ≤ c.detRun ∨ 16 ≤ c.corrRun then s.eqSingular n i
      else if c.win.n < 1024 then s
      else
        let s := s.setSubc n i { c with win := {}, costPrev := some c.win.cost }
        if c.st = .eqBlind && c.win.settled c.costPrev then s.acqTo n i .gutterSearch else s

/-- EQ_BLIND_TIMEOUT: 5 ms in EQ_BLIND (R168). -/
def execEqBlindTimeout (n : Fin 2) (i : Fin 16) (s : State) : Host.Outcome State Fault Refusal :=
  act s fun s => if s.inFor n i .eqBlind (5 * nsMs) then s.enterCd n i allCands else s

/-- What a folio's gutter shows (R152, R168): the position, its first symbol counted from the next block's, and whether it
was found on both outputs, whether the X sequence stood on the Y output, whether the correlation is below half of nominal, and for
TRAIN whether the pilot phase error of the folio is below 0.2 rad and SNR_meas moved at most 0.2 dB over the last 16 folios. -/
def State.gutterSeen (s : State) (n i : Nat) (pos : Int) (found swapped low pilotOk snrOk : Bool) : State :=
  let c := s.subc n i
  match c.st with
  | .gutterSearch =>
    let same := found && c.gutterHits != 0 && decide ((pos - c.gutterPos).natAbs ≤ 2)
    let hits := if same then c.gutterHits + 1 else if found then 1 else 0
    let sy := max 1 (symS (s.baud n) (s.kSub n))
    let s := s.setSubc n i { c with gutterHits := hits, gutterPos := if same then c.gutterPos else pos,
                                    swapDue := c.swapDue || swapped,
                                    pos := if found then ((-pos) % (sy : Int)).toNat else c.pos }
    if hits = 3 then s.acqTo n i .train else s
  | .train | .track =>
    let miss := if low then c.gutterMiss + 1 else 0
    let s := s.setSubc n i { c with gutterMiss := miss, folios := c.folios + 1, pilotOk := pilotOk }
    if miss = 8 then s.acqTo n i .gutterSearch
    else if c.st = .train && 64 ≤ c.folios + 1 && pilotOk && snrOk then s.enterTrack n i
    else s
  | _ => s

/-- GUTTER_SEARCH_TIMEOUT: 2 ms in GUTTER_SEARCH (R168). -/
def execGutterSearchTimeout (n : Fin 2) (i : Fin 16) (s : State) : Host.Outcome State Fault Refusal :=
  act s fun s => if s.inFor n i .gutterSearch (2 * nsMs) then s.enterEqBlind n i else s

/-- ACQ_TRAIN_TIMEOUT: 10 ms in TRAIN (R168). -/
def execAcqTrainTimeout (n : Fin 2) (i : Fin 16) (s : State) : Host.Outcome State Fault Refusal :=
  act s fun s => if s.inFor n i .train (10 * nsMs) then s.acqTo n i .gutterSearch else s

/-- SOP_BOOST_START: the SOP rate of a subcarrier in TRACK over 1 µs exceeded BOOST_TH (R151). -/
def execSopBoostStart (n : Fin 2) (s : State) : Host.Outcome State Fault Refusal :=
  act s fun s =>
    if (s.rxs n).boost || !s.flag (RXD.page n) RXD.CTRL_SOP_BOOST_EN || !s.active (Kind.RXD.pg n)
        || !(List.range 16).any (fun i => (s.subc n i).st = .track && s.sopFast n (s.subc n i).acc.sopLast) then s
    else (s.setRx n { s.rxs n with boost := true, boostAt := s.now }).raise (Kind.RXD.pg n) RXD.ev_SOP_TRANSIENT

/-- SOP_BOOST_END: the rate stayed below the threshold for BOOST_HOLD (R151). -/
def execSopBoostEnd (n : Fin 2) (s : State) : Host.Outcome State Fault Refusal :=
  act s fun s =>
    if s.now < (s.rxs n).boostAt + s.get (RXD.page n) RXD.SOP_CFG_BOOST_HOLD * nsUs then s
    else s.setRx n { s.rxs n with boost := false }

/-- PHASE_JUMP: two consecutive pilot phase estimates differ by more than π/2 (R155). -/
def execPhaseJump (n : Fin 2) (i : Fin 16) (s : State) : Host.Outcome State Fault Refusal :=
  act s fun s =>
    let c := s.subc n i
    let jump := match c.phases with
      | [a, b] => decide (1 / 4 < a - b) || decide (1 / 4 < b - a)
      | _ => false
    if !jump ∨ (c.st ≠ .train ∧ c.st ≠ .track) then s
    else (s.setSubc n i { c with phaseJumps := min 65535 (c.phaseJumps + 1) }).raise (Kind.RXD.pg n) RXD.ev_PHASE_JUMP

/-- DESKEW_STEP: in TRAIN and TRACK each ADC moves at most one step toward what the gutter shows, within ±127, and none
on a flagged gutter (R139). With several subcarriers the spec does not say whose TRAIN or TRACK counts: subcarrier 0's (log 124). -/
def execDeskewStep (n : Fin 2) (d0 : Int) (d1 : Int) (d2 : Int) (d3 : Int) (s : State) :
    Host.Outcome State Fault Refusal :=
  act s fun s =>
    let st := (s.subc n 0).st
    if (st ≠ .train ∧ st ≠ .track) ∨ (s.rxs n).flagged then s
    else
      each [(0, d0), (1, d1), (2, d2), (3, d3)] (fun (x : Nat × Int) t =>
        let f := RXD.DESKEW_CUR_DSK x.1
        t.setI (RXD.page n) f (clampI 127 (t.getI (RXD.page n) f + clampI 1 x.2))) s

/-! ### Nonlinear compensation (R164 to R166) -/

/-- The leave for NLC enabling is granted: STARTING (R164). -/
def State.nlcGranted (s : State) (n : Nat) : State :=
  (s.setRx n { s.rxs n with nlcLeave := true }).set (RXD.page n) RXD.NLC_STATUS_STATE 5

/-- The leave is refused: REFUSED, and NLC_REQ stays 1 (R164, Table 5-14). -/
def State.nlcRefused (s : State) (n : Nat) : State :=
  (s.set (RXD.page n) RXD.NLC_STATUS_STATE 4).raise (Kind.RXD.pg n) RXD.ev_NLC_OFF

/-- A request for NLC: THERMAL_OFF while held, else leave is requested (R164). -/
def State.nlcRequest (s : State) (n : Nat) : State :=
  let b := RXD.page n
  if (s.rxs n).nlcHeld then s.set b RXD.NLC_STATUS_STATE 3
  else
    let s := s.set b RXD.NLC_STATUS_STATE 1
    match s.requestLeave (catalogue 8 n) with
    | (.granted, s) => s.nlcGranted n
    | (.refused, s) => s.nlcRefused n
    | (.queued, s) => s

/-- The stage is told to stop: at the next eligible gutter in TRACK, at once otherwise (R164). -/
def State.nlcHalt (s : State) (n : Nat) : State :=
  if (s.rxs n).nlcOn && (s.subc n 0).st = .track then s.setRx n { s.rxs n with nlcStop := true }
  else s.nlcStopped n

/-- NLC_REQ changes to 0: a queued leave is withdrawn, a standing cost released, the stage stops (R164). -/
def State.nlcStopRequest (s : State) (n : Nat) : State := (s.nlcRelease n).nlcHalt n

/-- NLC_GUTTER_START: at an eligible gutter with subcarrier 0 in TRACK a granted stage starts (R150, R164). -/
def execNlcGutterStart (n : Fin 2) (s : State) : Host.Outcome State Fault Refusal :=
  act s fun s =>
    let b := RXD.page n
    if s.get b RXD.NLC_STATUS_STATE ≠ 5 ∨ (s.subc n 0).st ≠ .track ∨ (s.rxs n).flagged then s
    else
      let s := s.setRx n { s.rxs n with nlcOn := true, nlcStop := false, flagged := true }
      (s.set b RXD.NLC_STATUS_STATE 2).raise (Kind.RXD.pg n) RXD.ev_NLC_ON

/-- NLC_LEAVE_END: 2 ms after the grant the enabling leave ends and the standing cost joins, unless NLC was stopped
meanwhile (R164, R523). -/
def execNlcLeaveEnd (n : Fin 2) (s : State) : Host.Outcome State Fault Refusal :=
  act s fun s =>
    if !(s.rxs n).nlcLeave then s
    else
      let st := s.get (RXD.page n) RXD.NLC_STATUS_STATE
      let s := (s.setRx n { s.rxs n with nlcLeave := false }).endLeave 8 n
      if (st = 5 ∨ st = 2) ∧ !(s.rxs n).nlcStop then
        { s with pwr := { s.pwr with nlcStanding := s.pwr.nlcStanding.put n 4000 } }.syncPower
      else s

/-- The thermal hold of NLC begins (R165). -/
def State.nlcHoldBegin (s : State) (n : Nat) : State :=
  let b := RXD.page n
  let st := s.get b RXD.NLC_STATUS_STATE
  if (s.rxs n).nlcHeld then s
  else
    let s := s.setRx n { s.rxs n with nlcHeld := true, nlcCool := none }
    if st = 1 ∨ st = 5 ∨ st = 2 then
      let s := (s.nlcRelease n).nlcHalt n
      let s := s.set b RXD.NLC_STATUS_STATE 3
      (s.bump b RXD.NLC_STATUS_THERMAL_OFFS).raise (Kind.RXD.pg n) RXD.ev_NLC_OFF
    else s

/-- The hold ends: a request that waits in THERMAL_OFF asks for leave again (R165). -/
def State.nlcHoldEnd (s : State) (n : Nat) : State :=
  let b := RXD.page n
  let s := s.setRx n { s.rxs n with nlcHeld := false, nlcCool := none }
  if s.flag b RXD.CTRL_NLC_REQ && s.get b RXD.NLC_STATUS_STATE = 3 then s.nlcRequest n else s

/-! ### The spare slice (R178 to R180) -/

/-- CHECK_ERRS grows and saturates. -/
def State.sliceErrs (s : State) (n errs : Nat) : State := s.bumpBy (RXD.page n) RXD.SLICE_STATUS_CHECK_ERRS errs

/-- A slice fails: SLICE_FAIL is raised; a FREE spare, or one that only a sweep has in SHADOW (R611), enters SHADOW on its share; a
spare in use or FAILED is exhausted, at every failure of a slice that goes on running; the failing slice continues to run (R178 to
R180). A slice that the spare carries no longer runs, and one whose handover is under way fails no second time. -/
def State.sliceFail (s : State) (n slice : Nat) : State :=
  let b := RXD.page n
  let st := s.get b RXD.SLICE_STATUS_SPARE_STATE
  let old := (s.rxs n).failedSlices
  let sl := s.get b RXD.SLICE_STATUS_SLICE
  if sl = slice ∧ (st = 2 ∨ (st = 1 ∧ old.contains slice)) then s
  else
    let s := s.raise (Kind.RXD.pg n) RXD.ev_SLICE_FAIL
    let sweeping := decide (st = 1) && !old.contains sl
    let s := s.setRx n { s.rxs n with failedSlices := if old.contains slice then old else old ++ [slice] }
    if st = 0 ∨ sweeping then (s.set b RXD.SLICE_STATUS_SPARE_STATE 1).set b RXD.SLICE_STATUS_SLICE slice
    else s.raise (Kind.RXD.pg n) RXD.ev_SLICE_SPARE_EXHAUSTED

/-- SLICE_FAIL: a slice records `errs` check errors in a folio; 8 or more fail it (R178). -/
def execSliceFail (n : Fin 2) (slice : Fin 24) (errs : Nat) (s : State) : Host.Outcome State Fault Refusal :=
  act s fun s =>
    let s := s.sliceErrs n errs
    if errs < 8 then s
    else ((if (s.rxs n).failedSlices.contains slice.val then s else s.sweepYield 1).sliceFail n slice)

/-- SLICE_HANDOVER: after 2 clean folios of SHADOW the spare takes over at the next gutter, and RPR records the failure
(R179). -/
def execSliceHandover (n : Fin 2) (s : State) : Host.Outcome State Fault Refusal :=
  act s fun s =>
    let b := RXD.page n
    let sl := s.get b RXD.SLICE_STATUS_SLICE
    if !s.handingOver n then s
    else
      let s := (s.set b RXD.SLICE_STATUS_SPARE_STATE 2).raise (Kind.RXD.pg n) RXD.ev_SLICE_SWAPPED
      ((s.repair 2 1 (locUnit n sl)).useSpare RPR.SPARES_SLICES).sweepSealed

/-- SLICE_SHADOW_ERROR: a check error during SHADOW marks the spare FAILED (R180). -/
def execSliceShadowError (n : Fin 2) (errs : Nat) (s : State) : Host.Outcome State Fault Refusal :=
  act s fun s =>
    let b := RXD.page n
    let s := s.sliceErrs n errs
    if s.get b RXD.SLICE_STATUS_SPARE_STATE ≠ 1 then s else (s.set b RXD.SLICE_STATUS_SPARE_STATE 3).sweepSealed

/-! ### Configuration check and register writes -/

/-- The configuration check of RXDn: the search window is not empty and FO_MODE suits the role (R141, R156). -/
def State.checkRxd (s : State) (n : Nat) : Bool :=
  let w := s.cdWindow n
  decide (w.1 ≤ w.2) && !(s.role n = 1 && s.foMode n != 2) && !(s.role n = 2 && s.foMode n = 2)

/-- Field ranges of Table 5-11. -/
def rangeRXD (off v : Nat) : Bool :=
  if off = RXD.CTRL then fv v RXD.CTRL_FO_MODE != 3
  else if off = RXD.MOD then fv v RXD.MOD_FORMAT != 3 && inR v RXD.MOD_ENTROPY 128 358
  else if off = RXD.OPT_FREQ then inR v RXD.OPT_FREQ_FREQ 1840000 1980000
  else if off = RXD.CD_WINDOW then
    decide (toSigned 16 (fv v RXD.CD_WINDOW_MIN) ≤ toSigned 16 (fv v RXD.CD_WINDOW_MAX))
  else if off = RXD.CD_HINT then inR v RXD.CD_HINT_SPAN 10 20000
  else if off = RXD.EQ_CFG then
    inR v RXD.EQ_CFG_N_TAPS 1 8 && inR v RXD.EQ_CFG_MU_BLIND 4 15 && inR v RXD.EQ_CFG_MU_TRAIN 4 15
      && inR v RXD.EQ_CFG_MU_TRACK 4 15 && inR v RXD.EQ_CFG_MU_BOOST 0 4
  else if off = RXD.SOP_CFG then inR v RXD.SOP_CFG_BOOST_TH 50 2000 && inR v RXD.SOP_CFG_BOOST_HOLD 100 10000
  else if off = RXD.CR_CFG then inR v RXD.CR_CFG_BPS_STEP 1 15 && inR v RXD.CR_CFG_BPS_W 8 63
  else if off = RXD.DESKEW_INIT then (List.range 4).all (fun c => inRI v (RXD.DESKEW_INIT_DSK c) (-127) 127)
  else if off = RXD.FO_CFG then inR v RXD.FO_CFG_CAPTURE 10 1000 && inR v RXD.FO_CFG_FREQ_TIMEOUT 1 255
  else if off = RXD.FB_CFG then inR v RXD.FB_CFG_RATE 1 10 && inR v RXD.FB_CFG_SETTLE 1 100
  else if off = RXD.FB_FMT then
    inR v RXD.FB_FMT_WIDTH 1 24 && decide (fv v RXD.FB_FMT_POS + fv v RXD.FB_FMT_WIDTH ≤ 32)
  else if off = RXD.FB_LIMIT then inR v RXD.FB_LIMIT_LSB 1 65535 && inR v RXD.FB_LIMIT_MAX 100 12000
  else if off = RXD.NLC_CFG then inR v RXD.NLC_CFG_ENTRIES 0 1024
  else if off = RXD.MEAS_CFG then inR v RXD.MEAS_CFG_PERIOD 1 255
  else if off = RXD.LOS_CFG then inR v RXD.LOS_CFG_THRESH 10 40 && inR v RXD.LOS_CFG_HOLD 1 255
  else if off = RXD.REACQ_CFG then inR v RXD.REACQ_CFG_MEM_TIME 0 3600
  else true

/-- NLC stands in a state in which its settings are fixed (R166). -/
def State.nlcFixed (s : State) (n : Nat) : Bool :=
  let st := s.get (RXD.page n) RXD.NLC_STATUS_STATE
  st = 1 || st = 2 || st = 5

/-- The tap snapshot of a subcarrier fills its window entries, taps at or above N reading 0, and SNAP_TIME (R181, Table 5-10). -/
def State.tapSnap (s : State) (n i : Nat) : State :=
  let t := (s.subc n i).taps
  let nt := s.nTaps n
  let s := each (List.range 256) (fun j u =>
    u.setNat (RXDW.TAPS n (256 * i + j)) (if j % 64 < nt then cxWord (t.getD j {}) else 0)) s
  (s.setNat64 (RXD.page n + RXD.SNAP_TIME) s.dtime).raise (Kind.RXD.pg n) RXD.ev_SNAP_DONE

/-- A write of RXDn.CMD: SUBC lies below K where RESTART of one subcarrier or SNAP uses it (R642), FB_ZERO only in OFF or CONFIG (R144, R174, R181,
Table 5-11). -/
def State.rxdCmd (s : State) (n v : Nat) : WOut :=
  let sub := fv v RXD.CMD_SUBC
  if (fb v RXD.CMD_RESTART && !fb v RXD.CMD_ALL || fb v RXD.CMD_SNAP) && decide (s.kSub n ≤ sub) then no .range s
  else if fb v RXD.CMD_FB_ZERO && !s.inConfig (Kind.RXD.pg n) then no .state s
  else
    let s := if fb v RXD.CMD_RESTART then
        (if fb v RXD.CMD_ALL then each (List.range 16) (fun i t => t.acqRestart n i) s else s.acqRestart n sub)
      else s
    let s := if fb v RXD.CMD_SNAP then s.tapSnap n sub else s
    let s := if fb v RXD.CMD_MEM_CLEAR then s.cdClear n else s
    ok (if fb v RXD.CMD_FB_ZERO then
        let s := (s.setRx n { s.rxs n with cLaser := 0, zeroDue := true }).showC n
        if (s.txs n).laserEn then s.laserEnabled n else s
      else s)

/-- A write that reaches RXDn's registers. -/
def wrRXD (n off v : Nat) (s : State) : WOut :=
  let b := RXD.page n
  if off = RXD.CTRL then
    let req := fb v RXD.CTRL_NLC_REQ
    let was := s.flag b RXD.CTRL_NLC_REQ
    if req && 1 < s.kSub n then no .state s
    else
      let s := s.setNat (b + off) v
      let s := if fb v RXD.CTRL_SOP_BOOST_EN then s else s.setRx n { s.rxs n with boost := false }
      ok (if req && !was then s.nlcRequest n else if !req && was then s.nlcStopRequest n else s)
  else if off = RXD.CMD then s.rxdCmd n v
  else if off = RXD.NLC_CFG then (if s.nlcFixed n then no .state s else ok (s.setNat (b + off) v))
  else ok (s.setNat (b + off) v)

/-- A write into RXDn's window: NLC coefficient entries, m and k from −31 to 31 (R166, R181). -/
def winRXD (n a v : Nat) (s : State) : WOut :=
  if !(inRI v ⟨0, 0, 6⟩ (-31) 31 && inRI v ⟨0, 6, 6⟩ (-31) 31) then no .range s
  else if s.nlcFixed n then no .state s
  else ok (s.setNat a v)

end Sys2Proof.Machine
end

