-- ==== Sys2Proof/Machine/Sub.lean ====
section
/-!
DEFINITION. SUBn: the upstream schedule and burst map, joining and ranging, the hub's leaf entries, the LEAF role, the
burst receiver and the burst log (chapter 7).
-/
namespace Sys2Proof.Machine

/-! ### Times: units of 1/64 ns, 125 of them to 1/1,024 folio -/

/-- A folio is 2 µs. -/
def tFolio : Nat := 128000

/-- The window of a schedule entry in 1/64 ns from the cycle's start, without its guard (R222). -/
structure SWin where
  leaf : Nat
  subc : Nat
  folio : Nat
  start : Nat
  len : Nat

def SWin.lo (w : SWin) : Nat := w.folio * tFolio + w.start * 125
def SWin.hi (w : SWin) : Nat := w.lo + w.len * 2000

/-- The valid window at entry 256 b + e of the schedule. -/
def State.schedWin (s : State) (n b e : Nat) : Option SWin :=
  let a := SUBW.SCHED n (256 * b + e)
  if s.flag a SUBW.SCHED_WVALID then
    some { leaf := s.get a SUBW.SCHED_LEAF, subc := e / 16, folio := s.get a SUBW.SCHED_FOLIO,
           start := s.get a SUBW.SCHED_START, len := s.get a SUBW.SCHED_LEN }
  else none

/-- The valid windows of a bank with their entry numbers. -/
def State.bankWins (s : State) (n b : Nat) : List (Nat × SWin) :=
  (List.range 256).filterMap (fun e => (s.schedWin n b e).map (fun w => (e, w)))

/-- Guard in 1/64 ns. -/
def State.guard64 (s : State) (n : Nat) : Nat := 64 * s.get (SUB.page n) SUB.BURST_CFG_GUARD

/-- First symbol of a window and the symbol at which its ramp-down ends, counted from the cycle's start (R222). -/
def SWin.first (w : SWin) (sym : Nat) : Nat := ceilDiv ((w.folio * 1024 + w.start) * sym) 1024
def SWin.last (w : SWin) (sym : Nat) : Nat := (w.folio * 1024 + w.start + 16 * w.len) * sym / 1024

/-- A stretch of `len` from `lo` meets the gutter of a folio; folio and gutter lengths in the same unit. -/
def meetsGutter (fol gut lo len : Nat) : Bool :=
  len != 0 && (decide (lo % fol < gut) || decide (fol < lo % fol + len))

/-- The rules of Table 7-3 that window `w` at entry `e` breaks, lowest first. -/
def State.windowFails (s : State) (n c : Nat) (wins : List (Nat × SWin)) (e : Nat) (w : SWin) : List Nat :=
  let k := s.kSub n
  let baud := s.baud n
  let sym := symS baud k
  let ramp := s.get (TXD.page n) TXD.RAMP_CFG_LEN
  let g := s.guard64 n
  let cyc := 2 ^ c * tFolio
  let a := w.first sym
  let b := w.last sym
  let fol := 2 * k * sym
  let gut := 2 * k * symG k
  let isOver := fun (x y : SWin) =>
    [0, cyc, 2 * cyc].any (fun d => decide (x.lo + cyc < y.hi + d) && decide (y.lo + d < x.hi + g + cyc))
  let mine := wins.filter (fun x => x.2.subc = w.subc)
  let r1 := mine.any (fun x => x.1 != e && isOver w x.2)
  let r2 := decide ((b - a - (2 * ramp + 320)) * k < 2000 * baud)
  let r3 := meetsGutter fol gut (2 * k * a) (2 * k * (ramp + 320)) || meetsGutter fol gut (2 * k * (b - ramp)) (2 * k * ramp)
    || meetsGutter fol gut (2 * k * b) (s.get (SUB.page n) SUB.BURST_CFG_GUARD * baud)
  let r4 := decide (8 < ((mine.map (fun x => x.2.leaf)).eraseDups).length)
  let r5 := decide (13 < (wins.filter (fun x => x.2.folio = w.folio)).length)
  let r6 := s.upType n w.subc != 2
  let r7 := decide (2 ^ c ≤ w.folio) || decide (cyc < w.hi)
  [(r1, 1), (r2, 2), (r3, 3), (r4, 4), (r5, 5), (r6, 6), (r7, 7)].filterMap (fun x => if x.1 then some x.2 else none)

/-- SCHED_CTRL.CHECK: the inactive bank against Table 7-3 under NEXT_CYCLE_LOG2; the first failing entry in index order
(R222). -/
def State.schedCheck (s : State) (n : Nat) : State :=
  let b := SUB.page n
  let wins := s.bankWins n (1 - s.get b SUB.SCHED_CTRL_BANK_ACTIVE)
  let c := s.get b SUB.SCHED_CTRL_NEXT_CYCLE_LOG2
  let bad := wins.filterMap (fun x => (s.windowFails n c wins x.1 x.2).head?.map (fun r => (x.1, r)))
  match bad with
  | [] => ((s.set b SUB.SCHED_CTRL_RESULT 1).set b SUB.SCHED_CTRL_FAIL_ENTRY 0).set b SUB.SCHED_CTRL_FAIL_RULE 0
  | (e, r) :: _ =>
    let s := ((s.set b SUB.SCHED_CTRL_RESULT 2).set b SUB.SCHED_CTRL_FAIL_ENTRY e).set b SUB.SCHED_CTRL_FAIL_RULE r
    s.raise (Kind.SUB.pg n) SUB.ev_SCHED_CHECK_FAIL

/-- SCHED_CTRL.APPLY: the banks are exchanged and the cycle loaded; the new bank governs grants from the first folio of
its cycle at least 17 after the downstream folio in progress (R223). -/
def State.schedApply (s : State) (n : Nat) : State :=
  let b := SUB.page n
  let c := s.get b SUB.SCHED_CTRL_NEXT_CYCLE_LOG2
  let s := s.set b SUB.SCHED_CTRL_BANK_ACTIVE (1 - s.get b SUB.SCHED_CTRL_BANK_ACTIVE)
  let s := (s.set b SUB.SCHED_CTRL_CYCLE_LOG2 c).set b SUB.SCHED_CTRL_RESULT 0
  let x := s.subst n
  let u := ceilDiv (x.folio + 17) (2 ^ c) * 2 ^ c
  let old := (s.bankWins n x.govBank).map (fun w => (w.2.subc, w.2.folio, w.2.start, w.2.len))
  s.setSub n { x with activePassed := true, switchAt := some u, oldWins := old, oldCycle := x.govCycle, oldUntil := u }

/-! ### Leaf entries and the ASSIGN FIFO (R225, R228) -/

def leafFREE : Nat := 0
def leafRESERVED : Nat := 1
def leafVERIFY : Nat := 2
def leafINSERVICE : Nat := 3
def leafLOST : Nat := 4

/-- State of a leaf entry. -/
def State.leafSt (s : State) (n l : Nat) : Nat := s.get (SUBW.LEAFE n l) SUBW.LEAFE_LSTATE

/-- What the hub keeps of a leaf. -/
def State.leafMem (s : State) (n l : Nat) : LeafMem := Tab.get (fun _ => {}) (s.subst n).leaves l
def State.setLeafMem (s : State) (n l : Nat) (m : LeafMem) : State :=
  s.setSub n { s.subst n with leaves := Tab.put (fun _ => {}) (s.subst n).leaves l m }

/-- A leaf's last measured arrival error lies within ±WINDOW_TOL (R218); of a leaf of which none is measured yet the spec does not
say: it stands for no error outside (log 125). -/
def State.arrivalOk (s : State) (n l : Nat) : Bool :=
  match (s.leafMem n l).err with
  | some e => decide (e.natAbs ≤ 100 * s.get (SUB.page n) SUB.RANGE_CFG_WINDOW_TOL)
  | none => true

/-- HUB_STATUS follows the entries: the leaves in service, and WINDOW_OK, whose fall raises WINDOW_LOST (R218). -/
def State.hubRefresh (s : State) (n : Nat) : State :=
  let b := SUB.page n
  let serving := (List.range 32).filter (fun l => s.leafSt n l = leafINSERVICE)
  let good := !serving.isEmpty && serving.all (fun l => s.arrivalOk n l)
  let was := s.flag b SUB.HUB_STATUS_WINDOW_OK
  let s := s.set b SUB.HUB_STATUS_IN_SERVICE serving.length
  let s := s.setB b SUB.HUB_STATUS_WINDOW_OK good
  (s.raiseIf (was && !good) (Kind.SUB.pg n) SUB.ev_WINDOW_LOST).calHold n

/-- A leaf entry changes state. -/
def State.setLeafSt (s : State) (n l st : Nat) : State :=
  (s.set (SUBW.LEAFE n l) SUBW.LEAFE_LSTATE st).hubRefresh n

/-- An ASSIGN pair joins the FIFO of 32, or is not queued and ASSIGN_OVERFLOW is raised (R225). -/
def State.assign (s : State) (n : Nat) (a : Assign) : Bool × State :=
  let x := s.subst n
  if 32 ≤ x.assign.length then (false, s.raise (Kind.SUB.pg n) SUB.ev_ASSIGN_OVERFLOW)
  else
    (true, (s.setSub n { x with assign := x.assign ++ [a] }).set (SUB.page n) SUB.HUB_STATUS_ASSIGN_QUEUED
      (x.assign.length + 1))

/-- The dedicated subcarrier of a leaf: DEDICATED, and owned by it in UP_OWNER (R214, R230). -/
def State.dedSub (s : State) (n l : Nat) : Option Nat :=
  (List.range 16).find? (fun i => s.upType n i = 1 && s.flag (SUB.page n) (SUB.UP_OWNER_VALID (i / 4) (i % 4))
    && s.get (SUB.page n) (SUB.UP_OWNER_LEAF (i / 4) (i % 4)) = l)

/-- A leaf is lost: DEREGISTER is queued and LEAF_LOST raised (Table 7-5). -/
def State.leafLost (s : State) (n l : Nat) : State :=
  let s := s.setLeafSt n l leafLOST
  let s := (s.assign n { leaf := l, action := 4, offset := 0, tag := 0 }).2
  s.raise (Kind.SUB.pg n) SUB.ev_LEAF_LOST

/-- A leaf is in VERIFY or IN_SERVICE. -/
def State.leafServing (s : State) (n l : Nat) : Bool := s.leafSt n l = leafVERIFY || s.leafSt n l = leafINSERVICE

/-- A leaf in VERIFY comes into service (Table 7-5). -/
def State.leafJoined (s : State) (n l : Nat) : State :=
  if s.leafSt n l = leafVERIFY then
    (s.setLeafSt n l leafINSERVICE).raise (Kind.SUB.pg n) SUB.ev_LEAF_JOINED
  else s

/-- The arrival error of a burst leaf, or of a dedicated leaf over a quire, in ps: the last one measured of the leaf (R218). -/
def State.hubArrival (s : State) (n l : Nat) (ps : Int) : State :=
  (s.setLeafMem n l { s.leafMem n l with err := some ps }).hubRefresh n

/-- The running average of a leaf's arrival errors: at AVG_N of them a mean of at least TRACK_TH queues OFFSET, raises
OFFSET_SENT and restarts the average from upstream folio f + 16 (R229). `folio` is the upstream folio measured. -/
def State.arrivalAvg (s : State) (n l folio : Nat) (ps : Int) : State :=
  let b := SUB.page n
  let m := s.leafMem n l
  if s.leafSt n l ≠ leafINSERVICE ∨ folio < m.avgFrom then s
  else
    let sum := m.sum + ps
    let cnt := m.n + 1
    let avg := s.get b SUB.RANGE_CFG_AVG_N
    if cnt < avg then s.setLeafMem n l { m with sum := sum, n := cnt }
    else
      let mean := divRound sum cnt
      let s := s.setI (SUBW.LEAFE n l) SUBW.LEAFE_ARRIVAL_AVG mean
      let s := s.setLeafMem n l { m with sum := 0, n := 0 }
      if sum.natAbs < 100 * cnt * s.get b SUB.RANGE_CFG_TRACK_TH then s
      else
        let d := s.getI (SUBW.LEAFE n l) SUBW.LEAFE_LOFFSET - divRound sum (500 * cnt)
        let off := ofSigned 22 d
        match s.assign n { leaf := l, action := 1, offset := off, tag := 0 } with
        | (false, s) => s
        | (true, s) =>
          let s := s.set (SUBW.LEAFE n l) SUBW.LEAFE_LOFFSET off
          let x := s.subst n
          (s.setLeafMem n l { s.leafMem n l with avgFrom := x.folio + x.assign.length + 16 }).raise (Kind.SUB.pg n)
            SUB.ev_OFFSET_SENT

/-- WINDOW_LOST: WINDOW_OK is judged again (R218). -/
def execWindowLost (n : Fin 2) (s : State) : Host.Outcome State Fault Refusal :=
  act s fun s => s.hubRefresh n

/-- DEDICATED_LOSS_TIMEOUT: a dedicated leaf's subcarrier has been out of TRACK for LOSS_N ms (R228). -/
def execDedicatedLossTimeout (n : Fin 2) (leaf : Fin 32) (s : State) : Host.Outcome State Fault Refusal :=
  act s fun s =>
    match s.dedSub n leaf with
    | none => s
    | some i => if s.leafServing n leaf && (s.subc n i).st != .track
        && decide ((s.subc n i).lostAt + s.get (SUB.page n) SUB.RANGE_CFG_LOSS_N * nsMs ≤ s.now) then s.leafLost n leaf else s

/-- The upstream folio that a hub receives now (R216). -/
def State.upFolio (s : State) (n : Nat) : Nat := (4000 * (s.frms n).txCount - s.get (SUB.page n) SUB.T_EQ_T_EQ) / 4000

/-- RX_GUTTER_CORRELATE: at a folio's gutter an exchange of outputs that is due takes place and raises POL_SWAP, a stop
of NLC that waits takes effect when the gutter carries no ADC swap (R150, R164), the correlation is judged (R152, R168),
and a flag on the gutter ends, or begins with that stop and lasts until the next. At a hub's dedicated subcarrier TRACK brings its
leaf into service (R228), and the mean arrival error over a quire in ps, given at its end, enters R218 and R229. -/
def execRxGutterCorrelate (n : Fin 2) (i : Fin 16) (pos : Int) (found : Bool) (swapped : Bool) (low : Bool)
    (pilotOk : Bool) (snrOk : Bool) (quireErr : Option Int) (s : State) : Host.Outcome State Fault Refusal :=
  act s fun s =>
    let c := s.subc n i
    let s := if c.swapDue then
        (s.setSubc n i { c with swapDue := false, taps := swapTaps c.taps }).raise (Kind.RXD.pg n) RXD.ev_POL_SWAP
      else s
    let stop := i.val = 0 && (s.rxs n).nlcStop && !(s.rxs n).flagged
    let s := if stop then s.nlcStopped n else s
    let s := s.gutterSeen n i pos found swapped low pilotOk snrOk
    let s := if i.val = 0 then s.setRx n { s.rxs n with flagged := stop } else s
    let owner := (List.range 32).find? (fun l => s.role n = 1 && s.dedSub n l = some i.val)
    match owner with
    | none => s
    | some l =>
      let s := if (s.subc n i).st = .track then s.leafJoined n l else s
      match quireErr with
      | none => s
      | some e => (s.hubArrival n l e).arrivalAvg n l (s.upFolio n) e

/-! ### The burst map (R223 to R226) -/

/-- The join burst's length in 1/64 ns: 2 L + 832 symbols (R221). -/
def State.joinLen (s : State) (n : Nat) : Nat :=
  ceilDiv ((2 * s.get (TXD.page n) TXD.RAMP_CFG_LEN + 832) * 128 * s.kSub n) (s.baud n)

/-- A stretch of hub receive time on the join subcarrier meets the silent span of some quiet window (R226): the spans
repeat every 2^PERIOD_LOG2 folios. -/
def State.meetsQuiet (s : State) (n : Nat) (lo hi : Int) : Bool :=
  let b := SUB.page n
  let pd : Int := 2 ^ s.get b SUB.JOIN_CFG_PERIOD_LOG2 * tFolio
  let t : Int := 32 * s.get b SUB.T_EQ_T_EQ
  let lo' : Int := 125 * s.get b SUB.JOIN_CFG_START - (t - 64000 * s.get b SUB.RTT_RANGE_RTT_MIN)
  let hi' : Int := 125 * s.get b SUB.JOIN_CFG_START - (t - 64000 * s.get b SUB.RTT_RANGE_RTT_MAX) + s.joinLen n + s.guard64 n
  s.flag b SUB.JOIN_CFG_EN && decide (lo - hi' < (hi - lo' - 1) / pd * pd)

/-- The words of an entry of the burst map (Table 7-4). -/
def grantWord (w : SWin) : Nat := 2 ^ 30 + w.leaf * 2 ^ 25 + w.subc * 2 ^ 21 + w.start * 2 ^ 11 + w.len
def quietWord (subc start : Nat) : Nat := 2 * 2 ^ 30 + subc * 2 ^ 21 + start * 2 ^ 11
def assignWord (a : Assign) : Nat := 3 * 2 ^ 30 + a.leaf * 2 ^ 25 + a.action * 2 ^ 22 + a.offset

/-- A window of folio g starts inside the guard of a window of the bank that governed before, at its last turn before the change
(R223). -/
def State.inOldGuard (s : State) (n g : Nat) (w : SWin) : Bool :=
  let x := s.subst n
  let lo := g * tFolio + w.start * 125
  decide (x.oldUntil ≤ g) && x.oldWins.any (fun o =>
    let cyc := 2 ^ x.oldCycle
    let f := x.oldUntil - 1 - (x.oldUntil - 1 + cyc - o.2.1 % cyc) % cyc
    let hi := f * tFolio + o.2.2.1 * 125 + o.2.2.2 * 2000
    o.1 = w.subc && decide (hi ≤ lo) && decide (lo < hi + s.guard64 n))

/-- Insertion of a window by subcarrier, then by START. -/
def insertWin (w : SWin) : List SWin → List SWin
  | [] => [w]
  | x :: r => if w.subc < x.subc ∨ (w.subc = x.subc ∧ w.start ≤ x.start) then w :: x :: r else x :: insertWin w r

/-- BURST_MAP_FILL: in downstream folio `f` the hub fills the map for upstream folio f + 16: the grants, the quiet
entry, one ASSIGN pair (R224 to R226). -/
def execBurstMapFill (n : Fin 2) (f : Nat) (s : State) : Host.Outcome State Fault Refusal :=
  act s fun s =>
    let b := SUB.page n
    if s.role n ≠ 1 ∨ !s.active (Kind.SUB.pg n) then s
    else
      let g := f + 16
      let x : SubState := { s.subst n with folio := f }
      let new : Bool := match x.switchAt with
        | some u => decide (u ≤ g)
        | none => false
      let bank := if new then s.get b SUB.SCHED_CTRL_BANK_ACTIVE else x.govBank
      let cyc := if new then s.get b SUB.SCHED_CTRL_CYCLE_LOG2 else x.govCycle
      let wins := ((s.bankWins n bank).map (·.2)).filter (fun w => w.folio = g % 2 ^ cyc && !s.inOldGuard n g w)
      let ok_ := fun (w : SWin) =>
        s.leafServing n w.leaf && !(w.subc = s.get b SUB.JOIN_CFG_SUBC
          && s.meetsQuiet n (g * tFolio + w.start * 125 : Nat) (g * tFolio + w.start * 125 + w.len * 2000 : Nat))
      let go := ((wins.filter ok_).foldr insertWin []).take 13
      let s := s.count (b + SUB.SUPPRESSED_COUNT) (wins.filter (fun w => !ok_ w)).length
      let gr := go.map (fun w => ({ leaf := w.leaf, subc := w.subc, folio := g, start := w.start, len := w.len } : Grant))
      let quiet := if s.flag b SUB.JOIN_CFG_EN && g % 2 ^ s.get b SUB.JOIN_CFG_PERIOD_LOG2 = 0
        then quietWord (s.get b SUB.JOIN_CFG_SUBC) (s.get b SUB.JOIN_CFG_START) else 0
      let pair := match x.assign with
        | [] => [0, 0]
        | a :: _ => [assignWord a, a.tag]
      let s := s.setSub n { x with grants := x.grants ++ gr, assign := x.assign.drop 1 }
      let s := s.set b SUB.HUB_STATUS_ASSIGN_QUEUED (x.assign.drop 1).length
      let words := (go.map grantWord ++ List.replicate (13 - go.length) 0) ++ quiet :: pair
      let s := s.setFrm n { s.frms n with burstMap := words }
      s.send "burstMap" ((n.val : Int) :: f :: words.map (fun (w : Nat) => (w : Int)))

/-- QUIET_WINDOW_OPEN: the silent span of a join quiet window begins or ends (R226). -/
def execQuietWindowOpen (n : Fin 2) (opens : Bool) (s : State) : Host.Outcome State Fault Refusal :=
  act s fun s =>
    let b := SUB.page n
    (s.setB b SUB.HUB_STATUS_QUIET_OPEN (opens && s.role n = 1 && s.flag b SUB.JOIN_CFG_EN && s.active (Kind.SUB.pg n))).calHold n

/-! ### The burst log (R239) -/

/-- A record of the burst log: verdict, leaf, subcarrier, latched values, and what the verdict adds. -/
structure LogRec where
  verdict : Nat
  leaf : Option Nat := none
  subc : Nat
  intruded : Bool := false
  l : Latched := {}
  uncorr : Nat := 0
  tag : Nat := 0

/-- A record is written at index LOG_WR mod 1,024, or counted in LOG_LOST while FREEZE = 1 (R239). -/
def State.logBurst (s : State) (n : Nat) (r : LogRec) : State :=
  let b := SUB.page n
  let s := if r.verdict = 8 then s.count (b + SUB.NOSYNC_COUNT) else if r.verdict = 9 then s.count (b + SUB.REPLACED_COUNT) else s
  if !bitOf (s.get b SUB.LOG_CTRL_MASK) r.verdict then s
  else if s.flag b SUB.LOG_CTRL_FREEZE then s.count (b + SUB.LOG_LOST)
  else
    let w := s.nat (b + SUB.LOG_WR)
    let a := SUBW.LOG n (w % 1024)
    let s := s.setWords a [s.dtime % 2 ^ 32, s.dtime / 2 ^ 32 % 2 ^ 32,
      w % 65536 + r.verdict * 2 ^ 16 + (r.leaf.getD 0) * 2 ^ 20 + b2n r.leaf.isSome * 2 ^ 25 + r.subc * 2 ^ 26
        + b2n r.intruded * 2 ^ 30,
      r.l.rssi % 1024 + r.l.snr % 1024 * 2 ^ 16, ofSigned 32 r.l.freq, ofSigned 32 r.l.arrival,
      r.l.metric % 256 + min 255 r.uncorr * 2 ^ 8, r.tag]
    s.setNat (b + SUB.LOG_WR) ((w + 1) % 2 ^ 32)

/-! ### Joining (R221, R227) -/

/-- The CRC field of a join record over its bits 95 to 0, byte 0 being bits 7 to 0 (R221). -/
def joinCrc (identity tag : Nat) : Nat :=
  crc32 ((List.range 12).map (fun k => bitsOf (identity + tag * 2 ^ 64) (8 * k) 8))

/-- JOIN_DECISION: the hub has combined the copies of a join record; its CRC decides JOIN_BAD, the choice of a leaf
entry JOIN_REFUSED, or the leaf takes the entry, ACCEPT is queued, and DEDICATED when UP_OWNER names it (R227). -/
def execJoinDecision (n : Fin 2) (i : Fin 16) (record : BitVec 128) (s : State) : Host.Outcome State Fault Refusal :=
  act s fun s =>
    let b := SUB.page n
    let x := s.subst n
    let r := Tab.get (fun _ => {}) x.rx i.val
    if r.st ≠ .join then s
    else
      let id := bitsOf record.toNat 0 64
      let tag := bitsOf record.toNat 64 32
      let s := s.setSub n { x with rx := Tab.put (fun _ => {}) x.rx i.val { r with st := .armed } }
      if bitsOf record.toNat 96 32 ≠ joinCrc id tag then
        s.logBurst n { verdict := 6, subc := i, l := r.latched, tag := tag }
      else
        let entries := List.range 32
        let same := fun l => s.nat64 (SUBW.LEAFE n l + 20) = id
        let listed := fun l => s.flag (SUBW.LEAFE n l) SUBW.LEAFE_LISTED
        let pick := if s.flag b SUB.JOIN_CFG_ADMIT then entries.find? (fun l => same l && listed l)
          else ((entries.find? same).orElse (fun _ => entries.find? (fun l => s.leafSt n l = leafFREE))).orElse
            (fun _ => entries.find? (fun l => s.leafSt n l = leafLOST))
        let refused := fun (s : State) =>
          (s.raise (Kind.SUB.pg n) SUB.ev_JOIN_REFUSED).logBurst n { verdict := 7, subc := i, l := r.latched, tag := tag }
        match pick with
        | none => refused s
        | some l =>
          let off := ofSigned 22 (divRound (-r.latched.arrival) 500)
          match s.assign n { leaf := l, action := 0, offset := off, tag := tag } with
          | (false, s) => refused s
          | (true, s) =>
            let a := SUBW.LEAFE n l
            let s := s.setNat64 (a + 20) id
            let s := s.set a SUBW.LEAFE_LOFFSET off
            let s := (s.bump a SUBW.LEAFE_JOINS).set a SUBW.LEAFE_MISSED_RUN 0
            let s := (s.setI a SUBW.LEAFE_LCD (10 * r.latched.cd)).set a SUBW.LEAFE_LRSSI r.latched.rssi
            let s := s.set a SUBW.LEAFE_LSNR r.latched.snr
            let s := s.setLeafMem n l { cd := r.latched.cd, taps := defaultTaps (s.nTaps n), fd := r.latched.freq }
            let s := s.setLeafSt n l leafVERIFY
            let s := s.logBurst n { verdict := 5, leaf := some l, subc := i, l := r.latched, tag := tag }
            match s.dedSub n l with
            | none => s
            | some d => (s.assign n { leaf := l, action := 2, offset := d * 2 ^ 18, tag := 0 }).2

/-! ### The burst receiver (R233 to R238) -/

def State.burstRx (s : State) (n i : Nat) : BurstRx := Tab.get (fun _ => {}) (s.subst n).rx i
def State.setBurstRx (s : State) (n i : Nat) (r : BurstRx) : State :=
  s.setSub n { s.subst n with rx := Tab.put (fun _ => {}) (s.subst n).rx i r }

/-- A SHARED upstream subcarrier of an active hub has a burst receiver (R233). -/
def State.hasBurstRx (s : State) (n i : Nat) : Bool :=
  s.role n = 1 && s.upType n i = 2 && s.active (Kind.SUB.pg n) && (s.subc n i).st = .burst

/-- The stored state of a leaf is loaded into RXDn (R173, R237). -/
def State.loadLeaf (s : State) (n i l : Nat) : State :=
  let m := s.leafMem n l
  s.setSubc n i { s.subc n i with cd := m.cd, taps := m.taps, fd := m.fd }

/-- BURST_STATE_LOAD: at a window's first symbol the scheduled leaf's state is loaded (R237). -/
def execBurstStateLoad (n : Fin 2) (i : Fin 16) (leaf : Fin 32) (s : State) : Host.Outcome State Fault Refusal :=
  act s fun s => if s.hasBurstRx n i then s.loadLeaf n i leaf else s

/-- BURST_DETECTION: peaks of M (in 2⁻¹⁶) of correlators A and B in one symbol, each with its strength in 0.1 dB; one below DET_TH is
none, the higher of two wins and A on equal M. During a payload the preamble starts before the ramp-down (R233 to R235, Table 7-7). A
captured burst's payload positions so far are dropped: they are absent to FECn. -/
def execBurstDetection (n : Fin 2) (i : Fin 16) (peakA : Option (Nat × Int)) (peakB : Option (Nat × Int)) (s : State) :
    Host.Outcome State Fault Refusal :=
  act s fun s =>
    let b := SUB.page n
    let r := s.burstRx n i
    let hit := fun (p : Option (Nat × Int)) => p.filter (fun x => 256 * s.get b SUB.BURST_CFG_DET_TH ≤ x.1)
    let win := match hit peakA, hit peakB with
      | some x, some y => if x.1 < y.1 then some (true, y) else some (false, x)
      | some x, none => some (false, x)
      | none, some y => some (true, y)
      | none, none => none
    match win with
    | none => s
    | some (corrB, m, strength) =>
      if !s.hasBurstRx n i then s
      else
        let cand := { r with st := .syncSearch, corrB := corrB, candM := m }
        match r.st, r.cur with
        | .armed, _ => s.setBurstRx n i { cand with captured := false }
        | .syncSearch, _ =>
          if corrB != r.corrB && decide (r.candM < m) then
            (s.setBurstRx n i cand).logBurst n { verdict := 9, subc := i }
          else s
        | .payload, some u =>
          let mar := s.get b SUB.CAPTURE_MARGIN
          if mar ≠ 0xFF ∧ -(u.latched.rssi : Int) + 10 * mar ≤ strength then
            let s := s.setBurstRx n i { cand with captured := true, cur := none }
            let s := (s.setSubc n i { s.subc n i with syms := [] }).raise (Kind.SUB.pg n) SUB.ev_COLLIDED
            s.logBurst n { verdict := 2, leaf := some u.leaf, subc := i, intruded := u.intruded, l := u.latched }
          else
            (s.setBurstRx n i { r with cur := some { u with intruded := true } }).count (b + SUB.INTRUDER_COUNT)
        | _, _ => s

/-- An ALIEN record: the receiver re-arms and the payload is discarded. -/
def State.alien (s : State) (n i : Nat) (leaf : Option Nat) (l : Latched) : State :=
  let s := s.setBurstRx n i { s.burstRx n i with st := .armed, captured := false }
  (s.raise (Kind.SUB.pg n) SUB.ev_ALIEN).logBurst n { verdict := 3, leaf := leaf, subc := i, l := l }

/-- The equaliser trains on the 320 known symbols of a burst of sender j with MU_TRAIN, block by block, from the samples of the ADCs
that hold them (R237, Table 5-3); the carrier phase of a block is that of its known symbols. -/
def State.burstTrain (s : State) (n i j : Nat) (adc : List (List (BitVec 8))) : State :=
  let x := s.rxSet n i
  let u := s.rxChain n i adc
  let mu : Rat := 1 / (2 ^ s.get (RXD.page n) RXD.EQ_CFG_MU_TRAIN : Nat)
  let kx := knownBurst x.ps j false
  let ky := knownBurst x.ps j true
  let step := fun (h : List Cx) (b : Nat × Nat) =>
    let idx := (List.range b.2).map (b.1 + ·)
    let z := idx.map (fun t => (t, (⟨eqAt x.nt h u 0 t, eqAt x.nt h u 1 t⟩ : Dual)))
    let phX := Config.arg (csum (z.map (fun v => cmul v.2.x (conj (kx.getD v.1 {})))))
    let phY := Config.arg (csum (z.map (fun v => cmul v.2.y (conj (ky.getD v.1 {})))))
    adapt x.nt mu h u (z.map (fun v => (v.1, (⟨csub (turn (kx.getD v.1 {}) phX) v.2.x, csub (turn (ky.getD v.1 {}) phY) v.2.y⟩ : Dual))))
  s.setSubc n i { s.subc n i with taps := [(0, 128), (128, 128), (256, 64)].foldl step (s.subc n i).taps, rot := 0, syms := [], acc := {} }

/-- BURST_SYNC_LATCH: sync word `j` is found `off` symbols from 256 after the candidate with a metric in 2⁻¹⁶; within ±8 symbols and at
or above SYNC_TH the values of Table 7-8 are latched (arrival error in ps against the window of upstream folio `folio`; the preamble's
CD in 10 ps/nm for a join), the known symbols being in the buffer `adc`. A granted window of the leaf within WIN_TOL leads to PAYLOAD,
a join inside the open silent span to its record, anything else is ALIEN (R234, R236, R237). -/
def execBurstSyncLatch (n : Fin 2) (i : Fin 16) (j : Fin 33) (off : Int) (metric : Nat) (folio : Nat) (rssi : Nat) (snr : Nat)
    (freq : Int) (arrival : Int) (cd : Int) (adc : List (List (BitVec 8))) (s : State) : Host.Outcome State Fault Refusal :=
  act s fun s =>
    let b := SUB.page n
    let r := s.burstRx n i
    if r.st ≠ .syncSearch ∨ 8 < off.natAbs ∨ metric < 256 * s.get b SUB.BURST_CFG_SYNC_TH then s
    else
      let l : Latched := { rssi := rssi, snr := snr, freq := freq, arrival := arrival, metric := min 255 (r.candM / 256), cd := cd }
      if j.val = 32 then
        if s.flag b SUB.HUB_STATUS_QUIET_OPEN && s.get b SUB.JOIN_CFG_SUBC = i.val then
          let s := s.setBurstRx n i { r with st := .join, latched := l, captured := false }
          (s.setSubc n i { s.subc n i with cd := cd, taps := defaultTaps (s.nTaps n), fd := freq }).burstTrain n i 32 adc
        else s.alien n i none l
      else
        let mine := fun (g : Grant) => g.leaf = j.val && g.subc = i.val && g.folio = folio
        match (s.subst n).grants.find? mine with
        | none => s.alien n i (some j.val) l
        | some g =>
          if 1000 * s.get b SUB.BURST_CFG_WIN_TOL < arrival.natAbs then s.alien n i (some j.val) l
          else
            let s := if r.captured then s.loadLeaf n i j else s
            let x := s.subst n
            let s := s.setSub n { x with grants := x.grants.map (fun g => if mine g then { g with latched := true } else g) }
            let u : Burst := { leaf := j, folio := folio, start := g.start, len := g.len, latched := l }
            let s := s.setBurstRx n i { r with st := .payload, captured := false, latched := l, cur := some u }
            let s := s.burstTrain n i j adc
            let s := s.setSubc n i { s.subc n i with pos := s.burstFrom n u }
            let a := SUBW.LEAFE n j
            let s := ((s.set a SUBW.LEAFE_LRSSI rssi).set a SUBW.LEAFE_LSNR snr).set a SUBW.LEAFE_MISSED_RUN 0
            s.hubArrival n j arrival

/-- BURST_NO_SYNC: no sync word by 264 symbols after the candidate (R234). -/
def execBurstNoSync (n : Fin 2) (i : Fin 16) (s : State) : Host.Outcome State Fault Refusal :=
  act s fun s =>
    let r := s.burstRx n i
    if r.st ≠ .syncSearch then s
    else (s.setBurstRx n i { r with st := .armed, captured := false }).logBurst n { verdict := 8, subc := i }

/-- BURST_RAMP_DOWN: the payload reaches its ramp-down: its LLRs pass to FECn, the state that the burst leaves in the receiver is kept
with it, and the receiver re-arms (R234, R237, R238). -/
def execBurstRampDown (n : Fin 2) (i : Fin 16) (s : State) : Host.Outcome State Fault Refusal :=
  act s fun s =>
    let r := s.burstRx n i
    if r.st ≠ .payload then s
    else
      let c := s.subc n i
      (s.deliverSoft n i).setBurstRx n i { r with
        st := .armed, cur := none, ended := r.cur.map (fun u => { u with cd := c.cd, taps := c.taps, fd := c.fd }) }

/-- BURST_VERDICT: FECn has decoded the burst's last codeword and passed the burst on: GOOD when every codeword decoded, ERRORED
otherwise. The verdict is logged, the state that the burst left is stored for its leaf, a leaf in VERIFY comes into service, and the
arrival error enters the average (R228, R229, R237, R238). -/
def execBurstVerdict (n : Fin 2) (i : Fin 16) (s : State) : Host.Outcome State Fault Refusal :=
  act s fun s =>
    let r := s.burstRx n i
    match r.ended, Tab.get (fun _ => none) (s.fecs n).toFrm i.val with
    | some u, some p =>
      let s := s.setBurstRx n i { r with ended := none, last := some u }
      let s := s.logBurst n { verdict := if p.unc + p.absent = 0 then 0 else 1, leaf := some u.leaf, subc := i, intruded := u.intruded,
                              l := u.latched, uncorr := p.unc }
      let s := s.setLeafMem n u.leaf { s.leafMem n u.leaf with cd := u.cd, taps := u.taps, fd := u.fd }
      (s.leafJoined n u.leaf).arrivalAvg n u.leaf u.folio u.latched.arrival
    | _, _ => s

/-- BURST_WINDOW_MISSING: a granted window's expected sync instant + WIN_TOL passed; without a latch it is MISSING, and
LOSS_N of them in a row lose the leaf (R228, R234). The grant is spent. -/
def execBurstWindowMissing (n : Fin 2) (i : Fin 16) (leaf : Fin 32) (folio : Nat) (s : State) :
    Host.Outcome State Fault Refusal :=
  act s fun s =>
    let x := s.subst n
    let mine := fun (g : Grant) => g.leaf = leaf.val && g.subc = i.val && g.folio = folio
    match x.grants.find? mine with
    | none => s
    | some g =>
      let s := s.setSub n { x with grants := x.grants.filter (fun g => !mine g) }
      if g.latched then s
      else
        let s := s.logBurst n { verdict := 4, leaf := some leaf.val, subc := i }
        let a := SUBW.LEAFE n leaf
        let s := s.bump a SUBW.LEAFE_MISSED_RUN
        if s.get (SUB.page n) SUB.RANGE_CFG_LOSS_N ≤ s.get a SUBW.LEAFE_MISSED_RUN && s.leafServing n leaf then
          s.leafLost n leaf
        else s

/-! ### The LEAF role (R225, R231) -/

def State.leafState (s : State) (n : Nat) : Nat := s.get (SUB.page n) SUB.LEAF_STATUS_STATE
def State.setLeafState (s : State) (n st : Nat) : State :=
  (s.setSub n { s.subst n with leafAt := s.now }).set (SUB.page n) SUB.LEAF_STATUS_STATE st

/-- The leaf has been in its state for a number of ms (Table 7-6). -/
def State.leafFor (s : State) (n ms : Nat) : Bool := decide ((s.subst n).leafAt + ms * nsMs ≤ s.now)

/-- Entry to WAIT_QUIET draws a backoff count from the part's random source, a free value (R231); a leaf that joins sends with Δ = 0
(R226). -/
def State.waitQuiet (s : State) (n : Nat) : State :=
  let k := s.freeVal % 2 ^ s.get (SUB.page n) SUB.LEAF_CFG_BACKOFF_LOG2
  ((s.nextFree.setSub n { s.subst n with backoff := k }).set (SUB.page n) SUB.LEAF_OFFSET_DELTA 0).setLeafState n 1

/-- A join burst for upstream folio `g`: sync word 32, Δ = 0, and the record with a tag drawn at random, a free value (R221, R226). -/
def State.sendJoin (s : State) (n g subc start : Nat) : State :=
  let tag := s.freeVal % 2 ^ 32
  let id := s.nat64 (SEC.page + SEC.IDENTITY)
  let x := s.subst n
  let u : TxBurst := { subc := subc, folio := g, start := start, len := 0, sync := 32,
                       record := some (BitVec.ofNat 128 (id + tag * 2 ^ 64 + joinCrc id tag * 2 ^ 96)) }
  let s := s.nextFree.setSub n { x with tag := tag, bursts := x.bursts ++ [u] }
  ((s.bump (SUB.page n) SUB.LEAF_STATUS_ATTEMPTS).set (SUB.page n) SUB.LEAF_OFFSET_DELTA 0).setLeafState n 2

/-- An ASSIGN pair acts at the leaf (Table 7-4, Table 7-6). -/
def State.leafAssign (s : State) (n : Nat) (a : Assign) : State :=
  let b := SUB.page n
  let st := s.leafState n
  let own := s.flag b SUB.LEAF_STATUS_NUM_VALID && s.get b SUB.LEAF_STATUS_LEAF = a.leaf
  match a.action with
  | 0 =>
    if st = 2 ∧ a.tag = (s.subst n).tag then
      let s := (s.set b SUB.LEAF_STATUS_LEAF a.leaf).setB b SUB.LEAF_STATUS_NUM_VALID true
      (s.set b SUB.LEAF_OFFSET_DELTA a.offset).setLeafState n 3
    else s
  | 1 => if own then s.set b SUB.LEAF_OFFSET_DELTA a.offset else s
  | 2 => if own then (s.set b SUB.LEAF_STATUS_DED_SUBC (a.offset / 2 ^ 18)).setB b SUB.LEAF_STATUS_DED_VALID true else s
  | 3 => if own then s.setB b SUB.LEAF_STATUS_DED_VALID false else s
  | 4 =>
    if own ∧ (st = 3 ∨ st = 4) then
      let s := (s.setB b SUB.LEAF_STATUS_NUM_VALID false).setB b SUB.LEAF_STATUS_DED_VALID false
      (s.waitQuiet n).raise (Kind.SUB.pg n) SUB.ev_LEAF_DEREGISTERED
    else s
  | _ => s

/-- A grant comes due: for the leaf's own number its burst is to be sent in upstream folio `g` (R219, R225, R231). -/
def State.leafGrant (s : State) (n g w : Nat) : State :=
  let b := SUB.page n
  if s.flag b SUB.LEAF_STATUS_NUM_VALID ∧ bitsOf w 25 5 = s.get b SUB.LEAF_STATUS_LEAF
      ∧ (s.leafState n = 3 ∨ s.leafState n = 4) then
    let x := s.subst n
    s.setSub n { x with bursts := x.bursts ++ [{ subc := bitsOf w 21 4, folio := g, start := bitsOf w 11 10, len := bitsOf w 0 11,
                                                 sync := s.get b SUB.LEAF_STATUS_LEAF }] }
  else s

/-- What waited for upstream folio `g` acts (R225). -/
def State.leafAct (s : State) (n : Nat) (d : Nat × LeafDo) : State :=
  match d.2 with
  | .assign a => s.leafAssign n a
  | .grant w => s.leafGrant n d.1 w

/-- BURST_MAP_DECODE: a leaf decodes the map of received folio `f`: entries whose upstream folio has come act in the order received; a
quiet entry counts the backoff down or calls for a join burst in folio f + 16; the map's grants and its ASSIGN pair wait for upstream
folio f + 16, so that a grant finds the number as it stands then (R225, R231). -/
def execBurstMapDecode (n : Fin 2) (f : Nat) (entries : List (BitVec 32)) (s : State) :
    Host.Outcome State Fault Refusal :=
  act s fun s =>
    if s.role n ≠ 2 ∨ !s.active (Kind.SUB.pg n) then s
    else
      let x := s.subst n
      let w := fun k => (entries.getD k 0).toNat
      let grants := ((List.range 13).map w).filter (fun v => bitsOf v 30 2 = 1)
      let pair := if bitsOf (w 14) 30 2 = 3 then
          [LeafDo.assign { leaf := bitsOf (w 14) 25 5, action := bitsOf (w 14) 22 3, offset := bitsOf (w 14) 0 22, tag := w 15 }]
        else []
      let new := (pair ++ grants.map LeafDo.grant).map (fun d => (f + 16, d))
      let s := s.setSub n { x with folio := f, leafDue := x.leafDue.filter (fun d => f < d.1) ++ new }
      let s := each (x.leafDue.filter (fun d => d.1 ≤ f)) (fun d t => t.leafAct n d) s
      if bitsOf (w 13) 30 2 = 2 && s.leafState n = 1 then
        (if (s.subst n).backoff = 0 then s.sendJoin n (f + 16) (bitsOf (w 13) 21 4) (bitsOf (w 13) 11 10)
         else s.setSub n { s.subst n with backoff := (s.subst n).backoff - 1 })
      else s

/-- FRMn is aligned on stream 0. -/
def State.frmAligned (s : State) (n : Nat) : Bool := (Tab.get (fun _ => {}) (s.frms n).streams 0).locked

/-- LEAF_JOIN_START: the carrier is UP, subcarrier 0 in TRACK and FRMn aligned (R231). -/
def execLeafJoinStart (n : Fin 2) (s : State) : Host.Outcome State Fault Refusal :=
  act s fun s =>
    if s.role n = 2 && s.leafState n = 0 && s.carrier n = cUP && (s.subc n 0).st = .track && s.frmAligned n
      && s.active (Kind.SUB.pg n) then s.waitQuiet n else s

/-- LEAF_REPLY_TIMEOUT: REPLY_WAIT has passed since the join burst (R231). -/
def execLeafReplyTimeout (n : Fin 2) (s : State) : Host.Outcome State Fault Refusal :=
  act s fun s =>
    if s.leafState n = 2 ∧ s.leafFor n (s.get (SUB.page n) SUB.LEAF_CFG_REPLY_WAIT) then (s.waitQuiet n).raise (Kind.SUB.pg n) SUB.ev_JOIN_NO_REPLY else s

/-- LEAF_FIRST_BURST: the first own grant or dedication begins (R231). -/
def execLeafFirstBurst (n : Fin 2) (s : State) : Host.Outcome State Fault Refusal :=
  act s fun s =>
    if s.leafState n = 3 then (s.setLeafState n 4).raise (Kind.SUB.pg n) SUB.ev_LEAF_IN_SERVICE else s

/-- LEAF_HOLD_ENTRY: FRMn has lost alignment; the leaf holds and every subcarrier ramps to gain 0 (R231). -/
def execLeafHoldEntry (n : Fin 2) (s : State) : Host.Outcome State Fault Refusal :=
  act s fun s =>
    let st := s.leafState n
    if s.role n = 2 && 1 ≤ st && st ≤ 4 && !s.frmAligned n then
      ((s.setSub n { s.subst n with leafHeld := st, bursts := [] }).setLeafState n 5).send "rampToZero" [n]
    else s

/-- FRMn regains alignment within HOLD: the state before HOLD (R231). -/
def State.leafRegain (s : State) (n : Nat) : State :=
  if s.role n = 2 && s.leafState n = 5 then s.setLeafState n (s.subst n).leafHeld else s

/-- LEAF_HOLD_TIMEOUT: HOLD has passed without alignment: IDLE, the number given up (R231). -/
def execLeafHoldTimeout (n : Fin 2) (s : State) : Host.Outcome State Fault Refusal :=
  act s fun s => if s.leafState n = 5 ∧ s.leafFor n (s.get (SUB.page n) SUB.LEAF_CFG_HOLD) then s.leafIdle n else s

/-! ### Configuration check and register writes -/

/-- The configuration check of SUBn (R215). -/
def State.checkSub (s : State) (n : Nat) : Bool :=
  let b := SUB.page n
  let owners := ((List.range 16).filter (fun i => s.flag b (SUB.UP_OWNER_VALID (i / 4) (i % 4)))).map
    (fun i => s.get b (SUB.UP_OWNER_LEAF (i / 4) (i % 4)))
  s.role n != 1 ||
    ((List.range 16).all (fun i => decide (i < s.kSub n) || s.upType n i = 0)
      && owners.eraseDups.length = owners.length
      && decide (s.get b SUB.RTT_RANGE_RTT_MIN ≤ s.get b SUB.RTT_RANGE_RTT_MAX)
      && decide (2000 * s.get b SUB.RTT_RANGE_RTT_MAX ≤ s.get b SUB.T_EQ_T_EQ)
      && (!s.flag b SUB.JOIN_CFG_EN || s.upType n (s.get b SUB.JOIN_CFG_SUBC) = 2)
      && (s.subst n).activePassed)

/-- Field ranges of Table 7-11. -/
def rangeSUB (off v : Nat) : Bool :=
  if off = SUB.ROLE then fv v SUB.ROLE_ROLE != 3
  else if off = SUB.UP_TYPE then (List.range 16).all (fun i => fv v (SUB.UP_TYPE_TYPE i) != 3)
  else if off = SUB.T_EQ then inR v SUB.T_EQ_T_EQ 20 4000000
  else if off = SUB.RTT_RANGE then inR v SUB.RTT_RANGE_RTT_MIN 0 2000 && inR v SUB.RTT_RANGE_RTT_MAX 0 2000
  else if off = SUB.BURST_CFG then
    inR v SUB.BURST_CFG_WIN_TOL 1 255 && inR v SUB.BURST_CFG_DET_TH 16 240 && inR v SUB.BURST_CFG_SYNC_TH 16 240
  else if off = SUB.CAPTURE then inR v SUB.CAPTURE_MARGIN 0 15 || fv v SUB.CAPTURE_MARGIN = 0xFF
  else if off = SUB.SCHED_CTRL then inR v SUB.SCHED_CTRL_NEXT_CYCLE_LOG2 0 8
  else if off = SUB.JOIN_CFG then inR v SUB.JOIN_CFG_PERIOD_LOG2 4 12
  else if off = SUB.RANGE_CFG then
    inR v SUB.RANGE_CFG_TRACK_TH 1 255 && inR v SUB.RANGE_CFG_WINDOW_TOL 1 255 && inR v SUB.RANGE_CFG_LOSS_N 1 255
      && inR v SUB.RANGE_CFG_AVG_N 1 64
  else if off = SUB.LEAF_CFG then
    inR v SUB.LEAF_CFG_REPLY_WAIT 1 15 && inR v SUB.LEAF_CFG_BACKOFF_LOG2 0 4 && inR v SUB.LEAF_CFG_HOLD 1 255
  else true

/-- A change of the owner of subcarrier `i` queues RELEASE for a served leaf that loses it and DEDICATED for one that
gains it (R230). -/
def State.ownerChange (s : State) (n i : Nat) (old new : Option Nat) : State :=
  if old = new then s
  else
    let s := match old with
      | some l => if s.leafServing n l then (s.assign n { leaf := l, action := 3, offset := 0, tag := 0 }).2 else s
      | none => s
    match new with
    | some l => if s.leafServing n l then (s.assign n { leaf := l, action := 2, offset := i * 2 ^ 18, tag := 0 }).2 else s
    | none => s

/-- A write that reaches SUBn's registers. A write of SCHED_CTRL is a write of NEXT_CYCLE_LOG2 and sets RESULT to NONE (R222); an APPLY
in it is judged by the RESULT before it, and one that brings another NEXT_CYCLE_LOG2 finds that unchecked (log 67). -/
def wrSUB (n off v : Nat) (s : State) : WOut :=
  let b := SUB.page n
  if off = SUB.SCHED_CTRL then
    let nx := fv v SUB.SCHED_CTRL_NEXT_CYCLE_LOG2
    let moved := nx != s.get b SUB.SCHED_CTRL_NEXT_CYCLE_LOG2
    if fb v SUB.SCHED_CTRL_APPLY && (moved || s.get b SUB.SCHED_CTRL_RESULT != 1) then no .state s
    else
      let s := (s.set b SUB.SCHED_CTRL_NEXT_CYCLE_LOG2 nx).set b SUB.SCHED_CTRL_RESULT 0
      let s := if fb v SUB.SCHED_CTRL_APPLY then s.schedApply n else s
      ok (if fb v SUB.SCHED_CTRL_CHECK then s.schedCheck n else s)
  else if off = SUB.LEAF_CMD then
    let l := fv v SUB.LEAF_CMD_LEAF
    if !fb v SUB.LEAF_CMD_DEREGISTER then ok s
    else if !s.leafServing n l then no .state s
    else ok (s.leafLost n l)
  else if SUB.UP_OWNER 0 ≤ off ∧ off ≤ SUB.UP_OWNER 3 then
    let i := (off - SUB.UP_OWNER 0) / 4
    let own := fun (w j : Nat) => if bitOf w (8 * j + 7) then some (bitsOf w (8 * j) 5) else none
    let old := s.nat (b + off)
    let s := s.setNat (b + off) v
    ok (each (List.range 4) (fun j t => t.ownerChange n (4 * i + j) (own old j) (own v j)) s)
  else if off = SUB.RANGE_CFG then ok ((s.setNat (b + off) v).hubRefresh n)
  else ok (s.setNat (b + off) v)

/-- A write into SUBn's window: schedule entries of the inactive bank only; words 5 to 7 of a leaf entry only in FREE,
RESERVED or LOST, LISTED moving FREE and RESERVED (R222, R228, R241). -/
def winSUB (n a v : Nat) (s : State) : WOut :=
  let b := SUB.page n
  let o := a - SUBW.SCHED n 0
  if o < 0x1000 then
    if o / 2048 = s.get b SUB.SCHED_CTRL_BANK_ACTIVE then no .state s
    else ok ((s.setNat a v).set b SUB.SCHED_CTRL_RESULT 0)
  else
    let l := (o - 0x1000) / 32
    if s.leafServing n l then no .state s
    else
      let s := s.setNat a v
      if (o - 0x1000) % 32 = 28 then
        let listed := s.flag (SUBW.LEAFE n l) SUBW.LEAFE_LISTED
        ok (if listed && s.leafSt n l = leafFREE then s.setLeafSt n l leafRESERVED
            else if !listed && s.leafSt n l = leafRESERVED then s.setLeafSt n l leafFREE else s)
      else ok s

end Sys2Proof.Machine
end

