-- ==== Sys2Proof/Machine/Fec.lean ====
section
/-!
DEFINITION. FECn: encoding, the delivery of codewords, the structural cap, the engine pool and its spares, the HOST
value, and the end of a measurement period (chapter 8, R175 to R177).
-/
namespace Sys2Proof.Machine

/-! ### Encoding (R243 to R249) -/

/-- FEC_ENCODE: while FECn is ACTIVE the oldest stream that FRMn handed over under this number (16 + i for a burst on subcarrier i) is
encoded, and its coded bits go to TXDn (R243, Table 1-6). -/
def execFecEncode (n : Fin 2) (stream : Nat) (s : State) : Host.Outcome State Fault Refusal :=
  act s fun s =>
    let f := s.fecs n
    match Tab.get (fun _ => []) f.txIn stream with
    | [] => s
    | (c, bits) :: r =>
      if !s.active (Kind.FEC.pg n) then s
      else
        let s := s.setFec n { f with txIn := Tab.put (fun _ => []) f.txIn stream r }
        let t := s.txs n
        let old := Tab.get (fun _ => []) t.coded stream
        let out := fecEncode (s.get (FEC.page n) FEC.CTRL_PROFILE) bits
        s.setTx n { t with coded := Tab.put (fun _ => []) t.coded stream (old ++ [(c, out)]) }

/-! ### The structural cap (R258, R259) -/

/-- Sizes of the continuous streams that the carrier receives (R244, R258). -/
def State.rxStreamBits (s : State) (n : Nat) : List Nat :=
  let sv := s.get (FRM.page n) FRM.RATE_SERVICE
  let k := s.kSub n
  match s.role n with
  | 0 => [streamBits sv]
  | 1 => ((List.range k).filter (fun i => s.upType n i = 1)).map (fun i => subStreamBits sv k i false)
  | _ => (List.range k).map (fun i => subStreamBits sv k i true)

/-- Payload data positions per polarisation of a window's burst that lie in a folio, and in all (R219, R249). -/
def State.burstPositions (s : State) (n : Nat) (w : SWin) (lo hi : Nat) : Nat :=
  let k := s.kSub n
  let baud := s.baud n
  let sy := symS baud k
  let ramp := s.get (TXD.page n) TXD.RAMP_CFG_LEN
  let a := max lo (w.first sy + ramp + 320)
  let b := min hi (w.last sy - ramp)
  dataTo baud k b - min (dataTo baud k b) (dataTo baud k a)

/-- E of the signal that the carrier receives (R138, R191). -/
def State.rxBits (s : State) (n : Nat) : Nat := blockBits (s.get (RXD.page n) RXD.MOD_FORMAT) (s.get (RXD.page n) RXD.MOD_ENTROPY)

/-- Codewords of a burst of E bits a block: floor(2 E G / 30,720) with G complete groups of 64 (R249). -/
def State.burstWordsOf (s : State) (n e : Nat) (w : SWin) : Nat :=
  2 * e * (s.burstPositions n w 0 (2 ^ 32) / 64) / 30720

/-- Codewords of a received burst. -/
def State.burstWords (s : State) (n : Nat) (w : SWin) : Nat := s.burstWordsOf n (s.rxBits n) w

/-- The largest D, a multiple of 8, whose N_c does not exceed c (R249, R275). -/
def burstBits (c profile : Nat) : Nat :=
  let top := c * ldpcK profile / 8
  ((List.range 4096).map (fun i => 8 * (top * 6500 / 6552 + 16 - min (top * 6500 / 6552 + 16) i))).find?
    (fun d => decide (ldpcWords d profile ≤ c)) |>.getD 0

/-- Fill bits of a stream (R247). -/
def fillBits (d profile : Nat) : Nat := ldpcWords d profile * ldpcK profile - (d + 52 * bchWords d)

/-- Addition of fractions, each a numerator and a denominator. -/
def addFrac (x y : Nat × Nat) : Nat × Nat := (x.1 * y.2 + y.1 * x.2, x.2 * y.2)

/-- The share of bursts in a folio of the cycle: `f` of each burst in proportion to its positions there (R258). -/
def State.burstShare (s : State) (n : Nat) (wins : List SWin) (f : SWin → Nat) (folio : Nat) : Nat × Nat :=
  let sy := symS (s.baud n) (s.kSub n)
  wins.foldl (fun t w =>
    let all := s.burstPositions n w 0 (2 ^ 32)
    let here := s.burstPositions n w (folio * sy) ((folio + 1) * sy)
    if here = 0 then t else addFrac t (f w * here, all)) (0, 1)

/-- The largest of fractions. -/
def maxFrac (l : List (Nat × Nat)) : Nat × Nat := l.foldl (fun m x => if m.1 * x.2 < x.1 * m.2 then x else m) (0, 1)

/-- A per-folio figure of the received streams: the sum over the continuous streams, and for a hub the largest total of
the bursts over the folios of the active schedule's cycle (R258). -/
def State.perFolio (s : State) (n : Nat) (stream : Nat → Nat) (burst : SWin → Nat) : Nat × Nat :=
  let base := ((s.rxStreamBits n).map stream).sum
  if s.role n ≠ 1 then (base, 1)
  else
    let b := SUB.page n
    let wins := (s.bankWins n (s.get b SUB.SCHED_CTRL_BANK_ACTIVE)).map (·.2)
    let top := maxFrac ((List.range (2 ^ s.get b SUB.SCHED_CTRL_CYCLE_LOG2)).map (s.burstShare n wins burst))
    addFrac (base, 1) top

/-- N_t as a fraction (R258). -/
def State.nT (s : State) (n : Nat) : Nat × Nat :=
  let p := s.get (FEC.page n) FEC.CTRL_PROFILE
  s.perFolio n (fun d => ldpcWords d p) (fun w => s.burstWords n w)

/-- I_struct with A engines: min(24, floor(187.5 A / N_t)) (R258). -/
def structCap (a : Nat) (nt : Nat × Nat) : Nat := if nt.1 = 0 then 24 else min 24 (375 * a * nt.2 / (2 * nt.1))

/-- I_struct, CODEWORDS and FILL are recomputed (R259). -/
def State.fecStruct (s : State) (n : Nat) : State :=
  let b := FEC.page n
  let p := s.get b FEC.CTRL_PROFILE
  let up := fun (x : Nat × Nat) => ceilDiv x.1 x.2
  let bb := fun w => burstBits (s.burstWords n w) p
  let nt := s.nT n
  let nb := s.perFolio n bchWords (fun w => bchWords (bb w))
  let fl := s.perFolio n (fun d => fillBits d p) (fun w => fillBits (bb w) p)
  let s := s.set b FEC.CAP_CAUSES_STRUCT (structCap (s.fecs n).active.length nt)
  let s := (s.set b FEC.CODEWORDS_NT (up nt)).set b FEC.CODEWORDS_NB (up nb)
  (s.set b FEC.FILL_BITS (up fl)).fecCaps n

/-- ENGINE_SHORT: I_struct has come below 6 (R259, R261). -/
def State.engineShort (s : State) (n old : Nat) : State :=
  let now := s.get (FEC.page n) FEC.CAP_CAUSES_STRUCT
  s.raiseIf (decide (now < 6) && decide (6 ≤ old)) (Kind.FEC.pg n) FEC.ev_ENGINE_SHORT

/-- I_struct is recomputed, with ENGINE_SHORT when it falls below 6. -/
def State.fecStructShort (s : State) (n : Nat) : State :=
  let old := s.get (FEC.page n) FEC.CAP_CAUSES_STRUCT
  (s.fecStruct n).engineShort n old

/-- The configuration check of FECn (R259). -/
def State.checkFec (s : State) (n : Nat) : Bool × State :=
  let s := s.fecStruct n
  (decide (6 ≤ s.get (FEC.page n) FEC.CAP_CAUSES_STRUCT), s)

/-- SCHED_SWITCH: upstream folio u has come, and the active bank governs grants; I_struct follows the new schedule
(R223, R259). -/
def execSchedSwitch (n : Fin 2) (s : State) : Host.Outcome State Fault Refusal :=
  act s fun s =>
    let b := SUB.page n
    let x := s.subst n
    match x.switchAt with
    | none => s
    | some _ =>
      let s := s.setSub n { x with switchAt := none, govBank := s.get b SUB.SCHED_CTRL_BANK_ACTIVE,
                                   govCycle := s.get b SUB.SCHED_CTRL_CYCLE_LOG2 }
      (s.raise (Kind.SUB.pg n) SUB.ev_SCHED_APPLIED).fecStructShort n

/-! ### Delivery of codewords (R251 to R256, R263, R264, R268) -/

/-- The codeword counts of the causes now limiting (R264). -/
def State.countLimits (s : State) (n : Nat) : State :=
  let b := FEC.page n
  each [(FEC.CAP_STATUS_L_HOST, FEC.LIM_HOST), (FEC.CAP_STATUS_L_STRUCT, FEC.LIM_STRUCT),
        (FEC.CAP_STATUS_L_THERM, FEC.LIM_THERM), (FEC.CAP_STATUS_L_DROOP, FEC.LIM_DROOP),
        (FEC.CAP_STATUS_L_GOV, FEC.LIM_GOV)]
    (fun x t => if t.flag b x.1 then t.count64 (b + x.2) 1 else t) s

/-- The window of a burst as a schedule entry counted from its own folio. -/
def Burst.win (u : Burst) (i : Nat) : SWin := { leaf := u.leaf, subc := i, folio := 0, start := u.start, len := u.len }

/-- D and N_c of a received stream: a P2P folio, a subcarrier's, or the burst that awaits its verdict on a SHARED one
(R244, R247, R249). -/
def State.rxStream (s : State) (n st : Nat) : Nat × Nat :=
  let p := s.get (FEC.page n) FEC.CTRL_PROFILE
  let sv := s.get (FRM.page n) FRM.RATE_SERVICE
  let cont := fun d => (d, ldpcWords d p)
  match s.role n with
  | 0 => cont (streamBits sv)
  | 1 =>
    if s.upType n st = 2 then
      let r := Tab.get (fun _ => {}) (s.subst n).rx st
      match r.ended with
      | some u => (burstBits (s.burstWords n (u.win st)) p, s.burstWords n (u.win st))
      | none => (0, 0)
    else cont (subStreamBits sv (s.kSub n) st false)
  | _ => cont (subStreamBits sv (s.kSub n) st true)

/-- The subcarriers that carry a received stream (R244). -/
def State.rxSubs (s : State) (n st : Nat) : List Nat := if s.role n = 0 then List.range (s.kSub n) else [st]

/-- The LLR at a coded position of a stream, blocks taken in the order of R249; none where it is absent. -/
def State.softAt (s : State) (n st p : Nat) : Option Rat :=
  let e := max 1 (s.rxBits n)
  let k := s.kSub n
  let blk := p / e
  let (sub, key) := if s.role n = 0 then (blk / 2 % k, 2 * (blk / 2 / k) + blk % 2) else (st, blk)
  match (Tab.get (fun _ => []) (s.fecs n).soft sub).find? (fun x => x.1 = key) with
  | some x => x.2.getD (p % e) none
  | none => none

/-- A position of a codeword before decoding: its LLR, absent, or fill (R247, R251); and whether it came on Y. -/
inductive SoftPos where
  | llr (l : Rat) (y : Bool)
  | absent (y : Bool)
  | fill

/-- The 30,720 positions of codeword c of a stream (R247, R248, R251). -/
def State.codewordIn (s : State) (n st c : Nat) : List SoftPos :=
  let (d, nc) := s.rxStream n st
  let k := ldpcK (s.get (FEC.page n) FEC.CTRL_PROFILE)
  let w := d + 52 * bchWords d
  let e := max 1 (s.rxBits n)
  (List.range 30720).map (fun j =>
    let y := decide ((j * nc + c) / e % 2 = 1)
    if j < k ∧ w ≤ c * k + j then .fill
    else match s.softAt n st (j * nc + c) with
      | some l => .llr l y
      | none => .absent y)

/-- The value with which a position enters the decoder: 0 where absent, the largest positive LLR at fill (R251). -/
def SoftPos.value : SoftPos → Int
  | .llr l _ => quantLlr l
  | .absent _ => 0
  | .fill => 31

/-- A position that counts as absent (R169, R238). -/
def SoftPos.isAbsent : SoftPos → Bool
  | .absent _ => true
  | _ => false

/-- The rows of a profile's base matrix, as the window shows it (R247, R269). -/
def State.baseRows (s : State) (n profile : Nat) : List BaseRow :=
  (List.range (if profile = 0 then 16 else 20)).map (fun r => (List.range 120).filterMap (fun c =>
    let w := s.nat (if profile = 0 then FECW.FP15 n (120 * r + c) else FECW.FP20 n (120 * r + c))
    if bitOf w 31 then some (c, bitsOf w 0 8) else none))

/-- The codewords of a stream decoded so far. -/
def State.decoded (s : State) (n st : Nat) : List DecWord := Tab.get (fun _ => []) (s.fecs n).dec st

/-- A codeword of a stream is decoded: its kind and information bits are kept for the BCH decoder. -/
def State.addDecoded (s : State) (n st : Nat) (w : DecWord) : State :=
  let f := s.fecs n
  s.setFec n { f with dec := Tab.put (fun _ => []) f.dec st (s.decoded n st ++ [w]) }

/-- Hard decisions of k bits. -/
def hardBits (k : Nat) (v : Nat → Int) : List Bool := (List.range k).map (fun i => hardBit (v i))

/-- The figures of a CONVERGED codeword: corrected bits, fill positions, and by polarisation the bits and the sum of
log₂(1 + exp(−(1 − 2b) L)) (R175, R268). -/
def State.countConverged (s : State) (n : Nat) (pos : List SoftPos) (v : Nat → Int) (k : Nat) : State :=
  let b := FEC.page n
  let bit := fun (i : Nat) => hardBit (v i)
  let corr := (pos.zipIdx.filter (fun (x : SoftPos × Nat) => match x.1 with | .fill => false | q => hardBit q.value != bit x.2)).length
  let fill := (pos.filter (fun (x : SoftPos) => match x with | .fill => true | _ => false)).length
  let info := fun (y : Bool) => pos.zipIdx.filterMap (fun (x : SoftPos × Nat) => match x.1 with
    | .llr l z => if z == y then some (Config.ln (1 + Config.exp (if bit x.2 then l else -l)) / Config.ln 2) else none
    | .absent z => if z == y then some (1 : Rat) else none
    | .fill => none)
  let s := (s.count64 (b + FEC.LDPC_CORR_BITS) corr).count64 (FECW.HIST n k) 1
  let s := s.count64 (RXD.page n + RXD.PREFEC_ERRS) corr
  let s := s.count64 (RXD.page n + RXD.PREFEC_BITS) (30720 - fill)
  let f := s.fecs n
  s.setFec n { f with berErrs := f.berErrs + corr, berBits := f.berBits + (30720 - fill), gmiX := f.gmiX + rsum (info false),
                      gmiBitsX := f.gmiBitsX + (info false).length, gmiY := f.gmiY + rsum (info true),
                      gmiBitsY := f.gmiBitsY + (info true).length }

/-- CODEWORD_DECODE: the next codeword of a stream ends its decoding, from the LLRs held, under the cap in force. More than 25 % absent
is ABSENT, delivered as hard decisions; a syndrome zero within the cap is CONVERGED; anything else is UNCONVERGED and left to the BCH
decoder (R248, R251, R252, R263, R268). -/
def execCodewordDecode (n : Fin 2) (stream : Nat) (s : State) : Host.Outcome State Fault Refusal :=
  act s fun s =>
    let b := FEC.page n
    let c := (s.decoded n stream).length
    if !s.serves (Kind.FEC.pg n) ∨ (s.rxStream n stream).2 ≤ c then s
    else
      let prof := s.get b FEC.CTRL_PROFILE
      let pos := s.codewordIn n stream c
      let v0 := fun (i : Nat) => ((pos[i]?).map SoftPos.value).getD 0
      let absent := (pos.filter SoftPos.isAbsent).length
      if 7680 < absent then
        ((s.count (b + FEC.ABSENT_CW)).count64 (FECW.HIST n 27) 1).addDecoded n stream ⟨2, hardBits (ldpcK prof) v0⟩
      else
        let cap := s.get b FEC.CAP_STATUS_EFF
        let s := (s.count64 (b + FEC.CW_DECODED) 1).countLimits n
        let f := s.fecs n
        let s := s.setFec n { f with avgSum := f.avgSum + s.deltaM n cap, avgN := f.avgN + 1 }
        let (need, x) := ldpcRun (s.baseRows n prof) cap 0 ⟨v0, fun _ _ _ => 0⟩
        match need with
        | some k => (s.countConverged n pos x.v k).addDecoded n stream ⟨0, hardBits (ldpcK prof) x.v⟩
        | none => s.addDecoded n stream ⟨1, hardBits (ldpcK prof) x.v⟩

/-- LATE_CODEWORD: the next codeword of a stream misses its deadline during a pool change, after `iters` iterations, and is delivered
UNCONVERGED with its hard decisions at that moment (R261). -/
def execLateCodeword (n : Fin 2) (stream : Nat) (iters : Fin 25) (s : State) : Host.Outcome State Fault Refusal :=
  act s fun s =>
    let b := FEC.page n
    let c := (s.decoded n stream).length
    if !s.serves (Kind.FEC.pg n) ∨ (s.rxStream n stream).2 ≤ c then s
    else
      let prof := s.get b FEC.CTRL_PROFILE
      let pos := s.codewordIn n stream c
      let v0 := fun (i : Nat) => ((pos[i]?).map SoftPos.value).getD 0
      let f := s.fecs n
      let s := s.setFec n { f with avgSum := f.avgSum + s.deltaM n (s.get b FEC.CAP_STATUS_EFF), avgN := f.avgN + 1 }
      let s := ((s.count64 (b + FEC.CW_DECODED) 1).countLimits n).count (b + FEC.LATE_CW)
      let x := (ldpcRun (s.baseRows n prof) iters 0 ⟨v0, fun _ _ _ => 0⟩).2
      (s.addDecoded n stream ⟨1, hardBits (ldpcK prof) x.v⟩).raise (Kind.FEC.pg n) FEC.ev_LATE

/-- The BCH codewords of a stream, each corrected or FAILED, from its decoded information bits (R246, R253). -/
def bchWordsOf (d : Nat) (bits : List Bool) : List (List Bool × Option (List Bool × Nat)) :=
  let nb := bchWords d
  (List.range nb).map (fun j =>
    let w := bchInfo (bits.take d) nb j ++ (bits.drop (d + 52 * j)).take 52
    (w, bchCorrect w))

/-- The D input bits of a stream from its BCH codewords as delivered (R246, R254). -/
def bchOut (d : Nat) (words : List (List Bool × Option (List Bool × Nat))) : List Bool :=
  let nb := max 1 (bchWords d)
  (List.range d).map (fun i =>
    match words[i % nb]? with
    | some (_, some (w, _)) => w.getD (i / nb) false
    | some (w, none) => w.getD (i / nb) false
    | none => false)

/-- Bytes of bits in transmission order, the first bit the most significant. -/
def bytesOfBits (b : List Bool) : List Nat := (List.range (b.length / 8)).map (fun i => bitsToNat ((b.drop (8 * i)).take 8))

/-- BCH_DECODE: when every LDPC codeword of a stream is decoded, the BCH decoder examines it: up to 4 errors a codeword are corrected,
more make it FAILED. UNCONVERGED codewords are UNCORRECTED when one FAILED and CLEANED otherwise; the decoded bytes, the counts and
the flag pass to FRMn (R253, R254, R268, R270). BCH_FAIL fires once for each FAILED codeword; a second fire only sets OVERFLOW, so two
stand for more. -/
def execBchDecode (n : Fin 2) (stream : Nat) (s : State) : Host.Outcome State Fault Refusal :=
  act s fun s =>
    let (d, nc) := s.rxStream n stream
    let dec := s.decoded n stream
    if !s.serves (Kind.FEC.pg n) ∨ dec.length ≠ nc ∨ nc = 0 then s
    else
      let b := FEC.page n
      let words := bchWordsOf d (dec.flatMap (·.bits))
      let failed := (words.filter (·.2.isNone)).length
      let corrected := (words.map (fun w => (w.2.map (·.2)).getD 0)).sum
      let open_ := (dec.filter (·.kind = 1)).length
      let unc := if failed = 0 then 0 else open_
      let s := s.count64 (b + FEC.BCH_CORR_BITS) corrected
      let s := s.count64 (FECW.HIST n (if failed = 0 then 25 else 26)) open_
      let s := (s.count64 (b + FEC.UNCORR_CW) unc).count (b + FEC.BCH_FAILED) failed
      let s := if unc = 0 then s else (s.count (b + FEC.UNCORR_FOLIOS)).raise (Kind.FEC.pg n) FEC.ev_UNCORR
      let s := each (List.range (min 2 failed)) (fun _ t => t.raise (Kind.FEC.pg n) FEC.ev_BCH_FAIL) s
      let f := s.fecs n
      let pass : Passed := {
        bytes := bytesOfBits (bchOut d words), unc := unc, absent := (dec.filter (·.kind = 2)).length, failed := failed != 0,
        absent0 := (dec.head?.map (·.kind)) = some 2 }
      s.setFec n { f with
        soft := (s.rxSubs n stream).foldl (fun t i => Tab.put (fun _ => []) t i []) f.soft,
        dec := Tab.put (fun _ => []) f.dec stream [], toFrm := Tab.put (fun _ => none) f.toFrm stream (some pass) }

/-! ### The engine pool (R257, R260, R261) -/

/-- An engine of the pool fails: it leaves at once; a free spare is due to join at the next folio, or the spares are
exhausted; RPR records it (R261). -/
def State.engineFail (s : State) (n u : Nat) : State :=
  let f := s.fecs n
  if !f.active.contains u then s
  else
    let has := decide (f.joinDue < f.spares.length)
    let s := s.setFec n { f with active := f.active.filter (· != u), joinDue := if has then f.joinDue + 1 else f.joinDue,
                                 exhausted := f.exhausted || !has }
    let s := s.raise (Kind.FEC.pg n) FEC.ev_ENGINE_FAIL
    let s := s.raiseIf (!has && !f.exhausted) (Kind.FEC.pg n) FEC.ev_ENGINE_SPARES_EXHAUSTED
    ((s.repair 3 1 (locUnit n u)).showEngines n).fecStructShort n

/-- A free spare fails its reference decode (R260). -/
def State.engineSpareFail (s : State) (n u : Nat) : State :=
  let f := s.fecs n
  if !f.spares.contains u then s
  else
    let s := s.setFec n { f with spares := f.spares.filter (· != u), joinDue := min f.joinDue (f.spares.length - 1) }
    ((s.repair 3 1 (locUnit n u)).useSpare RPR.SPARES_ENGINES).showEngines n

/-- ENGINE_SHADOW_CHECK: a quire of shadowing one active engine by a free spare ends; on a mismatch each unit passes or
fails its reference decode (R260). -/
def execEngineShadowCheck (n : Fin 2) (mismatch : Bool) (activePass : Bool) (sparePass : Bool) (s : State) :
    Host.Outcome State Fault Refusal :=
  act s fun s =>
    let f := s.fecs n
    match f.spares with
    | [] => s
    | sp :: _ =>
      let u := f.active.getD (f.shadow % max 1 f.active.length) 0
      let s := s.setFec n { f with shadow := (f.shadow + 1) % max 1 f.active.length }
      if !mismatch then s
      else if activePass && sparePass then s.bump (FEC.page n) FEC.ENGINES_MISMATCHES
      else
        let s := s.sweepYield 2
        let s := if sparePass then s else s.engineSpareFail n sp
        if activePass then s else s.engineFail n u

/-- ENGINE_SPARE_JOIN: at the start of a folio a spare that has passed its reference decode joins the pool; one that
fails it becomes FAILED (R260, R261). -/
def execEngineSpareJoin (n : Fin 2) (refPass : Bool) (s : State) : Host.Outcome State Fault Refusal :=
  act s fun s =>
    let f := s.fecs n
    match f.joinDue, f.spares with
    | 0, _ => s
    | _, [] => s
    | d + 1, sp :: r =>
      if !refPass then (s.sweepYield 2).engineSpareFail n sp
      else
        let s := s.setFec n { f with active := sortNat (sp :: f.active), spares := r, joinDue := d }
        let s := (s.raise (Kind.FEC.pg n) FEC.ev_ENGINE_SPARED).useSpare RPR.SPARES_ENGINES
        (s.showEngines n).fecStructShort n

/-! ### The HOST value (R265, R519) -/

/-- The HOST value takes effect. -/
def State.hostCap (s : State) (n v : Nat) : State :=
  let b := FEC.page n
  ((s.set b FEC.CAP_STATUS_HOST_EFF v).set b FEC.CAP_STATUS_IMAX_STATE 0).fecCaps n

/-- The leave for a raise is granted: the new value takes effect (R265). -/
def State.imaxGranted (s : State) (n : Nat) : State :=
  match (s.fecs n).raiseTo with
  | none => s
  | some v => (s.setFec n { s.fecs n with raiseTo := none }).hostCap n v

/-- The leave for a raise is refused: REFUSED, the HOST cause keeps its value (R265). -/
def State.imaxRefused (s : State) (n : Nat) : State :=
  let s := s.setFec n { s.fecs n with raiseTo := none }
  (s.set (FEC.page n) FEC.CAP_STATUS_IMAX_STATE 2).raise (Kind.FEC.pg n) FEC.ev_IMAX_REFUSED

/-- A write of IMAX: a raise in ACTIVE asks for leave at 800 mW a step; a lower value acts at once and releases the
standing cost of each step; a later write starts afresh (R265, R519). -/
def State.imaxWrite (s : State) (n v : Nat) : WOut :=
  let b := FEC.page n
  let old := s.get b FEC.CAP_STATUS_HOST_EFF
  let s := (s.withdrawLeave 2 n).setFec n { s.fecs n with raiseTo := none }
  if s.blk (Kind.FEC.pg n) = bACTIVE ∧ old < v then
    let st := v - old
    let rq := { catalogue 2 n with cost := 800 * st, standing := 800 * st }
    let w := (s.set b FEC.CAP_STATUS_IMAX_STATE 1).setFec n { s.fecs n with raiseTo := some v }
    match w.requestLeave rq with
    | (.granted, t) => ok ((t.set b FEC.CAP_REQ_IMAX v).imaxGranted n)
    | (.queued, t) => ok (t.set b FEC.CAP_REQ_IMAX v)
    | (.refused, t) => no .leave (t.imaxRefused n)
  else
    let rel := 800 * (old - v)
    let s := { s with pwr := { s.pwr with
      carrierStanding := s.pwr.carrierStanding.put n (s.pwr.carrierStanding.at n - rel) } }.syncPower
    ok ((s.set b FEC.CAP_REQ_IMAX v).hostCap n v)

/-! ### The end of a measurement period (R175 to R177, R266) -/

/-- The quire in progress on the received folio grid: FRMn's count of stream 0 while it is LOCKED, a hub's own upstream count, else
512 µs a quire from the last locked one (R175, R216). -/
def State.gridNow (s : State) (n : Nat) : Nat :=
  let x := s.stream n 0
  let r := s.rxs n
  if s.role n = 1 then (4000 * (s.frms n).txCount - s.get (SUB.page n) SUB.T_EQ_T_EQ) / 4000 / 256
  else if x.locked then x.expected / 256
  else r.gridQuire + (s.now - r.gridAt) / 512000

/-- A measurement period has come to its end: the grid has passed into another block of PERIOD quires since the period began (R175). -/
def State.measDue (s : State) (n : Nat) : Bool :=
  let p := max 1 (s.get (RXD.page n) RXD.MEAS_CFG_PERIOD)
  s.gridNow n / p != (s.rxs n).measQuire / p

/-- A subcarrier's figures over the period, from its taps and sums (Table 5-9), in the units of Table 5-13. -/
def State.figures (s : State) (n i : Nat) : SubMeas :=
  let b := RXD.page n
  let c := s.subc n i
  let x := s.rxSet n i
  let a := c.acc
  let snr := 1000 * Config.log10 (x.ps / a.noise x.ps)
  let trx := s.get b RXD.MEAS_CFG_TRX_SNR
  let snrN := (nearest snr).toNat
  let lin := fun (v : Rat) => Config.pow10 (v / 1000)
  { dRes := nearest (dResOf x c.taps (s.get b RXD.OPT_FREQ_FREQ)), dgd := (nearest (100 * dgdOf x c.taps)).toNat,
    pdl := (nearest (100 * pdlOf x c.taps)).toNat, sopMax := (nearest a.sopMax).toNat,
    sopMean := (nearest (a.sopSum / max 1 a.sopN)).toNat,
    offset := c.fd + nearest (a.slope / max 1 a.span * 1000000 * x.rate), timing := nearest (1000000000 * c.timing),
    snr := snrN,
    gsnr := if trx = 0 then snrN else if (trx : Rat) ≤ snr then 0xFFFF
      else (nearest (1000 * Config.log10 (1 / (1 / lin snr - 1 / lin trx)))).toNat }

/-- A subcarrier's record over a measurement period, all of it latched together; VALID is 1 after a period wholly in TRACK (R176,
R177), of which alone D_res moves the filter (R146). -/
def State.latchMeas (s : State) (n i : Nat) : State :=
  let a := RXDW.MEAS n i
  let c := s.subc n i
  let whole_ := c.st = .track && (match c.trackFrom with
    | some t => decide (t ≤ (s.rxs n).measFrom)
    | none => false)
  let cd := s.cdOf n i
  let m := s.figures n i
  let s := (s.setB a RXDW.MEAS_VALID whole_).set a RXDW.MEAS_RESTARTS c.restarts
  let s := s.setI a RXDW.MEAS_CD_FILTER cd
  let s := (s.set a RXDW.MEAS_CD_FAILS c.cdFails).set a RXDW.MEAS_PHASE_JUMPS c.phaseJumps
  let s := s.set a RXDW.MEAS_SINGULAR c.singular
  let s := (s.setI a RXDW.MEAS_CD (10 * cd + m.dRes)).setI a RXDW.MEAS_D_RES m.dRes
  let s := (s.set a RXDW.MEAS_DGD m.dgd).set a RXDW.MEAS_PDL m.pdl
  let s := (s.set a RXDW.MEAS_SOP_MAX m.sopMax).set a RXDW.MEAS_SOP_MEAN m.sopMean
  let s := (s.setI a RXDW.MEAS_OFFSET m.offset).setI a RXDW.MEAS_TIMING m.timing
  let s := (s.set a RXDW.MEAS_SNR_MEAS m.snr).set a RXDW.MEAS_GSNR m.gsnr
  let c := { c with acc := {} }
  s.setSubc n i (if whole_ then { c with dRes := m.dRes, moveDue := decide (50 ≤ m.dRes.natAbs) && (i = 0 || s.role n = 1) } else c)

/-- NGMI of a polarisation over its successfully decoded bits in 1/65,536: 1 − (H − GMI)/m with GMI = H − the sum of log₂ a symbol; a
value below 0 or above the field's reach reads as its limit (R175, Table 5-11). -/
def State.ngmi (s : State) (n : Nat) (sum : Rat) (bits : Nat) : Nat :=
  let fmt := s.get (RXD.page n) RXD.MOD_FORMAT
  let m : Rat := if fmt = 0 then 2 else if fmt = 1 then 4 else 6
  let symbols : Rat := (bits : Rat) * 64 / max 1 (s.rxBits n)
  min 65535 (nearest (65536 * (1 - sum / symbols / m))).toNat

/-- A ratio as MANT/100 × 10^−EXP with MANT from 100 to 999 and EXP from 1 to 15, when it has that form (Table 5-11). -/
def berCode (errs bits : Nat) : Option (Nat × Nat) :=
  ((List.range 15).map (fun k => ((2 * errs * 10 ^ (k + 3) + bits) / (2 * bits), k + 1))).find?
    (fun x => 100 ≤ x.1 && x.1 ≤ 999)

/-- PREFEC_BER and NGMI of the period; a ratio that MANT and EXP cannot hold is a free value (R175, R176). -/
def State.latchBer (s : State) (n : Nat) : State :=
  let b := RXD.page n
  let f := s.fecs n
  let s := s.setFec n { f with berErrs := 0, berBits := 0, gmiX := 0, gmiY := 0, gmiBitsX := 0, gmiBitsY := 0 }
  if f.berBits = 0 then
    ((s.setNat (b + RXD.PREFEC_BER) 0).setNat (b + RXD.NGMI) 0)
  else
    let (m, e, free) := match berCode f.berErrs f.berBits with
      | some (m, e) => (m, e, false)
      | none => (100 + s.freeVal % 900, 1 + s.freeVal / 900 % 15, true)
    let s := if free then s.nextFree else s
    let s := ((s.set b RXD.PREFEC_BER_MANT m).set b RXD.PREFEC_BER_EXP e).setB b RXD.PREFEC_BER_VALID true
    (s.set b RXD.NGMI_X (s.ngmi n f.gmiX f.gmiBitsX)).set b RXD.NGMI_Y (s.ngmi n f.gmiY f.gmiBitsY)

/-- MEAS_PERIOD_END: a measurement period of the carrier ends at its boundary of the grid: the records of the subcarriers, PREFEC_BER
and NGMI change together, and MARGIN.AVG is the mean of ΔM over the codewords decoded, to the nearest 0.01 dB (R175 to R177,
R266). -/
def execMeasPeriodEnd (n : Fin 2) (s : State) : Host.Outcome State Fault Refusal :=
  act s fun s =>
    if !s.measDue n then s
    else
      let q := s.gridNow n
      let s := each (s.usedSubs n) (fun i t => t.latchMeas n i) s
      let s := s.latchBer n
      let f := s.fecs n
      let avg := if f.avgN = 0 then 0 else (2 * f.avgSum + f.avgN) / (2 * f.avgN)
      let s := (s.set (FEC.page n) FEC.MARGIN_AVG avg).setFec n { f with avgSum := 0, avgN := 0 }
      s.setRx n { s.rxs n with measFrom := s.now, measQuire := q }

/-! ### Register writes -/

/-- Field ranges of Table 8-9. -/
def rangeFEC (off v : Nat) : Bool := if off = FEC.CAP_REQ then inR v FEC.CAP_REQ_IMAX 6 24 else true

/-- A write that reaches FECn's registers. -/
def wrFEC (n off v : Nat) (s : State) : WOut :=
  let b := FEC.page n
  if off = FEC.CMD then
    ok (if fb v FEC.CMD_HIST_CLEAR then each (List.range 32) (fun e t => t.setNat64 (FECW.HIST n e) 0) s else s)
  else if off = FEC.CAP_REQ then s.imaxWrite n (fv v FEC.CAP_REQ_IMAX)
  else ok (s.setNat (b + off) v)

end Sys2Proof.Machine
end

