-- ==== Sys2Proof/Machine/Pm.lean ====
section
/-!
DEFINITION. The seconds in progress of the PM entities, to which the blocks add what they see (R306, R308).
-/
namespace Sys2Proof.Machine

/-- A PM entity: carrier n is n, gathering g is 2 + g. -/
def State.pmEnt (s : State) (e : Nat) : PmEnt := Tab.get (fun _ => {}) s.pmb.ents e
def State.setPmEnt (s : State) (e : Nat) (x : PmEnt) : State :=
  { s with pmb := { s.pmb with ents := Tab.put (fun _ => {}) s.pmb.ents e x } }

/-- Adding to the second in progress of an entity. -/
def State.pm (s : State) (e : Nat) (f : PmSecond → PmSecond) : State :=
  s.setPmEnt e { s.pmEnt e with cur := f (s.pmEnt e).cur }

/-- The PM entity of a gathering. -/
def pmGath (g : Nat) : Nat := 2 + g

end Sys2Proof.Machine
end

