-- ==== Sys2Proof/Machine/Gth.lean ====
section
/-!
DEFINITION. GTH: the configuration check of gatherings, transmit units, collation and its timeline, 1+1 selection and
1:1 protection groups (chapter 10).
-/
namespace Sys2Proof.Machine

/-! ### Gatherings and their slots (R317 to R324) -/

def State.collPages (s : State) (g : Nat) : Nat :=
  s.get (GTHW.CFG g) GTHW.CFG_COLL_DEPTH * ceilDiv (6250 * s.collSlots g) 1792

/-- The enabled protection group that names a gathering, and whether as P. -/
def State.groupOf (s : State) (g : Nat) : Option (Nat × Bool) :=
  let b := GTH.page
  ((List.range 4).filterMap (fun q =>
    if !s.flag b (GTH.PG_CFG_EN q) then none
    else if s.get b (GTH.PG_CFG_W q) = g then some (q, false)
    else if s.get b (GTH.PG_CFG_P q) = g then some (q, true) else none)).head?

/-- The rules of Table 10-2 that enabling gathering g, already written into its entry, breaks, in order. -/
def State.gthRules (s : State) (g : Nat) : List Nat :=
  let others := s.gatherings.filter (· != g)
  let carriers := [0, 1]
  let a := GTHW.CFG g
  let meet := fun (h n : Nat) => (s.slotsOn g n).any (fun i => (s.slotsOn h n).contains i)
  let r1 := (carriers.all (fun n => !s.onCarrier g n))
    || carriers.any (fun n => (s.slotsOn g n).any (fun i => decide (4 * s.get (FRM.page n) FRM.RATE_SERVICE ≤ i)))
  let r2 := others.any (fun h => carriers.any (fun n => meet h n))
  let r3 := carriers.any (fun n => s.onCarrier g n != (s.gthPos g n).isSome
    || ((s.gthPos g n).isSome && others.any (fun h => s.gthPos h n = s.gthPos g n)))
  let r4 := s.onePlusOne g && (s.slotsOn g 0).length != (s.slotsOn g 1).length
  let col := s.collates g
  let base := fun h => s.get (GTHW.CFG h) GTHW.CFG_COLL_BASE
  let depth := s.get a GTHW.CFG_COLL_DEPTH
  let cols := others.filter s.collates
  let r5 := col && (decide (96 < ((g :: cols).map s.collSlots).sum)
    || decide (s.nat (ECC.page + ECC.COLL_PAGES) < base g + s.collPages g)
    || cols.any (fun h => decide (base g < base h + s.collPages h) && decide (base h < base g + s.collPages g))
    || decide (depth < 4) || decide (1252 < depth))
  let tr := others.filter s.transparent
  let r6 := s.transparent g && (tr.any (fun h => s.get (GTHW.CFG h) GTHW.CFG_CLIENT = s.get a GTHW.CFG_CLIENT)
    || carriers.any (fun n => s.onCarrier g n && decide (8 ≤ (tr.filter (fun h => s.onCarrier h n)).length)))
  let r7 := (col && carriers.any (fun n => s.role n != 0))
    || (s.flag a GTHW.CFG_LEAF_VALID && carriers.any (fun n => s.onCarrier g n && s.role n = 0))
  [(r1, 1), (r2, 2), (r3, 3), (r4, 4), (r5, 5), (r6, 6), (r7, 7)].filterMap (fun x => if x.1 then some x.2 else none)

/-- A refused commit (R322). -/
def State.gthRefuse (s : State) (g rule : Nat) : WOut :=
  let s := (s.set GTH.page GTH.CHECK_LAST_GATHERING g).set GTH.page GTH.CHECK_LAST_RULE rule
  no .state (s.raise Kind.GTH.pages.1 GTH.ev_CHECK_FAIL)

/-- The client of a transparent gathering follows its entry: MAP_SHORT, CLIENT_FAIL and what the port sends (R388 to R391). -/
def State.refreshClient (s : State) (g : Nat) : State :=
  if s.transparent g then s.refreshPort (s.get (GTHW.CFG g) GTHW.CFG_CLIENT) else s

/-- A commit of a gathering's entry, its 16 words given: enabling runs the check, disabling is accepted when nothing else
changes and no enabled group names the gathering; any other commit is refused (R322, R323). Enabling starts at GSN 0 with
the parts in ACQUIRE. -/
def entGTH (g : Nat) (ws : List Nat) (s : State) : WOut :=
  let a := GTHW.CFG g
  let old := (List.range 16).map (fun i => s.nat (a + 4 * i))
  let t := s.setWords a ws
  if !s.gthEn g then
    if !t.gthEn g then s.gthRefuse g 0
    else match t.gthRules g with
      | r :: _ => s.gthRefuse g r
      | [] =>
        let p := fun (b up : Bool) => ({ st := if !b then .off else if up then .in_ else .acquire } : GPart)
        let x : Gath := { gsnNext := 0, p0 := p true (!t.collates g && t.singleLocked g), p1 := p (t.collates g) false, alarm := false }
        ok ((((t.setGth g x).showGth).showPart g).refreshClient g)
  else if t.gthEn g ∨ ws.tail != old.tail ∨ ws.head? != (old.head?.map (fun v => clrBit v 0)) then s.gthRefuse g 0
  else if (s.groupOf g).isSome then s.gthRefuse g 8
  else
    let t := ((t.setGth g {}).lineClear g).showGth
    let t := t.setNat64 (GTH.page + GTH.FAILED) (clrBit (t.nat64 (GTH.page + GTH.FAILED)) g)
    ok (((t.setB (GTHW.STAT g) GTHW.STAT_GFAILED false).showPart g).refreshClient g)

/-! ### Transmit (R325 to R327, R339, R347) -/

/-- GTH is ACTIVE or draining; in FAULT or soft reset it fails everything (R347, R349). -/
def State.gthRuns (s : State) : Bool :=
  s.serves Kind.GTH.pages.1

/-- Filling `n` cell slots from waiting transit and local cells: transit first, and a local cell at least once in 8 slots;
`run` counts the transit cells since the last local one (R22, R451). The cells taken, those left, and the run. -/
def arbitrate : Nat → Nat → List Cell → List Cell → List Cell × List Cell × List Cell × Nat
  | 0, run, t, l => ([], t, l, run)
  | n + 1, run, t, l =>
    match t, l with
    | [], [] => ([], [], [], run)
    | [], y :: l' => let r := arbitrate n 0 [] l'; (y :: r.1, r.2)
    | x :: t', [] => let r := arbitrate n 0 t' []; (x :: r.1, r.2)
    | x :: t', y :: l' =>
      if 7 ≤ run then let r := arbitrate n 0 (x :: t') l'; (y :: r.1, r.2)
      else let r := arbitrate n (run + 1) t' (y :: l'); (x :: r.1, r.2)

/-- A cell leaves on a member. -/
def State.sendCell (s : State) (m : Nat) (c : Cell) : State :=
  s.send "cell" [(m : Int), (b2n c.sof : Nat), (b2n c.eof : Nat), (c.cls : Int), (c.dest : Int), (c.src : Int), (c.ep : Int),
    (c.len : Int), (c.hops : Int), (c.seq : Int), (b2n c.sync : Nat)]

/-- A cell that came over a fabric link leaves its buffer: a credit goes back (R448). -/
def State.giveCredit (s : State) (c : Cell) : State :=
  if 1 ≤ c.from_ ∧ c.from_ ≤ 8 then s.send "credit" [(c.from_ : Int) - 1, 1] else s

/-- The cells that wait for a packet gathering fill the cell slots of its unit: control cells, then transit and local cells
(R450, R451). -/
def State.fillUnit (s : State) (g bytes : Nat) : List Nat × State :=
  let all := Tab.get (fun _ => []) s.fbr.lines g
  let ctl := Tab.get (fun _ => []) s.fbr.ctl g
  let first := ctl.take (bytes / 256)
  let r := arbitrate (bytes / 256 - first.length) (Tab.get (fun _ => 0) s.fbr.transitRun (8 + g))
    (all.filter (fun c => c.from_ ≠ 0)) (all.filter (fun c => c.from_ = 0))
  let s := { s with fbr := { s.fbr with lines := Tab.put (fun _ => []) s.fbr.lines g (r.2.1 ++ r.2.2.1),
                                        ctl := Tab.put (fun _ => []) s.fbr.ctl g (ctl.drop first.length),
                                        transitRun := Tab.put (fun _ => 0) s.fbr.transitRun (8 + g) r.2.2.2 } }
  (packUnit bytes first r.1, each r.1 (fun c t => (t.sendCell (8 + g) c).giveCredit c) s)

/-- The client of a transparent gathering has failed, or its port maps nothing (R347, R391). -/
def State.clientFailed (s : State) (g : Nat) : Bool :=
  let p := s.get (GTHW.CFG g) GTHW.CFG_CLIENT
  s.flag MAC.page (MAC.PORT_STATUS_CLIENT_FAIL p) || !s.flag MAC.page (MAC.PORT_CFG_EN p)
    || !s.flag MAC.page (MAC.PORT_CFG_PATH p) || !s.active Kind.MAC.pages.1

/-- The D bits of a burst's stream (R249, R275). -/
def State.burstSize (s : State) (n : Nat) (u : TxBurst) : Nat :=
  let e := blockBits (s.get (TXD.page n) TXD.MOD_FORMAT) (s.get (TXD.page n) TXD.MOD_ENTROPY)
  burstBits (s.burstWordsOf n e { leaf := 0, subc := u.subc, folio := u.folio, start := u.start, len := u.len })
    (s.get (FEC.page n) FEC.CTRL_PROFILE)

/-- The first element that meets a condition, changed where it stands. -/
def changeFirst {α : Type} (p : α → Bool) (f : α → α) : List α → Option (α × List α)
  | [] => none
  | a :: l => if p a then some (a, f a :: l) else (changeFirst p f l).map (fun r => (r.1, a :: r.2))

/-- The bytes that the next unit of a gathering takes: those of its slots; for the upstream gathering of a leaf those of the dedicated
subcarrier, or the payload of the oldest granted burst that has no unit, which has one then (R275, R321, R324). -/
def State.unitRoom (s : State) (g : Nat) : Option (Nat × State) :=
  match s.leafOf g with
  | none => some (s.unitBytes g, s)
  | some n =>
    if s.leafDed n then some (6250 * (s.txSlots g n).length, s)
    else
      let x := s.subst n
      (changeFirst (fun (u : TxBurst) => u.record.isNone && !u.unitMade) (fun u => { u with unitMade := true }) x.bursts).map
        (fun r => (s.burstSize n r.1 / 8 - 64, s.setSub n { x with bursts := r.2 }))

/-- The bytes of a unit with an effect on what they come from: the cells that wait, or the blocks that MAC mapped, if it has (R324). -/
def State.unitBody (s : State) (g bytes : Nat) : Option (List Nat × State) :=
  if !s.transparent g then some (s.fillUnit g bytes)
  else
    let p := s.get (GTHW.CFG g) GTHW.CFG_CLIENT
    match (s.port p).mapped with
    | [] => none
    | (n, k) :: r => some (clientUnit bytes p n k, s.setPort p { s.port p with mapped := r })

/-- GTH_TX_UNIT: the next unit of an enabled gathering takes the next GSN and goes to CRY. It is all-ones for a failed client of a
transparent gathering and while GTH is in FAULT or soft reset; a protection gathering carries zeros, or its working gathering's unit
while it is bridged; a packet gathering's unit takes the cells that wait for it, a transparent one's the blocks that MAC mapped, for
which it waits; a leaf makes one for each granted burst (R324, R325, R339, R342, R347, R450). -/
def execGthTxUnit (g : Fin 64) (s : State) : Host.Outcome State Fault Refusal :=
  act s fun s =>
    if !s.gthEn g ∨ s.blk Kind.GTH.pages.1 = bOFF ∨ s.blk Kind.GTH.pages.1 = bCONFIG then s
    else
      let ao := !s.gthRuns || (s.transparent g && s.clientFailed g)
      let prot := match s.groupOf g with
        | some (q, true) => some (s.flag GTH.page (GTH.PG_STATUS_BR q))
        | _ => none
      match s.unitRoom g with
      | none => s
      | some (room, t) =>
        match (if ao then some (List.replicate room 0xFF, t) else if prot.isSome then some (List.replicate room 0, t)
          else t.unitBody g room) with
        | none => s
        | some (bytes, t) =>
          let x := t.gth g
          let n := x.gsnNext
          let unit : TxUnit := { gsn := n, ones := ao, bridged := prot = some true, bytes := bytes }
          let t := t.setGth g { x with gsnNext := (n + 1) % 2 ^ 32, txUnits := x.txUnits ++ [unit] }
          (t.set (GTHW.STAT g) GTHW.STAT_GSN_TX n).send "unit" [(g.val : Int), (n : Int), (b2n ao : Nat), (b2n (prot = some false) : Nat)]

/-! ### Counting selections and re-collations -/

/-- A change of selection of a gathering counts (R337, R342). -/
def State.countPsw (s : State) (g : Nat) : State :=
  let s := (s.bump (GTHW.STAT g) GTHW.STAT_PSW).count (GTH.page + GTH.PSW_COUNT)
  s.pm (pmGath g) (fun x => { x with psw := x.psw + 1 })

/-- The gathering re-collates: the timeline is dropped, the parts in IN return to LOCKED (R334). -/
def State.recollate (s : State) (g : Nat) : State :=
  let x := s.gth g
  let back := fun (p : GPart) => if p.st = .in_ then { p with st := .locked, leads := [], stepRun := 0, lockedFor := 0 } else p
  let s := s.setGth g { x with line := none, p0 := back x.p0, p1 := back x.p1 }
  let s := (s.bump (GTHW.STAT g) GTHW.STAT_RECOLLATE).count (GTH.page + GTH.RECOLL_COUNT)
  let s := s.pm (pmGath g) (fun x => { x with recollate := x.recollate + 1 })
  (s.raise Kind.GTH.pages.1 GTH.ev_RECOLLATE).showPart g

/-! ### Collation: arrivals (R328 to R332) -/

/-- A lead lies in range: 0 to 2,000 × (COLL_DEPTH − 1) ns (R332). -/
def State.leadOk (s : State) (g : Nat) (l : Int) : Bool :=
  decide (0 ≤ l) && decide (l ≤ 2000 * ((s.get (GTHW.CFG g) GTHW.CFG_COLL_DEPTH : Nat) : Int) - 2000)

/-- Signed distance of GSNs. -/
def gsnDiff (a b : Nat) : Int := toSigned 32 ((a + 2 ^ 32 - b) % 2 ^ 32)

/-- Placing a locked part by its lead: IN with COLL_LOCK, or EARLY or LATE with DELAY_RANGE (Table 10-3). -/
def State.place (s : State) (g p : Nat) (l : Int) : State :=
  let x := s.gth g
  let y := { x.part p with lead := l }
  let st : PartSt := if s.leadOk g l then .in_ else if l < 0 then .late else .early
  if y.st = st then s.setGth g (x.setPart p y)
  else
    let s := s.setGth g (x.setPart p { y with st := st, leads := if st = .in_ then [l] else [], stepRun := 0 })
    s.raise Kind.GTH.pages.1 (if st = .in_ then GTH.ev_COLL_LOCK else GTH.ev_DELAY_RANGE)

/-- The stored unit of a GSN. -/
def GPart.find (p : GPart) (g : Nat) : Option PUnit := p.units.find? (fun u => u.gsn = g)

/-- Setting the timeline at unit `u`: O(u) = max T_p + GUARD over the locked parts, and each of them is placed (R331). -/
def State.setTimeline (s : State) (g u : Nat) : State :=
  let x := s.gth g
  let ps := [0, 1].filter (fun p => (x.part p).st = .locked && ((x.part p).find u).isSome)
  let ts := ps.filterMap (fun p => ((x.part p).find u).map (fun v => (v.t : Int)))
  let o := ts.foldl max (ts.headD 0) + s.get GTH.page GTH.COLL_CFG_GUARD
  let s := s.setGth g { x with line := some (u, o), corrected := 0, refPart := ps.headD 0 }
  each ps (fun p t => match ((t.gth g).part p).find u with
    | some v => t.place g p (o - v.t)
    | none => t) s

/-- Mean of leads. -/
def meanI (l : List Int) : Int := l.foldl (· + ·) 0 / (max 1 l.length : Nat)

/-- A unit of a part that stands on a timeline: its lead; a locked part is placed, an EARLY or LATE one joins when its
lead is within range, one in IN has its run of stepped leads counted (R331 to R334). -/
def State.timed (s : State) (g p : Nat) (u : PUnit) : State :=
  let x := s.gth g
  match x.line with
  | none => s
  | some (n, o) =>
    let l := o + 2000 * gsnDiff u.gsn n - u.t
    let y := x.part p
    match y.st with
    | .locked => s.place g p l
    | .early | .late => if s.leadOk g l then s.place g p l else s.setGth g (x.setPart p { y with lead := l })
    | .in_ =>
      let far := decide (s.get GTH.page GTH.COLL_CFG_STEP_LIMIT < (l - meanI y.leads).natAbs)
      s.setGth g (x.setPart p { y with
        lead := l, stepRun := if far then y.stepRun + 1 else 0,
        leads := if far then y.leads else (y.leads ++ [l]).drop ((y.leads.length + 1) - 256) })
    | _ => s

/-- The delay of R330 over the units of a quire of 256 that both parts delivered. -/
def State.delayNote (s : State) (g p : Nat) (u : PUnit) : State :=
  let x := s.gth g
  let okSt := fun (q : GPart) => q.st = .locked || q.st = .in_
  match (x.part (1 - p)).find u.gsn with
  | none => s
  | some v =>
    if !(okSt x.p0 && okSt x.p1) then s
    else
      let d : Int := if p = 1 then (u.t : Int) - v.t else (v.t : Int) - u.t
      let blk := u.gsn / 256
      if blk = x.delayBlk then s.setGth g { x with delaySum := x.delaySum + d, delayN := x.delayN + 1 }
      else
        let s := if x.delayN = 0 then s else s.setI (GTHW.STAT g) GTHW.STAT_DELAY (divRound x.delaySum x.delayN)
        s.setGth g { x with delayBlk := blk, delaySum := d, delayN := 1 }

/-- The marker of a part in ACQUIRE: LOCK_N consecutive valid ones, each one above the last, lock it; units are stored from
the first valid one (Table 10-3). -/
def GPart.acquire (y : GPart) (lockN : Nat) (marker : Option Nat) (mk : Nat → PUnit) : GPart :=
  match marker with
  | none => { y with run := 0, units := [] }
  | some m =>
    let next := y.run != 0 && m = (y.last + 1) % 2 ^ 32
    let run := if next then y.run + 1 else 1
    { y with last := m, run := run, units := (if next then y.units else []) ++ [mk m],
             st := if lockN ≤ run then .locked else .acquire, lossRun := 0, lockedFor := 0 }

/-- The marker of a part that has locked: a missed or wrong one is predicted and counts towards LOSS_N (Table 10-3). -/
def GPart.follow (y : GPart) (lossN depth : Nat) (marker : Option Nat) (mk : Nat → PUnit) : GPart :=
  let want := (y.last + 1) % 2 ^ 32
  let bad := marker != some want
  let run := if bad then y.lossRun + 1 else 0
  if lossN ≤ run then { st := .acquire, tagFailed := y.tagFailed }
  else { y with last := want, lossRun := run, lockedFor := y.lockedFor + 1,
                units := (y.units ++ [mk want]).drop ((y.units.length + 1) - max 1 depth) }

/-- Under version 1 positions 16 to 31 are not carried: a gathering there receives all-ones and no marker (R296). -/
def State.notCarried (s : State) (g p : Nat) : Bool :=
  let n := if s.collates g then p else if s.onCarrier g 1 then 1 else 0
  s.get (FRM.page n) FRM.CAP_STATUS_VER_RX = 1 && (match s.gthPos g n with
    | some h => decide (16 ≤ h)
    | none => false)

/-- The carrier that carries a part of a gathering. -/
def State.partCarrier (s : State) (g p : Nat) : Nat := if s.collates g then p else if s.onCarrier g 1 then 1 else 0

/-- The streams whose slots make a part of a gathering, and the one whose headband or spine speaks of it: of a hub's leaf the stream of
its first slot, else stream 0 (R277, R278; DEDUCED for slots on several streams of a hub, log entry 144). -/
def State.partStreams (s : State) (g n : Nat) : List Nat := ((s.slotsOn g n).map (s.slotStream n)).eraseDups
def State.markStream (s : State) (g n : Nat) : Nat :=
  if s.role n = 1 then (((s.partStreams g n).filter (s.frmReceives n)).head?).getD 0 else 0

/-- What FRMn has delivered for a part in its turn: a burst's payload, or one folio's slots of its streams put together, a stream that
FRMn does not receive counting as all-ones. None while a folio of a stream is still to come (R286, R321, R324; log entry 144). -/
def State.partIn (s : State) (g p : Nat) : Option (FolioIn × State) :=
  let n := s.partCarrier g p
  let f := s.frms n
  match Tab.get (fun _ => []) f.burstIn g with
  | d :: r => some (d, s.setFrm n { f with burstIn := Tab.put (fun _ => []) f.burstIn g r })
  | [] =>
    let slots := s.partStreams g n
    let mark := s.markStream g n
    let live := ((slots ++ [mark]).eraseDups).filter (s.frmReceives n)
    let queue := fun (i : Nat) => Tab.get (fun _ => []) f.toGth (16 * g + i)
    let ones := fun (i : Nat) => List.replicate (6250 * ((s.slotsOn g n).filter (fun k => s.slotStream n k = i)).length) 0xFF
    if live.isEmpty then
      (if s.role n = 1 && s.flag (GTHW.CFG g) GTHW.CFG_LEAF_VALID then none
       else some ({ at_ := s.dtime, ones := true, sd := false, bytes := slots.flatMap ones }, s))
    else if live.any (fun i => (queue i).isEmpty) then none
    else
      let head := fun (i : Nat) => if live.contains i then (queue i).head? else none
      let mine := slots.filterMap head
      let m := head mark
      let d : FolioIn := {
        at_ := (m.map (·.at_)).getD s.dtime,
        ones := slots.any (fun i => (head i).isNone) || mine.any (·.ones), sd := mine.any (·.sd),
        bytes := slots.flatMap (fun i => ((head i).map (·.bytes)).getD (ones i)),
        marker := m.bind (·.marker), phase := m.bind (·.phase), tag := m.bind (·.tag) }
      some (d, s.setFrm n { f with toGth := live.foldl (fun u i => Tab.put (fun _ => []) u (16 * g + i) ((queue i).drop 1)) f.toGth })

/-- The tag of a unit, which the next folio carries, reaches the unit where it waits: stored, kept as P's last, or handed to CRY, over
its own gathering or for the working gathering of its group (R354). -/
def State.tagIn (s : State) (g p gsn : Nat) (tag : Option Nat) : State :=
  let fill := fun (u : PUnit) => if u.gsn = gsn && u.tag.isNone then { u with tag := some tag } else u
  let fillH := fun (h : Handed) => if h.src ≠ g then h
    else { h with units := h.units.zipIdx.map (fun x => if x.2 = p then x.1.map fill else x.1) }
  let x := s.gth g
  let y := x.part p
  let x := x.setPart p { y with units := y.units.map fill }
  let s := s.setGth g { x with handed := x.handed.map fillH }
  match s.groupOf g with
  | some (q, true) =>
    let s := s.setPgrp q { s.pgrp q with pUnit := (s.pgrp q).pUnit.map fill }
    let w := s.get GTH.page (GTH.PG_CFG_W q)
    s.setGth w { s.gth w with handed := (s.gth w).handed.map fillH }
  | _ => s

/-- GATHERING_MARKER_RX: the next folio, or burst, that FRMn delivered for part `p` of a gathering becomes a unit, with its marker where
FRMn passed a valid one; the tag of the unit before comes with it. A single gathering does not collate: part 0 reads IN while its
stream is LOCKED (R328 to R335, R354). -/
def execGatheringMarkerRx (g : Fin 64) (p : Fin 2) (s : State) : Host.Outcome State Fault Refusal :=
  act s fun s =>
    if !s.gthEn g ∨ (!s.collates g && p.val = 1) then s
    else match s.partIn g p with
    | none => s
    | some (d, s) =>
      let far := s.notCarried g p
      let s := if d.own then s else s.tagIn g p ((s.gth g).part p).last (if far then none else d.tag)
      let x := s.gth g
      let y := x.part p
      let m := if far then none else d.marker
      let mk := fun (k : Nat) => ({
        gsn := k, t := d.at_, ao := d.ones || far, sd := d.sd, data := d.bytes, phase := if far then none else d.phase,
        tag := if d.own then some d.tag else none } : PUnit)
      if !s.collates g then
        let st : PartSt := if s.singleLocked g then .in_ else .acquire
        let k := m.getD ((y.last + 1) % 2 ^ 32)
        (s.setGth g (x.setPart p { y with st := st, last := k, units := y.units ++ [mk k] })).showPart g
      else
        let depth := s.get (GTHW.CFG g) GTHW.CFG_COLL_DEPTH
        let y' := if y.st = .acquire ∨ y.st = .off then y.acquire (s.get GTH.page GTH.LOSS_CFG_LOCK_N) m mk
          else y.follow (s.get GTH.page GTH.LOSS_CFG_LOSS_N) depth m mk
        let lost := y.st = .in_ && y'.st = .acquire
        let s := (s.setGth g (x.setPart p y')).raiseIf lost Kind.GTH.pages.1 GTH.ev_COLL_LOST
        if y'.st = .acquire then s.showPart g
        else
          let u := mk y'.last
          let s := (s.delayNote g p u).timed g p u
          let x := s.gth g
          let o := x.part (1 - p)
          let s := if x.line.isSome then s
            else if x.p0.st = .locked && x.p1.st = .locked && (o.find u.gsn).isSome then s.setTimeline g u.gsn
            else if s.onePlusOne g && decide (1300 ≤ max (x.part p).lockedFor (if o.st = .locked then o.lockedFor else 0))
            then s.setTimeline g u.gsn
            else s
          s.showPart g

/-! ### Protection groups (R339 to R345) -/

/-- The conditions SF_W, SD_W and SF_P change: a new failure ends WTR; SF_W or SD_W clearing while it was the local
request starts WTR or DNR (R343). -/
def State.pgCond (s : State) (q : Nat) (sfW sdW sfP : Bool) : State :=
  let b := GTH.page
  let oldW := s.flag b (GTH.PG_STATUS_SF_W q)
  let oldD := s.flag b (GTH.PG_STATUS_SD_W q)
  let oldP := s.flag b (GTH.PG_STATUS_SF_P q)
  let loc := s.localReq q
  let s := ((s.setB b (GTH.PG_STATUS_SF_W q) sfW).setB b (GTH.PG_STATUS_SD_W q) sdW).setB b (GTH.PG_STATUS_SF_P q) sfP
  let fresh := (sfW && !oldW) || (sdW && !oldD) || (sfP && !oldP)
  let cleared := (loc = 0xB || loc = 9) && !sfW && !sdW
  let x := s.pgrp q
  let x := if fresh then { x with wtrEnd := none } else x
  let wtr := s.get b (GTH.PG_CFG_WTR q)
  let x := if !cleared then x
    else if !s.flag b (GTH.PG_CFG_REVERTIVE q) then { x with dnr := true }
    else if wtr = 0 then x else { x with wtrEnd := some (s.now + wtr * nsSec) }
  (s.setPgrp q x).pgEval q

/-- The fate of a unit of W or P decides its failure: declared at once with HOLD_OFF 0, and cleared after 64 good units
(R341). -/
def State.pgUnit (s : State) (q : Nat) (isP failed sd : Bool) : State :=
  let b := GTH.page
  let x := s.pgrp q
  let sf := s.flag b (if isP then GTH.PG_STATUS_SF_P q else GTH.PG_STATUS_SF_W q)
  let good := if failed then 0 else (if isP then x.goodP else x.goodW) + 1
  let from_ := if isP then x.failFromP else x.failFromW
  let from' := if failed then (if from_.isSome then from_ else some s.now) else none
  let sf' := if failed then sf || decide (s.get b (GTH.PG_CFG_HOLD_OFF q) = 0) else sf && decide (good < 64)
  let s := s.setPgrp q (if isP then { x with failFromP := from', goodP := good } else { x with failFromW := from', goodW := good })
  if isP then s.pgCond q (s.flag b (GTH.PG_STATUS_SF_W q)) (s.flag b (GTH.PG_STATUS_SD_W q)) sf'
  else s.pgCond q sf' sd (s.flag b (GTH.PG_STATUS_SF_P q))

/-- What began at an instant, if it did, has lasted for so long. -/
def State.held (s : State) (t : Option Nat) (d : Nat) : Bool := match t with
  | some a => decide (a + d ≤ s.now)
  | none => false

/-- HOLD_OFF of a group in ns (R341). -/
def State.holdOff (s : State) (q : Nat) : Nat := s.get GTH.page (GTH.PG_CFG_HOLD_OFF q) * 100 * nsMs

/-- PG_HOLD_OFF_EXPIRY: W (or P) of an enabled group has failed for HOLD_OFF and is declared failed (R341). -/
def execPgHoldOffExpiry (q : Fin 4) (isP : Bool) (s : State) : Host.Outcome State Fault Refusal :=
  act s fun s =>
    let b := GTH.page
    let x := s.pgrp q
    if !s.flag b (GTH.PG_CFG_EN q) then s
    else if isP then
      (if !s.held x.failFromP (s.holdOff q) then s
       else s.pgCond q (s.flag b (GTH.PG_STATUS_SF_W q)) (s.flag b (GTH.PG_STATUS_SD_W q)) true)
    else if !s.held x.failFromW (s.holdOff q) then s
    else s.pgCond q true (s.flag b (GTH.PG_STATUS_SD_W q)) (s.flag b (GTH.PG_STATUS_SF_P q))

/-- WTR_LEFT of a group: the seconds of wait-to-restore that remain, a started second counting whole (R343). -/
def State.wtrLeft (s : State) (q : Nat) : Nat :=
  match (s.pgrp q).wtrEnd with
  | some e => min 1023 (ceilDiv (e - s.now) nsSec)
  | none => 0

/-- PG_WTR_EXPIRY: wait-to-restore ends and the request returns to NR (R343). -/
def execPgWtrExpiry (q : Fin 4) (s : State) : Host.Outcome State Fault Refusal :=
  act s fun s =>
    if !s.held (s.pgrp q).wtrEnd 0 then s else (s.setPgrp q { s.pgrp q with wtrEnd := none }).pgEval q

/-- PG_FOP: SIG has been sent for 50 ms while the received BR stayed 0 (R345). -/
def execPgFop (q : Fin 4) (s : State) : Host.Outcome State Fault Refusal :=
  act s fun s => s.raiseIf (s.held (s.pgrp q).fopFrom (50 * nsMs)) Kind.GTH.pages.1 GTH.ev_PG_FOP

/-- A host command of a group (R341, R343). -/
def State.pgCmd (s : State) (q c : Nat) : State :=
  let x := s.pgrp q
  let x := match c with
    | 0 => { x with host := 0, wtrEnd := none, dnr := false }
    | 1 => { x with host := 0xF }
    | 2 => { x with host := 0xD }
    | _ => { x with host := 7 }
  (s.setPgrp q x).pgEval q

/-- A received byte that R341 does not allow: SIG with LO or SF_P, or no SIG with a request that switches. -/
def badDirection (v : Nat) : Bool :=
  let r := v / 16
  if r = 0 then false else if r = 0xF ∨ r = 0xE then bitOf v 3 else !(reqSwitches r && bitOf v 3)

/-- A new accepted PS value of carrier n: every group whose P lies there follows, and PG_MISMATCH is raised for a
non-zero byte of a disabled group or one that R341 does not allow (R340, R345). -/
def State.psAccepted (s : State) (n : Nat) : State :=
  each (List.range 4) (fun q t =>
    let v := bitsOf (t.nat (FRM.page n + FRM.PS_RX)) (24 - 8 * q) 8
    let en := t.flag GTH.page (GTH.PG_CFG_EN q)
    let here := t.onCarrier (t.get GTH.page (GTH.PG_CFG_P q)) n
    let t := t.raiseIf (v != 0 && (!en || (here && badDirection v))) Kind.GTH.pages.1 GTH.ev_PG_MISMATCH
    if en && here then t.pgEval q else t) s

/-- The conditions under which PG_CFG may enable a group (R339). -/
def State.pgOk (s : State) (q w p : Nat) : Bool :=
  let single := fun g => s.gthEn g && !s.collates g
  let n := fun g => if s.onCarrier g 1 then 1 else 0
  let b := GTH.page
  single w && single p && n w != n p && (s.slotsOn w (n w)).length = (s.slotsOn p (n p)).length
    && s.transparent w = s.transparent p
    && (List.range 4).all (fun r => r = q || !s.flag b (GTH.PG_CFG_EN r)
      || ([w, p].all (fun g => s.get b (GTH.PG_CFG_W r) != g && s.get b (GTH.PG_CFG_P r) != g)))

/-- A write of PG_CFG: enabling is checked, and while enabled only clearing EN is accepted (R339). -/
def State.pgCfgWrite (s : State) (q v : Nat) : WOut :=
  let b := GTH.page
  let a := b + GTH.PG_CFG q
  let was := s.flag b (GTH.PG_CFG_EN q)
  let en := bitOf v 15
  if was then
    if v != clrBit (s.nat a) 15 then no .state s
    else ok ((((s.setNat a v).setPgrp q {}).set b (GTH.PG_STATUS_SEL_P q) 0).pgCond q false false false |>.setPgrp q {}
      |>.pgEval q)
  else if en && !s.pgOk q (bitsOf v 0 6) (bitsOf v 8 6) then s.gthRefuse q 9
  else ok ((s.setNat a v).pgEval q)

/-! ### Output of units (R331, R335 to R338, R341, R342, R346) -/

/-- Failing and clearing a gathering's output: AO_UNITS, FAILED, discarded bytes of a packet gathering, the alarm of
R346. -/
def State.unitFate (s : State) (g : Nat) (failed : Bool) : State :=
  let x := s.gth g
  let a := GTHW.STAT g
  let f := s.nat64 (GTH.page + GTH.FAILED)
  let s := s.setNat64 (GTH.page + GTH.FAILED) (if failed then setBit f g else clrBit f g)
  let s := s.setB a GTHW.STAT_GFAILED failed
  if failed then
    let bytes := if s.transparent g then 0 else x.discRem + s.unitBytes g
    let s := (s.bump a GTHW.STAT_AO_UNITS).bumpBy a GTHW.STAT_DISCARD_KB (bytes / 1000)
    let s := s.setGth g { x with alarm := true, goodRun := 0, discRem := bytes % 1000 }
    let s := s.pm (pmGath g) (fun y => { y with failed := y.failed + 1 })
    s.raiseIf (!x.alarm) Kind.GTH.pages.1 GTH.ev_GATHERING_FAIL
  else
    let clear := x.alarm && decide (64 ≤ x.goodRun + 1)
    let s := s.setGth g { x with goodRun := x.goodRun + 1, alarm := x.alarm && !clear }
    s.raiseIf clear Kind.GTH.pages.1 GTH.ev_GATHERING_OK

/-- The pages of the collation region that hold unit `u` of a gathering (R332; which of its area's pages is the model's choice, log
entry 145). -/
def State.unitPages (s : State) (g u : Nat) : List Nat :=
  let a := GTHW.CFG g
  let each_ := ceilDiv (6250 * s.collSlots g) 1792
  (List.range each_).map (fun i => s.get a GTHW.CFG_COLL_BASE + u % max 1 (s.get a GTHW.CFG_COLL_DEPTH) * each_ + i)

/-- A unit of a part that GDDR7 holds cannot be read: GDDR7 serves no access, or a channel that holds a page of it is FAILED
(R5, R332, R512, R513). -/
def State.unitLost (s : State) (g u : Nat) (p : GPart) : Bool :=
  p.inGddr && (!s.eccServes || (s.unitPages g u).any (fun k => s.chDown (s.physPage k).1))

/-- Grade of a copy of a unit: 0 OK, 1 SD, 2 SF (R336). -/
def State.grade (s : State) (g u : Nat) (p : GPart) : Nat :=
  match p.find u with
  | none => 2
  | some v => if p.st ≠ .in_ ∨ v.ao ∨ p.tagFailed ∨ s.unitLost g u p then 2 else if v.sd then 1 else 0

/-- The copy selected (R337): true for copy B. -/
def selectCopy (cmd : Nat) (a b : Nat) (was : Bool) : Bool :=
  if cmd = 5 then false else if cmd = 6 then true
  else if a < b then false else if b < a then true
  else if cmd = 3 then false else if cmd = 4 then true else was

/-- Parts in IN that have stepped return to LOCKED: a bonded gathering, or a 1+1 one with no other copy IN, re-collates
(R334). -/
def State.collStep (s : State) (g : Nat) : State :=
  let n := s.get GTH.page GTH.LOSS_CFG_LOCK_N
  let x := s.gth g
  let stepped := [0, 1].filter (fun p => (x.part p).st = .in_ && decide (n ≤ (x.part p).stepRun))
  match stepped with
  | [] => s
  | p :: _ =>
    if s.onePlusOne g && (x.part (1 - p)).st = .in_ && stepped.length = 1 then
      s.setGth g { x.setPart p { x.part p with st := .locked, leads := [], stepRun := 0 } with refPart := 1 - p }
    else s.recollate g

/-- The timeline after unit `u` is out: one folio period of the reference part on, at most 1 ns per quire towards the
smallest lead being GUARD while both parts are IN; dropped when no part is IN (R331). -/
def State.advance (s : State) (g : Nat) : State :=
  let x := s.gth g
  match x.line with
  | none => s
  | some (u, o) =>
    let ins := [0, 1].filter (fun p => (x.part p).st = .in_)
    match ins with
    | [] => s.setGth g { x with line := none }
    | ref :: _ =>
      let y := x.part ref
      let u' := (u + 1) % 2 ^ 32
      let period : Int := match y.find u, y.find u' with
        | some a, some b => (b.t : Int) - a.t
        | _, _ => 2000
      let least := min x.p0.lead x.p1.lead
      let guard : Int := (s.get GTH.page GTH.COLL_CFG_GUARD : Nat)
      let move : Int := if ins.length = 2 && u' % 256 = 0 then (if least < guard then 1 else if guard < least then -1 else 0) else 0
      let drop := fun (p : GPart) => { p with units := p.units.filter (fun v => decide (0 < gsnDiff v.gsn u)) }
      s.setGth g { x with line := some (u', o + period + move), refPart := ref, p0 := drop x.p0, p1 := drop x.p1 }

/-- Output of a 1+1 unit: both copies graded, one selected (R336, R337). -/
def State.outputOne (s : State) (g u : Nat) : State × Bool × Bool :=
  let x := s.gth g
  let a := s.grade g u x.p0
  let b := s.grade g u x.p1
  let st := GTHW.STAT g
  let sel := selectCopy x.cmd a b x.selB
  let s := ((s.setB st GTHW.STAT_SF0 (a = 2)).setB st GTHW.STAT_SD0 (a = 1)).setB st GTHW.STAT_SF1 (b = 2)
  let s := s.setB st GTHW.STAT_SD1 (b = 1)
  let s := s.setGth g { x with selB := sel }
  let s := if sel = x.selB then s else (s.countPsw g).raise Kind.GTH.pages.1 GTH.ev_PSW
  let mine := if sel then b else a
  let oth := if sel then a else b
  (s, mine = 2, oth != 2)

/-- Handing a unit to CRY, failed or not, with what its parts delivered over gathering `src` (R346). -/
def State.hand (s : State) (g u : Nat) (failed other : Bool) (src : Nat) (units : List (Option PUnit)) : State :=
  let s := s.unitFate g failed
  let x := s.gth g
  let h : Handed := { gsn := u, failed := failed, sel := x.selB, other := other, src := src, units := units }
  (s.setGth g { x with handed := x.handed ++ [h] }).set (GTHW.STAT g) GTHW.STAT_GSN_OUT u

/-- UNIT_OUTPUT: the next unit of an enabled gathering is handed to CRY. A bonded unit fails unless both parts are IN and
hold it without all-ones; of a 1+1 unit a copy is selected; a single gathering's unit passes at delivery, through its
protection group when it has one. GTH in FAULT fails every unit (R331, R334 to R337, R341, R342, R346, R349). -/
def execUnitOutput (g : Fin 64) (s : State) : Host.Outcome State Fault Refusal :=
  act s fun s =>
    if !s.gthEn g then s
    else
      let dead := !s.gthRuns
      if s.collates g then
        let s := s.collStep g
        let x := s.gth g
        match x.line with
        | none => (s.hand g ((s.get (GTHW.STAT g) GTHW.STAT_GSN_OUT + 1) % 2 ^ 32) true false g []).showPart g
        | some (u, _) =>
          let units := [x.p0.find u, x.p1.find u]
          let s := if s.onePlusOne g then
              let (t, f, o) := s.outputOne g u
              t.hand g u (f || dead) o g units
            else s.hand g u (dead || s.grade g u x.p0 = 2 || s.grade g u x.p1 = 2) false g units
          (s.advance g).showPart g
      else
        match (s.gth g).p0.units with
        | [] => s
        | v :: r =>
          let x := s.gth g
          let s := s.setGth g { x with p0 := { x.p0 with units := r } }
          let bad := dead || v.ao || x.p0.st != .in_
          match s.groupOf g with
          | none => s.hand g v.gsn bad false g [some v]
          | some (q, true) => (s.setPgrp q { s.pgrp q with pFailed := bad, pUnit := some v }).pgUnit q true bad v.sd
          | some (q, false) =>
            let s := s.pgUnit q false bad v.sd
            let selP := s.flag GTH.page (GTH.PG_STATUS_SIG q) && s.flag GTH.page (GTH.PG_STATUS_FAR_BR q)
            let was := s.flag GTH.page (GTH.PG_STATUS_SEL_P q)
            let s := s.setB GTH.page (GTH.PG_STATUS_SEL_P q) selP
            let s := if selP = was then s else (s.countPsw g).raise Kind.GTH.pages.1 GTH.ev_PG_SWITCH
            if selP then s.hand g v.gsn (dead || (s.pgrp q).pFailed) false (s.get GTH.page (GTH.PG_CFG_P q)) [(s.pgrp q).pUnit]
            else s.hand g v.gsn bad false g [some v]

/-- A position of carrier n is reported failed for RDI_POS: the part or copy there is SF or not IN, or the gathering's
output is failed (not for the good copy of a 1+1 gathering), or CRY failed its last unit (R348, R373). -/
def State.posFailed (s : State) (g n : Nat) : Bool :=
  let x := s.gth g
  let p := if s.collates g then n else 0
  let notIn := (x.part p).st != .in_
  let sf := s.flag (GTHW.STAT g) (if n = 0 then GTHW.STAT_SF0 else GTHW.STAT_SF1)
  if s.onePlusOne g then notIn || sf || (x.part p).tagFailed
  else notIn || s.flag (GTHW.STAT g) GTHW.STAT_GFAILED || x.cryFailed

/-! ### Register writes -/

/-- Field ranges of Table 10-7. -/
def rangeGTH (off v : Nat) : Bool :=
  if off = GTH.COLL_CFG then
    inR v GTH.COLL_CFG_GUARD 500 4000 && inR v GTH.COLL_CFG_STEP_LIMIT 100 (fv v GTH.COLL_CFG_GUARD)
  else if off = GTH.LOSS_CFG then inR v GTH.LOSS_CFG_LOSS_N 2 64 && inR v GTH.LOSS_CFG_LOCK_N 2 7
  else if off = GTH.CMD then inR v GTH.CMD_ACTION 0 6
  else if off = GTH.PG_CMD then inR v GTH.PG_CMD_CMD 0 3
  else if GTH.PG_CFG 0 ≤ off ∧ off ≤ GTH.PG_CFG 3 then inR v (⟨off, 16, 10⟩) 0 720
  else true

/-- A gathering command: RECOLLATE, or a selection command of a 1+1 gathering (R334, R337). -/
def State.gthCmd (s : State) (g c : Nat) : WOut :=
  if c = 0 then ok s
  else if c = 1 then ok (if s.gthEn g && s.collates g then s.recollate g else s)
  else if !(s.gthEn g && s.onePlusOne g) then no .state s
  else ok ((s.setGth g { s.gth g with cmd := if c = 2 then 0 else c }).showPart g)

/-- A write that reaches GTH's registers. -/
def wrGTH (off v : Nat) (s : State) : WOut :=
  if off = GTH.CMD then s.gthCmd (fv v GTH.CMD_GATHERING) (fv v GTH.CMD_ACTION)
  else if off = GTH.PG_CMD then
    let q := fv v GTH.PG_CMD_GROUP
    if !s.flag GTH.page (GTH.PG_CFG_EN q) then no .state s else ok (s.pgCmd q (fv v GTH.PG_CMD_CMD))
  else if GTH.PG_CFG 0 ≤ off ∧ off ≤ GTH.PG_CFG 3 then s.pgCfgWrite ((off - GTH.PG_CFG 0) / 4) v
  else ok (s.setNat (GTH.page + off) v)

end Sys2Proof.Machine
end

