-- ==== Sys2Proof/Machine/Cry.lean ====
section
/-!
DEFINITION. CRY: key contexts and loads, transmit and receive units, the switch of keys, key agreement over MC1, the
self-test and what a guard does to it (chapter 11).
-/
namespace Sys2Proof.Machine

/-! ### Contexts and key slots (R361 to R364) -/

def State.ctx (s : State) (g : Nat) : CryCtx := Tab.get (fun _ => {}) s.cry g
def State.setCtx (s : State) (g : Nat) (c : CryCtx) : State := { s with cry := Tab.put (fun _ => {}) s.cry g c }

/-- Suite of a gathering: 0 NONE, 1 AES-256-GCM, 2 SM4-GCM (R352). -/
def State.suite (s : State) (g : Nat) : Nat := s.get (CRYW.KEY g) CRYW.KEY_SUITE

/-- The slots that a context uses: current, next, loading. -/
def CryCtx.txSlots (c : CryCtx) : List Nat := ([c.txCur, c.txNext, c.txLoad].filterMap id).map (·.slot)
def CryCtx.rxSlots (c : CryCtx) : List Nat := ([c.rxCur, c.rxNext, c.rxLoad].filterMap id).map (·.slot)

/-- The slot attribute BUSY of every slot follows the contexts (R577). -/
def State.syncSlots (s : State) (slots : List Nat) : State :=
  each slots (fun k t => t.setB (SECW.SLOT k) SECW.SLOT_SBUSY
    ((List.range 64).any (fun g => (t.ctx g).txSlots.contains k || (t.ctx g).rxSlots.contains k))) s

/-- The slot is current or next in a context other than the given one (R361, cause BUSY). -/
def State.usedElsewhere (s : State) (g : Nat) (tx : Bool) (k : Nat) : Bool :=
  (List.range 64).any (fun h =>
    let c := s.ctx h
    let t := (([c.txCur, c.txNext].filterMap id).map (·.slot)).contains k
    let r := (([c.rxCur, c.rxNext].filterMap id).map (·.slot)).contains k
    (t && !(h = g && tx)) || (r && !(h = g && !tx)))

/-- The status words of a context follow it (Table 11-6); NEXT shows LOADING during a load. -/
def State.showCtx (s : State) (g : Nat) : State :=
  let a := CRYW.CTX g
  let c := s.ctx g
  let s := (s.set a CRYW.CTX_TX_CUR_SLOT ((c.txCur.map (·.slot)).getD 0)).setB a CRYW.CTX_TX_CUR_VALID c.txCur.isSome
  let s := (s.set a CRYW.CTX_RX_CUR_SLOT ((c.rxCur.map (·.slot)).getD 0)).setB a CRYW.CTX_RX_CUR_VALID c.rxCur.isSome
  s.set a CRYW.CTX_TX_STATE (if c.exhausted then 3 else if c.txCur.isNone then 0 else if c.switchReq then 2 else 1)

/-- A change of a context, with the attributes of the slots it held and holds. -/
def State.updCtx (s : State) (g : Nat) (c : CryCtx) : State :=
  let o := s.ctx g
  ((s.setCtx g c).syncSlots ((o.txSlots ++ o.rxSlots ++ c.txSlots ++ c.rxSlots).eraseDups)).showCtx g

/-- A load of a next key starts and replaces a READY one; the next key is LOADING until it ends (R361). -/
def State.startLoad (s : State) (g : Nat) (tx : Bool) (k : KeyRef) : State :=
  let c := s.ctx g
  if tx then (s.updCtx g { c with txLoad := some k, txNext := none }).set (CRYW.CTX g) CRYW.CTX_TX_NEXT 1
  else (s.updCtx g { c with rxLoad := some k, rxNext := none }).set (CRYW.CTX g) CRYW.CTX_RX_NEXT 1

/-- Why a load fails: 5 LOCK, 1 EMPTY, 2 TYPE, 3 USED, 4 BUSY (R361, R364, R579). -/
def State.loadError (s : State) (g : Nat) (tx served : Bool) (k : KeyRef) : Nat :=
  let a := SECW.SLOT k.slot
  if s.flag CRY.page CRY.GUARD_STATE_LOCK then 5
  else if !s.flag a SECW.SLOT_FULL || !served then 1
  else if s.get a SECW.SLOT_STYPE != s.suite g - 1 || s.suite g = 0 then 2
  else if tx && s.flag a SECW.SLOT_USED then 3
  else if s.usedElsewhere g tx k.slot then 4 else 0

/-- K_S has been destroyed and its replacement is not sealed yet: the store can serve no key (R576, R582). -/
def State.erasing (s : State) : Bool := s.nv.queue.any (fun (t : NvTx) => t.op = .erase && !t.sealed)

/-- A load in progress ends: the next key is READY, or ERROR with its cause and KEY_LOAD_FAIL (R361). -/
def State.endLoad (s : State) (g : Nat) (tx served : Bool) (k : KeyRef) : State :=
  let served := served && !s.erasing
  let e := s.loadError g tx served k
  let c := s.ctx g
  let a := CRYW.CTX g
  let new := if e = 0 then some k else none
  let s := if tx then s.updCtx g { c with txLoad := none, txNext := new } else s.updCtx g { c with rxLoad := none, rxNext := new, cand := 0 }
  let s := if tx then (s.set a CRYW.CTX_TX_NEXT (if e = 0 then 2 else 3)).set a CRYW.CTX_TX_ERR e
    else (s.set a CRYW.CTX_RX_NEXT (if e = 0 then 2 else 3)).set a CRYW.CTX_RX_ERR e
  let s := s.raiseIf (!served) Kind.SEC.pages.1 SEC.ev_KEYBUS_ERROR
  s.raiseIf (e != 0) Kind.CRY.pages.1 CRY.ev_KEY_LOAD_FAIL

/-- KEY_LOAD_DONE: the fetch of a next key ends, within 50 µs of its start; `served` is false when the key store could not
serve it. After a soft reset of CRY it is the fetch of the context's keys, which the context awaits until it is served
(R361, R363, R579). -/
def execKeyLoadDone (g : Fin 64) (tx : Bool) (served : Bool) (s : State) : Host.Outcome State Fault Refusal :=
  act s fun s =>
    let c := s.ctx g
    match (if tx then c.txLoad else c.rxLoad) with
    | some k => s.endLoad g tx served k
    | none =>
      if !(if tx then c.refetchTx else c.refetchRx) then s
      else if !served || s.erasing then s.raise Kind.SEC.pages.1 SEC.ev_KEYBUS_ERROR
      else s.setCtx g (if tx then { c with refetchTx := false } else { c with refetchRx := false })

/-- A 64-bit salt of the key entry. -/
def State.salt (s : State) (g : Nat) (tx : Bool) : Nat :=
  let a := CRYW.KEY g
  if tx then s.get a CRYW.KEY_TX_SALT_HI * 2 ^ 32 + s.get a CRYW.KEY_TX_SALT_LO
  else s.get a CRYW.KEY_RX_SALT_HI * 2 ^ 32 + s.get a CRYW.KEY_RX_SALT_LO

/-- A commit of a key entry, its 8 words given (R361, R381). -/
def entCRY (g : Nat) (ws : List Nat) (s : State) : WOut :=
  let a := CRYW.KEY g
  let w0 := ws.getD 0 0
  let w1 := ws.getD 1 0
  let old := s.nat a
  let txL := bitOf w1 15
  let rxL := bitOf w1 31
  let c := s.ctx g
  if bitsOf w0 0 2 = 3 then no .range s
  else if s.gthEn g && (w0 &&& 0x33) != (old &&& 0x33) then no .state s
  else if (txL && c.txLoad.isSome) || (rxL && c.rxLoad.isSome) then no .state s
  else
    let s := s.setWords a ws
    let s := (s.setB a CRYW.KEY_TX_LOAD false).setB a CRYW.KEY_RX_LOAD false
    let s := if txL then s.startLoad g true ⟨s.get a CRYW.KEY_TX_SLOT, s.salt g true⟩ else s
    ok (if rxL then s.startLoad g false ⟨s.get a CRYW.KEY_RX_SLOT, s.salt g false⟩ else s)

/-! ### Transmit (R356 to R359, R365 to R367) -/

/-- A gathering touches a carrier whose agreed version is 1 (R379). -/
def State.touchesV1 (s : State) (g : Nat) : Bool :=
  [0, 1].any (fun n => s.onCarrier g n && s.get (FRM.page n) FRM.CAP_STATUS_VER_AGREED = 1)

/-- CRY passes no unit of any gathering: it is in OFF, CONFIG or soft reset (R58, Table 3-13). -/
def State.cryIdle (s : State) : Bool := s.inConfig Kind.CRY.pages.1 || (s.page Kind.CRY.pages.1).softReset

/-- CRY fails a gathering whose suite is not NONE: no traffic passes, a guard LOCK, the ladder, a suite that version 1
lacks, keys still being fetched again (R363, R364, R379, R380). -/
def State.cryFails (s : State) (g : Nat) (refetch : Bool) : Bool :=
  s.cryIdle || s.flag CRY.page CRY.GUARD_STATE_LOCK || s.blk Kind.CRY.pages.1 = bFAULT
    || refetch || (s.suite g = 2 && s.touchesV1 g)

/-- SUITE_VERSION when SM4-GCM meets version 1 (R379). -/
def State.suiteVersion (s : State) (g : Nat) : State :=
  let bad := s.suite g = 2 && s.touchesV1 g
  let was := (s.ctx g).verFail
  (s.setCtx g { s.ctx g with verFail := bad }).raiseIf (bad && !was) Kind.CRY.pages.1 CRY.ev_SUITE_VERSION

/-- The transmit context switches to its next key at a switch point (R362, R366); the phase bit flips, and is 0 for the
context's first key (the worked example of chapter 11). -/
def State.txSwitch (s : State) (g gsn : Nat) : State :=
  let c := s.ctx g
  match c.txNext with
  | none => s
  | some k =>
    let a := CRYW.CTX g
    let ph := if c.hadKey then 1 - s.get a CRYW.CTX_TX_PHASE else 0
    let s := s.updCtx g { c with txCur := some k, txNext := none, switchReq := false, warned := false, exhausted := false,
                                 hadKey := true }
    let s := (s.set a CRYW.CTX_TX_NEXT 0).set a CRYW.CTX_TX_PHASE ph
    let s := (s.set a CRYW.CTX_TX_B gsn).setB (SECW.SLOT k.slot) SECW.SLOT_USED true
    (s.nvRequest (.usedKey k.slot) 2).raise Kind.CRY.pages.1 CRY.ev_TX_SWITCHED

/-- Counter of a unit under the current transmit key (R356). -/
def State.txCounter (s : State) (g gsn : Nat) : Nat := (gsn + 2 ^ 32 - s.get (CRYW.CTX g) CRYW.CTX_TX_B) % 2 ^ 32

/-- Bytes that the cipher of this step gives (R352; free, log entry 141). -/
def State.cipherBytes (s : State) (f : Nat → Nat → Nat) (len : Nat) : List Nat :=
  (List.range len).map (fun i => f s.freeCtr i % 256)

/-- A unit leaves CRY for the line: it waits for the transmit folio of each carrier that sends it, a bonded gathering's with the part
of its bytes that lies there (R325, R327). -/
def State.lineOut (s : State) (g : Nat) (u : LineUnit) : State :=
  let s := s.setGth g { s.gth g with txLast := some u }
  let cut := 6250 * (s.slotsOn g 0).length
  each [0, 1] (fun n t =>
    if !(t.onCarrier g n && t.frmSends n && (t.role n ≠ 2 || t.leafOf g = some n)) then t
    else
      let part := if t.onePlusOne g || !t.collates g then u.bytes else if n = 0 then u.bytes.take cut else u.bytes.drop cut
      let f := t.frms n
      t.setFrm n { f with txReady := Tab.put (fun _ => []) f.txReady g (Tab.get (fun _ => []) f.txReady g ++ [{ u with bytes := part }]) }) s

/-- CTR_WARN once per key, when the counter that a unit would take reaches the threshold (R358). -/
def State.ctrWarn (s : State) (g gsn : Nat) : State :=
  let c := s.ctx g
  if c.txCur.isSome && !c.warned && !c.exhausted && decide (s.nat (CRY.page + CRY.CTR_WARN) ≤ s.txCounter g gsn) then
    (s.setCtx g { c with warned := true }).raise Kind.CRY.pages.1 CRY.ev_CTR_WARN
  else s

/-- The conditions for a switch at a switch point (R366). -/
def State.txMaySwitch (s : State) (g gsn : Nat) : Bool :=
  let c := s.ctx g
  gsn % 65536 = 0 && c.txNext.isSome && (c.txCur.isNone || c.exhausted || c.switchReq
    || (s.flag CRY.page CRY.CTRL_AUTO_SWITCH && decide (s.nat (CRY.page + CRY.CTR_WARN) ≤ s.txCounter g gsn)))

/-- The unit of a protection gathering: zeros with a tag of zeros, or its working gathering's last unit as that went to the line, under
its own GSN (R339, R342; log entry 142). -/
def State.protUnit (s : State) (w : Nat) (u : TxUnit) : LineUnit :=
  let plain : LineUnit := { gsn := u.gsn, phase := false, tag := 0, bytes := u.bytes }
  if u.ones || !u.bridged then plain
  else match (s.gth w).txLast with
    | some l => { l with gsn := u.gsn }
    | none => plain

/-- CRY_TX_UNIT: the oldest unit that GTH has ready is encrypted and goes to the line with its tag and phase bit. At a switch point the
context may switch; a unit whose counter would be 2³² − 1, and those after it, are all-ones, as are units without a key, all-ones units
of GTH and failed ones; the ciphertext and tag of the named suites are values that the spec leaves to their standards, so both are free
(R327, R352 to R359, R364 to R366, R379, R380). -/
def execCryTxUnit (g : Fin 64) (s : State) : Host.Outcome State Fault Refusal :=
  act s fun s =>
    match (s.gth g).txUnits with
    | [] => s
    | u :: r =>
      let gsn := u.gsn
      let s := s.setGth g { s.gth g with txUnits := r }
      let ones := List.replicate u.bytes.length 0xFF
      match s.groupOf g with
      | some (q, true) =>
        let ones := u.ones || s.cryIdle
        let l := s.protUnit (s.get GTH.page (GTH.PG_CFG_W q)) { u with ones := ones }
        (s.lineOut g (if s.cryIdle then { l with bytes := List.replicate u.bytes.length 0xFF } else l)).send "cipher"
          [(g.val : Int), (gsn : Int), (b2n ones : Nat), 0]
      | _ =>
        if s.suite g = 0 then
          let bad := u.ones || s.cryIdle
          (s.lineOut g { gsn := gsn, phase := false, tag := 0, bytes := if bad then ones else u.bytes }).send "cipher"
            [(g.val : Int), (gsn : Int), (b2n bad : Nat), 0]
        else
          let s := (s.suiteVersion g).ctrWarn g gsn
          let s := if s.txMaySwitch g gsn then s.txSwitch g gsn else s
          let a := CRYW.CTX g
          let c := s.ctx g
          let ctr := s.txCounter g gsn
          let out := c.txCur.isSome && (c.exhausted || ctr = 2 ^ 32 - 1)
          let s := if out then (s.updCtx g { c with exhausted := true }).raiseIf (!c.exhausted) Kind.CRY.pages.1 CRY.ev_CTR_EXHAUSTED
            else s
          let s := if c.txCur.isSome then s.set a CRYW.CTX_TX_CTR ctr else s
          let bad := u.ones || out || c.txCur.isNone || s.cryFails g c.refetchTx
          let l : LineUnit := {
            gsn := gsn, phase := s.flag a CRYW.CTX_TX_PHASE, tag := if bad then 0 else s.freeVal % 2 ^ 128,
            bytes := if bad then ones else s.cipherBytes Config.cipherByte u.bytes.length }
          ((if bad then s else s.nextFree).lineOut g l).send "cipher" [(g.val : Int), (gsn : Int), (b2n bad : Nat), (ctr : Int)]

/-! ### Receive (R360, R368 to R374) -/

/-- A unit failed in CRY: the event, the counters, the report for RDI_POS (R369, R373). -/
def State.tagFail (s : State) (g : Nat) : State :=
  let s := (s.bump (CRYW.CTX g) CRYW.CTX_CTX_TAG_FAILS).count (CRY.page + CRY.TAG_FAILS)
  let s := s.pm (pmGath g) (fun x => { x with tagFail := x.tagFail + 1, failed := x.failed + 1 })
  (s.setGth g { s.gth g with cryFailed := true }).raise Kind.CRY.pages.1 CRY.ev_TAG_FAIL

/-- A new unit with no READY next key (R369). -/
def State.keyMissing (s : State) (g : Nat) : State :=
  let c := s.ctx g
  let s := (s.bump (CRYW.CTX g) CRYW.CTX_CTX_KEY_MISSING).count (CRY.page + CRY.KEY_MISSING)
  let s := s.pm (pmGath g) (fun x => { x with failed := x.failed + 1 })
  let s := (s.setCtx g { c with keyMissRun := true }).raiseIf (!c.keyMissRun) Kind.CRY.pages.1 CRY.ev_KEY_MISSING
  s.setGth g { s.gth g with cryFailed := true }

/-- The candidates of a new unit, highest first: the switch points above g_last up to its GSN, at most 16 (R368). -/
def candidates (gLast : Option Nat) (gsn : Nat) : List Nat :=
  let top := gsn - gsn % 65536
  match gLast with
  | none => (List.range (min 16 (gsn / 65536 + 1))).map (fun i => top - 65536 * i)
  | some l =>
    let d := (gsn + 2 ^ 32 - l) % 2 ^ 32
    ((List.range 16).filter (fun i => decide (gsn % 65536 + 65536 * i < d))).map (fun i => (top + 2 ^ 32 - 65536 * i) % 2 ^ 32)

/-- The receive context commits a switch under candidate `b` (R368). -/
def State.rxSwitch (s : State) (g gsn b : Nat) (phase : Bool) : State :=
  let c := s.ctx g
  let a := CRYW.CTX g
  let s := s.updCtx g { c with rxCur := c.rxNext, rxNext := none, gLast := some gsn, cand := 0, newFails := 0, keyMissRun := false }
  let s := ((s.set a CRYW.CTX_RX_NEXT 0).setB a CRYW.CTX_RX_PHASE phase).set a CRYW.CTX_RX_B b
  (s.setB a CRYW.CTX_RX_TRIAL false).raise Kind.CRY.pages.1 CRY.ev_RX_SWITCHED

/-- A unit goes to the egress stages with whether it is good; a failed unit of a packet gathering yields no cells (R302, R346, R371). -/
def State.toEgress (s : State) (g : Nat) (good : Bool) (bytes : List Nat) : State :=
  if !s.transparent g && (!good || decide (bytes.length < 256)) then s
  else s.setGth g { s.gth g with released := (s.gth g).released ++ [(good, if good then bytes else List.replicate bytes.length 0xFF)] }

/-- A verified unit is released (R371, R373); its plaintext is the cipher's (log entry 141). -/
def State.released (s : State) (g gsn len : Nat) : State :=
  let s := s.count64 (CRY.page + CRY.UNITS_VERIFIED) 1
  let s := s.setGth g { s.gth g with cryFailed := false }
  (s.nextFree.toEgress g true (s.cipherBytes Config.plainByte len)).send "plain" [(g : Int), (gsn : Int), 1]

/-- A failed unit is zeroed and delivered as all-ones; in CUT-THROUGH the bytes that had left are counted (R371, R372). -/
def State.zeroed (s : State) (g gsn len left : Nat) : State :=
  let cut := s.flag (CRYW.KEY g) CRYW.KEY_RELEASE && left != 0
  let s := if cut then
      let s := (s.bumpBy (CRYW.CTX g) CRYW.CTX_CTX_RU left).count64 (CRY.page + CRY.RELEASED_UNVERIFIED) left
      let a := CRY.page + CRY.RU_FLAGS
      (s.setNat64 a (setBit (s.nat64 a) g)).raise Kind.CRY.pages.1 CRY.ev_RELEASED_UNVERIFIED
    else s
  (s.toEgress g false (List.replicate len 0xFF)).send "plain" [(g : Int), (gsn : Int), 0]

/-- The tag verdict of each copy grades it for the next unit (R336, R338). -/
def State.gradeCopies (s : State) (g : Nat) (selB okSel okOther : Bool) : State :=
  if !s.onePlusOne g then s
  else
    let x := s.gth g
    let fa := if selB then !okOther else !okSel
    let fb := if selB then !okSel else !okOther
    s.setGth g { x with p0 := { x.p0 with tagFailed := fa }, p1 := { x.p1 with tagFailed := fb } }

/-- A trial of a new unit failed: the next lower candidate comes next; RX_KEY_LOST once at 64 in a row (R368, R369). -/
def State.trialFailed (s : State) (g n : Nat) : State :=
  let c := s.ctx g
  let k := c.newFails + 1
  let s := s.setCtx g { c with cand := (c.cand + 1) % max 1 n, newFails := k }
  (s.setB (CRYW.CTX g) CRYW.CTX_RX_TRIAL true).raiseIf (k = 64) Kind.CRY.pages.1 CRY.ev_RX_KEY_LOST

/-- Verifying a unit that GTH handed over: old units with the current key, new ones with the next key under the candidate
in turn. `okAny` is the verdict of either copy, on which a switch commits, and `okRel` that of a copy that may be released
(R368 to R370, R374). -/
def State.verify (s : State) (g gsn len left : Nat) (agree phase okAny okRel : Bool) : State :=
  let c := s.ctx g
  let a := CRYW.CTX g
  let fail := fun (t : State) => (t.tagFail g).zeroed g gsn len left
  let release := fun (t : State) => if okRel then t.released g gsn len else fail t
  let old := c.rxCur.isSome && phase = s.flag a CRYW.CTX_RX_PHASE
  if !agree || s.cryFails g c.refetchRx then fail s
  else if old then
    let ctr := (gsn + 2 ^ 32 - s.get a CRYW.CTX_RX_B) % 2 ^ 32
    let s := s.setCtx g { c with keyMissRun := false }
    if ctr = 2 ^ 32 - 1 || !okAny then fail s
    else release ((s.setCtx g { s.ctx g with gLast := some gsn, newFails := 0 }).setB a CRYW.CTX_RX_TRIAL false)
  else
    let cs := candidates c.gLast gsn
    match cs[c.cand % max 1 cs.length]? with
    | none => fail s
    | some b =>
      if c.rxNext.isNone then (s.keyMissing g).zeroed g gsn len left
      else
        let ctr := (gsn + 2 ^ 32 - b) % 2 ^ 32
        if ctr = 2 ^ 32 - 1 || !okAny then fail (s.trialFailed g cs.length)
        else release (s.rxSwitch g gsn b phase)

/-- The bytes of a unit handed over: of a 1+1 gathering those of the selected copy, else those of its parts in turn (R324). -/
def Handed.bytes (h : Handed) (copies : Bool) : List Nat :=
  if copies then ((h.units.getD (b2n h.sel) none).map (·.data)).getD [] else h.units.flatMap (fun u => (u.map (·.data)).getD [])

/-- A part's tag is still to come with the next folio (R354). -/
def Handed.tagDue (h : Handed) : Bool := h.units.any (fun u => match u with
  | some v => v.tag.isNone
  | none => false)

/-- The phase bits and the tags of the positions whose folio was not missed (R370). -/
def Handed.phases (h : Handed) : List Bool := h.units.filterMap (fun u => u.bind (·.phase))
def Handed.tags (h : Handed) : List Nat := h.units.filterMap (fun u => u.bind (fun v => v.tag.join))

/-- A valid position exists and the valid positions agree on phase bit and tag (R370). -/
def Handed.agree (h : Handed) : Bool :=
  !h.phases.isEmpty && !h.tags.isEmpty && h.phases.all (fun p => h.phases.head? = some p) && h.tags.all (fun t => h.tags.head? = some t)

/-- CRY_RX_UNIT: the oldest unit that UNIT_OUTPUT handed over is verified, once the folio that carries its tag has come. `okSel` and
`okOther` say whether the tag verifies on the selected and on the other copy under the key and counter tried, `left` how many bytes had
left the part at the verdict (R354, R368 to R374). -/
def execCryRxUnit (g : Fin 64) (okSel : Bool) (okOther : Bool) (left : Nat) (s : State) : Host.Outcome State Fault Refusal :=
  act s fun s =>
    match (s.gth g).handed with
    | [] => s
    | h :: r =>
      if s.suite g ≠ 0 && !h.failed && h.tagDue then s
      else
        let bytes := h.bytes (s.onePlusOne g)
        let len := if h.failed then s.unitBytes g else bytes.length
        let ones := List.replicate len 0xFF
        let s := (s.setGth g { s.gth g with handed := r }).suiteVersion g
        if s.suite g = 0 && s.cryIdle && !h.failed then (s.tagFail g).zeroed g h.gsn len left
        else if s.suite g = 0 then
          ((s.setGth g { s.gth g with cryFailed := false }).toEgress g (!h.failed) (if h.failed then ones else bytes)).send "plain"
            [(g.val : Int), (h.gsn : Int), (b2n (!h.failed) : Nat)]
        else if h.failed then (s.toEgress g false ones).send "plain" [(g.val : Int), (h.gsn : Int), 0]
        else
          let hold := !s.flag (CRYW.KEY g) CRYW.KEY_RELEASE
          let other := h.other && okOther
          let s := s.gradeCopies g h.sel okSel other
          s.verify g h.gsn len left h.agree (h.phases.headD false) (okSel || other) (okSel || (hold && other))

/-- RX_RESYNC: the current receive key is dropped to next, the candidates are rebuilt without g_last (R369). -/
def State.rxResync (s : State) (g : Nat) : State :=
  let c := s.ctx g
  match c.rxCur with
  | none => s.setCtx g { c with gLast := none, cand := 0 }
  | some k =>
    (s.updCtx g { c with rxCur := none, rxNext := some k, gLast := none, cand := 0 }).set (CRYW.CTX g) CRYW.CTX_RX_NEXT 2

/-! ### Guard actions (R364) -/

/-- A guard LOCK starts or ends for CRY. -/
def State.cryLock (s : State) (on : Bool) : State := s.setB CRY.page CRY.GUARD_STATE_LOCK on

/-- A guard ERASE: every key is zeroised and every context empty; what a later key needs stays: that the context had a key,
and g_last (R364, R368). -/
def State.cryErase (s : State) : State :=
  let s := each (List.range 64) (fun g t =>
    if t.ctx g = {} then t
    else
      let t := t.updCtx g { hadKey := (t.ctx g).hadKey, gLast := (t.ctx g).gLast }
      (t.set (CRYW.CTX g) CRYW.CTX_TX_NEXT 0).set (CRYW.CTX g) CRYW.CTX_RX_NEXT 0) s
  s.raise Kind.CRY.pages.1 CRY.ev_KEYS_ZEROISED

/-! ### The self-test (R378) -/

/-- CMD.SELF_TEST (R378). -/
def State.crySelfTest (s : State) : WOut :=
  if !s.inConfig Kind.CRY.pages.1 then no .state s
  else if s.flag CRY.page CRY.SELFTEST_RUNNING then ok s
  else match s.requestLeave (catalogue 7 0) with
    | (.refused, t) => no .leave t
    | (_, t) => ok (t.setB CRY.page CRY.SELFTEST_RUNNING true)

/-- CRY_SELF_TEST_DONE: the known-answer tests of a granted self-test end (R378). -/
def execCrySelfTestDone (pass : Bool) (s : State) : Host.Outcome State Fault Refusal :=
  act s fun s =>
    if !(s.flag CRY.page CRY.SELFTEST_RUNNING && s.hasLeave 7 0) then s
    else
      let s := (s.endLeave 7 0).setB CRY.page CRY.SELFTEST_RUNNING false
      let s := s.set CRY.page CRY.SELFTEST_RESULT (if pass then 1 else 2)
      let s := { s with cryPassed := s.cryPassed || pass }
      (s.raise Kind.CRY.pages.1 CRY.ev_SELFTEST_DONE).raiseIf (!pass) Kind.CRY.pages.1 CRY.ev_SELFTEST_FAIL

/-- The configuration check of CRY (R378). -/
def State.checkCry (s : State) : Bool := s.cryPassed

/-! ### Key agreement (R375 to R377, R379, R579) -/

/-- The carrier over whose MC1 a gathering agrees keys, and its position there. -/
def State.agreeCarrier (s : State) (g : Nat) : Nat := if s.onCarrier g 0 then 0 else 1
def State.agreePos (s : State) (g : Nat) : Nat := (s.gthPos g (s.agreeCarrier g)).getD 0

/-- The content of an agreement message (Table 11-3): keys, nonce, confirmations, signatures and the cause of an ABORT are free (log
entry 141). -/
def State.agreeContent (s : State) (code pos n : Nat) : List Nat :=
  let open_ := fun (lo k : Nat) => (List.range k).map (fun i => Config.agreeByte s.freeCtr (lo + i) % 256)
  let g := s.gatherings.find? (fun g => s.onCarrier g n && s.gthPos g n = some pos)
  match code with
  | 1 => beBytes 8 s.myIdent ++ open_ 0 80 ++ [(g.map s.suite).getD 0, 0, 0, 0] ++ open_ 80 64
  | 2 => beBytes 8 s.myIdent ++ open_ 0 176
  | 3 => open_ 0 32
  | _ => open_ 0 1

/-- The MC1 units of an agreement message: a header with the code, position, index and count, and 28 bytes each (R376). -/
def agreeUnits (code pos : Nat) (content : List Nat) : List (List Nat) :=
  let k := ceilDiv content.length 28
  (List.range k).map (fun i => [0xA7, code, pos, 16 * i + k] ++ (List.range 28).map (fun j => content.getD (28 * i + j) 0))

/-- An agreement message leaves over MC1: its units wait for the transmit folios of the carrier (R376). -/
def State.agreeSend (s : State) (n code pos : Nat) : State :=
  let f := s.frms n
  let s := s.setFrm n { f with coreTx := f.coreTx ++ agreeUnits code pos (s.agreeContent code pos n) }
  s.nextFree.send "agree" [(n : Int), (code : Int), (pos : Int)]

/-- A transaction that writes an exchange's keys. -/
def NvOp.isAgreed : NvOp → Bool
  | .agreed _ _ _ _ => true
  | _ => false

/-- The exchange ends with AGREE_FAIL and a cause; both contexts stay unchanged. -/
def State.agreeFail (s : State) (cause : Nat) : State :=
  let s := { s with agree := {} }.withdrawLeave 6 1
  let s := s.endLeave 6 1
  let s := { s with nv := { s.nv with queue := s.nv.queue.take 1 ++ (s.nv.queue.drop 1).filter (fun (t : NvTx) => !t.op.isAgreed) } }
  let s := (s.set CRY.page CRY.AGREE_STATUS_STATE 4).set CRY.page CRY.AGREE_STATUS_CAUSE cause
  s.raise Kind.CRY.pages.1 CRY.ev_AGREE_FAIL

/-- An exchange begins for a gathering in a role. -/
def State.agreeBegin (s : State) (g : Nat) (responder : Bool) : State :=
  let s := { s with agree := { on := true, from_ := s.now, gathering := g, responder := responder } }
  let s := (s.set CRY.page CRY.AGREE_STATUS_STATE (if responder then 2 else 1)).setB CRY.page CRY.AGREE_STATUS_ROLE responder
  (s.set CRY.page CRY.AGREE_STATUS_GATHERING g).set CRY.page CRY.AGREE_STATUS_CAUSE 0

/-- MC1 of a carrier has its source CORE (R290). -/
def State.mc1Core (s : State) (n : Nat) : Bool := s.get OSP.page (OSP.MC_SRC_SRC (2 * n + 1)) = 2

/-- A running exchange ends for a cause that the table of causes does not list: a free value. -/
def State.agreeBreak (s : State) : State := if s.agree.on then s.nextFree.agreeFail s.freeVal else s

/-- START is refused, with its reason: the guard's LOCK; the gathering, its MC1 or its slots do not serve; an exchange runs
that this write does not end; the service cores are not RUNNING (R375, R579, R582, R592). -/
def State.startRefused (s : State) (g : Nat) (ends : Bool) : Option Rej :=
  let k := CRYW.KEY g
  let busy := fun f => s.flag (SECW.SLOT (s.get k f)) SECW.SLOT_SBUSY
  if s.flag CRY.page CRY.GUARD_STATE_LOCK then some .lock
  else if !s.gthEn g || s.suite g = 0 || !s.mc1Core (s.agreeCarrier g) || (s.agree.on && !ends)
      || busy CRYW.KEY_AGREE_TX_SLOT || busy CRYW.KEY_AGREE_RX_SLOT
      || s.get CPU.page CPU.FW_STATUS_SVC_STATE != 0 then some .state
  else none

/-- An exchange starts with this part as initiator: A1 leaves, or the exchange ends at once (R375, R379, R580). -/
def State.agreeStart (s : State) (g : Nat) : State :=
  let s := s.agreeBegin g false
  if s.touchesV1 g then s.agreeFail 6
  else if s.flag SEC.page SEC.RNG_STATUS_FAILED then s.agreeBreak
  else s.agreeSend (s.agreeCarrier g) 1 (s.agreePos g)

/-- A write of AGREE_CMD: ABORT ends the exchange in progress, and START begins one (R375, R379). -/
def State.agreeCmd (s : State) (v : Nat) : WOut :=
  let g := fv v CRY.AGREE_CMD_GATHERING
  let ends := fb v CRY.AGREE_CMD_ABORT && s.agree.on
  let t := if ends then s.agreeFail 7 else s
  if !fb v CRY.AGREE_CMD_START then ok t
  else match s.startRefused g ends with
    | some r => no r s
    | none => ok (t.agreeStart g)

/-- The peer list holds a valid entry of an identity (R377, R575). -/
def State.peerListed (s : State) (identity : Nat) : Bool :=
  (List.range 64).any (fun e => bitOf (s.nat64 (SEC.page + SEC.PEER_VALID)) e
    && s.nat (SECW.PEER e) * 2 ^ 32 + s.nat (SECW.PEER e + 4) = identity)

/-- The keys of an exchange go to the key store: leave for a key-store write, then the transaction (R377, R579). -/
def State.agreeKeysOut (s : State) : State :=
  let g := s.agree.gathering
  let k := CRYW.KEY g
  { s with agree := { s.agree with storing := 2 } }.nvRequest
    (.agreed g (s.get k CRYW.KEY_AGREE_TX_SLOT) (s.get k CRYW.KEY_AGREE_RX_SLOT) (s.suite g - 1)) 4

/-- Leave for the write of an exchange's keys is asked for. -/
def State.agreeStore (s : State) : State :=
  match s.requestLeave (catalogue 6 1) with
  | (.granted, t) => t.agreeKeysOut
  | (.queued, t) => { t with agree := { t.agree with storing := 1 } }
  | (.refused, t) => t.agreeFail 8

/-- AGREE_A1_RX: an A1 arrives over MC1 of a carrier for a position; another exchange in progress is answered with ABORT,
an entry with AGREE_RESP = 1 answers as responder (R375, R376). -/
def execAgreeA1Rx (n : Fin 2) (pos : Fin 32) (identity : BitVec 64) (sigOk : Bool) (s : State) :
    Host.Outcome State Fault Refusal :=
  act s fun s =>
    if !s.mc1Core n then s
    else if s.agree.on then s.agreeSend n 0xF pos
    else match s.gatherings.find? (fun g => s.agreeCarrier g = n.val && s.gthPos g n = some pos.val) with
      | none => s
      | some g =>
        if !s.flag (CRYW.KEY g) CRYW.KEY_AGREE_RESP || s.flag CRY.page CRY.GUARD_STATE_LOCK || s.touchesV1 g then s
        else
          let s := s.agreeBegin g true
          if s.flag SEC.page SEC.RNG_STATUS_FAILED then s.agreeBreak
          else if !sigOk then s.agreeFail 2
          else if !s.peerListed identity.toNat then s.agreeFail 4
          else s.agreeSend n 2 pos

/-- AGREE_A2_RX: the answer of the responder; signature, peer list and confirmation are checked, A3 is sent and the keys
go to the store (R376, R377). -/
def execAgreeA2Rx (identity : BitVec 64) (sigOk : Bool) (confOk : Bool) (s : State) : Host.Outcome State Fault Refusal :=
  act s fun s =>
    if !s.agree.on || s.agree.responder || s.agree.storing != 0 then s
    else if !sigOk then s.agreeFail 2
    else if !s.peerListed identity.toNat then s.agreeFail 4
    else if !confOk then s.agreeFail 3
    else (s.agreeSend (s.agreeCarrier s.agree.gathering) 3 (s.agreePos s.agree.gathering)).agreeStore

/-- AGREE_A3_RX: the initiator's confirmation; when it verifies the keys go to the store (R377). -/
def execAgreeA3Rx (confOk : Bool) (s : State) : Host.Outcome State Fault Refusal :=
  act s fun s =>
    if !s.agree.on || !s.agree.responder || s.agree.storing != 0 then s
    else if !confOk then s.agreeFail 3 else s.agreeStore

/-- AGREE_ABORT_RX: an ABORT ends the exchange (R377). -/
def execAgreeAbortRx (s : State) : Host.Outcome State Fault Refusal :=
  act s fun s => if s.agree.on then s.agreeFail 5 else s

/-- AGREE_TIMEOUT: the exchange has not finished within 50 ms (R377). -/
def execAgreeTimeout (s : State) : Host.Outcome State Fault Refusal :=
  act s fun s => if s.agree.on && decide (s.agree.from_ + 50 * nsMs ≤ s.now) then s.agreeFail 1 else s

/-- AGREE_KEYS_STORED: the keys stand in their slots; they are loaded as next keys with the derived salts, which are free
values, and AGREE_DONE is raised (R377). -/
def execAgreeKeysStored (s : State) : Host.Outcome State Fault Refusal :=
  act s fun s =>
    if !(s.agree.on && s.agree.stored) then s
    else
      let g := s.agree.gathering
      let k := CRYW.KEY g
      let txSalt := s.freeVal % 2 ^ 64
      let s := s.nextFree
      let rxSalt := s.freeVal % 2 ^ 64
      let s := { s.nextFree with agree := {} }.endLeave 6 1
      let s := s.startLoad g true ⟨s.get k CRYW.KEY_AGREE_TX_SLOT, txSalt⟩
      let s := s.startLoad g false ⟨s.get k CRYW.KEY_AGREE_RX_SLOT, rxSalt⟩
      (s.set CRY.page CRY.AGREE_STATUS_STATE 3).raise Kind.CRY.pages.1 CRY.ev_AGREE_DONE

/-- Leave for an exchange's keys is granted from the queue. -/
def State.agreeGranted (s : State) : State := if s.agree.on && s.agree.storing = 1 then s.agreeKeysOut else s.endLeave 6 1

/-! ### Register writes -/

/-- Field ranges of Table 11-5; ACTION is checked in a write that requests one. -/
def rangeCRY (off v : Nat) : Bool :=
  if off = CRY.CMD then inR v CRY.CMD_ACTION 0 2
  else if off = CRY.CTR_WARN then decide (0x10000 ≤ v) && decide (v ≤ 0xFFFF0000)
  else true

/-- A write that reaches CRY's registers. -/
def wrCRY (off v : Nat) (s : State) : WOut :=
  if off = CRY.CMD then
    let g := fv v CRY.CMD_GATHERING
    let c := s.ctx g
    let act_ := fv v CRY.CMD_ACTION
    if act_ = 1 && c.txNext.isNone then no .state s
    else
      let o := if fb v CRY.CMD_SELF_TEST then s.crySelfTest else ok s
      if o.rej.isSome then o
      else ok (if act_ = 1 then o.st.updCtx g { c with switchReq := true } else if act_ = 2 then o.st.rxResync g else o.st)
  else if off = CRY.AGREE_CMD then s.agreeCmd v
  else ok (s.setNat (CRY.page + off) v)

end Sys2Proof.Machine
end

