-- ==== Sys2Proof/Machine/Mem.lean ====
section
/-!
DEFINITION. GDDR7 and its two codes (chapter 16): the address map, the light code and the strong code, reads and the
slow path, whole-page writes, read-modify-writes and poison, the writes that wait in band OVER, and failed channels.
-/
namespace Sys2Proof.Machine

/-! ### Bytes of the devices -/

/-- The byte at a key, if anything has written it. -/
def Cells.get : List Host.Cell → Nat → Option Byte
  | [], _ => none
  | (j, v) :: r, k => if j = k then some v else Cells.get r k

/-- Writing a byte; keys stay strictly rising. -/
def Cells.put : List Host.Cell → Nat → Byte → List Host.Cell
  | [], k, v => [(k, v)]
  | (j, x) :: r, k, v =>
    if j < k then (j, x) :: Cells.put r k v
    else if j = k then (k, v) :: r
    else (k, v) :: (j, x) :: r

/-- Forgetting a byte. -/
def Cells.drop : List Host.Cell → Nat → List Host.Cell
  | [], _ => []
  | (j, x) :: r, k => if j = k then r else (j, x) :: Cells.drop r k

/-- The canonical form of memory: addresses strictly rising. An unlisted byte has never been written, so no listed entry
equals what an unlisted address holds. -/
abbrev Memory.wf (m : List Host.Cell) : Prop := m.Pairwise (fun a b => a.1 < b.1)

/-- What a byte of a page holds: the written byte, or what the device held at power-on. -/
def State.memByte (s : State) (k : Nat) : Nat := ((Cells.get s.mem k).getD (BitVec.ofNat 8 (Config.unwritten k))).toNat

/-- Writing bytes one after another. -/
def putBytes (m : List Host.Cell) (k : Nat) : List Nat → List Host.Cell
  | [] => m
  | b :: l => putBytes (Cells.put m k (BitVec.ofNat 8 b)) (k + 1) l

/-! ### The light code (R496, R498) -/

/-- The parity-check column of a bit position of a word. -/
def lightCol (j : Nat) : Nat := shownReset (ECCW.PCOL j)

/-- The exclusive or of the columns of the bits that are 1, from position `j` on; bit 8i + b of a word is bit b of byte i. -/
def lightSum (j : Nat) : List Nat → Nat
  | [] => 0
  | b :: l => ((List.range 8).foldl (fun x i => if bitOf b i then x ^^^ lightCol (j + i) else x) 0) ^^^ lightSum (j + 8) l

/-- The check bytes of 32 data bytes. -/
def lightCheck (l : List Nat) : List Nat := [lightSum 0 l % 256, lightSum 0 l / 256 % 256]

/-- A word of 34 bytes with one bit inverted. -/
def flipBit (l : List Nat) (j : Nat) : List Nat := l.set (j / 8) ((l.getD (j / 8) 0) ^^^ 2 ^ (j % 8))

/-- What the light code says of a word. -/
inductive Light where
  | good (data : List Nat)
  | corrected (data : List Nat)
  | bad
  deriving DecidableEq, Repr

/-- Checking a word of 34 bytes. -/
def lightDecode (l : List Nat) : Light :=
  let z := lightSum 0 l
  if z = 0 then .good (l.take 32)
  else match (List.range 272).find? (fun j => lightCol j = z) with
    | some j => .corrected ((flipBit l j).take 32)
    | none => .bad

/-! ### The strong code (R497) -/

/-- Multiplication by x in GF(2⁸) under x⁸ + x⁴ + x³ + x² + 1. -/
def gfX (a : Nat) : Nat := if 128 ≤ a then (2 * a) % 256 ^^^ 0x1D else 2 * a

/-- Multiplication in GF(2⁸). -/
def gfMul (a b : Nat) : Nat :=
  ((List.range 8).foldl (fun (x : Nat × Nat) i => (if bitOf b i then x.1 ^^^ x.2 else x.1, gfX x.2)) (0, a)).1

/-- A power in GF(2⁸). -/
def gfPow (a : Nat) : Nat → Nat
  | 0 => 1
  | n + 1 => gfMul a (gfPow a n)

/-- The inverse of a non-zero element. -/
def gfInv (a : Nat) : Nat := gfPow a 254

/-- The value of a polynomial at a point, highest power first. -/
def gfEval (l : List Nat) (x : Nat) : Nat := l.foldl (fun y c => gfMul y x ^^^ c) 0

/-- The product of a polynomial and x − r, highest power first. -/
def gfTimes (l : List Nat) (r : Nat) : List Nat :=
  ((l ++ [0]).zip (0 :: l)).map (fun (p : Nat × Nat) => p.1 ^^^ gfMul r p.2)

/-- ∏ (x − αʲ) for j = 0 to 8, without its leading 1. -/
def rsGen : List Nat := ((List.range 9).foldl (fun l j => gfTimes l (gfPow 2 j)) [1]).tail

/-- The 9 parity symbols of 119 symbols. -/
def rsParity (l : List Nat) : List Nat :=
  l.foldl (fun r b => let f := b ^^^ r.headD 0; ((r.tail ++ [0]).zip rsGen).map (fun (p : Nat × Nat) => p.1 ^^^ gfMul f p.2))
    [0, 0, 0, 0, 0, 0, 0, 0, 0]

/-- Solving n equations in n unknowns over GF(2⁸); a row holds its coefficients, then its right side. -/
def gfSolve : Nat → List (List Nat) → Option (List Nat)
  | 0, _ => some []
  | n + 1, rows =>
    match rows.find? (fun r => r.headD 0 != 0) with
    | none => none
    | some r =>
      let p := r.map (gfMul (gfInv (r.headD 1)))
      let rest := (rows.erase r).map (fun q => ((q.zip p).map (fun x => x.1 ^^^ gfMul (q.headD 0) x.2)).tail)
      match gfSolve n rest with
      | none => none
      | some xs => some ((xs.zip p.tail).foldl (fun a x => a ^^^ gfMul x.1 x.2) (p.getLastD 0) :: xs)

/-- The nine syndromes of a codeword. -/
def rsSyn (l : List Nat) : List Nat := (List.range 9).map (fun j => gfEval l (gfPow 2 j))

/-- The codeword at distance exactly `v`, if there is one. -/
def rsFix (l : List Nat) (v : Nat) : Option (List Nat) :=
  let S := rsSyn l
  let g := fun i => S.getD i 0
  match gfSolve v ((List.range v).map (fun j => (List.range (v + 1)).map (fun i => g (j + i)))) with
  | none => none
  | some lam =>
    -- locator: X^v + lam_{v-1} X^{v-1} + ... + lam_0 = 0
    let loc := 1 :: lam.reverse
    let pos := (List.range l.length).filter (fun p => gfEval loc (gfPow 2 p) = 0)
    if pos.length ≠ v then none
    else match gfSolve v ((List.range v).map (fun j => pos.map (fun p => gfPow (gfPow 2 p) j) ++ [g j])) with
      | none => none
      | some ys =>
        let fixed := (pos.zip ys).foldl (fun (m : List Nat) e =>
          m.set (l.length - 1 - e.1) (m.getD (l.length - 1 - e.1) 0 ^^^ e.2)) l
        if (rsSyn fixed).all (· = 0) then some fixed else none

/-- Decoding a strong codeword: up to 4 symbol errors are corrected, and more leave it as it is. -/
def rsDecode (l : List Nat) : List Nat :=
  if (rsSyn l).all (· = 0) then l
  else ((List.range 4).findSome? (fun v => rsFix l (v + 1))).getD l

/-- Strong codeword `i` of a page's bytes. -/
def strand (bytes : List Nat) (i : Nat) : List Nat := (List.range (bytes.length / 16)).map (fun k => bytes.getD (16 * k + i) 0)

/-- The bytes of interleaved strands. -/
def unstrand (ss : List (List Nat)) (n : Nat) : List Nat :=
  (List.range n).flatMap (fun k => ss.map (fun l => l.getD k 0))

/-- The 144 parity bytes of 1,904 page bytes. -/
def strongParity (bytes : List Nat) : List Nat := unstrand ((List.range 16).map (fun i => rsParity (strand bytes i))) 9

/-- A whole page after strong decoding. -/
def strongDecode (bytes : List Nat) : List Nat := unstrand ((List.range 16).map (fun i => rsDecode (strand bytes i))) 128

/-! ### The address map (R491 to R493) -/

def State.tableFirst (s : State) : Nat := s.get ECC.page ECC.COLL_PAGES_C
def State.tablePages (s : State) : Nat := s.get ECC.page ECC.TABLE_PAGES_T

/-- The page and data word of a 32-byte word of the table region (R493). -/
def State.tableWord (s : State) (w : Nat) : Nat × Nat := (s.tableFirst + w / 56, w % 56)

/-- The number of 32-byte words of the table region. -/
def State.tableWords (s : State) : Nat := 56 * s.tablePages

/-! ### Words of a page -/

/-- The 2,048 bytes of a page held raw. -/
def State.rawBytes (s : State) (P : Nat) : List Nat := (List.range 2048).map (fun b => s.memByte (2048 * P + b))

/-- A word of a page that is not held raw: written and not poisoned. -/
def State.cleanWord (s : State) (P w : Nat) : Option (List Nat) :=
  let k := 2048 * P + 34 * w
  if s.poisoned.contains (64 * P + w) then none
  else if (List.range 32).all (fun i => (Cells.get s.mem (k + i)).isSome) then
    some ((List.range 32).map (fun i => s.memByte (k + i)))
  else none

/-- What the light code says of a stored word. -/
def State.lightWord (s : State) (P w : Nat) : Light :=
  if s.ecc.raw.contains P then lightDecode ((List.range 34).map (fun i => s.memByte (2048 * P + 34 * w + i)))
  else match s.cleanWord P w with
    | some l => .good l
    | none => .bad

/-- What strong decoding gives for a word. -/
def State.strongWord (s : State) (P w : Nat) : Option (List Nat) :=
  if s.ecc.raw.contains P then
    match lightDecode (((strongDecode (s.rawBytes P)).drop (34 * w)).take 34) with
    | .good l | .corrected l => some l
    | .bad => none
  else s.cleanWord P w

/-- A word read by a consumer (R502 to R504): its bytes, or none where it stays uncorrectable; the channel's counters and
events. Every read of a FAILED channel is uncorrectable (R512). -/
def State.readWord (s : State) (p w : Nat) : Option (List Nat) × State :=
  let (c, P) := s.physPage p
  let b := MEM.page c
  let pg := Kind.MEM.pg c
  if s.chDown c then (none, (s.count (b + MEM.STRONG_FAIL)).raise pg MEM.ev_STRONG_FAIL)
  else match s.lightWord P w with
    | .good l => (some l, s)
    | .corrected l => (some l, s.count (b + MEM.CE_WORDS))
    | .bad =>
      let s := s.count (b + MEM.UE_WORDS)
      match s.strongWord P w with
      | some l => (some l, (s.count (b + MEM.STRONG_FIXED)).raise pg MEM.ev_STRONG_USED)
      | none => (none, (s.count (b + MEM.STRONG_FAIL)).raise pg MEM.ev_STRONG_FAIL)

/-! ### Writes (R499 to R501) -/

/-- Listing a number once, rising. -/
def addNat (x : Nat) : List Nat → List Nat
  | [] => [x]
  | y :: r => if x < y then x :: y :: r else if x = y then y :: r else y :: addNat x r

/-- Storing the data of a word of a page that is not held raw; the word is no longer poisoned. -/
def State.storeWord (s : State) (P w : Nat) (data : List Nat) : State :=
  { s with mem := putBytes s.mem (2048 * P + 34 * w) data, poisoned := s.poisoned.filter (· ≠ 64 * P + w) }

/-- A page is written whole: `words` gives each of its 56 words, or none for one to be poisoned, which counts. -/
def State.storePage (s : State) (P : Nat) (words : List (Option (List Nat))) : State :=
  let s := { s with ecc := { s.ecc with raw := s.ecc.raw.filter (· ≠ P) },
                    mem := s.mem.filter (fun e => e.1 / 2048 ≠ P || e.1 % 2048 < 1904 && decide (e.1 % 2048 % 34 < 32)) }
  each (words.zip (List.range 56)) (fun x t => match x.1 with
    | some l => t.storeWord P x.2 l
    | none => { t with poisoned := addNat (64 * P + x.2) t.poisoned }.count (ECC.page + ECC.POISONED)) s

/-- Writing words of a page held raw, with their check bits and the difference of the parity (R500). -/
def State.rawModify (s : State) (P : Nat) (words : List (Nat × List Nat)) : State :=
  each words (fun x t =>
    let k := 34 * x.1
    let old := match t.lightWord P x.1 with
      | .good l | .corrected l => l
      | .bad => x.2
    let diff := (List.range 1904).map (fun b =>
      if k ≤ b && b < k + 34 then (old ++ lightCheck old).getD (b - k) 0 ^^^ (x.2 ++ lightCheck x.2).getD (b - k) 0 else 0)
    let par := (strongParity diff).zip (List.range 144) |>.map (fun y => y.1 ^^^ t.memByte (2048 * P + 1904 + y.2))
    { t with mem := putBytes (putBytes t.mem (2048 * P + k) (x.2 ++ lightCheck x.2)) (2048 * P + 1904) par }) s

/-- A page write carried out: whole when it covers the 56 words, by the whole-page path when a word it reads is
light-uncorrectable (R501; `ue` are words that a device fault made so, `lost` those that strong decoding does not recover),
by read-modify-write otherwise. -/
def State.doWrite (s : State) (P : Nat) (words : List (Nat × List Nat)) (ue lost : List Nat) : State :=
  let covers := (List.range 56).all (fun w => words.any (fun x => x.1 = w))
  let new := fun w => (words.find? (fun x => x.1 = w)).map (·.2)
  let isBad := fun w => ue.contains w || decide (s.lightWord P w = .bad)
  let strong := fun w => if lost.contains w then none else s.strongWord P w
  if covers then s.storePage P ((List.range 56).map new)
  else if words.any (fun x => isBad x.1) then
    s.storePage P ((List.range 56).map (fun w => match new w with
      | some l => some l
      | none => if isBad w || s.ecc.raw.contains P then strong w else s.cleanWord P w))
  else if s.ecc.raw.contains P then s.rawModify P words
  else each words (fun x t => t.storeWord P x.1 x.2) s

/-! ### The destination table's cached results (R396, R398, R400) -/

/-- A lookup key: DOMAIN above the 48 address bits. -/
def lookupKey (domain mac : Nat) : Nat := domain * 2 ^ 48 + mac

/-- The hash h of a key (R396). -/
def keyHash (key : Nat) : Nat := crc32 ((List.range 8).map (fun i => bitsOf key (8 * (7 - i)) 8))

/-- The bucket of a key. -/
def keyBucket (key : Nat) : Nat := keyHash key % 262144

/-- First 32-byte word of the destination table (R396). -/
def State.dtFirst (s : State) : Nat := s.get CLS.page CLS.DT_BASE_BASE * 64

/-- A write into a 32-byte word of the table region removes the cached results of its bucket (R400). -/
def State.uncache (s : State) (w : Nat) : State :=
  if s.dtFirst ≤ w ∧ w < s.dtFirst + 4 * 262144 then
    let b := (w - s.dtFirst) / 4
    { s with cls := { s.cls with cache := s.cls.cache.filter (fun e => keyBucket e.key ≠ b) } }
  else s

/-- A page write is carried out, and where it lies in the table region the cached results it covers are removed. -/
def State.commitWrite (s : State) (p : Nat) (words : List (Nat × List Nat)) (ue lost : List Nat) : State :=
  let P := (s.physPage p).2
  let s := s.doWrite P words ue lost
  if s.tableFirst ≤ p ∧ p < s.tableFirst + s.tablePages then
    each words (fun x t => t.uncache (56 * (p - t.tableFirst) + x.1)) s
  else s

/-! ### Writes that wait or are dropped (R510, R512) -/

/-- A channel is in band OVER. -/
def State.chOver (s : State) (c : Nat) : Bool := s.get (MEM.page c) MEM.STATUS_BAND = 3

/-- A page write of the table region: dropped on a FAILED channel, held in band OVER, each of its 32-byte words counted in
DEFERRED, and carried out otherwise; the flag says that it waits. -/
def State.tableWrite (s : State) (p : Nat) (words : List (Nat × List Nat)) (who : Option (Nat × Nat × Nat)) : Bool × State :=
  let (c, _) := s.physPage p
  let defer := fun (t : State) => t.count (MEM.page c + MEM.DEFERRED) words.length
  if s.chDown c then (false, defer s)
  else if s.chOver c then
    (true, defer { s with ecc := { s.ecc with waiting := s.ecc.waiting ++
      [{ chan := c, page := p, words := words.map (fun x => (x.1, x.2.map (BitVec.ofNat 8))), who := who }] } })
  else (false, s.commitWrite p words [] [])

/-- Words from a first 32-byte word of the table region on, grouped by page. -/
def State.byPage (s : State) (w : Nat) : List (List Nat) → List (Nat × List (Nat × List Nat))
  | [] => []
  | d :: l =>
    let (p, i) := s.tableWord w
    match s.byPage (w + 1) l with
    | (q, ws) :: r => if q = p then (p, (i, d) :: ws) :: r else (p, [(i, d)]) :: (q, ws) :: r
    | [] => [(p, [(i, d)])]

/-- A run of 32-byte words written to the table region; the flag says that some of it waits. -/
def State.tableRun (s : State) (w : Nat) (data : List (List Nat)) (who : Option (Nat × Nat × Nat)) : Bool × State :=
  (s.byPage w data).foldl (fun (x : Bool × State) j => let r := x.2.tableWrite j.1 j.2 who; (x.1 || r.1, r.2)) (false, s)

/-! ### Failed channels (R511 to R513) -/

/-- Channels out of the map that stay out: mapped out by a failure or by failed training. -/
def State.stayOut (s : State) (c : Nat) : Bool :=
  s.flag (MEM.page c) MEM.STATUS_MAPPED_OUT && (s.chFailed c || !s.flag (MEM.page c) MEM.STATUS_TRAINED)

/-- The channels that leave the map at the next entry of ECC from CONFIG (R513). -/
def State.nextOut (s : State) : List Nat :=
  let named := if s.flag ECC.page ECC.MAP_OUT_EN then [s.get ECC.page ECC.MAP_OUT] else []
  let out := (List.range 16).filter (fun c => s.stayOut c || named.contains c)
  if out.isEmpty && s.flag ECC.page ECC.MAP_AUTO then (List.range 16).filter (fun c => s.chFailed c) else out

/-- Pages of a device (R491). -/
def State.devPages (s : State) (c : Nat) : Nat := if s.flag (MEM.page c) MEM.CFG_DENSITY then 1572864 else 1048576

/-- The configuration check of ECC (R492, R513). -/
def State.checkEcc (s : State) : Bool :=
  let out := s.nextOut
  let map := (List.range 16).filter (fun c => !out.contains c)
  let bad := (List.range 16).filter (fun c => out.contains c || s.chFailed c)
  let P := map.length * s.devPages (map.headD 0)
  decide (bad.length ≤ 1) && map.all (fun c => s.blk (Kind.MEM.pg c) = bACTIVE && s.devPages c = s.devPages (map.headD 0))
    && decide (s.tableFirst + s.tablePages ≤ P) && decide (s.tablePages ≤ 1797558)

/-- Marking every spilled frame unreadable: the pages it lies in are no longer where they were (R491). -/
def State.losePages (s : State) : State :=
  let lose := fun (q : Queue) => { q with frames := q.frames.map (fun f => if f.pages.isEmpty then f else { f with bad := true, pages := [] }) }
  { s with pkt := { s.pkt with pagesUsed := [], queues := s.pkt.queues.map (fun e => (e.1, lose e.2)) } }

/-- ECC enters ACTIVE from CONFIG: the map, N and P are fixed, a map-out raises MAP_CHANGED, and the repair map records a
failed channel that leaves the map (R491, R513, R606, R609). -/
def State.eccEnter (s : State) : State :=
  let out := s.nextOut
  let map := (List.range 16).filter (fun c => !out.contains c)
  let P := map.length * s.devPages (map.headD 0)
  let region := s.tableFirst + s.tablePages
  let moved := decide (s.ecc.map ≠ [] ∧ (s.ecc.map ≠ map ∨ s.ecc.region ≠ region))
  let changed := decide (s.channelMap ≠ map)
  let s := if moved then s.losePages else s
  let s := { s with ecc := { s.ecc with map := map, region := region } }
  let gone := out.filter (fun c => s.chFailed c && !s.flag (MEM.page c) MEM.STATUS_MAPPED_OUT)
  let s := each gone (fun c t => t.repair 7 1 c) s
  let s := each (List.range 16) (fun c t => t.setB (MEM.page c) MEM.STATUS_MAPPED_OUT (out.contains c)) s
  let s := s.set ECC.page ECC.MAP_CHANNELS map.length
  let s := s.set ECC.page ECC.TOTAL_PAGES_P P
  let s := s.set ECC.page ECC.BUF_FREE_PAGES (P - region - s.pkt.pagesUsed.length)
  s.raiseIf changed Kind.ECC.pages.1 ECC.ev_MAP_CHANGED

/-! ### The raw window (R514) -/

/-- A page's bytes are held raw from here on: data, check bits and parity as they stand. A page that nothing has written
keeps what the device holds. -/
def State.makeRaw (s : State) (P : Nat) : State :=
  if s.ecc.raw.contains P then s
  else
    let touched := (List.range 56).any (fun w => s.poisoned.contains (64 * P + w) || (s.cleanWord P w).isSome)
    let word := fun w =>
      let d := (List.range 32).map (fun i => s.memByte (2048 * P + 34 * w + i))
      let k := lightCheck d
      d ++ (if s.poisoned.contains (64 * P + w) then [k.headD 0 ^^^ 3, k.getLastD 0] else k)
    let body := (List.range 56).flatMap word
    let bytes := if touched then body ++ strongParity body else s.rawBytes P
    { s with mem := putBytes s.mem (2048 * P) bytes, poisoned := s.poisoned.filter (fun x => x / 64 ≠ P),
             ecc := { s.ecc with raw := addNat P s.ecc.raw } }

/-- A word of the raw page as the raw window shows it; zeros where GDDR7 serves no access or its channel is FAILED. -/
def State.rawWordRead (s : State) (i : Nat) : Nat :=
  let (c, P) := s.physPage (s.get ECC.page ECC.RAW_PAGE_PAGE)
  if !s.eccServes ∨ s.chDown c then 0
  else
    let t := s.makeRaw P
    ((List.range 4).map (fun k => t.memByte (2048 * P + 4 * i + k))).foldl (fun n b => 256 * n + b) 0

/-- A word written through the raw window. -/
def State.rawWordWrite (s : State) (i v : Nat) : WOut :=
  if !s.flag ECC.page ECC.TEST_EN then no .state s
  else
    let (c, P) := s.physPage (s.get ECC.page ECC.RAW_PAGE_PAGE)
    if !s.eccServes ∨ s.chDown c then ok s
    else
      let t := s.makeRaw P
      ok { t with mem := putBytes t.mem (2048 * P + 4 * i) ((List.range 4).map (fun k => bitsOf v (8 * (3 - k)) 8)) }

/-! ### Register ranges -/

def rangeMEM (off v : Nat) : Bool := if off = MEM.CFG then inR v MEM.CFG_RATE 28 36 else true

/-- Ranges of ECC's registers; RAW_PAGE lies in the table region (R514). -/
def State.rangeECC (s : State) (off v : Nat) : Bool :=
  if off = ECC.TABLE_PAGES then inR v ECC.TABLE_PAGES_T 0 1797558
  else if off = ECC.SCRUB_CFG then inR v ECC.SCRUB_CFG_PASS 0 3600 && inR v ECC.SCRUB_CFG_CE_TH 1 56
  else if off = ECC.RAW_PAGE then
    let p := fv v ECC.RAW_PAGE_PAGE
    decide (s.tableFirst ≤ p) && decide (p < s.tableFirst + s.tablePages)
  else true

end Sys2Proof.Machine
end

