-- ==== Sys2Proof/Machine/Nv.lean ====
section
/-!
DEFINITION. The NV store (20.1): commits, seals and home copies of a transaction, what a sealed transaction changes, what a
reset cuts short, the scrubber, and image staging.
-/
namespace Sys2Proof.Machine

/-! ### Contents of the store that registers show -/

def secPg : Nat := Kind.SEC.pages.1
def nvsPg : Nat := Kind.NVS.pages.1
def rprPg : Nat := Kind.RPR.pages.1

/-- SLOTS_FULL, KEK_VALID, KEK_TYPE, AUTH_STATUS, PEER_VALID, the field-return counter and WEAR follow the store. -/
def State.showStore (s : State) : State :=
  let b := SEC.page
  let full := ((List.range 512).filter (fun k => s.flag (SECW.SLOT k) SECW.SLOT_FULL)).length
  let s := (s.set b SEC.KS_STATUS_SLOTS_FULL full).setB b SEC.KS_STATUS_KEK_VALID s.nv.kek.isSome
  let s := s.set b SEC.KS_STATUS_KEK_TYPE (s.nv.kek.getD 0)
  let s := (s.set b SEC.AUTH_STATUS_VALID s.nv.auths).setB b SEC.AUTH_STATUS_CLAIM (s.nv.auths = 0)
  let s := (s.setNat64 (b + SEC.PEER_VALID) s.nv.peers).set b SEC.FR_STATUS_COUNT s.nv.frCount
  s.set NVS.page NVS.WEAR_PCT s.nv.wear

/-- BUSY follows the queue. -/
def State.showNv (s : State) : State := s.setB NVS.page NVS.STATUS_BUSY (!s.nv.queue.isEmpty)

def State.setQueue_ (s : State) (q : List NvTx) : State := { s with nv := { s.nv with queue := q } }.showNv

/-- A slot holds a key: FULL, TYPE, ORIGIN, USED 0, one more write (R577, R579). -/
def State.slotWrite (s : State) (k ty origin : Nat) : State :=
  let a := SECW.SLOT k
  let s := ((s.setB a SECW.SLOT_FULL true).set a SECW.SLOT_STYPE ty).set a SECW.SLOT_ORIGIN origin
  (s.setB a SECW.SLOT_USED false).bump a SECW.SLOT_WRITES

/-- A slot is EMPTY; BUSY follows the contexts and WRITES is kept. -/
def State.slotEmpty (s : State) (k : Nat) : State :=
  let a := SECW.SLOT k
  let s := ((s.setB a SECW.SLOT_FULL false).set a SECW.SLOT_STYPE 0).set a SECW.SLOT_ORIGIN 0
  s.setB a SECW.SLOT_USED false

/-- Every slot is EMPTY and there is no KEK. -/
def State.storeErased (s : State) : State :=
  let s := each (List.range 512) (fun k t => t.slotEmpty k) s
  { s with nv := { s.nv with kek := none } }.showStore

/-! ### The repair map (R606, R608, R609) -/

/-- Entries used. -/
def State.mapUsed (s : State) : Nat :=
  ((List.range 2048).filter (fun e => s.get (RPRW.MAP e) RPRW.MAP_MSTATE != 0)).length

/-- An entry is written at the first empty place with the next sequence number. -/
def State.mapPut (s : State) (w0 : Nat) : State :=
  match (List.range 2048).find? (fun e => s.get (RPRW.MAP e) RPRW.MAP_MSTATE = 0) with
  | none => s
  | some e =>
    let n := s.rpr.mapSeq + 1
    let s := (s.setNat (RPRW.MAP e) w0).setNat (RPRW.MAP e + 4) (n % 65536)
    let s := { s with rpr := { s.rpr with mapSeq := n } }
    s.set RPR.page RPR.STATUS_ENTRIES (s.get RPR.page RPR.STATUS_ENTRIES + 1)

/-! ### Opening of debug and field return (R585, R586) -/

/-- The requester of an opening that a core asked for: no response follows. -/
def coreWho : Nat := 9

/-- The steps of R585 after its transaction: CRY's keys are zeroised, the user cores halt, the response is sent and every
session closes, field return enters device safe state, and the closed TAP instructions are honoured. -/
def State.opened (s : State) (mode : Nat) : State :=
  let s := { s with nv := { s.nv with userHome := false } }.storeErased
  let fr := mode = 2
  let s := if fr then
      let s := { s with nv := { s.nv with frCount := s.nv.frCount + 1 } }.showStore
      (s.set SEC.page SEC.FR_STATUS_RESULT 1).raise nvsPg NVS.ev_COLOPHON_UPDATED
    else s
  let s := (s.cryErase).haltUsers 3 0
  let s := match s.sec.opening with
    | some (_, slot, tag) => if slot = coreWho then s else (s.unblock slot).answer slot tag { status := 0 }
    | none => s
  let s := each (List.range 8) (fun i t => t.closeSession i) s
  let s := { s with sec := { s.sec with opening := none, granted := false } }.endLeave 6 2
  let s := if fr then s.enterSafe secPg SEC.ev_FR_ENTERED else s
  let s := s.set SEC.page SEC.DEBUG_STATE mode
  (s.raise secPg SEC.ev_SECRETS_ERASED).raise secPg (if fr then SEC.ev_FR_ENTERED else SEC.ev_DEBUG_OPENED)

/-! ### Seals and home copies (R568) -/

/-- Words written to a window entry, zeros after them. -/
def State.putEntry (s : State) (a n : Nat) (l : List Word) : State :=
  s.setWords a ((List.range n).map (fun i => (l.getD i 0).toNat))

/-- What a transaction changes once it is sealed. -/
def State.nvSeal (s : State) : NvOp → State
  | .mapEntry w =>
    let s := { s with rpr := { s.rpr with mapPending := s.rpr.mapPending - 1 } }.mapPut w
    (s.raise rprPg RPR.ev_MAP_WRITTEN).raise nvsPg NVS.ev_REPAIR_MAP_UPDATED
  | .mapCleared e =>
    let s := s.set (RPRW.MAP e) RPRW.MAP_MSTATE 3
    (s.raise rprPg RPR.ev_ENTRY_CLEARED).raise nvsPg NVS.ev_REPAIR_MAP_UPDATED
  | .image ty =>
    if ty = 2 then { s with nv := { s.nv with userHome := true } }
    else if ty = 3 then { s with nv := { s.nv with board := some s.nv.newBoard } }
    else s
  | .authority i (some key) slot =>
    let first := s.nv.auths = 0
    let s := (({ s with nv := { s.nv with auths := setBit s.nv.auths i } } : State).putEntry (SECW.AUTH i) 16 key).showStore
    let s := if first then
        let s := each ((List.range 8).filter (fun j => j != slot && (s.session j).claim)) (fun j t => t.closeSession j) s
        s.setSession slot { s.session slot with claim := false }
      else s
    s.raise secPg SEC.ev_AUTHORITY_ADDED
  | .authority i none _ =>
    let s := (({ s with nv := { s.nv with auths := clrBit s.nv.auths i } } : State).putEntry (SECW.AUTH i) 16 []).showStore
    s.raise secPg SEC.ev_AUTHORITY_REMOVED
  | .peer i e =>
    let v := if e.isSome then setBit s.nv.peers i else clrBit s.nv.peers i
    let s := ({ s with nv := { s.nv with peers := v } } : State).putEntry (SECW.PEER i) 32 (e.getD [])
    s.showStore.raise secPg SEC.ev_PEER_CHANGED
  | .key k ty => { (s.slotWrite k ty 0).showStore with sec := { s.sec with ksTx := 2 } }
  | .kek ty =>
    let s := { s with nv := { s.nv with kek := some ty } }.showStore
    { s with sec := { s.sec with ksTx := 2 } }
  | .slotClear k => { (s.slotEmpty k).showStore with sec := { s.sec with ksTx := 2 } }
  | .agreed _ tx rx ty =>
    let s := ((s.slotWrite tx ty 1).slotWrite rx ty 1).showStore
    { s with agree := { s.agree with stored := true } }.raise secPg SEC.ev_KEY_WRITTEN
  | .usedKey k => s.setB (SECW.SLOT k) SECW.SLOT_USED true
  | .erase => s.storeErased.raise secPg SEC.ev_KEYSTORE_ERASED
  | .secrets mode => s.opened mode

/-- What follows when a transaction has been copied home. -/
def State.nvHome (s : State) : NvOp → State
  | .image ty => (s.raise nvsPg NVS.ev_IMAGE_INSTALLED).raiseIf (ty = 3) nvsPg NVS.ev_BOARD_RECORD_UPDATED
  | _ => s

/-- The storage-key destruction goes next after the commit in progress (R569). -/
def nvNext : List NvTx → List NvTx
  | x :: y :: r => if y.op = .erase ∧ x.op ≠ .erase then y :: x :: r else x :: y :: r
  | l => l

/-- One commit of the transaction in progress completes (R568). -/
def State.nvCommit (s : State) : State :=
  match s.nv.queue with
  | [] => s
  | x :: r =>
    let s := s.count64 (NVS.page + NVS.COMMITS) 1
    if !x.sealed then
      if x.done < x.commits then s.setQueue_ (nvNext ({ x with done := x.done + 1 } :: r))
      else
        let s := s.setQueue_ ({ x with done := 0, sealed := true } :: r)
        (s.nvSeal x.op).showNv
    else if x.done + 1 < x.commits then s.setQueue_ (nvNext ({ x with done := x.done + 1 } :: r))
    else (s.setQueue_ r).nvHome x.op

/-- A transaction cut short is counted and reported (R569). -/
def State.nvAbandoned (s : State) : State :=
  (s.count (NVS.page + NVS.ABANDONED)).raise nvsPg NVS.ev_COMMIT_ABANDONED

/-- A 64-byte commit ends: one that fails read-back is retried. In thermal shutdown the commit in progress is the last, but for
the guard's storage-key destruction: a transaction not yet sealed is abandoned, a sealed one stays in the journal (R568 to
R570, R582). -/
def State.nvCommitEnds (s : State) (readBack : Bool) (wear : Nat) : State :=
  if !readBack then (s.count (NVS.page + NVS.WRITE_FAILS)).raise nvsPg NVS.ev_WRITE_FAIL
  else
    let warn := decide (80 ≤ wear) && decide (s.nv.wear < 80)
    let s := { s with nv := { s.nv with wear := max s.nv.wear wear } }
    let s := (s.set NVS.page NVS.WEAR_PCT s.nv.wear).raiseIf warn nvsPg NVS.ev_WEAR_WARN
    let s := s.nvCommit.sweepSealed
    if !s.boot.shutdown then s
    else match s.nv.queue with
      | [] => s
      | x :: r =>
        if x.op = .erase then s
        else
          let s := if !x.sealed && decide (0 < x.done) then s.nvAbandoned else s
          let s := { s with nv := { s.nv with sealedLeft := s.nv.sealedLeft || x.sealed } }
          s.setQueue_ (r.filter (fun (y : NvTx) => y.op = .erase))

/-- NV_SCRUB_PASS: the scrubber has read the store: blocks corrected, whether one was corrected twice, and the uncorrectable
blocks by their owners: key slots, the user firmware, others (R570). -/
def execNvScrubPass (corrected : Nat) (twice : Bool) (slots : List (Fin 512)) (user : Bool) (others : Nat) (s : State) :
    Host.Outcome State Fault Refusal :=
  act s fun s =>
    let hours := s.get NVS.page NVS.SCRUB_CFG_HOURS
    if hours = 0 ∨ s.now < s.nv.scrubAt + hours * (3600 * nsSec) then s
    else
      let s := { s with nv := { s.nv with scrubAt := s.now } }
      let bad := slots.length + b2n user + others
      let s := (s.count (NVS.page + NVS.ECC_CORR) corrected).count (NVS.page + NVS.ECC_UNCORR) bad
      let s := s.raiseIf (corrected != 0) nvsPg NVS.ev_ECC_CORRECTED
      let s := s.raiseIf (bad != 0) nvsPg NVS.ev_ECC_UNCORRECTABLE
      let s := s.raiseIf twice nvsPg NVS.ev_RETENTION_WEAK
      let s := (each slots (fun k t => t.slotEmpty k) s).showStore
      let s := if user then { s with nv := { s.nv with userHome := false } } else s
      s.raise nvsPg NVS.ev_SCRUB_DONE

/-! ### What a reset leaves (R37, R569) -/

/-- The store at the entry to a reset: the commit in progress completes if the rails hold, and the journal keeps what it
holds. The staging area of images is empty after it (DESIGN CHOICE, log 129). -/
def State.nvCut (s : State) (finish : Bool) : State :=
  let s := if finish then s.nvCommit else s
  let x := s.nv.queue.head?
  { s with nv := { s.nv with
      queue := [], staged := [], verifying := false
      sealedLeft := s.nv.sealedLeft || (x.map (·.sealed)).getD false
      unsealedLeft := s.nv.unsealedLeft || (x.map (fun y => !y.sealed && decide (0 < y.done))).getD false } }

/-- JOURNAL_REPLAY: a sealed transaction is applied again, an unsealed one discarded (R568). What the sealed one changes is
in place, since its effect is applied with its seal. -/
def State.journalReplay (s : State) : State :=
  let b := NVS.page
  let s := if s.nv.sealedLeft then (s.setB b NVS.STATUS_REPLAYED true).raise nvsPg NVS.ev_JOURNAL_REPLAYED else s
  let s := if s.nv.unsealedLeft then
      ((s.setB b NVS.STATUS_DISCARDED true).raise nvsPg NVS.ev_JOURNAL_DISCARDED).nvAbandoned else s
  { s with nv := { s.nv with sealedLeft := false, unsealedLeft := false } }

end Sys2Proof.Machine
end

