-- ==== Sys2Proof/Machine/Cpu.lean ====
section
/-!
DEFINITION. The control cores (chapter 21): firmware replacement, watchdogs, user cores, counters and samples. The cores'
programs are outside the model: what they do arrives as commands.
-/
namespace Sys2Proof.Machine

/-- FW_STATUS.SVC_STATE (Table 21-5). -/
def svRUNNING : Nat := 0
def svQUIESCING : Nat := 1
def svRESTARTING : Nat := 2

def cpuPg : Nat := Kind.CPU.pages.1
def State.svcState (s : State) : Nat := s.get CPU.page CPU.FW_STATUS_SVC_STATE

/-- A core halts with a cause. -/
def State.haltCore (s : State) (c cause : Nat) : State :=
  (s.set CPU.page (CPU.CORE_STATUS_STATE c) 1).set CPU.page (CPU.CORE_STATUS_HALT_CAUSE c) cause

/-- A core runs, or is GATED while the cores are gated. -/
def State.runCore (s : State) (c : Nat) : State :=
  let gated := s.flag PWR.page PWR.DROOP_STATUS_CORES_GATED
  (s.set CPU.page (CPU.CORE_STATUS_STATE c) (if gated then 2 else 0)).set CPU.page (CPU.CORE_STATUS_HALT_CAUSE c) 0

/-- The service cores are halted and a restart of a kind runs from t_h (Table 21-1). -/
def State.svcRestart (s : State) (kind : Nat) : State :=
  let s := each [0, 1, 2, 3] (fun c t => t.haltCore c 5) s
  { s with cpu := { s.cpu with restart := kind, haltAt := s.now } }.set CPU.page CPU.FW_STATUS_SVC_STATE svRESTARTING

/-- FW_QUIESCE_DONE: no exchange is in progress any more, the service cores are halted (R591). -/
def execFwQuiesceDone (s : State) : Host.Outcome State Fault Refusal :=
  act s fun s => if s.svcState ≠ svQUIESCING ∨ s.agree.on then s else s.svcRestart 1

/-- FW_RUNNING_REPORT: the firmware started reports running. After a replacement its image is written home as one NV
transaction; after a return to the home image the running firmware is the resident one (R591, R593). -/
def execFwRunningReport (version : BitVec 16) (s : State) : Host.Outcome State Fault Refusal :=
  act s fun s =>
    if s.svcState ≠ svRESTARTING then s
    else
      let b := CPU.page
      let s := (s.set b CPU.FW_STATUS_SVC_STATE svRUNNING).set b CPU.FW_STATUS_VERSION version.toNat
      let s := s.set b CPU.LAST_RESTART_MS_MS (min 4095 ((s.now - s.cpu.haltAt) / nsMs))
      let s := each [0, 1, 2, 3] (fun c t => t.runCore c) s
      let new := s.cpu.restart = 1
      let s := { s with cpu := { s.cpu with restart := 0, haltAt := 0 } }
      if new then
        let s := (s.raise cpuPg CPU.ev_FW_REPLACE_DONE).nvRequest (.image 1) 64
        s.set SYS.page SYS.BOOT_STATUS_SOURCE 2
      else s.set SYS.page SYS.BOOT_STATUS_SOURCE 1

/-- FW_REPLACE_TIMEOUT: the new firmware has not reported running by t_h + 2 s: the previous image starts from its home region,
t_h stays (R593). -/
def execFwReplaceTimeout (s : State) : Host.Outcome State Fault Refusal :=
  act s fun s =>
    if s.svcState ≠ svRESTARTING ∨ s.cpu.restart ≠ 1 ∨ s.now < s.cpu.haltAt + 2 * nsSec then s
    else { s with cpu := { s.cpu with restart := 2 } }.raise cpuPg CPU.ev_FW_REPLACE_FAIL

/-- A core executes now: the service cores once firmware runs, the user cores while USER_STATE is RUNNING. -/
def State.coreRuns (s : State) (c : Nat) : Bool :=
  s.get CPU.page (CPU.CORE_STATUS_STATE c) = 0
    && (if c < 4 then s.boot.fwStarted && s.svcState != svRESTARTING else s.get CPU.page CPU.FW_STATUS_USER_STATE = 2)

/-- CORE_WATCHDOG: a core's watchdog expires. A service core's restarts all four from the home image without a checkpoint; a
user core's halts the user cores and fails them (R594, R596). -/
def execCoreWatchdog (core : Fin 8) (s : State) : Host.Outcome State Fault Refusal :=
  act s fun s =>
    let c := core.val
    if !s.boot.fwStarted ∨ (c < 4 ∧ s.svcState = svRESTARTING) ∨ (4 ≤ c ∧ s.get CPU.page CPU.FW_STATUS_USER_STATE ≠ 2) then s
    else
      let s := s.raise cpuPg (CPU.ev_WATCHDOG c)
      if c < 4 then
        let s := (s.svcRestart 2).haltCore c 4
        s.count (CPU.page + CPU.RESTARTS)
      else s.haltUsers 4 3

/-- CORE_EXCEPTION: a fatal trap halts a core; the causes of HALT_CAUSE list none for it, so the cause is free (R604). -/
def execCoreException (core : Fin 8) (s : State) : Host.Outcome State Fault Refusal :=
  act s fun s =>
    let c := core.val
    if !s.coreRuns c then s
    else ((s.haltCore c s.freeVal).nextFree).raise cpuPg (CPU.ev_CORE_EXCEPTION c)

/-- A write of CTRL: USER_EN rising after READY verifies and starts the user cores, falling halts them; FREEZE_ALL stops the
counters (R595, R602). -/
def State.cpuCtrl (s : State) (v : Nat) : WOut :=
  let b := CPU.page
  let on := fb v CPU.CTRL_USER_EN
  let was := s.flag b CPU.CTRL_USER_EN
  if on && !s.ready then no .state s
  else
    let s := s.setNat (b + CPU.CTRL) v
    ok (if on && !was && s.active cpuPg then s.set b CPU.FW_STATUS_USER_STATE 1
      else if !on && was then s.haltUsers 1 0 else s)

/-- USER_VERIFY_DONE: the verification of the user image from its home region ends (R595). -/
def execUserVerifyDone (good : Bool) (s : State) : Host.Outcome State Fault Refusal :=
  act s fun s =>
    let b := CPU.page
    if s.get b CPU.FW_STATUS_USER_STATE ≠ 1 then s
    else if good && s.nv.userHome then
      let s := each [4, 5, 6, 7] (fun c t => t.runCore c) s
      (s.set b CPU.FW_STATUS_USER_STATE 2).raise cpuPg CPU.ev_USER_STARTED
    else (s.set b CPU.FW_STATUS_USER_STATE 3).raise cpuPg CPU.ev_USER_FW_FAIL

/-! ### Counters (R599 to R602) -/

/-- CMD.CLEAR of one core: its 14 counters are 0. -/
def State.pmuClear (s : State) (c : Nat) : State := s.setWords (CPU.page + CPU.CYCLES c) (List.replicate 28 0)

/-- A write of CMD (R602). -/
def State.cpuCmd (s : State) (v : Nat) : State :=
  if !fb v CPU.CMD_CLEAR then s
  else if fb v CPU.CMD_ALL then each (List.range 8) (fun c t => t.pmuClear c) s
  else s.pmuClear (fv v CPU.CMD_CORE)

/-- PMU_SAMPLE: the counters named that have counted SAMPLE_PERIOD events since their last sample, or since the enable, take one;
the address that SAMPLE_PC captures comes with the command (R601). -/
def execPmuSample (core : Fin 8) (counters : BitVec 8) (pc : BitVec 64) (s : State) : Host.Outcome State Fault Refusal :=
  act s fun s =>
    let b := CPU.page
    let c := core.val
    let period := s.get b (CPU.SAMPLE_PERIOD_EVENTS c)
    let on := (List.range 8).filter (fun k => bitOf counters.toNat k && bitOf (s.get b (CPU.PMU_CTRL_SAMPLE_EN c)) k
      && bitOf (s.get b (CPU.PMU_CTRL_EN c)) (2 + k)
      && decide (period ≤ Tab.get (fun _ => 0) s.cpu.sinceSample (8 * c + k)))
    if on.isEmpty ∨ !s.coreRuns c ∨ s.flag b CPU.CTRL_FREEZE_ALL then s
    else
      let left := on.foldl (fun (t : Tab Nat) k =>
        Tab.put (fun _ => 0) t (8 * c + k) (Tab.get (fun _ => 0) t (8 * c + k) - period)) s.cpu.sinceSample
      let s := { s with cpu := { s.cpu with sinceSample := left } }
      let s := (s.setNat64 (b + CPU.SAMPLE_PC c) pc.toNat).count (b + CPU.SAMPLE_COUNT c) on.length
      s.raise cpuPg (CPU.ev_PMU_SAMPLE c)

/-- What event `e` counts over `cyc` cycles with `ret` instructions retired and the empty slots by cause (Table 21-3); other
listed events are free, unlisted numbers count 0. -/
def hpmCount (e cyc ret free : Nat) (cause : List Nat) : Nat :=
  if e = 1 then cyc
  else if e = 2 then ret
  else if 0x70 ≤ e ∧ e ≤ 0x74 then cause.getD (e - 0x70) 0
  else if e ∈ [0x10, 0x11, 0x20, 0x21, 0x22, 0x30, 0x31, 0x32, 0x40, 0x41, 0x50, 0x51] then free % (2 * cyc + 1)
  else 0

/-- A running core counts `cyc` cycles: the split of its 2 × cyc issue slots into the four classes, and of the empty slots by
cause, are free values that add up as R600 says. -/
def State.coreTick (s : State) (cyc c : Nat) : State :=
  let b := CPU.page
  if !s.coreRuns c ∨ s.flag b CPU.CTRL_FREEZE_ALL then s
  else
    let en := s.get b (CPU.PMU_CTRL_EN c)
    let f := fun i m => Config.freeNat (s.freeCtr + i) % (m + 1)
    let ret := f 0 (2 * cyc)
    let flu := f 1 (2 * cyc - ret)
    let nof := f 2 (2 * cyc - ret - flu)
    let blk := 2 * cyc - ret - flu - nof
    let b0 := f 3 blk
    let b1 := f 4 (blk - b0)
    let b2 := f 5 (blk - b0 - b1)
    let n0 := f 6 nof
    let n1 := f 7 (nof - n0)
    let causes := [b0, b1, b2, n0, n1]
    let free := fun k => Config.freeNat (s.freeCtr + 8 + k)
    let s := { s with freeCtr := s.freeCtr + 16 }
    let s := if bitOf en 0 then s.count64 (b + CPU.CYCLES c) cyc else s
    let s := if bitOf en 1 then s.count64 (b + CPU.INSTRET c) ret else s
    let s := each (List.range 8) (fun k t =>
      if bitOf en (2 + k) then t.hpmAdd c k (hpmCount (t.get b (CPU.EVTSEL_EVENT c k)) cyc ret (free k) causes) else t) s
    if !s.flag b (CPU.PMU_CTRL_SL_EN c) then s
    else
      let s := (s.count64 (b + CPU.SL_RETIRED c) ret).count64 (b + CPU.SL_FLUSHED c) flu
      (s.count64 (b + CPU.SL_NO_FETCH c) nof).count64 (b + CPU.SL_BLOCKED c) blk

/-! ### Register writes -/

/-- Field ranges of Table 21-5. -/
def rangeCPU (off v : Nat) : Bool :=
  if off = CPU.WDOG_CFG then inR v CPU.WDOG_CFG_TIMEOUT_MS 10 10000
  else if 0x200 ≤ off && off % 0x100 = 8 then 1000 ≤ v
  else true

/-- A write of a core's PMU_CTRL: a counter whose SAMPLE_EN rises counts to its first sample from here (R601). -/
def State.pmuCtrl (s : State) (off v : Nat) : State :=
  let c := (off - 0x200) / 0x100
  let new_ := (List.range 8).filter (fun k => bitOf v (16 + k) && !bitOf (s.get CPU.page (CPU.PMU_CTRL_SAMPLE_EN c)) k)
  let t := new_.foldl (fun (t : Tab Nat) k => Tab.put (fun _ => 0) t (8 * c + k) 0) s.cpu.sinceSample
  { s with cpu := { s.cpu with sinceSample := t } }.setNat (CPU.page + off) v

/-- A write that reaches CPU's registers. -/
def wrCPU (off v : Nat) (s : State) : WOut :=
  if off = CPU.CTRL then s.cpuCtrl v
  else if off = CPU.CMD then ok (s.cpuCmd v)
  else if 0x200 ≤ off && off % 0x100 = 4 then ok (s.pmuCtrl off v)
  else ok (s.setNat (CPU.page + off) v)

end Sys2Proof.Machine
end

