-- ==== Sys2Proof/Machine/Hka.lean ====
section
/-!
DEFINITION. The housekeeping converter (chapter 18): the scan and tip-in sequences, their triggers, a kept result, and
self-calibration.
-/
namespace Sys2Proof.Machine

/-- STATUS.STATE (Table 18-5). -/
def hkIDLE : Nat := 0
def hkSCAN : Nat := 1
def hkTIP : Nat := 2
def hkCAL : Nat := 3

def State.hkState (s : State) : Nat := s.get HKA.page HKA.STATUS_STATE
def State.hkFlag (s : State) (f : Fld) : Bool := s.flag HKA.page f

/-- PAUSED_SHED follows: a shed holds the scan sequence back (R547). -/
def State.hkPaused (s : State) : State :=
  s.setB HKA.page HKA.STATUS_PAUSED_SHED
    (s.shed && (s.hkFlag HKA.STATUS_SCAN_INTERRUPTED || s.hkFlag HKA.STATUS_SCAN_PENDING))

/-- An entry begins: a change of channel, gain, OSR or low-power mode against the last conversion brings the discards of
R542; the first conversion counts as a change (R542, R549). -/
def State.hkBegin (s : State) (w : Nat) : State :=
  let now_ := (w % 2 ^ 28, s.hkFlag HKA.CTRL_LP)
  { s with hka := { s.hka with last := some now_, changed := decide (s.hka.last ≠ some now_), at_ := s.now } }

/-- An output period t_o = OSR / f_mod of settings as `HkaState.last` holds them, in ns (R540, R549). -/
def hkPeriod (x : Nat × Bool) : Nat := bitsOf x.1 16 9 * (250 * nsUs) * (if x.2 then 4 else 1)

/-- How long the entry that converts lasts, in ns: (4 + WAIT) × t_o after a change and t_o otherwise (R542). -/
def State.hkEntryNs (s : State) (w : Nat) : Nat :=
  (if s.hka.changed then 4 + bitsOf w 28 4 else 1) * hkPeriod (s.hka.last.getD (0, false))

/-- The settings of a self-calibration on a channel: the OSR of scan entry 0 and G = 1 (R549). -/
def State.hkCalSet (s : State) (ch : Nat) : Nat × Bool :=
  (withBits (withBits (s.nat (HKA.page + HKA.SCAN_ENTRY 0) % 2 ^ 28) 8 3 0) 0 5 ch, s.hkFlag HKA.CTRL_LP)

/-- VALID clears in every result word of a sequence that starts (R544). -/
def State.hkClear (s : State) (result : Nat → Nat) (len : Nat) : State :=
  each (List.range len) (fun i t => t.setB HKA.page ⟨result i, 24, 1⟩ false) s

/-- The scan sequence starts at its first entry. -/
def State.scanStart (s : State) : State :=
  let b := HKA.page
  let s := s.hkClear HKA.SCAN_RESULT (s.get b HKA.SEQ_LEN_SCAN_LEN)
  let s := (s.set b HKA.STATUS_STATE hkSCAN).set b HKA.STATUS_SCAN_ENTRY 0
  let s := (s.setB b HKA.STATUS_SCAN_INTERRUPTED false).setB b HKA.STATUS_SCAN_PENDING false
  (s.hkBegin (s.nat (b + HKA.SCAN_ENTRY 0))).hkPaused

/-- The tip-in sequence starts. -/
def State.tipStart (s : State) : State :=
  let b := HKA.page
  let s := s.hkClear HKA.TIP_RESULT (s.get b HKA.SEQ_LEN_TIP_LEN)
  let s := (s.set b HKA.STATUS_STATE hkTIP).set b HKA.STATUS_TIP_ENTRY 0
  (s.hkBegin (s.nat (b + HKA.TIP_ENTRY 0))).hkPaused

/-- What follows when the converter falls idle: a queued tip-in trigger, the interrupted scan, a pending scan trigger; a
shed holds the scan back (R547). -/
def State.hkNext (s : State) : State :=
  let b := HKA.page
  let s := s.set b HKA.STATUS_STATE hkIDLE
  if s.hkFlag HKA.STATUS_TIP_QUEUED then (s.setB b HKA.STATUS_TIP_QUEUED false).tipStart
  else if s.shed then s.hkPaused
  else if s.hkFlag HKA.STATUS_SCAN_INTERRUPTED then
    let s := (s.set b HKA.STATUS_STATE hkSCAN).setB b HKA.STATUS_SCAN_INTERRUPTED false
    (s.hkBegin (s.nat (b + HKA.SCAN_ENTRY (s.get b HKA.STATUS_SCAN_ENTRY)))).hkPaused
  else if s.hkFlag HKA.STATUS_SCAN_PENDING then s.scanStart
  else s.hkPaused

/-- HKA acts on triggers while ACTIVE (R545). -/
def State.hkActive (s : State) : Bool := s.active Kind.HKA.pages.1

/-- A scan trigger that is ignored. -/
def State.scanOverrun (s : State) : State :=
  (s.count (HKA.page + HKA.SCAN_OVERRUNS)).raise Kind.HKA.pages.1 HKA.ev_SCAN_OVERRUN

/-- A scan trigger (Table 18-3); during a shed with nothing converting it is held pending (R547). -/
def State.scanTrigger (s : State) : State :=
  if !s.hkActive then s
  else if s.hkState = hkCAL then s.count (HKA.page + HKA.SCAN_OVERRUNS)
  else if s.hkState = hkSCAN || s.hkFlag HKA.STATUS_SCAN_INTERRUPTED || s.hkFlag HKA.STATUS_SCAN_PENDING then s.scanOverrun
  else if s.hkState = hkTIP || s.shed then (s.setB HKA.page HKA.STATUS_SCAN_PENDING true).hkPaused
  else s.scanStart

/-- A tip-in trigger with its sources, as bits of TIP_CAUSE (Table 18-3); one that is ignored records nothing. -/
def State.tipTrigger (s : State) (cause : Nat) : State :=
  if !s.hkActive || cause = 0 then s
  else
    let b := HKA.page
    if s.hkState = hkTIP && s.hkFlag HKA.STATUS_TIP_QUEUED then
      (s.count (b + HKA.TIP_OVERRUNS)).raise Kind.HKA.pages.1 HKA.ev_TIP_OVERRUN
    else
      let s := (s.setNat (b + HKA.TIP_CAUSE) cause).setNat64 (b + HKA.TIP_TIME) s.dtime
      if s.hkState = hkTIP then s.setB b HKA.STATUS_TIP_QUEUED true
      else
        let s := if s.hkState = hkSCAN then s.setB b HKA.STATUS_SCAN_INTERRUPTED true else s
        let s := s.raiseIf (s.hkState = hkCAL) Kind.HKA.pages.1 HKA.ev_CAL_ABORTED
        let two := s.hka.last.map (fun (x : Nat × Bool) => (withBits x.1 0 5 17, x.2))
        let s := if s.hkState = hkCAL && decide (s.hka.at_ + 6 * hkPeriod (s.hka.last.getD (0, false)) ≤ s.now) then
            { s with hka := { s.hka with last := two } } else s
        s.tipStart

/-- The end of a droop shed: the scan sequence goes on (R531, R547). -/
def State.hkShedEnd (s : State) : State :=
  if s.hkState = hkIDLE && s.hkActive then s.hkNext else s.hkPaused

/-- SCAN_TIMER_TICK: a tick of the scan timer, every PERIOD × 100 µs while TIMER_EN = 1 (R545). -/
def execScanTimerTick (s : State) : Host.Outcome State Fault Refusal :=
  act s fun s =>
    if s.hkFlag HKA.CTRL_TIMER_EN && decide (s.hka.tick + s.get HKA.page HKA.TIMER_PERIOD * (100 * nsUs) ≤ s.now) then
      { s with hka := { s.hka with tick := s.now } }.scanTrigger
    else s

/-- TIP_IN_TRIGGER: the sources of one cycle; guard and pin count when enabled (R545, R546). -/
def execTipInTrigger (droop guard pin : Bool) (s : State) : Host.Outcome State Fault Refusal :=
  act s fun s =>
    s.tipTrigger (b2n droop + 2 * b2n (guard && s.hkFlag HKA.CTRL_GUARD_TRIG_EN)
      + 4 * b2n (pin && s.hkFlag HKA.CTRL_PIN_TRIG_EN))

/-- The modulator sees half of a rail's voltage, and the whole of the other quantities (Table 18-2). -/
def hkHalves (ch : Nat) : Bool := ch ≤ 10 || (18 ≤ ch && ch ≤ 23)

/-- A voltage of an entry's channel in nV, and its gain: the numerator and denominator of G × V_in / 1.25 V (R540, R541, R543). -/
def hkInput (w : Nat) (v : Int) : Int × Nat := (2 ^ bitsOf w 8 3 * v, 1250000000 * (if hkHalves (bitsOf w 0 5) then 2 else 1))

/-- The raw code of the voltage of an entry's channel (R543). -/
def hkRaw (w : Nat) (v : Int) : Int := divRound (2 ^ 23 * (hkInput w v).1) (hkInput w v).2

/-- The modulator overloads: |G × V_in| exceeds 1.25 V (R543). -/
def hkOver (w : Nat) (v : Int) : Bool := decide ((hkInput w v).2 < (hkInput w v).1.natAbs)

/-- The result of a raw code (R543). -/
def State.hkValue (s : State) (raw : Int) : Int :=
  clampI (2 ^ 23 - 1)
    (divRound ((raw - s.getI HKA.page HKA.CAL_OFFSET_OFFSET) * (s.get HKA.page HKA.CAL_GAIN_GAIN : Nat)) (2 ^ 22))

/-- A kept result is written (R544). -/
def State.hkKeep (s : State) (a : Nat) (raw : Int) (overload : Bool) : State :=
  let b := HKA.page
  let s := s.setI b ⟨a, 0, 24⟩ (s.hkValue raw)
  let s := ((s.setB b ⟨a, 24, 1⟩ (!overload)).setB b ⟨a, 25, 1⟩ s.hka.changed).setB b ⟨a, 26, 1⟩ overload
  let s := s.set b ⟨a, 28, 4⟩ (s.get b ⟨a, 28, 4⟩ + 1)
  s.raiseIf overload Kind.HKA.pages.1 HKA.ev_OVERLOAD

/-- HKA_ENTRY_DONE: when the time of the entry in progress is over, it keeps the result of the voltage `v` of its channel, in nV,
whose largest magnitude in the kept period was `peak`, and its sequence moves on or completes; in DRAIN nothing new starts (R71,
R542, R544, R547). -/
def execHkaEntryDone (v : Int) (peak : Nat) (s : State) : Host.Outcome State Fault Refusal :=
  act s fun s =>
    let b := HKA.page
    let w := s.nat (b + (if s.hkState = hkSCAN then HKA.SCAN_ENTRY (s.get b HKA.STATUS_SCAN_ENTRY)
      else HKA.TIP_ENTRY (s.get b HKA.STATUS_TIP_ENTRY)))
    let raw := hkRaw w v
    let overload := hkOver w v || hkOver w peak
    if s.now < s.hka.at_ + s.hkEntryNs w then s
    else if s.hkState = hkSCAN then
      let i := s.get b HKA.STATUS_SCAN_ENTRY
      let s := s.hkKeep (HKA.SCAN_RESULT i) raw overload
      if s.get b HKA.SEQ_LEN_SCAN_LEN ≤ i + 1 then (s.raise Kind.HKA.pages.1 HKA.ev_SCAN_DONE).hkNext
      else if !s.hkActive then s.set b HKA.STATUS_STATE hkIDLE
      else (s.set b HKA.STATUS_SCAN_ENTRY (i + 1)).hkBegin (s.nat (b + HKA.SCAN_ENTRY (i + 1)))
    else if s.hkState = hkTIP then
      let i := s.get b HKA.STATUS_TIP_ENTRY
      let s := s.hkKeep (HKA.TIP_RESULT i) raw overload
      if s.get b HKA.SEQ_LEN_TIP_LEN ≤ i + 1 then
        let s := s.raise Kind.HKA.pages.1 HKA.ev_TIP_DONE
        if s.hkActive then s.hkNext else s.set b HKA.STATUS_STATE hkIDLE
      else if !s.hkActive then s.set b HKA.STATUS_STATE hkIDLE
      else (s.set b HKA.STATUS_TIP_ENTRY (i + 1)).hkBegin (s.nat (b + HKA.TIP_ENTRY (i + 1)))
    else s

/-- CMD.SCAN_STOP: the scan sequence ends, running or interrupted, and a pending trigger clears (R548). -/
def State.scanStop (s : State) : State :=
  let b := HKA.page
  let s := if s.hkState = hkSCAN then s.set b HKA.STATUS_STATE hkIDLE else s
  ((s.setB b HKA.STATUS_SCAN_INTERRUPTED false).setB b HKA.STATUS_SCAN_PENDING false).hkPaused

/-- A sequence runs, waits interrupted, waits pending or waits in the queue. -/
def State.hkBusy (s : State) : Bool :=
  s.hkState = hkSCAN || s.hkState = hkTIP || s.hkFlag HKA.STATUS_SCAN_INTERRUPTED || s.hkFlag HKA.STATUS_SCAN_PENDING
    || s.hkFlag HKA.STATUS_TIP_QUEUED

/-- CMD.CAL: a self-calibration starts (R549). -/
def State.hkCal (s : State) : State :=
  if !s.hkActive then s
  else { s with hka := { s.hka with last := some (s.hkCalSet 16), at_ := s.now } }.set HKA.page HKA.STATUS_STATE hkCAL

/-- HKA_CAL_DONE: after 13 × t_o the two phases end with the sums of the three results of channel 16 and the four of channel 17; the
factors are set, or kept with CAL_FAIL (R549). -/
def execHkaCalDone (zeroSum : Int) (refSum : Int) (s : State) : Host.Outcome State Fault Refusal :=
  act s fun s =>
    if s.hkState ≠ hkCAL ∨ s.now < s.hka.at_ + 13 * hkPeriod (s.hka.last.getD (0, false)) then s
    else
      let b := HKA.page
      let off := divRound zeroSum 3
      let d := refSum - 4 * off
      let g := if d ≤ 0 then 0 else divRound (2 ^ 22 * 6710886 * 4) d.toNat
      let good := decide (off.natAbs ≤ 65536) && decide (95 * 2 ^ 22 ≤ 100 * g) && decide (100 * g ≤ 105 * 2 ^ 22)
      let s := { s with hka := { s.hka with last := s.hka.last.map (fun (x : Nat × Bool) => (withBits x.1 0 5 17, x.2)) } }
      let s := s.set b HKA.STATUS_STATE hkIDLE
      if good then
        let s := (s.setI b HKA.CAL_OFFSET_OFFSET off).set b HKA.CAL_GAIN_GAIN g.toNat
        (s.setB b HKA.STATUS_CAL_VALID true).raise Kind.HKA.pages.1 HKA.ev_CAL_DONE
      else s.raise Kind.HKA.pages.1 HKA.ev_CAL_FAIL

/-! ### Register writes of HKA -/

/-- Field ranges of Table 18-5. -/
def rangeHKA (off v : Nat) : Bool :=
  if off = HKA.TIMER then inR v HKA.TIMER_PERIOD 1 65535
  else if off = HKA.SEQ_LEN then inR v HKA.SEQ_LEN_SCAN_LEN 1 16 && inR v HKA.SEQ_LEN_TIP_LEN 1 4
  else if 0x140 ≤ off && off < 0x190 then bitsOf v 8 3 ≤ 4 && (decide (1 ≤ bitsOf v 16 9) && decide (bitsOf v 16 9 ≤ 256))
  else true

/-- The scan sequence, or the tip-in sequence, is not idle (R548). -/
def State.scanBusy (s : State) : Bool :=
  s.hkState = hkSCAN || s.hkFlag HKA.STATUS_SCAN_INTERRUPTED || s.hkFlag HKA.STATUS_SCAN_PENDING
def State.tipBusy (s : State) : Bool := s.hkState = hkTIP || s.hkFlag HKA.STATUS_TIP_QUEUED

/-- A write that reaches HKA's registers. -/
def wrHKA (off v : Nat) (s : State) : WOut :=
  let b := HKA.page
  if off = HKA.CMD then
    if fb v HKA.CMD_CAL && s.hkBusy then no .state s
    else
      let s := if fb v HKA.CMD_SCAN_STOP then s.scanStop else s
      let s := if fb v HKA.CMD_SCAN_START then s.scanTrigger else s
      ok (if fb v HKA.CMD_CAL && s.hkState = hkIDLE then s.hkCal else s)
  else if 0x140 ≤ off && off < 0x180 then (if s.scanBusy then no .state s else ok (s.setNat (b + off) v))
  else if 0x180 ≤ off && off < 0x190 then (if s.tipBusy then no .state s else ok (s.setNat (b + off) v))
  else if off = HKA.SEQ_LEN then
    if (s.scanBusy && fv v HKA.SEQ_LEN_SCAN_LEN != s.get b HKA.SEQ_LEN_SCAN_LEN)
      || (s.tipBusy && fv v HKA.SEQ_LEN_TIP_LEN != s.get b HKA.SEQ_LEN_TIP_LEN) then no .state s
    else ok (s.setNat (b + off) v)
  else if off = HKA.CTRL then
    let s := if fb v HKA.CTRL_TIMER_EN && !s.hkFlag HKA.CTRL_TIMER_EN then { s with hka := { s.hka with tick := s.now } } else s
    ok (s.setNat (b + off) v)
  else ok (s.setNat (b + off) v)

end Sys2Proof.Machine
end

