-- ==== Sys2Proof/Machine/Pwr.lean ====
section
/-!
DEFINITION. Power and temperature (chapter 17): the governor's period, adaptive voltage scaling, droop shed, core gating,
the THM sample with its thresholds, and thermal shutdown. Temperatures are in units of 0.25 °C.
-/
namespace Sys2Proof.Machine

/-! ### The governor's iteration limit (R524 to R527) -/

/-- The rails that are read: ROLE monitor or AVS. -/
def State.railsRead (s : State) : List Nat :=
  (List.range 16).filter (fun i => s.get PWR.page (PWR.RAIL_ROLE i) = 1 || s.get PWR.page (PWR.RAIL_ROLE i) = 2)

/-- The next GOV value from E = P − BUDGET (R525). -/
def govNext (gov : Nat) (e : Int) (stepMw hyst : Nat) : Nat :=
  if 0 < e then (max 6 ((gov : Int) - ceilDiv e.toNat stepMw)).toNat
  else if e ≤ -(hyst : Int) then min 24 (gov + 1)
  else gov

/-- GOV_PERIOD: every PERIOD_MS the rails are read (`none` for a read that fails) and GOV follows (R524 to R527). -/
def execGovPeriod (readings : List (Option Nat)) (s : State) : Host.Outcome State Fault Refusal :=
  act s fun s =>
    let b := PWR.page
    let rails := s.railsRead
    if s.now < s.pwr.govAt + s.get b PWR.PMBUS_CFG_PERIOD_MS * nsMs then s
    else
    let s := { s with pwr := { s.pwr with govAt := s.now } }
    if rails.any (fun i => (readings.getD i none).isNone) then
      let run := s.pwr.pmbusFailRun + 1
      let s := { s with pwr := { s.pwr with pmbusFailRun := run } }.count (b + PWR.PMBUS_ERRS)
      s.raiseIf (run = 3) Kind.PWR.pages.1 PWR.ev_PMBUS_FAIL
    else
      let s := { s with pwr := { s.pwr with pmbusFailRun := 0 } }
      let mw := fun i => (readings.getD i none).getD 0
      let s := each rails (fun i t => t.set b (PWR.RAIL_POWER_MW i) (mw i)) s
      let p := (rails.map mw).sum
      let s := s.set b PWR.MEASURED_MW p
      let e : Int := (p : Int) - s.get b PWR.BUDGET_MW
      let old := s.get b PWR.GOV_STATUS_GOV
      let gov := govNext old e (s.get b PWR.GOV_CFG_STEP_MW) (s.get b PWR.GOV_CFG_HYST)
      let s := (s.set b PWR.GOV_STATUS_GOV gov).raiseIf (gov != old) Kind.PWR.pages.1 PWR.ev_GOV_CHANGE
      let low := decide (gov = 6) && decide (0 < e)
      let was := s.flag b PWR.GOV_STATUS_AT_FLOOR
      let s := s.setB b PWR.GOV_STATUS_AT_FLOOR low
      (s.raiseIf (low && !was) Kind.PWR.pages.1 PWR.ev_OVER_BUDGET).allCaps

/-! ### Adaptive voltage scaling (R528, R529) -/

/-- The AVS rail, if one is configured. -/
def State.avsRail (s : State) : Option Nat := (List.range 16).find? (fun i => s.get PWR.page (PWR.RAIL_ROLE i) = 2)

/-- The voltage AVS asks for, and its run of high slack. -/
def avsWant (v lo hi slack low high run : Nat) (retry : Option Nat) : Nat × Nat :=
  if slack < low then (min hi (max lo (v + 5)), 0)
  else if high < slack then (if 100 ≤ run + 1 then (max lo (min hi (v - 5)), 0) else (retry.getD v, run + 1))
  else (retry.getD v, 0)

/-- AVS_EVAL: every 1 ms from READY the slack is read and VDD_CORE adjusted; a regulator with another VOUT_MODE keeps AVS
from starting; a command that fails is retried at the next evaluation (R529). -/
def execAvsEval (slack : Nat) (ulinear16 : Bool) (commandOk : Bool) (s : State) : Host.Outcome State Fault Refusal :=
  act s fun s =>
    let b := PWR.page
    if !s.ready || !s.flag b PWR.AVS_CFG_EN || s.avsRail.isNone || s.pwr.avsBad then s
    else if !s.pwr.avsStarted && !ulinear16 then
      { s with pwr := { s.pwr with avsBad := true } }.raise Kind.PWR.pages.1 PWR.ev_PMBUS_FAIL
    else
      let v := if s.pwr.avsStarted then s.get b PWR.AVS_STATUS_VOUT else 700
      let lo := s.get b PWR.AVS_LIMITS_VMIN
      let hi := s.get b PWR.AVS_LIMITS_VMAX
      let low := s.get b PWR.AVS_CFG_SLACK_LOW
      let w := avsWant v lo hi slack low (s.get b PWR.AVS_CFG_SLACK_HIGH) s.pwr.avsSlackRun s.pwr.avsRetry
      let take := commandOk || w.1 = v
      let s := { s with pwr := { s.pwr with avsStarted := true, avsSlackRun := w.2, avsRetry := if take then none else some w.1 } }
      let s := (s.set b PWR.AVS_STATUS_VOUT (if take then w.1 else v)).set b PWR.AVS_STATUS_SLACK (min 255 slack)
      let atMax := decide (slack < low) && decide (hi ≤ v)
      let was := s.flag b PWR.AVS_STATUS_AT_MAX
      (s.setB b PWR.AVS_STATUS_AT_MAX atMax).raiseIf (atMax && !was) Kind.PWR.pages.1 PWR.ev_AVS_LIMIT

/-! ### Droop shed (R530 to R532) -/

/-- Gating over the 1 ms that ends now. -/
def State.gatedNs (s : State) : Nat :=
  let from_ := s.now - nsMs
  let open_ := match s.pwr.gateFrom with
    | some t => s.now - max t from_
    | none => 0
  open_ + (s.pwr.gating.map (fun x => x.2 - min x.2 (max x.1 from_))).sum

/-- RUNNING cores read GATED while gated, and RUNNING again; the gated cycles are added to the counters that select them
when a core resumes (R598, Table 21-3). -/
def State.showGate (s : State) (gated : Bool) (cycles : Nat) : State :=
  let b := CPU.page
  each (List.range 8) (fun c t =>
    let st := t.get b (CPU.CORE_STATUS_STATE c)
    if gated then (if st = 0 then t.set b (CPU.CORE_STATUS_STATE c) 2 else t)
    else if st ≠ 2 then t
    else
      let t := t.set b (CPU.CORE_STATUS_STATE c) 0
      if t.flag b CPU.CTRL_FREEZE_ALL then t
      else each (List.range 8) (fun k u =>
        if u.get b (CPU.EVTSEL_EVENT c k) = 0x60 && bitOf (u.get b (CPU.PMU_CTRL_EN c)) (2 + k) then u.hpmAdd c k cycles
        else u) t) s

/-- The cores are gated during a shed whenever their gating totals less than 100 µs, and run otherwise (R532). -/
def State.coreGate (s : State) : State :=
  let want := s.shed && decide (s.gatedNs < 100 * nsUs)
  let s := s.setB PWR.page PWR.DROOP_STATUS_CORES_GATED want
  match s.pwr.gateFrom, want with
  | none, true => { s with pwr := { s.pwr with gateFrom := some s.now } }.showGate true 0
  | some t, false =>
    let old := s.pwr.gating.filter (fun x => s.now < x.2 + nsMs)
    let s := s.showGate false (s.now - t)
    { s with pwr := { s.pwr with gateFrom := none, gating := if t < s.now then old ++ [(t, s.now)] else old } }
  | _, _ => s

/-- A detector trips: a shed starts or is extended to SHED_US after this trip; trips are counted, and more than STORM_N of one
second raise DROOP_STORM once for it (R531, R532). -/
def State.droopTrip (s : State) (detector : Nat) : State :=
  let b := PWR.page
  let first := !s.shed
  let s := s.setB b PWR.DROOP_STATUS_SHED true
  let rails := setBit (if first then 0 else s.get b PWR.DROOP_STATUS_LAST_RAILS) detector
  let s := (s.set b PWR.DROOP_STATUS_LAST_RAILS rails).count64 (b + PWR.SHEDS) 1
  let s := s.raise Kind.PWR.pages.1 PWR.ev_DROOP_SHED
  let sec := s.dtime / nsSec
  let same := decide (s.pwr.stormSecond = sec)
  let trips := (if same then s.pwr.stormTrips else 0) + 1
  let done_ := same && s.pwr.stormRaised
  let storm := decide (s.get b PWR.DROOP_CFG_STORM_N < trips)
  let s := { s with pwr := { s.pwr with
    shedEnd := s.now + s.get b PWR.DROOP_CFG_SHED_US * nsUs,
    stormSecond := sec, stormTrips := trips, stormRaised := done_ || storm } }
  let s := s.raiseIf (storm && !done_) Kind.PWR.pages.1 PWR.ev_DROOP_STORM
  if first then (s.allCaps.coreGate).tipTrigger 1 else s.coreGate

/-- DROOP_TRIP: a detector's rail falls below its nominal by `fall` hundredths of a per cent; beyond 2 % + 0.5 % × TH the
detector trips (R530). -/
def execDroopTrip (detector : Fin 6) (fall : Nat) (s : State) : Host.Outcome State Fault Refusal :=
  act s fun s => if fall ≤ 200 + 50 * s.get PWR.page PWR.DROOP_CFG_TH then s else s.droopTrip detector

/-- DROOP_SHED_END: SHED_US after the last trip the caps return, the cores run, paused work resumes (Table 17-3). -/
def execDroopShedEnd (s : State) : Host.Outcome State Fault Refusal :=
  act s fun s =>
    if !s.shed ∨ s.now < s.pwr.shedEnd then s
    else ((s.setB PWR.page PWR.DROOP_STATUS_SHED false).allCaps.coreGate).hkShedEnd

/-- CORE_GATE_WINDOW: during a shed the gating budget of the sliding 1 ms is judged again (R532). -/
def execCoreGateWindow (s : State) : Host.Outcome State Fault Refusal := act s fun s => s.coreGate

/-! ### Temperature sensing (R533 to R535) -/

/-- The sensors of the die of a sensor. -/
def dieSensors (i : Nat) : List Nat :=
  if i < 24 then List.range 24 else if i < 32 then (List.range 8).map (24 + ·) else (List.range 8).map (32 + ·)

/-- A sensor is not FAILED. -/
def State.sensorOk (s : State) (i : Nat) : Bool := !s.flag THM.page (THM.SENSOR_FAILED i)

/-- A reading differs from the mean of the other valid sensors of its die by more than 20 °C. -/
def State.sensorFar (s : State) (t : Nat → Int) (i : Nat) : Bool :=
  let others := (dieSensors i).filter (fun j => j != i && s.sensorOk j)
  let k : Int := others.length
  let sum : Int := (others.map t).foldl (· + ·) 0
  decide (0 < k) && decide (80 * k < (k * t i - sum).natAbs)

/-- One sensor's run of far readings; the third marks it FAILED. -/
def State.sensorJudge (s : State) (far : Bool) (i : Nat) : State :=
  let run := if far then Tab.get (fun _ => 0) s.thm.farRun i + 1 else 0
  let s := { s with thm := { s.thm with farRun := Tab.put (fun _ => 0) s.thm.farRun i run } }
  if run < 3 then s
  else
    let s := (s.setB THM.page (THM.SENSOR_FAILED i) true).setB THM.page (THM.SENSOR_VALID i) false
    let s := s.setB THM.page ⟨if i < 32 then THM.SENSOR_FAIL_LO else THM.SENSOR_FAIL_HI, i % 32, 1⟩ true
    s.raise Kind.THM.pages.1 THM.ev_SENSOR_FAIL

/-- Sensors left on each die (R533). -/
def State.sensorsShort (s : State) : Bool :=
  let n := fun (l : List Nat) => (l.filter s.sensorOk).length
  n (dieSensors 0) < 4 || n (dieSensors 24) < 2 || n (dieSensors 32) < 2

/-- Present sampling interval in ns, by its code (Table 17-4). -/
def sampleNs (rate : Nat) : Nat := if rate = 0 then 10 * nsMs else if rate = 1 then nsMs else 250 * nsUs

/-- The interval follows T (R534). -/
def State.sampleRate (s : State) (t : Int) : State :=
  let b := THM.page
  let band := if t < 380 then 0 else if t < 420 then 1 else 2
  let rate := s.get b THM.STATUS_RATE
  if rate < band then { s with thm := { s.thm with coolRun := 0 } }.set b THM.STATUS_RATE band
  else
    let edge : Int := if rate = 1 then 380 else 420
    let run := if rate != 0 && decide (t ≤ edge - 4) then s.thm.coolRun + 1 else 0
    if 10 ≤ run then { s with thm := { s.thm with coolRun := 0 } }.set b THM.STATUS_RATE band
    else { s with thm := { s.thm with coolRun := run } }

/-- The NLC hold of a carrier: from T ≥ 110 °C until 10 s below 105 °C; a shortage of sensors holds until device reset
(R165, R533). `dt` is the time since the sample before. -/
def State.nlcThermal (s : State) (t : Int) (dt n : Nat) : State :=
  if 440 ≤ t ∨ s.thm.short then s.nlcHoldBegin n
  else if !(s.rxs n).nlcHeld then s
  else if 420 ≤ t then s.setRx n { s.rxs n with nlcCool := none }
  else match (s.rxs n).nlcCool with
    | none => s.setRx n { s.rxs n with nlcCool := some 0 }
    | some a => if 10 * nsSec ≤ a + dt then s.nlcHoldEnd n else s.setRx n { s.rxs n with nlcCool := some (a + dt) }

/-- Thermal shutdown: outputs off, the record of R537, ALARM_N low (Table 17-6). -/
def State.thermalShutdown (s : State) (sensor : Nat) (t : Int) : State :=
  let b := THM.page
  let s := (s.setI b THM.LAST_SHUTDOWN_T t).set b THM.LAST_SHUTDOWN_SENSOR sensor
  let s := s.setB b THM.LAST_SHUTDOWN_VALID true
  let s := each [0, 1] (fun n u => u.outCause n (fun x => { x with cSafe := true })) s
  { s with boot := { s.boot with
    shutdown := true, clientTx := .elecIdle, fabricTx := .elecIdle, mgtTx := .elecIdle, ospOut := .low, clockOut := .low } }.refreshAlarm

/-- MAX_SEEN (R533). -/
def State.maxSeen (s : State) (t : Int) : State :=
  if s.thm.maxFresh || decide (s.getI THM.page THM.MAX_SEEN_T < t) then
    { s with thm := { s.thm with maxFresh := false } }.setI THM.page THM.MAX_SEEN_T t
  else s

/-- THROTTLE_MS counts the time since the sample before while THROTTLE = 1 (R535). -/
def State.throttleTime (s : State) (dt : Nat) : State :=
  if !s.flag THM.page THM.STATUS_THROTTLE then s
  else
    let ns := s.thm.throttleNs + dt
    { s with thm := { s.thm with throttleNs := ns % nsMs } }.count (THM.page + THM.THROTTLE_MS) (ns / nsMs)

/-- The thresholds on T (Table 17-5); in thermal shutdown only CK_SLOW runs and nothing beyond THM follows (R536). -/
def State.thresholds (s : State) (t : Int) (dt : Nat) : State :=
  let b := THM.page
  let p := Kind.THM.pages.1
  let s := s.throttleTime dt
  let warn := s.flag b THM.STATUS_WARN
  let s := if decide (400 ≤ t) && !warn then (s.setB b THM.STATUS_WARN true).raise p THM.ev_WARN
    else if decide (t < 388) && warn then (s.setB b THM.STATUS_WARN false).raise p THM.ev_WARN_CLEAR else s
  let hot := decide (420 ≤ t)
  let was := s.flag b THM.STATUS_THROTTLE
  let s := (s.setB b THM.STATUS_THROTTLE hot).raiseIf (hot && !was) p THM.ev_THROTTLE_ON
  let s := s.raiseIf (!hot && was) p THM.ev_THROTTLE_OFF
  let lim := decide (440 ≤ t)
  let wasL := s.flag b THM.STATUS_NLC_LIMIT
  let s := (s.setB b THM.STATUS_NLC_LIMIT lim).raiseIf (lim && !wasL) p THM.ev_NLC_LIMIT
  if s.boot.shutdown then s else ((s.nlcThermal t dt 0).nlcThermal t dt 1).allCaps

/-- The effect of a sample; a sensor's time since the sample before is the interval in force (R533 to R536). -/
def State.thmSample (s : State) (temps : List Int) : State :=
  let b := THM.page
  let t := fun i => temps.getD i 0
  let dt := sampleNs (s.get b THM.STATUS_RATE)
  let s := each (List.range 40) (fun i u => let u := u.setI b (THM.SENSOR_T i) (t i)
    u.setB b (THM.SENSOR_VALID i) (u.sensorOk i)) s
  let far := (List.range 40).map (fun i => s.sensorOk i && s.sensorFar t i)
  let s := each ((List.range 40).filter s.sensorOk) (fun i u => u.sensorJudge (far.getD i false) i) s
  let short := s.sensorsShort
  let s := s.raiseIf (short && !s.thm.short) Kind.THM.pages.1 THM.ev_SENSORS_SHORT
  let s := { s with thm := { s.thm with short := s.thm.short || short } }
  let valid := (List.range 40).filter s.sensorOk
  let hot := fun i => if s.sensorOk i && decide (500 ≤ t i) then min 2 (Tab.get (fun _ => 0) s.thm.hotRun i + 1) else 0
  let runs := (List.range 40).foldl (fun l i => Tab.put (fun _ => 0) l i (hot i)) s.thm.hotRun
  let s := { s with thm := { s.thm with hotRun := runs } }
  match valid with
  | [] => if s.boot.shutdown then s else s.allCaps
  | i0 :: r =>
    let h := r.foldl (fun j i => if t j < t i then i else j) i0
    let s := (s.setI b THM.STATUS_HOT (t h)).set b THM.STATUS_HOT_SENSOR h
    let s := ((s.maxSeen (t h)).sampleRate (t h)).thresholds (t h) dt
    let isOver := valid.filter (fun i => Tab.get (fun _ => 0) s.thm.hotRun i = 2)
    match isOver with
    | [] => s
    | j0 :: r => if s.boot.shutdown then s
      else
        let j := r.foldl (fun j i => if t j < t i then i else j) j0
        s.thermalShutdown j (t j)

/-- THM_SAMPLE: THM reads its 40 sensors; in thermal shutdown sampling goes on, and no event is recorded (Table 17-6). -/
def execThmSample (temps : List Int) (s : State) : Host.Outcome State Fault Refusal :=
  if s.inReset then .next s
  else if s.boot.shutdown then .next { s.thmSample temps with raised := s.raised }
  else done (s.thmSample temps)

/-! ### Register writes of PWR -/

/-- Field ranges of Table 17-8. -/
def rangePWR (off v : Nat) : Bool :=
  if off = PWR.BUDGET then inR v PWR.BUDGET_MW 80000 195000
  else if off = PWR.STANDING_BASE then inR v PWR.STANDING_BASE_MW 0 195000
  else if off = PWR.GOV_CFG then inR v PWR.GOV_CFG_STEP_MW 100 10000 && inR v PWR.GOV_CFG_HYST 0 20000
  else if off = PWR.AVS_CFG then
    inR v PWR.AVS_CFG_SLACK_LOW 1 100 && inR v PWR.AVS_CFG_SLACK_HIGH (fv v PWR.AVS_CFG_SLACK_LOW + 2) 200
  else if off = PWR.AVS_LIMITS then
    inR v PWR.AVS_LIMITS_VMIN 650 (fv v PWR.AVS_LIMITS_VMAX) && inR v PWR.AVS_LIMITS_VMAX 650 780
  else if off = PWR.DROOP_CFG then inR v PWR.DROOP_CFG_SHED_US 10 1000 && inR v PWR.DROOP_CFG_STORM_N 1 255
  else if off = PWR.PMBUS_CFG then inR v PWR.PMBUS_CFG_PERIOD_MS 1 100
  else if 0x180 ≤ off && off < 0x1C0 then bitsOf v 16 2 != 3
  else true

/-- A write that reaches PWR's registers: a second AVS rail is refused (R528); BUDGET and STANDING_BASE act at once. -/
def wrPWR (off v : Nat) (s : State) : WOut :=
  let b := PWR.page
  if 0x180 ≤ off && off < 0x1C0 then
    let i := (off - 0x180) / 4
    if bitsOf v 16 2 = 2 && (List.range 16).any (fun j => j != i && s.get b (PWR.RAIL_ROLE j) = 2) then no .state s
    else ok (s.setNat (b + off) v)
  else ok ((s.setNat (b + off) v).syncPower)

end Sys2Proof.Machine
end

