-- ==== Sys2Proof/Machine/Frm.lean ====
section
/-!
DEFINITION. FRMn: alignment, the received headband and spines, defects, the transmitted folio, burst spines
(chapter 9), and OSP's extraction and insertion.
-/
namespace Sys2Proof.Machine

/-! ### Bytes, scrambling, BIP (R276, R279, R280) -/

/-- A number from bytes, most significant first. -/
def beNat (l : List Nat) : Nat := l.foldl (fun n b => 256 * n + b) 0

/-- Eight steps of the scrambler from state `r` (s_{k−31} is bit 30): the state after them and the byte. -/
def scrByte (r : Nat) : Nat × Nat :=
  (List.range 8).foldl (fun x _ => ((2 * x.1 + b2n (bitOf x.1 30 != bitOf x.1 27)) % 2 ^ 31, 2 * x.2 + b2n (bitOf x.1 30))) (r, 0)

/-- Bytes scrambled, or descrambled, from state `r`. -/
def scramble (r : Nat) : List Nat → List Nat
  | [] => []
  | b :: l => (b ^^^ (scrByte r).2) :: scramble (scrByte r).1 l

/-- The seed of count C (R280). -/
def scrSeed (c : Nat) : Nat := 2 ^ 30 + c % 2 ^ 30

/-- A stream of a folio after scrambling, from byte 13 on. -/
def scrFolio (c : Nat) (l : List Nat) : List Nat := l.take 13 ++ scramble (scrSeed c) (l.drop 13)

/-- BIP-64 of bytes as transmitted (R279). -/
def bip64 (l : List Nat) : Nat :=
  (l.foldl (fun x b => (x.1 ^^^ (b * 2 ^ (56 - 8 * (x.2 % 8))), x.2 + 1)) (0, 0)).1

def faw : Nat := 0xF6F62828B5B54A4A
def sfaw : Nat := 0x3A3AC5C56E6E9191

/-- The stream opens with the headband: stream 0 in P2P and LEAF roles (R273, R275). -/
def State.isHead (s : State) (n i : Nat) : Bool := s.role n != 1 && i = 0
def State.headLen (s : State) (n i : Nat) : Nat := if s.isHead n i then 1024 else 64

/-- A group of 8 bytes matches the alignment word within FAW_TOL bits (R281, R286). -/
def State.fawMatch (s : State) (n : Nat) (head : Bool) (l : List Nat) : Bool :=
  decide (popcount 64 (beNat (l.take 8) ^^^ (if head then faw else sfaw)) ≤ s.get (FRM.page n) FRM.ALIGN_CFG_FAW_TOL)

/-- The count after the alignment word: QUIRE and FOLIO, or COUNT; and its modulus. -/
def countOf (head : Bool) (l : List Nat) : Nat := if head then beNat ((l.drop 8).take 5) else beNat ((l.drop 8).take 4)
def countMod (head : Bool) : Nat := if head then 2 ^ 40 else 2 ^ 32

/-- The matches in a text, with offset and count. -/
def State.fawScan (s : State) (n : Nat) (head : Bool) (o : Nat) : List Nat → List (Nat × Nat)
  | [] => []
  | b :: l =>
    (if decide (12 ≤ l.length) && s.fawMatch n head (b :: l) then [(o, countOf head (b :: l))] else [])
      ++ s.fawScan n head (o + 1) l

/-! ### Search and lock (R282 to R284) -/

/-- The measurement grid follows the folio counts read on stream 0: a quire's first folio began count mod 256 folios ago (R175); at the
lock the periods start there, with a bring-up done and, in LEAF role, upstream folios numbered after the downstream ones (R171, R217;
DEDUCED, log entries 135 and 138). -/
def State.gridFollow (s : State) (n v : Nat) (lock : Bool) : State :=
  let r := { s.rxs n with gridAt := s.now - 2000 * (v % 256), gridQuire := v / 256, gridLocked := true }
  let s := s.setRx n (if lock then { r with measQuire := v / 256 } else r)
  if !lock then s
  else (if s.role n = 2 then s.setFrm n { s.frms n with txCount := (v + 1) % 2 ^ 40 } else s).alignedUp n

/-- A search pass: the hypotheses in order of age, each with whether it was met or made in this pass; the drops; and the
position found. -/
structure Pass where
  hyps : List (Hyp × Bool) := []
  drops : Nat := 0
  lock : Option (Nat × Nat × Nat) := none

/-- Removing the youngest hypothesis with one match. -/
def dropYoungest (l : List (Hyp × Bool)) : Option (List (Hyp × Bool)) :=
  match l.reverse.findIdx? (fun x => x.1.hits = 1) with
  | none => none
  | some i => some (l.reverse.eraseIdx i).reverse

/-- One match of a pass at offset `o` (position (o + L − t) mod L of the stream) with count v (R282, R283). -/
def Pass.next (len tail md : Nat) (p : Pass) (m : Nat × Nat) : Pass :=
  if p.lock.isSome then p
  else
    let pos := (m.1 + len - tail) % len
    let hs := p.hyps.filter (fun x => x.2 || decide (m.1 ≤ (x.1.pos + tail) % len))
    if hs.any (fun x => !x.2 && x.1.pos = pos && (x.1.count + 1) % md = m.2) then
      let hs' := hs.map (fun x => if !x.2 && x.1.pos = pos then ({ x.1 with count := m.2, hits := x.1.hits + 1 }, true) else x)
      if hs'.any (fun x => x.1.pos = pos && decide (3 ≤ x.1.hits)) then { p with hyps := [], lock := some (m.1, pos, m.2) }
      else { p with hyps := hs' }
    else
      let hs := hs.filter (fun x => x.2 || x.1.pos != pos)
      let new : Hyp × Bool := (⟨pos, m.2, 1⟩, true)
      if hs.length < 4 then { p with hyps := hs ++ [new] }
      else match dropYoungest hs with
        | some r => { p with hyps := r ++ [new] }
        | none => { p with hyps := hs, drops := p.drops + 1 }

/-- A delivery to a stream in SEARCH. -/
def State.searchPass (s : State) (n i : Nat) (bytes : List Nat) : State :=
  let x := s.stream n i
  let head := s.isHead n i
  let len := max 1 bytes.length
  let tail := x.tail.length
  let p := (s.fawScan n head 0 (x.tail ++ bytes)).foldl (Pass.next len tail (countMod head))
    { hyps := x.hyps.map (fun h => (h, false)) }
  let s := s.bumpBy (FRM.page n) FRM.ALIGN_STATUS_HYP_DROPS p.drops
  match p.lock with
  | none =>
    s.setStream n i { x with hyps := (p.hyps.filter (·.2)).map (·.1), tail := bytes.drop (bytes.length - 12) }
  | some (o, pos, v) =>
    let y := { x with locked := true, hyps := [], tail := [], pos := pos, expected := (v + 1) % countMod head, missRun := 0,
                      bipOwn := none, held := if o < tail then bytes.drop pos else [], lead := if o < tail then 0 else pos }
    let s := (s.setStream n i y).raise (Kind.FRM.pg n) FRM.ev_ALIGN_LOCK
    (if i = 0 then (s.leafRegain n).gridFollow n v true else s).gthFollow n

/-- Five misses: back to SEARCH, a loss of alignment (R281, R284). -/
def State.alignLost (s : State) (n i : Nat) : State :=
  let x := s.stream n i
  let s := s.setStream n i { x with locked := false, missRun := 0, hyps := [], tail := [], held := [], lead := 0,
                                    bipOwn := none, wholeSecond := false, bipSecond := 0 }
  let s := (s.count (FRM.page n + FRM.LOA_COUNT)).raise (Kind.FRM.pg n) FRM.ev_ALIGN_LOST
  let s := s.gthFollow n
  if i = 0 && (s.frms n).psVal.isSome then
    (s.setFrm n { s.frms n with psVal := none, psOk := false, psRun := 0 }).raise (Kind.FRM.pg n) FRM.ev_PS_INCONSISTENT
  else s

/-! ### Headband fields (R285 to R298) -/

/-- A run of consistent quires with a new value of N quires is accepted (R288, R289). -/
def State.psQuire (s : State) (n : Nat) : State :=
  let b := FRM.page n
  let f := s.frms n
  match f.psVal with
  | some v =>
    if !f.psOk then (s.setFrm n { f with psRun := 0, psVal := none }).raise (Kind.FRM.pg n) FRM.ev_PS_INCONSISTENT
    else
      let run := if f.psRun != 0 && f.psRunVal = v then f.psRun + 1 else 1
      let s := (s.setNat (b + FRM.PS_RX_LAST) v).setFrm n { f with psRun := run, psRunVal := v, psVal := none }
      if decide (s.get b FRM.PS_PERSIST_N ≤ run) && s.nat (b + FRM.PS_RX) != v then
        ((s.setNat (b + FRM.PS_RX) v).raise (Kind.FRM.pg n) FRM.ev_PS_ACCEPT).psAccepted n
      else s
  | none => s

/-- The PS bytes of a folio with number `k` in its quire; none for a missed one (R285, R288). -/
def State.psFolio (s : State) (n k : Nat) (v : Option Nat) : State :=
  let f := s.frms n
  let f' := if k = 0 then { f with psVal := some (v.getD 0), psOk := v.isSome }
    else match f.psVal with
      | none => { f with psVal := some 0, psOk := false }
      | some w => { f with psOk := f.psOk && v = some w }
  let s := s.setFrm n f'
  if k = 255 then s.psQuire n else s

/-- The peer's word differs from this part's receive settings: the bits M_VER, M_FORMAT, M_ENTROPY, M_PROFILE, M_K,
M_ROLE, M_SLOTS, M_BAUD (R296, R297). -/
def State.capMismatch (s : State) (n w : Nat) : Nat :=
  let role := s.role n
  let other := bitsOf w 36 2
  let v1 := bitsOf w 56 4 = 1 || s.get (FRM.page n) FRM.CAP_CFG_VER_MAX = 1
  let ver := if role = 0 then v1 && s.gatherings.any (fun g => match s.gthPos g n with
      | some h => s.onCarrier g n && decide (16 ≤ h)
      | none => false)
    else bitsOf w 60 4 = 1 || bitsOf w 56 4 = 1
  let l := [ver, bitsOf w 54 2 != s.get (RXD.page n) RXD.MOD_FORMAT, bitsOf w 45 9 != s.get (RXD.page n) RXD.MOD_ENTROPY,
    bitsOf w 44 1 != s.get (FEC.page n) FEC.CTRL_PROFILE, bitsOf w 41 3 != s.get (TXD.page n) TXD.SC_CFG_K_LOG2,
    !((role = 0 && other = 0) || (role = 1 && other = 2) || (role = 2 && other = 1)),
    bitsOf w 29 7 != 4 * s.get (FRM.page n) FRM.RATE_SERVICE, bitsOf w 19 10 != s.baud n]
  (l.zipIdx.map (fun x => b2n x.1 * 2 ^ x.2)).sum

/-- The peer's word is held, compared, and the versions agreed (R295 to R297). -/
def State.capAccept (s : State) (n w : Nat) : State :=
  let b := FRM.page n
  let s := (s.setNat (b + FRM.CAP_RX) (w % 2 ^ 32)).setNat (b + FRM.CAP_RX + 4) (w / 2 ^ 32)
  let s := s.setB b FRM.CAP_STATUS_PEER_VALID true
  let old := bitsOf (s.nat (b + FRM.CAP_STATUS)) 16 8
  let new := s.capMismatch n w
  let s := s.setNat (b + FRM.CAP_STATUS) (withBits (s.nat (b + FRM.CAP_STATUS)) 16 8 new)
  let s := s.raiseIf (new &&& (0xFF - old) != 0) (Kind.FRM.pg n) FRM.ev_CAP_MISMATCH
  if s.role n != 0 then s
  else
    let v := min (s.get b FRM.CAP_CFG_VER_MAX) (bitsOf w 56 4)
    (s.set b FRM.CAP_STATUS_VER_AGREED v).setFrm n { s.frms n with verAgreed := v }

/-- The capability word of a folio; none for a missed one, which ends the run of three (R295). -/
def State.capFolio (s : State) (n : Nat) (w : Option Nat) : State :=
  let f := s.frms n
  match w with
  | none => s.setFrm n { f with capRun := 0 }
  | some v =>
    let s := s.set (FRM.page n) FRM.CAP_STATUS_VER_RX (bitsOf v 60 4)
    let run := if f.capRun != 0 && f.capVal.toNat = v then min 3 (f.capRun + 1) else 1
    let s := s.setFrm n { s.frms n with capVal := BitVec.ofNat 64 v, capRun := run }
    let held := s.nat (FRM.page n + FRM.CAP_RX) + 2 ^ 32 * s.nat (FRM.page n + FRM.CAP_RX + 4)
    if run = 3 && (f.capRun < 3 || held != v) then s.capAccept n v else s

/-- Three agreeing collections of the trace: it is accepted, and compared when TRACE_CMP is set (R298). -/
def State.traceAccept (s : State) (n : Nat) (t : List Nat) : State :=
  let words := (List.range 16).map (fun i => beNat ((t.drop (4 * i)).take 4))
  let s := s.setWords (FRMW.TRACE_RX n 0) words
  if !s.flag (FRM.page n) FRM.CTRL_TRACE_CMP then s
  else
    let same := (List.range 16).all (fun i => s.nat (FRMW.TRACE_EXP n i) = words.getD i 0)
    let was := s.flag (FRM.page n) FRM.DEFECTS_TIM
    (s.setB (FRM.page n) FRM.DEFECTS_TIM (!same)).raiseIf (!same && !was) (Kind.FRM.pg n) FRM.ev_TIM

/-- The trace byte of the folio with count `c`; none for a missed one (R285, R298). -/
def State.traceFolio (s : State) (n c : Nat) (v : Option Nat) : State :=
  let f := s.frms n
  let k := c % 64
  let f := if k = 0 then { f with trace := [], traceRun := if f.trace.length = 64 then f.traceRun else 0 } else f
  match v with
  | none => s.setFrm n f
  | some x =>
    if f.trace.length ≠ k then s.setFrm n f
    else
      let t := f.trace ++ [x]
      if k ≠ 63 then s.setFrm n { f with trace := t }
      else
        let run := if f.traceRun != 0 && f.traceLast = t then min 3 (f.traceRun + 1) else 1
        let s := s.setFrm n { f with trace := t, traceLast := t, traceRun := run }
        if run = 3 then s.traceAccept n t else s

/-- Received RDI: set by 3 consecutive non-missed folios with 1, cleared by 3 with 0 (Table 9-4). -/
def State.rdiFolio (s : State) (n i : Nat) (rdi : Bool) : State :=
  let x := s.stream n i
  let y := if rdi then { x with rdiRun := min 3 (x.rdiRun + 1), noRdiRun := 0 } else { x with noRdiRun := min 3 (x.noRdiRun + 1), rdiRun := 0 }
  let set_ := decide (3 ≤ y.rdiRun) && !x.rdiRx
  let clr := decide (3 ≤ y.noRdiRun) && x.rdiRx
  let s := s.setStream n i { y with rdiRx := (x.rdiRx || set_) && !clr }
  (s.raiseIf set_ (Kind.FRM.pg n) FRM.ev_RDI_RX).raiseIf clr (Kind.FRM.pg n) FRM.ev_RDI_CLEAR

/-- The gatherings with slots on a stream. -/
def State.onStream (s : State) (n i : Nat) : List Nat :=
  s.gatherings.filter (fun g => (s.slotsOn g n).any (fun k => s.slotStream n k = i))

/-- An errored folio of a stream: the counter, the carrier's second and those of the gatherings there (R279, R306, R308). -/
def State.erroredFolio (s : State) (n i : Nat) : State :=
  let s := s.count (FRM.page n + FRM.ERR_FOLIOS)
  let s := s.pm n (fun x => { x with errored := x.errored + 1 })
  each (s.onStream n i) (fun g t => t.pm (pmGath g) (fun x => { x with errored := x.errored + 1 })) s

/-- The BIP of the previous folio's payload, received with this folio (R278, R279). -/
def State.bipFolio (s : State) (n i bip : Nat) : State :=
  let x := s.stream n i
  match x.bipOwn with
  | none => s.setFrm n { s.frms n with bei := Tab.put (fun _ => 0) (s.frms n).bei i 0 }
  | some own =>
    let e := popcount 64 (own.toNat ^^^ bip)
    let s := s.setStream n i { x with bipSecond := x.bipSecond + e }
    let s := s.setFrm n { s.frms n with bei := Tab.put (fun _ => 0) (s.frms n).bei i e }
    let s := s.count64 (FRM.page n + FRM.BIP_ERRS) e
    let s := s.pm n (fun y => { y with bip := y.bip + e })
    if e != 0 && !x.lastErr then s.erroredFolio n i else s

/-- Far-end status: BEI and RDI of a folio (R303, R306). -/
def State.farFolio (s : State) (n i bei : Nat) (rdi : Bool) : State :=
  let s := s.count64 (FRM.page n + FRM.BEI_ERRS) bei
  let s := if i = 0 then s.set (FRM.page n) FRM.RX_FES_BEI bei else s
  let s := s.pm n (fun y => { y with bei := y.bei + bei, beiFolios := y.beiFolios + b2n (bei != 0) })
  s.rdiFolio n i rdi

/-- A management unit received (R290, R292). -/
def State.mcUnit (s : State) (n : Nat) (mc1 : Bool) (u : List Nat) : State :=
  let f := s.frms n
  let add := fun (l : List (List Nat)) => (l ++ [u]).drop ((l.length + 1) - 16)
  s.setFrm n (if mc1 then { f with mc1 := add f.mc1 } else { f with mc0 := add f.mc0 })

/-- Bytes of a field of the headband or spine. -/
def sub_ (l : List Nat) (lo k : Nat) : List Nat := (l.drop lo).take k

/-- The fields of a good headband (Table 9-1). -/
def State.headFields (s : State) (n c : Nat) (h : List Nat) : State :=
  let fes := beNat (sub_ h 28 8)
  let s := s.bipFolio n 0 (beNat (sub_ h 36 8))
  let s := s.farFolio n 0 (bitsOf fes 56 7) (bitOf fes 63)
  let s := s.setNat (FRM.page n + FRM.RX_RDI_POS) (fes % 2 ^ 32)
  let s := each s.gatherings (fun g t => match t.gthPos g n with
    | some p => if bitOf fes p then t.pm (pmGath g) (fun x => { x with rdi := true }) else t
    | none => t) s
  let s := ((s.psFolio n (c % 256) (some (beNat (sub_ h 16 4)))).capFolio n (some (beNat (sub_ h 20 8)))).traceFolio n c (some (h.getD 13 0))
  let s := (s.mcUnit n false (sub_ h 48 8)).mcUnit n true (sub_ h 56 32)
  let f := s.frms n
  let s := s.setFrm n { f with rxHead := h, rxValid := true }
  if f.snapDue then
    let s := s.setWords (FRMW.HB n 0) ((List.range 256).map (fun i => beNat (sub_ h (4 * i) 4)))
    (s.setFrm n { s.frms n with snapDue := false }).raise (Kind.FRM.pg n) FRM.ev_HB_SNAP_DONE
  else s

/-- The fields of a good spine (Table 9-2); a hub's MC0 unit begins with the LEAF byte (R292). -/
def State.spineFields (s : State) (n i : Nat) (h : List Nat) : State :=
  let s := (s.bipFolio n i (beNat (sub_ h 16 8))).farFolio n i (h.getD 14 0) (bitOf (h.getD 13 0) 7)
  if s.role n = 1 then s.mcUnit n false (h.getD 12 0 :: sub_ h 24 8) else s

/-- What a missed folio, or one of a stream in SEARCH, leaves undone (R285). -/
def State.missedFields (s : State) (n i : Nat) (c : Option Nat) : State :=
  let s := s.setStream n i { s.stream n i with bipOwn := none }
  let s := s.setFrm n { s.frms n with bei := Tab.put (fun _ => 0) (s.frms n).bei i 0 }
  if s.isHead n i then
    let s := s.count (FRM.page n + FRM.MC_DROPPED) 2
    let s := s.capFolio n none
    let s := s.setFrm n { s.frms n with rxValid := false }
    match c with
    | some k => (s.psFolio n (k % 256) none).traceFolio n k none
    | none => s
  else if s.role n = 1 then s.count (FRM.page n + FRM.MC_DROPPED) 1 else s

/-- A complete folio of a LOCKED stream: a miss, or its fields (R284, R285). -/
def State.lockedFolio (s : State) (n i : Nat) (absent0 : Bool) (folio : List Nat) : State × Bool :=
  let x := s.stream n i
  let head := s.isHead n i
  let c := x.expected
  let good := !absent0 && s.fawMatch n head folio && countOf head folio = c
  let s := s.setStream n i { x with expected := (c + 1) % countMod head, missRun := if good then 0 else x.missRun + 1 }
  if good then
    let hl := s.headLen n i
    let plain := scrFolio c folio
    let s := if head then s.headFields n c (plain.take hl) else s.spineFields n i (plain.take hl)
    let s := if i = 0 && head && c % 256 = 0 then s.gridFollow n c false else s
    (s.setStream n i { s.stream n i with bipOwn := some (BitVec.ofNat 64 (bip64 (folio.drop hl))) }, true)
  else
    let s := (s.count (FRM.page n + FRM.MISSES)).missedFields n i (some c)
    (if 5 ≤ (s.stream n i).missRun then (s.alignLost n i).showFrm n |>.calHold n else s, false)

/-! ### Defects (R300) -/

/-- UNC over the last M folios (Table 9-4). -/
def State.uncFolio (s : State) (n i : Nat) (bad : Bool) : State :=
  let b := FRM.page n
  let x := s.stream n i
  let m := s.get b FRM.UNC_CFG_M
  let h := (bad :: x.uncHist).take 15
  let recent := h.take m
  let set_ := !x.unc && decide (s.get b FRM.UNC_CFG_N ≤ (recent.filter id).length)
  let clr := x.unc && recent.length = m && !recent.any id
  let s := s.setStream n i { x with uncHist := h, unc := (x.unc || set_) && !clr }
  (s.raiseIf set_ (Kind.FRM.pg n) FRM.ev_UNC_SET).raiseIf clr (Kind.FRM.pg n) FRM.ev_UNC_CLEAR

/-- The slots of a stream are all-ones in this folio (Table 9-4). -/
def State.slotsOnes (s : State) (n i : Nat) (absent unc : Bool) : Bool :=
  let b := FRM.page n
  let x := s.stream n i
  absent || (unc && s.flag b FRM.CTRL_UNC_SQUELCH) || !x.locked || x.unc || s.blk (Kind.FRM.pg n) = bFAULT
    || (i = 0 && s.flag b FRM.DEFECTS_TIM && s.flag b FRM.CTRL_TRACE_ACT)

/-- What a folio of a stream tells a gathering beside its slots: marker, phase bit and the last unit's tag at its position, from the
headband, or from a spine that names the position (R278, Tables 9-1 and 9-2). -/
def State.markOf (s : State) (n i g : Nat) (h : List Nat) : Option Nat × Option Bool × Option Nat :=
  match s.gthPos g n with
  | none => (none, none, none)
  | some p =>
    if s.isHead n i then
      (some (beNat (sub_ h (152 + 4 * p) 4)), some (bitOf (beNat (sub_ h 44 4)) p), some (beNat (sub_ h (280 + 16 * p) 16)))
    else if s.role n = 1 && h.getD 15 0 = p then
      (some (beNat (sub_ h 32 4)), some (bitOf (h.getD 13 0) 6), some (beNat (sub_ h 36 16)))
    else (none, none, none)

/-- The gatherings that a stream of carrier n serves, with slots or with its headband, are given their part of a folio: `plain` is its
descrambled text, `good` that it was not missed (R285, R300 to R302). -/
def State.giveSlots (s : State) (n i : Nat) (ones sd good : Bool) (plain : List Nat) : State :=
  let hl := s.headLen n i
  let m := s.streamSlots n
  let at_ := s.dtime
  each (s.gatherings.filter (fun g => s.onCarrier g n && ((s.partStreams g n).contains i || s.isHead n i))) (fun g t =>
    let slots := (t.slotsOn g n).filter (fun k => t.slotStream n k = i)
    let bytes := if ones then List.replicate (6250 * slots.length) 0xFF
      else slots.flatMap (fun k => sub_ plain (hl + 6250 * (k % m)) 6250)
    let (mark, ph, tag) := if good then t.markOf n i g plain else (none, none, none)
    let f := t.frms n
    let d : FolioIn := { at_ := at_, ones := ones && !slots.isEmpty, sd := sd && !slots.isEmpty, bytes := bytes, marker := mark, phase := ph, tag := tag }
    t.setFrm n { f with toGth := Tab.put (fun _ => []) f.toGth (16 * g + i) (Tab.get (fun _ => []) f.toGth (16 * g + i) ++ [d]) }) s

/-- FOLIO_RX: what FECn passed of stream `i` for a folio. In SEARCH every position is examined; in LOCKED the folio at the locked
position is checked and its fields taken; then the defects, and the slots that go on to GTH (R279 to R302, R306). -/
def execFolioRx (n : Fin 2) (i : Fin 16) (s : State) : Host.Outcome State Fault Refusal :=
  act s fun s =>
    let fe := s.fecs n
    match (if s.frmReceives n i then Tab.get (fun _ => none) fe.toFrm i.val else none) with
    | none => s
    | some p =>
      let b := FRM.page n
      let s := s.setFec n { fe with toFrm := Tab.put (fun _ => none) fe.toFrm i none }
      let raw := p.bytes
      let absent := p.absent != 0
      let s := if absent then s.count (b + FRM.ABSENT_FOLIOS) else s
      let x := s.stream n i
      let text := (x.held ++ raw).drop x.lead
      let whole := x.locked && decide (raw.length ≤ text.length)
      let (s, good) :=
        if !x.locked then ((s.missedFields n i none).searchPass n i raw, false)
        else
          let s := s.setStream n i { x with lead := x.lead - min x.lead (x.held ++ raw).length, held := text.drop raw.length }
          if !whole then (s.setStream n i { s.stream n i with held := text }, false)
          else s.lockedFolio n i p.absent0 (text.take raw.length)
      let s := s.setStream n i { s.stream n i with lastErr := p.unc != 0 }
      let s := if p.unc != 0 then s.erroredFolio n i else s
      let s := s.uncFolio n i (absent || p.unc != 0)
      let s := s.showFrm n
      let y := s.stream n i
      let bad := !y.locked || y.unc || absent || s.blk (Kind.FRM.pg n) = bFAULT
      let s := s.pm n (fun z => { z with defect := z.defect || bad, rdi := z.rdi || y.rdiRx })
      s.giveSlots n i (!whole || s.slotsOnes n i absent (p.unc != 0)) y.sd good (scrFolio x.expected (text.take raw.length))

/-- SD_SECOND: a second ends for a stream; SD is judged on a second wholly LOCKED (R300). -/
def execSdSecond (n : Fin 2) (i : Fin 16) (s : State) : Host.Outcome State Fault Refusal :=
  act s fun s =>
    if !s.frmReceives n i then s
    else
      let b := FRM.page n
      let x := s.stream n i
      let set_ := x.wholeSecond && x.locked && !x.sd && decide (s.get b FRM.SD_CFG_SET ≤ x.bipSecond)
      let clr := x.wholeSecond && x.locked && x.sd && decide (x.bipSecond < s.get b FRM.SD_CFG_CLEAR)
      let s := s.setStream n i { x with sd := (x.sd || set_) && !clr, bipSecond := 0, wholeSecond := x.locked }
      let s := (s.raiseIf set_ (Kind.FRM.pg n) FRM.ev_SD_SET).raiseIf clr (Kind.FRM.pg n) FRM.ev_SD_CLEAR
      s.showFrm n

/-- CMD.ALIGN_RESTART: every stream to SEARCH, with no event and no count (R281). -/
def State.alignRestart (s : State) (n : Nat) : State :=
  let s := each (s.rxStreams n) (fun i t =>
    let x := t.stream n i
    if !x.inUse then t
    else t.setStream n i { x with locked := false, missRun := 0, hyps := [], tail := [], held := [], lead := 0, bipOwn := none,
                                  wholeSecond := false, bipSecond := 0 }) s
  let s := s.setFrm n { s.frms n with psVal := none, psOk := false, psRun := 0 }
  (s.showFrm n).gthFollow n

/-- A burst of a leaf gives its payload to the gathering that receives that leaf: all-ones where its spine failed (R286, R321). -/
def State.giveBurst (s : State) (n leaf : Nat) (good : Bool) (plain : List Nat) : State :=
  let at_ := s.dtime
  each (s.gatherings.filter (fun g => s.onCarrier g n && s.flag (GTHW.CFG g) GTHW.CFG_LEAF_VALID && s.get (GTHW.CFG g) GTHW.CFG_LEAF = leaf))
    (fun g t =>
      let pay := plain.drop 64
      let (mark, ph, tag) := if good then t.markOf n 16 g plain else (none, none, none)
      let f := t.frms n
      let d : FolioIn := { at_ := at_, ones := !good, sd := false, bytes := if good then pay else List.replicate pay.length 0xFF, marker := mark,
                           phase := ph, tag := tag, own := true }
      t.setFrm n { f with burstIn := Tab.put (fun _ => []) f.burstIn g (Tab.get (fun _ => []) f.burstIn g ++ [d]) }) s

/-- The folios after a burst's upstream folio until its payload begins (R219, R275). -/
def State.payFolios (s : State) (n start : Nat) : Nat :=
  let sy := symS (s.baud n) (s.kSub n)
  (ceilDiv (start * sy) 1024 + s.get (TXD.page n) TXD.RAMP_CFG_LEN + 320) / max 1 sy

/-- BURST_SPINE_CHECK: the spine and payload of a burst that has its verdict, as FECn passed them; SFAW, LEAF and COUNT are checked
once, and a failed burst's payload is all-ones (R286). A passing burst gives its BIP errors, BEI and MC0 unit (R279, R292). -/
def execBurstSpineCheck (n : Fin 2) (i : Fin 16) (s : State) : Host.Outcome State Fault Refusal :=
  act s fun s =>
    let r := s.burstRx n i
    let fe := s.fecs n
    match r.last, Tab.get (fun _ => none) fe.toFrm i.val with
    | some u, some p =>
      let s := (s.setBurstRx n i { r with last := none }).setFec n { fe with toFrm := Tab.put (fun _ => none) fe.toFrm i none }
      let raw := p.bytes
      let c := countOf false raw
      let plain := scrFolio c raw
      if s.fawMatch n false raw && raw.getD 12 0 = u.leaf && c = (u.folio + s.payFolios n u.start) % 2 ^ 32 then
        let e := popcount 64 (bip64 (raw.drop 64) ^^^ beNat (sub_ plain 16 8))
        let bei := plain.getD 14 0
        let s := (s.count64 (FRM.page n + FRM.BIP_ERRS) e).count64 (FRM.page n + FRM.BEI_ERRS) bei
        let s := s.pm n (fun y => { y with bip := y.bip + e, bei := y.bei + bei })
        let s := s.mcUnit n false (raw.getD 12 0 :: sub_ plain 24 8)
        s.giveBurst n u.leaf true plain
      else
        let s := (s.count (FRM.page n + FRM.SPINE_BAD)).raise (Kind.FRM.pg n) FRM.ev_SPINE_BAD
        s.giveBurst n u.leaf false plain
    | _, _ => s

/-! ### The transmitted folio (R273, R277, R278, R287, R290, R293 to R295, R303) -/

/-- The port that inserts a channel. -/
def State.insertPort (s : State) (n : Nat) (mc1 : Bool) : Option Nat :=
  (List.range 4).find? (fun p => s.flag OSP.page (OSP.PORT_CFG_INS_EN p) && s.get OSP.page (OSP.PORT_CFG_CARRIER p) = n
    && s.flag OSP.page (OSP.PORT_CFG_CHAN p) = mc1)

/-- The units queued at an insertion port. -/
def State.ospFifo (s : State) (p : Nat) : List (List Nat) := Tab.get (fun _ => []) s.osp p
def State.setOspFifo (s : State) (p : Nat) (l : List (List Nat)) : State :=
  { s with osp := Tab.put (fun _ => []) s.osp p l }.set OSP.page (OSP.INS_LEVEL_LEVEL p) l.length

/-- A folio's unit of a management channel, `k` bytes; of the cores' first those of key agreement, then what else they supply
(R290, R293, R376). -/
def State.mcSend (s : State) (n : Nat) (mc1 : Bool) (k : Nat) (core : Option (List Nat)) : List Nat × State :=
  let idle := List.replicate k 0x7E
  match s.get OSP.page (OSP.MC_SRC_SRC (2 * n + b2n mc1)) with
  | 1 =>
    if !s.active Kind.OSP.pages.1 then (idle, s)
    else match s.insertPort n mc1 with
      | none => (idle, s)
      | some p => match s.ospFifo p with
        | [] => (List.replicate k (s.get OSP.page (OSP.PORT_CFG_IDLE p)), s)
        | u :: r => (u.take k ++ List.replicate (k - u.length) 0, s.setOspFifo p r)
  | 2 =>
    let fit := fun (u : List Nat) => u.take k ++ List.replicate (k - u.length) 0
    match (s.frms n).coreTx with
    | u :: r => (fit u, s.setFrm n { s.frms n with coreTx := r })
    | [] => ((core.map fit).getD idle, s)
  | _ => (idle, s)

/-- The capability word sent (Table 9-3). -/
def State.capWord (s : State) (n : Nat) : Nat :=
  let t := TXD.page n
  (s.frms n).verUsed * 2 ^ 60 + s.get (FRM.page n) FRM.CAP_CFG_VER_MAX * 2 ^ 56 + s.get t TXD.MOD_FORMAT * 2 ^ 54
    + s.get t TXD.MOD_ENTROPY * 2 ^ 45 + s.get (FEC.page n) FEC.CTRL_PROFILE * 2 ^ 44 + s.get t TXD.SC_CFG_K_LOG2 * 2 ^ 41
    + s.get t TXD.SC_CFG_ROLLOFF * 2 ^ 38 + s.role n * 2 ^ 36 + 4 * s.get (FRM.page n) FRM.RATE_SERVICE * 2 ^ 29
    + s.baud n * 2 ^ 19 + 0x4800

/-- RDI_POS of a carrier: the positions that GTH or CRY reports failed (R303, R348). -/
def State.rdiPos (s : State) (n : Nat) : Nat :=
  ((s.gatherings.filter (fun g => s.posFailed g n)).filterMap (fun g => (s.gthPos g n).map (2 ^ ·))).sum

/-- The bit of each position with its key phase. -/
def phaseBits (t : Tab Bool) : Nat := ((List.range 32).map (fun h => b2n (Tab.get (fun _ => false) t h) * 2 ^ h)).sum

/-- The headband of a folio before scrambling (Table 9-1); under version 1 positions 16 to 31 are not carried (R296). -/
def State.headband (s : State) (n c : Nat) (mc0 mc1 : List Nat) : List Nat :=
  let f := s.frms n
  let p2p := s.role n = 0
  let rdi := s.role n != 1 && s.flag (FRM.page n) FRM.DEFECTS_RDI_TX
  let top := if f.verUsed = 1 then 16 else 32
  let fes := b2n rdi * 2 ^ 63 + Tab.get (fun _ => 0) f.bei 0 * 2 ^ 56 + s.rdiPos n % 2 ^ top
  let num := fun (t : Tab Nat) (h : Nat) => if h < top then Tab.get (fun _ => 0) t h else 0
  beBytes 8 faw ++ beBytes 4 (c / 256) ++ [c % 256, Config.txTrace n (c % 64) % 256, 0, 0]
    ++ beBytes 4 (if p2p then f.psSend else 0) ++ beBytes 8 (s.capWord n) ++ beBytes 8 fes
    ++ beBytes 8 (num f.bipTx 0) ++ beBytes 4 (phaseBits f.txPhases % 2 ^ top) ++ mc0 ++ mc1
    ++ (if s.role n = 1 then (List.range 16).flatMap (fun e => beBytes 4 (f.burstMap.getD e 0)) else List.replicate 64 0)
    ++ (List.range 32).flatMap (fun h => beBytes 4 (num f.txMarkers h))
    ++ (List.range 32).flatMap (fun h => beBytes 16 (num f.tagsPrev h)) ++ List.replicate 232 0

/-- A stream of a transmitted folio: its number, its payload, and of a burst the unit it carries and the folio in which its payload
begins (R275). -/
structure TxPart where
  stream : Nat
  payload : List Nat
  burst : Option (Option LineUnit × Nat) := none

/-- The spine of a stream or burst before scrambling (Table 9-2). -/
def State.spine (s : State) (n c : Nat) (x : TxPart) (mc0 : List Nat) : List Nat :=
  let f := s.frms n
  let up := s.role n = 2
  let i := x.stream % 16
  let y := s.stream n i
  let rdi := s.flag (FRM.page n) FRM.CTRL_RDI_EN && ((y.inUse && !y.locked) || y.unc || s.blk (Kind.FRM.pg n) = bFAULT)
  let g := s.gatherings.find? (fun g => s.leafOf g = some n)
  let pos := (g.bind (fun g => s.gthPos g n)).getD 0
  let (ph, mark, tag) := match x.burst with
    | some (some u, _) => (u.phase, u.gsn, u.tag)
    | some (none, _) => (false, 0, 0)
    | none => (Tab.get (fun _ => false) f.txPhases pos, Tab.get (fun _ => 0) f.txMarkers pos, Tab.get (fun _ => 0) f.tagsPrev pos)
  let bip := if x.burst.isSome then 0 else Tab.get (fun _ => 0) f.bipTx x.stream
  beBytes 8 sfaw ++ beBytes 4 (c % 2 ^ 32) ++ [if up then s.get (SUB.page n) SUB.LEAF_STATUS_LEAF else 0xFF]
    ++ [b2n rdi * 128 + b2n (up && ph) * 64, Tab.get (fun _ => 0) f.bei i, if up then pos else 0xFF]
    ++ beBytes 8 bip ++ (if up then mc0 else List.replicate 8 0)
    ++ beBytes 4 (if up then mark else 0) ++ beBytes 16 (if up then tag else 0) ++ List.replicate 12 0

/-- One stream of a folio scrambled; a burst's spine carries its own COUNT and the BIP of its own scrambled payload (R279, R280). -/
def State.txStream (s : State) (n c : Nat) (mc0 mc1 : List Nat) (x : TxPart) : List Nat :=
  match x.burst with
  | none => scrFolio c ((if s.role n != 2 && x.stream = 0 then s.headband n c mc0 mc1 else s.spine n c x mc0) ++ x.payload)
  | some (_, k) =>
    let plain := s.spine n k x mc0 ++ x.payload
    let bip := beBytes 8 (bip64 ((scrFolio (k % 2 ^ 32) plain).drop 64))
    scrFolio (k % 2 ^ 32) (plain.take 16 ++ bip ++ plain.drop 24)

/-- The gatherings whose units leave in the continuous streams of carrier n, and the streams that it sends: one in P2P, K in HUB role,
in LEAF role that of the dedicated subcarrier if it has one (R273, R275, R321). -/
def State.txFeeds (s : State) (n : Nat) : List Nat := s.gatherings.filter (fun g => !(s.txSlots g n).isEmpty)
def State.txStreams (s : State) (n : Nat) : List Nat :=
  match s.role n with
  | 0 => [0]
  | 1 => List.range (s.kSub n)
  | _ => if s.leafDed n then [s.get (SUB.page n) SUB.LEAF_STATUS_DED_SUBC] else []

/-- The bursts that start in upstream folio `c` and have no spine and payload yet. -/
def State.burstsNow (s : State) (n c : Nat) : List TxBurst :=
  if s.role n = 2 && !s.leafDed n then
    (s.subst n).bursts.filter (fun u => u.record.isNone && !u.assembled && u.folio % 4096 = c % 4096)
  else []

/-- The units that wait on carrier n for a gathering. -/
def State.readyUnits (s : State) (n g : Nat) : List LineUnit := Tab.get (fun _ => []) (s.frms n).txReady g

/-- Every unit that a folio carries is there, or GTH makes none (log entry 143). -/
def State.unitsReady (s : State) (n c : Nat) : Bool :=
  s.inConfig Kind.GTH.pages.1
    || ((s.txFeeds n).all (fun g => !(s.readyUnits n g).isEmpty)
      && (match s.gatherings.find? (fun g => s.leafOf g = some n) with
        | some g => s.leafDed n || decide ((s.burstsNow n c).length ≤ (s.readyUnits n g).length)
        | none => true))

/-- The payload of a continuous stream: each slot with its gathering's bytes, all-ones where no unit fills it (R274, R317, R324). -/
def State.streamPayload (s : State) (n i : Nat) : List Nat :=
  let m := s.streamSlots n
  (List.range m).flatMap (fun j =>
    match (s.txFeeds n).find? (fun g => (s.txSlots g n).contains (i * m + j)) with
    | some g => match (s.readyUnits n g).head? with
      | some u => sub_ u.bytes (6250 * ((s.txSlots g n).findIdx (· = i * m + j))) 6250
      | none => List.replicate 6250 0xFF
    | none => List.replicate 6250 0xFF)

/-- The units of the continuous streams are taken: their GSNs, phase bits and tags stand at their gatherings' positions (R325, R327). -/
def State.takeUnits (s : State) (n : Nat) : State :=
  each (s.txFeeds n) (fun g t =>
    match t.readyUnits n g with
    | [] => t
    | u :: r =>
      let f := t.frms n
      let f := { f with txReady := Tab.put (fun _ => []) f.txReady g r }
      match t.gthPos g n with
      | none => t.setFrm n f
      | some h => t.setFrm n { f with
          txMarkers := Tab.put (fun _ => 0) f.txMarkers h u.gsn, txPhases := Tab.put (fun _ => false) f.txPhases h u.phase,
          txTags := Tab.put (fun _ => 0) f.txTags h u.tag }) s

/-- The bursts of a folio with the unit that each carries, all-ones without one. -/
def State.burstParts (s : State) (n c : Nat) : List TxPart :=
  let units := match s.gatherings.find? (fun g => s.leafOf g = some n) with
    | some g => s.readyUnits n g
    | none => []
  (s.burstsNow n c).zipIdx.map (fun x =>
    let u := units[x.2]?
    { stream := 16 + x.1.subc, burst := some (u, c + s.payFolios n x.1.start),
      payload := (u.map (·.bytes)).getD (List.replicate (s.burstSize n x.1 / 8 - 64) 0xFF) })

/-- The bursts of a folio have their spine and payload, and their units are taken. -/
def State.takeBursts (s : State) (n c : Nat) : State :=
  let k := (s.burstsNow n c).length
  if k = 0 then s
  else
    let x := s.subst n
    let s := s.setSub n { x with bursts := x.bursts.map (fun u =>
      if u.record.isNone && u.folio % 4096 = c % 4096 then { u with assembled := true } else u) }
    match s.gatherings.find? (fun g => s.leafOf g = some n) with
    | some g => s.setFrm n { s.frms n with txReady := Tab.put (fun _ => []) (s.frms n).txReady g ((s.readyUnits n g).drop k) }
    | none => s

/-- The streams of a folio go to FECn, and to TXDn the folio that it maps when they are coded (Table 1-6). -/
def State.handFolio (s : State) (n c : Nat) (outs : List (TxPart × List Nat)) : State :=
  if !(s.active (Kind.FEC.pg n) && s.active (Kind.TXD.pg n)) then s
  else
    let s := each outs (fun x t =>
      let f := t.fecs n
      let old := Tab.get (fun _ => []) f.txIn x.1.stream
      t.setFec n { f with txIn := Tab.put (fun _ => []) f.txIn x.1.stream (old ++ [(c, bitsOfBytes x.2)]) }) s
    s.setTx n { s.txs n with due := (s.txs n).due ++ [(c, outs.map (·.1.stream))] }

/-- FOLIO_TX: once CRY has passed every unit that the folio carries, FRMn assembles and scrambles its streams, with the MC1 unit that
the cores supply, if any, and hands them to FECn; the count advances, PS and the version change at folio 0 of a quire, RDI follows the
receive defects (R271, R273 to R280, R287, R290, R293 to R295, R303, R325). -/
def execFolioTx (n : Fin 2) (core : Option (List (BitVec 8))) (s : State) : Host.Outcome State Fault Refusal :=
  act s fun s =>
    let b := FRM.page n
    let f := s.frms n
    let c := f.txCount
    if !(s.frmSends n && s.unitsReady n c) then s
    else
      let first := c % 256 = 0
      let ps := if s.flag b FRM.CTRL_PS_HOST then s.nat (b + FRM.PS_TX) else s.nat (GTH.page + GTH.PS_TX)
      let s := s.raiseIf (first && f.verUsed != f.verAgreed) (Kind.FRM.pg n) FRM.ev_VERSION_CHANGE
      let s := s.setFrm n { f with psSend := if first then ps else f.psSend, verUsed := if first then f.verAgreed else f.verUsed }
      let s := s.setB b FRM.DEFECTS_RDI_TX (s.flag b FRM.CTRL_RDI_EN && s.rdiCause n)
      let (mc0, s) := s.mcSend n false 8 none
      let (mc1, s) := if s.role n = 2 then ([], s) else s.mcSend n true 32 (core.map (·.map (·.toNat)))
      let parts := (s.txStreams n).map (fun i => ({ stream := i, payload := s.streamPayload n i } : TxPart)) ++ s.burstParts n c
      let s := (s.takeUnits n).takeBursts n c
      let outs := parts.map (fun x => (x, s.txStream n c mc0 mc1 x))
      let hl := fun (x : TxPart) => if s.role n != 2 && x.stream = 0 then 1024 else 64
      let s := each outs (fun x t => if x.1.burst.isSome then t else
        t.setFrm n { t.frms n with bipTx := Tab.put (fun _ => 0) (t.frms n).bipTx x.1.stream (bip64 (x.2.drop (hl x.1))) }) s
      let s := s.setFrm n { s.frms n with txCount := (c + 1) % 2 ^ 40, tagsPrev := (s.frms n).txTags }
      s.handFolio n c outs

/-! ### OSP (R290 to R294) -/

/-- OSP_EXTRACT_UNIT: the oldest received unit of a channel goes out on every port that extracts it, while OSP is ACTIVE
(R291, R292). -/
def execOspExtractUnit (n : Fin 2) (mc1 : Bool) (s : State) : Host.Outcome State Fault Refusal :=
  act s fun s =>
    let f := s.frms n
    match (if mc1 then f.mc1 else f.mc0) with
    | [] => s
    | u :: r =>
      let s := s.setFrm n (if mc1 then { f with mc1 := r } else { f with mc0 := r })
      if !s.active Kind.OSP.pages.1 then s
      else each ((List.range 4).filter (fun p => s.flag OSP.page (OSP.PORT_CFG_EXT_EN p)
          && s.get OSP.page (OSP.PORT_CFG_CARRIER p) = n.val && s.flag OSP.page (OSP.PORT_CFG_CHAN p) = mc1))
        (fun p t => t.send "osp" ((p : Int) :: u.map (fun (v : Nat) => (v : Int)))) s

/-- OSP_INSERT_UNIT: a unit arrives on an insertion port; one cut short is discarded and counted, one that finds the FIFO
of 16 full overflows (R293). -/
def execOspInsertUnit (p : Fin 4) (unit : List (BitVec 8)) (cut : Bool) (s : State) : Host.Outcome State Fault Refusal :=
  act s fun s =>
    let b := OSP.page
    if !s.active Kind.OSP.pages.1 || !s.flag b (OSP.PORT_CFG_INS_EN p) then s
    else if cut then (s.count (b + OSP.INS_SHORT p)).raise Kind.OSP.pages.1 OSP.ev_INS_SHORT
    else
      let q := s.ospFifo p
      if 16 ≤ q.length then (s.count (b + OSP.INS_OVERFLOWS p)).raise Kind.OSP.pages.1 OSP.ev_INS_OVERFLOW
      else s.setOspFifo p (q ++ [unit.map (·.toNat)])

/-! ### Configuration check and register writes -/

/-- The configuration check of FRMn (R275, R295). -/
def State.checkFrm (s : State) (n : Nat) : Bool :=
  s.role n = 0 || (4 * s.get (FRM.page n) FRM.RATE_SERVICE % s.kSub n = 0 && s.get (FRM.page n) FRM.CAP_CFG_VER_MAX != 1)

/-- Field ranges of Table 9-7. -/
def rangeFRM (off v : Nat) : Bool :=
  if off = FRM.RATE then inR v FRM.RATE_BAUD 120 600 && inR v FRM.RATE_SERVICE 1 24
  else if off = FRM.UNC_CFG then
    inR v FRM.UNC_CFG_N 1 15 && inR v FRM.UNC_CFG_M 1 15 && decide (fv v FRM.UNC_CFG_N ≤ fv v FRM.UNC_CFG_M)
  else if off = FRM.SD_CFG then inR v FRM.SD_CFG_SET 1 65535 && decide (fv v FRM.SD_CFG_CLEAR < fv v FRM.SD_CFG_SET)
  else if off = FRM.PS_PERSIST then inR v FRM.PS_PERSIST_N 2 7
  else if off = FRM.CAP_CFG then inR v FRM.CAP_CFG_VER_MAX 1 2
  else true

/-- A write that reaches FRMn's registers. -/
def wrFRM (n off v : Nat) (s : State) : WOut :=
  if off = FRM.CMD then
    let s := if fb v FRM.CMD_ALIGN_RESTART then s.alignRestart n else s
    ok (if fb v FRM.CMD_HB_SNAP then s.setFrm n { s.frms n with snapDue := true } else s)
  else ok (s.setNat (FRM.page n + off) v)

/-- Field ranges of Table 9-11. -/
def rangeOSP (off v : Nat) : Bool :=
  if off = OSP.MC_SRC then
    (List.range 4).all (fun j => inR v (OSP.MC_SRC_SRC j) 0 (1 + j % 2))
  else true

/-- A write that reaches OSP's registers (R291). -/
def wrOSP (off v : Nat) (s : State) : WOut :=
  let p := (off - OSP.PORT_CFG 0) / 4
  let chan := bitsOf v 2 2
  if OSP.PORT_CFG 0 ≤ off ∧ off ≤ OSP.PORT_CFG 3 ∧ bitOf v 1 ∧ (List.range 4).any (fun q => q != p
      && s.flag OSP.page (OSP.PORT_CFG_INS_EN q) && bitsOf (s.nat (OSP.page + OSP.PORT_CFG q)) 2 2 = chan) then no .state s
  else ok (s.setNat (OSP.page + off) v)

end Sys2Proof.Machine
end

