-- ==== Sys2Proof/Machine/Cal.lean ====
section
/-!
DEFINITION. Converters and blind calibration (chapter 4): the line PLL, the estimation period and its errors, the update
of each converter and its commit at a gutter, health and spare swaps, full calibration, and the exchange of die-to-die
lanes (R12). Codes are numbered 0 OFFSET, 1 GAIN, 2 DELAY, 3 BW; errors are in units of 2⁻¹⁰ of a step.
-/
namespace Sys2Proof.Machine

/-! ### Positions and roles (Tables 4-11, 4-12) -/

/-- The unit that holds a position (Table 4-11). -/
def State.unitAt (s : State) (n c p : Nat) : Nat := s.get (CALW.POSMAP n (4 * c + p / 16)) ⟨p % 16 / 4 * 4, p % 4 * 8, 8⟩

/-- Switching a position to a unit. -/
def State.setUnitAt (s : State) (n c p u : Nat) : State :=
  s.set (CALW.POSMAP n (4 * c + p / 16)) ⟨p % 16 / 4 * 4, p % 4 * 8, 8⟩ u

/-- Writing the four errors of an entry in 1/16 step, saturated at ±127 (Table 4-12). -/
def State.setErrs (s : State) (n e : Nat) (err : List Int) : State :=
  each [(0, CALW.SUBCONV_E_OFF), (1, CALW.SUBCONV_E_GAIN), (2, CALW.SUBCONV_E_SKEW), (3, CALW.SUBCONV_E_BW)]
    (fun f t => t.setI (State.subAt n e) f.2 (clampI 127 (divRound (err.getD f.1 0) 64))) s

/-- The number of free spares of a converter. -/
def State.freeSpares (s : State) (n c : Nat) : Nat := s.get (CNV.page n) (CNV.SPARES_FREE c)

/-! ### The errors (R110 to R113) -/

/-- A quotient; where the divisor is 0 the spec states no value, and a free value stands for it (log 2). -/
def quot (free : Nat) (a b : Int) : Int :=
  if b = 0 then free else if 0 < b then divRound a b.toNat else divRound (-a) (-b).toNat

/-- Sum over the positions. -/
def sumI (l : List Int) : Int := l.foldl (· + ·) 0

/-- N² times 4 times the covariance of positions p and p + 1 (k = 1) or p + 2 (k = 2), and the power (k = 0). -/
def adcCov (a : AdcStats) (k p : Nat) : Int :=
  let x := a.pos.getD (p % 64) {}
  let y := a.pos.getD ((p + k) % 64) {}
  let m : Int := match k with
    | 0 => (x.s2 : Int)
    | 1 => x.c1
    | _ => x.c2
  (a.n : Int) * m - x.s1 * y.s1

/-- The sums over the positions of power, and of power minus lag-2 correlation. -/
def adcPower (a : AdcStats) : Int := sumI ((List.range 64).map (adcCov a 0))
def adcCorr (a : AdcStats) : Int := adcPower a - sumI ((List.range 64).map (adcCov a 2))

/-- R̄₀ − R̄₂ < 0.05 × R̄₀ (R112). -/
def adcWeak (a : AdcStats) : Bool := decide (20 * adcCorr a < adcPower a)

/-- 2²⁰ H_p / P_p. -/
def adcRipple (a : AdcStats) (free p : Nat) : Int :=
  quot (free + p) (((a.pos.getD p {}).h * a.n * 2 ^ 20 : Nat) : Int) (4 * adcCov a 0 p)

/-- √(P_p / P̄) − 1 in units of 2⁻²⁰ (the root rounded down), P̄ over the positions of `v`. -/
def adcRoot (v a : AdcStats) (free p : Nat) : Int :=
  if adcPower v ≤ 0 then (free : Int)
  else (Nat.sqrt ((64 * 2 ^ 40 * (adcCov a 0 p).toNat) / (adcPower v).toNat) : Int) - 2 ^ 20

/-- The four errors of position `p` of `a` against the converter averages of `v` (R110, R127). -/
def adcErrs (v a : AdcStats) (free p : Nat) : List Int :=
  let tau := sumI ((List.range 64).map (adcRipple v free))
  let d := adcCov a 1 p - adcCov a 1 (p + 63)
  [quot free (5 * 1024 * (a.pos.getD p {}).s1) a.n,
   divRound (adcRoot v a free p * 1280) 1024,
   quot free (6250 * 1024 * 64 * d) (27 * adcCorr v),
   quot free (250 * 1024 * (tau - 64 * adcRipple a free p)) tau]

/-- The determinant of a square matrix of `n` rows, by its first row. -/
def det : Nat → List (List Int) → Int
  | 0, _ => 1
  | _ + 1, [] => 0
  | n + 1, row :: rows =>
    sumI ((List.range (n + 1)).map (fun j =>
      (if j % 2 = 0 then 1 else -1) * row.getD j 0 * det n (rows.map (fun x => x.eraseIdx j))))

/-- The regressors of an observation: d, 1, 2 δ1, δ2 (R113). -/
def dacRegr (o : DacObs) : List Int := [o.d, 1, o.dp - o.dm, o.dp - 2 * o.d + o.dm]

/-- The least-squares fit y = a d + b + c δ1 + g δ2 of a position, by the normal equations (R113). -/
def dacFit (free : Nat) (x : DacPos) : DacFit :=
  let m := (List.range 4).map (fun i => (List.range 4).map (fun j =>
    sumI (x.obs.map (fun o => (dacRegr o).getD i 0 * (dacRegr o).getD j 0))))
  let v := (List.range 4).map (fun i => sumI (x.obs.map (fun o => (dacRegr o).getD i 0 * o.y)))
  let all := det 4 m
  let sol := fun (k : Nat) => det 4 ((m.zip v).map (fun r => r.1.set k r.2)) * 2 ^ 20
  { a := quot free (sol 0) all, b := quot free (sol 1) all, c := quot free (2 * sol 2) all, g := quot free (sol 3) all, absent := x.absent }

/-- The four errors of a fit against the averages over `fits` (R113). -/
def dacErrs (fits : List DacFit) (free : Nat) (f : DacFit) : List Int :=
  let sumA := sumI (fits.map (·.a))
  let ratio := fun (h : DacFit) => quot free (h.g * 2 ^ 20) h.a
  let mean := sumI (fits.map ratio)
  [quot free (10 * 64 * 1024 * f.b) sumA,
   quot free (1280 * 1024 * (64 * f.a - sumA)) sumA,
   quot free (-(6250 * 1024) * f.c) (27 * f.a),
   divRound (500 * 1024 * (64 * ratio f - mean)) (64 * 2 ^ 20)]

/-! ### Forming an update (R114) -/

/-- A quantity may step: enabled, at least DEADBAND, and for DELAY the largest of its neighbours with enough
correlation. -/
def State.eligible (s : State) (n : Nat) (weak : Bool) (errs : Nat → List Int) (p k : Nat) : Bool :=
  let e := fun (q k : Nat) => ((errs (q % 64)).getD k 0).natAbs
  let en := bitOf (s.nat (CAL.page n + CAL.CTRL)) (16 + k)
  en && decide (64 * s.get (CAL.page n) CAL.EST_CTRL_DEADBAND ≤ e p k)
    && (k != 2 || (!weak && decide (e (p + 63) 2 ≤ e p 2) && decide (e (p + 1) 2 ≤ e p 2)))

/-- The step of a position, if any: the eligible quantity with the largest error, ties to the first. -/
def State.pickStep (s : State) (n c : Nat) (weak : Bool) (errs : Nat → List Int) (p : Nat) : Option CodeStep :=
  let ks := [0, 1, 2, 3].filter (s.eligible n weak errs p)
  match ks with
  | [] => none
  | k0 :: r =>
    let mag := fun (k : Nat) => ((errs p).getD k 0).natAbs
    let k := r.foldl (fun b x => if mag b < mag x then x else b) k0
    let pos := decide (0 < (errs p).getD k 0)
    some { entry := subEntry c (s.unitAt n c p), code := k, up := if k = 3 then pos else !pos }

/-- A step stands at the end of its code's range. -/
def State.atLimit (s : State) (n : Nat) (x : CodeStep) : Bool :=
  let r := codeRange x.code
  s.code n x.entry x.code = if x.up then r.2 else r.1

/-- The update of a converter replaces one that is held, which counts; a code at its range end raises CODE_LIMIT
(R114, R116). -/
def State.formUpdate (s : State) (n c : Nat) (weak : Bool) (errs : Nat → List Int) : State :=
  if s.get (CAL.page n) CAL.CTRL_MODE != 0 || !s.sideEn n c || !s.active (Kind.CAL.pg n) then s
  else
    let steps := (List.range 64).filterMap (s.pickStep n c weak errs)
    let steps := steps.filter (fun x => !s.frozen n x.entry)
    let go := steps.filter (fun x => !s.atLimit n x)
    let s := s.raiseIf (go.length < steps.length) (Kind.CAL.pg n) CAL.ev_CODE_LIMIT
    let old := Tab.get (fun _ => []) (s.cals n).pend c
    let s := if old.isEmpty || s.convGutter n c then s else s.count (CAL.page n + CAL.HOLD_REPLACED)
    s.setCal n { s.cals n with pend := Tab.put (fun _ => []) (s.cals n).pend c go }

/-! ### Spares and swaps (R127 to R130) -/

/-- The lowest-numbered free spare of a converter. -/
def State.freeUnit (s : State) (n c : Nat) : Option Nat :=
  (List.range 68).find? (fun u => s.roleOf n (subEntry c u) = roleFREE)

/-- The free count of a converter follows its entries. -/
def State.showSpares (s : State) (n c : Nat) : State :=
  s.set (CNV.page n) (CNV.SPARES_FREE c) ((List.range 68).filter (fun u => s.roleOf n (subEntry c u) = roleFREE)).length

/-- SPARE_STATUS and SPARE_BUSY follow the swap (Table 4-14). The rules do not say when each value of STAGE shows: here 1 while
pre-calibration runs, 2 once ready, 3 after the switch, 4 when no spare remains, 0 after ABORT_SPARE (DESIGN CHOICE, log entry
116). -/
def State.showSwap (s : State) (n stage : Nat) : State :=
  let b := CAL.page n
  let s := (s.set b CAL.SPARE_STATUS_STAGE stage).setB b CAL.STATUS_SPARE_BUSY (s.cals n).swap.isSome
  match (s.cals n).swap with
  | none => s
  | some w =>
    let s := ((s.set b CAL.SPARE_STATUS_CONV w.conv).set b CAL.SPARE_STATUS_POS w.pos).set b CAL.SPARE_STATUS_UNIT w.unit
    s.set b CAL.SPARE_STATUS_PERIODS (min 511 w.periods)

/-- Step 1 of a swap: the lowest free spare goes to SPARE_PRECAL; without one SPARES_EXHAUSTED is raised and the failing
unit stays (R127, R129). -/
def State.startSwap (s : State) (n c p : Nat) : State :=
  match s.freeUnit n c with
  | none => ((s.setCal n { s.cals n with swap := none }).showSwap n 4).raise (Kind.CAL.pg n) CAL.ev_SPARES_EXHAUSTED
  | some u =>
    let old := s.unitAt n c p
    let s := (s.setRole n (subEntry c u) rolePRECAL).set (State.subAt n (subEntry c u)) CALW.SUBCONV_POSITION p
    let pend := Tab.get (fun _ => []) (s.cals n).pend c
    let keep := pend.filter (fun x => x.entry != subEntry c old)
    let s := s.setCal n { s.cals n with
      swap := some { conv := c, pos := p, unit := u, failed := old },
      pend := Tab.put (fun _ => []) (s.cals n).pend c keep }
    (s.showSpares n c).showSwap n 1

/-- A unit is retired: its entry says so and the map records it (R130). -/
def State.retireUnit (s : State) (n c u : Nat) : State :=
  ((s.setRole n (subEntry c u) roleRETIRED).showSpares n c).repair 1 1 (locSubconv n c u)

/-- Swaps start by themselves: TRACK with AUTO_SPARE, CALn ACTIVE (R120, R127). -/
def State.autoSwap (s : State) (n : Nat) : Bool :=
  s.get (CAL.page n) CAL.CTRL_MODE = 0 && s.flag (CAL.page n) CAL.CTRL_AUTO_SPARE && s.active (Kind.CAL.pg n)

/-- The next failure that waits for its swap starts it, one swap at a time on a carrier (R127, R128); failures that came
before swaps stopped starting by themselves wait for CMD.SWAP. -/
def State.nextSwap (s : State) (n : Nat) : State :=
  let x := s.cals n
  if !s.autoSwap n then s.setCal n { x with swapWait := [] }
  else match x.swap, x.swapWait with
    | none, (c, p) :: r => (s.setCal n { x with swapWait := r }).startSwap n c p
    | _, _ => s

/-- A health failure, once per unit: FAIL_CAUSE, HEALTH_FAIL, and its position waits for a swap where swaps start by
themselves and none of it runs; without a free spare SPARES_EXHAUSTED is raised (R126, R127, R129). -/
def State.healthFail (s : State) (n c u cause : Nat) : State :=
  let e := subEntry c u
  if (s.cals n).sick.contains e then s
  else
    let s := s.setCal n { s.cals n with sick := (s.cals n).sick ++ [e] }
    let s := (s.set (State.subAt n e) CALW.SUBCONV_FAIL_CAUSE cause).raise (Kind.CAL.pg n) CAL.ev_HEALTH_FAIL
    match (List.range 64).find? (fun p => s.unitAt n c p = u) with
    | none => s
    | some p =>
      if !s.autoSwap n || s.frozen n e then s
      else if s.freeSpares n c = 0 then s.raise (Kind.CAL.pg n) CAL.ev_SPARES_EXHAUSTED
      else (s.setCal n { s.cals n with swapWait := (s.cals n).swapWait ++ [(c, p)] }).sweepYield 4

/-- The health conditions of an active unit at the end of a period (Table 4-5): the first that holds. -/
def State.healthCause (s : State) (n e : Nat) (run : Nat) (stuck low : Bool) : Nat :=
  let m : Int := s.get (CAL.page n) CAL.LIMITS_HEALTH_MARGIN
  let near := [0, 1, 2, 3].any (fun k =>
    let r := codeRange k
    let v := s.code n e k
    decide (v - r.1 ≤ m) || decide (r.2 - v ≤ m))
  if near then 1 else if s.get (CAL.page n) CAL.LIMITS_HEALTH_PERSIST ≤ run then 2
  else if stuck then 3 else if low then 4 else 0

/-- One position at the end of a period: its errors are shown, its run of large errors counted, its health judged. -/
def State.judge (s : State) (n c p : Nat) (err : List Int) (stuck low : Bool) : State :=
  let u := s.unitAt n c p
  let e := subEntry c u
  let s := s.setErrs n e err
  let big := err.any (fun x => 1024 * s.get (CAL.page n) CAL.LIMITS_HEALTH_ERR < x.natAbs)
  let run := if big then min 255 (Tab.get (fun _ => 0) (s.cals n).persist e + 1) else 0
  let s := s.setCal n { s.cals n with persist := Tab.put (fun _ => 0) (s.cals n).persist e run }
  let cause := s.healthCause n e run stuck low
  if cause = 0 then s else s.healthFail n c u cause

/-! ### Estimation periods (R110 to R114, R119) -/

/-- A period of converter `c` has run: none begins while an update waits for a valid slot, and it lasts L intervals of 2 µs, less
the 50 ppm that the line may run fast, from where it began (R25, R119). -/
def State.periodRuns (s : State) (n c : Nat) : Bool :=
  let x := s.cals n
  ((Tab.get (fun _ => []) x.pend c).isEmpty || !s.convGutter n c || !s.sideEn n c)
    && (match Tab.get (fun _ => none) x.periodFrom c with
        | some t => decide (t + 2 ^ s.get (CAL.page n) CAL.EST_CTRL_LENGTH_LOG2 * 19999 / 10 ≤ s.now)
        | none => true)

/-- The next period of a converter begins at `t`. -/
def State.periodBegin (s : State) (n c t : Nat) : State :=
  s.setCal n { s.cals n with periodFrom := Tab.put (fun _ => none) (s.cals n).periodFrom c (some t) }

/-- A converter at the end of its period: 64 positions, then its update. -/
def State.convPeriod (s : State) (n c : Nat) (weak : Bool) (errs : List (List Int)) (stuck low : Nat → Bool) : State :=
  let s := each (List.range 64) (fun p t => t.judge n c p (errs.getD p []) (stuck p) (low p)) s
  (s.formUpdate n c weak (fun p => errs.getD p [])).periodBegin n c s.now

/-- Samples of one ADC in a period, in units whose 10⁻⁴ is 72 L (Table 4-10). -/
def State.clipLimit (s : State) (n : Nat) : Nat := 72 * 2 ^ s.get (CAL.page n) CAL.EST_CTRL_LENGTH_LOG2

/-- The ADCs whose periods have run. -/
def State.adcDue (s : State) (n : Nat) : List Nat := (List.range 4).filter (fun i => s.periodRuns n (4 + i))

/-- The ADC side of a period (R110 to R112). -/
def State.adcPeriod (s : State) (n : Nat) (adc : List AdcStats) : State :=
  let b := CNV.page n
  let free := s.freeVal
  let due := s.adcDue n
  let s := s.nextFree
  let s := each due (fun i t =>
    let a := adc.getD i { n := 0, pos := [] }
    let t := (t.set b (CNV.ADC_LEVEL_RMS i) a.level).set b (CNV.ADC_LEVEL_PEAK i) a.peak
    let t := t.set b (CNV.ADC_CLIP_COUNT i) a.clips
    let t := t.raiseIf (t.clipLimit n < a.clips) (Kind.CNV.pg n) CNV.ev_ADC_CLIP
    t.convPeriod n (4 + i) (adcWeak a) ((List.range 64).map (adcErrs a a free)) (fun p => (a.pos.getD p {}).stuck) (fun _ => false)) s
  let weak := due.any (fun i => adcWeak (adc.getD i { n := 0, pos := [] }))
  if due.isEmpty then s
  else (s.setB (CAL.page n) CAL.STATUS_SKEW_WEAK weak).raiseIf weak (Kind.CAL.pg n) CAL.ev_SKEW_WEAK

/-- The observation receiver's dwell on a DAC goes on, or it moves to the next DAC (R113). -/
def State.obsNext (s : State) (n : Nat) : State :=
  let x := s.cals n
  if s.get (CAL.page n) CAL.OBS_CTRL_DWELL ≤ x.obsCount + 1 then
    s.setCal n { x with obsDac := (x.obsDac + 1) % 4, obsCount := 0 }
  else s.setCal n { x with obsCount := x.obsCount + 1 }

/-- The DAC side of a period: the DAC observed, then the dwell (R113). -/
def State.dacPeriod (s : State) (n : Nat) (fits : List DacFit) : State :=
  let free := s.freeVal
  let c := (s.cals n).obsDac
  if !s.periodRuns n c then s
  else
    let sumA := sumI (fits.map (·.a))
    let low := fun p => let f := fits.getD p { a := 0 }; f.absent || decide (128 * f.a < sumA)
    (s.nextFree.convPeriod n c false (fits.map (dacErrs fits free)) (fun _ => false) low).obsNext n

/-- The errors of a spare as if it held its position, where this period measured its converter: an ADC by its statistics against the
neighbours, the DAC observed by its fit (R127). -/
def State.spareErrs (s : State) (n free : Nat) (adc : List AdcStats) (fits : List DacFit) (m : SpareMeas) : Option (List Int) :=
  let p := m.pos.val
  if 4 ≤ m.conv.val then
    (adc[m.conv.val - 4]?).map (fun v =>
      let q := (p + 63) % 64
      let pos := (v.pos.set p m.adc).set q { v.pos.getD q {} with c1 := m.prev }
      adcErrs v { v with pos := pos } free p)
  else if m.conv.val = (s.cals n).obsDac && !fits.isEmpty then some (dacErrs fits free (dacFit free m.dac))
  else none

/-- A spare's codes corrected without step limit: each code whose error is not below the deadband moves by the whole error,
rounded, within its range (R127; the rules do not give the size of a correction: DESIGN CHOICE, log entry 117). -/
def State.spareCorrect (s : State) (n e : Nat) (err : List Int) : State :=
  each [0, 1, 2, 3] (fun k t =>
    let x := err.getD k 0
    if x.natAbs < 64 * t.get (CAL.page n) CAL.EST_CTRL_DEADBAND then t
    else
      let v := if k = 3 then t.code n e k + divRound x 1024 else t.code n e k - divRound x 1024
      let r := codeRange k
      t.setCode n e k (max r.1 (min r.2 v))) s

/-- Every error is below the deadband. -/
def State.withinBand (s : State) (n : Nat) (err : List Int) : Bool :=
  err.all (fun x => decide (x.natAbs < 64 * s.get (CAL.page n) CAL.EST_CTRL_DEADBAND))

/-- A period of the spare in pre-calibration: its errors, its codes corrected, its run below the deadband, ready after 4 (R127). -/
def State.sparePeriod (s : State) (n : Nat) (adc : List AdcStats) (fits : List DacFit) (m : SpareMeas) : State :=
  match (s.cals n).swap with
  | none => s
  | some w =>
    if m.conv.val ≠ w.conv ∨ m.unit.val ≠ w.unit ∨ m.pos.val ≠ w.pos then s
    else match s.spareErrs n s.freeVal adc fits m with
      | none => s
      | some err =>
        let e := subEntry w.conv w.unit
        let s := s.nextFree.setErrs n e err
        let run := if s.withinBand n err then w.okRun + 1 else 0
        let s := s.spareCorrect n e err
        let rdy := w.ready || decide (4 ≤ run)
        let s := s.setCal n { s.cals n with swap := some { w with okRun := run, periods := w.periods + 1, ready := rdy } }
        (s.showSwap n (if rdy then 2 else 1)).raiseIf (rdy && !w.ready) (Kind.CAL.pg n) CAL.ev_SPARE_READY

/-! ### Full calibration: bisection (R122, R123, Table 4-4) -/

/-- The codes that a step of Table 4-4 moves. -/
def stageCodes (k : Nat) : List Nat := if k = 0 then [0, 1] else if k = 1 then [2] else if k = 2 then [3] else []

/-- The latest end of a step, from the start of the calibration. -/
def stageEnd (k : Nat) : Nat := if k = 0 then 4 * nsMs else if k = 1 then 24 * nsMs else 32 * nsMs

/-- The sub-converters that a full calibration works on: all but the retired. -/
def State.fullUnits (s : State) (n : Nat) : List Nat := (List.range 544).filter (fun e => s.roleOf n e ≠ roleRETIRED)

/-- A code moves by bisection: the range left shrinks to the side that its error asks for, and the code goes to its middle (R123; how
the range starts and rounds: DESIGN CHOICE, log entry 118). -/
def State.bisect (s : State) (n e k : Nat) (x : Int) : State :=
  if x.natAbs < 64 * s.get (CAL.page n) CAL.EST_CTRL_DEADBAND then s
  else
    let r := (Tab.get (fun _ => none) (s.cals n).fullLim (4 * e + k)).getD (codeRange k)
    let v := s.code n e k
    let up := if k = 3 then decide (0 < x) else decide (x < 0)
    let r := if up then (v + 1, r.2) else (r.1, v - 1)
    if r.2 < r.1 then s
    else
      (s.setCal n { s.cals n with fullLim := Tab.put (fun _ => none) (s.cals n).fullLim (4 * e + k) (some r) }).setCode n e k ((r.1 + r.2) / 2)

/-- A sub-converter measured in a period of a full calibration. -/
def State.fullMeasure (s : State) (n e : Nat) (err : List Int) : State :=
  let s := s.setErrs n e err
  let x := s.cals n
  if x.fullStage < 3 then
    let ks := stageCodes x.fullStage
    let s := each ks (fun k t => t.bisect n e k (err.getD k 0)) s
    if s.withinBand n (ks.map (fun k => err.getD k 0)) then
      s.setCal n { s.cals n with fullTodo := (s.cals n).fullTodo.filter (· ≠ e) } else s
  else
    let run := if s.withinBand n err then Tab.get (fun _ => 0) x.fullGood e + 1 else 0
    s.setCal n { x with fullGood := Tab.put (fun _ => 0) x.fullGood e run }

/-- A step of Table 4-4 gives way to the next when every sub-converter is within the deadband, or at its latest time. -/
def State.fullAdvance (s : State) (n : Nat) : State :=
  let x := s.cals n
  if x.fullStage < 3 ∧ (x.fullTodo = [] ∨ x.fullFrom + stageEnd x.fullStage ≤ s.now) then
    s.setCal n { x with fullStage := x.fullStage + 1, fullTodo := s.fullUnits n }
  else s

/-- A period of 16 intervals in a full calibration: the ADCs, the DAC observed and the spares named are measured (R123). -/
def State.fullPeriod (s : State) (n : Nat) (adc : List AdcStats) (fits : List DacFit) (spares : List SpareMeas) : State :=
  let free := s.freeVal
  let c := (s.cals n).obsDac
  let sp := spares.filterMap (fun m => (s.spareErrs n free adc fits m).map (fun err => (subEntry m.conv m.unit, err)))
  let s := each (List.range adc.length) (fun i t =>
    let a := adc.getD i { n := 0, pos := [] }
    each (List.range 64) (fun p t => t.fullMeasure n (subEntry (4 + i) (t.unitAt n (4 + i) p)) (adcErrs a a free p)) t) s.nextFree
  let s := each (List.range fits.length) (fun p t =>
    t.fullMeasure n (subEntry c (t.unitAt n c p)) (dacErrs fits free (fits.getD p { a := 0 }))) s
  let s := each sp (fun x t => t.fullMeasure n x.1 x.2) s
  (if fits.isEmpty then s else s.setCal n { s.cals n with obsDac := (c + 1) % 4 }).fullAdvance n

/-! ### The line PLL (R643) -/

/-- The die-to-die link: all lanes of both directions in service, on a running PLL (R10, Table 4-9). -/
def State.showD2d (s : State) (n : Nat) : State :=
  let x := s.cals n
  s.setB (CNV.page n) CNV.D2D_STATUS_LINK_OK
    (s.flag (CNV.page n) CNV.PLL_STATUS_LOCKED && x.d2dDue.isEmpty && x.d2dDead.isEmpty)

/-- A full calibration begins: inputs to the noise source, DACs isolated, held updates discarded; the codes start from their reset
values while CODES_VALID = 0 (R122, R123). -/
def State.fullStart (s : State) (n : Nat) (byUp : Bool) : State :=
  let s := if s.flag (CAL.page n) CAL.STATUS_CODES_VALID then s
    else each (List.range 544) (fun e t => t.setNat (State.subAt n e) (resetWord (State.subAt n e)).toNat) s
  let s := (s.calDrop n).setCal n { s.cals n with
    fullRunning := true, fullByUp := byUp, pend := [], fullFrom := s.now, fullStage := 0, fullLim := [], fullTodo := s.fullUnits n,
    fullGood := [] }
  (s.set (CNV.page n) CNV.PATH_STATE_ADC_IN 1).showOut n

/-- The leave for CMD.FULL is granted: the PLL starts (R125, R643). -/
def State.fullGranted (s : State) (n : Nat) : State := (s.fullStart n false).pllFollow n

/-- The line PLL is locked in a bring-up: the laser and driver enables go high, and a full calibration runs when CODES_VALID = 0 or
FULL_AT_UP = 1 and CALn is ACTIVE; one that CMD.FULL started is waited for (R54, R120, R122, R207). -/
def State.pllBringUp (s : State) (n : Nat) : State :=
  let s := s.setCal n { s.cals n with upLocked := true }
  let s := s.setTx n ({ s.txs n with laserEn := true, enabledAt := s.now } : TxState).enables
  let s := (s.showOut n).laserEnabled n
  if (s.cals n).fullRunning then s
  else if s.active (Kind.CAL.pg n)
      && (!s.flag (CAL.page n) CAL.STATUS_CODES_VALID || s.flag (CAL.page n) CAL.CTRL_FULL_AT_UP) then s.fullStart n true
  else s.bringUpCalDone n

/-- LINE_PLL_LOCKED: LOCKED and PLL_LOCK; in a bring-up its next steps follow (R207, R643). -/
def execLinePllLocked (n : Fin 2) (s : State) : Host.Outcome State Fault Refusal :=
  act s fun s =>
    let c := s.cals n
    if !c.pllRuns || s.flag (CNV.page n) CNV.PLL_STATUS_LOCKED then s
    else
      let s := (s.setB (CNV.page n) CNV.PLL_STATUS_LOCKED true).raise (Kind.CNV.pg n) CNV.ev_PLL_LOCK
      let s := (s.setCal n { s.cals n with pllLockedOnce := true }).showD2d n
      if s.carrier n = cBRINGING && !c.upLocked then s.pllBringUp n else s

/-- LINE_PLL_UNLOCK: a loss of lock while the PLL runs, after it first locked (R643). -/
def execLinePllUnlock (n : Fin 2) (s : State) : Host.Outcome State Fault Refusal :=
  act s fun s =>
    if !(s.cals n).pllRuns || !s.flag (CNV.page n) CNV.PLL_STATUS_LOCKED then s
    else
      let s := (s.setB (CNV.page n) CNV.PLL_STATUS_LOCKED false).bump (CNV.page n) CNV.PLL_STATUS_UNLOCKS
      (s.showD2d n).raise (Kind.CNV.pg n) CNV.ev_PLL_UNLOCK

/-! ### Estimation -/

/-- SIG_OK_CHANGE: SIG_OK falls, which discards the ADC period and raises SIG_LOW, or returns, and a new period begins (R111). -/
def execSigOkChange (n : Fin 2) (ok : Bool) (s : State) : Host.Outcome State Fault Refusal :=
  act s fun s =>
    let was := s.flag (CNV.page n) CNV.PATH_STATE_SIG_OK
    let s := s.setB (CNV.page n) CNV.PATH_STATE_SIG_OK ok
    let s := if !was && ok then each (List.range 4) (fun i t => t.periodBegin n (4 + i) t.now) s else s
    (s.raiseIf (was && !ok) (Kind.CNV.pg n) CNV.ev_SIG_LOW).calHold n

/-- CAL_PERIOD_END: the ADC statistics count while SIG_OK = 1 and the observation receiver's while it runs; each converter whose
period has run forms an update, health is judged, and a spare's pre-calibration goes on; during a full calibration the codes
move by bisection (R110 to R114, R119, R123, R126, R127). -/
def execCalPeriodEnd (n : Fin 2) (adc : List AdcStats) (dac : List DacPos) (spares : List SpareMeas) (s : State) :
    Host.Outcome State Fault Refusal :=
  act s fun s =>
    if !s.active (Kind.CAL.pg n) then s
    else
      let adc := if adc.length = 4 && s.flag (CNV.page n) CNV.PATH_STATE_SIG_OK then adc else []
      let dac := if dac.length = 64 && s.flag (CAL.page n) CAL.OBS_CTRL_OBS_EN && !(s.cals n).obsFailed then dac else []
      let fits := dac.map (dacFit s.freeVal)
      if (s.cals n).fullRunning then s.fullPeriod n adc fits spares
      else
        let s := each spares (fun m t => t.sparePeriod n adc fits m) s
        let s := if adc.isEmpty then s else s.adcPeriod n adc
        let s := if fits.isEmpty then s else s.dacPeriod n fits
        (s.nextSwap n).calHold n

/-! ### Commits (R115 to R121) -/

/-- One step of a code. -/
def State.stepCode (s : State) (n : Nat) (x : CodeStep) : State :=
  let s := s.setCode n x.entry x.code (s.code n x.entry x.code + (if x.up then 1 else -1))
  s.bump (State.subAt n x.entry) CALW.SUBCONV_COMMITS

/-- A commit is counted and stamped (Table 4-6). -/
def State.committed (s : State) (n : Nat) : State :=
  let s := s.setNat64 (CAL.page n + CAL.COMMIT_COUNT) ((s.nat64 (CAL.page n + CAL.COMMIT_COUNT) + 1) % 2 ^ 64)
  s.setNat64 (CAL.page n + CAL.LAST_COMMIT_TIME) s.dtime

/-- HOLD ends at the commit of a held update once no step is held any more (R116). -/
def State.holdEnd (s : State) (n : Nat) : State :=
  if s.flag (CAL.page n) CAL.STATUS_HOLD && !s.calHeld n then
    (s.setB (CAL.page n) CAL.STATUS_HOLD false).raise (Kind.CAL.pg n) CAL.ev_HOLD_END
  else s

/-- The lanes of a carrier await an exchange, which precedes other changes (R118). -/
def State.d2dWaits (s : State) (n : Nat) (tx : Bool) : Bool := (s.cals n).d2dDue.any (fun x => x.1 = if tx then 0 else 1)

/-- A swap is ready to switch in a direction: R128's conditions hold too. With several subcarriers RXDn is taken to be in its tracking
state when each of them in use is in TRACK or in burst reception; the rules speak of one state (DESIGN CHOICE, log entry 119). -/
def State.swapDue (s : State) (n : Nat) (tx : Bool) : Bool :=
  match (s.cals n).swap with
  | none => false
  | some w =>
    w.ready && tx == decide (w.conv < 4)
      && (tx || (s.usedSubs n).all (fun i => (s.subc n i).st = .track || (s.subc n i).st = .burst))
      && (match (s.cals n).lastSwap with
          | some t => decide (t + 128000 ≤ s.now)
          | none => true)

/-- A gutter slot of a direction is valid and free: no shed, no full calibration, and no change of its carrier in this slot yet, one
slot to a folio of 2 µs less 50 ppm (R116 to R118); `gap`: the change falls in a valid interval off the gutter (R117). -/
def State.slotFree (s : State) (n : Nat) (tx : Bool) (gap : Bool := false) : Bool :=
  !s.shed && !(s.cals n).fullRunning && (gap || s.convGutter n (if tx then 0 else 4))
    && (match (s.cals n).slotAt.at (if tx then 0 else 1) with
        | some t => decide (t + 1999 ≤ s.now)
        | none => true)

/-- A change takes the slot (R118). -/
def State.slotTake (s : State) (n : Nat) (tx : Bool) : State :=
  s.setCal n { s.cals n with slotAt := (s.cals n).slotAt.put (if tx then 0 else 1) (some s.now) }

/-- A slot may carry a change of the codes or the map: CALn is ACTIVE (R120). -/
def State.slotOpen (s : State) (n : Nat) (tx : Bool) (gap : Bool := false) : Bool :=
  s.active (Kind.CAL.pg n) && s.slotFree n tx gap

/-- CAL_GUTTER_COMMIT: at a valid gutter slot of a direction, one converter's update, or in MANUAL one step of every
code toward its target, unless a lane exchange or a swap takes the slot; the converter's next period begins after the folio
(R114 to R121). `gap` names a symbol of the transmitted folio at which a leaf's DAC update may go in too, its DACs being ramped to
zero between its bursts (R117, R196). -/
def execCalGutterCommit (n : Fin 2) (tx : Bool) (gap : Option Nat) (s : State) : Host.Outcome State Fault Refusal :=
  act s fun s =>
    let zero := match gap with
      | some p => tx && s.betweenBursts n p
      | none => false
    if gap.isSome && !zero then s
    else if !s.slotOpen n tx zero || s.d2dWaits n tx || s.swapDue n tx then s.calHold n
    else
      let mode := s.get (CAL.page n) CAL.CTRL_MODE
      if mode = 0 then
        match (s.cals n).pend.find? (fun e => tx == decide (e.1 < 4) && !e.2.isEmpty && s.sideEn n e.1) with
        | none => s
        | some (c, steps) =>
          let s := each steps (fun x t => t.stepCode n x) s
          let s := s.setCal n { s.cals n with pend := Tab.put (fun _ => []) (s.cals n).pend c [] }
          (((s.periodBegin n c (s.now + 2000)).slotTake n tx).committed n).holdEnd n
      else if mode = 2 && s.sideEn n (if tx then 0 else 4) then
        let steps := s.slewSteps n tx
        if steps.isEmpty then s
        else (((each steps (fun x t => t.stepCode n x) s).slotTake n tx).committed n).holdEnd n
      else s

/-- SPARE_SWAP_COMMIT: the position map switches to the ready spare; the failed unit retires (R127, R128, R130). The rules bar
commits of codes in FROZEN and under ADC_EN or DAC_EN = 0; a ready swap still switches (DESIGN CHOICE, log entry 120). -/
def execSpareSwapCommit (n : Fin 2) (s : State) : Host.Outcome State Fault Refusal :=
  act s fun s =>
    match (s.cals n).swap with
    | none => s
    | some w =>
      let tx := decide (w.conv < 4)
      if !s.slotOpen n tx || s.d2dWaits n tx || !s.swapDue n tx then s
      else
        let s := (s.setUnitAt n w.conv w.pos w.unit).setRole n (subEntry w.conv w.unit) roleACTIVE
        let s := (s.repair 1 2 (locSubconv n w.conv w.unit)).retireUnit n w.conv w.failed
        let s := s.useSpare RPR.SPARES_SUBCONV
        let s := (s.setCal n { s.cals n with swap := none, lastSwap := some s.now }).slotTake n tx
        let s := ((s.showSwap n 3).raise (Kind.CAL.pg n) CAL.ev_SPARE_SWAPPED).nextSwap n
        if tx then s else s.setRx n { s.rxs n with flagged := true }

/-- SPARE_PRECAL_TIMEOUT: a spare not ready in 256 periods is retired and the next free spare is tried (R129). -/
def execSparePrecalTimeout (n : Fin 2) (s : State) : Host.Outcome State Fault Refusal :=
  act s fun s =>
    match (s.cals n).swap with
    | none => s
    | some w =>
      if w.ready || w.periods < 256 then s
      else
        let s := (s.retireUnit n w.conv w.unit).useSpare RPR.SPARES_SUBCONV
        (s.raise (Kind.CAL.pg n) CAL.ev_SPARE_FAIL).startSwap n w.conv w.pos

/-! ### The end of a full calibration (R122 to R125) -/

/-- FULL_CAL_DONE: the codes reached are kept, the units without two good residual periods are marked, the paths return, and
CODES_VALID = 1; one that CMD.FULL started gives back its leave and, with the carrier DOWN, stops the PLL; a bring-up goes on (R123
to R125, R643). -/
def execFullCalDone (n : Fin 2) (obsFail : Bool) (s : State) : Host.Outcome State Fault Refusal :=
  act s fun s =>
    let x := s.cals n
    if !x.fullRunning then s
    else
      let failed := (s.fullUnits n).filter (fun e => Tab.get (fun _ => 0) x.fullGood e < 2)
      let s := s.fullEnd n
      let s := s.setCal n { s.cals n with obsFailed := obsFail }
      let s := (s.setB (CAL.page n) CAL.STATUS_CODES_VALID true).raise (Kind.CAL.pg n) CAL.ev_FULL_DONE
      let s := s.raiseIf obsFail (Kind.CAL.pg n) CAL.ev_OBS_FAIL
      let s := s.raiseIf (!failed.isEmpty) (Kind.CAL.pg n) CAL.ev_FULL_FAIL
      let s := each failed (fun e t => if t.roleOf n e = roleACTIVE then t.healthFail n (e / 68) (e % 68) 5
        else t.set (State.subAt n e) CALW.SUBCONV_FAIL_CAUSE 5) s
      ((s.nextSwap n).pllFollow n).bringUpCalDone n

/-! ### Die-to-die lanes (R12, Table 4-10) -/

/-- Free spare lanes of a direction, those promised to a scheduled exchange apart. -/
def State.laneSpares (s : State) (n d : Nat) : Nat :=
  (s.cals n).d2dSpares.at d - ((s.cals n).d2dDue.filter (fun x => x.1 = d)).length

/-- A data lane is scheduled for exchange, or fails the link when no spare is left. -/
def State.d2dLaneFail (s : State) (n d lane : Nat) (bySweep : Bool) : State :=
  let x := s.cals n
  if 512 ≤ lane || x.d2dDue.any (fun y => y.1 = d && y.2.1 = lane) || x.d2dDead.contains (d, lane) then s
  else if s.laneSpares n d = 0 then
    ((s.setCal n { x with d2dDead := x.d2dDead ++ [(d, lane)] }).showD2d n).raise (Kind.CNV.pg n) CNV.ev_D2D_LINK_FAIL
  else (s.setCal n { x with d2dDue := x.d2dDue ++ [(d, lane, bySweep)] }).showD2d n

/-- D2D_LANE_FAIL: a data lane fails and is scheduled for exchange, or is reported with no spare left. -/
def execD2dLaneFail (n : Fin 2) (toCore : Bool) (lane : Fin 528) (s : State) : Host.Outcome State Fault Refusal :=
  act s fun s => (s.sweepYield 3).d2dLaneFail n (b2n toCore) lane false

/-- D2D_LANE_EXCHANGE: at a valid gutter slot of its direction the first lane due is exchanged for a spare (R12, R118). -/
def execD2dLaneExchange (n : Fin 2) (toCore : Bool) (s : State) : Host.Outcome State Fault Refusal :=
  act s fun s =>
    let d := b2n toCore
    let x := s.cals n
    match x.d2dDue.find? (fun y => y.1 = d) with
    | none => s
    | some y =>
      if !s.slotFree n (!toCore) then s
      else
        let free := x.d2dSpares.at d - 1
        let s := (s.setCal n { x with d2dDue := x.d2dDue.erase y, d2dSpares := x.d2dSpares.put d free }).slotTake n (!toCore)
        let s := s.bump (CNV.page n) (if toCore then CNV.D2D_STATUS_SPARES_RX else CNV.D2D_STATUS_SPARES_TX)
        let s := (s.showD2d n).raise (Kind.CNV.pg n) CNV.ev_D2D_LANE_SPARED
        let s := s.raiseIf (free = 0) (Kind.CNV.pg n) CNV.ev_D2D_SPARES_EXHAUSTED
        let s := s.raiseIf y.2.2 Kind.RPR.pages.1 RPR.ev_LANE_EXCHANGED
        (s.repair 4 1 (locLane n d y.2.1)).useSpare RPR.SPARES_LANES

/-! ### Register writes of CALn -/

/-- Field ranges of Table 4-14. -/
def rangeCAL (off v : Nat) : Bool :=
  if off = CAL.CTRL then fv v CAL.CTRL_MODE != 3
  else if off = CAL.EST_CTRL then inR v CAL.EST_CTRL_LENGTH_LOG2 4 12 && inR v CAL.EST_CTRL_DEADBAND 8 63
  else if off = CAL.LIMITS then
    inR v CAL.LIMITS_HEALTH_MARGIN 1 64 && inR v CAL.LIMITS_HEALTH_PERSIST 1 255 && inR v CAL.LIMITS_HEALTH_ERR 2 127
  else if off = CAL.OBS_CTRL then inR v CAL.OBS_CTRL_DWELL 1 15
  else true

/-- A change of MODE: leaving TRACK discards what is held, and leaving MANUAL ends its slew; leaving MANUAL for TRACK sets the
targets to the committed codes (R120, R121). -/
def State.calMode (s : State) (n old new : Nat) : State :=
  let s := if old != new then
      (s.setCal n { s.cals n with pend := [] }).setB (CAL.page n) CAL.STATUS_HOLD false else s
  let s := if old = 2 && new = 0 then
      each (List.range 544) (fun e t => t.setNat (State.subAt n e + 12) (t.nat (State.subAt n e))) s
    else s
  s.calHold n

/-- CMD.FULL: while the carrier is DOWN and CALn ACTIVE, leave is requested; a second one changes nothing while the first waits or
runs (R71, R120, R125). -/
def State.calFull (s : State) (n : Nat) : WOut :=
  if s.carrier n ≠ cDOWN || !s.active (Kind.CAL.pg n) then no .state s
  else if (s.cals n).fullRunning || s.leaveQueued 1 n then ok s
  else match s.requestLeave (catalogue 1 n) with
    | (.granted, t) => ok (t.fullGranted n)
    | (.queued, t) => ok t
    | (.refused, t) => no .leave t

/-- CMD.SWAP (Table 4-14); a block that is not ACTIVE starts no operation (R71, R120). -/
def State.calSwap (s : State) (n c p : Nat) : WOut :=
  if !s.active (Kind.CAL.pg n) || (s.cals n).swap.isSome || s.freeSpares n c = 0 then no .state s else ok (s.startSwap n c p)

/-- CMD.ABORT_SPARE: the spare returns to SPARE_FREE and the failing unit's codes resume (R129). -/
def State.calAbort (s : State) (n : Nat) : State :=
  match (s.cals n).swap with
  | none => s
  | some w =>
    let s := s.setRole n (subEntry w.conv w.unit) roleFREE
    ((s.setCal n { s.cals n with swap := none }).showSpares n w.conv).showSwap n 0

/-- A write that reaches CALn's registers. Of several actions of one write of CMD, ABORT_SPARE comes first, then SWAP, then FULL, and a
write of which one is refused with reason STATE does nothing (DESIGN CHOICE, log entry 121). -/
def wrCAL (n off v : Nat) (s : State) : WOut :=
  let b := CAL.page n
  if off = CAL.CTRL then
    let old := s.get b CAL.CTRL_MODE
    ok ((s.setNat (b + off) v).calMode n old (fv v CAL.CTRL_MODE))
  else if off = CAL.CMD then
    let r := if fb v CAL.CMD_ABORT_SPARE then ok (s.calAbort n) else ok s
    let r := if fb v CAL.CMD_SWAP then r.st.calSwap n (fv v CAL.CMD_CONV) (fv v CAL.CMD_POS) else r
    if r.rej.isSome then no .state s
    else if fb v CAL.CMD_FULL then
      (let f := r.st.calFull n; if f.rej = some .state then no .state s else f)
    else r
  else ok (s.setNat (b + off) v)

/-- A write of a sub-converter's target: MANUAL only, codes in range (R121, R133). -/
def winCAL (n a v : Nat) (s : State) : WOut :=
  if !(inRI v ⟨0, 0, 8⟩ (-127) 127 && inRI v ⟨0, 8, 9⟩ (-255) 255) then no .range s
  else if s.get (CAL.page n) CAL.CTRL_MODE ≠ 2 then no .state s
  else ok (s.setNat a v)

/-- STATUS.PHASE (Table 4-14): the mode shows while CALn is ACTIVE. -/
def State.calPhase (s : State) (n : Nat) : Nat :=
  if s.leaveQueued 1 n then 1
  else if (s.cals n).fullRunning then 2
  else if s.active (Kind.CAL.pg n) then 3 + s.get (CAL.page n) CAL.CTRL_MODE
  else 0

/-- CALn.STATUS as a read returns it: PHASE and the two gutter bits are what they are now. -/
def State.calStatus (s : State) (n : Nat) : Nat :=
  let v := s.nat (CAL.page n + CAL.STATUS)
  let v := putF v CAL.STATUS_PHASE (s.calPhase n)
  let v := putF v CAL.STATUS_RX_GUTTER_OK (b2n (s.rxGutter n))
  putF v CAL.STATUS_TX_GUTTER_OK (b2n (s.txGutter n))

end Sys2Proof.Machine
end

