-- ==== Sys2Proof/Machine/Rpr.lean ====
section
/-!
DEFINITION. RPR (chapter 22): SRAM spares, repair sweeps, ageing, memory BIST and the clearing of map entries.
-/
namespace Sys2Proof.Machine

/-- RPR's page number. -/
def rpPg : Nat := Kind.RPR.pages.1

/-! ### SRAM (R605, R607) -/

/-- Spare rows of an array not used yet (2), or its spare column (1). -/
def State.sramFree (s : State) (array : Nat) (row : Bool) : Nat :=
  if row then 2 - Tab.get (fun _ => 0) s.rpr.rowsUsed array else 1 - Tab.get (fun _ => 0) s.rpr.colsUsed array

/-- A spare row or column of an array serves. -/
def State.sramUse (s : State) (array : Nat) (row : Bool) : State :=
  let up := fun (t : Tab Nat) => Tab.put (fun _ => 0) t array (Tab.get (fun _ => 0) t array + 1)
  if row then { s with rpr := { s.rpr with rowsUsed := up s.rpr.rowsUsed } }
  else { s with rpr := { s.rpr with colsUsed := up s.rpr.colsUsed } }

/-- A failing row or column is remapped to a free spare of its array; without one nothing can serve it. -/
def State.sramRepair (s : State) (array line : Nat) (row : Bool) : State :=
  let f := if row then RPR.SRAM_FREE_ROWS else RPR.SRAM_FREE_COLUMNS
  let left := s.sramFree array row
  if left = 0 then s
  else
    let s := (s.sramUse array row).set RPR.page f (s.get RPR.page f - 1)
    let s := s.repair (if row then 5 else 6) 1 (locSram array line)
    (s.raise rpPg RPR.ev_SRAM_REPAIRED).raiseIf (left = 1) rpPg RPR.ev_SRAM_SPARES_LOW

/-! ### Sweeps (R610, R611) -/

/-- The first class after the last one swept whose bit of CLASS_MASK is set. -/
def State.nextClass (s : State) : Option Nat :=
  ((List.range 6).map (fun i => (s.rpr.lastClass + 1 + i) % 6)).find? (fun k => bitOf (s.get RPR.page RPR.CTRL_CLASS_MASK) k)

/-- A sweep is granted: its class starts; a class-1 sweep has the free spare slice of each carrier that is not DOWN in SHADOW.
With every bit of CLASS_MASK 0 there is no class to run. -/
def State.sweepGranted (s : State) : State :=
  match s.nextClass with
  | none => (s.endLeave 5 0).showRpr
  | some k =>
    let s := { s with rpr := { s.rpr with lastClass := k, sweepOn := true, sweepEnding := false } }.set RPR.page RPR.STATUS_CLASS k
    let s := if k ≠ 1 then s else each [0, 1] (fun n t =>
      if t.carrier n = cDOWN ∨ t.get (RXD.page n) RXD.SLICE_STATUS_SPARE_STATE ≠ 0 then t
      else t.set (RXD.page n) RXD.SLICE_STATUS_SPARE_STATE 1) s
    s.showRpr.raise rpPg RPR.ev_SWEEP_START

/-- Leave for a sweep is asked for. -/
def State.sweepAsk (s : State) : WOut :=
  match s.requestLeave (catalogue 5 0) with
  | (.granted, t) => ok t.sweepGranted
  | (.queued, t) => ok t.showRpr
  | (.refused, t) => no .leave (t.raise rpPg RPR.ev_SWEEP_REFUSED)

/-- A sweep runs or waits for leave. -/
def State.sweepBusy (s : State) : Bool := s.rpr.sweepOn || s.leaveQueued 5 0

/-- SWEEP_PERIOD: PERIOD hours have passed (R610). -/
def execSweepPeriod (s : State) : Host.Outcome State Fault Refusal :=
  act s fun s =>
    if s.now < s.rpr.periodAt + s.get RPR.page RPR.CTRL_PERIOD * (3600 * nsSec) then s
    else
      let s := { s with rpr := { s.rpr with periodAt := s.now } }
      if !s.flag RPR.page RPR.CTRL_SWEEP_EN ∨ !s.active rpPg ∨ s.sweepBusy then s else s.sweepAsk.st

/-- One thing condemned (Table 22-2); a slice is handed over under R179. -/
def State.condemn (s : State) (h : SweepHit) : State :=
  let unit := fun (t : State) => t.raise rpPg RPR.ev_UNIT_CONDEMNED
  let spare := fun (t : State) => t.raise rpPg RPR.ev_SPARE_RETIRED
  match h with
  | .sram a row line => unit (s.sramRepair a.toNat line.toNat row)
  | .slice n k =>
    if s.get (RXD.page n) RXD.SLICE_STATUS_SPARE_STATE ≠ 1 ∨ (s.rxs n).failedSlices.contains k.val then s
    else unit (s.sliceFail n k)
  | .engine n u =>
    if (s.fecs n).active.contains u.val then unit (s.engineFail n u)
    else if (s.fecs n).spares.contains u.val then spare (s.engineSpareFail n u) else s
  | .spareLane n d lane =>
    let x := s.cals n
    if s.laneSpares n d = 0 then s
    else
      let s := s.setCal n { x with d2dSpares := x.d2dSpares.put d (x.d2dSpares.at d - 1) }
      let s := s.raiseIf (x.d2dSpares.at d ≤ 1) (Kind.CNV.pg n) CNV.ev_D2D_SPARES_EXHAUSTED
      spare ((s.repair 4 1 (locLane n d lane)).useSpare RPR.SPARES_LANES)
  | .dataLane n d lane => unit (s.d2dLaneFail n d lane true)
  | .spareUnit n c u =>
    if s.roleOf n (subEntry c u) ≠ roleFREE then s
    else spare ((s.retireUnit n c u).useSpare RPR.SPARES_SUBCONV)

/-- The resources that a class skips: those of carriers that are DOWN, a spare slice that is not free, a converter with a swap
in progress; and the slices after one that the sweep condemned (Table 22-2). -/
def State.skips (s : State) (k : Nat) (hits : List SweepHit) : Nat :=
  let down := ([0, 1].filter (fun n => s.carrier n = cDOWN)).length
  if k = 1 then
    let out := ([0, 1].filter (fun n => s.carrier n = cDOWN || s.get (RXD.page n) RXD.SLICE_STATUS_SPARE_STATE != 1)).length
    out + (hits.map (fun (h : SweepHit) => match h with | .slice _ k => 23 - k.val | _ => 0)).sum
  else if k = 2 ∨ k = 3 then down
  else if k = 4 then
    (([0, 1].flatMap (fun n => (List.range 8).map (fun c => (n, c)))).filter (fun (e : Nat × Nat) => s.carrier e.1 = cDOWN
      || (match (s.cals e.1).swap with | some w => decide (w.conv = e.2) | none => false))).length
  else 0

/-- The losses read by a class-5 sweep, in bank order (R612). -/
def State.ageing (s : State) (losses : List Nat) : State :=
  let warn := s.get RPR.page RPR.AGEING_CFG_WARN
  let limit := s.get RPR.page RPR.AGEING_CFG_LIMIT
  let s := each ((List.range 32).zip losses) (fun (e : Nat × Nat) t =>
    let a := RPRW.AGE e.1
    let t := t.set a RPRW.AGE_LOSS e.2
    let w := decide (warn ≤ e.2) && !t.flag a RPRW.AGE_WARNED
    let t := if w then (t.setB a RPRW.AGE_WARNED true).raise rpPg RPR.ev_AGEING_WARN else t
    if limit ≤ e.2 ∧ !t.rpr.ageLimited.contains e.1 then
      { t with rpr := { t.rpr with ageLimited := t.rpr.ageLimited ++ [e.1] } }.raise rpPg RPR.ev_AGEING_LIMIT
    else t) s
  let top := (List.range 32).foldl (fun (m : Nat) b => if s.get (RPRW.AGE m) RPRW.AGE_LOSS < s.get (RPRW.AGE b) RPRW.AGE_LOSS then b else m) 0
  (s.set RPR.page RPR.AGEING_WORST_LOSS (s.get (RPRW.AGE top) RPRW.AGE_LOSS)).set RPR.page RPR.AGEING_WORST_BANK top

/-- The hits that a class can have. -/
def hitOf (k : Nat) : SweepHit → Bool
  | .sram _ _ _ => k = 0
  | .slice _ _ => k = 1
  | .engine _ _ => k = 2
  | .spareLane _ _ _ | .dataLane _ _ _ => k = 3
  | .spareUnit _ _ _ => k = 4

/-- SWEEP_CLASS_DONE: the class swept completes, or stops with `untested` resources left: what it condemned is repaired, what
it skipped is counted, and the leave ends when the map entries are sealed. A sweep pauses during a droop shed (R610 to R612). -/
def execSweepClassDone (hits : List SweepHit) (untested : Nat) (losses : List (BitVec 16)) (s : State) :
    Host.Outcome State Fault Refusal :=
  act s fun s =>
    if !s.rpr.sweepOn ∨ s.rpr.sweepEnding ∨ s.shed then s
    else
      let k := s.rpr.lastClass
      let hits := hits.filter (hitOf k)
      let skip := s.skips k hits + untested
      let s := each hits (fun h t => t.condemn h) s
      let s := if k = 1 then s.sweepUnshadow else if k = 5 then s.ageing (losses.map (·.toNat)) else s
      let s := (s.count (RPR.page + RPR.SKIPPED) skip).raiseIf (skip != 0) rpPg RPR.ev_SWEEP_SKIPPED
      { s with rpr := { s.rpr with sweepEnding := true } }.sweepSealed

/-! ### Memory BIST (R613) -/

/-- CMD.MEM_BIST of a channel that is mapped out or FAILED; one at a time. -/
def State.memBist (s : State) (c : Nat) : WOut :=
  let b := MEM.page c
  if !(s.flag b MEM.STATUS_FAILED || s.flag b MEM.STATUS_MAPPED_OUT) || s.rpr.bistChannel.isSome then no .state s
  else if !s.active rpPg then ok s
  else match s.requestLeave (catalogue 3 0) with
    | (.refused, t) => no .leave t
    | (_, t) => ok { t with rpr := { t.rpr with bistChannel := some c } }.showRpr

/-- MEM_BIST_DONE: a granted memory BIST ends; a pass makes its channel fit for the map again (R613). -/
def execMemBistDone (pass : Bool) (s : State) : Host.Outcome State Fault Refusal :=
  act s fun s =>
    match s.rpr.bistChannel with
    | none => s
    | some c =>
      if !s.hasLeave 3 0 then s
      else
        let s := ({ s with rpr := { s.rpr with bistChannel := none } }.endLeave 3 0).showRpr
        if !pass then s.raise rpPg RPR.ev_MEM_BIST_FAIL
        else
          let s := (s.setB (MEM.page c) MEM.STATUS_FAILED false).setB (MEM.page c) MEM.STATUS_TRAINED true
          s.raise rpPg RPR.ev_MEM_BIST_PASS

/-! ### Register writes -/

/-- CMD.CLEAR of a RETIRED entry (R609). -/
def State.entryClear (s : State) (e : Nat) : WOut :=
  if s.get (RPRW.MAP e) RPRW.MAP_MSTATE ≠ 1 then no .state s else ok (s.nvRequest (.mapCleared e) 1)

/-- A write of CMD: what one of its actions refuses refuses the write. -/
def State.rprCmd (s : State) (v : Nat) : WOut :=
  let clear := fb v RPR.CMD_CLEAR
  let bist := fb v RPR.CMD_MEM_BIST
  let sweep := fb v RPR.CMD_SWEEP_NOW
  if sweep && s.sweepBusy then no .state s
  else
    let r := if clear then s.entryClear (fv v RPR.CMD_ENTRY) else ok s
    let r := if bist && r.rej.isNone then r.st.memBist (fv v RPR.CMD_CHANNEL) else r
    if r.rej = some .state then no .state s
    else if sweep && r.rej.isNone && r.st.active rpPg then r.st.sweepAsk else r

/-- Field ranges of Table 22-5. -/
def rangeRPR (off v : Nat) : Bool :=
  if off = RPR.CTRL then inR v RPR.CTRL_PERIOD 1 168
  else if off = RPR.AGEING_CFG then
    inR v RPR.AGEING_CFG_WARN 1 (fv v RPR.AGEING_CFG_LIMIT) && inR v RPR.AGEING_CFG_LIMIT 1 2000
  else true

/-- A write that reaches RPR's registers. -/
def wrRPR (off v : Nat) (s : State) : WOut :=
  if off = RPR.CMD then s.rprCmd v else ok (s.setNat (RPR.page + off) v)

end Sys2Proof.Machine
end

