-- ==== Sys2Proof/Machine/Sec.lean ====
section
/-!
DEFINITION. Security (20.2 to 20.7): attestation, authorities and peers, the key store's commands, the random source, the
guard, debug, field return and the test access port.
-/
namespace Sys2Proof.Machine

/-! ### Attestation (R572) -/

/-- Numbers of given lengths in bytes, one after another, as one number. -/
def catBytes (l : List (Nat × Nat)) : Nat := l.foldl (fun n (e : Nat × Nat) => n * 256 ^ e.2 + e.1 % 256 ^ e.2) 0

/-- The `n` words of a number, most significant first. -/
def numWords (n v : Nat) : List Nat := (List.range n).map (fun i => v / 2 ^ (32 * (n - 1 - i)) % 2 ^ 32)

/-- The number that `n` words from an address hold, most significant first. -/
def State.wordsNat (s : State) (a n : Nat) : Nat := (List.range n).foldl (fun v i => v * 2 ^ 32 + s.nat (a + 4 * i)) 0

/-- ATTEST_CMD.START: the report is being made, over the nonce as it stands. -/
def State.attestStart (s : State) : WOut :=
  if s.get SEC.page SEC.ATTEST_STATUS_STATE = 1 || s.flag SEC.page SEC.RNG_STATUS_FAILED then no .state s
  else
    let s := { s with sec := { s.sec with nonce := s.wordsNat (SECW.NONCE 0) 8 } }
    ok (s.set SEC.page SEC.ATTEST_STATUS_STATE 1)

/-- The report of Table 20-2. -/
def State.report (s : State) (loader firmware user signature : Nat) : Nat :=
  let b := SEC.page
  let debug := b2n (s.flag b SEC.DEBUG_LOCKED) + 2 * s.get b SEC.DEBUG_STATE
  let guard := b2n (s.flag b SEC.GUARD_STATUS_LOCK) + 2 * b2n (s.flag b SEC.GUARD_STATUS_ERASED)
    + 4 * b2n (s.flag b SEC.RNG_STATUS_FAILED)
  catBytes [(1, 4), (s.nat64 (b + SEC.IDENTITY), 8), (s.sec.nonce, 32), (loader, 32), (firmware, 32),
    (if s.nv.userHome then user else 0, 32), (s.nv.frCount, 2), (s.get SYS.page SYS.STRAP_LATCH_STRAPS, 2),
    (debug, 1), (guard, 1), (s.nv.auths, 1), (0, 1), (s.dtime, 8), (0, 36), (signature, 64)]

/-- ATTEST_COMPLETE: the report appears in the window, signed, or signing fails; the digests and the signature come with the
command (R572). -/
def execAttestComplete (signed : Bool) (loader firmware user : BitVec 256) (signature : BitVec 512) (s : State) :
    Host.Outcome State Fault Refusal :=
  act s fun s =>
    let b := SEC.page
    if s.get b SEC.ATTEST_STATUS_STATE ≠ 1 then s
    else if !signed then (s.set b SEC.ATTEST_STATUS_STATE 3).raise secPg SEC.ev_ATTEST_FAIL
    else
      let s := s.setWords (SECW.REPORT 0) (numWords 64 (s.report loader.toNat firmware.toNat user.toNat signature.toNat))
      ((s.set b SEC.ATTEST_STATUS_STATE 2).bump b SEC.ATTEST_STATUS_COUNT).raise secPg SEC.ev_ATTEST_DONE

/-! ### Authorities and peers (R573 to R575) -/

/-- The staged words of an entry. -/
def stagedWords (t : Tab Word) (a n : Nat) : List Word := (List.range n).map (fun i => Tab.get (fun _ => 0) t (a + 4 * i))

/-- AUTH_CMD by a session; the last valid entry stays (R573). -/
def State.authCmd (s : State) (v slot : Nat) : WOut :=
  let i := fv v SEC.AUTH_CMD_INDEX
  let remove := fb v SEC.AUTH_CMD_REMOVE
  if remove && s.nv.auths = 2 ^ i then no .state s
  else
    let s := if fb v SEC.AUTH_CMD_ADD then
        s.nvRequest (.authority i (some (stagedWords s.sec.authStage (SECW.AUTH i) 16)) slot) 2 else s
    ok (if remove && bitOf s.nv.auths i then s.nvRequest (.authority i none slot) 2 else s)

/-- PEER_CMD (R575). -/
def State.peerCmd (s : State) (v : Nat) : WOut :=
  let i := fv v SEC.PEER_CMD_INDEX
  let s := if fb v SEC.PEER_CMD_ADD then
      s.nvRequest (.peer i (some (stagedWords s.sec.peerStage (SECW.PEER i) 32))) 2 else s
  ok (if fb v SEC.PEER_CMD_REMOVE && bitOf s.nv.peers i then s.nvRequest (.peer i none) 2 else s)

/-! ### Key-store commands (R577, R578) -/

def ksLOAD : Nat := 1
def ksIMPORT : Nat := 2
def ksCLEAR : Nat := 3

/-- A key-store command comes to its end with a result: the input buffer is zeroed, the leave ends (R578, Table 20-3). -/
def State.ksEnd (s : State) (result ev : Nat) : State :=
  let s := s.setWords (SECW.INBUF 0) (List.replicate 64 0)
  let s := { s with sec := { s.sec with ksOp := none, ksGranted := false, ksTx := 0, ksErased := false } }
  let s := (s.setB SEC.page SEC.KS_STATUS_BUSY false).set SEC.page SEC.KS_STATUS_RESULT result
  (s.endLeave 6 0).raise secPg ev

/-- Leave for a key-store command is granted; CLEAR needs nothing but its transaction. -/
def State.ksGrant (s : State) : State :=
  match s.sec.ksOp with
  | none => s.endLeave 6 0
  | some (op, slot, _) =>
    let s := { s with sec := { s.sec with ksGranted := true } }
    if op = ksCLEAR then { s with sec := { s.sec with ksTx := 1 } }.nvRequest (.slotClear slot) 2 else s

/-- A write of KS_CMD (R577, R578, R580). -/
def State.ksCmd (s : State) (v : Nat) : WOut :=
  let b := SEC.page
  let op := fv v SEC.KS_CMD_OP
  let slot := fv v SEC.KS_CMD_SLOT
  let ty := fv v SEC.KS_CMD_TYPE
  let busySlot := op != ksLOAD && s.flag (SECW.SLOT slot) SECW.SLOT_SBUSY
  if op = 0 then ok s
  else if s.flag b SEC.KS_STATUS_BUSY || busySlot || s.flag b SEC.RNG_STATUS_FAILED then no .state s
  else if s.flag b SEC.GUARD_STATUS_LOCK then no .lock s
  else match s.requestLeave (catalogue 6 0) with
    | (.refused, t) => no .leave (t.ksEnd 6 SEC.ev_KEY_WRITE_FAIL)
    | (d, t) =>
      let t := { t with sec := { t.sec with ksOp := some (op, slot, ty), ksErased := false, ksTx := 0 } }
      let t := t.setB b SEC.KS_STATUS_BUSY true
      ok (if d = .granted then t.ksGrant else t)

/-- KS_OPERATION_DONE: the work of a granted command ends. Before its transaction: `lengthOk` and `verified` say whether the
input's length fits and whether it unwraps or verifies; a good key joins the NV transactions, a bad one ends the command.
After the seal of its transaction, or after an ERASE, the command completes (R577, R578, R582, Table 20-3). -/
def execKsOperationDone (lengthOk verified : Bool) (s : State) : Host.Outcome State Fault Refusal :=
  act s fun s =>
    match s.sec.ksOp with
    | none => s
    | some (op, slot, ty) =>
      if !s.sec.ksGranted then s
      else if s.sec.ksErased then s.ksEnd 7 SEC.ev_KEY_WRITE_FAIL
      else if s.sec.ksTx = 2 then
        s.ksEnd 1 (if op = ksLOAD then SEC.ev_KEK_LOADED else if op = ksIMPORT then SEC.ev_KEY_WRITTEN else SEC.ev_SLOT_CLEARED)
      else if s.sec.ksTx = 1 then s
      else if op = ksIMPORT && s.nv.kek.isNone then s.ksEnd 2 SEC.ev_KEY_WRITE_FAIL
      else if !lengthOk then s.ksEnd 4 SEC.ev_KEY_WRITE_FAIL
      else if !verified then
        (if op = ksIMPORT then s.ksEnd 3 SEC.ev_UNWRAP_FAIL else s.ksEnd 5 SEC.ev_KEK_LOAD_FAIL)
      else
        let s := { s with sec := { s.sec with ksTx := 1 } }
        s.nvRequest (if op = ksIMPORT then .key slot ty else .kek ty) 3

/-! ### The random source (R580) -/

/-- RNG_FAIL: the random source fails a health test (R580). -/
def execRngFail (s : State) : Host.Outcome State Fault Refusal :=
  act s fun s => ((s.setB SEC.page SEC.RNG_STATUS_FAILED true).raise secPg SEC.ev_RNG_FAIL).agreeBreak

/-! ### The guard (R581 to R583) -/

/-- The guard runs from the sampling of the straps, thermal shutdown included. -/
def State.guardOn (s : State) : Bool := !s.inReset && s.boot.strapsSampled

/-- LOCK: key use freezes, and agreement fails. -/
def State.guardLock (s : State) : State :=
  let s := (s.setB SEC.page SEC.GUARD_STATUS_LOCK true).cryLock true
  s.agreeBreak.raise secPg SEC.ev_LOCK_ON

/-- A transaction that writes under K_S. -/
def NvOp.underKs : NvOp → Bool
  | .key _ _ | .kek _ | .slotClear _ | .agreed _ _ _ _ | .usedKey _ => true
  | _ => false

/-- ERASE: K_S and CRY's keys go at once, every session closes, and a new store with every slot EMPTY is committed next; a
key-store command whose transaction has not sealed is cut (R582). -/
def State.guardErase (s : State) : State :=
  let s := (s.setB SEC.page SEC.GUARD_STATUS_ERASED true).cryErase
  let s := each (List.range 8) (fun i t => t.closeSession i) s
  let cut := s.sec.ksOp.isSome && s.sec.ksTx != 2
  let s := { s with sec := { s.sec with ksErased := s.sec.ksErased || cut } }
  let q := s.nv.queue.filter (fun (t : NvTx) => t.sealed || !t.op.underKs)
  { s with nv := { s.nv with queue := q } }.nvRequest .erase 2 true

/-- A sensor trips: its event, and its policy. -/
def State.guardTrip (s : State) (i : Nat) : State :=
  let s := s.raise secPg (SEC.ev_GUARD_TRIP i)
  let p := s.get SEC.page (SEC.GUARD_POLICY_POLICY i)
  if p = 1 then s.guardLock else if p = 2 then s.guardErase else s

/-- Sensors trip: the tip-in trigger of HKA, then each sensor's policy (R545, R581, R582). -/
def State.guardTrips (s : State) (l : List Nat) : State :=
  if l.isEmpty then s
  else each l (fun i t => t.guardTrip i) (if s.hkFlag HKA.CTRL_GUARD_TRIG_EN then s.tipTrigger 2 else s)

/-- GUARD_TRIP: the sensors that trip now; one that did not trip before acts (R581, R582). -/
def execGuardTrip (sensors : BitVec 8) (s : State) : Host.Outcome State Fault Refusal :=
  if !s.guardOn then .next s
  else
    let old := s.get SEC.page SEC.GUARD_STATUS_TRIPPED
    let new := (List.range 8).filter (fun i => bitOf sensors.toNat i && !bitOf old i)
    done ((s.set SEC.page SEC.GUARD_STATUS_TRIPPED sensors.toNat).guardTrips new)

/-- GUARD_SELFTEST_COMPLETE: the self-test ends with the sensors that failed it; LOCK applies once for those whose policy is
LOCK or ERASE. The part also runs the test at every boot before NV_LOADED (R583). -/
def execGuardSelftestComplete (faults : BitVec 8) (s : State) : Host.Outcome State Fault Refusal :=
  let b := SEC.page
  let boot := decide (s.get SYS.page SYS.SYS_STATE_STAGE < 3)
  if !s.guardOn ∨ !(s.flag b SEC.GUARD_STATUS_SELFTEST_BUSY || boot) then .next s
  else
    let bad := (List.range 8).filter (fun i => bitOf faults.toNat i)
    let s := (s.set b SEC.GUARD_STATUS_SENSOR_FAULT faults.toNat).setB b SEC.GUARD_STATUS_SELFTEST_BUSY false
    let s := each bad (fun i t => t.raise secPg (SEC.ev_SENSOR_FAULT i)) s
    let s := if bad.any (fun i => s.get b (SEC.GUARD_POLICY_POLICY i) != 0) then s.guardLock else s
    done (s.raise secPg SEC.ev_GUARD_SELFTEST_DONE)

/-- A write of GUARD_POLICY (R582). -/
def State.policyWrite (s : State) (v : Nat) : WOut :=
  let old := s.nat (SEC.page + SEC.GUARD_POLICY)
  let low := (List.range 8).any (fun i => decide (bitsOf v (2 * i) 2 < bitsOf old (2 * i) 2))
  if (List.range 8).any (fun i => bitsOf v (2 * i) 2 = 3) then no .range s
  else if bitOf old 31 && low then no .lock s
  else ok (s.setNat (SEC.page + SEC.GUARD_POLICY) v)

/-! ### Debug and field return (R584 to R586) -/

/-- Leave for the opening of debug or field return is granted: step 1 of R585, one transaction. -/
def State.openGrant (s : State) : State :=
  match s.sec.opening with
  | none => s.endLeave 6 2
  | some (mode, _, _) => { s with sec := { s.sec with granted := true } }.nvRequest (.secrets mode) 3

/-- A request to open that passed its checks asks for leave; its response follows when the secrets are gone. -/
def State.openAsk (s : State) (mode : Nat) (who : Option (Nat × Nat)) (refused : State → State) : WOut :=
  match s.requestLeave (catalogue 6 2) with
  | (.refused, t) => no .leave (refused t)
  | (d, t) =>
    let (slot, tag) := who.getD (coreWho, 0)
    let t := { t with sec := { t.sec with opening := some (mode, slot, tag), granted := false } }
    later (if d = .granted then t.openGrant else t)

/-- A refused opening of debug. -/
def State.debugRefused (s : State) : State := s.raise secPg SEC.ev_DEBUG_REFUSED

/-- A write of DEBUG_CMD by a session; FIELD_RETURN ends only at a device reset (R584, R585). -/
def State.debugCmd (s : State) (v : Nat) (who : Option (Nat × Nat)) : WOut :=
  let b := SEC.page
  if !fb v SEC.DEBUG_CMD_OPEN then ok s
  else if fv v SEC.DEBUG_CMD_KEY ≠ 0x5E7D then no .key s.debugRefused
  else if s.flag b SEC.DEBUG_LOCKED || s.sec.opening.isSome || s.get b SEC.DEBUG_STATE = 2 then no .state s.debugRefused
  else if s.flag b SEC.GUARD_STATUS_LOCK then no .lock s.debugRefused
  else s.openAsk 1 who State.debugRefused

/-- FR_CMD CHALLENGE: the challenge record of Table 20-5, its 32 random bytes free values (R586). -/
def State.challenge (s : State) (mode : Nat) : WOut :=
  if s.flag SEC.page SEC.RNG_STATUS_FAILED then no .state s
  else
    let s := each (List.range 8) (fun i t => (t.setNat (SECW.CHAL i) (t.freeVal % 2 ^ 32)).nextFree) s
    let s := s.setWords (SECW.CHAL 8) (numWords 8 (catBytes [(s.nat64 (SEC.page + SEC.IDENTITY), 8), (s.nv.frCount, 2), (mode, 1),
      (0, 1), (s.dtime, 8), (0, 12)]))
    let s := { s with sec := { s.sec with challenge := some (s.now, mode, false) } }
    ok (s.raise secPg SEC.ev_FR_CHALLENGE)

/-- The challenge stands unused and is under 600 s old (Table 20-7). -/
def State.challengeValid (s : State) : Bool :=
  match s.sec.challenge with
  | some (t, _, used) => !used && decide (s.now < t + 600 * nsSec)
  | none => false

/-- A field-return request is refused with a result. -/
def State.frRefused (result : Nat) (s : State) : State :=
  (s.set SEC.page SEC.FR_STATUS_RESULT result).raise secPg SEC.ev_FR_REFUSED

/-- FR_CMD ENTER: the signature, the challenge, the counter, then leave; three requests in a row refused for their signature
trip sensor 7. The verdict comes with the command, or is a free value (R581, R586). -/
def State.enter (s : State) (mode : Nat) (who : Option (Nat × Nat)) : WOut :=
  let good := s.sec.sigHint.getD (s.freeVal % 2 = 1)
  let s := if s.sec.sigHint.isNone then s.nextFree else s
  let chalMode := (s.sec.challenge.map (fun (c : Nat × Nat × Bool) => c.2.1)).getD 0
  if s.flag SEC.page SEC.DEBUG_LOCKED || s.sec.opening.isSome then no .state s
  else if !good then
    let n := s.sec.sigFails + 1
    let s := { s with sec := { s.sec with sigFails := n % 3 } }
    let s := s.frRefused 2
    no .state (if n = 3 then s.guardTrips [7] else s)
  else
    let s := { s with sec := { s.sec with sigFails := 0 } }
    if !s.challengeValid then no .state (s.frRefused 3)
    else if chalMode ≠ mode then no .state (s.frRefused 4)
    else if s.nv.frCount = 0xFFFF then no .state (s.frRefused 5)
    else
      let s := { s with sec := { s.sec with challenge := s.sec.challenge.map (fun (c : Nat × Nat × Bool) => (c.1, c.2.1, true)) } }
      s.openAsk 2 who (State.frRefused 6)

/-- A write of FR_CMD; MODE is TEST or ANALYSIS. -/
def State.frCmd (s : State) (v : Nat) (who : Option (Nat × Nat)) : WOut :=
  let chal := fb v SEC.FR_CMD_CHALLENGE
  let ent := fb v SEC.FR_CMD_ENTER
  let mode := fv v SEC.FR_CMD_MODE
  if !chal && !ent then ok s
  else if mode = 0 || mode = 3 then no .range s
  else
    let r := if chal then s.challenge mode else ok s
    if r.rej.isSome || !ent then r else r.st.enter mode who

/-! ### The test access port (R587) -/

/-- TAP_INSTRUCTION: an instruction is loaded. The boundary instructions put the part into device safe state at once and hand
the balls to the boundary register; one of the vendor trips sensor 7 while debug is CLOSED. What such an instruction does while
debug is open the spec does not say. -/
def execTapInstruction (ins : TapInstr) (s : State) : Host.Outcome State Fault Refusal :=
  if s.inReset then .next s
  else
    let boundary := fun (t : State) =>
      let t := { t with sec := { t.sec with boundary := true } }
      done (t.nextFree.enterSafe secPg t.freeVal)
    match ins with
    | .bypass | .idcode | .sample => .next s
    | .extest | .extestPulse | .extestTrain | .clamp | .highz => boundary s
    | .vendor => if s.get SEC.page SEC.DEBUG_STATE = 0 then done (s.guardTrips [7]) else .fault .tapUndescribed

/-! ### Register writes -/

/-- A write that reaches SEC's registers; `who` is the session and tag that a late response goes to. -/
def wrSEC (who : Option (Nat × Nat)) (off v : Nat) (s : State) : WOut :=
  if off = SEC.DEBUG_CMD then s.debugCmd v who
  else if off = SEC.FR_CMD then s.frCmd v who
  else if off = SEC.GUARD_POLICY then s.policyWrite v
  else if off = SEC.GUARD_CMD then ok (if fb v SEC.GUARD_CMD_SELFTEST then s.setB SEC.page SEC.GUARD_STATUS_SELFTEST_BUSY true else s)
  else if off = SEC.KS_CMD then s.ksCmd v
  else if off = SEC.AUTH_CMD then s.authCmd v ((who.map (·.1)).getD 8)
  else if off = SEC.PEER_CMD then s.peerCmd v
  else if off = SEC.ATTEST_CMD then (if fb v SEC.ATTEST_CMD_START then s.attestStart else ok s)
  else ok (s.setNat (SEC.page + off) v)

/-- A commit of an authority or peer entry reaches its staging copy (R573, R575). -/
def entSEC (a : Nat) (ws : List Nat) (s : State) : WOut :=
  let put := fun (t : Tab Word) =>
    (List.range ws.length).foldl (fun t i => Tab.put (fun _ => 0) t (a + 4 * i) (BitVec.ofNat 32 (ws.getD i 0))) t
  if a < SECW.PEER 0 then ok { s with sec := { s.sec with authStage := put s.sec.authStage } }
  else ok { s with sec := { s.sec with peerStage := put s.sec.peerStage } }

/-- NVS: the scrub period is 0 or 1 to 168 hours (Table 20-11). -/
def rangeNVS (off v : Nat) : Bool := if off = NVS.SCRUB_CFG then inR v NVS.SCRUB_CFG_HOURS 0 168 else true

end Sys2Proof.Machine
end

