-- ==== Sys2Proof/Machine/Boot.lean ====
section
/-!
DEFINITION. Reset and boot (chapter 2): device and warm reset, straps, the boot steps of Table 2-3, the repair map applied, the
colophon, boot failures and READY.
-/
namespace Sys2Proof.Machine

def sysPg : Nat := Kind.SYS.pages.1

/-- The boot stages (Table 2-7). -/
def stSTRAPS : Nat := 1
def stROOT : Nat := 2
def stNV : Nat := 3
def stSRAM : Nat := 4
def stLOADER : Nat := 5
def stRAP : Nat := 6
def stWAIT : Nat := 7
def stVERIFY : Nat := 8
def stREADY : Nat := 9
def stRECOVERY : Nat := 0xE

def State.stage (s : State) : Nat := s.get SYS.page SYS.SYS_STATE_STAGE
def State.setStage (s : State) (n : Nat) : State := s.set SYS.page SYS.SYS_STATE_STAGE n

/-- The BOOT strap as sampled (Table 2-1). -/
def State.bootStrap (s : State) : Nat := bitsOf (s.get SYS.page SYS.STRAP_LATCH_STRAPS) 4 2

/-! ### What reset leaves (R35, R37, R57) -/

/-- Window words that the NV store holds: key slots, authorities, peers, the repair map (Table 20-1). -/
def nvWord (a : Nat) : Bool :=
  (decide (0x39000400 ≤ a) && decide (a < 0x39000C00)) || (decide (0x39001000 ≤ a) && decide (a < 0x39003200))
    || (decide (0x3A000000 ≤ a) && decide (a < 0x3A004000))

/-- Those words over a reset; a slot's BUSY does not persist. -/
def nvKept (l : List (Nat × Word)) : List (Nat × Word) :=
  l.filterMap (fun e =>
    if !nvWord e.1 then none
    else
      let v := if e.1 < 0x39000C00 then e.2 &&& 0xFFFFFFEF else e.2
      if v = resetWord e.1 then none else some (e.1, v))

/-- The rail table loads from the board record; a second AVS rail loads as monitor (R528). -/
def State.loadRails (s : State) : State :=
  let ws := ((s.nv.board.getD []).map (·.toNat))
  let avs := (List.range 16).filter (fun i => bitsOf (ws.getD i 0) 16 2 = 2)
  let s := each (List.range 16) (fun i t =>
    let w := ws.getD i 0
    let w := if avs.tail.contains i then withBits w 16 2 1 else w
    t.setNat (PWR.page + PWR.RAIL i) (w &&& 0x3FF7F)) s
  { s with pwr := { s.pwr with twoAvs := decide (1 < avs.length) } }

/-- The state of reset, with what a reset does not touch: the clock, what has left the part, the commands that wait, the NV
store. -/
def State.fresh (s : State) (b : BootState) : State :=
  let t : State := { now := s.now, freeCtr := s.freeCtr, out := s.out, pending := s.pending, nv := s.nv, boot := b,
                     rpr := { mapSeq := s.rpr.mapSeq }, regs := nvKept s.regs }
  t.loadRails

/-- A low pulse of RESET_N, `low` ns long, is too short to reset the part: under 1 µs always, up to 10 µs as a free value says:
the part resets completely or not at all (R34, log entry 112). -/
def State.pulseIgnored (s : State) (low : Nat) : Bool :=
  decide (low < 1000) || (decide (low < 10000) && bitOf s.freeVal 0)

/-- DEVICE_RESET_ENTRY: PWRGOOD and RESET_N take new levels, RESET_N for `low` ns when it is the one that falls. The part enters
device reset, unless the pulse is ignored; a commit in progress completes while the rails hold. What PWRGOOD alone clears, the
debug lock and the shutdown record, goes with it (R32, R34, R35, R37, R41, R537). -/
def execDeviceResetEntry (pwrgood resetN finish : Bool) (low : Nat) (s : State) : Host.Outcome State Fault Refusal :=
  if pwrgood && resetN then .next s
  else if pwrgood && !s.inReset && s.pulseIgnored low then .next (if low < 1000 then s else s.nextFree)
  else
    let up := s.boot.pwrgood && pwrgood
    let keep := fun (r : State) => if up then
        (r.copy s SEC.page [SEC.DEBUG_LOCKED]).copy s THM.page [whole THM.LAST_SHUTDOWN] else r
    if s.inReset then
      let b := { s.boot with pwrgood := pwrgood, resetN := resetN, pwrgoodFell := s.boot.pwrgoodFell || !pwrgood }
      .next (if pwrgood then { s with boot := b } else
        ({ s with boot := b }.setB SEC.page SEC.DEBUG_LOCKED false).setNat (THM.page + THM.LAST_SHUTDOWN) 0)
    else
      let cut := { s.nvCut finish with out := s.out }
      .next (keep (cut.fresh { pwrgood := pwrgood, resetN := resetN, pwrgoodFell := !pwrgood }))

/-- DEVICE_RESET_RELEASE: both levels are high: t0, DTIME 0, the cause of the reset (R32, R43, Table 2-10). -/
def execDeviceResetRelease (s : State) : Host.Outcome State Fault Refusal :=
  if !s.inReset then .next s
  else
    let s := { s with dtime := 0, boot := { s.boot with pwrgood := true, resetN := true, t0 := s.now } }
    let s := s.setB SYS.page SYS.RESET_CAUSE_POR s.boot.pwrgoodFell
    .next (s.setB SYS.page SYS.RESET_CAUSE_PIN (!s.boot.pwrgoodFell))

/-! ### Straps and the root PLL (R36, R39 to R41) -/

/-- The reset values that follow the straps (Table 2-2; RXDn.CTRL.FO_MODE follows LINE_ROLE by its field table), with the low 4
bits of the management identity (R40). -/
def State.applyStraps (s : State) (v : Nat) : State :=
  let s := { s with boot := { s.boot with mgmtId := bitsOf v 0 4 } }
  let fab := if bitsOf v 8 2 = 3 then 1 else bitsOf v 8 2
  let line := if bitsOf v 14 2 = 3 then 0 else bitsOf v 14 2
  let s := s.set SYS.page SYS.STRAP_LATCH_STRAPS v
  let s := s.set FBR.page FBR.ADDR_LOCAL (bitsOf v 0 4)
  let s := s.set PWR.page PWR.BUDGET_MW ([120000, 150000, 175000, 195000].getD (bitsOf v 6 2) 0)
  let s := (s.set FBR.page FBR.CTRL_ROLE fab).setB SYS.page SYS.FABRIC_CTRL_AUTO_OPEN (fab != 0)
  let s := s.setB RAP.page RAP.ENCAP_MODE (bitOf v 10)
  let s := if bitOf v 11 then s.setB SEC.page SEC.DEBUG_LOCKED true else s
  let s := s.setB CLK.page CLK.ROOT_CFG_XO_FREQ (bitOf v 12)
  let s := each (List.range 16) (fun c t => t.setB (MEM.page c) MEM.CFG_DENSITY (bitOf v 13)) s
  each [0, 1] (fun n t =>
    (t.set (SUB.page n) SUB.ROLE_ROLE line).set (RXD.page n) RXD.CTRL_FO_MODE (if line = 1 then 2 else 0)) s

/-- STRAPS_SAMPLED: at +1 ms (R36, R39). -/
def execStrapsSampled (straps : BitVec 16) (s : State) : Host.Outcome State Fault Refusal :=
  act s fun s =>
    if s.stage ≠ 0 then s
    else
      let s := (s.applyStraps straps.toNat).setStage stSTRAPS
      { s with boot := { s.boot with strapsSampled := true, ocpDriven := true } }

/-- What changes outside at +5 ms: ALARM_N is released, clocks are driven low, OSP idle (Table 2-3, Table 2-5). The rules give no
time at which PMBus leaves high impedance: here it does at this step (DESIGN CHOICE, log entry 113). -/
def State.releasePins (s : State) : State :=
  { s with boot := { s.boot with alarmHold := false, clockOut := .low, ospOut := .idle, pmbusOut := .live } }.refreshAlarm

/-- ROOT_PLL_LOCKED: the root PLL locks, at boot or again after a loss (Table 2-3, R46). -/
def execRootPllLocked (s : State) : Host.Outcome State Fault Refusal :=
  act s fun s =>
    if s.stage = 0 then s
    else
      let s1 := s.setB CLK.page CLK.ROOT_STATUS_LOCKED true
      if s.stage = stSTRAPS then (s1.setStage stROOT).releasePins else s1

/-- ROOT_UNLOCK: the root PLL loses lock after +5 ms (R61). -/
def execRootUnlock (s : State) : Host.Outcome State Fault Refusal :=
  act s fun s =>
    if !s.flag CLK.page CLK.ROOT_STATUS_LOCKED then s
    else
      let s := (s.setB CLK.page CLK.ROOT_STATUS_LOCKED false).bump CLK.page CLK.ROOT_STATUS_UNLOCKS
      s.raise sysPg SYS.ev_ROOT_UNLOCK

/-! ### The repair map (R606, R609) -/

/-- The used entries of the map in the order in which they were written. -/
def State.mapOrder (s : State) : List Nat :=
  let key := fun e => s.get (RPRW.MAP e) RPRW.MAP_MSEQ
  ((List.range 2048).filter (fun e => s.get (RPRW.MAP e) RPRW.MAP_MSTATE != 0)).foldr
    (fun e l => l.takeWhile (fun f => decide (key f < key e)) ++ e :: l.dropWhile (fun f => decide (key f < key e))) []

/-- The map is empty. -/
def State.mapEmpty (s : State) : State :=
  { s with regs := s.regs.filter (fun e => !(decide (0x3A000000 ≤ e.1) && decide (e.1 < 0x3A004000))) }

/-- An entry is removed. -/
def State.mapDrop (s : State) (e : Nat) : State := (s.setNat (RPRW.MAP e) 0).setNat (RPRW.MAP e + 4) 0

/-- The position a unit holds, if it holds one. -/
def State.posOf (s : State) (n c u : Nat) : Option Nat := (List.range 64).find? (fun p => s.unitAt n c p = u)

/-- A class-1 entry: a spare in use stands with its converter until the unit it replaced follows; a retired unit's position
goes to it. A cleared unit is back at its position, and its spare is free. -/
def State.mapUnit (s : State) (wait : Tab (Option (Nat × Nat))) (e st loc : Nat) : State × Tab (Option (Nat × Nat)) :=
  let n := loc % 2
  let c := loc / 2 % 8
  let u := loc / 16 % 128
  let k := 8 * n + c
  let none_ : Nat → Option (Nat × Nat) := fun _ => none
  if st = 2 then (s, Tab.put none_ wait k (some (u, e)))
  else
    let held := Tab.get none_ wait k
    let wait := Tab.put none_ wait k none
    if st = 3 then
      (match held with
        | some (_, e') => s.mapDrop e'
        | none => s, wait)
    else
      let s := match held, s.posOf n c u with
        | some (v, _), some p =>
          let s := (s.setUnitAt n c p v).setRole n (subEntry c v) roleACTIVE
          s.set (State.subAt n (subEntry c v)) CALW.SUBCONV_POSITION p
        | _, _ => s
      ((s.setRole n (subEntry c u) roleRETIRED).showSpares n c, wait)

/-- An entry of classes 2 to 6 (Table 22-6): a failed slice is replaced by the spare, a failed engine by the next spare, a lane
uses a spare, an SRAM line one of its array. -/
def State.mapOther (s : State) (cls loc : Nat) : State :=
  let n := loc % 2
  if cls = 2 then
    let k := loc / 16 % 32
    let s := s.setRx n { s.rxs n with failedSlices := (s.rxs n).failedSlices ++ [k] }
    (s.set (RXD.page n) RXD.SLICE_STATUS_SPARE_STATE 2).set (RXD.page n) RXD.SLICE_STATUS_SLICE k
  else if cls = 3 then
    let u := loc / 16 % 32
    let f := s.fecs n
    if f.spares.contains u then (s.setFec n { f with spares := f.spares.filter (· != u) }).showEngines n
    else
      let rest := f.active.filter (· != u)
      let f' := match f.spares with
        | sp :: r => { f with active := sortNat (sp :: rest), spares := r }
        | [] => { f with active := rest, exhausted := true }
      ((s.setFec n f').showEngines n).fecStructShort n
  else if cls = 4 then
    let d := loc / 2 % 2
    let s := s.setCal n { s.cals n with d2dSpares := (s.cals n).d2dSpares.put d ((s.cals n).d2dSpares.at d - 1) }
    if loc / 4 % 1024 < 512 then s.bump (CNV.page n) (if d = 1 then CNV.D2D_STATUS_SPARES_RX else CNV.D2D_STATUS_SPARES_TX) else s
  else if cls = 5 then s.sramUse (loc % 65536) true
  else if cls = 6 then s.sramUse (loc % 65536) false
  else s

/-- REPAIR_MAP_APPLY: every entry is applied in the order written; cleared ones are removed; the free spares are counted. -/
def State.mapApply (s : State) : State :=
  let s := (s.mapOrder.foldl (fun (x : State × Tab (Option (Nat × Nat))) e =>
    let t := x.1
    let cls := t.get (RPRW.MAP e) RPRW.MAP_CLASS
    let st := t.get (RPRW.MAP e) RPRW.MAP_MSTATE
    let loc := t.get (RPRW.MAP e) RPRW.MAP_LOCATION
    let t := if st = 3 then t.mapDrop e else t
    if cls = 1 then t.mapUnit x.2 e st loc else if st = 1 ∨ st = 2 then (t.mapOther cls loc, x.2) else (t, x.2)) (s, [])).1
  let s := s.set RPR.page RPR.STATUS_ENTRIES s.mapUsed
  let sum := fun (f : Nat → Nat) => f 0 + f 1
  let s := s.set RPR.page RPR.SPARES_SUBCONV (sum (fun n => ((List.range 8).map (fun c => s.freeSpares n c)).sum))
  let s := s.set RPR.page RPR.SPARES_LANES (sum (fun n => (s.cals n).d2dSpares.c0 + (s.cals n).d2dSpares.c1))
  let s := s.set RPR.page RPR.SPARES_SLICES (sum (fun n => b2n (s.get (RXD.page n) RXD.SLICE_STATUS_SPARE_STATE = 0)))
  s.set RPR.page RPR.SPARES_ENGINES (sum (fun n => (s.fecs n).spares.length))

/-! ### NV_LOADED, SRAM_DONE, training, the loader -/

/-- The colophon's contents where registers and windows show them; the profile loads into both carriers (R40, R211, R571). -/
def State.loadColophon (s : State) (c : Colophon) : State :=
  let s := s.setNat64 (SEC.page + SEC.IDENTITY) c.identity.toNat
  let s := (s.set SEC.page SEC.IDCODE_MFR c.mfr.toNat).set SEC.page SEC.IDCODE_VERSION c.revision.toNat
  let s := (s.setB SEC.page SEC.COLOPHON_GRADE c.grade).setB SEC.page SEC.COLOPHON_COPY c.copy
  let s := s.set SEC.page SEC.COLOPHON_FORMAT c.format.toNat
  let s := s.setWords (SECW.CERT 0) ((c.cert.take 1024).map (·.toNat))
  let s := each [0, 1] (fun n t => t.setWords (TXDW.PREEMPH n 0) ((c.preemph.take 64).map (·.toNat))) s
  { s with boot := { s.boot with mgmtId := 16 * c.mgmtId.toNat + bitsOf (s.get SYS.page SYS.STRAP_LATCH_STRAPS) 0 4 } }

/-- ROM recovery: MGT up, device safe state (Table 2-4). -/
def State.romRecovery (s : State) : State :=
  let s := { s with boot := { s.boot with recovery := true, mgtTx := .live } }.setStage stRECOVERY
  (s.raise sysPg SYS.ev_RECOVERY).enterSafe sysPg SYS.ev_RECOVERY

/-- The pins of the early steps after a warm reset (R57). -/
def State.warmPins (s : State) : State :=
  let s := if s.boot.warm && !s.boot.ocpDriven && decide (s.boot.t0 + nsMs ≤ s.now) then
      { s with boot := { s.boot with ocpDriven := true } } else s
  if s.boot.warm && s.boot.alarmHold && decide (s.boot.t0 + 5 * nsMs ≤ s.now) then s.releasePins else s

/-- NV_LOADED: the journal is replayed, the map applied, the colophon loaded; a map that fails its check is empty, and a colophon
that fails it takes the part to ROM recovery (R42, R46, R568, R606). After a warm reset the pins of +1 ms and +5 ms have
been driven by then. -/
def execNvLoaded (colophon : Option Colophon) (mapOk : Bool) (s : State) : Host.Outcome State Fault Refusal :=
  act s fun s =>
    if s.stage ≠ stROOT then s
    else
      let s := if s.boot.alarmHold then { s with boot := { s.boot with ocpDriven := true } }.releasePins else s
      let s := s.journalReplay.showStore.setStage stNV
      let s := if mapOk then s.mapApply
        else (s.mapEmpty.mapApply.setB SYS.page SYS.BOOT_STATUS_REPAIR_REBUILT true).raise sysPg SYS.ev_REPAIR_REBUILT
      match colophon with
      | some c => s.loadColophon c
      | none => s.romRecovery

/-- SRAM_DONE: BIST and repair are done: the new entries are in the map by one sealed transaction, arrays that could not be
repaired are withheld; `rows` and `cols` are the free spares of all arrays (R607). -/
def execSramDone (repairs : List (BitVec 16 × Bool × BitVec 8)) (withheld : List (Option (Fin 128))) (rows cols : BitVec 16)
    (s : State) : Host.Outcome State Fault Refusal :=
  act s fun s =>
    if s.stage ≠ stNV then s
    else
      let s := each repairs (fun e t =>
        let a := e.1.toNat
        let row := e.2.1
        let last := decide (t.sramFree a row = 1)
        let t := (t.sramUse a row).mapPut (mapWord (if row then 5 else 6) 1 (locSram a e.2.2.toNat))
        let t := t.count (RPR.page + RPR.REPAIRS)
        (t.raise rpPg RPR.ev_SRAM_REPAIRED).raiseIf last rpPg RPR.ev_SRAM_SPARES_LOW) s
      let c := ceilDiv repairs.length 8
      let s := if repairs.isEmpty then s
        else ((s.count64 (NVS.page + NVS.COMMITS) (2 * c + 1)).raise rpPg RPR.ev_MAP_WRITTEN).raise nvsPg NVS.ev_REPAIR_MAP_UPDATED
      let out := withheld.map (fun w => match w with | some p => p.val | none => bufferArray)
      let s := { s with rpr := { s.rpr with withheld := out } }.showOnDie
      let s := (s.set RPR.page RPR.SRAM_FREE_ROWS rows.toNat).set RPR.page RPR.SRAM_FREE_COLUMNS cols.toNat
      let s := s.raiseIf (!withheld.isEmpty) rpPg RPR.ev_BIST_UNREPAIRED
      (s.raise rpPg RPR.ev_BIST_DONE).setStage stSRAM

/-- GDDR7_TRAINING_DONE: beside the main sequence, from SRAM_DONE: the lowest failing channel is mapped out, every other failing
one is FAILED (R46, R513). -/
def execGddr7TrainingDone (failed : BitVec 16) (s : State) : Host.Outcome State Fault Refusal :=
  act s fun s =>
    if s.stage < stSRAM ∨ s.boot.recovery ∨ s.boot.gddrDone then s
    else
      let bad := (List.range 16).filter (fun c => bitOf failed.toNat c)
      let s := { s with boot := { s.boot with gddrDone := true } }
      let s := each (List.range 16) (fun c t => t.setB (MEM.page c) MEM.STATUS_TRAINED (!bad.contains c)) s
      let s := each bad (fun c t => t.raise (Kind.MEM.pg c) MEM.ev_TRAIN_FAIL) s
      match bad with
      | [] => s
      | c :: r =>
        let s := (s.setB (MEM.page c) MEM.STATUS_MAPPED_OUT true).set ECC.page ECC.MAP_CHANNELS 15
        let s := { s with ecc := { s.ecc with map := (List.range 16).filter (fun d => d ≠ c) } }
        each r (fun d t => t.failChannel d) (s.raise Kind.ECC.pages.1 ECC.ev_MAP_CHANGED)

/-- LOADER_OK: a boot loader copy is verified; copy B is verified when A fails, and ROM recovery follows when both do (R46). -/
def execLoaderOk (copyA copyB : Bool) (s : State) : Host.Outcome State Fault Refusal :=
  act s fun s =>
    if s.stage ≠ stSRAM then s
    else if !copyA && !copyB then s.romRecovery
    else
      let s := { s with boot := { s.boot with mgtTx := .live } }.setStage stLOADER
      if copyA then s else (s.setB SYS.page SYS.BOOT_STATUS_LOADER_COPY true).raise sysPg SYS.ev_LOADER_FALLBACK

/-- RAP_UP: RAP answers HELLO; without a resident image to run, the part waits for a pushed one (R42, R44). -/
def execRapUp (s : State) : Host.Outcome State Fault Refusal :=
  act s fun s =>
    if s.stage ≠ stLOADER then s
    else s.setStage (if s.bootStrap = 0 ∨ s.bootStrap = 3 then stWAIT else stRAP)

/-- CLIENT_SERDES_LOCKED: beside the main sequence, from RAP_UP: the client lanes leave electrical idle (Table 2-3). -/
def execClientSerdesLocked (s : State) : Host.Outcome State Fault Refusal :=
  act s fun s =>
    if s.stage < stRAP ∨ s.boot.recovery ∨ s.boot.serdesLocked then s
    else
      let s := { s with boot := { s.boot with serdesLocked := true, clientTx := .localFault } }
      (each (List.range 8) (fun q t => t.setB (CLN.page q) CLN.QUAD_STATUS_PLL_LOCK true) s).refreshPorts

/-- Firmware starts on the service cores (R44). -/
def State.fwStart (s : State) (source version : Nat) : State :=
  let s := { s with boot := { s.boot with fwStarted := true } }.setStage stVERIFY
  (s.set SYS.page SYS.BOOT_STATUS_SOURCE source).set CPU.page CPU.FW_STATUS_VERSION version

/-- FW_VERIFY: the resident image is verified and started, or the part waits for a pushed one (R44, R46). -/
def execFwVerify (good : Bool) (version : BitVec 16) (s : State) : Host.Outcome State Fault Refusal :=
  act s fun s =>
    if s.stage ≠ stRAP then s
    else if good then s.fwStart 1 version.toNat
    else
      ((s.setStage stWAIT).setB SYS.page SYS.BOOT_STATUS_RES_FAIL true).raise sysPg SYS.ev_RES_IMAGE_FAIL

/-! ### READY (R42, R43, R50, R69) -/

/-- The control blocks that leave CONFIG at READY, by page. -/
def readyPages : List Nat := [Kind.HKA.pg 0, timPg, cpuPg, rpPg, Kind.CAL.pg 0, Kind.CAL.pg 1, Kind.PMB.pg 0]

/-- A control block is ACTIVE at READY; in FAULT it returns to ACTIVE. -/
def State.readyBlock (s : State) (p : Nat) : State :=
  if s.rpr.withheld.contains p then s
  else if s.blk p = bCONFIG then s.goTo p bACTIVE
  else if s.blk p = bFAULT then s.setPage p { s.page p with prior := bACTIVE } else s

/-- READY: BOOT_TIME, the control blocks, the standing base from the measured power, AVS's report, the record of a shutdown, an
open claim, and the fabric opened for AUTO_OPEN (R42, R43, R50, R69, R519, R528, R537, R574). -/
def execReady (power : Nat) (s : State) : Host.Outcome State Fault Refusal :=
  act s fun s =>
    if s.stage ≠ stVERIFY then s
    else
      let s := (s.setStage stREADY).setB SYS.page SYS.SYS_STATE_READY true
      let s := s.set SYS.page SYS.BOOT_TIME_READY_US (min 0xFFFFF ((s.now - s.boot.t0) / nsUs))
      let s := each readyPages (fun p t => t.readyBlock p) s
      let base := if s.railsRead.isEmpty then 0 else 1000 * ceilDiv power 1000
      let s := (s.set PWR.page PWR.STANDING_BASE_MW base).syncPower
      let s := s.raiseIf s.pwr.twoAvs Kind.PWR.pages.1 PWR.ev_PMBUS_FAIL
      let s := s.raiseIf (s.flag THM.page THM.LAST_SHUTDOWN_VALID) Kind.THM.pages.1 THM.ev_LAST_SHUTDOWN
      let s := s.raiseIf (s.nv.auths = 0) secPg SEC.ev_CLAIM_OPEN
      let s := if s.flag SYS.page SYS.FABRIC_CTRL_AUTO_OPEN then
          { s with boot := { s.boot with fabricTx := .live } }.setB SYS.page SYS.FABRIC_CTRL_OPEN true else s
      (s.linkChecks.refreshPorts).raise sysPg SYS.ev_READY

/-! ### Warm reset (R56, R57) -/

/-- What a warm reset keeps beside the NV store: what only a device reset ends. -/
def State.warmKeep (r s : State) : State :=
  let r := r.copy s SYS.page [whole SYS.RESET_CAUSE]
  let r := r.copy s CLK.page [whole CLK.ROOT_STATUS]
  let r := r.copy s SEC.page [SEC.DEBUG_LOCKED, SEC.GUARD_POLICY_POLICY_LOCK, SEC.GUARD_STATUS_ERASED, SEC.GUARD_STATUS_TRIPPED,
    SEC.RNG_STATUS_FAILED]
  let r := r.copy s NVS.page [whole NVS.COMMITS, whole (NVS.COMMITS + 4)]
  let r := each [0, 1] (fun n t => t.copy s (CNV.page n) [CNV.PLL_STATUS_UNLOCKS]) r
  let r := r.copy s THM.page ([whole THM.LAST_SHUTDOWN, whole THM.SENSOR_FAIL_LO, whole THM.SENSOR_FAIL_HI]
    ++ (List.range 40).map (fun i => THM.SENSOR_FAILED i))
  { r with dtime := s.dtime, thm := { r.thm with short := s.thm.short } }

/-- WARM_RESET_START: 1 ms after the request. The straps hold, the root PLL stays locked, DTIME counts on, and boot goes on from
NV_LOADED. -/
def execWarmResetStart (s : State) : Host.Outcome State Fault Refusal :=
  act s fun s =>
    if s.boot.warmDue.isNone then s
    else
      let b : BootState := { pwrgood := true, resetN := true, pwrgoodFell := s.boot.pwrgoodFell, t0 := s.now, warm := true,
                             strapsSampled := true }
      let cut := { s.nvCut true with out := s.out }
      let r := ((cut.fresh b).warmKeep s).applyStraps (s.get SYS.page SYS.STRAP_LATCH_STRAPS)
      (r.setB SYS.page SYS.RESET_CAUSE_WARM true).setStage stROOT

/-! ### Verification of a pushed image (R44 to R46, R567, R591) -/

/-- IMAGE_VERIFIED: the staged image, of type `ty`, passes or fails; `record` is a board record's contents. In FW_WAIT a resident
image starts; after READY with BOOT 0b10 it replaces the running firmware; every other one goes to its home region. -/
def execImageVerified (good : Bool) (ty : Fin 4) (version : BitVec 16) (record : List Word) (s : State) :
    Host.Outcome State Fault Refusal :=
  act s fun s =>
    if !s.nv.verifying then s
    else
      let s := { s with nv := { s.nv with verifying := false } }.set NVS.page NVS.IMAGE_STATUS_TYPE ty
      if !good ∨ (s.boot.recovery ∧ ty ≠ 0) then
        let s := s.set NVS.page NVS.IMAGE_STATUS_STATE 3
        (s.setB SYS.page SYS.BOOT_STATUS_PUSH_FAIL true).raise sysPg SYS.ev_PUSH_IMAGE_FAIL
      else
        let s := s.set NVS.page NVS.IMAGE_STATUS_STATE 2
        if ty = 1 ∧ s.stage = stWAIT then s.fwStart 2 version.toNat
        else if ty = 1 ∧ s.stage = stREADY ∧ s.bootStrap = 2 ∧ s.svcState = svRUNNING then
          (s.set CPU.page CPU.FW_STATUS_SVC_STATE svQUIESCING).raise cpuPg CPU.ev_FW_REPLACE_START
        else
          let s := if ty = 3 then { s with nv := { s.nv with newBoard := record } } else s
          s.nvRequest (.image ty) 64

end Sys2Proof.Machine
end

