-- ==== Sys2Proof/Machine/Pmb.lean ====
section
/-!
DEFINITION. PMB: the PM timescale, seconds and their classification, unavailable time, the bins, thresholds and the
endpoint records in GDDR7 (R305 to R316).
-/
namespace Sys2Proof.Machine

/-- T = DTIME + ALIGN_OFFSET, a 64-bit count (R305). -/
def State.pmTime (s : State) : Nat := (((s.dtime : Int) + s.pmb.offset) % ((2 ^ 64 : Nat) : Int)).toNat

def pmInterval (t : Nat) : Nat := t / (900 * nsSec)
def pmDay (t : Nat) : Nat := t / (86400 * nsSec)

/-- Adding to a count of an endpoint, kept on die until it enters its record (R310, R419). -/
def State.ep (s : State) (e i n : Nat) : State :=
  if !s.flag PMB.page PMB.CTRL_EP_EN ∨ !s.active Kind.PMB.pages.1 then s
  else
    let x := Tab.get (fun _ => {}) s.pmb.eps e
    let y : EpCounts := { c := x.c.set i (x.c.getD i 0 + n) }
    { s with pmb := { s.pmb with eps := Tab.put (fun _ => {}) s.pmb.eps e y } }

/-! ### Thresholds and the log (R311) -/

/-- The threshold of a kind and counter for 15-minute or day bins. -/
def State.pmThreshold (s : State) (k i : Nat) (day : Bool) : Nat := s.nat64 (PMBW.THR (14 * k + 2 * i + b2n day))

/-- A counter of a current record stands at `v`: it gives one entry when it has reached its threshold. -/
def State.tca (s : State) (k e i : Nat) (day : Bool) (number v : Nat) : State :=
  let th := s.pmThreshold k i day
  let key := (k, e, i, b2n day, number)
  if th = 0 ∨ v < th ∨ s.pmb.crossed.contains key then s
  else
    let keep := s.pmb.crossed.filter (fun x => decide (x.2.2.2.1 ≠ b2n day) || decide (number ≤ x.2.2.2.2 + 2))
    let s := { s with pmb := { s.pmb with crossed := keep ++ [key] } }
    let w := s.nat (PMB.page + PMB.TCA_WR)
    let s := s.setWords (PMBW.TCA (w % 256)) [s.dtime % 2 ^ 32, s.dtime / 2 ^ 32 % 2 ^ 32,
      k + 4 * e + 2 ^ 20 * i + 2 ^ 23 * b2n day, number % 2 ^ 32]
    (s.setNat (PMB.page + PMB.TCA_WR) ((w + 1) % 2 ^ 32)).raise Kind.PMB.pages.1 PMB.ev_TCA

/-! ### Records of carriers and gatherings (R309) -/

/-- A bin's stamp words: number and SUSPECT. -/
def State.pmStamp (s : State) (day : Bool) (number : Nat) : List Nat :=
  let sus := if day then s.pmb.suspectD.contains number else s.pmb.suspectQ.contains number
  [number % 2 ^ 32, number / 2 ^ 32 % 256 + 2 ^ 31 * b2n sus]

/-- Record of an entity of kind 0 or 1. -/
def pmRecord (k e b : Nat) : Nat := if k = 0 then PMBW.CAR (35 * e + b) else PMBW.GTHR (35 * e + b)

/-- The bin of an interval or day. -/
def pmBin (day : Bool) (number : Nat) : Nat := if day then 33 + number % 2 else number % 33

/-- A count enters one bin: a record of another interval is cleared and stamped first (R309). -/
def State.pmBinAdd (s : State) (k e i : Nat) (day : Bool) (number v : Nat) : State :=
  let a := pmRecord k e (pmBin day number)
  let have_ := s.nat a + 2 ^ 32 * (s.nat (a + 4) % 256)
  let s := if have_ = number % 2 ^ 40 then s else each (List.range 16) (fun j t => t.setNat (a + 4 * j) 0) s
  let s := s.setWords a (s.pmStamp day number)
  let c := a + 8 + 8 * i
  let s := s.sat64 c v
  s.tca k e i day number (s.nat64 c)

/-- A count enters the bins that hold its second. -/
def State.pmCount (s : State) (k e i sec v : Nat) : State :=
  if v = 0 then s
  else (s.pmBinAdd k e i false (sec / 900) v).pmBinAdd k e i true (sec / 86400) v

/-! ### Seconds (R306 to R308) -/

/-- A severely errored second. -/
def PmSecond.ses (k : Nat) (x : PmSecond) : Bool :=
  if k = 0 then x.defect || decide (75000 ≤ x.errored) else decide (75000 ≤ x.failed)

/-- An errored second. -/
def PmSecond.es (k : Nat) (x : PmSecond) : Bool :=
  if k = 0 then x.defect || decide (1 ≤ x.errored) else decide (1 ≤ x.failed) || decide (1 ≤ x.errored)

/-- The entities that are classified: both carriers, and the enabled gatherings, as CTRL enables them. -/
def State.pmEntities (s : State) : List Nat :=
  (if s.flag PMB.page PMB.CTRL_CAR_EN then [0, 1] else [])
    ++ (if s.flag PMB.page PMB.CTRL_GTH_EN then
        ((List.range 64).filter (fun g => s.flag (GTHW.CFG g) GTHW.CFG_EN)).map pmGath else [])

/-- A defect of R306 is in force on a carrier. -/
def State.pmDefect (s : State) (e : Nat) : Bool :=
  decide (e < 2) && (s.flag (FRM.page e) FRM.DEFECTS_LOA || s.flag (FRM.page e) FRM.DEFECTS_UNC
    || s.flag (FRM.page e) FRM.DEFECTS_LADDER)

/-- PMB_SECOND_END: the second in progress of every entity is complete; a new interval or day raises BIN_END or DAY_END. -/
def execPmbSecondEnd (s : State) : Host.Outcome State Fault Refusal :=
  act s fun s =>
    if !s.active Kind.PMB.pages.1 then { s with pmb := { s.pmb with ents := [] } }
    else
      let t := s.pmTime
      let sec := t / nsSec - 1
      let on := s.pmEntities
      let s := each (List.range 66) (fun e u =>
        let x := u.pmEnt e
        let next : PmSecond := { defect := u.pmDefect e }
        if on.contains e then u.setPmEnt e { x with cur := next, past := x.past ++ [{ x.cur with sec := sec }] }
        else u.setPmEnt e {}) s
      let q := pmInterval t % 2 ^ 32
      let d := pmDay t % 2 ^ 32
      let s := s.raiseIf (decide (q ≠ s.nat (PMB.page + PMB.INTERVAL))) Kind.PMB.pages.1 PMB.ev_BIN_END
      let s := s.raiseIf (decide (d ≠ s.nat (PMB.page + PMB.DAY))) Kind.PMB.pages.1 PMB.ev_DAY_END
      (s.setNat (PMB.page + PMB.INTERVAL) q).setNat (PMB.page + PMB.DAY) d

/-- The counts of a resolved second enter the bins (R306 to R308, Table 9-5). -/
def State.pmEnter (s : State) (k e : Nat) (x : PmSecond) (unavail : Bool) : State :=
  let one := fun (b : Bool) => b2n (b && !unavail)
  let s := s.pmCount k e 0 x.sec (one (x.es k))
  let s := s.pmCount k e 1 x.sec (one (x.ses k))
  let s := s.pmCount k e 2 x.sec (b2n unavail)
  if k = 0 then
    let s := s.pmCount k e 3 x.sec x.bip
    let s := s.pmCount k e 4 x.sec x.bei
    let s := s.pmCount k e 5 x.sec (one (decide (0 < x.bei) || x.rdi))
    s.pmCount k e 6 x.sec (one (x.rdi || decide (75000 ≤ x.beiFolios)))
  else
    let s := s.pmCount k e 3 x.sec (one x.rdi)
    let s := s.pmCount k e 4 x.sec x.tagFail
    let s := s.pmCount k e 5 x.sec x.recollate
    s.pmCount k e 6 x.sec x.psw

/-- PMB_SECOND_FINAL: 10 s after its end an entity's oldest second is resolved: unavailable time begins at the first of 10
SES and ends at the first of 10 seconds that are not (R307). -/
def execPmbSecondFinal (s : State) : Host.Outcome State Fault Refusal :=
  act s fun s =>
    each (List.range 66) (fun e u =>
      let x := u.pmEnt e
      let k := if e < 2 then 0 else 1
      match x.past with
      | y :: r =>
        if r.length < 10 then u
        else
          let w := (y :: r).take 10
          let un := if x.unavail then !(w.all (fun z => !z.ses k)) else w.all (fun z => z.ses k)
          (u.setPmEnt e { x with past := r, unavail := un }).pmEnter k (if k = 0 then e else e - 2) y un
      | [] => u) s

/-! ### Steps of T (R305) -/

/-- T steps from `old`: the bins in progress before and after are SUSPECT. -/
def State.pmStep (s : State) (old : Nat) : State :=
  let t := s.pmTime
  let add := fun (l : List Nat) (x : Nat) => if l.contains x then l else l ++ [x]
  let s := { s with pmb := { s.pmb with
    suspectQ := add (add s.pmb.suspectQ (pmInterval old)) (pmInterval t),
    suspectD := add (add s.pmb.suspectD (pmDay old)) (pmDay t) } }
  let mark := fun (k e : Nat) (day : Bool) (number : Nat) (u : State) =>
    let a := pmRecord k e (pmBin day number)
    if u.nat a + 2 ^ 32 * (u.nat (a + 4) % 256) = number % 2 ^ 40 then u.setWords a (u.pmStamp day number) else u
  let s := each (List.range 66) (fun e u =>
    let k := if e < 2 then 0 else 1
    let x := if e < 2 then e else e - 2
    mark k x true (pmDay old) (mark k x false (pmInterval old) u)) s
  let s := (s.setNat (PMB.page + PMB.INTERVAL) (pmInterval t % 2 ^ 32)).setNat (PMB.page + PMB.DAY) (pmDay t % 2 ^ 32)
  s.raise Kind.PMB.pages.1 PMB.ev_SUSPECT

/-! ### Endpoint records (R310) -/

/-- The 32-bit words of bytes, most significant byte first. -/
def wordsOf : List Nat → List Nat
  | a :: b :: c :: d :: r => (2 ^ 24 * a + 2 ^ 16 * b + 2 ^ 8 * c + d) :: wordsOf r
  | _ => []

/-- The bytes of 32-bit words. -/
def bytesOf (l : List Nat) : List Nat := l.flatMap (fun v => [bitsOf v 24 8, bitsOf v 16 8, bitsOf v 8 8, bitsOf v 0 8])

/-- First 32-byte word of a record of an endpoint. -/
def State.epRecord (s : State) (e b : Nat) : Nat := s.get PMB.page PMB.EP_BASE_BASE * 64 + (35 * e + b) * 2

/-- A 32-byte word of the table region read for a consumer; none while GDDR7 serves no access. -/
def State.tableRead (s : State) (w : Nat) : Option (List Nat) × State :=
  if !s.eccServes ∨ s.tableWords ≤ w then (none, s)
  else s.readWord (s.tableWord w).1 (s.tableWord w).2

/-- The counts of an endpoint enter one of its records; `lost` is a read that a device fault made uncorrectable. -/
def State.epBin (s : State) (e : Nat) (c : List Nat) (day lost : Bool) : State :=
  let number := if day then pmDay s.pmTime else pmInterval s.pmTime
  let w := s.epRecord e (pmBin day number)
  let (a, s) := s.tableRead w
  let (b, s) := s.tableRead (w + 1)
  let (words, fail) := match a, b, lost with
    | some x, some y, false => (wordsOf (x ++ y), false)
    | _, _, _ => (List.replicate 16 0, true)
  let s := s.raiseIf fail Kind.PMB.pages.1 PMB.ev_EP_READ_FAIL
  let have_ := words.getD 0 0 + 2 ^ 32 * (words.getD 1 0 % 256)
  let old := if have_ = number % 2 ^ 40 then words else List.replicate 16 0
  let st := s.pmStamp day number
  let sus := bitOf (st.getD 1 0) 31 || fail || bitOf (old.getD 1 0) 31
  let counts := (List.range 7).map (fun i => min (2 ^ 64 - 1) (old.getD (2 + 2 * i) 0 + 2 ^ 32 * old.getD (3 + 2 * i) 0 + c.getD i 0))
  let new := [st.getD 0 0, st.getD 1 0 % 2 ^ 31 + 2 ^ 31 * b2n sus] ++ counts.flatMap (fun v => [v % 2 ^ 32, v / 2 ^ 32])
  let s := (s.tableRun w [bytesOf (new.take 8), bytesOf (new.drop 8)] none).2
  each (counts.zip (List.range 7)) (fun x t => if c.getD x.2 0 = 0 then t else t.tca 2 e x.2 day number x.1) s

/-- EP_RECORD_FLUSH: the counts on die of an endpoint are added to its two records; while a channel they lie on is in band
OVER the write waits, and the counts stay on die (R310, R510). -/
def execEpRecordFlush (e : Fin 262144) (lost : Bool) (s : State) : Host.Outcome State Fault Refusal :=
  act s fun s =>
    let x := Tab.get (fun _ => {}) s.pmb.eps e.val
    if !s.flag PMB.page PMB.CTRL_EP_EN ∨ !s.active Kind.PMB.pages.1 ∨ x.c.all (· = 0) then s
    else
      let page := fun (day : Bool) =>
        (s.tableWord (s.epRecord e (pmBin day (if day then pmDay s.pmTime else pmInterval s.pmTime)))).1
      let isOver := [page false, page true].map (fun p => (s.physPage p).1) |>.filter (fun c => s.chOver c && !s.chDown c)
      if s.eccServes && !isOver.isEmpty then each isOver (fun c t => t.count (MEM.page c + MEM.DEFERRED)) s
      else
        let s := { s with pmb := { s.pmb with eps := Tab.put (fun _ => {}) s.pmb.eps e.val {} } }
        (s.epBin e x.c false lost).epBin e x.c true lost

/-! ### Register writes -/

/-- A write that reaches PMB's registers: EP_BASE holds still while EP_EN = 1; the high word of ALIGN_OFFSET steps T. -/
def wrPMB (off v : Nat) (s : State) : WOut :=
  if off = PMB.EP_BASE && s.flag PMB.page PMB.CTRL_EP_EN then no .state s
  else
    let old := s.pmTime
    let s := s.setNat (PMB.page + off) v
    if off = PMB.ALIGN_OFFSET + 4 then
      let s := { s with pmb := { s.pmb with offset := toSigned 64 (s.nat64 (PMB.page + PMB.ALIGN_OFFSET)) } }
      ok (s.pmStep old)
    else ok s

end Sys2Proof.Machine
end

