-- ==== Sys2Proof/Machine/Qmg.lean ====
section
/-!
DEFINITION. Queues and the hybrid buffer, meters, shapers with their timing wheel, and the deficit round robin of the
schedulers (chapter 13).
-/
namespace Sys2Proof.Machine

/-- Tokens and credits are kept in 1/8,000,000 byte: a rate of 1 kbit/s is 1 of them per ns. -/
def perByte : Nat := 8000000

/-! ### Meters (R414 to R418) -/

def State.meter (s : State) (m : Nat) : Meter := Tab.get (fun _ => {}) s.pkt.meters m
def State.setMeter (s : State) (m : Nat) (x : Meter) : State :=
  { s with pkt := { s.pkt with meters := Tab.put (fun _ => {}) s.pkt.meters m x } }

/-- The fields of a meter entry. -/
structure MeterCfg where
  mode : Nat
  aware : Bool
  agg : Option Nat
  cir : Nat
  cbs : Nat
  pir : Nat
  pbs : Nat

def State.meterCfg (s : State) (m : Nat) : MeterCfg :=
  let a := MTRW.M m
  { mode := s.get a MTRW.M_MODE, aware := s.flag a MTRW.M_AWARE,
    agg := if s.flag a MTRW.M_AGG_VALID then some (s.get a MTRW.M_AGG) else none,
    cir := s.get a MTRW.M_CIR, cbs := s.get a MTRW.M_CBS * perByte,
    pir := s.get a MTRW.M_PIR_EIR, pbs := s.get a MTRW.M_PBS_EBS * perByte }

/-- The buckets at `now`: in SRTCM what the committed bucket cannot hold goes to the excess bucket (RFC 2697). -/
def Meter.fill (x : Meter) (c : MeterCfg) (now : Nat) : Meter :=
  let dt := now - x.at_
  let add := c.cir * dt
  let room := c.cbs - x.tc
  let tc := x.tc + min add room
  let tp := if c.mode = 1 then min c.pbs (x.tp + (add - room)) else min c.pbs (x.tp + c.pir * dt)
  { tc := tc, tp := tp, at_ := now }

/-- The colour that a meter of a mode gives a frame of `b` token units with an input colour, and its buckets after
(Table 13-2; RFC 2697, 2698, 4115). -/
def Meter.colour (x : Meter) (mode : Nat) (aware : Bool) (input b : Nat) : Nat × Meter :=
  let k := if aware then input else 0
  if mode = 0 then (input, x)
  else if mode = 1 then
    if k = 0 && decide (b ≤ x.tc) then (0, { x with tc := x.tc - b })
    else if k ≤ 1 && decide (b ≤ x.tp) then (1, { x with tp := x.tp - b })
    else (2, x)
  else if mode = 2 then
    if k = 2 || decide (x.tp < b) then (2, x)
    else if k = 1 || decide (x.tc < b) then (1, { x with tp := x.tp - b })
    else (0, { x with tc := x.tc - b, tp := x.tp - b })
  else
    if k = 0 && decide (b < x.tc) then (0, { x with tc := x.tc - b })
    else if k ≤ 1 && decide (b < x.tp) then (1, { x with tp := x.tp - b })
    else (2, x)

/-- A frame passes one meter. -/
def State.meterOne (s : State) (m input len : Nat) : Nat × State :=
  let c := s.meterCfg m
  if c.mode = 0 then (input, s)
  else
    let r := ((s.meter m).fill c s.now).colour c.mode c.aware input (len * perByte)
    (r.1, s.setMeter m r.2)

/-- The final colour of a frame: its endpoint's meter, then the aggregate meter (R414, R415), with the counts of Table
13-3. -/
def State.meterFrame (s : State) (f : Frame) : Nat × State :=
  let input := if f.dei && s.flag MTR.page MTR.CTRL_PRECOLOUR_DEI then 1 else 0
  let (k, s) := s.meterOne f.ing input f.len
  let (k, s) := match (s.meterCfg f.ing).agg with
    | some a => s.meterOne (262144 + a) k f.len
    | none => (k, s)
  let s := s.count64 (MTR.page + (if k = 0 then MTR.GREEN_FRAMES else if k = 1 then MTR.YELLOW_FRAMES else MTR.RED_FRAMES)) 1
  (k, s.ep f.ing (1 + k) f.len)

/-- A meter's tokens as the window shows them: TC, TP_TE in bytes. -/
def State.meterShown (s : State) (m : Nat) : Nat × Nat :=
  let x := (s.meter m).fill (s.meterCfg m) s.now
  if (s.meterCfg m).mode = 0 then ((s.meter m).tc / perByte, (s.meter m).tp / perByte) else (x.tc / perByte, x.tp / perByte)

/-- A rate of 0 or 64 kbit/s to 2,400,000,000 kbit/s (R418). -/
def rateOk (r : Nat) : Bool := r = 0 || (decide (64 ≤ r) && decide (r ≤ 2400000000))

/-- Committing a meter entry (R417, R418). -/
def entMTR (m : Nat) (ws : List Nat) (s : State) : WOut :=
  let a := MTRW.M m
  let old := s.meterCfg m
  let x := (s.meter m).fill old s.now
  let x := if old.mode = 0 then { s.meter m with at_ := s.now } else x
  let w := fun i => ws.getD i 0
  let t := s.setWords a [w 0 &&& 0x8FFF0007, w 1, w 2 &&& 0xFFFFFF, w 3, w 4 &&& 0xFFFFFF]
  let t := if 262144 ≤ m then t.setNat a (w 0 &&& 0x7) else t
  let c := t.meterCfg m
  if !rateOk c.cir ∨ !rateOk c.pir ∨ (c.mode = 2 ∧ c.pir < c.cir) ∨ (262144 ≤ m ∧ bitOf (w 0) 31) then no .range s
  else if c.mode ≠ old.mode then ok (t.setMeter m { tc := c.cbs, tp := c.pbs, at_ := s.now })
  else
    let y : Meter := { tc := min x.tc c.cbs, tp := min x.tp c.pbs, at_ := s.now }
    ok ((t.setMeter m y).raiseIf (y.tc ≠ x.tc || y.tp ≠ x.tp) Kind.MTR.pages.1 MTR.ev_TOKENS_CLIPPED)

/-! ### Queues (R408 to R413, R494) -/

def State.queue (s : State) (q : Nat) : Queue := Tab.get (fun _ => {}) s.pkt.queues q
def State.setQueue (s : State) (q : Nat) (x : Queue) : State :=
  { s with pkt := { s.pkt with queues := Tab.put (fun _ => {}) s.pkt.queues q x } }

/-- Bytes of a queue that no GDDR7 page holds yet. -/
def Queue.unwritten (x : Queue) : Nat := (x.frames.map (·.staged)).sum

/-- Buffer pages that a number of bytes fills: 1,792 data bytes each (R495). -/
def pagesFor (b : Nat) : Nat := ceilDiv b 1792

def State.onDieAdd (s : State) (n : Nat) : State := { s with pkt := { s.pkt with onDie := s.pkt.onDie + n } }.showOnDie
def State.onDieSub (s : State) (n : Nat) : State := { s with pkt := { s.pkt with onDie := s.pkt.onDie - n } }.showOnDie

/-- Free buffer pages: none while GDDR7 serves no access or ECC stands at a ladder step (R513). -/
def State.bufFree (s : State) : Nat :=
  if !s.eccServes ∨ s.blk Kind.ECC.pages.1 = bFAULT then 0 else s.get ECC.page ECC.BUF_FREE_PAGES

/-- Free pages taken or given back. -/
def State.bufTake (s : State) (n : Nat) : State := s.set ECC.page ECC.BUF_FREE_PAGES (s.get ECC.page ECC.BUF_FREE_PAGES - n)
def State.bufGive (s : State) (n : Nat) : State := s.set ECC.page ECC.BUF_FREE_PAGES (s.get ECC.page ECC.BUF_FREE_PAGES + n)

/-- A frame of the packet stage is dropped: DROP_FRAMES of its ingress endpoint (R410, R419). -/
def State.dropFrame (s : State) (f : Frame) : State := s.ep f.ing 4 1

/-- Admission of a coloured frame at its queue (Table 13-1, R411); `bw` says that buffer write bandwidth is exhausted. -/
def State.admitFrame (s : State) (f : Frame) (bw : Bool) : State :=
  if s.blk Kind.QMG.pages.1 ≠ bACTIVE ∨ (s.page Kind.QMG.pages.1).softReset then
    (if s.blk Kind.QMG.pages.1 = bFAULT then s.count (QMG.page + QMG.DEQ_DISCARDS) else s).dropFrame f
  else
    let q := 4 * f.ep + f.cls
    let a := QMGW.Q q
    let x := s.queue q
    let depth := s.get a QMGW.Q_DEPTH
    let pr := s.get a QMGW.Q_PROFILE
    let unit := fun (fl : Fld) => 256 * s.get QMG.page fl
    let th := unit (if f.colour = 0 then QMG.ADM_PROFILE_TH_G pr else if f.colour = 1 then QMG.ADM_PROFILE_TH_Y pr
      else QMG.ADM_PROFILE_TH_R pr)
    let onDie := decide (depth + f.len ≤ unit (QMG.ADM_PROFILE_SPILL pr))
      && decide (s.get QMG.page QMG.CTRL_ONDIE_FLOOR ≤ s.get QMG.page QMG.ONDIE_FREE_KIB)
      && decide (s.pkt.onDie + f.len ≤ 65536 * 1024)
    let need := pagesFor (x.unwritten + f.len) - pagesFor x.unwritten
    if !s.flag a QMGW.Q_QEN then (s.count (QMG.page + QMG.DROP_DISABLED)).dropFrame f
    else if th < depth + f.len then ((s.count (QMG.page + QMG.DROP_COLOUR)).bump a QMGW.Q_DROPS).dropFrame f
    else if !onDie ∧ (s.bufFree = 0 ∨ s.bufFree < need) then
      let s := s.raiseIf (!s.sticky Kind.QMG.pages.1 QMG.ev_NOBUF) Kind.QMG.pages.1 QMG.ev_NOBUF
      (s.count (QMG.page + QMG.DROP_NOBUF)).dropFrame f
    else if !onDie ∧ bw then
      let s := s.raiseIf (!s.sticky Kind.QMG.pages.1 QMG.ev_BW_REFUSED) Kind.QMG.pages.1 QMG.ev_BW_REFUSED
      (s.count (QMG.page + QMG.DROP_BW)).dropFrame f
    else
      let f := if onDie then f else { f with spilled := true, staged := f.len }
      let s := s.setQueue q { frames := x.frames ++ [f], stageAt := if x.unwritten = 0 then s.now else x.stageAt }
      let s := s.set a QMGW.Q_DEPTH (depth + f.len)
      if onDie then s.onDieAdd f.len
      else (s.set a QMGW.Q_SPILLED (s.get a QMGW.Q_SPILLED + f.len)).bufTake need

/-- Moving up to `n` staged bytes of frames, in order, into page `p`. -/
def stageInto (p : Nat) : Nat → List Frame → List Frame
  | _, [] => []
  | n, f :: l =>
    let k := min n f.staged
    (if k = 0 then f else { f with staged := f.staged - k, pages := f.pages ++ [p] }) :: stageInto p (n - k) l

/-- A page of a frame cannot be read (R412, R512, R513). -/
def State.frameLost (s : State) (f : Frame) : Bool :=
  f.bad || (!f.pages.isEmpty && (!s.eccServes || f.pages.any (fun p => s.chDown (s.physPage p).1)))

/-- The head frame leaves its queue; its pages return to the free list when no frame of the queue lies in them (R494). -/
def State.takeFrame (s : State) (q : Nat) : Option Frame × State :=
  let x := s.queue q
  match x.frames with
  | [] => (none, s)
  | f :: r =>
    let a := QMGW.Q q
    let y : Queue := { x with frames := r }
    let freed := f.pages.filter (fun p => !r.any (fun g => g.pages.contains p))
    let back := freed.length + (pagesFor x.unwritten - pagesFor y.unwritten)
    let s := s.setQueue q (if r.isEmpty then {} else y)
    let s := s.set a QMGW.Q_DEPTH (s.get a QMGW.Q_DEPTH - f.len)
    let s := if f.spilled then
        let s := s.set a QMGW.Q_SPILLED (s.get a QMGW.Q_SPILLED - f.len)
        let s := { s with pkt := { s.pkt with pagesUsed := s.pkt.pagesUsed.filter (fun p => !freed.contains p) } }
        s.bufGive back
      else s.onDieSub f.len
    (some f, s)

/-- Committing a queue entry: PROFILE and EN (R413, R431). -/
def entQ (q : Nat) (ws : List Nat) (s : State) : WOut := ok (s.setNat (QMGW.Q q) (ws.getD 0 0 &&& 0x13F))

/-! ### Shapers and the timing wheel (R421 to R426) -/

/-- A shaper by number: queue q at q, endpoint e at 2²⁰ + e, gathering g at 2²¹ + g, link k at 2²¹ + 64 + k. -/
def shpEp (e : Nat) : Nat := 2 ^ 20 + e
def shpGath (g : Nat) : Nat := 2 ^ 21 + g
def shpLink (k : Nat) : Nat := 2 ^ 21 + 64 + k

/-- Address of a shaper's entry. -/
def shpAddr (x : Nat) : Nat :=
  if x < 2 ^ 20 then SHPW.QSH x else if x < 2 ^ 21 then SHPW.ESH (x - 2 ^ 20)
  else if x < 2 ^ 21 + 64 then SHPW.GSH (x - 2 ^ 21) else SHPW.FSH (x - 2 ^ 21 - 64)

def State.shaper (s : State) (x : Nat) : Shaper := Tab.get (fun _ => {}) s.pkt.shapers x
def State.setShaper (s : State) (x : Nat) (y : Shaper) : State :=
  { s with pkt := { s.pkt with shapers := Tab.put (fun _ => {}) s.pkt.shapers x y } }

def State.shpRate (s : State) (x : Nat) : Nat := s.get (shpAddr x) SHPW.QSH_RATE
def State.shpBurst (s : State) (x : Nat) : Nat := s.get (shpAddr x) SHPW.QSH_BURST * perByte
def State.shpOn (s : State) (x : Nat) : Bool := s.flag (shpAddr x) SHPW.QSH_SEN

/-- The credit at `now` (R422). -/
def State.credit (s : State) (x : Nat) : Int :=
  let y := s.shaper x
  min (s.shpBurst x : Int) (y.c + ((s.shpRate x * (s.now - y.at_) : Nat) : Int))

/-- CREDIT as the window shows it: signed bytes. -/
def State.creditShown (s : State) (x : Nat) : Nat :=
  ofSigned 32 ((if s.shpOn x then s.credit x else (s.shaper x).c) / (perByte : Int))

/-- A shaper lets its frames go: SHP is ACTIVE, and it is off or not on the wheel (R421, R423, Table 3-13). -/
def State.shpEligible (s : State) (x : Nat) : Bool :=
  s.active Kind.SHP.pages.1 && (!s.shpOn x || (s.shaper x).te.isNone)

/-- The next eligible time of a debt: (−c × 8)/r after `now`, rounded up to a multiple of 4 ns. -/
def nextTime (now rate : Nat) (c : Int) : Nat := ceilDiv (now + ceilDiv (-c).toNat (max 1 rate)) 4 * 4

/-- A shaper's entry on the wheel for its next eligible time (R423). -/
def State.onWheel (s : State) (x : Nat) (y : Shaper) (te : Nat) : State :=
  let d := te - s.now
  if d < 32768 then s.setShaper x { y with te := some te, slotAt := te, coarse := false }
  else if d < 268435456 then s.setShaper x { y with te := some te, slotAt := te / 32768 * 32768, coarse := true }
  else
    let s := s.setShaper x { y with te := some te, slotAt := (s.now / 32768 + 8191) * 32768, coarse := true }
    (s.count (SHP.page + SHP.WHEEL_CLAMPS)).raise Kind.SHP.pages.1 SHP.ev_WHEEL_CLAMP

/-- A charge of `len` bytes plus the overhead of the shaper's profile (R422). -/
def State.charge (s : State) (x len : Nat) : State :=
  if !s.shpOn x then s
  else
    let ovh := s.getI SHP.page (SHP.OVH_PROFILE_OVH (s.get (shpAddr x) SHPW.QSH_OVHP))
    let c := s.credit x - ((len : Int) + ovh) * (perByte : Int)
    let low : Int := -(2 * (s.shpBurst x : Int))
    let forgiven := (low - c).toNat
    let s := if 0 < forgiven then
        (s.count64 (SHP.page + SHP.DEBT_FORGIVEN) (forgiven / perByte)).raise Kind.SHP.pages.1 SHP.ev_DEBT_CAPPED
      else s
    let c := max c low
    let y : Shaper := { c := c, at_ := s.now }
    if c < 0 then s.onWheel x y (nextTime s.now (s.shpRate x) c) else s.setShaper x y

/-- Committing a shaper entry: R426's ranges, then EN from 0 fills the credit, CLEAR_DEBT clears a debt, and a changed rate
or burst keeps the debt up to 2 × b and moves the wheel entry (R421, R424, R425). -/
def entSHP (x : Nat) (ws : List Nat) (s : State) : WOut :=
  let w := fun i => ws.getD i 0
  let isEp := decide (2 ^ 20 ≤ x) && decide (x < 2 ^ 21)
  let r := w 0
  let b := bitsOf (w 1) 0 24
  let on := bitOf (w 1) 31
  if on ∧ (r < 64 ∨ 2400000000 < r ∨ b < 256) then no .range s
  else
    let wasOn := s.shpOn x
    let c := s.credit x
    let changed := decide (r ≠ s.shpRate x) || decide (b * perByte ≠ s.shpBurst x)
    let old := s.shaper x
    let t := s.setWords (shpAddr x) [r, w 1 &&& 0x8FFFFFFF, 0, if isEp then w 3 &&& 0xFFFFFF02 else 0]
    let bb : Int := (b * perByte : Nat)
    if !on then ok (t.setShaper x {})
    else if !wasOn then ok (t.setShaper x { c := bb, at_ := s.now })
    else if bitOf (w 3) 0 && decide (c < 0) then ok (t.setShaper x { c := 0, at_ := s.now })
    else if c < 0 then
      let d := max c (-(2 * bb))
      if changed then ok (t.onWheel x { c := d, at_ := s.now } (nextTime s.now r d))
      else ok (t.setShaper x { old with c := c, at_ := s.now })
    else ok (t.setShaper x { c := min c bb, at_ := s.now })

/-- A shaper's slot of the wheel comes round: from the fine wheel it becomes eligible, from the coarse wheel it moves, its
next time recomputed (R423). -/
def State.wheelSlot (s : State) (x : Nat) : State :=
  let y := s.shaper x
  match y.te with
  | none => s
  | some te =>
    if s.now < y.slotAt then s
    else if !y.coarse then s.setShaper x { y with te := none }
    else
      let c := s.credit x
      let te' := if 268435456 ≤ te - (y.slotAt - 8191 * 32768) then (if c < 0 then nextTime s.now (s.shpRate x) c else s.now) else te
      if te' ≤ s.now then s.setShaper x { y with te := none } else s.onWheel x y te'

/-! ### Deficit round robin (R428) -/

/-- One turn after another until a member's cost is within its deficit; members are (number, quantum, cost). -/
def drrLoop (ms : List (Nat × Nat × Nat)) : Nat → Drr → Option Nat × Drr
  | 0, d => (none, d)
  | fuel + 1, d =>
    match d.order with
    | [] => (none, d)
    | m :: r =>
      match ms.find? (fun e => e.1 = m) with
      | none => drrLoop ms fuel { d with order := r, fresh := true }
      | some (_, q, cost) =>
        let v := Tab.get (fun _ => 0) d.deficit m + (if d.fresh then q else 0)
        if cost ≤ v then (some m, { d with deficit := Tab.put (fun _ => 0) d.deficit m (v - cost), fresh := false })
        else drrLoop ms fuel { order := r ++ [m], deficit := Tab.put (fun _ => 0) d.deficit m v, fresh := true }

/-- The next member served. Members that are no longer eligible lose their turn and deficit; new ones join at the end. -/
def drrNext (ms : List (Nat × Nat × Nat)) (rounds : Nat) (d : Drr) : Option Nat × Drr :=
  let has := fun (m : Nat) => ms.any (fun e => e.1 = m)
  let kept := d.order.filter has
  let new := (ms.map (·.1)).filter (fun m => !kept.contains m)
  let d' : Drr := { order := kept ++ new, deficit := d.deficit.filter (fun e => has e.1),
                    fresh := d.fresh || decide (kept.head? ≠ d.order.head?) || kept.isEmpty }
  drrLoop ms ((d'.order.length + 1) * rounds) d'

/-! ### Eligible queues (R427, R429) -/

/-- A number read as 1 where it is 0. -/
def orOne (n : Nat) : Nat := if n = 0 then 1 else n

/-- The port of an endpoint at its part, as this part's endpoint entry has it. -/
def State.egPort (s : State) (e : Nat) : Nat := s.get (CLSW.EP e) CLSW.EP_EG_PORT

/-- The port of a frame's endpoint is paused at its part (R429). -/
def State.framePaused (s : State) (f : Frame) : Bool :=
  if f.part = s.get FBR.page FBR.ADDR_LOCAL then bitOf (s.get QMG.page QMG.BP_STATE_PAUSED) (s.egPort f.ep)
  else s.fbr.pauses.any (fun p => p.origin = f.part && p.port = s.egPort f.ep)

/-- A queue holds a frame that may go: its shapers are eligible and its port is not paused. A queue whose EN is now 0 sends
its remaining frames (R413). -/
def State.queueReady (s : State) (q : Nat) (f : Frame) : Bool :=
  s.shpEligible q && s.shpEligible (shpEp (q / 4)) && !s.framePaused f

/-- The scheduler's choice within an endpoint among its ready classes (class, head length): SP, or WRR (R428). -/
def State.pickClass (s : State) (e : Nat) (cs : List (Nat × Nat)) : Option Nat × Drr :=
  let a := SHPW.ESH e
  let d := Tab.get (fun _ => {}) s.pkt.epDrr e
  if !s.flag a SHPW.QSH_SCHED then (([3, 2, 1, 0].find? (fun c => cs.any (fun x => x.1 = c))), d)
  else
    let w := fun (c : Nat) => orOne (s.get a (if c = 0 then SHPW.QSH_W0 else if c = 1 then SHPW.QSH_W1 else if c = 2 then SHPW.QSH_W2
      else SHPW.QSH_W3))
    drrNext (cs.map (fun x => (x.1, w x.1 * 1024, x.2))) 16 d

/-- The queue that an output's scheduler serves next, among the ready queues with head frames bound for it; the round
robins move on. `out` numbers the output. -/
def State.pickQueue (s : State) (out : Nat) (bound : Frame → Bool) : Option Nat × State :=
  let ready := s.pkt.queues.filterMap (fun e => match e.2.frames with
    | f :: _ => if bound f && s.queueReady e.1 f then some (e.1, f.len) else none
    | [] => none)
  let eps := (ready.map (fun x => x.1 / 4)).eraseDups
  let choice := eps.map (fun e => (e, s.pickClass e ((ready.filter (fun x => x.1 / 4 = e)).map (fun x => (x.1 % 4, x.2)))))
  let cost := fun (e : Nat) (c : Nat) => ((ready.find? (fun x => x.1 = 4 * e + c)).map (·.2)).getD 0
  let ms := choice.filterMap (fun x => x.2.1.map (fun c =>
    (x.1, orOne (s.get (SHPW.ESH x.1) SHPW.QSH_EP_WEIGHT) * 1024, cost x.1 c)))
  let r := drrNext ms 16 (Tab.get (fun _ => {}) s.pkt.outDrr out)
  let s := { s with pkt := { s.pkt with outDrr := Tab.put (fun _ => {}) s.pkt.outDrr out r.2 } }
  match r.1 with
  | none => (none, s)
  | some e =>
    match choice.find? (fun x => x.1 = e) with
    | some (_, some c, d) => (some (4 * e + c), { s with pkt := { s.pkt with epDrr := Tab.put (fun _ => {}) s.pkt.epDrr e d } })
    | _ => (none, s)

/-! ### Register ranges -/

def State.rangeQMG (_s : State) (off v : Nat) : Bool :=
  if off = QMG.CTRL then inR v QMG.CTRL_ONDIE_FLOOR 0 32768
  else if off = QMG.BP_CFG then
    inR v QMG.BP_CFG_XOFF 64 124 && inR v QMG.BP_CFG_XON 8 (fv v QMG.BP_CFG_XOFF - 8)
  else true

def rangeSHP (off v : Nat) : Bool :=
  if 0x200 ≤ off && off < 0x240 then inRI v (SHP.OVH_PROFILE_OVH 0) (-32) 63 else true

end Sys2Proof.Machine
end

