-- ==== Sys2Proof/Machine/Cls.lean ====
section
/-!
DEFINITION. Client lanes and ports, transparent clients, endpoint selection, and the destination lookup with its cache,
miss queue and signature array (chapter 12).
-/
namespace Sys2Proof.Machine

/-! ### Ports (R384, Table 12-2) -/

/-- A port sends or receives a link fault and transmits no frames (R388). -/
def State.portFaulted (s : State) (p : Nat) : Bool :=
  !s.isPort p || s.flag MAC.page (MAC.PORT_STATUS_TX_LF p) || s.flag MAC.page (MAC.PORT_STATUS_RX_LF p)
    || s.flag MAC.page (MAC.PORT_STATUS_RX_RF p)

/-- CLIENT_LANE_STATUS: a lane's signal, clock and PCS as its receiver finds them, with the errors of its pattern checker and
the port's FEC counts since the last report; the client fails or is restored (R383, R391, R403 to R405). -/
def execClientLaneStatus (l : Fin 32) (sigDet cdrLock pcs hiSer : Bool) (snr : Fin 256) (errs corrCw uncorrCw corrSym : Nat)
    (s : State) : Host.Outcome State Fault Refusal :=
  act s fun s =>
    let q := l.val / 4
    let k := l.val % 4
    let b := CLN.page q
    if s.blk (Kind.CLN.pg q) = bOFF ∨ s.quadMode q = 0 then s
    else
      let s := s.raiseIf (!sigDet && s.flag b (CLN.RX_STATUS_SIG_DET k)) (Kind.CLN.pg q) (CLN.ev_SIG_LOST k)
      let s := s.raiseIf (!cdrLock && s.flag b (CLN.RX_STATUS_CDR_LOCK k)) (Kind.CLN.pg q) (CLN.ev_CDR_UNLOCK k)
      let s := (s.setB b (CLN.RX_STATUS_SIG_DET k) sigDet).setB b (CLN.RX_STATUS_CDR_LOCK k) cdrLock
      let s := s.set b (CLN.RX_STATUS_SNR k) snr.val
      let s := if sigDet then s else s.setB b (CLN.RX_STATUS_ADAPT_DONE k) false
      let s := if s.get b (CLN.RX_CFG_CHECK k) = 0 then s else s.count (b + CLN.PATTERN_ERRS k) errs
      match s.lanePort l.val with
      | none => s
      | some p =>
        let lost := !pcs && s.flag MAC.page (MAC.PORT_STATUS_PCS_ALIGNED p) && s.portEn p
        let s := s.raiseIf lost Kind.MAC.pages.1 (MAC.ev_PCS_LOST p)
        let s := s.setB MAC.page (MAC.PORT_STATUS_PCS_ALIGNED p) pcs
        let s := s.setB MAC.page (MAC.PORT_STATUS_HI_SER p) hiSer
        let s := ((s.macCount p 10 corrCw).macCount p 11 uncorrCw).macCount p 12 corrSym
        s.refreshPort p

/-- LANE_ADAPT_DONE: receive adaptation of a lane completes (R383). -/
def execLaneAdaptDone (l : Fin 32) (s : State) : Host.Outcome State Fault Refusal :=
  act s fun s =>
    let b := CLN.page (l.val / 4)
    let k := l.val % 4
    if s.flag b (CLN.RX_STATUS_SIG_DET k) && !s.flag b (CLN.RX_CFG_ADAPT_FREEZE k) then s.setB b (CLN.RX_STATUS_ADAPT_DONE k) true else s

/-- QUAD_PLL_UNLOCK: a client quad's PLL loses lock (R403). -/
def execQuadPllUnlock (q : Fin 8) (s : State) : Host.Outcome State Fault Refusal :=
  act s fun s =>
    if !s.flag (CLN.page q) CLN.QUAD_STATUS_PLL_LOCK then s
    else (s.setB (CLN.page q) CLN.QUAD_STATUS_PLL_LOCK false).raise (Kind.CLN.pg q) CLN.ev_PLL_UNLOCK

/-- PCS_FAULT_RX: a port starts or stops receiving local or remote fault (R388). -/
def execPcsFaultRx (p : Fin 32) (lf rf : Bool) (s : State) : Host.Outcome State Fault Refusal :=
  act s fun s =>
    if !s.isPort p then s
    else (s.setB MAC.page (MAC.PORT_STATUS_RX_LF p) lf).setB MAC.page (MAC.PORT_STATUS_RX_RF p) rf

/-! ### Transparent clients (R389, R392) -/

/-- Blocks that a unit of a gathering holds (R389). -/
def State.blockCap (s : State) (g : Nat) : Nat := (8 * s.unitBytes g - 64) / 257

/-- TRANSPARENT_MAP_UNIT: the 257-bit blocks that wait at a transparent client, with those that arrived since the last unit,
fill a unit of its gathering up to its capacity, which GTH takes (R389). -/
def execTransparentMapUnit (p : Fin 32) (arrived : Nat) (s : State) : Host.Outcome State Fault Refusal :=
  act s fun s =>
    match (if s.portEn p && s.portTransparent p then s.portGath p else none) with
    | none => s
    | some g =>
      if !s.active Kind.MAC.pages.1 ∨ s.flag MAC.page (MAC.PORT_STATUS_CLIENT_FAIL p) then
        s.setPort p { s.port p with blocksWaiting := 0, mapped := [] }
      else
        let w := (s.port p).blocksWaiting + arrived
        let n := min w (s.blockCap g)
        let x := s.port p
        let s := s.setPort p { x with blocksWaiting := w - n, blockNo := x.blockNo + n, mapped := x.mapped ++ [(n, x.blockNo)] }
        (s.macCount p 13 n).send "mapUnit" [(g : Int), (n : Int)]

/-- DEMAP_UNIT: the oldest unit that CRY released of a transparent gathering, whose header holds N, enters the demapper FIFO of its port,
after `sent` blocks left it. A failed unit becomes local fault; an overflow or underrun refills the FIFO to its half, counts, and holds
local fault until it is refilled (R389, R392). -/
def execDemapUnit (p : Fin 32) (sent : Nat) (s : State) : Host.Outcome State Fault Refusal :=
  act s fun s =>
    match (if s.portEn p && s.portTransparent p then s.portGath p else none) with
    | none => s
    | some g =>
      match (s.gth g).released with
      | [] => s
      | (good, bytes) :: rest =>
        let s := s.setGth g { s.gth g with released := rest }
        let x := s.port p
        let cap := s.blockCap g
        let blocks := if good then min (256 * bytes.getD 0 0 + bytes.getD 1 0) cap else 0
        let slip := !x.refill && (decide (x.demap < sent) || decide (2 * cap < x.demap - sent + blocks))
        let isOver := decide (2 * cap < x.demap - sent + blocks)
        let fill := if x.refill then min cap (x.demap + blocks) else if slip then (if isOver then cap else blocks) else x.demap - sent + blocks
        let s := s.setPort p { x with demap := fill, failedUnit := !good, refill := slip || (x.refill && decide (fill < cap)) }
        let s := if slip then (s.macCount p 14 1).raiseIf (decide (p.val < 31)) Kind.MAC.pages.1 (MAC.ev_DEMAP_SLIP p) else s
        s.refreshPort p

/-! ### Endpoint selection (R393, R394) -/

/-- The ingress endpoint of a frame and the tags it loses. -/
def State.endpointOf (s : State) (p : Nat) (tags : List Tag) : Option (Nat × Nat) :=
  let e := CLSW.PORT p
  let portEp := s.get e CLSW.PORT_PORT_EP
  if !s.flag e CLSW.PORT_PMODE then some (portEp, 0)
  else
    let tpid := if s.flag e CLSW.PORT_OUTER_TPID then 0x88A8 else 0x8100
    let untagged := if s.flag e CLSW.PORT_UNTAG_VALID then some (portEp, 0) else none
    match tags with
    | [] => untagged
    | t :: r =>
      if t.tpid.toNat ≠ tpid then untagged
      else
        let o := CLSW.OUTER (4096 * p + t.vid.toNat)
        if !s.flag o CLSW.OUTER_OVALID then none
        else if !s.flag o CLSW.OUTER_INNER then some (s.get o CLSW.OUTER_OEP, 1)
        else match r with
          | [] => none
          | u :: _ =>
            if u.tpid.toNat ≠ 0x8100 then none
            else
              let i := CLSW.INNERE (4096 * s.get o CLSW.OUTER_INNER_BLK + u.vid.toNat)
              if s.flag i CLSW.INNERE_IVALID then some (s.get i CLSW.INNERE_IEP, 2) else none

/-- A frame dropped for want of an endpoint (R393). -/
def State.noEp (s : State) : State := (s.count (CLS.page + CLS.NO_EP)).raise Kind.CLS.pages.1 CLS.ev_NO_EP

/-! ### Onward to MTR and QMG -/

/-- A frame with its destination passes the meters and admission; while MTR is not ACTIVE it is dropped. -/
def State.toQueue (s : State) (f : Frame) (bw : Bool) : State :=
  if !s.active Kind.MTR.pages.1 then s.dropFrame f
  else
    let r := s.meterFrame f
    r.2.admitFrame { f with colour := r.1 } bw

/-- UNK_ACT of a frame's ingress endpoint (R397). -/
def State.unkAct (s : State) (f : Frame) (bw : Bool) : State :=
  let e := CLSW.EP f.ing
  if s.flag e CLSW.EP_UNK_ACT && s.flag e CLSW.EP_FL_VALID then
    (s.count (CLS.page + CLS.UNKNOWN_FLOOD)).toQueue { f with part := s.get e CLSW.EP_FL_PART, ep := s.get e CLSW.EP_FL_EP } bw
  else (s.count (CLS.page + CLS.UNKNOWN_DROP)).dropFrame f

/-- What a lookup found decides the frame (R397). -/
def State.resolved (s : State) (f : Frame) (bw : Bool) : Option (Nat × Nat × Bool) → State
  | none => s.unkAct f bw
  | some (_, _, true) => (s.count (CLS.page + CLS.DISCARDS)).dropFrame f
  | some (part, ep, false) => s.toQueue { f with part := part, ep := ep } bw

/-! ### The cache and the miss queue (R17, R398) -/

def State.showMiss (s : State) : State := s.setNat (CLS.page + CLS.MISS_LEVEL) s.cls.miss.length

/-- Installing a result: the most recently used of its set, whose least recently used result leaves when it holds 8. -/
def State.install (s : State) (e : CacheEnt) : State :=
  let l := s.cls.cache.filter (fun x => x.key ≠ e.key)
  let mates := l.filter (fun x => Config.cacheSet x.key % 16384 = Config.cacheSet e.key % 16384)
  let l := if 8 ≤ mates.length then
      match mates.getLast? with
      | some v => l.filter (fun x => x.key ≠ v.key)
      | none => l
    else l
  { s with cls := { s.cls with cache := e :: l } }

/-- A frame with its key: decided at once on a hit, unless a frame of the same endpoint and key still waits (R17); else it
waits in the miss queue, or takes UNK_ACT when that is full. -/
def State.lookup (s : State) (f : Frame) (key : Nat) (bw : Bool) : State :=
  let hit := s.cls.cache.find? (fun x => x.key = key)
  let behind := s.cls.miss.any (fun m => m.key = key && m.frame.ing = f.ing)
  match (if behind then none else hit) with
  | some e =>
    let s := { s with cls := { s.cls with cache := e :: s.cls.cache.filter (fun x => x.key ≠ key) } }
    (s.count64 (CLS.page + CLS.CACHE_HITS) 1).resolved f bw e.found
  | none =>
    let s := s.count64 (CLS.page + CLS.CACHE_MISSES) 1
    if 16384 ≤ s.cls.miss.length then
      let s := s.raiseIf (!s.sticky Kind.CLS.pages.1 CLS.ev_MISS_OVERFLOW) Kind.CLS.pages.1 CLS.ev_MISS_OVERFLOW
      (s.count (CLS.page + CLS.MISS_OVERFLOW)).unkAct f bw
    else ({ s with cls := { s.cls with miss := s.cls.miss ++ [{ key := key, frame := f }] } } : State).showMiss

/-- Classification of a frame (R393, R394). -/
def State.classify (s : State) (p : Nat) (f : RxFrame) (bw : Bool) : State :=
  if s.blk Kind.CLS.pages.1 = bDRAIN then s.count (CLS.page + CLS.NO_EP)
  else if s.blk Kind.CLS.pages.1 = bFAULT then s.count (CLS.page + CLS.DISCARDS)
  else if !s.active Kind.CLS.pages.1 then s
  else match s.endpointOf p f.tags with
    | none => s.noEp
    | some (e, k) =>
      let a := CLSW.EP e
      if !s.flag a CLSW.EP_EVALID then s.noEp
      else
        let pcp := (f.tags.head?.map (fun t => t.pcp.val)).getD 0
        let fr : Frame := { len := f.len, ing := e, removed := k, dei := (f.tags.head?.map (·.dei)).getD false,
                            cls := bitsOf (s.get a CLSW.EP_PCP_MAP) (2 * pcp) 2 }
        (s.ep e 0 1).lookup fr (lookupKey (s.get a CLSW.EP_EDOMAIN) f.dst.toNat) bw

/-! ### PORT_FRAME_RX (R386, R387) -/

/-- A link-local destination (R387). -/
def linkLocal (dst : Nat) : Bool := decide (0x0180C2000000 ≤ dst) && decide (dst ≤ 0x0180C200000F)

/-- A link-local frame goes to the control cores under its port's bucket. -/
def State.linkLocalFrame (s : State) (p : Nat) (f : RxFrame) : State :=
  let x := s.port p
  let tok := min 64000000 (x.llTokens + (s.now - x.llAt))
  if tok < 1000000 then (s.setPort p { x with llTokens := tok, llAt := s.now }).macCount p 15 1
  else
    let s := (s.setPort p { x with llTokens := tok - 1000000, llAt := s.now }).macCount p 5 1
    s.send "toCores" [(p : Int), (f.len : Int), (f.dst.toNat : Int), (f.etherType.toNat : Int)]

/-- PORT_FRAME_RX: a frame received on a packet port is checked, and classified, metered and admitted, or goes to the control
cores, or is dropped; `bw` says that buffer write bandwidth is exhausted (R386, R387, R393, R398, R410). -/
def execPortFrameRx (p : Fin 32) (f : RxFrame) (bw : Bool) (s : State) : Host.Outcome State Fault Refusal :=
  act s fun s =>
    if !s.portEn p ∨ s.portTransparent p ∨ !s.active Kind.MAC.pages.1 ∨ !s.quadsActive p
        ∨ !s.flag MAC.page (MAC.PORT_STATUS_PCS_ALIGNED p) then s
    else if !f.fcsOk then s.macCount p 2 1
    else if f.len < 64 then s.macCount p 3 1
    else if s.get MAC.page (MAC.PORT_CFG_MAX_FRAME p) < f.len then s.macCount p 4 1
    else if f.etherType = 0x8808 ∧ f.tags = [] then s.macCount p 6 1
    else
      let s := (s.macCount p 0 1).macCount p 1 f.len
      if linkLocal f.dst.toNat then s.linkLocalFrame p f else s.classify p f bw

/-! ### The destination table (R396, R399, R401) -/

/-- An entry of the destination table: key, whether valid, and what it gives. -/
structure DtEnt where
  key : Nat
  valid : Bool
  part : Nat
  ep : Nat
  discard : Bool

/-- The two entries of a 32-byte memory word (Table 12-5). -/
def dtEntries (bytes : List Nat) : List DtEnt :=
  let w := wordsOf bytes
  [0, 1].map (fun j =>
    let g := fun i => w.getD (4 * j + i) 0
    { key := lookupKey (bitsOf (g 1) 16 16) (g 0 + 2 ^ 32 * bitsOf (g 1) 0 16), valid := bitOf (g 2) 31,
      part := bitsOf (g 2) 18 9, ep := bitsOf (g 2) 0 18, discard := bitOf (g 3) 0 })

/-- The signatures of a word's entries match a key; a word that could not be read matches every key (R399). -/
def State.sigMatch (s : State) (w key : Nat) : Bool :=
  let P := (s.physPage (s.tableWord w).1).2
  match s.lightWord P (s.tableWord w).2 with
  | .good l | .corrected l => (dtEntries l).any (fun e => e.valid && bitsOf (keyHash e.key) 17 15 = bitsOf (keyHash key) 17 15)
  | .bad => true

/-- The words of a bucket with a matching signature are read in order up to the one with the full match; `ue` are words
that a device fault makes uncorrectable. The outer none is an uncorrectable read. -/
def State.tableLookup (s : State) (key : Nat) (ue : List Nat) : List Nat → Option (Option (Nat × Nat × Bool)) × State
  | [] => (some none, s)
  | k :: r =>
    let w := s.dtFirst + 4 * keyBucket key + k
    if !s.sigMatch w key then s.tableLookup key ue r
    else
      let (d, s) := s.tableRead w
      match (if ue.contains k then none else d) with
      | none => (none, s)
      | some l =>
        match (dtEntries l).find? (fun e => e.valid && e.key = key) with
        | some e => (some (some (e.part, e.ep, e.discard)), s)
        | none => s.tableLookup key ue r

/-- MISS_LOOKUP_DONE: the lookup at the front of the miss queue completes and the frame goes on; the result is cached unless
a read was uncorrectable, which applies UNK_ACT (R397 to R401). -/
def execMissLookupDone (ue : List (Fin 4)) (bw : Bool) (s : State) : Host.Outcome State Fault Refusal :=
  act s fun s =>
    match s.cls.miss with
    | [] => s
    | m :: r =>
      if !s.serves Kind.CLS.pages.1
          ∨ !s.cls.sigReady then s
      else
        let s := { s with cls := { s.cls with miss := r } }.showMiss
        let (x, s) := s.tableLookup m.key (ue.map (·.val)) [0, 1, 2, 3]
        match x with
        | none => ((s.count (CLS.page + CLS.DT_READ_FAIL)).raise Kind.CLS.pages.1 CLS.ev_DT_READ_FAIL).unkAct m.frame bw
        | some found => (s.install ⟨m.key, found⟩).resolved m.frame bw found

/-- SIGNATURE_BUILD_DONE: the signature array is built from the table area and lookups begin (R399). -/
def execSignatureBuildDone (s : State) : Host.Outcome State Fault Refusal :=
  act s fun s =>
    if s.active Kind.CLS.pages.1 && s.flag CLS.page CLS.CTRL_DT_EN then { s with cls := { s.cls with sigReady := true } } else s

/-! ### Configuration checks and register writes -/

/-- The configuration check of CLNq: a 1.6TbE port needs MODE 4 in both its quads (R384). -/
def State.checkCln (s : State) (q : Nat) : Bool :=
  let mate := if q % 2 = 0 then q + 1 else q - 1
  if q % 2 = 1 then decide ((s.quadMode q = 4) = (s.quadMode mate = 4)) else true

/-- The configuration check of CLS (R401), with the table area in the table region. -/
def State.checkCls (s : State) : Bool :=
  s.flag CLS.page CLS.CTRL_DT_EN && decide (s.dtFirst + 4 * 262144 ≤ s.tableWords)

def rangeCLN (off v : Nat) : Bool :=
  if off = CLN.QUAD_CFG then inR v CLN.QUAD_CFG_MODE 0 7
  else if 0x200 ≤ off && off % 0x40 = 0 then
    let t := fun (f : Fld) => toSigned 6 (fv v f)
    let ts := [t (CLN.TX_FFE_PRE2 0), t (CLN.TX_FFE_PRE1 0), t (CLN.TX_FFE_POST1 0), t (CLN.TX_FFE_PRE3 0)]
    ts.all (fun x => decide (-16 ≤ x) && decide (x ≤ 16)) && decide ((ts.map Int.natAbs).sum ≤ 32)
  else if 0x200 ≤ off && (off % 0x40 = 4 || off % 0x40 = 8) then decide (bitsOf v 8 3 ≤ 3)
  else true

/-- A write of PORT_CFG: EN = 1 names a port, PATH and MAX_FRAME change only with EN = 0 (Table 12-10). -/
def wrMAC (off v : Nat) (s : State) : WOut :=
  if 0x100 ≤ off && off < 0x180 then
    let p := (off - 0x100) / 4
    let same := s.get MAC.page (MAC.PORT_CFG_PATH p) = fv v (MAC.PORT_CFG_PATH 0)
      && s.get MAC.page (MAC.PORT_CFG_MAX_FRAME p) = fv v (MAC.PORT_CFG_MAX_FRAME 0)
    if !inR v (MAC.PORT_CFG_MAX_FRAME 0) 1518 9600 then no .range s
    else if fb v (MAC.PORT_CFG_EN 0) && !s.isPort p then no .state s
    else if s.flag MAC.page (MAC.PORT_CFG_EN p) && !same then no .state s
    else ok ((s.setNat (MAC.page + off) v).refreshPort p)
  else ok (s.setNat (MAC.page + off) v)

/-- DT_BASE: the area lies in the table region (Table 12-13). -/
def State.rangeCLS (s : State) (off v : Nat) : Bool :=
  if off = CLS.DT_BASE then decide (fv v CLS.DT_BASE_BASE * 64 + 4 * 262144 ≤ s.tableWords) else true

/-- CMD.CACHE_FLUSH empties the cache (R400). -/
def wrCLS (off v : Nat) (s : State) : WOut :=
  if off = CLS.CMD then ok (if fb v CLS.CMD_CACHE_FLUSH then { s with cls := { s.cls with cache := [] } } else s)
  else ok (s.setNat (CLS.page + off) v)

end Sys2Proof.Machine
end

