-- ==== Sys2Proof/Machine/Links.lean ====
section
/-!
DEFINITION. The fabric links: lanes, training, the link states of Table 14-3, neighbours and HELLO cells (14.1, 14.2,
14.4).
-/
namespace Sys2Proof.Machine

/-! ### State of links and lanes -/

/-- FABRIC_TRAIN_START: every condition of R442 holds and the link enters TRAIN. -/
def execFabricTrainStart (k : Fin 8) (s : State) : Host.Outcome State Fault Refusal :=
  act s fun s =>
    if s.linkSt k = kDISABLED ∧ s.mayTrain k ∧ s.blk (Kind.FBL.pg k) = bACTIVE then s.linkTo k kTRAIN else s

/-- FABRIC_LANE_CDR_LOCK: a lane that trains detects signal and locks its CDR; the first SIG_DET of a link in TRAIN starts its
20 ms, and the lane's CTLE sweep begins (R442, R443, R445). -/
def execFabricLaneCdrLock (k : Fin 8) (l : Fin 4) (s : State) : Host.Outcome State Fault Refusal :=
  act s fun s =>
    let b := FBL.page k
    if s.linkSt k = kTRAIN ∨ (s.linkUp k ∧ !s.rxOk k l) then
      let s := (s.setB b (FBL.LANE_SIG_DET l) true).setB b (FBL.LANE_CDR_LOCK l) true
      let x := s.link k
      if s.linkSt k = kTRAIN ∧ x.sigAt.isNone then s.setLink k { x with sigAt := some s.now } else s
    else s

/-- The peaking step with the highest FOM; on equal FOM the lower one. -/
def bestStep (foms : List Nat) : Nat × Nat :=
  (foms.zip (List.range foms.length)).foldl (fun (x : Nat × Nat) y => if x.1 < y.1 then y else x) (foms.headD 0, 0)

/-- CTLE_SWEEP_DONE: a lane has swept the 16 peaking steps and keeps the best; it sends lane frames with READY (R442). -/
def execCtleSweepDone (k : Fin 8) (l : Fin 4) (foms : List (BitVec 8)) (s : State) : Host.Outcome State Fault Refusal :=
  act s fun s =>
    let b := FBL.page k
    if !s.flag b (FBL.LANE_CDR_LOCK l) ∨ !(s.linkSt k = kTRAIN ∨ (s.linkUp k ∧ !s.rxOk k l)) then s
    else
      let r := bestStep ((foms.take 16).map (·.toNat))
      let s := (s.set b (FBL.LANE_CTLE l) r.2).set b (FBL.LANE_FOM l) r.1
      (s.setLane k l { s.lane k l with sweptAt := some s.now }).send "laneReady" [(k.val : Int), (l.val : Int)]

/-- The lanes in codeword lock that the peer receives. -/
def State.lanesLocked (s : State) (k : Nat) : List Nat :=
  (List.range 4).filter (fun l => s.flag (FBL.page k) (FBL.LANE_CW_LOCK l) && s.peerOk k l)

/-- Into NEGOTIATE: HELLOs are counted from here, and the transmitter starts with 1,024 credits (R448). -/
def State.negotiate (s : State) (k : Nat) : State :=
  let s := s.linkTo k kNEGOTIATE
  s.setLink k { s.link k with credits := 1024 }

/-- LINK_TRAIN_TIMEOUT: 20 ms after the first SIG_DET at least 3 lanes suffice for NEGOTIATE, else BACKOFF (Table 14-3). -/
def execLinkTrainTimeout (k : Fin 8) (s : State) : Host.Outcome State Fault Refusal :=
  act s fun s =>
    match (s.link k).sigAt with
    | some t =>
      if s.linkSt k ≠ kTRAIN ∨ s.now < t + 20 * nsMs then s
      else if 3 ≤ (s.lanesLocked k).length then s.negotiate k
      else
        let s := s.linkTo k kBACKOFF
        s.setLink k { s.link k with backoffs := (s.link k).backoffs + 1 }
    | none => s

/-- BACKOFF_EXPIRY: 100 ms of BACKOFF end and the link trains again; the third consecutive BACKOFF raises TRAIN_FAIL. -/
def execBackoffExpiry (k : Fin 8) (s : State) : Host.Outcome State Fault Refusal :=
  act s fun s =>
    let x := s.link k
    if s.linkSt k ≠ kBACKOFF ∨ s.now < x.since + 100 * nsMs then s
    else
      let third := decide (3 ≤ x.backoffs)
      let s := s.linkTo k kTRAIN
      let s := if third then s.setLink k { s.link k with backoffs := 0 } else s
      s.raiseIf third (Kind.FBL.pg k) FBL.ev_TRAIN_FAIL

/-- NEGOTIATE_TIMEOUT: 2 ms without a HELLO in NEGOTIATE (Table 14-3). -/
def execNegotiateTimeout (k : Fin 8) (s : State) : Host.Outcome State Fault Refusal :=
  act s fun s =>
    let from_ := max (s.link k).since (if 0 < (s.link k).hellos then (s.neigh k).heardAt else 0)
    if s.linkSt k = kNEGOTIATE ∧ from_ + 2 * nsMs ≤ s.now then s.linkTo k kTRAIN else s

/-! ### Lane failures (R443 to R445) -/

/-- The state of an UP or DEGRADED link follows its lanes: with 3 left it is DEGRADED where version and ALLOW3 let it, with
fewer, or where they do not, it trains; with all 4 it is UP. -/
def State.linkLanes (s : State) (k : Nat) : State :=
  if !s.linkUp k then s
  else
    let n := (s.lanesIn k).length
    let b := FBL.page k
    if n = 4 then (s.set b FBL.STATUS_STATE kUP).showLanes k
    else if n = 3 ∧ 1 ≤ s.get b FBL.STATUS_VER ∧ s.flag b FBL.CFG_ALLOW3 then (s.set b FBL.STATUS_STATE kDEGRADED).showLanes k
    else s.linkTo k kTRAIN

/-- A lane fails: RX_OK is cleared for the peer to see, LANE_DROPPED, and the link degrades or trains (R444). -/
def State.laneFail (s : State) (k l : Nat) : State :=
  let b := FBL.page k
  if !s.linkUp k ∨ !s.rxOk k l then s
  else
    let s := (s.setB b (FBL.LANE_RX_OK l) false).count (b + FBL.LANE_DROPS)
    let s := s.setLane k l { s.lane k l with failed := true, passFrom := none, sweptAt := none }
    let s := (s.raise (Kind.FBL.pg k) FBL.ev_LANE_DROPPED).send "rxOk" [(k : Int), (l : Int), 0]
    s.linkLanes k

/-- LANE_FAIL: a lane loses its signal or clock, or its FOM has been below FOM_MIN for 1 ms (R444; a lost codeword lock and
4 uncorrectable codewords are seen by LANE_FRAME_RX). -/
def execLaneFail (k : Fin 8) (l : Fin 4) (sigDet cdrLock : Bool) (s : State) : Host.Outcome State Fault Refusal :=
  act s fun s =>
    let b := FBL.page k
    let low : Bool := match (s.lane k l).fomLow with
      | some t => decide (t + nsMs ≤ s.now)
      | none => false
    let s := (s.setB b (FBL.LANE_SIG_DET l) (s.flag b (FBL.LANE_SIG_DET l) && sigDet)).setB b (FBL.LANE_CDR_LOCK l)
      (s.flag b (FBL.LANE_CDR_LOCK l) && cdrLock)
    if !sigDet || !cdrLock || low then s.laneFail k l else s

/-- LANE_RESTORE: a dropped lane that retrained has passed CRC for 1 ms; the receiver sets its RX_OK bit (R445). -/
def execLaneRestore (k : Fin 8) (l : Fin 4) (s : State) : Host.Outcome State Fault Refusal :=
  act s fun s =>
    let b := FBL.page k
    let y := s.lane k l
    match y.passFrom with
    | some t =>
      if !s.linkUp k ∨ !y.failed ∨ !s.flag b (FBL.LANE_CW_LOCK l) ∨ !s.flag b (FBL.LANE_SIG_DET l)
          ∨ !s.flag b (FBL.LANE_CDR_LOCK l) ∨ s.now < t + nsMs then s
      else
        let s := (s.setB b (FBL.LANE_RX_OK l) true).setLane k l { y with failed := false, uncorrRun := 0 }
        let s := (s.raise (Kind.FBL.pg k) FBL.ev_LANE_RESTORED).send "rxOk" [(k.val : Int), (l.val : Int), 1]
        if (s.lanesIn k).length = 4 then s.linkLanes k else s.showLanes k
    | none => s

/-- FOM_REFRESH: a lane's figure of merit is recomputed; below FOM_MIN it raises FOM_LOW (R441, R444). -/
def execFomRefresh (k : Fin 8) (l : Fin 4) (fom : BitVec 8) (s : State) : Host.Outcome State Fault Refusal :=
  act s fun s =>
    let b := FBL.page k
    let low := decide (fom.toNat < s.get b FBL.FOM_CFG_FOM_MIN)
    let y := s.lane k l
    let s := s.set b (FBL.LANE_FOM l) fom.toNat
    let s := s.raiseIf (low && y.fomLow.isNone) (Kind.FBL.pg k) FBL.ev_FOM_LOW
    s.setLane k l { y with fomLow := if low then some (y.fomLow.getD s.now) else none }

/-- DITHER_TRIAL: a lane in service tries a neighbouring peaking step, in alternating direction, and keeps it when its FOM
`fom` exceeds the old one by DITHER_GAIN (R446). -/
def execDitherTrial (k : Fin 8) (l : Fin 4) (fom : BitVec 8) (s : State) : Host.Outcome State Fault Refusal :=
  act s fun s =>
    let b := FBL.page k
    let y := s.lane k l
    if !s.flag b FBL.CFG_DITHER_EN ∨ !s.linkUp k ∨ !s.rxOk k l then s
    else
      let old := s.get b (FBL.LANE_CTLE l)
      let try_ := if y.up then min 15 (old + 1) else old - 1
      let s := s.setLane k l { y with up := !y.up }
      if s.get b (FBL.LANE_FOM l) + s.get b FBL.FOM_CFG_DITHER_GAIN ≤ fom.toNat ∧ try_ ≠ old then
        (s.set b (FBL.LANE_CTLE l) try_).set b (FBL.LANE_FOM l) fom.toNat
      else s

/-! ### Members, neighbours, HELLO (R452 to R455) -/

/-- Member 8 + g is an enabled packet gathering. -/
def State.isLine (s : State) (m : Nat) : Bool := decide (8 ≤ m) && s.gthEn (m - 8) && !s.transparent (m - 8)

/-- A member stands: a link UP or DEGRADED, or a packet gathering enabled and not failed (R457). -/
def State.memberUp (s : State) (m : Nat) : Bool :=
  if m < 8 then s.linkUp m else s.isLine m && !s.flag (GTHW.STAT (m - 8)) GTHW.STAT_GFAILED

/-- A member that carries cells other than HELLO: it stands, its neighbour is alive and of this domain, this part is not in
CONFLICT, and the link's block is ACTIVE or draining (R453, R454, Tables 3-13, 19-2). -/
def State.memberOpen (s : State) (m : Nat) : Bool :=
  s.memberUp m && (s.neigh m).alive && !(s.neigh m).foreign && !s.inConflict
    && (decide (8 ≤ m) || s.blk (Kind.FBL.pg m) = bACTIVE || s.blk (Kind.FBL.pg m) = bDRAIN)

/-- Agreed minor version of a member. -/
def State.memberVer (s : State) (m : Nat) : Nat := if m < 8 then s.get (FBL.page m) FBL.STATUS_VER else (s.neigh m).ver

/-- A control cell needs a credit on a link, and counts as sent (R448). -/
def State.mayCtl (s : State) (m : Nat) : Bool := decide (8 ≤ m) || decide (0 < (s.link m).credits)
def State.spend (s : State) (m : Nat) : State :=
  if m < 8 then
    (s.setLink m { s.link m with credits := (s.link m).credits - 1 }).count64 (FBL.page m + FBL.CELLS_TX) 1
  else s

/-- A control cell leaves on a member: on a link it spends a credit; on a packet gathering it waits for the next unit (R448, R451). -/
def State.ctlOut (s : State) (m : Nat) (cell : List Nat) : State :=
  if m < 8 then s.spend m
  else { s with fbr := { s.fbr with ctl := Tab.put (fun _ => []) s.fbr.ctl (m - 8) (Tab.get (fun _ => []) s.fbr.ctl (m - 8) ++ [cell]) } }

/-- HELLO_SEND: a HELLO cell leaves on a link in NEGOTIATE, UP or DEGRADED, or on a packet gathering (R452, Table 14-6). -/
def execHelloSend (m : Fin 72) (s : State) : Host.Outcome State Fault Refusal :=
  act s fun s =>
    let on := if m.val < 8 then decide (kNEGOTIATE ≤ s.linkSt m) else s.isLine m
    if !on ∨ s.fabRole = 0 ∨ !s.mayCtl m ∨ s.blk Kind.FBR.pages.1 = bOFF then s
    else
      let x := s.neigh m
      let d := decide (s.memberVer m = 2)
      let link := if m.val < 8 then m.val else 0x40 + m.val - 8
      let ver := s.get FBR.page FBR.CTRL_VER_MAX
      let dom := s.nat64 (FBR.page + FBR.DOMAIN_ID)
      let t1 := if d then x.sentT else 0
      let t2 := if d then x.arrT else 0
      let pay := helloBytes s.myAddr ver s.fabRole link s.myIdent dom s.dtime t1 t2
      (s.ctlOut m (ctlCell 2 s.myAddr pay)).send "hello" [(m.val : Int), (s.myAddr : Int), (ver : Int), (s.fabRole : Int),
        (link : Int), (s.myIdent : Int), (dom : Int), (s.dtime : Int), (t1 : Int), (t2 : Int)]

/-- A neighbour of another domain, both values not zero (R453). -/
def State.isForeign (s : State) (domain : Nat) : Bool :=
  let mine := s.nat64 (FBR.page + FBR.DOMAIN_ID)
  mine != 0 && domain != 0 && mine != domain

/-- The delay of a HELLO on a 1.2 link: the mean of each 16 shows (R455). -/
def State.helloDelay (s : State) (m t1 t2 t3 t4 : Nat) : State :=
  let d : Int := (((t4 : Int) - t1) - ((t3 : Int) - t2)) / 2
  let x := s.neigh m
  if x.delayN + 1 < 16 then s.setNeigh m { x with delaySum := x.delaySum + d, delayN := x.delayN + 1 }
  else
    let mean := ((x.delaySum + d) / 16).toNat
    let s := s.setNeigh m { x with delaySum := 0, delayN := 0, delay := mean }
    if m < 8 then s.set (FBL.page m) FBL.DELAY_NS mean else s

/-- The third HELLO in NEGOTIATE: the version is agreed, and the link is UP, DEGRADED, or trains again (Table 14-3). -/
def State.linkAgree (s : State) (k ver : Nat) (foreign : Bool) : State :=
  let b := FBL.page k
  let mine := s.get FBR.page FBR.CTRL_VER_MAX
  let v := min ver mine
  let n := (s.lanesIn k).length
  if foreign ∨ (v = 0 ∧ n < 4) ∨ n < 3 then s.linkTo k kTRAIN
  else
    let s := s.linkTo k (if n = 4 then kUP else kDEGRADED)
    let s := s.setLink k { s.link k with backoffs := 0 }
    let s := (s.set b FBL.STATUS_VER v).setB b FBL.STATUS_PEER_VALID true
    let s := if v < 2 then s.set b FBL.DELAY_NS 0 else s
    let s := (s.showLanes k).raise (Kind.FBL.pg k) FBL.ev_LINK_UP
    s.raiseIf (decide (v < mine)) (Kind.FBL.pg k) FBL.ev_VERSION_LOW

/-- What a HELLO tells. -/
structure Hello where
  addr : Nat
  ver : Nat
  link : Nat
  ident : Nat
  domain : Nat
  t3 : Nat
  t1 : Nat
  t2 : Nat

/-- A valid HELLO cell on a member (R452 to R455). -/
def State.helloRx (s : State) (m : Nat) (h : Hello) : State :=
  let live := if m < 8 then decide (kNEGOTIATE ≤ s.linkSt m) else s.isLine m
  if !live ∨ s.fabRole = 0 then s
  else
    let x := s.neigh m
    let up := if m < 8 then s.linkUp m else true
    let foreign := s.isForeign h.domain
    let same := decide (x.verSeen = h.ver)
    let run := if same then x.verRun + 1 else 1
    let agreed := min h.ver (s.get FBR.page FBR.CTRL_VER_MAX)
    let changed := up && (!x.alive || x.addr != h.addr || x.ident != h.ident || x.foreign != foreign)
    let s := s.setNeigh m { x with
      alive := up, addr := h.addr, ident := h.ident, domain := h.domain, heardAt := s.now, sentT := h.t3, arrT := s.dtime,
      foreign := foreign, verSeen := h.ver, verRun := run,
      ver := if 8 ≤ m && decide (3 ≤ run) then agreed else x.ver }
    let s := if changed then { s with fbr := { s.fbr with computeDue := true } } else s
    let s := s.raiseIf (foreign && !x.foreign) Kind.FBR.pages.1 FBR.ev_DOMAIN_FOREIGN
    let s := if m < 8 then
        let b := FBL.page m
        let s := ((s.set b FBL.STATUS_PEER_ADDR h.addr).set b FBL.STATUS_PEER_LINK h.link).setB b FBL.STATUS_PEER_VALID up
        if s.linkSt m = kNEGOTIATE then
          let n := (s.link m).hellos + 1
          let s := s.setLink m { s.link m with hellos := n }
          if 3 ≤ n then
            let s := s.linkAgree m h.ver foreign
            if s.linkUp m then
              let s := s.setNeigh m { s.neigh m with alive := true }
              { s with fbr := { s.fbr with computeDue := true } }
            else s
          else s
        else s
      else s
    if s.memberVer m = 2 ∧ 0 < h.t1 then s.helloDelay m h.t1 h.t2 h.t3 s.dtime else s

/-- HELLO_CELL_RX: a HELLO cell is received (R452). -/
def execHelloCellRx (m : Fin 72) (addr : Fin 512) (ver : Fin 3) (link : Fin 128) (ident domain t3 t1 t2 : BitVec 64) (s : State) :
    Host.Outcome State Fault Refusal :=
  act s fun s => s.helloRx m { addr := addr, ver := ver, link := link, ident := ident.toNat, domain := domain.toNat,
                               t3 := t3.toNat, t1 := t1.toNat, t2 := t2.toNat }

/-- NEIGHBOUR_DEAD: 4 × HELLO without a valid HELLO: the neighbour leaves the routes, and a fabric link trains again
(R452). -/
def execNeighbourDead (m : Fin 72) (s : State) : Host.Outcome State Fault Refusal :=
  act s fun s =>
    let x := s.neigh m
    if !x.alive ∨ s.now < x.heardAt + 4 * (s.get FBR.page FBR.TIMERS_HELLO * 100 * nsUs) then s
    else
      let s := s.dropNeigh m
      if m.val < 8 ∧ s.linkUp m then s.linkTo m kTRAIN else s

/-! ### Register writes -/

/-- CMD.RETRAIN is refused in DISABLED; CFG may end a condition of R442 (Table 14-9). -/
def wrFBL (k off v : Nat) (s : State) : WOut :=
  if off = FBL.CMD then
    if !fb v FBL.CMD_RETRAIN then ok s
    else if s.linkSt k = kDISABLED then no .state s
    else ok (if s.linkUp k then s.linkTo k kTRAIN else s)
  else ok ((s.setNat (FBL.page k + off) v).linkCheck k)

def rangeFBL (off v : Nat) : Bool :=
  if off = FBL.FOM_CFG then inR v FBL.FOM_CFG_FOM_MIN 1 200 && inR v FBL.FOM_CFG_DITHER_GAIN 1 64 else true

end Sys2Proof.Machine
end

