-- ==== Sys2Proof/Machine/Fab.lean ====
section
/-!
DEFINITION. Cells: the route table and spraying, transit, resequencing and reassembly, dequeue, the egress stage with its
FIFOs and overflow queues, and pause indications (13.5, 14.3, 14.5, 14.6).
-/
namespace Sys2Proof.Machine

/-! ### The route table (R457, Table 14-13) -/

/-- The route entry of a destination in the bank in force. -/
def State.routeAddr (s : State) (a : Nat) : Nat := FBRW.ROUTE (512 * s.get FBR.page FBR.ROUTE_CTRL_BANK_ACTIVE + a)

/-- A next-hop set as a number: links in bits 7:0, LOCAL in bit 8, gatherings from bit 9; 0 for no valid entry. It numbers
the output. -/
def State.outKey (s : State) (a : Nat) : Nat :=
  let r := s.routeAddr a
  if !s.flag r FBRW.ROUTE_RVALID then 0
  else s.get r FBRW.ROUTE_LINKS + 2 ^ 8 * s.get r FBRW.ROUTE_LOCAL
    + 2 ^ 9 * (s.nat (r + 4) + 2 ^ 32 * s.nat (r + 8))

/-- The members of a set. -/
def setMembers (key : Nat) : List Nat :=
  (List.range 8).filter (fun k => bitOf key k) ++ ((List.range 64).filter (fun g => bitOf key (9 + g))).map (8 + ·)

/-- The shaper over a member. -/
def memberShaper (m : Nat) : Nat := if m < 8 then shpLink m else shpGath (m - 8)

/-- A member is usable for a data cell now (R457). -/
def State.usable (s : State) (m : Nat) : Bool :=
  s.memberOpen m && s.shpEligible (memberShaper m) && (decide (8 ≤ m) || decide (0 < (s.link m).credits))

/-- Cells per second that a member carries now: 5 cells per lane frame of 102.4 ns on each lane, with 3 lanes of 4 where
DEGRADED; a gathering's cell slots per folio at 500,000 folios a second (R439, R450, R457). -/
def State.cellRate (s : State) (m : Nat) : Nat :=
  if m < 8 then (if s.linkSt m = kDEGRADED then 146484375 else 195312500) else s.unitBytes (m - 8) / 256 * 500000

/-! ### Sending cells (R448, R451, R457) -/

/-- A cell is placed on a member: on a link it spends a credit and leaves; for a gathering it waits for the next unit, where
a cell from the line finds at most 8,192 others before it is dropped. -/
def State.placeCell (s : State) (m : Nat) (c : Cell) : State :=
  if m < 8 then ((s.spend m).sendCell m c).giveCredit c
  else
    let l := Tab.get (fun _ => []) s.fbr.lines (m - 8)
    if 9 ≤ c.from_ ∧ 8192 ≤ (l.filter (fun d => d.from_ ≠ 0)).length then
      (s.count (FBR.page + FBR.TRANSIT_DROPS)).raise Kind.FBR.pages.1 FBR.ev_TRANSIT_DROP
    else { s with fbr := { s.fbr with lines := Tab.put (fun _ => []) s.fbr.lines (m - 8) (l ++ [c]) } }

/-- A cell whose set has no member up (R457). -/
def State.noRoute (s : State) (c : Cell) : State :=
  let s := s.raiseIf (!s.sticky Kind.FBR.pages.1 FBR.ev_NO_ROUTE) Kind.FBR.pages.1 FBR.ev_NO_ROUTE
  (s.count (FBR.page + FBR.NO_ROUTE)).giveCredit c

/-- The usable member of its set on which a cell is sprayed, if there is one, with the set's turn taken. -/
def State.spray (s : State) (c : Cell) : Option (Nat × State) :=
  let key := s.outKey c.dest
  let ms := ((setMembers key).filter s.usable).map (fun m => (m, s.cellRate m, 195312500))
  match drrNext ms 400 (Tab.get (fun _ => {}) s.fbr.spray key) with
  | (some m, d) => some (m, { s with fbr := { s.fbr with spray := Tab.put (fun _ => {}) s.fbr.spray key d } })
  | (none, _) => none

/-- A cell is placed on a member; a link counts the transit cells since its last local one. -/
def State.placeNext (s : State) (m : Nat) (c : Cell) : State :=
  let run := if c.from_ = 0 then 0 else Tab.get (fun _ => 0) s.fbr.transitRun m + 1
  let s := if m < 8 then { s with fbr := { s.fbr with transitRun := Tab.put (fun _ => 0) s.fbr.transitRun m run } } else s
  s.placeCell m c

/-- The waiting local cell that takes a link's slot before the transit cell `c`: one for that link, after 7 transit cells (R22). -/
def State.localFirst (s : State) (m : Nat) (c : Cell) (l : List Cell) : Option Cell :=
  if m < 8 ∧ c.from_ ≠ 0 ∧ 7 ≤ Tab.get (fun _ => 0) s.fbr.transitRun m then
    l.find? (fun d => d.from_ = 0 && (setMembers (s.outKey d.dest)).contains m)
  else none

/-- A cell on its way to another part: dropped when no member is up, sprayed when one is usable, else it waits; a cell from
the line waits with at most 8,192 others of its output. -/
def State.forward (s : State) (c : Cell) : State :=
  let key := s.outKey c.dest
  let hold := fun (s : State) =>
    if 9 ≤ c.from_ ∧ 8192 ≤ (s.fbr.wait.filter (fun d => 9 ≤ d.from_ && s.outKey d.dest = key)).length then
      (s.count (FBR.page + FBR.TRANSIT_DROPS)).raise Kind.FBR.pages.1 FBR.ev_TRANSIT_DROP
    else { s with fbr := { s.fbr with wait := s.fbr.wait ++ [c] } }
  if !(setMembers key).any s.memberUp then s.noRoute c
  else match (if s.fbr.wait.any (fun d => s.outKey d.dest = key) then none else s.spray c) with
    | some (m, t) =>
      match s.localFirst m c s.fbr.wait with
      | some d => hold (({ s with fbr := { s.fbr with wait := s.fbr.wait.erase d } } : State).placeNext m d)
      | none => t.placeNext m c
    | none => hold s

/-- Waiting cells tried one after another: transit, then local, a local one first where its turn has come: dropped, sprayed, or
left waiting (R22, R451, R457). -/
def State.drainCells : Nat → List Cell → List Cell → State → State
  | 0, _, _, s => s
  | _ + 1, [], [], s => s
  | n + 1, c :: t, l, s =>
    if !(setMembers (s.outKey c.dest)).any s.memberUp then State.drainCells n t l (s.noRoute c)
    else match s.spray c with
      | none => State.drainCells n t l { s with fbr := { s.fbr with wait := s.fbr.wait ++ [c] } }
      | some (m, u) =>
        match s.localFirst m c l with
        | some d => State.drainCells n (c :: t) (l.erase d) (s.placeNext m d)
        | none => State.drainCells n t l (u.placeNext m c)
  | n + 1, [], c :: l, s =>
    if !(setMembers (s.outKey c.dest)).any s.memberUp then State.drainCells n [] l (s.noRoute c)
    else match s.spray c with
      | none => State.drainCells n [] l { s with fbr := { s.fbr with wait := s.fbr.wait ++ [c] } }
      | some (m, u) => State.drainCells n [] l (u.placeNext m c)

/-- The waiting cells are tried. -/
def State.drain (s : State) : State :=
  let w := s.fbr.wait
  State.drainCells w.length (w.filter (fun c => c.from_ ≠ 0))
    (w.filter (fun c => c.from_ = 0)) { s with fbr := { s.fbr with wait := [] } }

/-! ### Resequencing (R458) -/

def State.reseqOf (s : State) (src : Nat) : Option Reseq := Tab.get (fun _ => none) s.fbr.reseq src
def State.setReseq (s : State) (src : Nat) (x : Option Reseq) : State :=
  { s with fbr := { s.fbr with reseq := Tab.put (fun _ => none) s.fbr.reseq src x } }

/-- Cells held for resequencing, and those that wait for a stalled port. -/
def State.reseqLevel (s : State) : Nat :=
  (s.fbr.reseq.map (fun e => ((e.2.map (fun x => x.held.length)).getD 0))).sum + (s.fbr.reasm.map (fun e => e.2.ready.length)).sum

def State.showReseq (s : State) : State := s.setNat (FBR.page + FBR.RESEQ_LEVEL) s.reseqLevel

/-- A cell goes on to reassembly. -/
def State.release (s : State) (c : Cell) : State :=
  let k := 4 * c.src + c.cls
  let x := Tab.get (fun _ => {}) s.fbr.reasm k
  { s with fbr := { s.fbr with reasm := Tab.put (fun _ => {}) s.fbr.reasm k { x with ready := x.ready ++ [c] } } }

/-- The held cells that follow the expected SEQ are released. -/
def State.releaseRun (s : State) (src : Nat) : Nat → State
  | 0 => s
  | n + 1 =>
    match s.reseqOf src with
    | none => s
    | some x =>
      match x.held with
      | (c, _) :: r => if c.seq = x.expect then
          ((s.setReseq src (some { x with expect := (x.expect + 1) % 2 ^ 32, held := r })).release c).releaseRun src n
        else s
      | [] => s

/-- A gap is skipped: the first cell behind it is expected next (R458). -/
def State.skipGap (s : State) (src : Nat) : State :=
  match s.reseqOf src with
  | some x =>
    match x.held with
    | (c, _) :: _ =>
      let s := (s.setReseq src (some { x with expect := c.seq })).releaseRun src (x.held.length)
      ((s.count (FBR.page + FBR.RESEQ_SKIPS)).raise Kind.FBR.pages.1 FBR.ev_RESEQ_SKIP).showReseq
    | [] => s
  | none => s

/-- How far a SEQ lies ahead. -/
def seqAhead (a b : Nat) : Nat := (a + 2 ^ 32 - b) % 2 ^ 32

/-- A held cell in SEQ order. -/
def insertCell (e : Nat) (x : Cell × Nat) : List (Cell × Nat) → List (Cell × Nat)
  | [] => [x]
  | y :: r => if seqAhead x.1.seq e < seqAhead y.1.seq e then x :: y :: r
    else if x.1.seq = y.1.seq then y :: r else y :: insertCell e x r

/-- The source whose first gap is the oldest. -/
def State.oldestGap (s : State) : Option Nat :=
  (s.fbr.reseq.filterMap (fun e => match e.2 with
    | some x => (x.held.map (·.2)).min?.map (fun t => (e.1, t))
    | none => none)).foldl (fun (b : Option (Nat × Nat)) y => match b with
      | some z => if y.2 < z.2 then some y else b
      | none => some y) none |>.map (·.1)

/-- The port of a cell's endpoint stands stalled (R430). -/
def State.cellStalled (s : State) (c : Cell) : Bool := (s.port (s.egPort c.ep)).stalled

/-- A data cell for this part enters resequencing (R458). -/
def State.reseqRx (s : State) (c : Cell) : State :=
  let s := match s.reseqOf c.src with
    | none => s.setReseq c.src (some { expect := c.seq, lastAt := s.now })
    | some x =>
      let d := seqAhead c.seq x.expect
      if c.sync ∧ 2 ^ 20 < min d (2 ^ 32 - d) then
        (s.setReseq c.src (some { expect := c.seq, lastAt := s.now })).count (FBR.page + FBR.REASM_DISCARDS) x.held.length
      else s.setReseq c.src (some { x with lastAt := s.now })
  match s.reseqOf c.src with
  | none => s
  | some x =>
    let d := seqAhead c.seq x.expect
    if 2 ^ 31 ≤ d then s.count (FBR.page + FBR.RESEQ_LATE)
    else if s.cellStalled c ∧ 32768 ≤ s.reseqLevel then s.count (FBR.page + FBR.REASM_DISCARDS)
    else
      let s := s.setReseq c.src (some { x with held := insertCell x.expect (c, s.now) x.held })
      let s := s.releaseRun c.src (x.held.length + 1)
      let s := if 32768 < s.reseqLevel then (match s.oldestGap with
        | some b => s.skipGap b
        | none => s) else s
      s.showReseq

/-- RESEQ_GAP_TIMEOUT: a gap has stood for TIMEOUT since the first cell behind it arrived (R458). -/
def execReseqGapTimeout (src : Fin 512) (s : State) : Host.Outcome State Fault Refusal :=
  act s fun s =>
    match s.reseqOf src with
    | some x =>
      match (x.held.map (·.2)).min? with
      | some t => if t + s.get FBR.page FBR.RESEQ_CFG_TIMEOUT * nsUs ≤ s.now then s.skipGap src else s
      | none => s
    | none => s

/-- RESEQ_SOURCE_TIMEOUT: a source with no cell for 1 s loses its state (R458). -/
def execReseqSourceTimeout (src : Fin 512) (s : State) : Host.Outcome State Fault Refusal :=
  act s fun s =>
    match s.reseqOf src with
    | some x => if x.lastAt + nsSec ≤ s.now then (s.setReseq src none).showReseq else s
    | none => s

/-! ### Egress (R395, R429, R430) -/

/-- Size of a port's transmit FIFO: 128 KiB per lane. -/
def State.fifoSize (s : State) (p : Nat) : Nat := 131072 * (s.portLanes p).length

/-- A frame leaves on a client port, or is dropped while the port sends or receives a fault (R388, R404). A packet frame whose
endpoint names a transparent port is dropped and counted the same way, so that each lane keeps to its port's path; the rules name
no counter for it (R3, R20; DESIGN CHOICE, log entry 114). -/
def State.portTx (s : State) (p e len : Nat) : State :=
  if s.portFaulted p || s.portTransparent p then s.macCount p 9 1
  else (((s.macCount p 7 1).macCount p 8 len).ep e 5 1).ep e 6 len

/-- Bytes of a port's overflow queue that lie in GDDR7. -/
def PortState.ovfSpilled (x : PortState) : Nat := ((x.ovf.filter (fun e => !e.2.2)).map (fun e => e.2.1)).sum

/-- A frame enters the egress stage; `full` says that its port's FIFO is full and `noRoom` that no overflow space is left.
The flag says that reassembly for the port stalls, and then the frame has not moved (R430). -/
def State.egress (s : State) (e len : Nat) (full noRoom : Bool) : Bool × State :=
  let a := CLSW.EP e
  if !s.flag a CLSW.EP_EG_VALID then (false, s.macCount 0 9 1)
  else
    let p := s.egPort e
    let x := s.port p
    let bytes := len + 4 * (if s.get a CLSW.EP_EG_TAGS ≤ 2 then s.get a CLSW.EP_EG_TAGS else 0)
    if x.ovf.isEmpty && !full then
      (false, (s.setPort p { x with fifo := x.fifo + bytes, stalled := false }).portTx p e bytes)
    else
      let onDie := decide (s.pkt.onDie + bytes ≤ 65536 * 1024)
      let need := pagesFor (x.ovfSpilled + bytes) - pagesFor x.ovfSpilled
      if noRoom ∨ (!onDie ∧ (s.bufFree = 0 ∨ s.bufFree < need)) then
        (true, if x.stalled then s else (s.setPort p { x with stalled := true }).count (QMG.page + QMG.EGRESS_STALLS))
      else
        let s := s.raiseIf x.ovf.isEmpty Kind.QMG.pages.1 QMG.ev_EGRESS_OVERFLOW
        let s := s.count64 (QMG.page + QMG.EGRESS_OVF_BYTES) bytes
        let s := if onDie then s.onDieAdd bytes else s.bufTake need
        (false, s.setPort p { x with ovf := x.ovf ++ [(e, bytes, onDie)], stalled := false })

/-- The overflow queue drains into the FIFO while it has room. -/
def State.ovfDrain (s : State) (p : Nat) : Nat → State
  | 0 => s
  | n + 1 =>
    let x := s.port p
    match x.ovf with
    | [] => s
    | (e, b, onDie) :: r =>
      if s.fifoSize p < x.fifo + b then s
      else
        let back := pagesFor x.ovfSpilled - pagesFor ({ x with ovf := r } : PortState).ovfSpilled
        let s := s.setPort p { x with ovf := r, fifo := x.fifo + b, stalled := false }
        let s := if onDie then s.onDieSub b else s.bufGive back
        (s.portTx p e b).ovfDrain p n

/-! ### Pause indications (R429, R459) -/

/-- The members that carry PAUSE cells: usable, of version 1.1 or above. -/
def State.pauseMembers (s : State) : List Nat := (List.range 72).filter (fun m => s.memberOpen m && decide (1 ≤ s.memberVer m) && s.mayCtl m)

/-- This part sends a pause indication for a port. -/
def State.pauseSend (s : State) (p : Nat) (on : Bool) : State :=
  let n := s.fbr.pauseSeq
  let s := { s with fbr := { s.fbr with pauseSeq := (n + 1) % 65536 } }
  each s.pauseMembers (fun m t => (t.ctlOut m (ctlCell 4 t.myAddr (pauseBytes t.myAddr p on n))).send "pause"
    [(m : Int), (t.myAddr : Int), (p : Int), (b2n on : Nat), (n : Int)]) s

/-- A port is paused, here and across the domain. -/
def State.pausePort (s : State) (p : Nat) : State :=
  if bitOf (s.get QMG.page QMG.BP_STATE_PAUSED) p then s
  else
    let s := s.set QMG.page QMG.BP_STATE_PAUSED (setBit (s.get QMG.page QMG.BP_STATE_PAUSED) p)
    (s.raise Kind.QMG.pages.1 QMG.ev_BP_ON).pauseSend p true

/-- EGRESS_FIFO_XOFF: the fill of a port's FIFO reaches XOFF (R429). -/
def execEgressFifoXoff (p : Fin 32) (s : State) : Host.Outcome State Fault Refusal :=
  act s fun s =>
    if !s.isPort p ∨ s.blk Kind.QMG.pages.1 = bOFF ∨ s.blk Kind.QMG.pages.1 = bCONFIG then s
    else
      let x := s.port p
      (s.setPort p { x with fifo := max x.fifo (s.fifoSize p * s.get QMG.page QMG.BP_CFG_XOFF / 128) }).pausePort p

/-- EGRESS_FIFO_XON: the fill falls to XON: the pause ends, the overflow queue drains into the FIFO before any later frame,
and what it brings may reach XOFF again (R429, R430). -/
def execEgressFifoXon (p : Fin 32) (s : State) : Host.Outcome State Fault Refusal :=
  act s fun s =>
    if !s.isPort p ∨ s.blk Kind.QMG.pages.1 = bOFF ∨ s.blk Kind.QMG.pages.1 = bCONFIG then s
    else
      let x := s.port p
      let s := s.setPort p { x with fifo := s.fifoSize p * s.get QMG.page QMG.BP_CFG_XON / 128 }
      let was := bitOf (s.get QMG.page QMG.BP_STATE_PAUSED) p
      let s := if was then (s.set QMG.page QMG.BP_STATE_PAUSED (clrBit (s.get QMG.page QMG.BP_STATE_PAUSED) p)).pauseSend p false else s
      let s := s.ovfDrain p x.ovf.length
      if s.fifoSize p * s.get QMG.page QMG.BP_CFG_XOFF / 128 ≤ (s.port p).fifo then s.pausePort p else s

/-- A pause indication heard: new, it is applied and forwarded to every other member that carries PAUSE cells; one seen
within the last 1 ms is dropped (R459). -/
def State.pauseRx (s : State) (m origin port_ : Nat) (on : Bool) (seq : Nat) : State :=
  let seen := s.fbr.seen.filter (fun e => decide (s.now < e.2.2 + nsMs))
  if !s.memberOpen m ∨ s.memberVer m = 0 ∨ seen.any (fun e => e.1 = origin && e.2.1 = seq) ∨ origin = s.myAddr then s
  else
    let rest := s.fbr.pauses.filter (fun p => !(p.origin = origin && p.port = port_))
    let s := { s with fbr := { s.fbr with seen := seen ++ [(origin, seq, s.now)],
                                          pauses := if on then rest ++ [⟨origin, port_, s.now⟩] else rest } }
    each (s.pauseMembers.filter (fun k => k ≠ m)) (fun k t =>
      (t.ctlOut k (ctlCell 4 t.myAddr (pauseBytes origin port_ on seq))).send "pause" [(k : Int), (origin : Int), (port_ : Int), (b2n on : Nat), (seq : Int)]) s

/-- PAUSE_CELL_RX: a PAUSE cell is received (R459). -/
def execPauseCellRx (m : Fin 72) (origin : Fin 512) (port : Fin 32) (on : Bool) (seq : BitVec 16) (s : State) :
    Host.Outcome State Fault Refusal :=
  act s fun s => s.pauseRx m origin port on seq.toNat

/-- PAUSE_REFRESH: every 50 µs the origin sends the pause of a paused port again (R459). -/
def execPauseRefresh (p : Fin 32) (s : State) : Host.Outcome State Fault Refusal :=
  act s fun s => if bitOf (s.get QMG.page QMG.BP_STATE_PAUSED) p then s.pauseSend p true else s

/-- PAUSE_EXPIRY: a pause not refreshed for 200 µs ends here (R459). -/
def execPauseExpiry (origin : Fin 512) (port : Fin 32) (s : State) : Host.Outcome State Fault Refusal :=
  act s fun s =>
    let old := s.fbr.pauses.filter (fun p => p.origin = origin.val && p.port = port.val && decide (p.at_ + 200 * nsUs ≤ s.now))
    if old.isEmpty then s
    else
      let s := { s with fbr := { s.fbr with pauses := s.fbr.pauses.filter (fun p => !(p.origin = origin.val && p.port = port.val)) } }
      s.raise Kind.FBR.pages.1 FBR.ev_PAUSE_EXPIRED

/-! ### Cells received (R440, R448, R449, R451) -/

/-- CRC-8 with x⁸ + x² + x + 1 over the upper 32 bits of a lane word. -/
def crc8 (v : Nat) : Nat :=
  (List.range 32).foldl (fun c i => let top := bitOf c 7 != bitOf v (31 - i); (2 * c % 256) ^^^ (if top then 0x07 else 0)) 0

/-- A filler cell with its HCRC, which the receiver deletes (R440, R449). -/
def isFillerCell (c : RawCell) : Bool :=
  let h := c.header.toNat
  decide (bitsOf h 124 4 = 1) && decide (crc16 (h / 65536) = h % 65536)

/-- A header's fields (Table 14-5). -/
def cellOf (h from_ : Nat) : Cell :=
  { sof := bitOf h 123, eof := bitOf h 122, cls := bitsOf h 120 2, dest := bitsOf h 111 9, src := bitsOf h 102 9,
    ep := bitsOf h 84 18, len := bitsOf h 76 8, hops := bitsOf h 70 6, seq := bitsOf h 38 32, sync := bitOf h 37, from_ := from_ }

/-- A number from payload bytes. -/
def payNat (l : List Byte) (i k : Nat) : Nat := ((l.drop i).take k).foldl (fun n b => 256 * n + b.toNat) 0

/-- A HELLO payload (Table 14-6). -/
def helloOf (l : List Byte) : Hello :=
  { addr := payNat l 0 2 % 512, ver := payNat l 2 1 / 16, link := payNat l 3 1, ident := payNat l 4 8, domain := payNat l 12 8,
    t3 := payNat l 20 8, t1 := payNat l 28 8, t2 := payNat l 36 8 }

/-- A data cell from a member: for this part to resequencing, else on with one hop less; a cell that would leave with none is
dropped (R451, R457). -/
def State.dataRx (s : State) (c : Cell) : State :=
  if s.blk Kind.FBR.pages.1 = bFAULT then
    (s.count (FBR.page + (if c.dest = s.myAddr then FBR.REASM_DISCARDS else FBR.TRANSIT_DROPS))).giveCredit c
  else if !s.active Kind.FBR.pages.1 then s.giveCredit c
  else if bitOf (s.outKey c.dest) 8 then (s.giveCredit c).reseqRx c
  else if c.hops ≤ 1 then ((s.count (FBR.page + FBR.HOP_DROPS)).raise Kind.FBR.pages.1 FBR.ev_HOP_DROP).giveCredit c
  else s.forward { c with hops := c.hops - 1 }

/-- A received cell (R449): a bad HCRC or an unassigned TYPE discards it, filler is deleted, HELLO and PAUSE act, a TOPO
record is taken by its own command, and data moves on. -/
def State.cellRx (s : State) (m : Nat) (c : RawCell) : State :=
  let h := c.header.toNat
  let ty := bitsOf h 124 4
  let b := FBL.page m
  if crc16 (h / 65536) ≠ h % 65536 ∨ 4 < ty then (if m < 8 then s.count (b + FBL.CELL_DISCARDS) else s)
  else if ty = 1 then s
  else
    let s := if m < 8 then s.count64 (b + FBL.CELLS_RX) 1 else s
    let cell := { cellOf h (1 + m) with data := c.payload.map (·.toNat) }
    if ty = 2 then (s.giveCredit cell).helloRx m (helloOf c.payload)
    else if ty = 3 then s.giveCredit cell
    else if ty = 4 then (s.giveCredit cell).pauseRx m (payNat c.payload 0 2 % 512) (payNat c.payload 2 1 % 32)
      (payNat c.payload 3 1 % 2 = 1) (payNat c.payload 4 2)
    else if !s.memberOpen m then s.giveCredit cell
    else s.dataRx cell

/-- The 256 bytes of a cell as received. -/
def wireBytes (c : RawCell) : List Nat := beBytes 16 c.header.toNat ++ pad240 (c.payload.map (·.toNat))

/-- The next cell of the oldest unit that CRY released of a packet gathering is taken, when it is this one (R450, R18). -/
def State.takeCell (s : State) (g : Nat) (c : RawCell) : Option State :=
  match (s.gth g).released with
  | (true, l) :: r =>
    if l.take 256 = wireBytes c then
      some (s.setGth g { s.gth g with released := if (l.drop 256).length < 256 then r else (true, l.drop 256) :: r })
    else none
  | _ => none

/-- CELL_RX: a cell arrives on a member; over a line gathering the next cell of the unit that CRY released (R18, R449, R450). -/
def execCellRx (m : Fin 72) (c : RawCell) (s : State) : Host.Outcome State Fault Refusal :=
  act s fun s =>
    if m.val < 8 then (if kNEGOTIATE ≤ s.linkSt m then s.cellRx m c else s)
    else if !s.isLine m then s
    else match s.takeCell (m - 8) c with
      | some t => t.cellRx m c
      | none => s

/-- A lane word that passes its CRC: credits, the peer's RX_OK, and what they change (R440, R443 to R445, R448). -/
def State.laneWord (s : State) (k l w : Nat) : State :=
  let b := FBL.page k
  let y := s.lane k l
  let good := y.goodRun + 1
  let s := s.setLane k l { y with goodRun := good, badRun := 0, passFrom := some (y.passFrom.getD s.now) }
  let s := if 3 ≤ good then s.setB b (FBL.LANE_CW_LOCK l) true else s
  let s := if s.linkSt k = kTRAIN ∧ s.flag b (FBL.LANE_CW_LOCK l) then s.setB b (FBL.LANE_RX_OK l) true else s
  let s := s.set b FBL.STATUS_PEER_RX_OK (bitsOf w 12 4)
  let s := s.setLink k { s.link k with credits := (s.link k).credits + bitsOf w 20 12 }
  let s := if s.linkSt k = kTRAIN ∧ (s.lanesLocked k).length = 4 then s.negotiate k
    else if s.linkUp k then s.linkLanes k else s
  s.drain

/-- LANE_FRAME_RX: a lane frame's lane word is checked, its uncorrectable codewords count, and its cells pass on; three CRC
failures lose codeword lock and four uncorrectable codewords in a row fail the lane (R439, R440, R444). -/
def execLaneFrameRx (k : Fin 8) (l : Fin 4) (word : BitVec 40) (bad0 bad1 : Bool) (cells : List RawCell) (s : State) :
    Host.Outcome State Fault Refusal :=
  act s fun s =>
    let b := FBL.page k
    if s.linkSt k = kDISABLED ∨ s.linkSt k = kBACKOFF ∨ !s.flag b (FBL.LANE_CDR_LOCK l) then s
    else
      let s := s.count (b + FBL.CW_UNCORR) (b2n bad0 + b2n bad1)
      let run0 := if bad0 then (s.lane k l).uncorrRun + 1 else 0
      let run := if bad1 then run0 + 1 else 0
      let s := s.setLane k l { s.lane k l with uncorrRun := run }
      let w := word.toNat
      let pass := decide (crc8 (w / 256) = w % 256)
      let s := if pass then s.laneWord k l w
        else
          let y := s.lane k l
          let s := s.setLane k l { y with goodRun := 0, badRun := y.badRun + 1, passFrom := none }
          if 3 ≤ y.badRun + 1 then
            let s := (s.setB b (FBL.LANE_CW_LOCK l) false).laneFail k l
            if s.linkUp k then s else s.setB b (FBL.LANE_RX_OK l) false
          else s
      let s := if 4 ≤ run0 ∨ 4 ≤ run then s.laneFail k l else s
      if s.linkUp k && !s.rxOk k l then s.count (b + FBL.CELL_DISCARDS) ((cells.take 5).filter (fun c => !isFillerCell c)).length
      else if decide (kNEGOTIATE ≤ s.linkSt k) then each (cells.take 5) (fun c t => t.cellRx k c) s
      else s

/-! ### Dequeue and reassembly (R427, R428, R457, R458) -/

/-- The cells of a frame of `len` bytes with first SEQ `q` (R449). -/
def cutCells (f : Frame) (src hops q len : Nat) (sync : Bool) : List Cell :=
  let n := ceilDiv len 240
  (List.range n).map (fun i =>
    { sof := decide (i = 0), eof := decide (i + 1 = n), cls := f.cls, dest := f.part, src := src, ep := f.ep,
      len := if i + 1 = n then (len - 240 * i) % 240 else 0, hops := hops, seq := (q + i) % 2 ^ 32, sync := sync })

/-- A frame bound for another part is cut into cells, which take SEQ and are sprayed (R457). -/
def State.sendFrame (s : State) (f : Frame) : State :=
  let q := Tab.get (fun _ => 0) s.fbr.sentSeq f.part
  let cs := cutCells f s.myAddr (s.get FBR.page FBR.TIMERS_HOP_LIMIT) q (f.len - 4 * f.removed) (decide (s.now < s.fbr.seqFrom + 100 * nsUs))
  let s := { s with fbr := { s.fbr with sentSeq := Tab.put (fun _ => 0) s.fbr.sentSeq f.part ((q + cs.length) % 2 ^ 32) } }
  each cs (fun c t => t.forward c) s

/-- FRAME_DEQUEUE: the scheduler of the output that part `dest` is reached by dequeues a frame and charges the shapers that
govern it; it leaves by the local egress or is cut into cells. A frame with an unreadable page is discarded (R412, R422,
R427, R428). `full` and `noRoom` speak of the frame's port at the local egress. -/
def execFrameDequeue (dest : Fin 512) (full noRoom : Bool) (s : State) : Host.Outcome State Fault Refusal :=
  act s fun s =>
    let key := s.outKey dest
    let local_ := bitOf key 8
    let ms := setMembers key
    let held := s.blk Kind.QMG.pages.1 = bOFF || s.blk Kind.QMG.pages.1 = bCONFIG || (s.page Kind.QMG.pages.1).softReset
      || !(s.active Kind.FBR.pages.1 || s.blk Kind.FBR.pages.1 = bFAULT)
      || (!local_ && s.inConflict) || (!local_ && !ms.isEmpty && ms.all (fun m => !s.shpEligible (memberShaper m)))
    if held then s
    else match s.pickQueue key (fun f => s.outKey f.part = key) with
      | (none, t) => t
      | (some q, t) =>
        match t.takeFrame q with
        | (none, t) => t
        | (some f, u) =>
          if t.frameLost f then
            ((u.count (QMG.page + QMG.DEQ_DISCARDS)).raise Kind.QMG.pages.1 QMG.ev_BUF_READ_FAIL).dropFrame f
          else
            let charged := fun (v : State) =>
              let tags := v.get (CLSW.EP f.ep) CLSW.EP_EG_TAGS
              let len := f.len - 4 * f.removed + 4 * (if tags ≤ 2 then tags else 0)
              let v := (v.charge q len).charge (shpEp f.ep) len
              each ms (fun m x => x.charge (memberShaper m) len) v
            if s.blk Kind.FBR.pages.1 = bFAULT then (charged u).count (FBR.page + FBR.TRANSIT_DROPS)
            else if local_ then
              match u.egress f.ep (f.len - 4 * f.removed) full noRoom with
              | (false, v) => charged v
              | (true, _) => (s.egress f.ep (f.len - 4 * f.removed) full noRoom).2
            else charged (u.sendFrame f)

/-- The cells of the first frame in a list, when it is there whole: those to drop before it, the frame's cells, the rest. A
frame is broken when it does not begin with SOF, lacks a SEQ, or another SOF cuts it off. -/
def firstFrame : List Cell → Option (Bool × List Cell × List Cell)
  | [] => none
  | c :: r =>
    if !c.sof then
      let junk := r.takeWhile (fun d => !d.sof)
      if c.eof then some (false, [c], r)
      else match (junk.find? (·.eof)) with
        | some e =>
          let j := junk.takeWhile (fun d => d.seq ≠ e.seq) ++ [e]
          some (false, c :: j, r.drop j.length)
        | none => if junk.length = r.length then none else some (false, c :: junk, r.drop junk.length)
    else if c.eof then some (true, [c], r)
    else
      let body := r.takeWhile (fun d => !d.sof)
      match (body.find? (·.eof)) with
      | some e =>
        let j := body.takeWhile (fun d => d.seq ≠ e.seq) ++ [e]
        let whole := ((c :: j).zip j).all (fun x => x.2.seq = (x.1.seq + 1) % 2 ^ 32)
        some (whole, c :: j, r.drop j.length)
      | none => if body.length = r.length then none else some (false, c :: body, r.drop body.length)

/-- FRAME_REASSEMBLY: the released cells of a source and class give a frame, which passes to egress or the overflow queue, or
one that lacks a cell, which is discarded; a stall of its port leaves the cells where they are (R430, R458). -/
def execFrameReassembly (src : Fin 512) (cls : Fin 4) (full noRoom : Bool) (s : State) : Host.Outcome State Fault Refusal :=
  act s fun s =>
    let k := 4 * src.val + cls.val
    match firstFrame (Tab.get (fun _ => {}) s.fbr.reasm k).ready with
    | none => s
    | some (good, cs, rest) =>
      let took := fun (t : State) =>
        ({ t with fbr := { t.fbr with reasm := Tab.put (fun _ => {}) t.fbr.reasm k { ready := rest } } } : State).showReseq
      if s.blk Kind.QMG.pages.1 = bOFF ∨ s.blk Kind.QMG.pages.1 = bCONFIG then s
      else if !good then (took s).count (FBR.page + FBR.REASM_DISCARDS)
      else
        let lastLen := (cs.getLast?.map (·.len)).getD 0
        let len := 240 * (cs.length - 1) + (if lastLen = 0 then 240 else lastLen)
        match s.egress ((cs.head?.map (·.ep)).getD 0) len full noRoom with
        | (true, t) => t
        | (false, t) => took t

/-- SHAPER_WHEEL_SLOT: a shaper's slot of the timing wheel comes round (R423); cells that waited for it may go. -/
def execShaperWheelSlot (x : Fin 2097224) (s : State) : Host.Outcome State Fault Refusal :=
  act s fun s => (s.wheelSlot x).drain

end Sys2Proof.Machine
end

