-- ==== Sys2Proof/Machine/Tim.lean ====
section
/-!
DEFINITION. Reference selection, holdover and clock outputs (chapter 15): the candidate slots with their measurement,
voting and drift detection, the two DPLLs, phase steps and DTIME, line steering, clock and pulse outputs, quality levels,
and the monitor reference. Offsets are in units of 0.01 ppb, phases in ps.
-/
namespace Sys2Proof.Machine

/-! ### Selection (R474, R475) -/

def State.rankOf (s : State) (d i : Nat) : Nat :=
  s.get TIM.page (if d = 0 then TIM.SLOT_CFG_RANK0 i else TIM.SLOT_CFG_RANK1 i)

/-- The candidates of a DPLL (R474). -/
def State.candidates (s : State) (d : Nat) : List Nat :=
  let b := TIM.page
  let qual := (List.range 16).filter (s.slotIs TIM.SLOT_STATUS_QUALIFIED)
  match s.get b (TIM.DCTRL_MODE d) with
  | 0 =>
    let c := qual.filter (fun i => s.rankOf d i != 0)
    if s.flag b (TIM.DCTRL_QL_EN d) then
      let ql := fun i => s.get b (TIM.SLOT_CFG_QL i)
      let c := c.filter (fun i => !qlDead (ql i))
      let r := fun i => qlRank s.timOption (ql i)
      c.filter (fun i => c.all (fun j => r i ≤ r j))
    else c
  | 1 => qual.filter (fun i => i = s.get b (TIM.DCTRL_FORCE_SLOT d))
  | _ => []

/-- The slot a DPLL takes: the selected one while no candidate has a better rank, else the best, lowest first. -/
def State.choice (s : State) (d : Nat) : Option Nat :=
  let c := s.candidates d
  match c with
  | [] => none
  | i0 :: r =>
    let best := r.foldl (fun i j => if s.rankOf d j < s.rankOf d i then j else i) i0
    match s.selected d with
    | some k => if c.contains k && decide (s.rankOf d k ≤ s.rankOf d best) then some k else some best
    | none => some best

/-- A switch: the phase offset of the new reference is absorbed into PBO_TOTAL (R475). -/
def State.switchTo (s : State) (d i : Nat) : State :=
  let b := TIM.page
  let x := s.slot i
  let off := if d = 0 then x.phase0 else x.phase1
  let s := s.setI b (TIM.PBO_TOTAL_PS d) (clampI (2 ^ 31 - 1) (s.getI b (TIM.PBO_TOTAL_PS d) + off))
  let s := s.setSlot i (if d = 0 then { x with phase0 := 0 } else { x with phase1 := 0 })
  let s := (s.setI b (TIM.PHASE_ERR_PS d) 0).set b (TIM.DSTATUS_SELECTED d) i
  let s := (s.setB b (TIM.DSTATUS_SEL_VALID d) true).setB b (TIM.DSTATUS_ONSET_VALID d) false
  let s := (s.setB b (TIM.DSTATUS_S_SWITCH d) true).count (b + TIM.SWITCHES d)
  s.raise timPg (TIM.ev_SWITCHED d)

/-- A DPLL selects (R474, R475, Table 15-3). -/
def State.dpllSelect (s : State) (d : Nat) : State :=
  if !s.active timPg then s
  else
    let st := s.dpState d
    match s.choice d with
    | none =>
      if s.get TIM.page (TIM.DCTRL_MODE d) = 3 then s.freerun d
      else if st = dpLOCKING ∨ st = dpLOCKED then s.holdover d else s
    | some i =>
      let s := if s.selected d = some i then s else s.switchTo d i
      if st = dpFREERUN ∨ st = dpHOLDOVER then s.dpTo d dpLOCKING else s

/-- Both DPLLs select, and what they show follows. -/
def State.selectAll (s : State) : State := ((s.dpllSelect 0).dpllSelect 1).showQl

/-! ### Qualification (R468, R469) -/

/-- The conditions of R468 but the wait. -/
def State.slotGood (s : State) (i : Nat) : Bool :=
  let b := TIM.page
  s.flag b (TIM.SLOT_CFG_EN i) && s.get b (TIM.SLOT_CFG_SOURCE i) != 0x3F && s.flag b (TIM.SLOT_STATUS_ACTIVE i)
    && s.flag b (TIM.SLOT_STATUS_MON_VALID i) && !s.flag b (TIM.SLOT_STATUS_HARD i)
    && !s.flag b (TIM.SLOT_STATUS_VOTED_OUT i) && s.active timPg

/-- A slot qualifies. -/
def State.qualify (s : State) (i : Nat) : State :=
  let b := TIM.page
  let s := s.setSlot i { s.slot i with fresh := false }
  let s := (s.setB b (TIM.SLOT_STATUS_QUALIFIED i) true).setB b (TIM.SLOT_STATUS_WTR i) false
  (s.set b (TIM.SLOT_STATUS_WTR_LEFT i) 0).raise timPg (TIM.ev_REF_QUALIFIED i)

/-- A slot's qualification follows its conditions; one that lost it waits out WTR, which each new failure restarts. -/
def State.judgeSlot (s : State) (i : Nat) : State :=
  let b := TIM.page
  let good := s.slotGood i
  let wtr := s.get b TIM.WTR_CFG_WTR
  if s.flag b (TIM.SLOT_STATUS_QUALIFIED i) then
    if good then s else s.disqualify i
  else if !good then (if s.flag b (TIM.SLOT_STATUS_WTR i) then s.set b (TIM.SLOT_STATUS_WTR_LEFT i) wtr else s)
  else if (s.slot i).fresh ∨ wtr = 0 then s.qualify i
  else s

/-- Every slot is judged, then both DPLLs select. -/
def State.judgeAll (s : State) : State := (each (List.range 16) (fun i t => t.judgeSlot i) s).selectAll

/-- A slot's DRIFT bit clears, and with it ONSET_VALID of a DPLL that selects the slot (R473). -/
def State.driftClear (s : State) (i : Nat) : State :=
  let s := s.setB TIM.page (TIM.SLOT_STATUS_DRIFT i) false
  each [0, 1] (fun d t => if t.selected d = some i then t.setB TIM.page (TIM.DSTATUS_ONSET_VALID d) false else t) s

/-- A slot's measurements and its drift detector are discarded (R464). -/
def State.slotForget (s : State) (i : Nat) : State :=
  let s := s.setSlot i { s.slot i with hist := [], overRun := 0, underRun := 0 }
  (s.driftClear i).setB TIM.page (TIM.SLOT_STATUS_MON_VALID i) false

/-! ### The second (R467 to R473, R478) -/

/-- The least-squares slope of equally spaced values, newest first, per step: its numerator and its denominator (R467, R472). -/
def slope (l : List Int) : Int × Nat :=
  let n := l.length
  let st := n * (n - 1) / 2
  let stt := n * (n - 1) * (2 * n - 1) / 6
  let sy := l.foldl (· + ·) 0
  let sty := (l.zipIdx.map (fun e => (e.2 : Int) * e.1)).foldl (· + ·) 0
  (st * sy - n * sty, n * stt - st * st)

/-- y of PPSIN from its last 16 edges: their slope against 1 s, and DTIME's own offset from the monitor reference (R467). -/
def State.ppsY (s : State) : Option Int :=
  if s.tim.ppsin.length < 16 then none
  else
    let m := slope s.tim.ppsin
    some (divRound (10 ^ 12 * m.2 - m.1) (10 * m.2) + s.getI TIM.page (whole (TIM.FREQ 1)))

/-- One slot's measurement of the second (R467, R468). -/
def State.slotMeasure (s : State) (i : Nat) (y : Option Int) (ph : Int × Int) : State :=
  let b := TIM.page
  let y := if s.get b (TIM.SLOT_CFG_SOURCE i) = 4 then s.ppsY else y
  let x := { s.slot i with phase0 := ph.1, phase1 := ph.2 }
  match y with
  | none => s.setSlot i x
  | some y =>
    if !s.flag b (TIM.SLOT_STATUS_ACTIVE i) then s.setSlot i x
    else
      let s := s.setSlot i { x with hist := (y :: x.hist).take 600 }
      let s := (s.setI b (TIM.SLOT_FREQ_Y i) y).setB b (TIM.SLOT_STATUS_MON_VALID i) true
      let hard := decide (100 * s.get b TIM.LIMITS_HARD < y.natAbs)
      let soft := decide (100 * s.get b TIM.LIMITS_SOFT < y.natAbs)
      let was := s.flag b (TIM.SLOT_STATUS_SOFT i)
      let s := (s.setB b (TIM.SLOT_STATUS_HARD i) hard).setB b (TIM.SLOT_STATUS_SOFT i) soft
      let s := if hard then s.setB b (TIM.SLOT_STATUS_S_HARD i) true else s
      let s := if soft then s.setB b (TIM.SLOT_STATUS_S_SOFT i) true else s
      s.raiseIf (soft && !was) timPg (TIM.ev_SOFT_LIMIT i)

/-- The slope of a least-squares line through equally spaced values exceeds `rate` in magnitude (R472). -/
def slopeOver (l : List Int) (rate : Nat) : Bool :=
  let m := slope l
  decide (rate * m.2 < m.1.natAbs)

/-- DRIFT_ONSET and the pre-onset value of a DPLL whose selected slot drifts (R473). -/
def State.onsetNote (s : State) (d onset : Nat) : State :=
  let b := TIM.page
  let age := (s.dtime - onset) / nsSec
  let w := ((s.dpll d).ring.drop age).take (s.get b TIM.HOLD_CFG_WINDOW)
  let s := (s.setNat64 (b + TIM.DRIFT_ONSET d) onset).setB b (TIM.DSTATUS_ONSET_VALID d) true
  s.setDpll d { s.dpll d with pre := (meanOff (w.map (·.1)), w.length, (w.filter (·.2)).length) }

/-- One slot's drift detector (R472, R473). -/
def State.slotDrift (s : State) (i : Nat) : State :=
  let b := TIM.page
  let x := s.slot i
  let span := s.get b TIM.DRIFT_CFG_SPAN
  if !s.flag b (TIM.SLOT_STATUS_MON_VALID i) || decide (x.hist.length < span) then s
  else
    let isOver := slopeOver (x.hist.take span) (s.get b TIM.DRIFT_CFG_RATE)
    let x := if isOver then { x with overRun := x.overRun + 1, underRun := 0,
                                     onset := if x.overRun = 0 then s.dtime - span * nsSec else x.onset }
      else { x with overRun := 0, underRun := x.underRun + 1 }
    let s := s.setSlot i x
    let drift := s.flag b (TIM.SLOT_STATUS_DRIFT i)
    if !drift && decide (10 ≤ x.overRun) then
      let s := (s.setB b (TIM.SLOT_STATUS_DRIFT i) true).setB b (TIM.SLOT_STATUS_S_DRIFT i) true
      let s := s.raise timPg (TIM.ev_DRIFT_ONSET i)
      each [0, 1] (fun d t => if t.selected d = some i then t.onsetNote d x.onset else t) s
    else if drift && decide (span ≤ x.underRun) then s.driftClear i
    else s

/-- Two slots' values of y differ by more than PEER_TH (R470). -/
def State.disagree (s : State) (i j : Nat) : Bool :=
  decide (100 * s.get TIM.page TIM.PEER_CFG_PEER_TH
    < (s.getI TIM.page (TIM.SLOT_FREQ_Y i) - s.getI TIM.page (TIM.SLOT_FREQ_Y j)).natAbs)

/-- Voting and disagreement at the end of a second (R470, R471). -/
def State.vote (s : State) : State :=
  let b := TIM.page
  let q := (List.range 16).filter (fun i => s.slotIs TIM.SLOT_STATUS_QUALIFIED i && s.slotGood i)
  let en := s.flag b TIM.PEER_CFG_VOTE_EN
  let out := if en then q.filter (fun i =>
      let o := q.filter (· != i)
      decide (2 ≤ o.length) && decide (o.length < 2 * (o.filter (s.disagree i)).length)) else []
  let back := (List.range 16).filter (fun i => s.slotIs TIM.SLOT_STATUS_VOTED_OUT i
    && (!en || decide (q.length ≤ 2 * (q.filter (fun j => !s.disagree i j)).length)))
  let s := each back (fun i t => t.setB b (TIM.SLOT_STATUS_VOTED_OUT i) false) s
  let s := each out (fun i t => ((t.setB b (TIM.SLOT_STATUS_VOTED_OUT i) true).setB b (TIM.SLOT_STATUS_S_VOTED i) true).raise
    timPg (TIM.ev_VOTED_OUT i)) s
  let left := q.filter (fun i => !out.contains i)
  let pairs := left.flatMap (fun i => (left.filter (fun j => i < j && s.disagree i j)).map (fun j => (i, j)))
  let new_ := pairs.filter (fun p => !s.tim.pairs.contains p)
  let s := { s with tim := { s.tim with pairs := pairs } }
  let s := each (List.range 16) (fun i t =>
    let dis := pairs.any (fun p => p.1 = i || p.2 = i)
    let t := t.setB b (TIM.SLOT_STATUS_DISAGREE i) dis
    if dis then t.setB b (TIM.SLOT_STATUS_S_DISAGREE i) true else t) s
  each new_ (fun _ t => t.raise timPg TIM.ev_PEER_DISAGREE) s

/-- A DPLL's control value of the second joins its ring of 4,224 (R478). -/
def State.dpSecond (s : State) (d : Nat) (c e : Int) : State :=
  let x := s.dpll d
  let st := s.dpState d
  let c := if st = dpFREERUN then 0 else if st = dpHOLDOVER then s.getI TIM.page (whole (TIM.FREQ d)) else c
  let s := s.setDpll d { x with ring := ((c, x.lockedAll && st = dpLOCKED) :: x.ring).take 4224, lockedAll := st = dpLOCKED }
  let s := s.setI TIM.page (whole (TIM.FREQ d)) c
  if st = dpLOCKING ∨ st = dpLOCKED then s.setI TIM.page (TIM.PHASE_ERR_PS d) e else s

/-- A waiting slot's WTR_LEFT counts down while its other conditions hold (R469). -/
def State.wtrTick (s : State) (i : Nat) : State :=
  let f := TIM.SLOT_STATUS_WTR_LEFT i
  if s.slotIs TIM.SLOT_STATUS_WTR i && s.slotGood i then s.set TIM.page f (s.get TIM.page f - 1) else s

/-- TIM_SECOND: a second of DTIME ends: per slot the offset y measured (none without a measurement) and the phase against
each DPLL's output, and per DPLL the control value and phase error (R467 to R473, R478). -/
def execTimSecond (ys : List (Option Int)) (phases : List (Int × Int)) (c0 : Int) (c1 : Int) (e0 : Int) (e1 : Int)
    (s : State) : Host.Outcome State Fault Refusal :=
  act s fun s =>
    if !s.active timPg then s
    else
      let s := (s.dpSecond 0 c0 e0).dpSecond 1 c1 e1
      let s := each (List.range 16) (fun i t => t.slotMeasure i (ys.getD i none) (phases.getD i (0, 0))) s
      let s := each (List.range 16) (fun i t => t.slotDrift i) s
      let s := each (List.range 16) (fun i t => t.wtrTick i) s
      let s := (s.vote).judgeAll
      (s.showHold 0).showHold 1

/-- The condition of a recovered clock: of a client lane's R402, of a line receiver's R153, of a fabric link's R447; none of a
pin (Table 15-2). -/
def State.recovered (s : State) (src : Nat) : Option Bool :=
  if src < 8 ∨ src = 0x3F then none
  else if src < 0x28 then
    let l := src - 8
    some (s.flag (CLN.page (l / 4)) (CLN.RX_STATUS_SIG_DET (l % 4)) && s.flag (CLN.page (l / 4)) (CLN.RX_STATUS_CDR_LOCK (l % 4))
      && (List.range 32).any (fun p => s.isPort p && (s.portLanes p).contains l && s.flag MAC.page (MAC.PORT_STATUS_PCS_ALIGNED p)))
  else if src < 0x30 then some ((s.subc (src - 0x28) 0).st = .track)
  else some (s.linkUp (src - 0x30))

/-- REF_ACTIVITY_CHANGE: a slot's source becomes active or inactive; that of a recovered clock follows its condition
(R466, R467). -/
def execRefActivityChange (slot : Fin 16) (active : Bool) (s : State) : Host.Outcome State Fault Refusal :=
  act s fun s =>
    let b := TIM.page
    let src := s.get b (TIM.SLOT_CFG_SOURCE slot)
    if src = 0x3F ∨ s.flag b (TIM.SLOT_STATUS_ACTIVE slot) = active ∨ (s.recovered src).any (· != active) then s
    else
      let s := s.setB b (TIM.SLOT_STATUS_ACTIVE slot) active
      let s := if active then s
        else
          let s := s.setB b (TIM.SLOT_STATUS_S_LOS slot) true
          let s := s.setSlot slot { s.slot slot with hist := [], overRun := 0, underRun := 0 }
          let s := if src = 4 then { s with tim := { s.tim with ppsin := [] } } else s
          s.setB b (TIM.SLOT_STATUS_MON_VALID slot) false
      s.judgeAll

/-- PPSIN_EDGE: a rising edge is time-stamped, and is the newest of the 16 that y is taken from (R466, R467). -/
def execPpsinEdge (ps : Fin 1000) (s : State) : Host.Outcome State Fault Refusal :=
  act s fun s =>
    let s := { s with tim := { s.tim with ppsin := (((s.dtime : Int) * 1000 + ps.val) :: s.tim.ppsin).take 16 } }
    (s.setNat64 (TIM.page + TIM.PPSIN_TIME) s.dtime).set TIM.page TIM.PPSIN_PS_PS ps

/-- REF_WTR_EXPIRY: a slot whose wait is over qualifies again (R469). -/
def execRefWtrExpiry (slot : Fin 16) (s : State) : Host.Outcome State Fault Refusal :=
  act s fun s =>
    if s.slotIs TIM.SLOT_STATUS_WTR slot && s.get TIM.page (TIM.SLOT_STATUS_WTR_LEFT slot) = 0 && s.slotGood slot then
      (s.qualify slot).selectAll
    else s

/-- PHASE_ERR of a DPLL lies beyond a number of ps. -/
def State.phaseOver (s : State) (d ps : Nat) : Bool := decide (ps < (s.getI TIM.page (TIM.PHASE_ERR_PS d)).natAbs)

/-- The largest PHASE_ERR of a DPLL that locks, in ps: 10 ns, or 100 ns with PPSIN (Table 15-3). -/
def State.lockLimit (s : State) (d : Nat) : Nat :=
  if (s.selected d).any (fun i => s.get TIM.page (TIM.SLOT_CFG_SOURCE i) = 4) then 100000 else 10000

/-- DPLL_LOCK: the errors have stayed within limits for 10 s (Table 15-3). -/
def execDpllLock (d : Fin 2) (s : State) : Host.Outcome State Fault Refusal :=
  act s fun s =>
    if s.dpState d ≠ dpLOCKING ∨ s.phaseOver d (s.lockLimit d) ∨ s.now < (s.dpll d).since + 10 * nsSec then s
    else ((s.dpTo d dpLOCKED).raise timPg (TIM.ev_LOCKED d)).showQl

/-- DPLL_LOCK_LOST: |PHASE_ERR| above 1 µs for 1 s (Table 15-3). -/
def execDpllLockLost (d : Fin 2) (s : State) : Host.Outcome State Fault Refusal :=
  act s fun s =>
    if s.dpState d ≠ dpLOCKED ∨ !s.phaseOver d 1000000 ∨ s.now < (s.dpll d).since + nsSec then s
    else (((s.dpTo d dpLOCKING).setB TIM.page (TIM.DSTATUS_S_LOCK_LOST d) true).raise timPg (TIM.ev_LOCK_LOST d)).showQl

/-! ### Phase steps and DTIME (R479, R480) -/

/-- DTIME steps by an amount in ps, the part below 1 ns carried; the times of PPSIN's edges move with it. -/
def State.moveDtime (s : State) (ps : Int) : State :=
  let x := s.dpll 1
  let t := x.carryPs + ps
  let s := s.setDpll 1 { x with carryPs := t % 1000 }
  let s := { s with tim := { s.tim with ppsin := s.tim.ppsin.map (· + ps) } }
  { s with dtime := (((s.dtime : Int) + t / 1000) % (2 ^ 64 : Int)).toNat }

/-- A step of a DPLL's output phase (R479, R480). -/
def State.phaseStep (s : State) (d : Nat) (ps : Int) : State :=
  if s.flag TIM.page (TIM.STEP_CFG_MODE d) then
    let old := s.pmTime
    let before := s.dtime
    let s := if d = 1 then s.moveDtime ps else s
    let s := if s.dtime = before then s else s.pmStep old
    s.raise timPg (TIM.ev_STEP_DONE d)
  else (s.setDpll d { s.dpll d with slew := ps, slewed := 0 }).setB TIM.page (TIM.DSTATUS_SLEWING d) true

/-- SLEW_DONE: the phase has moved by the full amount, to which each cycle adds SLEW_RATE (State.slewTick; R479). -/
def execSlewDone (d : Fin 2) (s : State) : Host.Outcome State Fault Refusal :=
  act s fun s =>
    if !s.flag TIM.page (TIM.DSTATUS_SLEWING d) || decide ((s.dpll d).slewed < (s.dpll d).slew.natAbs * 10 ^ 8) then s
    else
      let s := s.setDpll d { s.dpll d with slew := 0, slewed := 0 }
      (s.setB TIM.page (TIM.DSTATUS_SLEWING d) false).raise timPg (TIM.ev_STEP_DONE d)

/-- A slewing DPLL's step over `ns` nanoseconds: its progress, and the phase moved, in 10⁻¹¹ ns. -/
def State.slewTick (s : State) (d ns : Nat) : State × Int :=
  if !s.flag TIM.page (TIM.DSTATUS_SLEWING d) then (s, 0)
  else
    let x := s.dpll d
    let n := min (x.slew.natAbs * 10 ^ 8 - x.slewed) (ns * 100 * s.get TIM.page (TIM.STEP_CFG_SLEW_RATE d))
    (s.setDpll d { x with slewed := x.slewed + n }, if x.slew < 0 then -n else n)

/-- DTIME over `ns` nanoseconds of the root clock: it counts those of DPLL1's output, whose offset from the root clock is FREQ
and, with OCXO_IN the monitor reference, that of the OCXO; a slew changes its rate (R464, R479, R480). -/
def State.dtimeTick (s : State) (ns : Nat) : State :=
  let s := (s.slewTick 0 ns).1
  let t := s.slewTick 1 ns
  let s := t.1
  let ocxo := if s.flag CLK.page CLK.OCXO_STATUS_MONREF then 1000 * s.getI CLK.page CLK.OCXO_STATUS_OFFSET else 0
  let x := s.dpll 1
  let f := x.frac + ns * (s.getI TIM.page (whole (TIM.FREQ 1)) + ocxo) + t.2
  let s := s.setDpll 1 { x with frac := f % 10 ^ 11 }
  { s with dtime := (((s.dtime : Int) + ns + f / 10 ^ 11) % (2 ^ 64 : Int)).toNat }

/-! ### Line steering (R25, R326, R481) -/

/-- An enabled gathering has slots on both carriers (R326). -/
def State.commonRate (s : State) : Bool := s.gatherings.any s.collates

/-- LINE_STEER_UPDATE: every 1 ms, from the offset of DPLL0's output from XO_IN; a request beyond ±50 ppm is clamped, with an
event for each such request. -/
def execLineSteerUpdate (offset : Int) (s : State) : Host.Outcome State Fault Refusal :=
  act s fun s =>
    let b := TIM.page
    let common := s.commonRate
    let en0 := s.flag b TIM.LINE_SYNC_EN0
    let en1 := if common then en0 else s.flag b TIM.LINE_SYNC_EN1
    let v := clampI 5000000 offset
    let big := v != offset
    let c0 := en0 && big
    let c1 := en1 && big
    let s := { s with tim := { s.tim with steer := ⟨if en0 then v else 0, if en1 then v else 0⟩ } }
    let s := (s.setB b TIM.LINE_SYNC_CLAMP0 c0).setB b TIM.LINE_SYNC_CLAMP1 c1
    let s := if c0 || c1 then s.setB b (TIM.DSTATUS_S_CLAMP 0) true else s
    (s.raiseIf c0 timPg (TIM.ev_STEER_CLAMP 0)).raiseIf c1 timPg (TIM.ev_STEER_CLAMP 1)

/-! ### The monitor reference (R464) -/

/-- Every measurement, the drift detectors and both histories are discarded. -/
def State.monrefChanged (s : State) : State :=
  let s := each (List.range 16) (fun i t => t.slotForget i) s
  let s := each [0, 1] (fun d t => (t.setDpll d { t.dpll d with ring := [], pre := (0, 0, 0) }).setB TIM.page
    (TIM.DSTATUS_S_MONREF d) true) s
  let s := { s with tim := { s.tim with ppsin := [] } }
  (s.raise timPg TIM.ev_MONREF_CHANGE).judgeAll

/-- OCXO_STATUS.ACTIVE takes a value, and the monitor reference follows it. -/
def State.ocxo (s : State) (on : Bool) : State :=
  let b := CLK.page
  let was := s.flag b CLK.OCXO_STATUS_ACTIVE
  let s := (s.setB b CLK.OCXO_STATUS_ACTIVE on).setB b CLK.OCXO_STATUS_MONREF on
  let s := s.raiseIf (was && !on) Kind.CLK.pages.1 CLK.ev_OCXO_LOST
  let s := s.raiseIf (on && !was) Kind.CLK.pages.1 CLK.ev_OCXO_RESTORED
  if was = on then s else s.monrefChanged

/-- MONREF_CHANGE: OCXO_IN comes within ±100 ppm of FREQ_KHZ or leaves it, with its offset in 0.01 ppm (R464, Table
15-8). -/
def execMonrefChange (good : Bool) (offset : Int) (s : State) : Host.Outcome State Fault Refusal :=
  act s fun s =>
    let b := CLK.page
    let far := decide (5000 < (s.getI b CLK.OCXO_STATUS_OFFSET).natAbs) && s.flag b CLK.OCXO_STATUS_ACTIVE
    let s := s.setI b CLK.OCXO_STATUS_OFFSET (clampI 32767 offset)
    let on := good && s.flag b CLK.OCXO_CFG_EN
    let s := s.raiseIf (on && decide (5000 < offset.natAbs) && !far) Kind.CLK.pages.1 CLK.ev_XO_OFFSET
    s.ocxo on

/-! ### Pulse outputs (R483, R484) -/

def State.pps (s : State) (j : Nat) : PpsOut := s.tim.pps.at j

/-- An alignment is possible: OFFSET lies below the staged PERIOD (Table 15-5). -/
def State.alignOk (s : State) (j : Nat) : Bool :=
  decide (s.get TIM.page (TIM.PPSOUT_OFFSET_NS j) < s.get TIM.page (TIM.PPSOUT_PERIOD_US j) * 1000)

/-- The first DTIME at least 10 µs ahead at which a period of `p` ns with offset `o` begins (R484). -/
def alignTime (now o p : Nat) : Nat :=
  let t := now + 10000
  t + (o + p - t % p) % p

/-- An alignment at the staged period and offset. -/
def State.ppsAlign (s : State) (j : Nat) : State :=
  let p := s.get TIM.page (TIM.PPSOUT_PERIOD_US j) * 1000
  let o := s.get TIM.page (TIM.PPSOUT_OFFSET_NS j)
  { s with tim := { s.tim with pps := s.tim.pps.put j { next := some (alignTime s.dtime o p), period := p } } }

/-- PPS_PULSE: an aligned output that is enabled sends its next pulse, of the WIDTH written last (R483); the first at T_a, and
one of DPLL1 at the DTIME it keeps its relation to (R484). -/
def execPpsPulse (j : Fin 2) (s : State) : Host.Outcome State Fault Refusal :=
  act s fun s =>
    match (s.pps j).next with
    | some t =>
      let x := s.pps j
      if !s.flag TIM.page (TIM.PPSOUT_CFG_EN j) || ((!x.run || s.flag TIM.page (TIM.PPSOUT_CFG_SRC j)) && decide (s.dtime < t)) then s
      else
        let s := { s with tim := { s.tim with pps := s.tim.pps.put j { x with next := some (t + x.period), run := true } } }
        s.send "pps" [j, t, s.get TIM.page (TIM.PPSOUT_CFG_WIDTH j)]
    | none => s

/-! ### ESMC (R485, R486) -/

/-- A slot's QL takes a value (QL_CHANGE when it changes). -/
def State.setQl (s : State) (i ql : Nat) : State :=
  let old := s.get TIM.page (TIM.SLOT_CFG_QL i)
  let s := s.set TIM.page (TIM.SLOT_CFG_QL i) ql
  if old = ql then s else (s.raise timPg TIM.ev_QL_CHANGE).selectAll

/-- A slot's QL comes from ESMC: QL_SRC = ESMC and a client-lane source (R486). -/
def State.esmcSlot (s : State) (i : Nat) : Bool :=
  let src := s.get TIM.page (TIM.SLOT_CFG_SOURCE i)
  s.flag TIM.page (TIM.SLOT_CFG_QL_SRC i) && decide (8 ≤ src) && decide (src < 0x28)

/-- ESMC_PDU_RX: a PDU of the lane's port gives the slot its QL (R486). -/
def execEsmcPduRx (slot : Fin 16) (ql : BitVec 8) (s : State) : Host.Outcome State Fault Refusal :=
  act s fun s => if s.esmcSlot slot then (s.setSlot slot { s.slot slot with pduAt := s.now }).setQl slot ql.toNat else s

/-- ESMC_TIMEOUT: no PDU for 5 s: DNU or DUS, code 0xF of G.781 (R486). -/
def execEsmcTimeout (slot : Fin 16) (s : State) : Host.Outcome State Fault Refusal :=
  act s fun s => if s.esmcSlot slot ∧ (s.slot slot).pduAt + 5 * nsSec ≤ s.now then s.setQl slot 15 else s

/-- ESMC_PDU_SEND: an information or event PDU on an enabled packet port whose quad is SYNC-timed, with QL_OUT of DPLL0, or
DNU on the port of DPLL0's selected lane (R486). -/
def execEsmcPduSend (port : Fin 32) (event : Bool) (s : State) : Host.Outcome State Fault Refusal :=
  act s fun s =>
    if !s.portEn port || s.portTransparent port || !s.flag (CLN.page (port / 4)) CLN.QUAD_CFG_TX_TIMING then s
    else
      let own := match s.selected 0 with
        | some i =>
          let src := s.get TIM.page (TIM.SLOT_CFG_SOURCE i)
          decide (8 ≤ src) && (s.portLanes port).contains (src - 8)
        | none => false
      s.send "esmc" [port, b2n event, if own then 15 else s.qlOut 0]

/-! ### Register writes of TIM and CLK -/

/-- The sources of Table 15-2. -/
def sourceOk (x : Nat) : Bool :=
  x ≤ 4 || (8 ≤ x && x < 0x2A) || (0x30 ≤ x && x < 0x38) || x = 0x3F

/-- Field ranges of Table 15-5. -/
def rangeTIM (off v : Nat) : Bool :=
  if off = TIM.LIMITS then inR v TIM.LIMITS_SOFT 10 (fv v TIM.LIMITS_HARD) && inR v TIM.LIMITS_HARD 100 50000
  else if off = TIM.PEER_CFG then inR v TIM.PEER_CFG_PEER_TH 10 50000
  else if off = TIM.DRIFT_CFG then inR v TIM.DRIFT_CFG_RATE 1 65535 && inR v TIM.DRIFT_CFG_SPAN 10 600
  else if off = TIM.WTR_CFG then inR v TIM.WTR_CFG_WTR 0 720
  else if off = TIM.HOLD_CFG then inR v TIM.HOLD_CFG_WINDOW 10 3600 && inR v TIM.HOLD_CFG_GUARD 1 600
  else if 0x130 ≤ off && off < 0x140 then (decide (1000 ≤ v % 2 ^ 30) && decide (v % 2 ^ 30 ≤ 800000000))
  else if 0x140 ≤ off && off < 0x180 then sourceOk (v % 64)
  else if off = TIM.DCTRL 0 ∨ off = TIM.DCTRL 1 then
    (off = TIM.DCTRL 1 || bitsOf v 8 2 != 3) && bitsOf v 12 3 ≤ 4
  else if off = TIM.STEP_CFG 0 ∨ off = TIM.STEP_CFG 1 then (decide (1 ≤ bitsOf v 16 14) && decide (bitsOf v 16 14 ≤ 10000))
  else if off = TIM.PHASE_STEP 0 ∨ off = TIM.PHASE_STEP 1 then (toSigned 32 v).natAbs ≤ 1000000
  else if 0x300 ≤ off && off < 0x310 then bitsOf v 1 2 != 3 && bitsOf v 4 2 != 3
  else if 0x310 ≤ off && off < 0x320 then (decide (8000 ≤ v % 2 ^ 30) && decide (v % 2 ^ 30 ≤ 800000000))
  else if 0x320 ≤ off && off < 0x328 then 1 ≤ bitsOf v 16 16
  else if 0x328 ≤ off && off < 0x330 then (decide (2 ≤ v % 2 ^ 20) && decide (v % 2 ^ 20 ≤ 1000000))
  else true

/-- A write of SLOT_CFG: SOURCE is fixed while a DPLL selects the slot, QL is firmware's under ESMC; EN = 1 and a change of
SOURCE let the slot qualify without a wait (R469, R485, Table 15-5). -/
def State.wrSlot (s : State) (firmware : Bool) (i v : Nat) : WOut :=
  let b := TIM.page
  let old := s.nat (b + TIM.SLOT_CFG i)
  let newSrc := v % 64 != old % 64
  let newQl := bitsOf v 16 8 != bitsOf old 16 8
  if newSrc && (s.selected 0 = some i || s.selected 1 = some i) then no .state s
  else if newQl && bitOf v 24 && !firmware then no .state s
  else
    let s := s.setNat (b + TIM.SLOT_CFG i) v
    let s := if newSrc then (s.slotForget i).setB b (TIM.SLOT_STATUS_ACTIVE i) false else s
    let s := s.judgeSlot i
    let s := if newSrc || bitOf v 31 then s.setSlot i { s.slot i with fresh := true } else s
    let s := if newSrc then (s.setB b (TIM.SLOT_STATUS_WTR i) false).set b (TIM.SLOT_STATUS_WTR_LEFT i) 0 else s
    ok ((s.raiseIf newQl timPg TIM.ev_QL_CHANGE).judgeAll)

/-- A write that reaches TIM's registers. -/
def wrTIM (firmware : Bool) (off v : Nat) (s : State) : WOut :=
  let b := TIM.page
  if 0x140 ≤ off && off < 0x180 then s.wrSlot firmware ((off - 0x140) / 4) v
  else if off = TIM.DCTRL 0 ∨ off = TIM.DCTRL 1 then
    let d := if off = TIM.DCTRL 0 then 0 else 1
    let old := s.get b (TIM.DCTRL_MODE d)
    let s := s.setNat (b + off) v
    let mode := v % 4
    let st := s.dpState d
    let s := if mode = 3 then s.freerun d
      else if mode = 2 && old != 2 && (st = dpLOCKING || st = dpLOCKED) then s.holdover d else s
    ok s.selectAll
  else if off = TIM.PHASE_STEP 0 ∨ off = TIM.PHASE_STEP 1 then
    let d := if off = TIM.PHASE_STEP 0 then 0 else 1
    if s.flag b (TIM.DSTATUS_SLEWING d) then no .state s else ok (s.phaseStep d (toSigned 32 v))
  else if off = TIM.CMD then
    if (bitOf v 0 && !s.alignOk 0) || (bitOf v 1 && !s.alignOk 1) then no .range s
    else
      let s := if bitOf v 0 then s.ppsAlign 0 else s
      ok (if bitOf v 1 then s.ppsAlign 1 else s)
  else if 0x320 ≤ off && off < 0x328 then
    let j := (off - 0x320) / 4
    if s.get b (TIM.PPSOUT_PERIOD_US j) * 100 ≤ bitsOf v 16 16 || (bitOf v 0 && !s.alignOk j) then no .range s
    else
      let s := s.setNat (b + off) v
      ok (if bitOf v 0 then s.ppsAlign j else s)
  else if 0x300 ≤ off && off < 0x320 then
    let i := (off - 0x300) % 16 / 4
    let old := s.nat (b + off)
    let change := if off < 0x310 then bitsOf v 1 2 != bitsOf old 1 2 else v != old
    let t := s.setNat (b + off) v
    let t := if change then t.send "clkoutRestart" [i] else t
    ok (t.clkoutFollow s)
  else ok (s.setNat (b + off) v)

/-- Field ranges of Table 15-8. -/
def rangeCLK (off v : Nat) : Bool := if off = CLK.OCXO_CFG then inR v CLK.OCXO_CFG_FREQ_KHZ 10000 100000 else true

/-- A write of OCXO_CFG: a change of EN or FREQ_KHZ takes the OCXO out of use until it is found within its limits again
(R464). -/
def wrCLK (off v : Nat) (s : State) : WOut :=
  let b := CLK.page
  if off = CLK.OCXO_CFG then
    let same := v = s.nat (b + off)
    let s := s.setNat (b + off) v
    ok (if same then s else s.ocxo false)
  else ok (s.setNat (b + off) v)

/-- The configuration check of TIM: the bandwidth suits the option (R476). -/
def State.checkTim (s : State) : Bool :=
  let bw := s.get TIM.page (TIM.DCTRL_BW 0)
  if s.timOption = 1 then bw = 1 else decide (2 ≤ bw)

end Sys2Proof.Machine
end

