-- ==== Sys2Proof/Machine/Topo.lean ====
section
/-!
DEFINITION. The topology database, address conflicts, the domain, and the route table with its two banks (14.4, 14.5,
14.8).
-/
namespace Sys2Proof.Machine

/-! ### The database (R453, R454, R456) -/

def State.topoRec (s : State) (a : Nat) : Option TopoRec := Tab.get (fun _ => none) s.fbr.topo a

/-- PARTS and DOMAIN_ID follow the database: the lowest identity of a seed, 0 with none (R453). -/
def State.showDomain (s : State) : State :=
  let recs := s.fbr.topo.filterMap (·.2)
  let seeds := (recs.filter (fun r => r.role = 2)).map (·.ident)
  let s := s.set FBR.page FBR.STATE_PARTS recs.length
  s.setNat64 (FBR.page + FBR.DOMAIN_ID) (seeds.min?.getD 0)

/-- A record of an address is stored with its window entry, or removed. -/
def State.putTopo (s : State) (a : Nat) (r : Option TopoRec) : State :=
  let s := { s with fbr := { s.fbr with topo := Tab.put (fun _ => none) s.fbr.topo a r } }
  let s := match r with
    | some x => s.setWords (FBRW.TOPO a) [1 + 2 * x.role + 16 * (min 255 x.links.length) + 2 ^ 16 * x.seq,
        x.ident % 2 ^ 32, x.ident / 2 ^ 32, s.dtime % 2 ^ 32, s.dtime / 2 ^ 32 % 2 ^ 32]
    | none => s.setWords (FBRW.TOPO a) [0, 0, 0, 0, 0]
  s.showDomain

/-- The database has changed: TOPO_CHANGE, and routes are due (R456). -/
def State.topoChanged (s : State) : State :=
  ({ s with fbr := { s.fbr with computeDue := true } } : State).raise Kind.FBR.pages.1 FBR.ev_TOPO_CHANGE

/-- A record comes into the database. Another identity under this part's own address is a conflict, in which the part with
the higher identity enters CONFLICT (R454). -/
def State.learn (s : State) (a : Nat) (r : TopoRec) : State :=
  if a = s.myAddr ∧ r.ident ≠ s.myIdent then
    let s := s.raise Kind.FBR.pages.1 FBR.ev_ADDR_CONFLICT
    if r.ident < s.myIdent then s.set FBR.page FBR.STATE_DOMAIN 2 else s
  else
    let same := match s.topoRec a with
      | some x => x.ident = r.ident && x.role = r.role && decide (x.links = r.links)
      | none => false
    let s := s.putTopo a (some { r with refreshed := s.now })
    if same then s else s.topoChanged

/-- Firmware runs the domain: FBR is ACTIVE with a role, and ROUTE_SRC = FIRMWARE (R456). -/
def State.fabFirmware (s : State) : Bool :=
  s.active Kind.FBR.pages.1 && s.fabRole != 0 && !s.flag FBR.page FBR.CTRL_ROUTE_SRC

/-- The cost and capacity of a member (R456). -/
def State.memberCost (s : State) (m : Nat) : Nat :=
  if m < 8 then
    let c := s.get (FBL.page m) FBL.CFG_COST
    if c = 0 then 2500 else c
  else
    let c := s.nat (FBRW.GCOST (m - 8)) % 65536
    if c = 0 then ceilDiv 1000000 (max 1 (s.unitBytes (m - 8) / 6250 * 25)) else c

def State.memberCap (s : State) (m : Nat) : Nat :=
  if m < 8 then 100 * (s.lanesIn m).length else s.unitBytes (m - 8) / 6250 * 25

/-- This part's links in service. -/
def State.ownLinks (s : State) : List (Nat × TopoLink) :=
  ((List.range 72).filter (fun m => s.memberUp m && (s.neigh m).alive && !(s.neigh m).foreign)).map (fun m =>
    (m, { addr := (s.neigh m).addr, line := decide (8 ≤ m), cost := s.memberCost m, cap := s.memberCap m,
          delay := if s.memberVer m = 2 then (s.neigh m).delay else 0 }))

/-- A record as numbers on the wire. -/
def topoArgs (l : List TopoLink) : List Int :=
  l.flatMap (fun e => [(e.addr : Int), (b2n e.line : Nat), (e.cost : Int), (e.cap : Int), (e.delay : Int)])

/-- A TOPO cell of a part's record, whose payload the spec gives no layout of (log entry 141). -/
def State.topoCell (s : State) (addr seq i : Nat) : List Nat :=
  ctlCell 3 s.myAddr ((List.range 240).map (fun j => Config.topoByte addr seq i j % 256))

/-- TOPO_FLOOD: firmware floods this part's record, in up to 3 cells of 28 links, and holds it itself (R456). -/
def execTopoFlood (s : State) : Host.Outcome State Fault Refusal :=
  act s fun s =>
    if !s.fabFirmware ∨ s.inConflict then s
    else
      let links := (s.ownLinks.map (·.2)).take 84
      let n := (s.fbr.mySeq + 1) % 65536
      let s := { s with fbr := { s.fbr with mySeq := n } }
      let s := s.learn s.myAddr { ident := s.myIdent, role := s.fabRole, seq := n, links := links }
      let ms := (List.range 72).filter (fun m => s.memberOpen m && s.mayCtl m)
      each ms (fun m t => each (List.range (max 1 (ceilDiv links.length 28))) (fun i u =>
        if u.mayCtl m then (u.ctlOut m (u.topoCell u.myAddr n i)).send "topo"
          ([(m : Int), (u.myAddr : Int), (u.myIdent : Int), (u.fabRole : Int), (n : Int), (i : Int)]
          ++ topoArgs ((links.drop (28 * i)).take 28)) else u) t) s

/-- A record sequence is newer than the one held. -/
def seqNewer (new old : Nat) : Bool := decide (0 < (new + 65536 - old) % 65536) && decide ((new + 65536 - old) % 65536 < 32768)

/-- TOPO_CELL_RX: a cell of a topology record comes in on a member: cell `idx` of `cnt`. A new one is forwarded on every
other open member, and the record enters the database when its cells are complete (R454, R456). -/
def execTopoCellRx (m : Fin 72) (addr : Fin 512) (ident : BitVec 64) (role : Fin 3) (seq : BitVec 16) (idx cnt : Fin 4)
    (links : List TopoEdge) (s : State) : Host.Outcome State Fault Refusal :=
  act s fun s =>
    let a := addr.val
    let q := seq.toNat
    let known : Bool := match s.topoRec a with
      | some x => x.ident = ident.toNat && !seqNewer q x.seq
      | none => false
    let dup := s.fbr.parts.any (fun x => x.1 = a && x.2.1 = q && x.2.2.1 = idx.val)
    if !s.memberOpen m ∨ s.fabRole = 0 ∨ !s.active Kind.FBR.pages.1 ∨ known ∨ dup ∨ cnt.val ≤ idx.val then s
    else
      let ls := links.map (fun e => ({ addr := e.addr, line := e.line, cost := e.cost, cap := e.cap, delay := e.delay } : TopoLink))
      let parts := (s.fbr.parts.filter (fun x => x.1 ≠ a || x.2.1 = q)) ++ [(a, q, idx.val, ls)]
      let s := { s with fbr := { s.fbr with parts := parts } }
      let ms := (List.range 72).filter (fun k => k ≠ m.val && s.memberOpen k && s.mayCtl k)
      let s := each ms (fun k t => (t.ctlOut k (t.topoCell a q idx.val)).send "topo" ([(k : Int), (a : Int), (ident.toNat : Int), (role.val : Int), (q : Int),
        (idx.val : Int)] ++ topoArgs ls)) s
      let mine := (List.range cnt.val).map (fun i => (parts.find? (fun x => x.1 = a && x.2.1 = q && x.2.2.1 = i)).map (fun x => x.2.2.2))
      if mine.all Option.isSome then
        let s := { s with fbr := { s.fbr with parts := parts.filter (fun x => x.1 ≠ a) } }
        s.learn a { ident := ident.toNat, role := role, seq := q, links := mine.flatMap (fun x => x.getD []) }
      else s

/-- TOPO_AGE_OUT: a record not refreshed for 4 s leaves the database (R456). -/
def execTopoAgeOut (addr : Fin 512) (s : State) : Host.Outcome State Fault Refusal :=
  act s fun s =>
    match s.topoRec addr with
    | some x => if x.refreshed + 4 * nsSec ≤ s.now then (s.putTopo addr none).topoChanged else s
    | none => s

/-! ### Shortest paths (R456) -/

/-- A destination's distance and the first hops of its shortest paths, each with its least delay. -/
structure Label where
  cost : Nat
  hops : List (Nat × Nat)

/-- First hops merged, each with its least delay. -/
def mergeHops (a b : List (Nat × Nat)) : List (Nat × Nat) :=
  b.foldl (fun l h => match l.find? (fun x => x.1 = h.1) with
    | some x => if h.2 < x.2 then l.map (fun y => if y.1 = h.1 then h else y) else l
    | none => l ++ [h]) a

/-- The better of two labels; equal costs merge. -/
def betterLabel (a : Option Label) (b : Label) : Option Label :=
  match a with
  | none => some b
  | some x => if b.cost < x.cost then some b else if x.cost < b.cost then a else some { x with hops := mergeHops x.hops b.hops }

/-- One round: every destination's label from this part's own links and its neighbours' labels. -/
def State.pathRound (s : State) (labels : List (Nat × Label)) : List (Nat × Label) :=
  let own := s.ownLinks.map (fun e => (e.2.addr, ({ cost := e.2.cost, hops := [(e.1, e.2.delay)] } : Label)))
  let via := labels.flatMap (fun e => match s.topoRec e.1 with
    | some r => r.links.map (fun l => (l.addr, ({ cost := e.2.cost + l.cost, hops := e.2.hops.map (fun h => (h.1, h.2 + l.delay)) } : Label)))
    | none => [])
  let all := (own ++ via).filter (fun e => e.1 ≠ s.myAddr)
  (all.map (·.1)).eraseDups.filterMap (fun a =>
    (all.foldl (fun (b : Option Label) e => if e.1 = a then betterLabel b e.2 else b) none).map (fun x => (a, x)))

/-- Rounds until paths of every length in the database are found. -/
def State.paths (s : State) : Nat → List (Nat × Label)
  | 0 => []
  | n + 1 => s.pathRound (s.paths n)

/-- A label's next-hop set: on 1.2 links a path is left out whose delay exceeds the least by more than SKEW. -/
def State.hopSet (s : State) (x : Label) : List Nat :=
  let least := ((x.hops.map (·.2)).min?).getD 0
  (x.hops.filter (fun h => decide (s.memberVer h.1 < 2) || decide (h.2 ≤ least + s.get FBR.page FBR.RESEQ_CFG_SKEW * nsUs))).map (·.1)

/-- A set of members as the words of a route entry. -/
def routeWords (ms : List Nat) (local_ : Bool) : List Nat :=
  let links := ((ms.filter (· < 8)).map (2 ^ ·)).sum
  let g := ((ms.filter (8 ≤ ·)).map (fun m => 2 ^ (m - 8))).sum
  [links + 2 ^ 8 * b2n local_ + 2 ^ 31, g % 2 ^ 32, g / 2 ^ 32]

/-- The banks are exchanged (R461). -/
def State.routeApply (s : State) : State :=
  let s := s.set FBR.page FBR.ROUTE_CTRL_BANK_ACTIVE (1 - s.get FBR.page FBR.ROUTE_CTRL_BANK_ACTIVE)
  let s := s.set FBR.page FBR.ROUTE_CTRL_APPLIED (s.get FBR.page FBR.ROUTE_CTRL_APPLIED + 1)
  (s.raise Kind.FBR.pages.1 FBR.ev_ROUTE_APPLIED).drain

/-- ROUTE_COMPUTE: after a change firmware computes the shortest paths by cost, writes the inactive bank and applies it
(R456). -/
def execRouteCompute (s : State) : Host.Outcome State Fault Refusal :=
  act s fun s =>
    if !s.fabFirmware ∨ !s.fbr.computeDue then s
    else
      let s := { s with fbr := { s.fbr with computeDue := false } }
      let labels := s.paths ((s.fbr.topo.filterMap (·.2)).length + 1)
      let bank := 512 * (1 - s.get FBR.page FBR.ROUTE_CTRL_BANK_ACTIVE)
      let s := each (List.range 512) (fun a t =>
        let ws := if a = t.myAddr then routeWords [] true
          else match labels.find? (fun e => e.1 = a) with
            | some (_, x) => routeWords (t.hopSet x) false
            | none => [0, 0, 0]
        t.setWords (FBRW.ROUTE (bank + a)) ws) s
      s.routeApply

/-! ### Register writes -/

/-- A route entry commits into the inactive bank, from firmware only while ROUTE_SRC = FIRMWARE (R461). -/
def entROUTE (firmware : Bool) (e : Nat) (ws : List Nat) (s : State) : WOut :=
  if e / 512 = s.get FBR.page FBR.ROUTE_CTRL_BANK_ACTIVE ∨ (!firmware ∧ !s.flag FBR.page FBR.CTRL_ROUTE_SRC) then no .state s
  else ok (s.setWords (FBRW.ROUTE e) [ws.getD 0 0 &&& 0x800001FF, ws.getD 1 0, ws.getD 2 0])

/-- Ranges of FBR's registers (Table 14-12). -/
def rangeFBR (off v : Nat) : Bool :=
  if off = FBR.CTRL then inR v FBR.CTRL_ROLE 0 2 && inR v FBR.CTRL_VER_MAX 0 2
  else if off = FBR.TIMERS then inR v FBR.TIMERS_HELLO 1 100 && inR v FBR.TIMERS_HOP_LIMIT 2 63
  else if off = FBR.RESEQ_CFG then inR v FBR.RESEQ_CFG_TIMEOUT 2 1000 && inR v FBR.RESEQ_CFG_SKEW 1 255
  else true

/-- A write that reaches FBR's registers: APPLY exchanges the banks, a new LOCAL ends CONFLICT, ROLE decides the links'
training. -/
def wrFBR (firmware : Bool) (off v : Nat) (s : State) : WOut :=
  if off = FBR.ROUTE_CTRL then
    if !fb v FBR.ROUTE_CTRL_APPLY then ok s
    else if !firmware ∧ !s.flag FBR.page FBR.CTRL_ROUTE_SRC then no .state s
    else ok s.routeApply
  else
    let old := s.myAddr
    let s := s.setNat (FBR.page + off) v
    let s := if off = FBR.ADDR ∧ s.inConflict ∧ old ≠ s.myAddr then s.set FBR.page FBR.STATE_DOMAIN 0 else s
    ok (s.showFbr.linkChecks)

end Sys2Proof.Machine
end

