-- ==== Sys2Proof/Machine/Carrier.lean ====
section
/-!
DEFINITION. Configuration checks, carrier bring-up (2.6), the SYS page's writes, and the moves of a block that BLK_CTRL asks for
(3.3) with their completion.
-/
namespace Sys2Proof.Machine

/-! ### Configuration checks and entry into ACTIVE -/

/-- The configuration check of a page's block (R52, R66): a block with a withheld array fails it (R607); one whose chapter gives
no check passes. -/
def State.checkBlock (s : State) (p : Nat) : Bool × State :=
  if s.rpr.withheld.contains p then (false, s)
  else match pageKind p with
    | some (.RXD, n) => (s.checkRxd n, s)
    | some (.TXD, n) => s.checkTxd n
    | some (.SUB, n) => (s.checkSub n, s)
    | some (.FEC, n) => s.checkFec n
    | some (.FRM, n) => (s.checkFrm n, s)
    | some (.CRY, _) => (s.checkCry, s)
    | some (.CLN, q) => (s.checkCln q, s)
    | some (.CLS, _) => (s.checkCls, s)
    | some (.ECC, _) => (s.checkEcc, s)
    | some (.TIM, _) => (s.checkTim, s)
    | _ => (true, s)

/-- A block enters ACTIVE from CONFIG: ECC fixes its map (R491), CLS builds its signatures anew (R399). -/
def State.activate (s : State) (p : Nat) : State :=
  let s := s.goTo p bACTIVE
  match pageKind p with
  | some (.ECC, _) => s.eccEnter
  | some (.CLS, _) => { s with cls := { s.cls with sigReady := false } }
  | _ => s

/-! ### Carrier bring-up (R51 to R55) -/

/-- The blocks of a carrier in the order of their checks, with the cause that names each (R52, Table 2-13). -/
def carrierBlocks (n : Nat) : List (Nat × Nat) :=
  [(Kind.CNV.pg n, 2), (Kind.RXD.pg n, 3), (Kind.TXD.pg n, 4), (Kind.SUB.pg n, 5), (Kind.FEC.pg n, 6), (Kind.FRM.pg n, 7)]

/-- The first block whose check fails, if any; one that is neither in CONFIG nor ACTIVE cannot enter ACTIVE and fails. -/
def State.carrierChecks (s : State) : List (Nat × Nat) → Option (Nat × Nat) × State
  | [] => (none, s)
  | (p, c) :: r =>
    if (s.blk p ≠ bCONFIG ∧ s.blk p ≠ bACTIVE) ∨ (s.page p).softReset then (some (p, c), s)
    else
      let (good, t) := s.checkBlock p
      if good then t.carrierChecks r else (some (p, c), t)

/-- Status and cause REFUSED, with CARRIER_REFUSED (R52). -/
def State.carrierRefused (s : State) (n cause : Nat) : State :=
  let s := (s.set SYS.page (carrierStateFld n) cREFUSED).set SYS.page (carrierCauseFld n) cause
  s.raise sysPg SYS.ev_CARRIER_REFUSED

/-- A failed check: the block's REJECT_LAST records it with reason STATE; its OFFSET is a free value, since no register of that
page was written. -/
def State.checkRefused (s : State) (n p cause : Nat) : State :=
  let s := (s.nextFree).refuse p (s.freeVal % 4096) false .state (s.boot.upSrc.at n)
  s.carrierRefused n cause

/-- Leave for bring-up is granted: the checks run again, the blocks enter ACTIVE, the line PLL starts (R52, R54, R643), and the
laser command is 0 (R158). -/
def State.carrierGranted (s : State) (n : Nat) : State :=
  match s.carrierChecks (carrierBlocks n) with
  | (some (p, c), t) => (t.endLeave 0 n).checkRefused n p c
  | (none, t) =>
    let s := each ((carrierBlocks n).map (·.1)) (fun p u => if u.blk p = bCONFIG then u.activate p else u) t
    let s := s.set SYS.page (carrierStateFld n) cBRINGING
    let s := s.outCause n (fun x => { x with cDown := false, reached := x.reached && x.gain != 0 })
    let s := ((s.setCal n { s.cals n with upLocked := false }).laserBringUp n).pllFollow n
    if s.flag (CNV.page n) CNV.PLL_STATUS_LOCKED then s.pllBringUp n else s

/-- UPn changes to 1 (R51 to R53). -/
def State.carrierUp (s : State) (n src : Nat) : State :=
  let s := { s with boot := { s.boot with upSrc := s.boot.upSrc.put n src } }
  match s.carrierChecks (carrierBlocks n) with
  | (some (p, c), t) => t.checkRefused n p c
  | (none, t) =>
    match t.requestLeave (catalogue 0 n) with
    | (.granted, u) => u.carrierGranted n
    | (.queued, u) => u.set SYS.page (carrierStateFld n) cWAIT
    | (.refused, u) => u.carrierRefused n 1

/-- CARRIER_UP_COMPLETE: FRMn has declared alignment, or 200 ms have passed since the grant of the carrier's leave (R171). -/
def execCarrierUpComplete (n : Fin 2) (s : State) : Host.Outcome State Fault Refusal :=
  act s fun s =>
    let old := s.pwr.active.all (fun r => !(r.op = 0 && r.unit = n.val) || decide (r.at_ + 200 * nsMs ≤ s.now))
    if s.carrier n = cBRINGING && ((s.stream n 0).locked || old) then s.carrierComplete n else s

/-! ### Register writes of SYS -/

/-- UPn as written: 0 takes carrier n DOWN, a change to 1 starts bring-up (R51, R55). -/
def State.wrUp (s : State) (old v src n : Nat) : State :=
  if !bitOf v n then (s.carrierOff n).set SYS.page (carrierCauseFld n) 0
  else if !bitOf old n then s.carrierUp n src else s

/-- A write that reaches SYS's registers (R50, R51, R55, R56, R586). -/
def wrSYS (src off v : Nat) (s : State) : WOut :=
  let a := SYS.page + off
  if off = SYS.RESET_CTRL then
    if !fb v SYS.RESET_CTRL_WARM then ok s
    else if fv v SYS.RESET_CTRL_KEY ≠ 0xA5C3 then no .key s
    else if s.get SEC.page SEC.DEBUG_STATE = 2 then no .state s
    else ok { s with boot := { s.boot with warmDue := some (s.boot.warmDue.getD (s.now + nsMs)) } }
  else if off = SYS.FABRIC_CTRL then
    let open_ := fb v SYS.FABRIC_CTRL_OPEN
    if open_ && !s.ready then no .state s
    else
      let s := { s with boot := { s.boot with fabricTx := if open_ then .live else .elecIdle } }
      ok (s.setNat a v).linkChecks
  else if off = SYS.CARRIER_CTRL then
    if v % 4 ≠ 0 && !s.ready then no .state s
    else
      let old := s.nat a
      ok (((s.setNat a v).wrUp old v src 0).wrUp old v src 1)
  else ok (s.setNat a v)

/-! ### BLK_CTRL (R58 to R60, R66 to R68, R72, R561, R563) -/

/-- A soft reset starts: BUSY until it completes; the ladder step ends, and a line-side block takes its carrier DOWN, a cause
in force of the output also before the first bring-up (R59, R208). -/
def State.softStart (s : State) (p : Nat) : State :=
  let s := (s.setPage p { s.page p with softReset := true }).setB (pageBase p) HDR.BUSY true
  let s := s.set (pageBase p) HDR.STEP 0
  let s := match carrierBlock p with
    | some n => (s.carrierOff n).outCause n (fun t => { t with cDown := true })
    | none => s
  (s.syncGrace p).showMove p

/-- ENABLE becomes 0: OFF; a soft reset in progress ends. -/
def State.disable (s : State) (p : Nat) : State :=
  let s := (s.setPage p { s.page p with softReset := false }).setB (pageBase p) HDR.BUSY false
  ((s.setB (pageBase p) HDR.ENABLE false).goTo p bOFF).syncGrace p

/-- A request for a state, against Table 3-4. -/
def State.stateReq (s : State) (p req : Nat) : WOut :=
  let st := s.blk p
  if req = 2 && st = bCONFIG then
    let (good, t) := s.checkBlock p
    if good then ok (t.activate p) else no .state t
  else if req = 2 && st = bDRAIN then ok (s.goTo p bACTIVE)
  else if req = 3 && st = bACTIVE && !alwaysActive p then ok (s.goTo p bDRAIN)
  else no .state s

/-- A SOFT_RESET requested of a block. -/
def State.softReq (s : State) (p : Nat) (barred : Bool) : WOut :=
  if p = sysPg then no .state s
  else if s.flag (pageBase p) HDR.BUSY then no .transition s
  else if s.blk p = bOFF || barred then no .state s else ok (s.softStart p)

/-- A write of BLK_CTRL (R67). One that carries both a SOFT_RESET and a state request is judged on each: it is refused when either
would be, and carries out the state request, then the soft reset; the rules do not speak of the pair (DESIGN CHOICE, log
entry 115). -/
def wrCtrl (p v : Nat) (s : State) : WOut :=
  let en := fb v HDR.ENABLE
  let change := en != s.flag (pageBase p) HDR.ENABLE
  let sr := fb v HDR.SOFT_RESET
  let req := fv v HDR.STATE_REQ
  let asks := req = 1 || req = 2 || req = 3
  let barred := s.safe && isDataPage p
  if !en && alwaysActive p then no .state s
  else if change && (sr || asks) then no .transition s
  else if change then
    if en then ok (((s.setB (pageBase p) HDR.ENABLE true).goTo p bCONFIG).syncGrace p)
    else if barred then no .state s else ok (s.disable p)
  else if sr then
    let r := s.softReq p barred
    if !asks || r.rej.isSome then r
    else
      let q := s.stateReq p req
      if q.rej.isSome then q else ok (q.st.softStart p)
  else if !asks then ok s
  else if s.flag (pageBase p) HDR.BUSY then no .transition s
  else s.stateReq p req

/-! ### Moves that complete later -/

/-- SOFT_RESET_COMPLETE: the block is re-initialised and in CONFIG, or ACTIVE on the pages of R68 (R58, R72, R645). -/
def execSoftResetComplete (page : Fin 128) (s : State) : Host.Outcome State Fault Refusal :=
  act s fun s =>
    let p := page.val
    if !(s.page p).softReset then s
    else
      let s := s.reinitState p
      let s := (s.setPage p { s.page p with softReset := false }).setB (pageBase p) HDR.BUSY false
      (s.goTo p (if alwaysActive p then bACTIVE else bCONFIG)).syncGrace p

/-- Every queue and every egress overflow queue is empty. -/
def State.queuesEmpty (s : State) : Bool :=
  s.pkt.queues.all (fun e => e.2.frames.isEmpty) && s.ports.all (fun e => e.2.ovf.isEmpty)

/-- The cells that a link's transit buffer holds. -/
def State.linkCells (s : State) (k : Nat) : List Cell := s.fbr.wait.filter (fun c => c.from_ = k + 1)

/-- The condition of Table 3-13 that ends a block's DRAIN, where the model holds what it speaks of; where it holds none of it, the
command stands for the condition. -/
def State.drainCond (s : State) (p : Nat) : Bool :=
  match pageKind p with
  | some (.QMG, _) => s.queuesEmpty
  | some (.CLS, _) => s.cls.miss.isEmpty
  | some (.FEC, n) => (s.fecs n).soft.isEmpty && (s.fecs n).dec.isEmpty
  | some (.CRY, _) => s.gath.all (fun e => e.2.handed.isEmpty)
  | some (.FBL, k) => (s.linkCells k).isEmpty
  | some (.FBR, _) => s.fbr.wait.isEmpty && s.fbr.reseq.all (fun e => (e.2.map (fun (r : Reseq) => r.held.isEmpty)).getD true)
  | _ => true

/-- The bound at which DRAIN ends at the latest, in ns; QMG's has none (Table 3-13). -/
def drainBound (p : Nat) : Option Nat :=
  match pageKind p with
  | some (.QMG, _) => none
  | some (.CLS, _) => some 20000
  | some (.FEC, _) => some 8000
  | some (.CRY, _) => some 4000
  | _ => some nsMs

/-- The DRAIN of a page's block may end: its condition holds or its bound is reached. -/
def State.drained (s : State) (p : Nat) : Bool :=
  s.drainCond p || (match drainBound p with
    | some d => decide ((s.page p).drainFrom + d ≤ s.now)
    | none => false)

/-- FBLk discards the cells it still holds (Table 3-13). -/
def State.linkDrained (s : State) (k : Nat) : State :=
  let n := (s.linkCells k).length
  ({ s with fbr := { s.fbr with wait := s.fbr.wait.filter (fun c => c.from_ ≠ k + 1) } } : State).count (FBL.page k + FBL.CELL_DISCARDS) n

/-- FBR discards the cells it still holds (Table 3-13). -/
def State.fbrDrained (s : State) : State :=
  let held := (s.fbr.reseq.map (fun e => (e.2.map (fun (r : Reseq) => r.held.length)).getD 0)).sum
  let drop := fun (e : Nat × Option Reseq) => (e.1, e.2.map (fun r => { r with held := [] }))
  let s := (s.count (FBR.page + FBR.TRANSIT_DROPS) s.fbr.wait.length).count (FBR.page + FBR.REASM_DISCARDS) held
  { s with fbr := { s.fbr with wait := [], reseq := s.fbr.reseq.map drop } }.setNat (FBR.page + FBR.RESEQ_LEVEL) 0

/-- What a block does on entering CONFIG from DRAIN (Table 3-13). -/
def State.drainEffect (s : State) (p : Nat) : State :=
  match carrierBlock p with
  | some n => s.carrierOff n
  | none =>
    match pageKind p with
    | some (.FBL, k) => s.linkDrained k
    | some (.FBR, _) => s.fbrDrained
    | some (.HKA, _) => s.hkStop
    | some (.CPU, _) => s.haltUsers 0 0
    | some (.RPR, _) => s.rprStop
    | _ => s

/-- DRAIN_END: the condition or the bound of Table 3-13 is reached. -/
def execDrainEnd (page : Fin 128) (s : State) : Host.Outcome State Fault Refusal :=
  act s fun s =>
    let p := page.val
    if s.blk p ≠ bDRAIN ∨ (s.page p).softReset ∨ !s.drained p then s
    else ((s.goTo p bCONFIG).drainEffect p).syncGrace p

end Sys2Proof.Machine
end

