-- ==== Sys2Proof/Machine/Leave.lean ====
section
/-!
DEFINITION. Leave requested, granted from the queue, ended and overrun (17.2), with what each requester does at a grant or a
refusal.
-/
namespace Sys2Proof.Machine

/-! ### FILL's part (R98) -/

/-- The page that a window address belongs to: its table's owner, ECC for the GDDR7 window (R75). -/
def windowPage (a : Nat) : Nat :=
  match segAt a with
  | some (g, _, _) => g.owner
  | none => Kind.ECC.pages.1

/-- The FILL that waits for leave starts. -/
def State.fillStart (s : State) : State :=
  { s with rap := { s.rap with fill := s.rap.fill.map (fun f => { f with running := true }) } }

/-- The FILL that waits for leave is refused. -/
def State.fillDenied (s : State) : State :=
  match s.rap.fill with
  | none => s
  | some f =>
    let s := { s with rap := { s.rap with fill := none } }.refuse (windowPage f.addr) (f.addr % 4096) true .leave f.slot
    s.answer f.slot f.tag { status := Rej.leave.status }

/-! ### What a decision does -/

/-- An opening of debug or field return whose leave is refused (R586). -/
def State.openDenied (s : State) : State :=
  match s.sec.opening with
  | none => s
  | some (mode, slot, tag) =>
    let s := { s with sec := { s.sec with opening := none } }
    let s := if mode = 2 then s.frRefused 6 else s.debugRefused
    let s := s.refuse secPg (if mode = 2 then SEC.FR_CMD else SEC.DEBUG_CMD) false .leave slot
    if slot = coreWho then s else (s.unblock slot).answer slot tag { status := Rej.leave.status }

/-- A granted operation starts, where its requester waits for it (R54, R98, R125, R164, R265, R375, R577, R585, R610). -/
def State.leaveTaken (s : State) (op u : Nat) : State :=
  match op with
  | 0 => if s.carrier u = cWAIT then s.carrierGranted u else s
  | 1 => if s.carrier u = cDOWN ∧ !(s.cals u).fullRunning then s.fullGranted u else s.endLeave 1 u
  | 2 => s.imaxGranted u
  | 3 => s.showRpr
  | 4 => s.fillStart
  | 5 => if s.rpr.sweepOn then s else s.sweepGranted
  | 6 =>
    if u = 0 then (if s.sec.ksOp.isSome && !s.sec.ksGranted then s.ksGrant else s)
    else if u = 1 then (if s.agree.on then s.agreeGranted else s)
    else if s.sec.opening.isSome && !s.sec.granted then s.openGrant else s
  | 7 => s
  | _ => if s.get (RXD.page u) RXD.NLC_STATUS_STATE = 1 then s.nlcGranted u else s

/-- A queued request is refused. -/
def State.leaveDenied (s : State) (op u : Nat) : State :=
  match op with
  | 0 => if s.carrier u = cWAIT then s.carrierRefused u 1 else s
  | 1 => s
  | 2 => if (s.fecs u).raiseTo.isSome then s.imaxRefused u else s
  | 3 => { s with rpr := { s.rpr with bistChannel := none } }.showRpr
  | 4 => s.fillDenied
  | 5 => s.showRpr.raise rpPg RPR.ev_SWEEP_REFUSED
  | 6 =>
    if u = 0 then (if s.sec.ksOp.isSome && !s.sec.ksGranted then s.ksEnd 6 SEC.ev_KEY_WRITE_FAIL else s)
    else if u = 1 then (if s.agree.on then s.agreeFail 8 else s)
    else s.openDenied
  | 7 => s.setB CRY.page CRY.SELFTEST_RUNNING false
  | _ => if s.get (RXD.page u) RXD.NLC_STATUS_STATE = 1 then s.nlcRefused u else s

/-! ### The commands -/

/-- The request of an operation: LDPC engine enabling costs 800 mW a step (Table 17-1). -/
def leaveOf (op u steps : Nat) : LeaveReq :=
  if op = 2 then { catalogue 2 u with cost := 800 * steps, standing := 800 * steps } else catalogue op u

/-- LEAVE_REQUEST: an operation asks for leave and is granted, queued or refused at once (R521). -/
def execLeaveRequest (op : Fin 9) (unit : Fin 16) (steps : Nat) (s : State) : Host.Outcome State Fault Refusal :=
  act s fun s =>
    match s.requestLeave (leaveOf op unit steps) with
    | (.granted, t) => t.leaveTaken op unit
    | (.queued, t) => t
    | (.refused, t) => t

/-- The head of the queue is evaluated again: granted when the grant row holds, refused when it can no longer fit, else it waits
(R522). -/
def State.leaveAgain (s : State) : State :=
  match s.pwr.queue with
  | [] => s
  | r :: q =>
    let t := { s with pwr := { s.pwr with queue := q } }.syncPower
    if s.get PWR.page PWR.BUDGET_MW < s.standing + r.cost then (t.leaveRefused r.op 1).leaveDenied r.op r.unit
    else if s.mayGrant r.cost then (t.leaveGranted r).leaveTaken r.op r.unit
    else s

/-- What joins the standing load when an operation completes (R519, R523): a carrier's cost when it is up; the steps of a cap
raised on a carrier that is up; NLC's cost unless NLC has stopped. -/
def State.leaveCompleted (s : State) (r : LeaveReq) : State :=
  let n := r.unit
  if r.op = 0 then (if s.carrier n = cBRINGING then s.carrierComplete n else s)
  else if r.op = 2 then
    if s.carrier n ≠ cUP then s
    else
      { s with pwr := { s.pwr with
        carrierStanding := s.pwr.carrierStanding.put n (s.pwr.carrierStanding.at n + r.standing) } }.syncPower
  else if r.op = 8 then
    let st := s.get (RXD.page n) RXD.NLC_STATUS_STATE
    let s := s.setRx n { s.rxs n with nlcLeave := false }
    if st = 5 ∨ st = 2 then { s with pwr := { s.pwr with nlcStanding := s.pwr.nlcStanding.put n 4000 } }.syncPower else s
  else s

/-- LEAVE_END: a granted leave ends, `completed` or by failure or withdrawal (R523). -/
def execLeaveEnd (op : Fin 9) (unit : Fin 16) (completed : Bool) (s : State) : Host.Outcome State Fault Refusal :=
  act s fun s =>
    match s.pwr.active.find? (fun r => r.op = op.val && r.unit = unit.val) with
    | none => s
    | some r =>
      let s := s.endLeave op unit
      if completed then s.leaveCompleted r else s

/-- LEAVE_OVERRUN: a leave has been held for more than twice its catalogued duration; reported once (R523). -/
def execLeaveOverrun (op : Fin 9) (unit : Fin 16) (s : State) : Host.Outcome State Fault Refusal :=
  act s fun s =>
    let is := fun (r : LeaveReq) => r.op = op.val && r.unit = unit.val && !r.overrun && decide (r.at_ + 2 * r.durationMs * nsMs < s.now)
    if !s.pwr.active.any is then s
    else
      let mark := fun (r : LeaveReq) => if is r then { r with overrun := true } else r
      { s with pwr := { s.pwr with active := s.pwr.active.map mark } }.raise Kind.PWR.pages.1 PWR.ev_LEAVE_OVERRUN

end Sys2Proof.Machine
end

