-- ==== Sys2Proof/Machine/Flt.lean ====
section
/-!
DEFINITION. Events fired from outside, the grace and quiet timers (19.3, 19.4), and the writes of the common header and of FLT.
-/
namespace Sys2Proof.Machine

/-- EVENT_FIRE: the cause of a source that the page uses occurs (R552). -/
def execEventFire (page : Fin 128) (index : Fin 128) (s : State) : Host.Outcome State Fault Refusal :=
  act s fun s => s.raiseIf (evUsed page.val index.val) page.val index.val

/-- GRACE_EXPIRY: a running grace timer reaches GRACE_MS: the next step is taken, up to MAX_STEP, and the timer starts again
(R556, R558). -/
def execGraceExpiry (page : Fin 128) (s : State) : Host.Outcome State Fault Refusal :=
  act s fun s =>
    let p := page.val
    if !(s.page p).graceFrom.any (fun t => t + s.get (pageBase p) HDR.GRACE_MS * nsMs ≤ s.now) then s
    else
      let s := s.setPage p { s.page p with graceFrom := some s.now }
      s.takeStep p (s.step_ p + 1) ((s.stickyOf p 2).headD 0) false

/-- QUIET_EXPIRY: QUIET_S has passed since the later of the last step and the last fire: the block leaves FAULT, unless device safe state holds (R561, R562). -/
def execQuietExpiry (page : Fin 128) (s : State) : Host.Outcome State Fault Refusal :=
  act s fun s => if s.blk page.val ≠ bFAULT ∨ s.safe ∨ (s.page page.val).softReset
      ∨ s.now < (s.page page.val).quietFrom + s.get (pageBase page.val) HDR.QUIET_S * nsSec then s else s.exitFault page.val

/-- Field ranges of the header (Table 19-3). -/
def rangeHDR (off v : Nat) : Bool :=
  if off = HDR.GRACE_CTRL then inR v HDR.GRACE_MS 1 10000 && inR v HDR.URG_STEP 1 4 && inR v HDR.MAX_STEP 1 4
  else if off = HDR.QUIET_CTRL then inR v HDR.QUIET_S 1 3600
  else true

/-- A write of the common header of page `p`: requests, sticky bits, enables and classes of the sources that the page uses, the
timers (R66, R551, R555, R556, R562). -/
def wrHDR (p off v : Nat) (s : State) : WOut :=
  let a := pageBase p + off
  let used := fun (i : Nat) => match pageKind p with
    | some (k, _) => k.evUsed.getD i 0
    | none => 0
  if off = HDR.BLK_CTRL then wrCtrl p v s
  else if 0x10 ≤ off ∧ off < 0x20 then ok (s.clearSticky p ((off - 0x10) / 4) (s.nat a - v))
  else if 0x20 ≤ off ∧ off < 0x30 then ok (s.setNat a (v &&& used ((off - 0x20) / 4)))
  else if 0x30 ≤ off ∧ off < 0x50 then
    let i := (off - 0x30) / 4
    let u := used (i / 2)
    let mask := ((List.range 16).map (fun j => b2n (bitOf u (16 * (i % 2) + j)) * 3 * 4 ^ j)).sum
    ok (((s.setNat a (v &&& mask)).syncGrace p).syncUrgent p)
  else ok (s.setNat a v)

/-- A write that reaches FLT's registers: ACK acknowledges a source that its page uses and otherwise has no effect (R555). -/
def wrFLT (off v : Nat) (s : State) : WOut :=
  if off = FLT.ACK then
    let p := fv v FLT.ACK_PAGE
    let i := fv v FLT.ACK_INDEX
    ok (if evUsed p i then s.ackSource p i else s)
  else if off = FLT.CTRL then ok (s.setNat (FLT.page + off) v).refreshAlarm
  else ok (s.setNat (FLT.page + off) v)

end Sys2Proof.Machine
end

