-- ==== Sys2Proof/Machine/MemRows.lean ====
section
/-!
DEFINITION. The commands of GDDR7: reads and the slow path, page writes, the scrubber, training and failing channels
(chapter 16).
-/
namespace Sys2Proof.Machine

/-- A page that the map holds, on a channel that serves. -/
def State.pageServed (s : State) (p : Nat) : Bool :=
  s.eccServes && decide (p < s.get ECC.page ECC.TOTAL_PAGES_P) && !s.chDown (s.physPage p).1

/-- GDDR7_READ: a read completes on the normal path; the light code corrected `ce` of its words (R502). -/
def execGddr7Read (page : Nat) (ce : Fin 57) (s : State) : Host.Outcome State Fault Refusal :=
  act s fun s => if s.pageServed page then s.count (MEM.page (s.physPage page).1 + MEM.CE_WORDS) ce.val else s

/-- SLOW_PATH_DONE: the strong decode of a page completes: `fixed` of its light-uncorrectable words are recovered and
`lost` stay uncorrectable, at which the consumer reacts (R503, R504, Table 16-2). Lookups, PMB records and host reads react
within their own commands. -/
def execSlowPathDone (page : Nat) (fixed lost : Fin 57) (who : MemReader) (s : State) : Host.Outcome State Fault Refusal :=
  act s fun s =>
    if !s.pageServed page then s
    else
      let c := (s.physPage page).1
      let b := MEM.page c
      let s := s.count (b + MEM.UE_WORDS) (fixed.val + lost.val)
      let s := s.count (b + MEM.STRONG_FIXED) fixed.val
      let s := s.raiseIf (decide (0 < fixed.val)) (Kind.MEM.pg c) MEM.ev_STRONG_USED
      let s := s.count (b + MEM.STRONG_FAIL) lost.val
      let s := s.raiseIf (decide (0 < lost.val)) (Kind.MEM.pg c) MEM.ev_STRONG_FAIL
      if lost.val = 0 then s
      else match who with
        | .buffer =>
          let spoil := fun (f : Frame) => if f.pages.contains page then { f with bad := true } else f
          { s with pkt := { s.pkt with queues := s.pkt.queues.map (fun e => (e.1, { e.2 with frames := e.2.frames.map spoil })) } }
        | .collation g p gsn =>
          let x := s.gth g
          let y := x.part p
          let spoil := fun (u : PUnit) => if u.gsn = gsn.toNat then { u with ao := true } else u
          s.setGth g (x.setPart p { y with units := y.units.map spoil })
        | .table => s

/-- A collation read waits on a channel: a unit that GDDR7 holds is due at its output instant (R29, R331, R332). -/
def State.collWaits (s : State) (c : Nat) : Bool :=
  s.gatherings.any (fun g => s.collates g && (match (s.gth g).line with
    | some (u, o) => decide (o ≤ (s.dtime : Int)) && [(s.gth g).p0, (s.gth g).p1].any (fun p =>
        p.inGddr && (p.find u).isSome && (s.unitPages g u).any (fun k => (s.physPage k).1 = c))
    | none => false))

/-- A lookup read waits on a channel: the front of the miss queue has a matching word there (R29, R399). -/
def State.lookupWaits (s : State) (c : Nat) : Bool :=
  s.serves Kind.CLS.pages.1 && s.cls.sigReady && (match s.cls.miss with
    | m :: _ => (List.range 4).any (fun k =>
        let w := s.dtFirst + 4 * keyBucket m.key + k
        s.sigMatch w m.key && (s.physPage (s.tableWord w).1).1 = c)
    | [] => false)

/-- STAGING_PAGE_WRITE: the staging page of a queue is written whole to a free buffer page of a channel that is not FAILED,
when it is full or 4 µs after its first frame arrived; an access of collation or of a lookup that waits on the channel goes first
(R29, R30, R494, R512, R513). -/
def execStagingPageWrite (q : Fin 1048576) (page : Nat) (s : State) : Host.Outcome State Fault Refusal :=
  act s fun s =>
    let x := s.queue q
    let u := x.unwritten
    let c := (s.physPage page).1
    if u = 0 ∨ (u < 1792 ∧ s.now < x.stageAt + 4 * nsUs) then s
    else if !s.eccServes ∨ s.blk Kind.ECC.pages.1 = bFAULT ∨ s.chDown c ∨ s.blk (Kind.MEM.pg c) = bFAULT ∨ s.pkt.pagesUsed.contains page
        ∨ page < s.ecc.region ∨ s.get ECC.page ECC.TOTAL_PAGES_P ≤ page ∨ s.collWaits c ∨ s.lookupWaits c then s
    else
      let s := s.setQueue q { frames := stageInto page 1792 x.frames, stageAt := s.now }
      { s with pkt := { s.pkt with pagesUsed := addNat page s.pkt.pagesUsed } }

/-- A page write: in the table region it may wait or be dropped (R510, R512), elsewhere it is dropped on a channel that
serves none. -/
def State.pageWrite (s : State) (page : Nat) (words : List (Nat × List Nat)) (ue lost : List Nat) : State :=
  let table := decide (s.tableFirst ≤ page) && decide (page < s.tableFirst + s.tablePages)
  if !s.eccServes ∨ s.get ECC.page ECC.TOTAL_PAGES_P ≤ page then s
  else if table && (s.chOver (s.physPage page).1 || s.chDown (s.physPage page).1) then (s.tableWrite page words none).2
  else if s.chDown (s.physPage page).1 then s
  else s.commitWrite page words ue lost

/-- WHOLE_PAGE_WRITE: a write of all 56 data words of a page is encoded and written without reading (R499). -/
def execWholePageWrite (page : Nat) (data : List (List Byte)) (s : State) : Host.Outcome State Fault Refusal :=
  act s fun s =>
    s.pageWrite page ((List.range 56).zip ((data.map (fun l => (l.map (·.toNat)).take 32)))) [] []

/-- READ_MODIFY_WRITE: a partial page write; `ue` are words of the page that a device fault made light-uncorrectable and
`lost` those of them that the strong code does not recover (R500, R501). -/
def execReadModifyWrite (page : Nat) (words : List (Fin 56 × List Byte)) (ue lost : List (Fin 56)) (s : State) :
    Host.Outcome State Fault Refusal :=
  act s fun s =>
    s.pageWrite page (words.map (fun x => (x.1.val, (x.2.map (·.toNat)).take 32))) (ue.map (·.val)) (lost.map (·.val))

/-- A word of a page counted by the scrubber: light-correctable, light-uncorrectable, not recovered. -/
def State.scrubWord (s : State) (P w : Nat) : Nat × Nat × Nat :=
  match s.lightWord P w with
  | .good _ => (0, 0, 0)
  | .corrected _ => (1, 0, 0)
  | .bad => (0, 1, b2n (s.strongWord P w).isNone)

/-- SCRUB_PAGE: the scrubber reads the next page of the table region; `ce`, `ue` and `failed` add what device faults show it.
A page whose correctable words reach CE_TH, or whose strong decode ran, is reported (R507). -/
def execScrubPage (ce ue : Fin 57) (failed : Bool) (s : State) : Host.Outcome State Fault Refusal :=
  act s fun s =>
    let b := ECC.page
    if s.get b ECC.SCRUB_CFG_PASS = 0 ∨ !s.eccServes ∨ s.shed ∨ s.tablePages = 0 then s
    else
      let pos := s.get b ECC.SCRUB_STATUS_PAGE
      let p := if pos < s.tableFirst ∨ s.tableFirst + s.tablePages ≤ pos then s.tableFirst else pos
      let first := decide (p = s.tableFirst)
      if first && s.ecc.passAt.any (fun t => s.now < t + s.get b ECC.SCRUB_CFG_PASS * nsSec) then s
      else
      let s := if first then { s with ecc := { s.ecc with passAt := some s.now } } else s
      let next := if p + 1 = s.tableFirst + s.tablePages then s.tableFirst else p + 1
      let s := (s.set b ECC.SCRUB_STATUS_PAGE next).setB b ECC.SCRUB_STATUS_STARVED false
      let (c, P) := s.physPage p
      let n := if s.chDown c then (0, 56, 56) else
        (List.range 56).foldl (fun (x : Nat × Nat × Nat) w => let y := s.scrubWord P w; (x.1 + y.1, x.2.1 + y.2.1, x.2.2 + y.2.2)) (0, 0, 0)
      let corr := n.1 + ce.val
      let unc := n.2.1 + ue.val
      let strong := if unc = 0 then 0 else if failed || decide (0 < n.2.2) then 2 else 1
      if corr < s.get b ECC.SCRUB_CFG_CE_TH ∧ unc = 0 then s
      else
        let k := s.nat (b + ECC.SCRUB_WR)
        let s := s.setWords (ECCW.SLOG (k % 256)) [s.dtime % 2 ^ 32, s.dtime / 2 ^ 32 % 2 ^ 32, p,
          min 255 corr + 2 ^ 8 * min 255 unc + 2 ^ 16 * strong]
        (s.setNat (b + ECC.SCRUB_WR) ((k + 1) % 2 ^ 32)).raise Kind.ECC.pages.1 ECC.ev_SCRUB_REPORT

/-- SCRUB_STARVED: a class has made no progress for 10 ms on a channel and is guaranteed 1 access slot in 64; for the
scrubber SCRUB_STARVED is raised (R506, R507). -/
def execScrubStarved (scrubber : Bool) (s : State) : Host.Outcome State Fault Refusal :=
  act s fun s =>
    if scrubber ∧ s.eccServes ∧ s.get ECC.page ECC.SCRUB_CFG_PASS ≠ 0 then
      (s.setB ECC.page ECC.SCRUB_STATUS_STARVED true).raise Kind.ECC.pages.1 ECC.ev_SCRUB_STARVED
    else s

/-- A channel's device can be trained: its block is not OFF and the channel has not failed. -/
def State.chLive (s : State) (c : Nat) : Bool := s.blk (Kind.MEM.pg c) != bOFF && !s.chFailed c

/-- MEM_RETRAIN: a channel retrains at its interval; a failure is retried once at once, and the third consecutive failed one
makes the channel FAILED (R511). `first` and `again` say whether the retraining and its retry passed. -/
def execMemRetrain (c : Fin 16) (first again : Bool) (s : State) : Host.Outcome State Fault Refusal :=
  act s fun s =>
    let b := MEM.page c
    if !s.chLive c then s
    else
      let one := fun (pass : Bool) (t : State) =>
        if t.chFailed c then t
        else
          let t := (t.count (b + MEM.RETRAINS)).setB b MEM.STATUS_TRAINED pass
          if pass then t.set b MEM.STATUS_RETRAIN_FAILS 0
          else
            let n := min 3 (t.get b MEM.STATUS_RETRAIN_FAILS + 1)
            let t := (t.set b MEM.STATUS_RETRAIN_FAILS n).raise (Kind.MEM.pg c) MEM.ev_TRAIN_FAIL
            if n = 3 then t.failChannel c else t
      let s := one first s
      if first then s else one again s

/-- CHANNEL_DEVICE_FAIL: a device stops answering and its channel becomes FAILED (R512). -/
def execChannelDeviceFail (c : Fin 16) (s : State) : Host.Outcome State Fault Refusal :=
  act s fun s => if s.blk (Kind.MEM.pg c) = bOFF then s else s.failChannel c

end Sys2Proof.Machine
end

