-- ==== Sys2Proof/Machine/Access.lean ====
section
/-!
DEFINITION. Register and window accesses (3.4, 3.5): who may make one, the order of its checks, the staging of table entries, the
64-bit snapshot, and the dispatch of a write to its block.
-/
namespace Sys2Proof.Machine

/-! ### Status codes (Table 3-9) -/

def rsOK : Nat := 0
def rsNO_REG : Nat := 1
def rsSTATE : Nat := 2
def rsRANGE : Nat := 3
def rsBUSY : Nat := 4
def rsDENIED : Nat := 5
def rsALIGN : Nat := 6
def rsOPCODE : Nat := 7
def rsLENGTH : Nat := 8
def rsVERSION : Nat := 9
def rsTOO_MANY : Nat := 0xA
def rsLEAVE : Nat := 0xB

/-- How an access ends: its status, whether its response comes later, the word it returns, the state. -/
structure Acc where
  status : Nat
  later : Bool := false
  word : Nat := 0
  st : State

/-! ### Places -/

/-- First byte of the GDDR7 window (R82). -/
def gddrBase : Nat := 0x40000000

/-- The page whose block owns an address: its page, the owner of its window, ECC for the GDDR7 window (R75, R76). -/
def ownerPage (a : Nat) : Option Nat :=
  if gddrBase ≤ a then some Kind.ECC.pages.1
  else if 0x20000000 ≤ a then (winSegs.find? (fun g => g.win = (a - 0x20000000) / 0x1000000)).map (·.owner)
  else (pageKind (a / 0x1000)).map (fun _ => a / 0x1000)

/-- What an address names: a register of a page, or a word of a table entry. -/
inductive Place where
  | reg (k : Kind) (n p off : Nat) (r : RegSpec)
  | win (g : WinSeg) (e w : Nat)
  deriving DecidableEq, Repr

/-- An offset of the header that Table 3-2 reserves. -/
def reservedReg (off : Nat) : RegSpec :=
  { off := off, count := 1, stride := 4, reset := 0, rw := 0, wo := 0, w1c := 0, w1s := 0, rc := 0, cfg := 0, w64 := 0 }

/-- The register or entry word at an address below the GDDR7 window (R74, R80). -/
def placeAt (a : Nat) : Option Place :=
  if 0x20000000 ≤ a then (segAt a).map (fun x => .win x.1 x.2.1 x.2.2)
  else
    let off := a % 0x1000
    match pageKind (a / 0x1000) with
    | none => none
    | some (k, n) =>
      let r := if off < 0x100 then some ((findReg HDR.regs off).getD (reservedReg off)) else findReg k.regs off
      r.map (fun r => .reg k n (a / 0x1000) off r)

/-- First address of an entry of a table. -/
def entryAddr (g : WinSeg) (e : Nat) : Nat := 0x20000000 + 0x1000000 * g.win + g.off + e * g.stride

/-- The half of a 64-bit register that a place is: 1 low, 2 high, 0 neither (R77). -/
def Place.half : Place → Nat
  | .reg _ _ _ _ r => r.w64
  | .win g _ w =>
    match g.w64 with
    | some k => if w < k then 0 else 1 + (w - k) % 2
    | none => 0

/-! ### Who may access (R76, R573, R574, R585, R597) -/

/-- A service core runs the resident firmware; user cores and sessions do not. -/
def isFirmware : Src → Bool
  | .core c => decide (c.val < 4)
  | .rap _ => false

/-- A claim session's two places: AUTH_CMD and the authority entries (R574). -/
def claimPlace (a : Nat) : Bool :=
  a = SEC.page + SEC.AUTH_CMD || (decide (SECW.AUTH 0 ≤ a) && decide (a < SECW.AUTH 8))

/-- A session of an empty authority list (R574). -/
def State.isClaim (s : State) : Src → Bool
  | .rap h => (s.session h.slot).claim
  | .core _ => false

/-- A write that its requester may not make. -/
def State.writeDenied (s : State) (src : Src) (a : Nat) : Bool :=
  match src with
  | .rap _ => s.isClaim src && !claimPlace a
  | .core _ =>
    (src.isUserCore && (match ownerPage a with
      | none => false
      | some p => [secPg, nvsPg, rprPg, cpuPg].contains p || !s.flag CPU.page ⟨CPU.USER_WR_MASK (p / 32), p % 32, 1⟩))
    || a = SEC.page + SEC.AUTH_CMD || a = SEC.page + SEC.DEBUG_CMD

/-- A read that its requester may not make. -/
def readDenied (src : Src) (a : Nat) : Bool :=
  src.isUserCore && (match ownerPage a with
    | none => false
    | some p => p = secPg || p = nvsPg)

/-! ### A FILL in progress (R98) -/

/-- The range of addresses that a FILL covers, its end excluded: COUNT words of the GDDR7 window, or a whole table. -/
def FillJob.range (f : FillJob) : Nat × Nat :=
  if gddrBase ≤ f.addr then (f.addr, f.addr + 4 * f.count)
  else match segAt f.addr with
    | some (g, _, _) => (entryAddr g 0, entryAddr g g.entries)
    | none => (f.addr, f.addr)

/-- An address lies in the range being filled. -/
def State.filling (s : State) (a : Nat) : Bool :=
  match s.rap.fill with
  | some f => f.running && decide (f.range.1 ≤ a) && decide (a < f.range.2)
  | none => false

/-! ### Requesters (R77, R81) -/

def State.requester (s : State) (i : Nat) : Requester := Tab.get (fun _ => {}) s.rap.requesters i
def State.setRequester (s : State) (i : Nat) (x : Requester) : State :=
  { s with rap := { s.rap with requesters := Tab.put (fun _ => {}) s.rap.requesters i x } }

/-- Any access but the read of a low word ends the link between a low word and its snapshot. -/
def State.unlink (s : State) (i : Nat) : State := s.setRequester i { s.requester i with lastLow := none }

/-- The words staged for another entry are discarded when the requester accesses this one. -/
def State.atEntry (s : State) (i a : Nat) : State :=
  let x := s.requester i
  if x.entry = some a then s else s.setRequester i { x with entry := some a, staged := [] }

/-! ### Reading -/

/-- What a read of a register or entry word shows; fields that follow the present moment are computed; what
drives the balls GPIO4 and GPIO5 from outside is not known, and their levels are free (R206; log 127). -/
def State.shown (s : State) (a : Nat) (pl : Place) : Nat :=
  let v := s.nat a
  match pl with
  | .reg k n p off _ =>
    if off = HDR.QUIET_CTRL then putF v HDR.QUIET_LEFT (s.quietShown p)
    else if k = Kind.GTH && GTH.PG_STATUS 0 ≤ off && off ≤ GTH.PG_STATUS 3 then
      v ||| (s.wtrLeft ((off - GTH.PG_STATUS 0) / 4) * 2 ^ 16)
    else if k = Kind.CAL && off = CAL.STATUS then s.calStatus n
    else if k = Kind.TXD && off = TXD.OCP_GPIO then putF (putF v TXD.OCP_GPIO_IN4 (s.freeVal % 2)) TXD.OCP_GPIO_IN5 (s.freeVal / 2 % 2)
    else if k = Kind.FLT && off = FLT.STATUS then putF v FLT.STATUS_ALARM (b2n s.boot.alarmLow)
    else if k = Kind.SEC && off = SEC.FR_STATUS then putF v SEC.FR_STATUS_CHALLENGE_VALID (b2n s.challengeValid)
    else v
  | .win g e w =>
    if g.win = 19 then (if w = 5 then (s.meterShown e).1 else if w = 6 then (s.meterShown e).2 else v)
    else if (g.win = 20 || g.win = 21) && w = 2 then
      s.creditShown (if g.win = 20 then e
        else if g.off = 0 then 2 ^ 20 + e else if g.off = 0x400000 then 2 ^ 21 + e else 2 ^ 21 + 64 + e)
    else if g.win = 24 && g.off = 0 then s.rawWordRead e
    else if g.win = 25 && g.off = 0 then 0
    else v

/-- What a read leaves: RC bits are cleared, MAX_SEEN waits for its next sample, a low word loads the requester's snapshot. -/
def State.afterRead (s : State) (i a : Nat) (pl : Place) : State :=
  let s := match pl with
    | .win g e _ => s.atEntry i (entryAddr g e)
    | .reg k _ _ off r =>
      let s := if r.rc = 0 then s else s.setNat a (s.nat a &&& (0xFFFFFFFF - r.rc))
      let s := if k = Kind.TXD && off = TXD.OCP_GPIO then s.nextFree else s
      if k = Kind.THM && off = THM.MAX_SEEN then { s with thm := { s.thm with maxFresh := true } } else s
  if pl.half = 1 then s.setRequester i { s.requester i with lastLow := some a, snap := s.word (a + 4) } else s.unlink i

/-- A read of one word (R74, R76, R77, R83, R98, R641). -/
def State.readAt (s : State) (src : Src) (a : Nat) : Acc :=
  let i := src.code
  if readDenied src a then ⟨rsDENIED, false, 0, s.unlink i⟩
  else if a % 4 ≠ 0 ∨ gddrBase ≤ a then ⟨rsALIGN, false, 0, s.unlink i⟩
  else match placeAt a with
    | none => ⟨rsNO_REG, false, 0, s.unlink i⟩
    | some pl =>
      if s.filling a then ⟨rsSTATE, false, 0, s.unlink i⟩
      else
        let x := s.requester i
        let v := if pl.half = 2 && x.lastLow = some (a - 4) then x.snap.toNat else s.shown a pl
        ⟨rsOK, false, v, s.afterRead i a pl⟩

/-! ### Register writes -/

/-- Ranges of RAP's registers (Table 3-11). -/
def rangeRAP (off v : Nat) : Bool :=
  if off = RAP.UDP_PORT then inR v RAP.UDP_PORT_PORT 1024 65535
  else if off = RAP.IPV6_CFG then inR v RAP.IPV6_CFG_PREFIX_LEN 1 128
  else if off = RAP.EVT_RATE then inR v RAP.EVT_RATE_RATE 10 10000 && inR v RAP.EVT_RATE_DEPTH 1 255
  else if off = RAP.IDLE_TIMEOUT then inR v RAP.IDLE_TIMEOUT_SECONDS 10 900
  else true

/-- A write that reaches RAP's registers: the buckets have filled at the old rate until now (R104). -/
def wrRAP (off v : Nat) (s : State) : WOut :=
  let s := if off = RAP.EVT_RATE then
      each (List.range 8) (fun i t =>
        let x := t.session i
        if x.stage = .opened then t.setSession i { x with tokens := t.evTokens x, tokenTime := t.now } else t) s
    else s
  ok (s.setNat (RAP.page + off) v)

/-- A field's value outside its range (Table 3-5, RANGE). -/
def State.inRange (s : State) (k : Kind) (off v : Nat) : Bool :=
  if off < 0x100 then rangeHDR off v
  else match k with
    | .RAP => rangeRAP off v
    | .PWR => rangePWR off v
    | .HKA => rangeHKA off v
    | .CLK => rangeCLK off v
    | .TIM => rangeTIM off v
    | .CPU => rangeCPU off v
    | .NVS => rangeNVS off v
    | .RPR => rangeRPR off v
    | .CAL => rangeCAL off v
    | .RXD => rangeRXD off v
    | .TXD => rangeTXD off v
    | .SUB => rangeSUB off v
    | .FEC => rangeFEC off v
    | .FRM => rangeFRM off v
    | .GTH => rangeGTH off v
    | .CRY => rangeCRY off v
    | .OSP => rangeOSP off v
    | .CLN => rangeCLN off v
    | .CLS => s.rangeCLS off v
    | .QMG => s.rangeQMG off v
    | .SHP => rangeSHP off v
    | .FBL => rangeFBL off v
    | .FBR => rangeFBR off v
    | .MEM => rangeMEM off v
    | .ECC => s.rangeECC off v
    | .SYS | .THM | .FLT | .SEC | .CNV | .PMB | .MAC | .MTR => true

/-- A write handed to its block. `to` is the session slot and TAG that a late response goes to. -/
def State.handle (s : State) (src : Src) (toTag : Option (Nat × Nat)) (k : Kind) (n p off v : Nat) : WOut :=
  if off < 0x100 then wrHDR p off v s
  else match k with
    | .SYS => wrSYS src.code off v s
    | .RAP => wrRAP off v s
    | .PWR => wrPWR off v s
    | .HKA => wrHKA off v s
    | .FLT => wrFLT off v s
    | .SEC => wrSEC toTag off v s
    | .CLK => wrCLK off v s
    | .TIM => wrTIM (isFirmware src) off v s
    | .CPU => wrCPU off v s
    | .RPR => wrRPR off v s
    | .CAL => wrCAL n off v s
    | .RXD => wrRXD n off v s
    | .TXD => wrTXD n off v s
    | .SUB => wrSUB n off v s
    | .FEC => wrFEC n off v s
    | .FRM => wrFRM n off v s
    | .GTH => wrGTH off v s
    | .CRY => wrCRY off v s
    | .OSP => wrOSP off v s
    | .PMB => wrPMB off v s
    | .MAC => wrMAC off v s
    | .CLS => wrCLS off v s
    | .CLN => ok (s.setNat (pageBase p + off) v).refreshPorts
    | .FBL => wrFBL n off v s
    | .FBR => wrFBR (isFirmware src) off v s
    | .THM | .NVS | .CNV | .QMG | .MTR | .SHP | .MEM | .ECC => ok (s.setNat (pageBase p + off) v)

/-- The word that a write leaves before its block acts on it: RW and WO bits as written, W1C bits cleared and W1S bits set where
written 1, every other bit as it is (R7, R73). -/
def newWord (r : RegSpec) (old v : Nat) : Nat :=
  (old &&& (0xFFFFFFFF - (r.rw ||| r.wo ||| r.w1s ||| r.w1c))) ||| (v &&& (r.rw ||| r.wo))
    ||| ((old ||| v) &&& r.w1s) ||| ((old &&& (0xFFFFFFFF - v)) &&& r.w1c)

/-- R70: a write that only CONFIG only fields can take, or that changes one, outside OFF and CONFIG. -/
def State.cfgBarred (s : State) (p : Nat) (r : RegSpec) (old v : Nat) : Bool :=
  let all := r.rw ||| r.wo ||| r.w1s ||| r.w1c
  r.cfg != 0 && !s.inConfig p && (all &&& r.cfg = all || (old &&& r.cfg) != (v &&& r.cfg))

/-- The WO bits of a register read 0 after a write. -/
def State.stripWo (s : State) (r : RegSpec) (a : Nat) : State :=
  if r.wo = 0 then s else s.setNat a (s.nat a &&& (0xFFFFFFFF - r.wo))

/-- A block's answer as the end of an access; a refusal is recorded (R75). -/
def WOut.end_ (o : WOut) (p off : Nat) (window : Bool) (src : Nat) : Acc :=
  match o.rej with
  | some r => ⟨r.status, false, 0, o.st.refuse p off window r src⟩
  | none => ⟨rsOK, o.later, 0, o.st⟩

/-- A write of a register (R70, R73, R75). -/
def State.writeReg (s : State) (src : Src) (toTag : Option (Nat × Nat)) (k : Kind) (n p off : Nat) (r : RegSpec) (v : Nat) :
    Acc :=
  let a := pageBase p + off
  let old := s.nat a
  let x := newWord r old v
  if r.rw ||| r.wo ||| r.w1s ||| r.w1c = 0 then ⟨rsOK, false, 0, s⟩
  else if !s.inRange k off x then (no .range s).end_ p off false src.code
  else if s.cfgBarred p r old x then (no .state s).end_ p off false src.code
  else
    let o := s.handle src toTag k n p off x
    if o.rej.isSome then o.end_ p off false src.code else ({ o with st := o.st.stripWo r a }).end_ p off false src.code

/-! ### Window writes (R80, R81) -/

/-- Words of an entry handed one by one to a block, until one is refused. -/
def wordByWord (f : Nat → Nat → State → WOut) : List (Nat × Nat) → State → WOut
  | [], s => ok s
  | (a, v) :: l, s =>
    let o := f a v s
    if o.rej.isSome then o else wordByWord f l o.st

/-- A table entry takes its words: those that the table's block checks or acts on go to it, the others are stored. -/
def State.commitEntry (s : State) (src : Src) (g : WinSeg) (e : Nat) (ws : List Nat) : WOut :=
  let b := entryAddr g e
  let w0 := ws.getD 0 0
  let cells := ((List.range ws.length).filter (fun i => g.rw.getD i 0 != 0)).map (fun i => (b + 4 * i, ws.getD i 0))
  if cells.isEmpty then ok s
  else match g.win with
    | 0 | 1 => winCAL g.win (b + 12) (ws.getD 3 0) s
    | 2 | 3 => winRXD (g.win - 2) b w0 s
    | 4 | 5 => winTXD (g.win - 4) b w0 s
    | 6 | 7 => wordByWord (winSUB (g.win - 6)) cells s
    | 13 => entGTH e ws s
    | 14 => entCRY e ws s
    | 18 => entQ e ws s
    | 19 => entMTR e ws s
    | 20 => entSHP e ws s
    | 21 => entSHP (if g.off = 0 then 2 ^ 20 + e else if g.off = 0x400000 then 2 ^ 21 + e else 2 ^ 21 + 64 + e) ws s
    | 22 => if g.off = 0 then entROUTE (isFirmware src) e ws s else ok (s.setWords b ws)
    | 24 => s.rawWordWrite e w0
    | 25 => if g.off = 0x1000 ∨ g.off = 0x1200 then entSEC b ws s else ok (s.setWords b ws)
    | _ => ok (s.setWords b ws)

/-- The word that a written word leaves in an entry: its writable bits as written. -/
def merged (s : State) (g : WinSeg) (e i v : Nat) : Nat :=
  let rw := g.rw.getD i 0
  (s.nat (entryAddr g e + 4 * i) &&& (0xFFFFFFFF - rw)) ||| (v &&& rw)

/-- A write of an entry word: the lower words are staged for their requester, the highest one commits the entry (R81). -/
def State.writeWin (s : State) (src : Src) (g : WinSeg) (e w v : Nat) : Acc :=
  let i := src.code
  let b := entryAddr g e
  let s := s.atEntry i b
  let x := s.requester i
  let n := g.stride / 4
  if w + 1 < n then
    ⟨rsOK, false, 0, s.setRequester i { x with staged := x.staged.filter (fun y => y.1 ≠ w) ++ [(w, BitVec.ofNat 32 v)] }⟩
  else
    let given := fun (j : Nat) => if j = w then some v else (x.staged.find? (fun y => y.1 = j)).map (·.2.toNat)
    let ws := (List.range n).map (fun j => match given j with
      | some y => merged s g e j y
      | none => s.nat (b + 4 * j))
    let s := s.setRequester i { x with entry := none, staged := [] }
    (s.commitEntry src g e ws).end_ g.owner ((b + 4 * w) % 4096) true i

/-- A write of one word, its checks in the order of 3.4: access, alignment, implementation, a FILL in progress, then the
register's own. -/
def State.writeAt (s : State) (src : Src) (toTag : Option (Nat × Nat)) (a v : Nat) : Acc :=
  let i := src.code
  let s := s.unlink i
  if s.writeDenied src a then ⟨rsDENIED, false, 0, s⟩
  else if a % 4 ≠ 0 ∨ gddrBase ≤ a then ⟨rsALIGN, false, 0, s⟩
  else match placeAt a with
    | none => ⟨rsNO_REG, false, 0, s⟩
    | some pl =>
      if s.filling a then (no .fillActive s).end_ (windowPage a) (a % 4096) true i
      else match pl with
        | .reg k n p off r => s.writeReg src toTag k n p off r v
        | .win g e w => s.writeWin src g e w v

/-- The bits of a place whose old value a MODIFY keeps outside its mask (R96). -/
def Place.keeps : Place → Nat
  | .reg _ _ _ _ r => r.rw
  | .win g _ w => g.rw.getD w 0

/-- A MODIFY: the bits in the mask as given, RW bits outside it as they are, WO, W1C and W1S bits outside it 0; the word that
results is returned, and no read has a side effect (R96). -/
def State.modifyAt (s : State) (src : Src) (toTag : Option (Nat × Nat)) (a mask v : Nat) : Acc :=
  let keep := match placeAt a with
    | some pl => pl.keeps
    | none => 0
  let x := (v &&& mask) ||| (s.nat a &&& (0xFFFFFFFF - mask) &&& keep)
  let r := s.writeAt src toTag a x
  if r.status ≠ rsOK then r
  else match placeAt a with
    | some (.win g e w) => { r with word := if w + 1 < g.stride / 4 then merged s g e w x else r.st.shown a (.win g e w) }
    | some pl => { r with word := r.st.shown a pl }
    | none => r

/-- The words of the register or entry that a host row writes: its writable bits as they are with a field replaced, WO, W1C and
W1S bits 0. -/
def State.withField (s : State) (base : Nat) (f : Fld) (x : Nat) : Nat :=
  let a := base + f.off
  let keep := match placeAt a with
    | some pl => pl.keeps
    | none => 0
  putF (s.nat a &&& keep) f x

/-! ### The GDDR7 window (R82, R83, R513) -/

/-- Bytes as words, the most significant byte first (log: PRESUMED). -/
def wordsOfBytes : List Nat → List Nat
  | a :: b :: c :: d :: l => (((a * 256 + b) * 256 + c) * 256 + d) :: wordsOfBytes l
  | _ => []

/-- A word's bytes, the most significant first. -/
def bytesOfWord (v : Nat) : List Nat := [bitsOf v 24 8, bitsOf v 16 8, bitsOf v 8 8, bitsOf v 0 8]

/-- Why a group of 8 words at a window offset fails, if it does: beyond the table region, or in the range being filled. -/
def State.groupFails (s : State) (o : Nat) : Option Nat :=
  if s.tableWords ≤ o / 32 then some rsNO_REG else if s.filling (gddrBase + o) then some rsSTATE else none

/-- Reading `n` groups of 8 words: words, and the status that stopped it. An uncorrectable word reads as zeros (R504). -/
def State.gddrRead : Nat → State → Nat → List Nat → Nat × List Nat × State
  | 0, s, _, l => (rsOK, l, s)
  | n + 1, s, o, l =>
    match s.groupFails o with
    | some st => (st, l, s)
    | none =>
      let (p, w) := s.tableWord (o / 32)
      let (d, t) := s.readWord p w
      t.gddrRead n (o + 32) (l ++ wordsOfBytes (d.getD (List.replicate 32 0)))

/-- The groups of a write up to the first that fails, with that status. -/
def State.gddrPrefix (s : State) (o : Nat) : Nat → Nat × Nat
  | 0 => (0, rsOK)
  | n + 1 =>
    match s.groupFails o with
    | some st => (0, st)
    | none => let r := s.gddrPrefix (o + 32) n; (r.1 + 1, r.2)

/-- Lists of 32 bytes of a run of words. -/
def groupBytes : Nat → List Nat → List (List Nat)
  | 0, _ => []
  | n + 1, l => ((l.take 8).flatMap bytesOfWord) :: groupBytes n (l.drop 8)

end Sys2Proof.Machine
end

