-- ==== Sys2Proof/Machine/Rap.lean ====
section
/-!
DEFINITION. The Relwin Access Protocol (3.6 to 3.10): frames that arrive, HELLO and sessions, the requests of Table 3-8 with their
responses, FILL, image pushes, and the requests that wait.
-/
namespace Sys2Proof.Machine

def rapPg : Nat := Kind.RAP.pages.1

/-! ### Arrival (R48, R49, R90, R91) -/

/-- RAP answers from RAP_UP on, and in ROM recovery (R42, R46). -/
def State.rapUp (s : State) : Bool := s.boot.recovery || decide (stRAP ≤ s.stage)

/-- The modified EUI-64 of the management identity (RFC 4291). -/
def State.ifaceId (s : State) : Nat := ((s.boot.mgmtId / 2 ^ 24) ^^^ 0x020000) * 2 ^ 40 + 0xFFFE * 2 ^ 24 + s.boot.mgmtId % 2 ^ 24

/-- The part's own addresses: link-local, and the global one where it is enabled. -/
def State.ownAddr (s : State) (a : Nat) : Bool :=
  let g := (List.range 4).foldl (fun n i => n + s.nat (RAP.page + RAP.IPV6_ADDR i) * 2 ^ (32 * i)) 0
  a = 0xFE80 * 2 ^ 112 + s.ifaceId || (s.flag RAP.page RAP.IPV6_CFG_GLOBAL_EN && a = g)

/-- A frame comes to this port's RAP (R86, R87): raw with EtherType 0x88B5 and the part's own MAC address, or IPv6/UDP with one of its
addresses and UDP_PORT; HELLO also to the broadcast address, or to ff02::1. -/
def State.toMe (s : State) (v : Via) (hello : Bool) : Bool :=
  if s.rap.udp then
    v.udp && (s.ownAddr v.dst.toNat || (hello && v.dst.toNat = 0xFF02 * 2 ^ 112 + 1)) && v.dport.toNat = s.get RAP.page RAP.UDP_PORT_PORT
  else
    !v.udp && v.etherType = 0x88B5 && (v.dst.toNat = s.boot.mgmtId || (hello && v.dst.toNat = 2 ^ 48 - 1))

/-- A frame dropped under R49, the first one with its event (R49, R61). -/
def State.earlyDrop (s : State) : State :=
  let first := !s.rap.earlyDropped
  ({ s with rap := { s.rap with earlyDropped := true } }.count (SYS.page + SYS.RAP_EARLY_DROPS)).raiseIf first sysPg SYS.ev_EARLY_DROP

/-- The credit of R49's bucket now: 100,000 ns of credit a frame, 64 frames deep. -/
def State.earlyCredit (s : State) : Nat := min 6400000 (s.rap.earlyTokens + (s.now - s.rap.earlyTime))

/-- A frame that reaches RAP: before READY the bucket of R49 admits or drops it. -/
def State.arrive (s : State) (f : State → State) : State :=
  if !s.rapUp then s
  else if s.ready then f s
  else
    let c := s.earlyCredit
    let s := { s with rap := { s.rap with earlyTokens := c, earlyTime := s.now } }
    if c < 100000 then s.earlyDrop else f { s with rap := { s.rap with earlyTokens := c - 100000 } }

/-- A frame for this part: after the bucket, one with a bad UDP checksum is dropped and counted (R87). A frame for another address,
EtherType or port is no frame of RAP's (log 132). -/
def State.heard (s : State) (v : Via) (hello : Bool) (f : State → State) : State :=
  if !s.toMe v hello then s
  else s.arrive fun s => if v.udp && !v.sumOk then s.count (RAP.page + RAP.PARSE_DROPS) else f s

/-- A frame that fails authentication (R90). -/
def State.authFail (s : State) : State := (s.count (RAP.page + RAP.AUTH_FAILS)).raise rapPg RAP.ev_AUTH_FAIL

/-- A frame counted as accepted. -/
def State.rxFrame (s : State) : State := s.count64 (RAP.page + RAP.RX_FRAMES) 1

/-- A request SEQ of a session (R91): the session after it, or none where it is dropped. -/
def seqAccept (x : Session) (q : Nat) : Option Session :=
  if x.seqHigh < q then
    let d := q - x.seqHigh
    let seen := if 64 < d then 0 else (2 * x.seqSeen + b2n (x.seqHigh != 0)) * 2 ^ (d - 1) % 2 ^ 64
    some { x with seqHigh := q, seqSeen := seen }
  else
    let d := x.seqHigh - q
    if d = 0 ∨ 64 < d ∨ bitOf x.seqSeen (d - 1) then none
    else some { x with seqSeen := setBit x.seqSeen (d - 1) }

/-- A frame dropped under R91. -/
def State.replayDrop (s : State) : State := (s.count (RAP.page + RAP.REPLAY_DROPS)).raise rapPg RAP.ev_REPLAY

/-- An authenticated request of a session: dropped where the session is unknown or its SEQ is not acceptable (R90, R91, R95). -/
def State.accept (s : State) (h : ReqHdr) (f : State → State) : State :=
  s.heard h.via false fun s =>
    let x := s.session h.slot
    if x.stage ≠ .opened then s.count (RAP.page + RAP.AUTH_FAILS)
    else match seqAccept x h.seq.toNat with
      | none => s.replayDrop
      | some y => f ((s.setSession h.slot { y with lastValid := s.now }).heardFrom h.slot h.via.peer).rxFrame

/-- The opcode and the sender of a request, for its response. -/
def State.noteReq (s : State) (h : ReqHdr) (op : Nat) : State :=
  let x := s.session h.slot
  s.setSession h.slot { x with asked := x.asked.filter (fun e => e.1 ≠ h.tag.toNat) ++ [(h.tag.toNat, op, h.via.peer)] }

/-- A response of status alone. -/
def status (n : Nat) : Resp := { status := n }

/-- A BUSY response with its RETRY_AFTER. -/
def busy (ms : Nat) : Resp := { status := rsBUSY, retryAfter := ms }

/-! ### The GDDR7 window and FILL (R82, R83, R97, R98, R510, R513) -/

/-- GDDR7 serves no access: refused at the first word with reason STATE on the ECC page (R513). -/
def State.gddrRefuse (s : State) (src : Src) (a : Nat) (r : Rej) : State :=
  s.refuse Kind.ECC.pages.1 (a % 4096) true r src.code

/-- How a waiting write is marked: its status and its words done in one number, to be answered when it has ended. -/
def waitMark (status done : Nat) : Nat := 16 * done + status

/-- A BULK_READ of the GDDR7 window; every access ends the link of R77. -/
def State.gddrBulkRead (s : State) (src : Src) (a n : Nat) : Resp × State :=
  let s := s.unlink src.code
  if a % 32 ≠ 0 ∨ n % 8 ≠ 0 then (status rsALIGN, s)
  else if !s.eccServes then (status rsSTATE, s.gddrRefuse src a .state)
  else
    let r := s.gddrRead (n / 8) (a - gddrBase) []
    ({ status := r.1, words := r.2.1.map (BitVec.ofNat 32), done := r.2.1.length }, r.2.2)

/-- A BULK_WRITE of the GDDR7 window; no response while some of it waits in band OVER. -/
def State.gddrBulkWrite (s : State) (src : Src) (toTag : Nat × Nat) (a : Nat) (ws : List Nat) : Option Resp × State :=
  let s := s.unlink src.code
  if s.isClaim src then (some (status rsDENIED), s)
  else if a % 32 ≠ 0 ∨ ws.length % 8 ≠ 0 then (some (status rsALIGN), s)
  else if !s.eccServes then (some (status rsSTATE), s.gddrRefuse src a .state)
  else
    let o := a - gddrBase
    let (k, st) := s.gddrPrefix o (ws.length / 8)
    let (waits, t) := s.tableRun (o / 32) (groupBytes k ws) (some (toTag.1, toTag.2, waitMark st (8 * k)))
    let t := if st = rsSTATE then t.gddrRefuse src (a + 32 * k) .fillActive else t
    if waits then (none, t) else (some { status := st, done := 8 * k }, t)

/-- The FILL ends: its leave and its response (R98, R523). -/
def State.fillEnd (s : State) (f : FillJob) (st done : Nat) : State :=
  ({ s with rap := { s.rap with fill := none } }.endLeave 4 0).answer f.slot f.tag { status := st, done := done }

/-- The pattern written into an on-die table, entry by entry from `e` on, cut to the entry's width, until one is refused: the
status, the words done, the state. -/
def State.fillTable (src : Src) (g : WinSeg) (pat : List Nat) : Nat → Nat → State → Nat × Nat × State
  | 0, e, s => (rsOK, e * (g.stride / 4), s)
  | n + 1, e, s =>
    let ws := (List.range (g.stride / 4)).map (fun i => merged s g e i (pat.getD (i % 8) 0))
    let r := (s.commitEntry src g e ws).end_ g.owner ((entryAddr g e + g.stride - 4) % 4096) true src.code
    if r.status ≠ rsOK then (r.status, e * (g.stride / 4), r.st) else State.fillTable src g pat n (e + 1) r.st

/-- A FILL is carried out: over a table, or over the words of the GDDR7 window that it reached, `written` of them where GDDR7
stopped serving meanwhile (R98, R513). What waits in band OVER keeps the FILL in progress (R510). -/
def State.fillDone (s : State) (f : FillJob) (written : Nat) : State :=
  let src : Src := .rap { slot := Fin.ofNat 8 f.slot, seq := 0, tag := BitVec.ofNat 16 f.tag, retry := false }
  let pat := f.pattern.map (·.toNat)
  if f.addr < gddrBase then
    match segAt f.addr with
    | some (g, _, _) =>
      let (st, n, t) := State.fillTable src g pat g.entries 0 s
      t.fillEnd f st n
    | none => s.fillEnd f rsNO_REG 0
  else
    let o := f.addr - gddrBase
    let fit := min f.count (8 * s.tableWords - o / 4)
    let n := if s.eccServes then fit else min fit (written / 8 * 8)
    let st := if !s.eccServes then rsSTATE else if fit < f.count then rsNO_REG else rsOK
    let (waits, t) := s.tableRun (o / 32) (List.replicate (n / 8) ((pat.take 8).flatMap bytesOfWord))
      (some (f.slot, f.tag, waitMark st n))
    if waits then { t with rap := { t.rap with fill := some { f with applied := true } } } else t.fillEnd f st n

/-- FILL_COMPLETE: the FILL in progress finishes, or is cut short with `written` words done (R98). -/
def execFillComplete (written : Nat) (s : State) : Host.Outcome State Fault Refusal :=
  act s fun s =>
    match s.rap.fill with
    | some f => if f.running && !f.applied then s.fillDone f written else s
    | none => s

/-- The estimate of the time that the FILL in progress still takes, in milliseconds (R98). -/
def State.fillLeft (s : State) : Nat := Config.fillMs ((s.rap.fill.map (·.count)).getD 0)

/-- A FILL request: its checks, then leave; its response follows its completion (R98). -/
def State.fillAsk (s : State) (src : Src) (toTag : Nat × Nat) (a n : Nat) (pat : List Word) : Option Resp × State :=
  let s := s.unlink src.code
  let table := decide (gddrBase ≤ a)
  if s.isClaim src then (some (status rsDENIED), s)
  else if a % 4 ≠ 0 ∨ (table ∧ (a % 32 ≠ 0 ∨ n % 8 ≠ 0)) then (some (status rsALIGN), s)
  else if !table ∧ (segAt a).isNone then (some (status rsNO_REG), s)
  else if table ∧ !s.eccServes then (some (status rsSTATE), s.gddrRefuse src a .state)
  else if table ∧ s.tableWords ≤ (a - gddrBase) / 32 then (some (status rsNO_REG), s)
  else if s.rap.fill.isSome then (some (busy (s.fillLeft % 65536)), s)
  else
    let f : FillJob := { addr := a, count := n, pattern := pat, slot := toTag.1, tag := toTag.2 }
    match s.requestLeave { catalogue 4 0 with durationMs := Config.fillMs n } with
    | (.refused, t) => (some (status rsLEAVE), t.refuse (windowPage a) (a % 4096) true .leave src.code)
    | (d, t) => (none, { t with rap := { t.rap with fill := some { f with running := decide (d = Decision.granted) } } }.deferred)

/-! ### Bulk accesses of registers and on-die tables (R97) -/

/-- Words written one after another until one fails, or until one whose answer comes later: the status, the words done, the words
after the one that pauses it, the state (R97). -/
def State.bulkWrite (src : Src) (toTag : Option (Nat × Nat)) : List Nat → Nat → Nat → State → Nat × Nat × Option (List Nat) × State
  | [], _, k, s => (rsOK, k, none, s)
  | v :: r, a, k, s =>
    let x := s.writeAt src toTag a v
    if x.status ≠ rsOK then (x.status, k, none, x.st)
    else if x.later then (rsOK, k, some r, x.st)
    else State.bulkWrite src toTag r (a + 4) (k + 1) x.st

/-- A bulk write of registers and on-die tables from word `k` on: its response, or none where it pauses behind a word (R97). -/
def State.bulkGo (s : State) (slot : Nat) (h : ReqHdr) (a : Nat) (ws : List Nat) (k : Nat) : Option Resp × State :=
  let r := State.bulkWrite (.rap h) (some (slot, h.tag.toNat)) ws a k s
  match r.2.2.1 with
  | none => (some { status := r.1, done := r.2.1 }, r.2.2.2)
  | some l =>
    let b : BulkRest := { slot := slot, h := h, addr := a + 4 * (r.2.1 - k + 1), words := l, done := r.2.1 }
    (none, { r.2.2.2 with rap := { r.2.2.2.rap with rest := r.2.2.2.rap.rest ++ [b] } })

/-- Words read one after another until one fails. -/
def State.bulkRead (src : Src) : Nat → Nat → List Word → State → Nat × List Word × State
  | 0, _, l, s => (rsOK, l, s)
  | n + 1, a, l, s =>
    let x := s.readAt src a
    if x.status ≠ rsOK then (x.status, l, x.st) else State.bulkRead src n (a + 4) (l ++ [BitVec.ofNat 32 x.word]) x.st

/-! ### Images and events (R101, R102, R104, R567) -/

/-- Bytes of the staging area (Table 20-1). -/
def stagingSize : Nat := 3 * 2 ^ 20

/-- IMAGE_PUSH: bytes at their offset of the staging area. A push after a verification has ended starts a new image on an empty area,
and one during a verification is taken into the area (DESIGN CHOICE, log 129). -/
def State.imagePush (s : State) (o : Nat) (bytes : List Byte) : Resp × State :=
  if stagingSize < o + bytes.length then (status rsRANGE, s.raise nvsPg NVS.ev_STAGING_OVERFLOW)
  else
    let old := if 2 ≤ s.get NVS.page NVS.IMAGE_STATUS_STATE then [] else s.nv.staged
    let m := putBytes old o (bytes.map (·.toNat))
    let s := { s with nv := { s.nv with staged := m } }
    (status rsOK, (s.set NVS.page NVS.IMAGE_STATUS_STATE 1).set NVS.page NVS.IMAGE_STATUS_LENGTH m.length)

/-- IMAGE_COMMIT: verification starts, of whatever the area holds, and again for a second commit (DESIGN CHOICE,
log 129). -/
def State.imageCommit (s : State) : State :=
  { s with nv := { s.nv with verifying := true } }.raise nvsPg NVS.ev_IMAGE_RECEIVED

/-! ### Requests -/

/-- The lowest version that includes a request, and the largest COUNT of a bulk request under a version (R93, R97, Table 3-7). -/
def reqVersionOk (q : Req) (v : Nat) : Bool :=
  match q with
  | .bulkWrite _ n _ => decide (n ≤ 256) || decide (0x20 ≤ v) || decide (1024 < n)
  | .bulkRead _ n => decide (0x11 ≤ v) && (decide (n ≤ 256) || decide (0x20 ≤ v) || decide (1024 < n))
  | .fill _ _ _ => decide (0x20 ≤ v)
  | .nop | .close | .read _ | .write _ _ | .modify _ _ _ | .push _ _ | .commit _ | .subscribe _ _ | .ack _ _ => true

/-- A COUNT that the opcode does not take (R92, R97). -/
def reqLengthOk (q : Req) : Bool :=
  match q with
  | .bulkWrite _ n ws => decide (1 ≤ n) && decide (n ≤ 1024) && decide (ws.length = n)
  | .bulkRead _ n => decide (1 ≤ n) && decide (n ≤ 1024)
  | _ => true

/-- A read that R48 allows before READY: the SYS page, and the common header of any page. -/
def earlyRead (a : Nat) : Bool := decide (a < 0x20000000) && (a / 0x1000 = sysPg || decide (a % 0x1000 < 0x100))

/-- What a session may ask for before READY: those reads, and image pushes while the part waits for an image or in ROM recovery
(R46, R48). -/
def State.earlyOk (s : State) (q : Req) : Bool :=
  match q with
  | .read a => earlyRead a.toNat
  | .bulkRead a n => (List.range n).all (fun i => earlyRead (a.toNat + 4 * i))
  | .push _ _ | .commit _ => s.stage = stWAIT || s.boot.recovery
  | _ => false

/-- The response of a read or a write of one word. -/
def Acc.resp (x : Acc) (wordToo : Bool) : Resp :=
  { status := x.status, words := if wordToo && x.status = rsOK then [BitVec.ofNat 32 x.word] else [] }

/-- A request executed for slot `slot` (8 for a session closed since): its response, or none where it comes later. EVT_ACK of a
source that its page does not use answers OK and does nothing (DESIGN CHOICE, log 34). -/
def State.perform (s : State) (slot : Nat) (h : ReqHdr) (q : Req) : Option Resp × State :=
  let src : Src := .rap h
  let toTag := (slot, h.tag.toNat)
  let one := fun (x : Acc) (w : Bool) => ((if x.later then none else some (x.resp w), if x.later then x.st.deferred else x.st) : Option Resp × State)
  match q with
  | .nop | .close => (some (status rsOK), s)
  | .read a => one (s.readAt src a.toNat) true
  | .write a v => one (s.writeAt src (some toTag) a.toNat v.toNat) false
  | .modify a m v => one (s.modifyAt src (some toTag) a.toNat m.toNat v.toNat) true
  | .bulkWrite a _ ws =>
    if gddrBase ≤ a.toNat then
      let r := s.gddrBulkWrite src toTag a.toNat (ws.map (·.toNat))
      if r.1.isNone then (none, r.2.deferred) else r
    else
      if s.writeDenied src a.toNat then (some (status rsDENIED), s.unlink src.code)
      else if a.toNat % 4 ≠ 0 then (some (status rsALIGN), s.unlink src.code)
      else
        let r := s.bulkGo slot h a.toNat (ws.map (·.toNat)) 0
        (r.1, if r.1.isNone then r.2.deferred else r.2)
  | .bulkRead a n =>
    if gddrBase ≤ a.toNat then
      let r := s.gddrBulkRead src a.toNat n
      (some r.1, r.2)
    else
      let r := if a.toNat % 4 = 0 then State.bulkRead src n a.toNat [] s else (rsALIGN, [], s.unlink src.code)
      (some { status := r.1, words := r.2.1, done := r.2.1.length }, r.2.2)
  | .fill a n pat => s.fillAsk src toTag a.toNat n pat
  | .push o bytes =>
    if s.isClaim src then (some (status rsDENIED), s)
    else
      let r := s.imagePush o.toNat bytes
      (some r.1, r.2)
  | .commit _ => if s.isClaim src then (some (status rsDENIED), s) else (some (status rsOK), s.imageCommit)
  | .subscribe p c =>
    let x := s.session slot
    (some (status rsOK), s.setSession slot { x with subscribed := true, pageMask := p.toNat, classMask := c.toNat })
  | .ack p i =>
    if s.isClaim src then (some (status rsDENIED), s)
    else if (pageKind p.toNat).isNone ∨ 128 ≤ i.toNat then (some (status rsNO_REG), s)
    else (some (status rsOK), if evUsed p.toNat i.toNat then s.ackSource p.toNat i.toNat else s)

/-- A request executed, and answered at once or later; one that answers later holds back those after it, but for FILL (R99). -/
def State.runReq (s : State) (slot : Nat) (h : ReqHdr) (q : Req) : State :=
  match s.perform slot h q with
  | (some r, t) =>
    let t := t.respond slot h.tag.toNat r
    match q with
    | .close => t.closeSession slot
    | _ => t
  | (none, t) =>
    match q with
    | .fill _ _ _ => t
    | _ => { t with rap := { t.rap with blocked := t.rap.blocked ++ [slot] } }

/-- A bulk write whose paused word has been answered goes on: it answers, or pauses again (R97). -/
def State.restGo (s : State) (b : BulkRest) : State :=
  let s := ({ s with rap := { s.rap with rest := s.rap.rest.erase b } } : State).unblock b.slot
  match s.bulkGo b.slot b.h b.addr b.words b.done with
  | (some r, t) => (t.setOutstanding (t.rap.outstanding - 1)).respond b.slot b.h.tag.toNat r
  | (none, t) => { t with rap := { t.rap with blocked := t.rap.blocked ++ [b.slot] } }

/-- What is held back goes on in order once the request before it has ended: paused bulk writes, requests, responses (R97, R99). -/
def State.drainN : Nat → State → State
  | 0, s => s
  | n + 1, s =>
    match s.rap.rest.find? (·.go) with
    | some b => (s.restGo b).drainN n
    | none =>
      match s.rap.held.find? (fun e => !s.rap.blocked.contains e.1) with
      | none => s
      | some e =>
        let t := { s with rap := { s.rap with held := s.rap.held.erase e } }
        match e.2.2 with
        | .run q => ((t.setOutstanding (t.rap.outstanding - 1)).runReq e.1 e.2.1 q).drainN n
        | .say r => (t.respond e.1 e.2.1.tag.toNat r).drainN n

def State.drainHeld (s : State) : State := s.drainN (s.rap.held.length + s.rap.rest.length)

/-- A response in the order of its session: behind the request that holds the session back, if one does (R99). -/
def State.reply (s : State) (h : ReqHdr) (r : Resp) : State :=
  if s.rap.blocked.contains h.slot.val then { s with rap := { s.rap with held := s.rap.held ++ [(h.slot.val, h, Held.say r)] } }
  else s.respond h.slot h.tag.toNat r

/-- The response kept under the TAG of a RETRY (R100; the flag is of version 2.0, Table 3-7). -/
def State.keptFor (s : State) (h : ReqHdr) : Option Kept :=
  let x := s.session h.slot
  if h.retry && decide (0x20 ≤ x.version) then x.kept.find? (fun k => k.tag = h.tag.toNat) else none

/-- The response to a request that may not execute, if there is one: too many outstanding, an opcode that the version lacks, a bad
COUNT, BUSY before READY, BUSY while the service firmware is not running (R48, R92, R93, R97, R99, R592). -/
def State.turnedAway (s : State) (v : Nat) (q : Req) : Option Resp :=
  if 64 ≤ s.rap.outstanding then some (status rsTOO_MANY)
  else if !reqVersionOk q v then some (status rsOPCODE)
  else if !reqLengthOk q then some (status rsLENGTH)
  else if !s.ready && !s.earlyOk q then some (busy (10 + s.freeVal % 991))
  else match q with
    | .push _ _ | .commit _ => if s.svcState != svRUNNING then some (busy (s.freeVal % 65536)) else none
    | _ => none

/-- The opcode of a request (Table 3-8). -/
def reqOp : Req → Nat
  | .nop => 6 | .close => 5 | .read _ => 0x10 | .write _ _ => 0x11 | .modify _ _ _ => 0x12 | .bulkWrite _ _ _ => 0x13
  | .bulkRead _ _ => 0x14 | .fill _ _ _ => 0x15 | .push _ _ => 0x20 | .commit _ => 0x21 | .subscribe _ _ => 0x30 | .ack _ _ => 0x31

/-- A request of opcode `op` arrives and is accepted: a RETRY whose response is kept receives it again (R100), any other is handed
on. -/
def State.asked (s : State) (h : ReqHdr) (op : Nat) (f : State → State) : State :=
  s.accept h fun s =>
    let s := s.noteReq h op
    match s.keptFor h with
    | some k => s.reply h k.resp
    | none => f s

/-- A request of a session arrives (R92, R97, R99, R100). -/
def State.request (s : State) (h : ReqHdr) (q : Req) : State :=
  s.asked h (reqOp q) fun s =>
    match s.turnedAway (s.session h.slot).version q with
    | some r => s.nextFree.reply h r
    | none =>
      if s.rap.blocked.contains h.slot.val then
        { s with rap := { s.rap with held := s.rap.held ++ [(h.slot.val, h, Held.run q)] } }.deferred
      else s.runReq h.slot h q

/-! ### The request rows -/

def execSessionClose (h : ReqHdr) (s : State) : Host.Outcome State Fault Refusal := act s (·.request h .close)
def execNop (h : ReqHdr) (s : State) : Host.Outcome State Fault Refusal := act s (·.request h .nop)
def execRead (h : ReqHdr) (addr : BitVec 32) (s : State) : Host.Outcome State Fault Refusal := act s (·.request h (.read addr))
def execWrite (h : ReqHdr) (addr value : BitVec 32) (s : State) : Host.Outcome State Fault Refusal :=
  act s (·.request h (.write addr value))
def execModify (h : ReqHdr) (addr mask value : BitVec 32) (s : State) : Host.Outcome State Fault Refusal :=
  act s (·.request h (.modify addr mask value))
def execBulkWrite (h : ReqHdr) (addr : BitVec 32) (count : Nat) (words : List Word) (s : State) :
    Host.Outcome State Fault Refusal := act s (·.request h (.bulkWrite addr count words))
def execBulkRead (h : ReqHdr) (addr : BitVec 32) (count : Nat) (s : State) : Host.Outcome State Fault Refusal :=
  act s (·.request h (.bulkRead addr count))
def execFill (h : ReqHdr) (addr : BitVec 32) (count : Nat) (pattern : List Word) (s : State) :
    Host.Outcome State Fault Refusal := act s (·.request h (.fill addr count pattern))
def execImagePush (h : ReqHdr) (offset : BitVec 32) (bytes : List Byte) (s : State) : Host.Outcome State Fault Refusal :=
  act s (·.request h (.push offset bytes))
def execImageCommit (h : ReqHdr) (length : BitVec 32) (s : State) : Host.Outcome State Fault Refusal :=
  act s (·.request h (.commit length))
def execEvtSubscribe (h : ReqHdr) (pages : BitVec 128) (classes : BitVec 4) (s : State) : Host.Outcome State Fault Refusal :=
  act s (·.request h (.subscribe pages classes))
def execEvtAck (h : ReqHdr) (page index : BitVec 8) (s : State) : Host.Outcome State Fault Refusal :=
  act s (·.request h (.ack page index))

/-! ### HELLO and session setup (R93 to R95, R574, R580, R592) -/

/-- A frame with SESSION_ID 0 leaves, towards the sender of the one it answers (R86, R87, R89, R94). -/
def State.setupFrame (s : State) (v : Via) (tag opcode status : Nat) (body : List Nat) (retry : Nat := 0) : State :=
  let h : RapHdr := { version := if opcode = 1 then 0x10 else s.rap.agreed, typ := 2, opcode := opcode, status := status, tag := tag,
                      sid := 0, seq := 0, retryAfter := retry }
  (s.emit (.frame opcode status body v.peer (rapWire h body none))).count64 (RAP.page + RAP.TX_FRAMES) 1

/-- The versions that the part implements, highest first (Table 3-7). -/
def versions : List Nat := [0x21, 0x20, 0x11, 0x10]

/-- HELLO: the highest version inside both ranges; over IPv6/UDP none for a maximum below 1.1 (R93); TOO_MANY with 64 requests
outstanding (R99). -/
def execHello (via : Via) (tag : BitVec 16) (min max : BitVec 8) (s : State) : Host.Outcome State Fault Refusal :=
  act s fun s => s.heard via true fun s =>
    let s := s.rxFrame
    if 64 ≤ s.rap.outstanding then s.setupFrame via tag.toNat 1 rsTOO_MANY []
    else match versions.find? (fun v => decide (min.toNat ≤ v) && decide (v ≤ max.toNat) && (!via.udp || decide (0x11 ≤ max.toNat))) with
      | none => (s.setupFrame via tag.toNat 1 rsVERSION [0x10, 0x21]).raise rapPg RAP.ev_VERSION_REJECT
      | some v => { s with rap := { s.rap with agreed := v } }.setupFrame via tag.toNat 1 rsOK [0x10, 0x21, v]

/-- The SESSION_IDs in use. -/
def State.sids (s : State) : List Nat := ((List.range 8).filter (fun i => (s.session i).stage != .free)).map (fun i => (s.session i).sid)

/-- A new SESSION_ID: not 0 and in use by no session, and free otherwise. -/
def State.newSid (s : State) : Nat :=
  ((List.range 9).map (fun k => (s.freeVal + k) % (2 ^ 32 - 1) + 1)).find? (fun x => !s.sids.contains x) |>.getD 0

/-- The body of a SESSION_ACCEPT: the part's ephemeral key, the nonce, SESSION_ID, the signature (R94; the order and the widths of the
key and the signature: log 132). -/
def acceptBody (key nonce sid : Nat) : List Nat :=
  let l := beBytes 64 key ++ beBytes 32 nonce ++ beBytes 4 sid
  l ++ beBytes 64 (Config.deviceSign l)

/-- SESSION_INIT: `identity` and `key` are what the host sends, `authority` is the authority key that its key matches, `sigOk`
whether its signature verifies; an empty authority list takes any key. The part's ephemeral key and the nonce are free values
(R94, R95, R99, R574). -/
def execSessionInit (via : Via) (tag : BitVec 16) (identity : BitVec 128) (key : BitVec 512) (authority : Option (Fin 8)) (sigOk : Bool)
    (s : State) : Host.Outcome State Fault Refusal :=
  act s fun s => s.heard via false fun s =>
    let claim := s.nv.auths = 0
    let known := match authority with
      | some i => bitOf s.nv.auths i
      | none => false
    if !sigOk ∨ (!claim ∧ !known) then s.authFail
    else
      let s := s.rxFrame
      if 64 ≤ s.rap.outstanding then s.setupFrame via tag.toNat 2 rsTOO_MANY []
      else if s.flag SEC.page SEC.RNG_STATUS_FAILED then s.setupFrame via tag.toNat 2 rsBUSY [] 1000
      else if s.svcState != svRUNNING then s.nextFree.setupFrame via tag.toNat 2 rsBUSY [] (s.freeVal % 65536)
      else match (List.range 8).find? (fun i => (s.session i).stage = .free) with
        | none => s.setupFrame via tag.toNat 2 rsTOO_MANY []
        | some i =>
          let sid := s.newSid
          let s := s.nextFree
          let pk := s.freeVal % 2 ^ 512
          let s := s.nextFree
          let nonce := s.freeVal % 2 ^ 256
          let x : Session := { stage := .accepted, claim := claim, authority := (authority.map (·.val)).getD 0, sid := sid,
                               version := s.rap.agreed, lastValid := s.now, hostId := identity.toNat, hostKey := key.toNat,
                               partKey := pk, nonce := nonce, peer := some via.peer }
          (s.nextFree.setSession i x).setupFrame via tag.toNat 3 rsOK (acceptBody pk nonce sid)

/-- SESSION_CONFIRM for the session set up in slot `slot`: the session opens, with its key and a full message bucket (DESIGN CHOICE,
log 131), when its
confirmation value is good, and a bad one ends the set-up (R94, R99). -/
def execSessionConfirm (via : Via) (tag : BitVec 16) (slot : Fin 8) (good : Bool) (s : State) : Host.Outcome State Fault Refusal :=
  act s fun s => s.heard via false fun s =>
    let x := s.session slot
    if x.stage ≠ .accepted then s.count (RAP.page + RAP.PARSE_DROPS)
    else if !good then (s.setSession slot {}).authFail
    else
      let s := s.rxFrame
      if 64 ≤ s.rap.outstanding then s.setupFrame via tag.toNat 4 rsTOO_MANY []
      else if s.svcState != svRUNNING then s.nextFree.setupFrame via tag.toNat 4 rsBUSY [] (s.freeVal % 65536)
      else
        let depth := s.get RAP.page RAP.EVT_RATE_DEPTH * nsSec
        let y := { x with stage := .opened, lastValid := s.now, tokens := depth, tokenTime := s.now, peer := some via.peer,
                          key := Config.sessionKey x.hostKey x.partKey x.nonce }
        ((s.setSession slot y).showSessions.setupFrame via tag.toNat 4 rsOK []).raise rapPg RAP.ev_SESSION_OPEN

/-- SESSION_IDLE_TIMEOUT: a slot has had no valid frame for IDLE_TIMEOUT.SECONDS, by the model's clock or by `idle`, the whole
seconds that the environment has seen pass (R95). -/
def execSessionIdleTimeout (slot : Fin 8) (idle : Nat) (s : State) : Host.Outcome State Fault Refusal :=
  act s fun s =>
    let x := s.session slot
    let n := s.get RAP.page RAP.IDLE_TIMEOUT_SECONDS
    if x.stage = .free ∨ (idle < n ∧ s.now < x.lastValid + n * nsSec) then s else s.closeSession slot

/-- RESPONSE_RETENTION_EXPIRY: 1 s after a response left, it is no longer kept (R100). -/
def execResponseRetentionExpiry (slot : Fin 8) (tag : BitVec 16) (s : State) : Host.Outcome State Fault Refusal :=
  act s fun s =>
    let x := s.session slot
    s.setSession slot { x with kept := x.kept.filter (fun k => k.tag ≠ tag.toNat || decide (s.now < k.sentAt + nsSec)) }

/-- RAP_INVALID_FRAME: `.rate` is a frame before READY that finds the bucket of R49 empty (R49, R87, R90 to R92, R99, R100). -/
def execRapInvalidFrame (via : Via) (why : BadFrame) (s : State) : Host.Outcome State Fault Refusal :=
  act s fun s =>
    match why with
    | .rate => if !s.toMe via false || !s.rapUp || s.ready || decide (100000 ≤ s.earlyCredit) then s else s.earlyDrop
    | .hmac => s.heard via false State.authFail
    | .unknownSession => s.heard via false (fun s => s.count (RAP.page + RAP.AUTH_FAILS))
    | .noSession | .parse => s.heard via false (fun s => s.count (RAP.page + RAP.PARSE_DROPS))
    | .replay i => s.heard via false (fun s =>
        if (s.session i).stage = .opened then s.replayDrop else s.count (RAP.page + RAP.AUTH_FAILS))
    | .unknownOpcode h op => s.asked { h with via := via } op.toNat (fun s =>
        s.reply h (status (if 64 ≤ s.rap.outstanding then rsTOO_MANY else rsOPCODE)))
    | .badLength h op => s.asked { h with via := via } op.toNat (fun s =>
        s.reply h (status (if 64 ≤ s.rap.outstanding then rsTOO_MANY else rsLENGTH)))

/-! ### The port (R85, R87, R105) -/

/-- The part answers IPv6 on its port: IPv6/UDP in force and the port out of idle. -/
def State.ipv6Up (s : State) : Bool := s.rap.udp && s.boot.mgtTx = .live

/-- NEIGHBOR_SOLICITATION for one of the part's addresses is answered (RFC 4861, R87). -/
def execNeighborSolicitation (addr : BitVec 128) (s : State) : Host.Outcome State Fault Refusal :=
  act s fun s => if s.ipv6Up && s.ownAddr addr.toNat then s.send "neighborAdvertisement" [(addr.toNat : Int)] else s

/-- ICMPV6_ECHO to one of the part's addresses is answered (R87). -/
def execIcmpv6Echo (addr : BitVec 128) (s : State) : Host.Outcome State Fault Refusal :=
  act s fun s => if s.ipv6Up && s.ownAddr addr.toNat then s.send "echoReply" [(addr.toNat : Int)] else s

/-- MGT_LINK_DOWN: reported after READY (R105). -/
def execMgtLinkDown (s : State) : Host.Outcome State Fault Refusal :=
  act s fun s =>
    if !s.rap.mgtUp then s
    else { s with rap := { s.rap with mgtUp := false } }.raiseIf s.ready rapPg RAP.ev_MGT_LINK_DOWN

/-- MGT_LINK_UP: once the port is out of idle (R105). -/
def execMgtLinkUp (s : State) : Host.Outcome State Fault Refusal :=
  act s fun s =>
    if s.rap.mgtUp ∨ s.boot.mgtTx ≠ .live then s
    else { s with rap := { s.rap with mgtUp := true } }.raise rapPg RAP.ev_MGT_LINK_UP

end Sys2Proof.Machine
end

