-- ==== Sys2Proof/Machine/Waits.lean ====
section
/-!
DEFINITION. The commands whose end can let requests go on that RAP holds back (R99): a commit of the NV store, a queued leave, a
channel that leaves band OVER.
-/
namespace Sys2Proof.Machine

/-- The requests held back run while the part runs. -/
def State.goOn (s : State) : State := if s.running then s.drainHeld else s

/-- NV_COMMIT_DONE: the commit in progress completes, with the endurance used, in percent (R568 to R570). -/
def execNvCommitDone (readBack : Bool) (wear : Fin 101) (s : State) : Host.Outcome State Fault Refusal :=
  if s.inReset || s.nv.queue.isEmpty then .next s else done (s.nvCommitEnds readBack wear.val).goOn

/-- LEAVE_GRANT_QUEUED: the governor looks at the head of its queue (R522). -/
def execLeaveGrantQueued (s : State) : Host.Outcome State Fault Refusal := act s fun s => s.leaveAgain.goOn

/-! ### Bands (R509, R510) -/

/-- The band of a device temperature, rising (Table 16-4). -/
def bandOf (t : Nat) : Nat := if t < 85 then 0 else if t < 95 then 1 else if t ≤ 105 then 2 else 3

/-- The band that a falling temperature has reached: each band is left 2 °C below its threshold. -/
def fallenBand (t : Nat) : Nat := if t ≤ 83 then 0 else if t ≤ 93 then 1 else if t ≤ 103 then 2 else 3

/-- The band after a readout. -/
def nextBand (b t : Nat) : Nat := if b < bandOf t then bandOf t else min b (fallenBand t)

/-- A write that waited has ended: when it was the last of its request, the response leaves, and a FILL ends. -/
def State.waitEnded (s : State) (who : Option (Nat × Nat × Nat)) : State :=
  match who with
  | none => s
  | some (slot, tag, mark) =>
    if s.ecc.waiting.any (fun (j : MemJob) => (j.who.map (fun w => (w.1, w.2.1))) = some (slot, tag)) then s
    else match s.rap.fill with
      | some f =>
        if f.applied && f.slot = slot && f.tag = tag then s.fillEnd f (mark % 16) (mark / 16)
        else (s.unblock slot).answer slot tag { status := mark % 16, done := mark / 16 }
      | none => (s.unblock slot).answer slot tag { status := mark % 16, done := mark / 16 }

/-- The writes that wait on a channel complete in order; a channel that has failed meanwhile drops them (R510, R512). -/
def State.waitsDone (s : State) (c : Nat) : State :=
  each (s.ecc.waiting.filter (fun (j : MemJob) => j.chan = c)) (fun j t =>
    let t := { t with ecc := { t.ecc with waiting := t.ecc.waiting.erase j } }
    let t := if t.chDown c then t
      else t.commitWrite j.page (j.words.map (fun (x : Nat × List Byte) => (x.1, x.2.map (·.toNat)))) [] []
    t.waitEnded j.who) s

/-- MEM_TEMP_READ: a device's temperature is read, in °C: the band follows, OVERTEMP on entry to OVER, and the writes that wait
complete when the channel leaves OVER (R509, R510). -/
def execMemTempRead (c : Fin 16) (temp : BitVec 8) (s : State) : Host.Outcome State Fault Refusal :=
  act s fun s =>
    if s.blk (Kind.MEM.pg c) = bOFF then s
    else
      let b := MEM.page c
      let old := s.get b MEM.STATUS_BAND
      let new := nextBand old temp.toNat
      let s := (s.set b MEM.STATUS_TEMP temp.toNat).set b MEM.STATUS_BAND new
      let s := s.raiseIf (old != new) (Kind.MEM.pg c) MEM.ev_BAND_CHANGE
      let s := s.raiseIf (old != 3 && new = 3) (Kind.MEM.pg c) MEM.ev_OVERTEMP
      if old = 3 && new != 3 then (s.waitsDone c).goOn else s

end Sys2Proof.Machine
end

