-- ==== Sys2Proof/Machine/HostRows.lean ====
section
/-!
DEFINITION. The rows of the command table that are register or table writes: each makes one access of its requester, with the
register's writable bits as they stand and the row's field replaced; R74 to R83 and the block decide what it does.
-/
namespace Sys2Proof.Machine

/-- A write of a word by a session's WRITE request or by a core that runs. -/
def hostWrite (src : Src) (a v : Nat) (s : State) : Host.Outcome State Fault Refusal :=
  act s fun s =>
    match src with
    | .rap h => s.request h (.write (BitVec.ofNat 32 a) (BitVec.ofNat 32 v))
    | .core c => if s.coreRuns c then (s.writeAt src none a v).st else s

/-- A write of one field. -/
def hostField (src : Src) (base : Nat) (f : Fld) (x : Nat) (s : State) : Host.Outcome State Fault Refusal :=
  hostWrite src (base + f.off) (s.withField base f x) s

/-- A core's writes of consecutive words, up to the first that fails. -/
def State.coreWrites (s : State) (src : Src) : List Nat → Nat → State
  | [], _ => s
  | v :: r, a =>
    let x := s.writeAt src none a v
    if x.status ≠ rsOK then x.st else x.st.coreWrites src r (a + 4)

/-- A write of consecutive words: a BULK_WRITE request, or a core's writes one after another. -/
def hostEntry (src : Src) (a : Nat) (ws : List Word) (s : State) : Host.Outcome State Fault Refusal :=
  act s fun s =>
    match src with
    | .rap h => s.request h (.bulkWrite (BitVec.ofNat 32 a) ws.length ws)
    | .core c => if s.coreRuns c then s.coreWrites src (ws.map (·.toNat)) a else s

/-- The words of an entry as they stand, to be written back with some changed. -/
def State.entryWords (s : State) (a n : Nat) : List Nat := (List.range n).map (fun i => s.nat (a + 4 * i))

/-- Words given as numbers. -/
def hostWords (src : Src) (a : Nat) (l : List Nat) (s : State) : Host.Outcome State Fault Refusal :=
  hostEntry src a (l.map (BitVec.ofNat 32)) s

/-- First address of a shaper's entry. -/
def shaperAddr : ShaperSel → Nat
  | .queue q => SHPW.QSH q
  | .endpoint e => SHPW.ESH e
  | .gathering g => SHPW.GSH g
  | .link k => SHPW.FSH k

/-! ### Chapters 2 and 3: SYS, BLK_CTRL, RAP -/

/-- WARM_RESET (R56). -/
def execWarmReset (key : BitVec 16) (src : Src) (s : State) : Host.Outcome State Fault Refusal :=
  hostWrite src (SYS.page + SYS.RESET_CTRL) (1 + key.toNat * 2 ^ 16) s

/-- CARRIER_UP (R51). -/
def execCarrierUp (n : Fin 2) (src : Src) (s : State) : Host.Outcome State Fault Refusal :=
  hostField src SYS.page (carrierUpFld n) 1 s

/-- CARRIER_DOWN (R55). -/
def execCarrierDown (n : Fin 2) (src : Src) (s : State) : Host.Outcome State Fault Refusal :=
  hostField src SYS.page (carrierUpFld n) 0 s

/-- FABRIC_OPEN (R50). -/
def execFabricOpen (src : Src) (s : State) : Host.Outcome State Fault Refusal :=
  hostField src SYS.page SYS.FABRIC_CTRL_OPEN 1 s

/-- BLOCK_ENABLE (R66). -/
def execBlockEnable (page : Fin 128) (src : Src) (s : State) : Host.Outcome State Fault Refusal :=
  hostField src (pageBase page) HDR.ENABLE 1 s

/-- BLOCK_DISABLE (R66). -/
def execBlockDisable (page : Fin 128) (src : Src) (s : State) : Host.Outcome State Fault Refusal :=
  hostField src (pageBase page) HDR.ENABLE 0 s

/-- BLOCK_SOFT_RESET (R58). -/
def execBlockSoftReset (page : Fin 128) (src : Src) (s : State) : Host.Outcome State Fault Refusal :=
  hostField src (pageBase page) HDR.SOFT_RESET 1 s

/-- STATE_REQ_ACTIVE (R66). -/
def execStateReqActive (page : Fin 128) (src : Src) (s : State) : Host.Outcome State Fault Refusal :=
  hostField src (pageBase page) HDR.STATE_REQ 2 s

/-- STATE_REQ_DRAIN (R71). -/
def execStateReqDrain (page : Fin 128) (src : Src) (s : State) : Host.Outcome State Fault Refusal :=
  hostField src (pageBase page) HDR.STATE_REQ 3 s

/-- STATE_REQ_CONFIG (R67). -/
def execStateReqConfig (page : Fin 128) (src : Src) (s : State) : Host.Outcome State Fault Refusal :=
  hostField src (pageBase page) HDR.STATE_REQ 1 s

/-- REGISTER_WRITE (R75). -/
def execRegisterWrite (addr value : BitVec 32) (src : Src) (s : State) : Host.Outcome State Fault Refusal :=
  hostWrite src addr.toNat value.toNat s

/-- ENCAP_MODE_WRITE: the response is the last frame in the old encapsulation (R88). -/
def execEncapModeWrite (ipv6 : Bool) (src : Src) (s : State) : Host.Outcome State Fault Refusal :=
  hostField src RAP.page RAP.ENCAP_MODE (b2n ipv6) s

/-! ### Chapters 4 to 6: CAL, RXD, TXD -/

/-- CAL_FULL (R125). -/
def execCalFull (n : Fin 2) (src : Src) (s : State) : Host.Outcome State Fault Refusal :=
  hostField src (CAL.page n) CAL.CMD_FULL 1 s

/-- CAL_SWAP (R127). -/
def execCalSwap (n : Fin 2) (conv : Fin 8) (pos : Fin 64) (src : Src) (s : State) : Host.Outcome State Fault Refusal :=
  hostWrite src (CAL.page n + CAL.CMD) (2 + conv.val * 2 ^ 8 + pos.val * 2 ^ 16) s

/-- CAL_ABORT_SPARE (R129). -/
def execCalAbortSpare (n : Fin 2) (src : Src) (s : State) : Host.Outcome State Fault Refusal :=
  hostField src (CAL.page n) CAL.CMD_ABORT_SPARE 1 s

/-- CAL_TARGET_WRITE (R121). -/
def execCalTargetWrite (n : Fin 2) (entry : Fin 544) (target : BitVec 32) (src : Src) (s : State) :
    Host.Outcome State Fault Refusal :=
  hostWrite src (CALW.SUBCONV n entry + 12) target.toNat s

/-- ACQ_RESTART: one subcarrier, or all (R174). -/
def execAcqRestart (n : Fin 2) (subc : Option (Fin 16)) (src : Src) (s : State) : Host.Outcome State Fault Refusal :=
  hostWrite src (RXD.page n + RXD.CMD) (match subc with | some i => 1 + i.val * 2 ^ 8 | none => 1 + 2 ^ 12) s

/-- RXD_SNAP (R181). -/
def execRxdSnap (n : Fin 2) (subc : Fin 16) (src : Src) (s : State) : Host.Outcome State Fault Refusal :=
  hostWrite src (RXD.page n + RXD.CMD) (2 + subc.val * 2 ^ 8) s

/-- CD_MEM_CLEAR (R144). -/
def execCdMemClear (n : Fin 2) (src : Src) (s : State) : Host.Outcome State Fault Refusal :=
  hostField src (RXD.page n) RXD.CMD_MEM_CLEAR 1 s

/-- FB_ZERO (R158). -/
def execFbZero (n : Fin 2) (src : Src) (s : State) : Host.Outcome State Fault Refusal :=
  hostField src (RXD.page n) RXD.CMD_FB_ZERO 1 s

/-- NLC_REQUEST (R164). -/
def execNlcRequest (n : Fin 2) (src : Src) (s : State) : Host.Outcome State Fault Refusal :=
  hostField src (RXD.page n) RXD.CTRL_NLC_REQ 1 s

/-- NLC_STOP_REQUEST (R164). -/
def execNlcStopRequest (n : Fin 2) (src : Src) (s : State) : Host.Outcome State Fault Refusal :=
  hostField src (RXD.page n) RXD.CTRL_NLC_REQ 0 s

/-- TX_MUTE_WRITE (R208). -/
def execTxMuteWrite (n : Fin 2) (mute : Bool) (src : Src) (s : State) : Host.Outcome State Fault Refusal :=
  hostField src (TXD.page n) TXD.CTRL_MUTE (b2n mute) s

/-- FAULT_EN_WRITE (R208). -/
def execFaultEnWrite (n : Fin 2) (on : Bool) (src : Src) (s : State) : Host.Outcome State Fault Refusal :=
  hostField src (TXD.page n) TXD.OCP_CFG_FAULT_EN (b2n on) s

/-- MASK_CHECK (R200). -/
def execMaskCheck (n : Fin 2) (m : Fin 2) (src : Src) (s : State) : Host.Outcome State Fault Refusal :=
  hostField src (TXD.page n) (TXD.MASK_CTRL_CHECK m) 1 s

/-- MASK_APPLY (R200). -/
def execMaskApply (n : Fin 2) (m : Fin 2) (src : Src) (s : State) : Host.Outcome State Fault Refusal :=
  hostField src (TXD.page n) (TXD.MASK_CTRL_APPLY m) 1 s

/-- CD_PRE_TARGET_WRITE (R202). -/
def execCdPreTargetWrite (n : Fin 2) (target : BitVec 16) (src : Src) (s : State) : Host.Outcome State Fault Refusal :=
  hostField src (TXD.page n) TXD.CD_PRE_TARGET target.toNat s

/-- OCP_SPI_TX (R210). -/
def execOcpSpiTx (n : Fin 2) (word : BitVec 32) (src : Src) (s : State) : Host.Outcome State Fault Refusal :=
  hostWrite src (TXD.page n + TXD.OCP_SPI_TX) word.toNat s

/-! ### Chapters 7 to 9: SUB, FEC, FRM, PMB -/

/-- SCHED_CHECK (R222). -/
def execSchedCheck (n : Fin 2) (src : Src) (s : State) : Host.Outcome State Fault Refusal :=
  hostField src (SUB.page n) SUB.SCHED_CTRL_CHECK 1 s

/-- SCHED_APPLY (R223). -/
def execSchedApply (n : Fin 2) (src : Src) (s : State) : Host.Outcome State Fault Refusal :=
  hostField src (SUB.page n) SUB.SCHED_CTRL_APPLY 1 s

/-- LEAF_LISTED_WRITE (R228). -/
def execLeafListedWrite (n : Fin 2) (leaf : Fin 32) (listed : Bool) (src : Src) (s : State) :
    Host.Outcome State Fault Refusal :=
  hostField src (SUBW.LEAFE n leaf) SUBW.LEAFE_LISTED (b2n listed) s

/-- LEAF_DEREGISTER (R228). -/
def execLeafDeregister (n : Fin 2) (leaf : Fin 32) (src : Src) (s : State) : Host.Outcome State Fault Refusal :=
  hostWrite src (SUB.page n + SUB.LEAF_CMD) (leaf.val + 2 ^ 8) s

/-- UP_OWNER_WRITE (R230). -/
def execUpOwnerWrite (n : Fin 2) (i : Fin 16) (owner : Option (Fin 32)) (src : Src) (s : State) :
    Host.Outcome State Fault Refusal :=
  hostField src (SUB.page n) ⟨SUB.UP_OWNER (i / 4), 8 * (i % 4), 8⟩ (match owner with | some l => 128 + l.val | none => 0) s

/-- IMAX_WRITE (R265). -/
def execImaxWrite (n : Fin 2) (imax : BitVec 5) (src : Src) (s : State) : Host.Outcome State Fault Refusal :=
  hostField src (FEC.page n) FEC.CAP_REQ_IMAX imax.toNat s

/-- HIST_CLEAR (R268). -/
def execHistClear (n : Fin 2) (src : Src) (s : State) : Host.Outcome State Fault Refusal :=
  hostField src (FEC.page n) FEC.CMD_HIST_CLEAR 1 s

/-- ALIGN_RESTART (R281). -/
def execAlignRestart (n : Fin 2) (src : Src) (s : State) : Host.Outcome State Fault Refusal :=
  hostField src (FRM.page n) FRM.CMD_ALIGN_RESTART 1 s

/-- HB_SNAP (R291). -/
def execHbSnap (n : Fin 2) (src : Src) (s : State) : Host.Outcome State Fault Refusal :=
  hostField src (FRM.page n) FRM.CMD_HB_SNAP 1 s

/-- ALIGN_OFFSET_WRITE: both words, the high one last (R305). -/
def execAlignOffsetWrite (offset : BitVec 64) (src : Src) (s : State) : Host.Outcome State Fault Refusal :=
  hostWords src (PMB.page + PMB.ALIGN_OFFSET) [offset.toNat % 2 ^ 32, offset.toNat / 2 ^ 32] s

/-! ### Chapters 10 and 11: GTH, CRY -/

/-- GATHERING_COMMIT: the 16 words of an entry (R322). -/
def execGatheringCommit (g : Fin 64) (words : List Word) (src : Src) (s : State) : Host.Outcome State Fault Refusal :=
  hostEntry src (GTHW.CFG g) words s

/-- GTH_RECOLLATE (R334). -/
def execGthRecollate (g : Fin 64) (src : Src) (s : State) : Host.Outcome State Fault Refusal :=
  hostWrite src (GTH.page + GTH.CMD) (g.val + 1 * 2 ^ 8) s

/-- SEL_CLEAR (R337). -/
def execSelClear (g : Fin 64) (src : Src) (s : State) : Host.Outcome State Fault Refusal :=
  hostWrite src (GTH.page + GTH.CMD) (g.val + 2 * 2 ^ 8) s

/-- SEL_MANUAL_A (R337). -/
def execSelManualA (g : Fin 64) (src : Src) (s : State) : Host.Outcome State Fault Refusal :=
  hostWrite src (GTH.page + GTH.CMD) (g.val + 3 * 2 ^ 8) s

/-- SEL_MANUAL_B (R337). -/
def execSelManualB (g : Fin 64) (src : Src) (s : State) : Host.Outcome State Fault Refusal :=
  hostWrite src (GTH.page + GTH.CMD) (g.val + 4 * 2 ^ 8) s

/-- SEL_FORCE_A (R337). -/
def execSelForceA (g : Fin 64) (src : Src) (s : State) : Host.Outcome State Fault Refusal :=
  hostWrite src (GTH.page + GTH.CMD) (g.val + 5 * 2 ^ 8) s

/-- SEL_FORCE_B (R337). -/
def execSelForceB (g : Fin 64) (src : Src) (s : State) : Host.Outcome State Fault Refusal :=
  hostWrite src (GTH.page + GTH.CMD) (g.val + 6 * 2 ^ 8) s

/-- PG_CFG_WRITE (R339). -/
def execPgCfgWrite (q : Fin 4) (v : BitVec 32) (src : Src) (s : State) : Host.Outcome State Fault Refusal :=
  hostWrite src (GTH.page + GTH.PG_CFG q) v.toNat s

/-- PG_CLEAR (R343). -/
def execPgClear (q : Fin 4) (src : Src) (s : State) : Host.Outcome State Fault Refusal :=
  hostWrite src (GTH.page + GTH.PG_CMD) (q.val + 0 * 2 ^ 4) s

/-- PG_LOCKOUT (R341). -/
def execPgLockout (q : Fin 4) (src : Src) (s : State) : Host.Outcome State Fault Refusal :=
  hostWrite src (GTH.page + GTH.PG_CMD) (q.val + 1 * 2 ^ 4) s

/-- PG_FORCE (R341). -/
def execPgForce (q : Fin 4) (src : Src) (s : State) : Host.Outcome State Fault Refusal :=
  hostWrite src (GTH.page + GTH.PG_CMD) (q.val + 2 * 2 ^ 4) s

/-- PG_MANUAL (R341). -/
def execPgManual (q : Fin 4) (src : Src) (s : State) : Host.Outcome State Fault Refusal :=
  hostWrite src (GTH.page + GTH.PG_CMD) (q.val + 3 * 2 ^ 4) s

/-- KEY_ENTRY_COMMIT: the 8 words of an entry (R381). -/
def execKeyEntryCommit (g : Fin 64) (words : List Word) (src : Src) (s : State) : Host.Outcome State Fault Refusal :=
  hostEntry src (CRYW.KEY g) words s

/-- The words of a key entry with one direction's slot, load bit and salt. -/
def State.keyWords (s : State) (g : Nat) (tx : Bool) (slot salt : Nat) : List Nat :=
  let l := s.entryWords (CRYW.KEY g) 8
  let w1 := l.getD 1 0
  let k := if tx then 0 else 16
  let w1 := withBits (withBits w1 k 9 slot) (15 + k) 1 1
  let i := if tx then 2 else 4
  ((l.set 1 w1).set i (salt / 2 ^ 32)).set (i + 1) (salt % 2 ^ 32)

/-- TX_KEY_LOAD (R361). -/
def execTxKeyLoad (g : Fin 64) (slot : Fin 512) (salt : BitVec 64) (src : Src) (s : State) : Host.Outcome State Fault Refusal :=
  hostWords src (CRYW.KEY g) (s.keyWords g true slot salt.toNat) s

/-- RX_KEY_LOAD (R361). -/
def execRxKeyLoad (g : Fin 64) (slot : Fin 512) (salt : BitVec 64) (src : Src) (s : State) : Host.Outcome State Fault Refusal :=
  hostWords src (CRYW.KEY g) (s.keyWords g false slot salt.toNat) s

/-- SWITCH_TX (R367). -/
def execSwitchTx (g : Fin 64) (src : Src) (s : State) : Host.Outcome State Fault Refusal :=
  hostWrite src (CRY.page + CRY.CMD) (g.val + 2 ^ 8) s

/-- RX_RESYNC (R369). -/
def execRxResync (g : Fin 64) (src : Src) (s : State) : Host.Outcome State Fault Refusal :=
  hostWrite src (CRY.page + CRY.CMD) (g.val + 2 * 2 ^ 8) s

/-- CRY_SELF_TEST (R378). -/
def execCrySelfTest (src : Src) (s : State) : Host.Outcome State Fault Refusal :=
  hostField src CRY.page CRY.CMD_SELF_TEST 1 s

/-- AGREE_START (R375). -/
def execAgreeStart (g : Fin 64) (src : Src) (s : State) : Host.Outcome State Fault Refusal :=
  hostWrite src (CRY.page + CRY.AGREE_CMD) (g.val + 2 ^ 8) s

/-- AGREE_ABORT (R377). -/
def execAgreeAbort (src : Src) (s : State) : Host.Outcome State Fault Refusal :=
  hostField src CRY.page CRY.AGREE_CMD_ABORT 1 s

/-! ### Chapters 12 to 14: CLS, MTR, QMG, SHP, FBL, FBR -/

/-- CACHE_FLUSH (R400). -/
def execCacheFlush (src : Src) (s : State) : Host.Outcome State Fault Refusal :=
  hostField src CLS.page CLS.CMD_CACHE_FLUSH 1 s

/-- METER_COMMIT: the 8 words of an entry (R417). -/
def execMeterCommit (m : Fin 266240) (words : List Word) (src : Src) (s : State) : Host.Outcome State Fault Refusal :=
  hostEntry src (MTRW.M m) words s

/-- QUEUE_ENTRY_COMMIT (R431). -/
def execQueueEntryCommit (q : Fin 1048576) (profile : Fin 64) (en : Bool) (src : Src) (s : State) :
    Host.Outcome State Fault Refusal :=
  hostWords src (QMGW.Q q) [profile.val + b2n en * 2 ^ 8, 0, 0, 0] s

/-- SHAPER_COMMIT: the 4 words of an entry (R424). -/
def execShaperCommit (x : ShaperSel) (words : List Word) (src : Src) (s : State) : Host.Outcome State Fault Refusal :=
  hostEntry src (shaperAddr x) words s

/-- CLEAR_DEBT: the entry as it stands, with CLEAR_DEBT (R425). -/
def execClearDebt (x : ShaperSel) (src : Src) (s : State) : Host.Outcome State Fault Refusal :=
  hostWords src (shaperAddr x) ((s.entryWords (shaperAddr x) 3) ++ [setBit (s.nat (shaperAddr x + 12)) 0]) s

/-- FBL_RETRAIN (R443). -/
def execFblRetrain (k : Fin 8) (src : Src) (s : State) : Host.Outcome State Fault Refusal :=
  hostField src (FBL.page k) FBL.CMD_RETRAIN 1 s

/-- ROUTE_APPLY (R461). -/
def execRouteApply (src : Src) (s : State) : Host.Outcome State Fault Refusal :=
  hostField src FBR.page FBR.ROUTE_CTRL_APPLY 1 s

/-- ROUTE_ENTRY_COMMIT: the 4 words of an entry (R461). -/
def execRouteEntryCommit (e : Fin 1024) (words : List Word) (src : Src) (s : State) : Host.Outcome State Fault Refusal :=
  hostEntry src (FBRW.ROUTE e) words s

/-! ### Chapters 15 to 18: TIM, ECC, PWR, HKA -/

/-- DPLL_MODE_WRITE: a write of DCTRL (R474). -/
def execDpllModeWrite (d : Fin 2) (v : BitVec 32) (src : Src) (s : State) : Host.Outcome State Fault Refusal :=
  hostWrite src (TIM.page + TIM.DCTRL d) v.toNat s

/-- PHASE_STEP (R479). -/
def execPhaseStep (d : Fin 2) (ps : BitVec 32) (src : Src) (s : State) : Host.Outcome State Fault Refusal :=
  hostWrite src (TIM.page + TIM.PHASE_STEP d) ps.toNat s

/-- SLOT_CFG_WRITE (R469). -/
def execSlotCfgWrite (slot : Fin 16) (v : BitVec 32) (src : Src) (s : State) : Host.Outcome State Fault Refusal :=
  hostWrite src (TIM.page + TIM.SLOT_CFG slot) v.toNat s

/-- CLKOUT_CHANGE: a write of an output's frequency, or of its configuration (R482). -/
def execClkoutChange (i : Fin 4) (freq : Bool) (v : BitVec 32) (src : Src) (s : State) : Host.Outcome State Fault Refusal :=
  hostWrite src (TIM.page + (if freq then TIM.CLKOUT_FREQ i else TIM.CLKOUT_CFG i)) v.toNat s

/-- PPSOUT_ALIGN (R484). -/
def execPpsoutAlign (a0 : Bool) (a1 : Bool) (src : Src) (s : State) : Host.Outcome State Fault Refusal :=
  hostWrite src (TIM.page + TIM.CMD) (b2n a0 + 2 * b2n a1) s

/-- PPSOUT_ENABLE: a write of PPSOUT_CFG (R484). -/
def execPpsoutEnable (j : Fin 2) (v : BitVec 32) (src : Src) (s : State) : Host.Outcome State Fault Refusal :=
  hostWrite src (TIM.page + TIM.PPSOUT_CFG j) v.toNat s

/-- RAW_WINDOW_WRITE (R514). -/
def execRawWindowWrite (i : Fin 512) (v : BitVec 32) (src : Src) (s : State) : Host.Outcome State Fault Refusal :=
  hostWrite src (ECCW.RAW i) v.toNat s

/-- BUDGET_WRITE (R518). -/
def execBudgetWrite (mw : BitVec 32) (src : Src) (s : State) : Host.Outcome State Fault Refusal :=
  hostWrite src (PWR.page + PWR.BUDGET) mw.toNat s

/-- STANDING_BASE_WRITE (R519). -/
def execStandingBaseWrite (mw : BitVec 32) (src : Src) (s : State) : Host.Outcome State Fault Refusal :=
  hostWrite src (PWR.page + PWR.STANDING_BASE) mw.toNat s

/-- SCAN_START (R545). -/
def execScanStart (src : Src) (s : State) : Host.Outcome State Fault Refusal :=
  hostField src HKA.page HKA.CMD_SCAN_START 1 s

/-- SCAN_STOP (R548). -/
def execScanStop (src : Src) (s : State) : Host.Outcome State Fault Refusal :=
  hostField src HKA.page HKA.CMD_SCAN_STOP 1 s

/-- HKA_CAL (R549). -/
def execHkaCal (src : Src) (s : State) : Host.Outcome State Fault Refusal :=
  hostField src HKA.page HKA.CMD_CAL 1 s

/-! ### Chapter 19: events -/

/-- FLT_ACK (R555). -/
def execFltAck (page : Fin 128) (index : Fin 128) (src : Src) (s : State) : Host.Outcome State Fault Refusal :=
  hostWrite src (FLT.page + FLT.ACK) (page.val + index.val * 2 ^ 8) s

/-- EVT_STICKY_CLEAR (R555). -/
def execEvtStickyClear (page : Fin 128) (w : Fin 4) (bits : BitVec 32) (src : Src) (s : State) :
    Host.Outcome State Fault Refusal :=
  hostWrite src (pageBase page + HDR.EVT_STICKY w) bits.toNat s

/-- EVT_CLASS_WRITE (R555). -/
def execEvtClassWrite (page : Fin 128) (w : Fin 8) (value : BitVec 32) (src : Src) (s : State) :
    Host.Outcome State Fault Refusal :=
  hostWrite src (pageBase page + HDR.EVT_CLASS w) value.toNat s

/-- GRACE_MS_WRITE (R556). -/
def execGraceMsWrite (page : Fin 128) (ms : BitVec 14) (src : Src) (s : State) : Host.Outcome State Fault Refusal :=
  hostField src (pageBase page) HDR.GRACE_MS ms.toNat s

/-- QUIET_S_WRITE (R562). -/
def execQuietSWrite (page : Fin 128) (seconds : BitVec 12) (src : Src) (s : State) : Host.Outcome State Fault Refusal :=
  hostField src (pageBase page) HDR.QUIET_S seconds.toNat s

/-- FORCE_ALARM_WRITE (R563). -/
def execForceAlarmWrite (on : Bool) (src : Src) (s : State) : Host.Outcome State Fault Refusal :=
  hostField src FLT.page FLT.CTRL_FORCE_ALARM (b2n on) s

/-! ### Chapter 20: SEC -/

/-- ATTEST_START (R572). -/
def execAttestStart (src : Src) (s : State) : Host.Outcome State Fault Refusal :=
  hostField src SEC.page SEC.ATTEST_CMD_START 1 s

/-- AUTH_ADD (R573). -/
def execAuthAdd (index : Fin 8) (src : Src) (s : State) : Host.Outcome State Fault Refusal :=
  hostWrite src (SEC.page + SEC.AUTH_CMD) (index.val + 2 ^ 4) s

/-- AUTH_REMOVE (R573). -/
def execAuthRemove (index : Fin 8) (src : Src) (s : State) : Host.Outcome State Fault Refusal :=
  hostWrite src (SEC.page + SEC.AUTH_CMD) (index.val + 2 ^ 5) s

/-- PEER_ADD (R575). -/
def execPeerAdd (index : Fin 64) (src : Src) (s : State) : Host.Outcome State Fault Refusal :=
  hostWrite src (SEC.page + SEC.PEER_CMD) (index.val + 2 ^ 8) s

/-- PEER_REMOVE (R575). -/
def execPeerRemove (index : Fin 64) (src : Src) (s : State) : Host.Outcome State Fault Refusal :=
  hostWrite src (SEC.page + SEC.PEER_CMD) (index.val + 2 ^ 9) s

/-- KS_LOAD_KEK (R577). -/
def execKsLoadKek (ty : Bool) (src : Src) (s : State) : Host.Outcome State Fault Refusal :=
  hostWrite src (SEC.page + SEC.KS_CMD) (1 * 2 ^ 12 + b2n ty * 2 ^ 16) s

/-- KS_IMPORT (R577). -/
def execKsImport (slot : Fin 512) (ty : Bool) (src : Src) (s : State) : Host.Outcome State Fault Refusal :=
  hostWrite src (SEC.page + SEC.KS_CMD) (slot.val + 2 * 2 ^ 12 + b2n ty * 2 ^ 16) s

/-- KS_CLEAR (R577). -/
def execKsClear (slot : Fin 512) (src : Src) (s : State) : Host.Outcome State Fault Refusal :=
  hostWrite src (SEC.page + SEC.KS_CMD) (slot.val + 3 * 2 ^ 12) s

/-- GUARD_POLICY_WRITE (R582). -/
def execGuardPolicyWrite (policy : BitVec 32) (src : Src) (s : State) : Host.Outcome State Fault Refusal :=
  hostWrite src (SEC.page + SEC.GUARD_POLICY) policy.toNat s

/-- GUARD_SELFTEST (R583). -/
def execGuardSelftest (src : Src) (s : State) : Host.Outcome State Fault Refusal :=
  hostField src SEC.page SEC.GUARD_CMD_SELFTEST 1 s

/-- DEBUG_LOCK_SET (R584). -/
def execDebugLockSet (src : Src) (s : State) : Host.Outcome State Fault Refusal :=
  hostField src SEC.page SEC.DEBUG_LOCKED 1 s

/-- DEBUG_OPEN (R585). -/
def execDebugOpen (key : BitVec 16) (src : Src) (s : State) : Host.Outcome State Fault Refusal :=
  hostWrite src (SEC.page + SEC.DEBUG_CMD) (1 + key.toNat * 2 ^ 16) s

/-- FR_CHALLENGE (R586). -/
def execFrChallenge (mode : Fin 4) (src : Src) (s : State) : Host.Outcome State Fault Refusal :=
  hostWrite src (SEC.page + SEC.FR_CMD) (1 + mode.val * 2 ^ 8) s

/-- FR_ENTER: `sigOk` says whether the signature verifies (R586). -/
def execFrEnter (mode : Fin 4) (sigOk : Bool) (src : Src) (s : State) : Host.Outcome State Fault Refusal :=
  act s fun s =>
    let hint := fun (h : Option Bool) (t : State) => { t with sec := { t.sec with sigHint := h } }
    let v := 2 + mode.val * 2 ^ 8
    match src with
    | .rap h => hint none ((hint (some sigOk) s).request h (.write (BitVec.ofNat 32 (SEC.page + SEC.FR_CMD)) (BitVec.ofNat 32 v)))
    | .core c => if s.coreRuns c then hint none ((hint (some sigOk) s).writeAt src none (SEC.page + SEC.FR_CMD) v).st else s

/-! ### Chapters 21 and 22: CPU, RPR -/

/-- USER_ENABLE (R595). -/
def execUserEnable (src : Src) (s : State) : Host.Outcome State Fault Refusal :=
  hostField src CPU.page CPU.CTRL_USER_EN 1 s

/-- USER_DISABLE (R595). -/
def execUserDisable (src : Src) (s : State) : Host.Outcome State Fault Refusal :=
  hostField src CPU.page CPU.CTRL_USER_EN 0 s

/-- PMU_CLEAR (R602). -/
def execPmuClear (core : Fin 8) (all : Bool) (src : Src) (s : State) : Host.Outcome State Fault Refusal :=
  hostWrite src (CPU.page + CPU.CMD) (1 + core.val * 2 ^ 8 + b2n all * 2 ^ 12) s

/-- FREEZE_ALL_WRITE (R602). -/
def execFreezeAllWrite (on : Bool) (src : Src) (s : State) : Host.Outcome State Fault Refusal :=
  hostField src CPU.page CPU.CTRL_FREEZE_ALL (b2n on) s

/-- SWEEP_NOW (R610). -/
def execSweepNow (src : Src) (s : State) : Host.Outcome State Fault Refusal :=
  hostField src RPR.page RPR.CMD_SWEEP_NOW 1 s

/-- MEM_BIST (R613). -/
def execMemBist (channel : Fin 16) (src : Src) (s : State) : Host.Outcome State Fault Refusal :=
  hostWrite src (RPR.page + RPR.CMD) (2 + channel.val * 2 ^ 4) s

/-- REPAIR_ENTRY_CLEAR (R609). -/
def execRepairEntryClear (entry : Fin 2048) (src : Src) (s : State) : Host.Outcome State Fault Refusal :=
  hostWrite src (RPR.page + RPR.CMD) (4 + entry.val * 2 ^ 16) s

end Sys2Proof.Machine
end

