-- ==== Sys2Proof/Machine/Dispatch.lean ====
section
/-!
DEFINITION. One arm per command: each calls the meaning of its row.
-/
namespace Sys2Proof.Machine

/-- The effect of a command on everything but the queue. -/
def exec (i : Instr) (s : State) : Host.Outcome State Fault Refusal :=
  match i with
  | .deviceResetRelease => Sys2Proof.Machine.execDeviceResetRelease s
  | .deviceResetEntry pwrgood resetN finish low => Sys2Proof.Machine.execDeviceResetEntry pwrgood resetN finish low s
  | .strapsSampled straps => Sys2Proof.Machine.execStrapsSampled straps s
  | .rootPllLocked => Sys2Proof.Machine.execRootPllLocked s
  | .rootUnlock => Sys2Proof.Machine.execRootUnlock s
  | .nvLoaded colophon mapOk => Sys2Proof.Machine.execNvLoaded colophon mapOk s
  | .sramDone repairs withheld rows cols => Sys2Proof.Machine.execSramDone repairs withheld rows cols s
  | .gddr7TrainingDone failed => Sys2Proof.Machine.execGddr7TrainingDone failed s
  | .loaderOk copyA copyB => Sys2Proof.Machine.execLoaderOk copyA copyB s
  | .rapUp => Sys2Proof.Machine.execRapUp s
  | .clientSerdesLocked => Sys2Proof.Machine.execClientSerdesLocked s
  | .fwVerify good version => Sys2Proof.Machine.execFwVerify good version s
  | .ready power => Sys2Proof.Machine.execReady power s
  | .warmReset key src => Sys2Proof.Machine.execWarmReset key src s
  | .warmResetStart => Sys2Proof.Machine.execWarmResetStart s
  | .carrierUp n src => Sys2Proof.Machine.execCarrierUp n src s
  | .carrierDown n src => Sys2Proof.Machine.execCarrierDown n src s
  | .carrierUpComplete n => Sys2Proof.Machine.execCarrierUpComplete n s
  | .fabricOpen src => Sys2Proof.Machine.execFabricOpen src s
  | .blockEnable page src => Sys2Proof.Machine.execBlockEnable page src s
  | .blockDisable page src => Sys2Proof.Machine.execBlockDisable page src s
  | .blockSoftReset page src => Sys2Proof.Machine.execBlockSoftReset page src s
  | .softResetComplete page => Sys2Proof.Machine.execSoftResetComplete page s
  | .stateReqActive page src => Sys2Proof.Machine.execStateReqActive page src s
  | .stateReqDrain page src => Sys2Proof.Machine.execStateReqDrain page src s
  | .stateReqConfig page src => Sys2Proof.Machine.execStateReqConfig page src s
  | .drainEnd page => Sys2Proof.Machine.execDrainEnd page s
  | .registerWrite addr value src => Sys2Proof.Machine.execRegisterWrite addr value src s
  | .rapInvalidFrame via why => Sys2Proof.Machine.execRapInvalidFrame via why s
  | .hello via tag min max => Sys2Proof.Machine.execHello via tag min max s
  | .sessionInit via tag identity key authority sigOk => Sys2Proof.Machine.execSessionInit via tag identity key authority sigOk s
  | .sessionConfirm via tag slot good => Sys2Proof.Machine.execSessionConfirm via tag slot good s
  | .sessionClose h => Sys2Proof.Machine.execSessionClose h s
  | .nop h => Sys2Proof.Machine.execNop h s
  | .read h addr => Sys2Proof.Machine.execRead h addr s
  | .write h addr value => Sys2Proof.Machine.execWrite h addr value s
  | .modify h addr mask value => Sys2Proof.Machine.execModify h addr mask value s
  | .bulkWrite h addr count words => Sys2Proof.Machine.execBulkWrite h addr count words s
  | .bulkRead h addr count => Sys2Proof.Machine.execBulkRead h addr count s
  | .fill h addr count pattern => Sys2Proof.Machine.execFill h addr count pattern s
  | .fillComplete written => Sys2Proof.Machine.execFillComplete written s
  | .imagePush h offset bytes => Sys2Proof.Machine.execImagePush h offset bytes s
  | .imageCommit h length => Sys2Proof.Machine.execImageCommit h length s
  | .imageVerified good ty version record => Sys2Proof.Machine.execImageVerified good ty version record s
  | .evtSubscribe h pages classes => Sys2Proof.Machine.execEvtSubscribe h pages classes s
  | .evtAck h page index => Sys2Proof.Machine.execEvtAck h page index s
  | .sessionIdleTimeout slot idle => Sys2Proof.Machine.execSessionIdleTimeout slot idle s
  | .responseRetentionExpiry slot tag => Sys2Proof.Machine.execResponseRetentionExpiry slot tag s
  | .neighborSolicitation addr => Sys2Proof.Machine.execNeighborSolicitation addr s
  | .icmpv6Echo addr => Sys2Proof.Machine.execIcmpv6Echo addr s
  | .encapModeWrite ipv6 src => Sys2Proof.Machine.execEncapModeWrite ipv6 src s
  | .mgtLinkDown => Sys2Proof.Machine.execMgtLinkDown s
  | .mgtLinkUp => Sys2Proof.Machine.execMgtLinkUp s
  | .linePllLocked n => Sys2Proof.Machine.execLinePllLocked n s
  | .linePllUnlock n => Sys2Proof.Machine.execLinePllUnlock n s
  | .sigOkChange n ok => Sys2Proof.Machine.execSigOkChange n ok s
  | .calPeriodEnd n adc dac spares => Sys2Proof.Machine.execCalPeriodEnd n adc dac spares s
  | .calGutterCommit n tx gap => Sys2Proof.Machine.execCalGutterCommit n tx gap s
  | .spareSwapCommit n => Sys2Proof.Machine.execSpareSwapCommit n s
  | .sparePrecalTimeout n => Sys2Proof.Machine.execSparePrecalTimeout n s
  | .calFull n src => Sys2Proof.Machine.execCalFull n src s
  | .fullCalDone n obsFail => Sys2Proof.Machine.execFullCalDone n obsFail s
  | .calSwap n conv pos src => Sys2Proof.Machine.execCalSwap n conv pos src s
  | .calAbortSpare n src => Sys2Proof.Machine.execCalAbortSpare n src s
  | .calTargetWrite n entry target src => Sys2Proof.Machine.execCalTargetWrite n entry target src s
  | .d2dLaneFail n toCore lane => Sys2Proof.Machine.execD2dLaneFail n toCore lane s
  | .d2dLaneExchange n toCore => Sys2Proof.Machine.execD2dLaneExchange n toCore s
  | .rxLosDeclare n level => Sys2Proof.Machine.execRxLosDeclare n level s
  | .rxLosClear n level => Sys2Proof.Machine.execRxLosClear n level s
  | .waitSignalExit n inst => Sys2Proof.Machine.execWaitSignalExit n inst s
  | .cdTrial n inst metric => Sys2Proof.Machine.execCdTrial n inst metric s
  | .freqAcqEstimate n inst residual => Sys2Proof.Machine.execFreqAcqEstimate n inst residual s
  | .freqAcqTimeout n inst => Sys2Proof.Machine.execFreqAcqTimeout n inst s
  | .eqBlockUpdate n inst adc => Sys2Proof.Machine.execEqBlockUpdate n inst adc s
  | .eqBlindTimeout n inst => Sys2Proof.Machine.execEqBlindTimeout n inst s
  | .rxGutterCorrelate n inst pos found swapped low pilotOk snrOk quireErr => Sys2Proof.Machine.execRxGutterCorrelate n inst pos found swapped low pilotOk snrOk quireErr s
  | .gutterSearchTimeout n inst => Sys2Proof.Machine.execGutterSearchTimeout n inst s
  | .acqTrainTimeout n inst => Sys2Proof.Machine.execAcqTrainTimeout n inst s
  | .freqCaptureLoss n inst => Sys2Proof.Machine.execFreqCaptureLoss n inst s
  | .acqRestart n subc src => Sys2Proof.Machine.execAcqRestart n subc src s
  | .rxdSnap n subc src => Sys2Proof.Machine.execRxdSnap n subc src s
  | .cdMemClear n src => Sys2Proof.Machine.execCdMemClear n src s
  | .fbZero n src => Sys2Proof.Machine.execFbZero n src s
  | .laserFbUpdate n f => Sys2Proof.Machine.execLaserFbUpdate n f s
  | .fbResponseCheck n f => Sys2Proof.Machine.execFbResponseCheck n f s
  | .nlcRequest n src => Sys2Proof.Machine.execNlcRequest n src s
  | .nlcStopRequest n src => Sys2Proof.Machine.execNlcStopRequest n src s
  | .nlcGutterStart n => Sys2Proof.Machine.execNlcGutterStart n s
  | .nlcLeaveEnd n => Sys2Proof.Machine.execNlcLeaveEnd n s
  | .measPeriodEnd n => Sys2Proof.Machine.execMeasPeriodEnd n s
  | .sopBoostStart n => Sys2Proof.Machine.execSopBoostStart n s
  | .sopBoostEnd n => Sys2Proof.Machine.execSopBoostEnd n s
  | .phaseJump n inst => Sys2Proof.Machine.execPhaseJump n inst s
  | .deskewStep n d0 d1 d2 d3 => Sys2Proof.Machine.execDeskewStep n d0 d1 d2 d3 s
  | .cdFilterMove n inst => Sys2Proof.Machine.execCdFilterMove n inst s
  | .sliceFail n slice errs => Sys2Proof.Machine.execSliceFail n slice errs s
  | .sliceHandover n => Sys2Proof.Machine.execSliceHandover n s
  | .sliceShadowError n errs => Sys2Proof.Machine.execSliceShadowError n errs s
  | .txFolioMap n => Sys2Proof.Machine.execTxFolioMap n s
  | .unmuteStart n ready => Sys2Proof.Machine.execUnmuteStart n ready s
  | .laserReadyTimeout n => Sys2Proof.Machine.execLaserReadyTimeout n s
  | .outputRampDone n => Sys2Proof.Machine.execOutputRampDone n s
  | .txMuteWrite n mute src => Sys2Proof.Machine.execTxMuteWrite n mute src s
  | .optFaultChange n active => Sys2Proof.Machine.execOptFaultChange n active s
  | .optFaultHoldoffExpiry n => Sys2Proof.Machine.execOptFaultHoldoffExpiry n s
  | .faultEnWrite n on src => Sys2Proof.Machine.execFaultEnWrite n on src s
  | .maskCheck n m src => Sys2Proof.Machine.execMaskCheck n m src s
  | .maskCheckDone n m => Sys2Proof.Machine.execMaskCheckDone n m s
  | .maskApply n m src => Sys2Proof.Machine.execMaskApply n m src s
  | .maskBankExchange n m => Sys2Proof.Machine.execMaskBankExchange n m s
  | .maskLiveMeasure n m => Sys2Proof.Machine.execMaskLiveMeasure n m s
  | .cdPreTargetWrite n target src => Sys2Proof.Machine.execCdPreTargetWrite n target src s
  | .cdPreMove n => Sys2Proof.Machine.execCdPreMove n s
  | .txSkewStep n carriesChange => Sys2Proof.Machine.execTxSkewStep n carriesChange s
  | .clipCheck n => Sys2Proof.Machine.execClipCheck n s
  | .ocpSpiTx n word src => Sys2Proof.Machine.execOcpSpiTx n word src s
  | .ocpSpiTransferDone n rx => Sys2Proof.Machine.execOcpSpiTransferDone n rx s
  | .schedCheck n src => Sys2Proof.Machine.execSchedCheck n src s
  | .schedApply n src => Sys2Proof.Machine.execSchedApply n src s
  | .schedSwitch n => Sys2Proof.Machine.execSchedSwitch n s
  | .burstMapFill n f => Sys2Proof.Machine.execBurstMapFill n f s
  | .burstMapDecode n f entries => Sys2Proof.Machine.execBurstMapDecode n f entries s
  | .quietWindowOpen n opens => Sys2Proof.Machine.execQuietWindowOpen n opens s
  | .joinDecision n inst record => Sys2Proof.Machine.execJoinDecision n inst record s
  | .leafListedWrite n leaf listed src => Sys2Proof.Machine.execLeafListedWrite n leaf listed src s
  | .leafDeregister n leaf src => Sys2Proof.Machine.execLeafDeregister n leaf src s
  | .upOwnerWrite n inst owner src => Sys2Proof.Machine.execUpOwnerWrite n inst owner src s
  | .leafJoinStart n => Sys2Proof.Machine.execLeafJoinStart n s
  | .leafReplyTimeout n => Sys2Proof.Machine.execLeafReplyTimeout n s
  | .leafFirstBurst n => Sys2Proof.Machine.execLeafFirstBurst n s
  | .leafHoldEntry n => Sys2Proof.Machine.execLeafHoldEntry n s
  | .leafHoldTimeout n => Sys2Proof.Machine.execLeafHoldTimeout n s
  | .burstStateLoad n inst leaf => Sys2Proof.Machine.execBurstStateLoad n inst leaf s
  | .burstDetection n inst peakA peakB => Sys2Proof.Machine.execBurstDetection n inst peakA peakB s
  | .burstSyncLatch n inst j off metric folio rssi snr freq arrival cd adc => Sys2Proof.Machine.execBurstSyncLatch n inst j off metric folio rssi snr freq arrival cd adc s
  | .burstNoSync n inst => Sys2Proof.Machine.execBurstNoSync n inst s
  | .burstRampDown n inst => Sys2Proof.Machine.execBurstRampDown n inst s
  | .burstVerdict n inst => Sys2Proof.Machine.execBurstVerdict n inst s
  | .burstWindowMissing n inst leaf folio => Sys2Proof.Machine.execBurstWindowMissing n inst leaf folio s
  | .windowLost n => Sys2Proof.Machine.execWindowLost n s
  | .fecEncode n stream => Sys2Proof.Machine.execFecEncode n stream s
  | .codewordDecode n stream => Sys2Proof.Machine.execCodewordDecode n stream s
  | .bchDecode n stream => Sys2Proof.Machine.execBchDecode n stream s
  | .lateCodeword n stream iters => Sys2Proof.Machine.execLateCodeword n stream iters s
  | .engineShadowCheck n mismatch activePass sparePass => Sys2Proof.Machine.execEngineShadowCheck n mismatch activePass sparePass s
  | .engineSpareJoin n refPass => Sys2Proof.Machine.execEngineSpareJoin n refPass s
  | .imaxWrite n imax src => Sys2Proof.Machine.execImaxWrite n imax src s
  | .histClear n src => Sys2Proof.Machine.execHistClear n src s
  | .folioRx n inst => Sys2Proof.Machine.execFolioRx n inst s
  | .alignRestart n src => Sys2Proof.Machine.execAlignRestart n src s
  | .hbSnap n src => Sys2Proof.Machine.execHbSnap n src s
  | .folioTx n core => Sys2Proof.Machine.execFolioTx n core s
  | .sdSecond n inst => Sys2Proof.Machine.execSdSecond n inst s
  | .burstSpineCheck n inst => Sys2Proof.Machine.execBurstSpineCheck n inst s
  | .ospExtractUnit n mc1 => Sys2Proof.Machine.execOspExtractUnit n mc1 s
  | .ospInsertUnit p unit cut => Sys2Proof.Machine.execOspInsertUnit p unit cut s
  | .pmbSecondEnd => Sys2Proof.Machine.execPmbSecondEnd s
  | .pmbSecondFinal => Sys2Proof.Machine.execPmbSecondFinal s
  | .epRecordFlush e lost => Sys2Proof.Machine.execEpRecordFlush e lost s
  | .alignOffsetWrite offset src => Sys2Proof.Machine.execAlignOffsetWrite offset src s
  | .gatheringCommit g words src => Sys2Proof.Machine.execGatheringCommit g words src s
  | .gthTxUnit g => Sys2Proof.Machine.execGthTxUnit g s
  | .gatheringMarkerRx g p => Sys2Proof.Machine.execGatheringMarkerRx g p s
  | .unitOutput g => Sys2Proof.Machine.execUnitOutput g s
  | .gthRecollate g src => Sys2Proof.Machine.execGthRecollate g src s
  | .selClear g src => Sys2Proof.Machine.execSelClear g src s
  | .selManualA g src => Sys2Proof.Machine.execSelManualA g src s
  | .selManualB g src => Sys2Proof.Machine.execSelManualB g src s
  | .selForceA g src => Sys2Proof.Machine.execSelForceA g src s
  | .selForceB g src => Sys2Proof.Machine.execSelForceB g src s
  | .pgCfgWrite q v src => Sys2Proof.Machine.execPgCfgWrite q v src s
  | .pgClear q src => Sys2Proof.Machine.execPgClear q src s
  | .pgLockout q src => Sys2Proof.Machine.execPgLockout q src s
  | .pgForce q src => Sys2Proof.Machine.execPgForce q src s
  | .pgManual q src => Sys2Proof.Machine.execPgManual q src s
  | .pgHoldOffExpiry q isP => Sys2Proof.Machine.execPgHoldOffExpiry q isP s
  | .pgWtrExpiry q => Sys2Proof.Machine.execPgWtrExpiry q s
  | .pgFop q => Sys2Proof.Machine.execPgFop q s
  | .cryTxUnit g => Sys2Proof.Machine.execCryTxUnit g s
  | .cryRxUnit g okSel okOther left => Sys2Proof.Machine.execCryRxUnit g okSel okOther left s
  | .keyEntryCommit g words src => Sys2Proof.Machine.execKeyEntryCommit g words src s
  | .txKeyLoad g slot salt src => Sys2Proof.Machine.execTxKeyLoad g slot salt src s
  | .rxKeyLoad g slot salt src => Sys2Proof.Machine.execRxKeyLoad g slot salt src s
  | .keyLoadDone g tx served => Sys2Proof.Machine.execKeyLoadDone g tx served s
  | .switchTx g src => Sys2Proof.Machine.execSwitchTx g src s
  | .rxResync g src => Sys2Proof.Machine.execRxResync g src s
  | .crySelfTest src => Sys2Proof.Machine.execCrySelfTest src s
  | .crySelfTestDone pass => Sys2Proof.Machine.execCrySelfTestDone pass s
  | .agreeStart g src => Sys2Proof.Machine.execAgreeStart g src s
  | .agreeAbort src => Sys2Proof.Machine.execAgreeAbort src s
  | .agreeA1Rx n pos identity sigOk => Sys2Proof.Machine.execAgreeA1Rx n pos identity sigOk s
  | .agreeA2Rx identity sigOk confOk => Sys2Proof.Machine.execAgreeA2Rx identity sigOk confOk s
  | .agreeA3Rx confOk => Sys2Proof.Machine.execAgreeA3Rx confOk s
  | .agreeAbortRx => Sys2Proof.Machine.execAgreeAbortRx s
  | .agreeTimeout => Sys2Proof.Machine.execAgreeTimeout s
  | .agreeKeysStored => Sys2Proof.Machine.execAgreeKeysStored s
  | .clientLaneStatus l sigDet cdrLock pcs hiSer snr errs corrCw uncorrCw corrSym => Sys2Proof.Machine.execClientLaneStatus l sigDet cdrLock pcs hiSer snr errs corrCw uncorrCw corrSym s
  | .laneAdaptDone l => Sys2Proof.Machine.execLaneAdaptDone l s
  | .portFrameRx p f bw => Sys2Proof.Machine.execPortFrameRx p f bw s
  | .missLookupDone ue bw => Sys2Proof.Machine.execMissLookupDone ue bw s
  | .signatureBuildDone => Sys2Proof.Machine.execSignatureBuildDone s
  | .cacheFlush src => Sys2Proof.Machine.execCacheFlush src s
  | .pcsFaultRx p lf rf => Sys2Proof.Machine.execPcsFaultRx p lf rf s
  | .transparentMapUnit p arrived => Sys2Proof.Machine.execTransparentMapUnit p arrived s
  | .demapUnit p sent => Sys2Proof.Machine.execDemapUnit p sent s
  | .meterCommit m words src => Sys2Proof.Machine.execMeterCommit m words src s
  | .queueEntryCommit q profile en src => Sys2Proof.Machine.execQueueEntryCommit q profile en src s
  | .shaperCommit x words src => Sys2Proof.Machine.execShaperCommit x words src s
  | .clearDebt x src => Sys2Proof.Machine.execClearDebt x src s
  | .shaperWheelSlot x => Sys2Proof.Machine.execShaperWheelSlot x s
  | .frameDequeue dest full noRoom => Sys2Proof.Machine.execFrameDequeue dest full noRoom s
  | .stagingPageWrite q page => Sys2Proof.Machine.execStagingPageWrite q page s
  | .egressFifoXoff p => Sys2Proof.Machine.execEgressFifoXoff p s
  | .egressFifoXon p => Sys2Proof.Machine.execEgressFifoXon p s
  | .frameReassembly src cls full noRoom => Sys2Proof.Machine.execFrameReassembly src cls full noRoom s
  | .fabricTrainStart k => Sys2Proof.Machine.execFabricTrainStart k s
  | .ctleSweepDone k l foms => Sys2Proof.Machine.execCtleSweepDone k l foms s
  | .linkTrainTimeout k => Sys2Proof.Machine.execLinkTrainTimeout k s
  | .backoffExpiry k => Sys2Proof.Machine.execBackoffExpiry k s
  | .negotiateTimeout k => Sys2Proof.Machine.execNegotiateTimeout k s
  | .laneFrameRx k l word bad0 bad1 cells => Sys2Proof.Machine.execLaneFrameRx k l word bad0 bad1 cells s
  | .laneFail k l sigDet cdrLock => Sys2Proof.Machine.execLaneFail k l sigDet cdrLock s
  | .laneRestore k l => Sys2Proof.Machine.execLaneRestore k l s
  | .ditherTrial k l fom => Sys2Proof.Machine.execDitherTrial k l fom s
  | .fomRefresh k l fom => Sys2Proof.Machine.execFomRefresh k l fom s
  | .fblRetrain k src => Sys2Proof.Machine.execFblRetrain k src s
  | .cellRx m c => Sys2Proof.Machine.execCellRx m c s
  | .helloSend m => Sys2Proof.Machine.execHelloSend m s
  | .helloCellRx m addr ver link ident domain t3 t1 t2 => Sys2Proof.Machine.execHelloCellRx m addr ver link ident domain t3 t1 t2 s
  | .neighbourDead m => Sys2Proof.Machine.execNeighbourDead m s
  | .topoFlood => Sys2Proof.Machine.execTopoFlood s
  | .topoCellRx m addr ident role seq idx cnt links => Sys2Proof.Machine.execTopoCellRx m addr ident role seq idx cnt links s
  | .topoAgeOut addr => Sys2Proof.Machine.execTopoAgeOut addr s
  | .routeCompute => Sys2Proof.Machine.execRouteCompute s
  | .routeApply src => Sys2Proof.Machine.execRouteApply src s
  | .routeEntryCommit e words src => Sys2Proof.Machine.execRouteEntryCommit e words src s
  | .reseqGapTimeout src => Sys2Proof.Machine.execReseqGapTimeout src s
  | .reseqSourceTimeout src => Sys2Proof.Machine.execReseqSourceTimeout src s
  | .pauseCellRx m origin port on seq => Sys2Proof.Machine.execPauseCellRx m origin port on seq s
  | .pauseRefresh p => Sys2Proof.Machine.execPauseRefresh p s
  | .pauseExpiry origin port => Sys2Proof.Machine.execPauseExpiry origin port s
  | .timSecond ys phases c0 c1 e0 e1 => Sys2Proof.Machine.execTimSecond ys phases c0 c1 e0 e1 s
  | .refActivityChange slot active => Sys2Proof.Machine.execRefActivityChange slot active s
  | .ppsinEdge ps => Sys2Proof.Machine.execPpsinEdge ps s
  | .refWtrExpiry slot => Sys2Proof.Machine.execRefWtrExpiry slot s
  | .dpllLock d => Sys2Proof.Machine.execDpllLock d s
  | .dpllLockLost d => Sys2Proof.Machine.execDpllLockLost d s
  | .dpllModeWrite d v src => Sys2Proof.Machine.execDpllModeWrite d v src s
  | .phaseStep d ps src => Sys2Proof.Machine.execPhaseStep d ps src s
  | .slewDone d => Sys2Proof.Machine.execSlewDone d s
  | .lineSteerUpdate offset => Sys2Proof.Machine.execLineSteerUpdate offset s
  | .slotCfgWrite slot v src => Sys2Proof.Machine.execSlotCfgWrite slot v src s
  | .monrefChange good offset => Sys2Proof.Machine.execMonrefChange good offset s
  | .clkoutChange inst freq v src => Sys2Proof.Machine.execClkoutChange inst freq v src s
  | .ppsoutAlign a0 a1 src => Sys2Proof.Machine.execPpsoutAlign a0 a1 src s
  | .ppsoutEnable j v src => Sys2Proof.Machine.execPpsoutEnable j v src s
  | .ppsPulse j => Sys2Proof.Machine.execPpsPulse j s
  | .esmcPduRx slot ql => Sys2Proof.Machine.execEsmcPduRx slot ql s
  | .esmcTimeout slot => Sys2Proof.Machine.execEsmcTimeout slot s
  | .esmcPduSend port event => Sys2Proof.Machine.execEsmcPduSend port event s
  | .gddr7Read page ce => Sys2Proof.Machine.execGddr7Read page ce s
  | .slowPathDone page fixed lost who => Sys2Proof.Machine.execSlowPathDone page fixed lost who s
  | .wholePageWrite page data => Sys2Proof.Machine.execWholePageWrite page data s
  | .readModifyWrite page words ue lost => Sys2Proof.Machine.execReadModifyWrite page words ue lost s
  | .scrubPage ce ue failed => Sys2Proof.Machine.execScrubPage ce ue failed s
  | .memTempRead c temp => Sys2Proof.Machine.execMemTempRead c temp s
  | .memRetrain c first again => Sys2Proof.Machine.execMemRetrain c first again s
  | .channelDeviceFail c => Sys2Proof.Machine.execChannelDeviceFail c s
  | .rawWindowWrite inst v src => Sys2Proof.Machine.execRawWindowWrite inst v src s
  | .leaveRequest op unit steps => Sys2Proof.Machine.execLeaveRequest op unit steps s
  | .leaveGrantQueued => Sys2Proof.Machine.execLeaveGrantQueued s
  | .leaveEnd op unit completed => Sys2Proof.Machine.execLeaveEnd op unit completed s
  | .leaveOverrun op unit => Sys2Proof.Machine.execLeaveOverrun op unit s
  | .budgetWrite mw src => Sys2Proof.Machine.execBudgetWrite mw src s
  | .standingBaseWrite mw src => Sys2Proof.Machine.execStandingBaseWrite mw src s
  | .govPeriod readings => Sys2Proof.Machine.execGovPeriod readings s
  | .avsEval slack ulinear16 commandOk => Sys2Proof.Machine.execAvsEval slack ulinear16 commandOk s
  | .droopTrip detector fall => Sys2Proof.Machine.execDroopTrip detector fall s
  | .droopShedEnd => Sys2Proof.Machine.execDroopShedEnd s
  | .coreGateWindow => Sys2Proof.Machine.execCoreGateWindow s
  | .thmSample temps => Sys2Proof.Machine.execThmSample temps s
  | .scanTimerTick => Sys2Proof.Machine.execScanTimerTick s
  | .scanStart src => Sys2Proof.Machine.execScanStart src s
  | .tipInTrigger droop guard pin => Sys2Proof.Machine.execTipInTrigger droop guard pin s
  | .hkaEntryDone v peak => Sys2Proof.Machine.execHkaEntryDone v peak s
  | .scanStop src => Sys2Proof.Machine.execScanStop src s
  | .hkaCal src => Sys2Proof.Machine.execHkaCal src s
  | .hkaCalDone zeroSum refSum => Sys2Proof.Machine.execHkaCalDone zeroSum refSum s
  | .eventFire page index => Sys2Proof.Machine.execEventFire page index s
  | .graceExpiry page => Sys2Proof.Machine.execGraceExpiry page s
  | .quietExpiry page => Sys2Proof.Machine.execQuietExpiry page s
  | .fltAck page index src => Sys2Proof.Machine.execFltAck page index src s
  | .evtStickyClear page w bits src => Sys2Proof.Machine.execEvtStickyClear page w bits src s
  | .evtClassWrite page w value src => Sys2Proof.Machine.execEvtClassWrite page w value src s
  | .graceMsWrite page ms src => Sys2Proof.Machine.execGraceMsWrite page ms src s
  | .quietSWrite page seconds src => Sys2Proof.Machine.execQuietSWrite page seconds src s
  | .forceAlarmWrite on src => Sys2Proof.Machine.execForceAlarmWrite on src s
  | .nvCommitDone readBack wear => Sys2Proof.Machine.execNvCommitDone readBack wear s
  | .nvScrubPass corrected twice slots user others => Sys2Proof.Machine.execNvScrubPass corrected twice slots user others s
  | .attestStart src => Sys2Proof.Machine.execAttestStart src s
  | .attestComplete signed loader firmware user signature => Sys2Proof.Machine.execAttestComplete signed loader firmware user signature s
  | .authAdd index src => Sys2Proof.Machine.execAuthAdd index src s
  | .authRemove index src => Sys2Proof.Machine.execAuthRemove index src s
  | .peerAdd index src => Sys2Proof.Machine.execPeerAdd index src s
  | .peerRemove index src => Sys2Proof.Machine.execPeerRemove index src s
  | .ksLoadKek ty src => Sys2Proof.Machine.execKsLoadKek ty src s
  | .ksImport slot ty src => Sys2Proof.Machine.execKsImport slot ty src s
  | .ksClear slot src => Sys2Proof.Machine.execKsClear slot src s
  | .ksOperationDone lengthOk verified => Sys2Proof.Machine.execKsOperationDone lengthOk verified s
  | .rngFail => Sys2Proof.Machine.execRngFail s
  | .guardTrip sensors => Sys2Proof.Machine.execGuardTrip sensors s
  | .guardPolicyWrite policy src => Sys2Proof.Machine.execGuardPolicyWrite policy src s
  | .guardSelftest src => Sys2Proof.Machine.execGuardSelftest src s
  | .guardSelftestComplete faults => Sys2Proof.Machine.execGuardSelftestComplete faults s
  | .debugLockSet src => Sys2Proof.Machine.execDebugLockSet src s
  | .debugOpen key src => Sys2Proof.Machine.execDebugOpen key src s
  | .frChallenge mode src => Sys2Proof.Machine.execFrChallenge mode src s
  | .frEnter mode sigOk src => Sys2Proof.Machine.execFrEnter mode sigOk src s
  | .tapInstruction ins => Sys2Proof.Machine.execTapInstruction ins s
  | .fwQuiesceDone => Sys2Proof.Machine.execFwQuiesceDone s
  | .fwRunningReport version => Sys2Proof.Machine.execFwRunningReport version s
  | .fwReplaceTimeout => Sys2Proof.Machine.execFwReplaceTimeout s
  | .coreWatchdog core => Sys2Proof.Machine.execCoreWatchdog core s
  | .userEnable src => Sys2Proof.Machine.execUserEnable src s
  | .userDisable src => Sys2Proof.Machine.execUserDisable src s
  | .userVerifyDone good => Sys2Proof.Machine.execUserVerifyDone good s
  | .pmuClear core all src => Sys2Proof.Machine.execPmuClear core all src s
  | .freezeAllWrite on src => Sys2Proof.Machine.execFreezeAllWrite on src s
  | .pmuSample core counters pc => Sys2Proof.Machine.execPmuSample core counters pc s
  | .sweepPeriod => Sys2Proof.Machine.execSweepPeriod s
  | .sweepNow src => Sys2Proof.Machine.execSweepNow src s
  | .sweepClassDone hits untested losses => Sys2Proof.Machine.execSweepClassDone hits untested losses s
  | .memBist channel src => Sys2Proof.Machine.execMemBist channel src s
  | .memBistDone pass => Sys2Proof.Machine.execMemBistDone pass s
  | .repairEntryClear entry src => Sys2Proof.Machine.execRepairEntryClear entry src s
  | .fabricLaneCdrLock k l => Sys2Proof.Machine.execFabricLaneCdrLock k l s
  | .dedicatedLossTimeout n leaf => Sys2Proof.Machine.execDedicatedLossTimeout n leaf s
  | .quadPllUnlock q => Sys2Proof.Machine.execQuadPllUnlock q s
  | .coreException core => Sys2Proof.Machine.execCoreException core s
  | .scrubStarved scrubber => Sys2Proof.Machine.execScrubStarved scrubber s

end Sys2Proof.Machine
end

