-- ==== Sys2Proof/Machine/Tick.lean ====
section
/-!
DEFINITION. What passes when no command waits: one cycle of CK_SLOW (R23, R43), in which DTIME and the cores' counters go on, the
resident firmware takes its event queue, and the pins of a warm reset follow their times.
-/
namespace Sys2Proof.Machine

/-- Nanoseconds of a cycle of CK_SLOW, 125 MHz (Table 1-5). -/
def slowNs : Nat := 8

/-- A cycle of CK_SLOW with no command. -/
def State.idle (s : State) : State :=
  let s := { s with now := s.now + slowNs }
  if s.inReset then s
  else
    let s := s.dtimeTick slowNs
    if s.boot.shutdown then s
    else
      let s := if s.boot.fwStarted then { s with coreQueue := 0 } else s
      (each (List.range 8) (fun c t => t.coreTick slowNs c) s.warmPins).settle

end Sys2Proof.Machine
end

