-- ==== Sys2Proof/Safety.lean ====
section
/-!
DEFINITION. What a sound state is and what every command keeps, in the terms that claims use: the canonical form of the tables
and of the GDDR7 contents, and the relation between a state and what an operation makes of it.
-/
namespace Sys2Proof.Machine

/-- The tables of registers and windows, of the blocks' parts and of RAP's sessions and requesters, and the GDDR7 contents, in their
canonical form: equal contents are equal data. -/
structure State.Canonical (s : State) : Prop where
  regs : Tab.Canon resetWord s.regs
  pages : Tab.Canon (fun _ => {}) s.pages
  osp : Tab.Canon (fun _ => []) s.osp
  gath : Tab.Canon (fun _ => {}) s.gath
  pg : Tab.Canon (fun _ => {}) s.pg
  cry : Tab.Canon (fun _ => {}) s.cry
  ports : Tab.Canon (fun _ => {}) s.ports
  fbl : Tab.Canon (fun _ => {}) s.fbl
  mem : Memory.wf s.mem
  sessions : Tab.Canon (fun _ => {}) s.rap.sessions
  requesters : Tab.Canon (fun _ => {}) s.rap.requesters

/-- What an operation of the block may make of a state: the commands that wait stay as they are, no time passes, what has
left the part stays sent, free values are only drawn, and the canonical form is kept. -/
structure Evolves (s t : State) : Prop where
  pending : t.pending = s.pending
  now : t.now = s.now
  out : s.out <+: t.out
  freeCtr : s.freeCtr ≤ t.freeCtr
  canonical : s.Canonical → t.Canonical

/-- A command's outcome, where it is a next state, has evolved from a state. -/
def Keeps (s : State) : Host.Outcome State Fault Refusal → Prop
  | .next t => Evolves s t
  | _ => True

/-- A session that has been offered request SEQs one after another, and those of them that it accepted, the latest first (R91). -/
def offered : List Nat → Session × List Nat
  | [] => ({}, [])
  | q :: l =>
    let r := offered l
    match seqAccept r.1 q with
    | none => r
    | some y => (y, q :: r.2)

/-- A state in which a request's frame has been accepted from its session, and its opcode and sender noted (R88, R90, R91, R95). -/
def State.taken (s : State) (h : ReqHdr) (y : Session) (q : Req) : State :=
  (((s.setSession h.slot { y with lastValid := s.now }).heardFrom h.slot h.via.peer).rxFrame).noteReq h (reqOp q)

/-- The part is ready, the frame is for it, the session is open, its SEQ is acceptable, no response is kept for it as a retry and
nothing turns the request away or holds it back: the request executes at the state `t` (R48, R86, R87, R90 to R93, R97, R99, R100,
R592). -/
structure State.Takes (s : State) (h : ReqHdr) (q : Req) (t : State) : Prop where
  running : s.running = true
  up : s.rapUp = true
  ready : s.ready = true
  toMe : s.toMe h.via false = true
  sumOk : h.via.udp = true → h.via.sumOk = true
  opened : (s.session h.slot).stage = .opened
  seq : ∃ y, seqAccept (s.session h.slot) h.seq.toNat = some y ∧ t = s.taken h y q
  fresh : t.keptFor h = none
  fits : t.turnedAway (t.session h.slot).version q = none
  free : t.rap.blocked.contains h.slot.val = false

/-- The word that a write of `v` leaves in the register at `a` (R7, R73). -/
def State.written (s : State) (a v : Nat) : Nat :=
  match placeAt a with
  | some (.reg _ _ _ _ r) => newWord r (s.nat a) v
  | _ => v

/-- The WO bits of the register at `a` read 0 after the write (R73). -/
def State.wrote (s : State) (a : Nat) : State :=
  match placeAt a with
  | some (.reg _ _ _ _ r) => s.stripWo r a
  | _ => s

/-- The state in which a requester's access reaches a block: the requester's snapshot link has ended (R77). -/
def State.reached (s : State) (src : Src) : State := s.unlink src.code

/-- A write of `v` at the register `a` passes every check that comes before the block's own: access, alignment, implementation,
range, CONFIG only (R70, R74 to R76). -/
def State.mayWrite (s : State) (src : Src) (a v : Nat) : Bool :=
  !(s.reached src).writeDenied src a && a % 4 = 0 && (match placeAt a with
    | some (.reg k _ p off r) => r.rw ||| r.wo ||| r.w1s ||| r.w1c != 0 && (s.reached src).inRange k off (s.written a v)
      && !(s.reached src).cfgBarred p r (s.nat a) (s.written a v)
    | _ => false)

/-- A row that is a write of `v` at the register `a` by core `c`: where the core runs, the write passes those checks and the block,
`f`, takes the word it leaves, the row completes with what the block makes of the state. -/
def State.CoreDoes (s : State) (c : Fin 8) (a v : Nat) (i : Instr) (f : Nat → State → WOut) : Prop :=
  s.running = true → s.coreRuns c = true → s.mayWrite (.core c) a v = true →
    (f (s.written a v) (s.reached (.core c))).rej = none →
    exec i s = .next ((f (s.written a v) (s.reached (.core c))).st.wrote a).settle

/-- The same for a session's request, which executes at the state `t`: it is answered, at once or when what it started has ended. -/
def State.SessionDoes (s t : State) (h : ReqHdr) (a v : Nat) (i : Instr) (f : Nat → State → WOut) : Prop :=
  s.Takes h (.write (BitVec.ofNat 32 a) (BitVec.ofNat 32 v)) t → t.mayWrite (.rap h) a v = true →
    (f (t.written a v) (t.reached (.rap h))).rej = none →
    exec i s = .next (State.settle (let o := f (t.written a v) (t.reached (.rap h)); let u := o.st.wrote a
      if o.later then
        let w := u.deferred
        { w with rap := { w.rap with blocked := w.rap.blocked ++ [h.slot.val] } }
      else u.respond h.slot h.tag.toNat (status rsOK)))

/-- Where an address is: its kind, its number, its page and its offset. -/
def Place.key : Place → Option (Kind × Nat × Nat × Nat)
  | .reg k n p off _ => some (k, n, p, off)
  | .win _ _ _ => none

/-- The state in which the last word of an entry that a core has written commits it: nothing of the core's is staged (R81). -/
def State.unstaged (s : State) (c : Fin 8) : State :=
  s.setRequester (8 + c.val) { s.requester (8 + c.val) with lastLow := none, entry := none, staged := [] }

/-- A service core that runs may write every word of entry `e` of a table: the entry is implemented and no FILL covers it. -/
structure State.MayCommit (s : State) (c : Fin 8) (g : WinSeg) (e : Nat) : Prop where
  running : s.running = true
  service : c.val < 4
  runs : s.coreRuns c = true
  words : 0 < g.stride / 4
  aligned : entryAddr g e % 4 = 0
  place : ∀ j, j < g.stride / 4 → placeAt (entryAddr g e + 4 * j) = some (.win g e j)
  below : entryAddr g e + g.stride ≤ gddrBase
  free : ∀ a, entryAddr g e ≤ a → a < entryAddr g e + g.stride → s.filling a = false
  canonical : s.Canonical

/-- The words of an entry when its last one is written alone. -/
def State.lastOf (s : State) (g : WinSeg) (e v : Nat) : List Nat :=
  (List.range (g.stride / 4)).map (fun j => if j + 1 = g.stride / 4 then merged s g e j v else s.nat (entryAddr g e + 4 * j))

/-- The words that an entry holds after a write of all of them: the writable bits as written (R73, R81). -/
def State.entryOf (s : State) (g : WinSeg) (e : Nat) (ws : List Nat) : List Nat :=
  (List.range (g.stride / 4)).map (fun j => merged s g e j (ws.getD j 0))

end Sys2Proof.Machine
end

