-- ==== Sys2Proof/Certificates/Slice0/Obligations.lean ====
section
/-! DEFINITION. The statements about the model, one definition each; OBLIGATIONS.json lists them with their titles and the rules they come from. -/

open Sys2Proof Sys2Proof.Machine

/-- A step takes the command at the front of the queue and is `exec` of it with the queue's rest (chapter 3; log entry 3: the queue
is the model's form for commands that wait). The model's readings and choices it rests on: log entry 3. -/
def Obligations.StepRunsFrontCommand : Prop :=
  ∀ (c : Instr) (s : State), step { s with pending := c :: s.pending } = exec c s

/-- A step with no command waiting always answers: 8 ns pass, the queue stays empty, nothing that was sent is taken back and no
command is needed. In device reset nothing else changes; in thermal shutdown only DTIME counts, at the rate of DPLL1 (R43, R464). The
step on an empty queue is the model's choice (log entry 4). The model's readings and choices it rests on: log entry 4. -/
def Obligations.EmptyQueueStepIsAClockCycle : Prop :=
  ∀ s : State, s.pending = [] → ∃ t, step s = .next t ∧ t.now = s.now + 8 ∧ t.pending = [] ∧ s.out <+: t.out ∧
    (s.inReset = true → t = { s with now := s.now + 8 }) ∧
    (s.inReset = false → s.boot.shutdown = true → t = ({ s with now := s.now + 8 } : State).dtimeTick 8)

/-- From every state in canonical form, a step leads to one in canonical form: registers, tables and GDDR7 contents hold each key once,
in rising order, and list no value that an unlisted key reads as (log entry 1).
The model's readings and choices it rests on: log entries 1, 9. -/
def Obligations.EveryStepKeepsTheCanonicalForm : Prop :=
  ∀ s t : State, s.Canonical → step s = .next t → t.Canonical

/-- The frame of every command, for all rows of the table: the commands that wait stay as they are and in their order, no time
passes within a command, what has left the part stays sent (each command only appends to it), and free values are drawn forward
only. The model's readings and choices it rests on: log entries 2, 3, 4, 109, 146. -/
def Obligations.CommandsKeepQueueTimeAndOutput : Prop :=
  ∀ (c : Instr) (s t : State), exec c s = .next t →
    t.pending = s.pending ∧ t.now = s.now ∧ (∃ l, t.out = s.out ++ l) ∧ s.freeCtr ≤ t.freeCtr

/-- Every command but a TAP instruction answers a next state, in every state; a TAP instruction stops, as undescribed, exactly when it
is a vendor instruction given outside device reset while debug is open, whose instructions the spec does not give (R587).
The model's readings and choices it rests on: log entry 8. -/
def Obligations.OnlyAnOpenTapStops : Prop :=
  ∀ s : State, (∀ c, (∀ i, c ≠ .tapInstruction i) → ∃ t, exec c s = .next t) ∧
    (∀ i, exec (.tapInstruction i) s = .fault .tapUndescribed ↔
      i = .vendor ∧ s.inReset = false ∧ s.get SEC.page SEC.DEBUG_STATE ≠ 0) ∧
    (∀ i, exec (.tapInstruction i) s ≠ .fault .tapUndescribed → ∃ t, exec (.tapInstruction i) s = .next t)

/-- While a device reset or a thermal shutdown is in force, every command but the seven named has no effect at all: it answers the
state as it is (R32, R47, R536; that a command which cannot apply has no effect is log entry 7). The seven are the edges of device reset, the end of an NV commit, a thermal
sample, a guard sensor's trip or self-test, and the TAP, none of which waits for the part to run.
The model's readings and choices it rests on: log entry 7. -/
def Obligations.StoppedPartIgnoresCommands : Prop :=
  ∀ (c : Instr) (s : State), s.running = false →
    (match c with
      | .deviceResetEntry _ _ _ _ | .deviceResetRelease | .nvCommitDone _ _ | .thmSample _ | .guardTrip _
      | .guardSelftestComplete _ | .tapInstruction _ => True
      | _ => exec c s = .next s)

/-- Table 2-3 (R36, R39, R42, R44, R46): each boot step of the main sequence completes from the stage before it.
The model's readings and choices it rests on: log entries 15, 40, 41. -/
def Obligations.BootStepsComplete : Prop :=
  ∀ s : State, s.running = true →
    (∀ v : BitVec 16, s.stage = stSTRAPS - 1 → exec (.strapsSampled v) s = .next
      (let t := (s.applyStraps v.toNat).setStage stSTRAPS
       State.settle { t with boot := { t.boot with strapsSampled := true, ocpDriven := true } })) ∧
    (s.stage = stSTRAPS → exec .rootPllLocked s = .next
      (((s.setB CLK.page CLK.ROOT_STATUS_LOCKED true).setStage stROOT).releasePins).settle) ∧
    (s.stage = stSRAM → exec (.loaderOk true true) s = .next
      (State.settle ({ s with boot := { s.boot with mgtTx := .live } }.setStage stLOADER))) ∧
    (∀ b, s.stage = stSRAM → exec (.loaderOk false b) s = .next (State.settle (if b then
      (({ s with boot := { s.boot with mgtTx := .live } }.setStage stLOADER).setB SYS.page SYS.BOOT_STATUS_LOADER_COPY
        true).raise sysPg SYS.ev_LOADER_FALLBACK
      else s.romRecovery))) ∧
    (s.stage = stLOADER → exec .rapUp s = .next
      (s.setStage (if s.bootStrap = 0 ∨ s.bootStrap = 3 then stWAIT else stRAP)).settle) ∧
    (∀ v : BitVec 16, s.stage = stRAP → exec (.fwVerify true v) s = .next (State.settle
      ((({ s with boot := { s.boot with fwStarted := true } }.setStage stVERIFY).set SYS.page SYS.BOOT_STATUS_SOURCE
        1).set CPU.page CPU.FW_STATUS_VERSION v.toNat))) ∧
    (∀ v : BitVec 16, s.stage = stRAP → exec (.fwVerify false v) s = .next
      (((s.setStage stWAIT).setB SYS.page SYS.BOOT_STATUS_RES_FAIL true).raise sysPg SYS.ev_RES_IMAGE_FAIL).settle)

/-- Table 2-3 beside the main sequence, and what verification and losses of the root PLL bring (R42, R44 to R46, R61, R568, R606).
The model's readings and choices it rests on: log entries 40, 41, 92, 97. -/
def Obligations.BootSideStepsComplete : Prop :=
  ∀ s : State, s.running = true →
    (s.flag CLK.page CLK.ROOT_STATUS_LOCKED = true → exec .rootUnlock s = .next
      (((s.setB CLK.page CLK.ROOT_STATUS_LOCKED false).bump CLK.page CLK.ROOT_STATUS_UNLOCKS).raise sysPg SYS.ev_ROOT_UNLOCK).settle) ∧
    (stRAP ≤ s.stage → s.boot.recovery = false → s.boot.serdesLocked = false → exec .clientSerdesLocked s = .next
      ((each (List.range 8) (fun q t => t.setB (CLN.page q) CLN.QUAD_STATUS_PLL_LOCK true)
        { s with boot := { s.boot with serdesLocked := true, clientTx := .localFault } }).refreshPorts).settle) ∧
    (stSRAM ≤ s.stage → s.boot.recovery = false → s.boot.gddrDone = false → exec (.gddr7TrainingDone 0) s = .next
      (State.settle (each (List.range 16) (fun c t => t.setB (MEM.page c) MEM.STATUS_TRAINED true)
        { s with boot := { s.boot with gddrDone := true } }))) ∧
    (∀ c, s.stage = stROOT → s.boot.alarmHold = false → exec (.nvLoaded (some c) true) s = .next
      (((s.journalReplay.showStore.setStage stNV).mapApply).loadColophon c).settle) ∧
    (∀ rows cols : BitVec 16, s.stage = stNV → exec (.sramDone [] [] rows cols) s = .next
      (State.settle ((State.raise
        ((({ s with rpr := { s.rpr with withheld := [] } }.showOnDie).set RPR.page RPR.SRAM_FREE_ROWS rows.toNat).set RPR.page
          RPR.SRAM_FREE_COLUMNS cols.toNat) rpPg RPR.ev_BIST_DONE).setStage stSRAM))) ∧
    (∀ (ty : Fin 4) v r, s.nv.verifying = true → exec (.imageVerified false ty v r) s = .next
      (State.settle (State.raise
        (State.setB (State.set ({ s with nv := { s.nv with verifying := false } }.set NVS.page NVS.IMAGE_STATUS_TYPE ty)
          NVS.page NVS.IMAGE_STATUS_STATE 3) SYS.page SYS.BOOT_STATUS_PUSH_FAIL true) sysPg SYS.ev_PUSH_IMAGE_FAIL))) ∧
    (∀ v r, s.nv.verifying = true → s.boot.recovery = false → exec (.imageVerified true 2 v r) s = .next
        (let t := State.set { s with nv := { s.nv with verifying := false } } NVS.page NVS.IMAGE_STATUS_TYPE 2
         State.settle ((t.set NVS.page NVS.IMAGE_STATUS_STATE 2).nvRequest (.image 2) 64)))

/-- READY, the warm reset's start, the completion of a carrier's bring-up, of a soft reset and of a drain (R42, R43, R50, R53, R57,
R58, R69, R71, R171, R519; Tables 2-3, 2-13, 3-4, 3-13).
The model's readings and choices it rests on: log entries 27, 42, 43, 44, 45. -/
def Obligations.ReadyAndCarriersComplete : Prop :=
  ∀ s : State, s.running = true →
    (∀ power : Nat, s.stage = stVERIFY → exec (.ready power) s = .next
      (let s := (s.setStage stREADY).setB SYS.page SYS.SYS_STATE_READY true
       let s := s.set SYS.page SYS.BOOT_TIME_READY_US (min 0xFFFFF ((s.now - s.boot.t0) / nsUs))
       let s := each readyPages (fun p t => t.readyBlock p) s
       let s := (s.set PWR.page PWR.STANDING_BASE_MW
         (if s.railsRead.isEmpty then 0 else 1000 * ceilDiv power 1000)).syncPower
       let s := s.raiseIf s.pwr.twoAvs Kind.PWR.pages.1 PWR.ev_PMBUS_FAIL
       let s := s.raiseIf (s.flag THM.page THM.LAST_SHUTDOWN_VALID) Kind.THM.pages.1 THM.ev_LAST_SHUTDOWN
       let s := s.raiseIf (s.nv.auths = 0) secPg SEC.ev_CLAIM_OPEN
       let s := if s.flag SYS.page SYS.FABRIC_CTRL_AUTO_OPEN then
           { s with boot := { s.boot with fabricTx := .live } }.setB SYS.page SYS.FABRIC_CTRL_OPEN true else s
       ((s.linkChecks.refreshPorts).raise sysPg SYS.ev_READY).settle)) ∧
    (∀ due, s.boot.warmDue = some due → exec .warmResetStart s = .next
      (let b : BootState := { pwrgood := true, resetN := true, pwrgoodFell := s.boot.pwrgoodFell, t0 := s.now,
                              warm := true, strapsSampled := true }
       let r := State.applyStraps (({ s.nvCut true with out := s.out }.fresh b).warmKeep s)
         (s.get SYS.page SYS.STRAP_LATCH_STRAPS)
       ((r.setB SYS.page SYS.RESET_CAUSE_WARM true).setStage stROOT).settle)) ∧
    (∀ n : Fin 2, s.carrier n = cBRINGING → (s.stream n 0).locked = true ∨
        (∀ r ∈ s.pwr.active, r.op = 0 → r.unit = n.val → r.at_ + 200 * nsMs ≤ s.now) → exec (.carrierUpComplete n) s = .next
      (let low := 800 * (24 - s.get (FEC.page n) FEC.CAP_STATUS_HOST_EFF)
       let t := (s.set SYS.page (carrierStateFld n) cUP).endLeave 0 n
       (State.syncPower { t with pwr := { t.pwr with carrierStanding := t.pwr.carrierStanding.put n (48000 - low) } }).settle)) ∧
    (∀ p : Fin 128, (s.page p).softReset = true → exec (.softResetComplete p) s = .next
      (let t := s.reinitState p
       let t := (t.setPage p { t.page p with softReset := false }).setB (pageBase p) HDR.BUSY false
       ((t.goTo p (if alwaysActive p then bACTIVE else bCONFIG)).syncGrace p).settle)) ∧
    (∀ p : Fin 128, s.blk p = bDRAIN → (s.page p).softReset = false → s.drained p = true →
      exec (.drainEnd p) s = .next (((s.goTo p bCONFIG).drainEffect p).syncGrace p).settle)

/-- R32, R34, R35, R37, R43: PWRGOOD falling, or RESET_N low for 10 µs or more, puts a running part into device reset, in which every
register but what the NV store, the board record and the always-on records hold reads its reset value and memory is empty; a pulse
of RESET_N under 1 µs is ignored, and one in between resets the part completely or not at all (which of them is a free value: log
entry 112); both levels high begin at t0 with DTIME 0; in between, nothing else acts.
The model's readings and choices it rests on: log entries 1, 42, 97, 112. -/
def Obligations.DeviceResetEntersAndReleases : Prop :=
  ∀ s : State,
    (∀ rn finish low, low < 1000 → s.inReset = false → exec (.deviceResetEntry true rn finish low) s = .next s) ∧
    (∀ rn finish low, 1000 ≤ low → low < 10000 → s.inReset = false →
      exec (.deviceResetEntry true rn finish low) s = .next s.nextFree ∨
      exec (.deviceResetEntry true rn finish low) s = exec (.deviceResetEntry true rn finish 10000) s) ∧
    (∀ pg rn finish low, (pg && rn) = false → (pg = true → 10000 ≤ low) → s.inReset = false →
      ∃ t, exec (.deviceResetEntry pg rn finish low) s = .next t ∧
      t.inReset = true ∧ t.mem = [] ∧ t.rap = {} ∧ t.pages = [] ∧ t.safe = false ∧ t.dtime = 0 ∧ t.out = s.out ∧
      t.pending = s.pending ∧ t.now = s.now ∧ t.boot.pwrgood = pg ∧ t.boot.resetN = rn ∧
      ∀ a, nvWord a = false → (∀ i < 16, a ≠ PWR.page + PWR.RAIL i) → a ≠ SEC.page + SEC.DEBUG_LOCKED.off →
        a ≠ THM.page + THM.LAST_SHUTDOWN → t.word a = resetWord a) ∧
    (s.inReset = true → ∃ t, exec .deviceResetRelease s = .next t ∧ t.inReset = false ∧ t.dtime = 0 ∧ t.boot.t0 = s.now ∧
      t.out = s.out ∧ t.pending = s.pending ∧ t.nv = s.nv ∧
      (s.Canonical → t.flag SYS.page SYS.RESET_CAUSE_POR = s.boot.pwrgoodFell ∧
        t.flag SYS.page SYS.RESET_CAUSE_PIN = !s.boot.pwrgoodFell) ∧
      ∀ a, a ≠ SYS.page + SYS.RESET_CAUSE → t.word a = s.word a)

/-- Requests of an open session that execute: each is answered by its response (R90 to R102).
The model's readings and choices it rests on: log entries 22, 28, 29, 33, 34, 36, 38, 129, 130, 131, 132. -/
def Obligations.RequestRowsComplete : Prop :=
  ∀ (s t : State) (h : ReqHdr), let slot := h.slot.val; let tag := h.tag.toNat; let src : Src := .rap h
    (s.Takes h .nop t → exec (.nop h) s = .next (t.respond slot tag (status rsOK)).settle) ∧
    (s.Takes h .close t → exec (.sessionClose h) s = .next ((t.respond slot tag (status rsOK)).closeSession slot).settle) ∧
    (∀ (a : BitVec 32) pl, s.Takes h (.read a) t → a.toNat % 4 = 0 → a.toNat < gddrBase → placeAt a.toNat = some pl →
      t.filling a.toNat = false → pl.half ≠ 2 → exec (.read h a) s = .next
        ((t.afterRead src.code a.toNat pl).respond slot tag { status := rsOK, words := [BitVec.ofNat 32 (t.shown a.toNat pl)] }).settle) ∧
    (∀ a v : BitVec 32, s.Takes h (.write a v) t → let x := t.writeAt src (some (slot, tag)) a.toNat v.toNat
      x.status = rsOK → x.later = false → exec (.write h a v) s = .next (x.st.respond slot tag (status rsOK)).settle) ∧
    (∀ a m v : BitVec 32, s.Takes h (.modify a m v) t → let x := t.modifyAt src (some (slot, tag)) a.toNat m.toNat v.toNat
      x.status = rsOK → x.later = false → exec (.modify h a m v) s = .next
        (x.st.respond slot tag { status := rsOK, words := [BitVec.ofNat 32 x.word] }).settle) ∧
    (∀ (a : BitVec 32) n ws, s.Takes h (.bulkWrite a n ws) t → a.toNat < gddrBase → t.writeDenied src a.toNat = false →
      a.toNat % 4 = 0 → ∀ st k u, State.bulkWrite src (some (slot, tag)) (ws.map (·.toNat)) a.toNat 0 t = (st, k, none, u) →
      exec (.bulkWrite h a n ws) s = .next (u.respond slot tag { status := st, done := k }).settle) ∧
    (∀ (a : BitVec 32) n, s.Takes h (.bulkRead a n) t → a.toNat < gddrBase → a.toNat % 4 = 0 →
      ∀ st l u, State.bulkRead src n a.toNat [] t = (st, l, u) →
      exec (.bulkRead h a n) s = .next (u.respond slot tag { status := st, words := l, done := l.length }).settle) ∧
    (∀ (a : BitVec 32) n pat u, s.Takes h (.fill a n pat) t → t.isClaim src = false → a.toNat < gddrBase → a.toNat % 4 = 0 →
      (segAt a.toNat).isNone = false → t.rap.fill = none → (t.unlink src.code).requestLeave { catalogue 4 0 with durationMs := Config.fillMs n } = (.granted, u) →
      exec (.fill h a n pat) s = .next (State.settle (State.deferred { u with rap := { u.rap with
        fill := some { addr := a.toNat, count := n, pattern := pat, slot := slot, tag := tag, running := true } } }))) ∧
    (∀ (o : BitVec 32) bytes, s.Takes h (.push o bytes) t → t.isClaim src = false → exec (.imagePush h o bytes) s = .next
      ((t.imagePush o.toNat bytes).2.respond slot tag (t.imagePush o.toNat bytes).1).settle) ∧
    (∀ len, s.Takes h (.commit len) t → t.isClaim src = false → exec (.imageCommit h len) s = .next
      (t.imageCommit.respond slot tag (status rsOK)).settle) ∧
    (∀ (p : BitVec 128) (c : BitVec 4), s.Takes h (.subscribe p c) t → exec (.evtSubscribe h p c) s = .next
      ((t.setSession slot { t.session slot with subscribed := true, pageMask := p.toNat, classMask := c.toNat }).respond slot tag
        (status rsOK)).settle) ∧
    (∀ p i : BitVec 8, s.Takes h (.ack p i) t → t.isClaim src = false → (pageKind p.toNat).isNone = false → i.toNat < 128 →
      exec (.evtAck h p i) s = .next
        ((if evUsed p.toNat i.toNat then t.ackSource p.toNat i.toNat else t).respond slot tag (status rsOK)).settle)

/-- HELLO, session set-up and its end, retention, invalid frames, IPv6, the management link, FILL completion (R86, R87, R90, R93 to R95,
R98 to R100, R105): frames that are for this part, with a good checksum where they have one.
The model's readings and choices it rests on: log entries 28, 30, 31, 32, 131, 132. -/
def Obligations.SessionRowsComplete : Prop :=
  ∀ (s : State) (via : Via), s.running = true → s.rapUp = true → s.ready = true → (via.udp = true → via.sumOk = true) →
    (∀ tag (min max : BitVec 8) v, s.toMe via true = true → let t := s.rxFrame
      t.rap.outstanding < 64 → versions.find? (fun v => decide (min.toNat ≤ v) && decide (v ≤ max.toNat)
        && (!via.udp || decide (0x11 ≤ max.toNat))) = some v →
      exec (.hello via tag min max) s = .next
        (State.settle (State.setupFrame { t with rap := { t.rap with agreed := v } } via tag.toNat 1 rsOK [0x10, 0x21, v]))) ∧
    (∀ tag (id : BitVec 128) (key : BitVec 512) (k : Fin 8) i, s.toMe via false = true → bitOf s.nv.auths k = true → let t := s.rxFrame
      t.rap.outstanding < 64 → t.flag SEC.page SEC.RNG_STATUS_FAILED = false → t.svcState = svRUNNING →
      (List.range 8).find? (fun i => (t.session i).stage = .free) = some i →
      exec (.sessionInit via tag id key (some k) true) s = .next (State.settle
        (let sid := t.newSid
         let t1 := t.nextFree
         let pk := t1.freeVal % 2 ^ 512
         let t2 := t1.nextFree
         let nonce := t2.freeVal % 2 ^ 256
         (t2.nextFree.setSession i
           { stage := .accepted, claim := s.nv.auths = 0, authority := k, sid := sid, version := t.rap.agreed, lastValid := t.now,
             hostId := id.toNat, hostKey := key.toNat, partKey := pk, nonce := nonce, peer := some via.peer }).setupFrame
          via tag.toNat 3 rsOK (acceptBody pk nonce sid)))) ∧
    (∀ tag (slot : Fin 8), s.toMe via false = true → let x := s.session slot
      x.stage = .accepted → let t := s.rxFrame
      t.rap.outstanding < 64 → t.svcState = svRUNNING → exec (.sessionConfirm via tag slot true) s = .next
        ((((t.setSession slot { x with
            stage := .opened
            lastValid := t.now
            tokens := t.get RAP.page RAP.EVT_RATE_DEPTH * nsSec
            tokenTime := t.now
            peer := some via.peer
            key := Config.sessionKey x.hostKey x.partKey x.nonce }).showSessions.setupFrame via tag.toNat 4 rsOK []).raise
              rapPg RAP.ev_SESSION_OPEN).settle)) ∧
    (∀ (slot : Fin 8) idle, (s.session slot).stage ≠ .free → let n := s.get RAP.page RAP.IDLE_TIMEOUT_SECONDS
      (n ≤ idle ∨ (s.session slot).lastValid + n * nsSec ≤ s.now) →
      exec (.sessionIdleTimeout slot idle) s = .next (s.closeSession slot).settle) ∧
    (∀ (slot : Fin 8) (tag : BitVec 16), exec (.responseRetentionExpiry slot tag) s = .next
      (s.setSession slot { s.session slot with
        kept := (s.session slot).kept.filter (fun k => k.tag ≠ tag.toNat || decide (s.now < k.sentAt + nsSec)) }).settle) ∧
    (s.toMe via false = true → exec (.rapInvalidFrame via .hmac) s = .next s.authFail.settle ∧
      exec (.rapInvalidFrame via .unknownSession) s = .next (s.count (RAP.page + RAP.AUTH_FAILS)).settle ∧
      exec (.rapInvalidFrame via .noSession) s = .next (s.count (RAP.page + RAP.PARSE_DROPS)).settle ∧
      exec (.rapInvalidFrame via .parse) s = .next (s.count (RAP.page + RAP.PARSE_DROPS)).settle ∧
      (∀ i : Fin 8, (s.session i).stage = .opened → exec (.rapInvalidFrame via (.replay i)) s = .next s.replayDrop.settle)) ∧
    (∀ addr : BitVec 128, s.ipv6Up = true → s.ownAddr addr.toNat = true →
      exec (.neighborSolicitation addr) s = .next (s.send "neighborAdvertisement" [(addr.toNat : Int)]).settle ∧
      exec (.icmpv6Echo addr) s = .next (s.send "echoReply" [(addr.toNat : Int)]).settle) ∧
    (s.rap.mgtUp = true → exec .mgtLinkDown s = .next
      (State.settle (State.raise { s with rap := { s.rap with mgtUp := false } } rapPg RAP.ev_MGT_LINK_DOWN))) ∧
    (s.rap.mgtUp = false → s.boot.mgtTx = .live → exec .mgtLinkUp s = .next
      (State.settle (State.raise { s with rap := { s.rap with mgtUp := true } } rapPg RAP.ev_MGT_LINK_UP))) ∧
    (∀ f written, s.rap.fill = some f → f.running = true → f.applied = false →
      exec (.fillComplete written) s = .next (s.fillDone f written).settle)

/-- Line PLL, signal detection, estimation periods and die-to-die lanes (R12, R111, R114, R122, R126, R207, R643).
The model's readings and choices it rests on: log entries 52, 53, 55, 56, 133. -/
def Obligations.LinePllAndPeriodsComplete : Prop :=
  ∀ s : State, s.running = true → ∀ n : Fin 2,
    ((s.cals n).pllRuns = true → s.flag (CNV.page n) CNV.PLL_STATUS_LOCKED = false →
      let t := (s.setB (CNV.page n) CNV.PLL_STATUS_LOCKED true).raise (Kind.CNV.pg n) CNV.ev_PLL_LOCK
      let t := (t.setCal n { t.cals n with pllLockedOnce := true }).showD2d n
      ((t.carrier n ≠ cBRINGING ∨ (s.cals n).upLocked = true) → exec (.linePllLocked n) s = .next t.settle) ∧
      (t.carrier n = cBRINGING → (s.cals n).upLocked = false → exec (.linePllLocked n) s = .next
        (let u := t.setCal n { t.cals n with upLocked := true }
         let u := u.setTx n ({ u.txs n with laserEn := true, enabledAt := u.now } : TxState).enables
         let u := (u.showOut n).laserEnabled n
         State.settle (if (u.cals n).fullRunning then u
           else if u.active (Kind.CAL.pg n) && (!u.flag (CAL.page n) CAL.STATUS_CODES_VALID || u.flag (CAL.page n) CAL.CTRL_FULL_AT_UP)
           then u.fullStart n true else u.bringUpCalDone n)))) ∧
    ((s.cals n).pllRuns = true → s.flag (CNV.page n) CNV.PLL_STATUS_LOCKED = true →
      exec (.linePllUnlock n) s = .next (State.settle
        ((((s.setB (CNV.page n) CNV.PLL_STATUS_LOCKED false).bump (CNV.page n) CNV.PLL_STATUS_UNLOCKS).showD2d n).raise
          (Kind.CNV.pg n) CNV.ev_PLL_UNLOCK))) ∧
    (s.flag (CNV.page n) CNV.PATH_STATE_SIG_OK = true → exec (.sigOkChange n false) s = .next
      (((s.setB (CNV.page n) CNV.PATH_STATE_SIG_OK false).raise (Kind.CNV.pg n) CNV.ev_SIG_LOW).calHold n).settle) ∧
    (s.flag (CNV.page n) CNV.PATH_STATE_SIG_OK = false → exec (.sigOkChange n true) s = .next
      ((each (List.range 4) (fun i t => t.periodBegin n (4 + i) t.now) (s.setB (CNV.page n) CNV.PATH_STATE_SIG_OK true)).calHold
        n).settle) ∧
    (∀ adc, adc.length = 4 → (s.cals n).fullRunning = false → s.active (Kind.CAL.pg n) = true →
      s.flag (CNV.page n) CNV.PATH_STATE_SIG_OK = true → exec (.calPeriodEnd n adc [] []) s = .next
        (((s.adcPeriod n adc).nextSwap n).calHold n).settle) ∧
    (∀ dac, dac.length = 64 → (s.cals n).fullRunning = false → s.active (Kind.CAL.pg n) = true →
      s.flag (CAL.page n) CAL.OBS_CTRL_OBS_EN = true → (s.cals n).obsFailed = false → exec (.calPeriodEnd n [] dac []) s =
        .next (((s.dacPeriod n (dac.map (dacFit s.freeVal))).nextSwap n).calHold n).settle) ∧
    (∀ (d : Bool) (lane : Fin 528), lane.val < 512 → (s.rpr.sweepOn = false ∨ s.rpr.lastClass ≠ 3) → 0 < s.laneSpares n (b2n d) →
      (s.cals n).d2dDue.any (fun y => y.1 = b2n d && y.2.1 = lane) = false →
      (s.cals n).d2dDead.contains (b2n d, lane.val) = false → exec (.d2dLaneFail n d lane) s = .next
        (State.settle ((s.setCal n { s.cals n with d2dDue := (s.cals n).d2dDue ++ [(b2n d, lane.val, false)] }).showD2d n))) ∧
    (∀ (d : Bool) y, (s.cals n).d2dDue.find? (fun y => y.1 = b2n d) = some y → s.slotFree n (!d) = true →
      exec (.d2dLaneExchange n d) s = .next
        (let x := s.cals n
         let free := x.d2dSpares.at (b2n d) - 1
         let t := (s.setCal n { x with d2dDue := x.d2dDue.erase y, d2dSpares := x.d2dSpares.put (b2n d) free }).slotTake n (!d)
         let t := t.bump (CNV.page n) (if d then CNV.D2D_STATUS_SPARES_RX else CNV.D2D_STATUS_SPARES_TX)
         let t := (t.showD2d n).raise (Kind.CNV.pg n) CNV.ev_D2D_LANE_SPARED
         let t := t.raiseIf (free = 0) (Kind.CNV.pg n) CNV.ev_D2D_SPARES_EXHAUSTED
         let t := t.raiseIf y.2.2 Kind.RPR.pages.1 RPR.ev_LANE_EXCHANGED
         ((t.repair 4 1 (locLane n (b2n d) y.2.1)).useSpare RPR.SPARES_LANES).settle))

/-- What a gutter slot commits, spare swaps and full calibration (R114 to R130).
The model's readings and choices it rests on: log entries 51, 52, 53, 54, 55, 117, 118, 119, 120, 121, 133, 134. -/
def Obligations.GutterCommitsAndSwapsComplete : Prop :=
  ∀ s : State, s.running = true → ∀ n : Fin 2,
    (∀ tx c l, s.slotOpen n tx = true → s.d2dWaits n tx = false → s.swapDue n tx = false →
      s.get (CAL.page n) CAL.CTRL_MODE = 0 →
      (s.cals n).pend.find? (fun e => tx == decide (e.1 < 4) && !e.2.isEmpty && s.sideEn n e.1) = some (c, l) →
      exec (.calGutterCommit n tx none) s = .next
        (let t := each l (fun x t => t.stepCode n x) s
         let t := t.setCal n { t.cals n with pend := Tab.put (fun _ => []) (t.cals n).pend c [] }
         ((((t.periodBegin n c (t.now + 2000)).slotTake n tx).committed n).holdEnd n).settle)) ∧
    (∀ p c l, s.betweenBursts n p = true → s.slotOpen n true true = true → s.d2dWaits n true = false → s.swapDue n true = false →
      s.get (CAL.page n) CAL.CTRL_MODE = 0 →
      (s.cals n).pend.find? (fun e => decide (e.1 < 4) && !e.2.isEmpty && s.sideEn n e.1) = some (c, l) →
      exec (.calGutterCommit n true (some p)) s = .next
        (let t := each l (fun x t => t.stepCode n x) s
         let t := t.setCal n { t.cals n with pend := Tab.put (fun _ => []) (t.cals n).pend c [] }
         ((((t.periodBegin n c (t.now + 2000)).slotTake n true).committed n).holdEnd n).settle)) ∧
    (∀ tx, (s.slotOpen n tx = false ∨ s.d2dWaits n tx = true ∨ s.swapDue n tx = true) →
      exec (.calGutterCommit n tx none) s = .next (s.calHold n).settle) ∧
    (∀ tx, s.slotOpen n tx = true → s.d2dWaits n tx = false → s.swapDue n tx = false →
      s.get (CAL.page n) CAL.CTRL_MODE = 2 → s.sideEn n (if tx then 0 else 4) = true → s.slewSteps n tx ≠ [] →
      exec (.calGutterCommit n tx none) s = .next
        (((each (s.slewSteps n tx) (fun x t => t.stepCode n x) s).slotTake n tx).committed n |>.holdEnd n).settle) ∧
    (∀ w, (s.cals n).swap = some w → s.slotOpen n (decide (w.conv < 4)) = true → s.d2dWaits n (decide (w.conv < 4)) = false →
      s.swapDue n (decide (w.conv < 4)) = true → exec (.spareSwapCommit n) s = .next
        (let t := (s.setUnitAt n w.conv w.pos w.unit).setRole n (subEntry w.conv w.unit) roleACTIVE
         let t := (t.repair 1 2 (locSubconv n w.conv w.unit)).retireUnit n w.conv w.failed
         let t := t.useSpare RPR.SPARES_SUBCONV
         let t := (t.setCal n { t.cals n with swap := none, lastSwap := some t.now }).slotTake n (decide (w.conv < 4))
         let t := ((t.showSwap n 3).raise (Kind.CAL.pg n) CAL.ev_SPARE_SWAPPED).nextSwap n
         State.settle (if decide (w.conv < 4) then t else t.setRx n { t.rxs n with flagged := true }))) ∧
    (∀ w, (s.cals n).swap = some w → w.ready = false → 256 ≤ w.periods → exec (.sparePrecalTimeout n) s = .next
      (State.settle ((((s.retireUnit n w.conv w.unit).useSpare RPR.SPARES_SUBCONV).raise (Kind.CAL.pg n)
        CAL.ev_SPARE_FAIL).startSwap n w.conv w.pos))) ∧
    (∀ obsFail, (s.cals n).fullRunning = true →
      (s.fullUnits n).filter (fun e => Tab.get (fun _ => 0) (s.cals n).fullGood e < 2) = [] →
      exec (.fullCalDone n obsFail) s = .next
        (let t := s.fullEnd n
         let t := t.setCal n { t.cals n with obsFailed := obsFail }
         let t := (t.setB (CAL.page n) CAL.STATUS_CODES_VALID true).raise (Kind.CAL.pg n) CAL.ev_FULL_DONE
         let t := t.raiseIf obsFail (Kind.CAL.pg n) CAL.ev_OBS_FAIL
         (((t.nextSwap n).pllFollow n).bringUpCalDone n).settle))

/-- The acquisition machine's causes and moves, Table 5-6 (R142, R146, R149, R152, R157, R168, R170).
The model's readings and choices it rests on: log entries 57, 58, 59, 122, 123, 135. -/
def Obligations.AcquisitionRowsComplete : Prop :=
  ∀ s : State, s.running = true → ∀ (n : Fin 2) (i : Fin 16),
    (∀ level, s.active (Kind.RXD.pg n) = true → 10 * s.get (RXD.page n) RXD.LOS_CFG_THRESH < level →
      let run := min 255 ((s.rxs n).losRun + 1)
      s.get (RXD.page n) RXD.LOS_CFG_HOLD ≤ run → (s.rxs n).los = false → exec (.rxLosDeclare n level) s = .next
      (State.settle (each (List.range 16) (fun k t => if (t.subc n k).st.acquiring then t.acqTo n k .waitSignal else t)
        ((s.setRx n { s.rxs n with losRun := run, los := true }).raise (Kind.RXD.pg n) RXD.ev_RX_LOS)))) ∧
    (∀ level, s.active (Kind.RXD.pg n) = true → level ≤ 10 * s.get (RXD.page n) RXD.LOS_CFG_THRESH →
      exec (.rxLosClear n level) s = .next (s.setRx n { s.rxs n with los := false, losRun := 0 }).settle) ∧
    ((s.subc n i).st = .waitSignal → (s.rxs n).los = false → i.val ≠ 0 → exec (.waitSignalExit n i) s = .next
      ((s.setSubc n i { s.subc n i with trials := 0, acqFrom := some s.now }).enterCd n i allCands).settle) ∧
    ((s.subc n i).st = .waitSignal → (s.rxs n).los = false → i.val = 0 → exec (.waitSignalExit n i) s = .next
      (let t := s.setSubc n i { s.subc n i with trials := 0, acqFrom := some s.now }
       let t := (t.setRx n { t.rxs n with holdC := false }).set (RXD.page n) RXD.LAST_ACQ_TRIALS 0
       (t.enterCd n i allCands).settle)) ∧
    (∀ metric, (s.subc n i).st = .cdSearch → i.val ≠ 0 →
      let c := s.subc n i
      let f := { c.search with found := c.search.found ++ [metric], j := c.search.j + 1 }
      trialIn (s.cdStep n) f f.j = true → 0 < s.cdStep n → exec (.cdTrial n i metric) s = .next
        (s.setSubc n i { c with trials := min 255 (c.trials + 1), search := f }).settle) ∧
    ((s.subc n i).st = .track → (s.subc n i).moveDue = true → (s.rxs n).flagged = false → exec (.cdFilterMove n i) s = .next
      (let c := s.subc n i
       (s.setSubc n i { c with moveDue := false, cd := clampI (s.cdMax n) (if c.dRes < 0 then c.cd - 1 else c.cd + 1) }).settle)) ∧
    (∀ r : Int, (s.subc n i).st = .freqAcq → s.foMode n ≠ 1 → exec (.freqAcqEstimate n i r) s = .next
      (let c := { s.subc n i with estAt := some s.now }
       let t := (s.setSubc n i c).setSubc n i { c with fd := (s.subc n i).fd + r }
       State.settle (if t.belowFAcq n r then t.enterEqBlind n i else t))) ∧
    (s.inFor n i .freqAcq (s.get (RXD.page n) RXD.FO_CFG_FREQ_TIMEOUT * nsMs) = true → exec (.freqAcqTimeout n i) s = .next (s.enterCd n i allCands).settle) ∧
    ((s.subc n i).st = .train ∨ (s.subc n i).st = .track → exec (.freqCaptureLoss n i) s = .next
      (s.acqTo n i .freqAcq).settle) ∧
    (∀ adc, 4 ≤ (s.subc n i).st.code → ((s.subc n i).st = .burst → (s.burstPayload n i).isSome = true) →
      exec (.eqBlockUpdate n i adc) s = .next (State.settle
        (let b := s.rxBlock n i adc
         let t := (if (s.subc n i).st = .track ∨ (s.subc n i).st = .burst then s.takeData n i b.out else s).eqStep n i b
         let c := t.subc n i
         if c.st = .burst then t
         else if 16 ≤ c.detRun ∨ 16 ≤ c.corrRun then t.eqSingular n i
         else if c.win.n < 1024 then t
         else
           let u := t.setSubc n i { c with win := {}, costPrev := some c.win.cost }
           if c.st = .eqBlind && c.win.settled c.costPrev then u.acqTo n i .gutterSearch else u))) ∧
    (s.inFor n i .eqBlind (5 * nsMs) = true → exec (.eqBlindTimeout n i) s = .next (s.enterCd n i allCands).settle) ∧
    (s.inFor n i .gutterSearch (2 * nsMs) = true → exec (.gutterSearchTimeout n i) s = .next (s.enterEqBlind n i).settle) ∧
    (s.inFor n i .train (10 * nsMs) = true → exec (.acqTrainTimeout n i) s = .next (s.acqTo n i .gutterSearch).settle)

/-- Laser feedback, SOP boost, phase jumps, deskew, NLC and the slices (R139, R151, R155, R158, R162, R164, R178 to R180).
The model's readings and choices it rests on: log entries 57, 60, 122, 124, 135. -/
def Obligations.LaserDeskewNlcSlicesComplete : Prop :=
  ∀ s : State, s.running = true → ∀ n : Fin 2,
    (∀ f : Int, (s.subc n 0).st = .track → s.foMode n = 1 →
      (s.rxs n).fbAt.any (fun t => s.now < t + 1000000 / s.get (RXD.page n) RXD.FB_CFG_RATE) = false →
      let t := s.setRx n { s.rxs n with fbAt := some s.now }
      (t.rxs n).holdC = false → t.foMode n = 1 →
      100 * t.get (RXD.page n) RXD.FB_CFG_DEADBAND ≤ f.natAbs → exec (.laserFbUpdate n f) s = .next
        (t.laserTo n ((t.rxs n).cLaser + f * 2 ^ (7 - t.get (RXD.page n) RXD.FB_CFG_GAIN_LOG2)) f).settle) ∧
    (∀ f f0 d : Int, (s.rxs n).checkC = some (f0, d) →
      (s.rxs n).checkAt + s.get (RXD.page n) RXD.FB_CFG_SETTLE * nsMs ≤ s.now → exec (.fbResponseCheck n f) s = .next
      (let bad := decide (256 * (f - f0).natAbs < d.natAbs)
       let r := s.rxs n
       ((s.setRx n { r with checkC := none, holdC := r.holdC || (bad && s.foMode n = 0) }).raiseIf bad (Kind.RXD.pg n)
         RXD.ev_FB_NO_RESPONSE).settle)) ∧
    ((s.rxs n).boost = false → s.flag (RXD.page n) RXD.CTRL_SOP_BOOST_EN = true → s.active (Kind.RXD.pg n) = true →
      (List.range 16).any (fun i => (s.subc n i).st = .track && s.sopFast n (s.subc n i).acc.sopLast) = true →
      exec (.sopBoostStart n) s = .next
        ((s.setRx n { s.rxs n with boost := true, boostAt := s.now }).raise (Kind.RXD.pg n) RXD.ev_SOP_TRANSIENT).settle) ∧
    ((s.rxs n).boostAt + s.get (RXD.page n) RXD.SOP_CFG_BOOST_HOLD * nsUs ≤ s.now → exec (.sopBoostEnd n) s = .next (s.setRx n { s.rxs n with boost := false }).settle) ∧
    (∀ (i : Fin 16) a b, (s.subc n i).phases = [a, b] → (1 / 4 < a - b ∨ 1 / 4 < b - a) →
      (s.subc n i).st = .train ∨ (s.subc n i).st = .track → exec (.phaseJump n i) s = .next
      ((s.setSubc n i { s.subc n i with phaseJumps := min 65535 ((s.subc n i).phaseJumps + 1) }).raise (Kind.RXD.pg n)
        RXD.ev_PHASE_JUMP).settle) ∧
    (∀ d0 d1 d2 d3, (s.subc n 0).st = .train ∨ (s.subc n 0).st = .track → (s.rxs n).flagged = false →
      exec (.deskewStep n d0 d1 d2 d3) s = .next (State.settle
        (each [(0, d0), (1, d1), (2, d2), (3, d3)] (fun (x : Nat × Int) t =>
          t.setI (RXD.page n) (RXD.DESKEW_CUR_DSK x.1)
            (clampI 127 (t.getI (RXD.page n) (RXD.DESKEW_CUR_DSK x.1) + clampI 1 x.2))) s))) ∧
    (s.get (RXD.page n) RXD.NLC_STATUS_STATE = 5 → (s.subc n 0).st = .track → (s.rxs n).flagged = false →
      exec (.nlcGutterStart n) s = .next
        (((s.setRx n { s.rxs n with nlcOn := true, nlcStop := false, flagged := true }).set (RXD.page n)
          RXD.NLC_STATUS_STATE 2).raise (Kind.RXD.pg n) RXD.ev_NLC_ON).settle) ∧
    ((s.rxs n).nlcLeave = true → exec (.nlcLeaveEnd n) s = .next
      (let st := s.get (RXD.page n) RXD.NLC_STATUS_STATE
       let t := (s.setRx n { s.rxs n with nlcLeave := false }).endLeave 8 n
       State.settle (if (st = 5 ∨ st = 2) ∧ !(t.rxs n).nlcStop then
         State.syncPower { t with pwr := { t.pwr with nlcStanding := t.pwr.nlcStanding.put n 4000 } } else t))) ∧
    (∀ (k : Fin 24) e, let t := s.sliceErrs n e
      exec (.sliceFail n k e) s = .next (State.settle (if e < 8 then t
        else (if (t.rxs n).failedSlices.contains k.val then t else t.sweepYield 1).sliceFail n k))) ∧
    (s.get (RXD.page n) RXD.SLICE_STATUS_SPARE_STATE = 1 →
      (s.rxs n).failedSlices.contains (s.get (RXD.page n) RXD.SLICE_STATUS_SLICE) = true →
      exec (.sliceHandover n) s = .next
        ((((((s.set (RXD.page n) RXD.SLICE_STATUS_SPARE_STATE 2).raise (Kind.RXD.pg n) RXD.ev_SLICE_SWAPPED).repair 2 1
          (locUnit n (s.get (RXD.page n) RXD.SLICE_STATUS_SLICE))).useSpare RPR.SPARES_SLICES).sweepSealed).settle)) ∧
    (∀ e, (s.sliceErrs n e).get (RXD.page n) RXD.SLICE_STATUS_SPARE_STATE = 1 → exec (.sliceShadowError n e) s = .next
      ((s.sliceErrs n e).set (RXD.page n) RXD.SLICE_STATUS_SPARE_STATE 3).sweepSealed.settle)

/-- Transmit mapping, mask checks, CD and skew moves, clipping (R192, R198, R200 to R203, R205).
The model's readings and choices it rests on: log entries 65, 66, 122, 136, 137. -/
def Obligations.TransmitRowsComplete : Prop :=
  ∀ s : State, s.running = true → ∀ n m : Fin 2,
    (∀ c streams r, (s.txs n).due = (c, streams) :: r → s.active (Kind.TXD.pg n) = true →
      (∀ st ∈ streams, streams.count st ≤ ((s.txs n).codedOf st c).length) →
      ∃ u : State, exec (.txFolioMap n) s = .next u.settle ∧ u.regs = s.regs ∧ (u.txs n).due = r ∧ (u.txs n).folio = c ∧
        (u.txs n).tapsInUse = (List.range 4).flatMap (s.preTaps n) ∧
        (∃ l : List (List Int), l.length = 4 ∧ u.out = s.out ++ l.map (Out.sent "dac"))) ∧
    (∀ c i y bits, s.subMuted n i = true → s.subSymbols n c i y bits = List.replicate (s.txSet n).sy {}) ∧
    (((s.txs n).mask m).checking = true → exec (.maskCheckDone n m) s = .next
      (let l := s.breakpoints n m
       let taps := s.maskTaps n m (1 - s.get (TXD.page n) (TXD.MASK_CTRL_BANK_ACTIVE m))
       let worst := (worstBin (maskMargins (s.baud n) (s.kSub n) l (binLevels (firPower taps)))).1
       let pass := !l.isEmpty && ascending l && decide (0 ≤ worst)
       let t := s.setTx n ((s.txs n).setMask m { (s.txs n).mask m with checking := false })
       let t := (t.set (TXD.page n) (TXD.MASK_CTRL_RESULT m) (if pass then 1 else 2)).raise (Kind.TXD.pg n)
         TXD.ev_MASK_CHECK_DONE
       (t.raiseIf (!pass) (Kind.TXD.pg n) TXD.ev_MASK_CHECK_FAIL).settle)) ∧
    (((s.txs n).mask m).exchangeDue = true → exec (.maskBankExchange n m) s = .next (s.maskExchange n m).settle) ∧
    (let sp := ((s.txs n).mask m).spectrum
      let w := worstBin (maskMargins (s.baud n) (s.kSub n) (s.breakpoints n m) (binLevels (sp.getD · 0)))
      let t := s.setTx n ((s.txs n).setMask m { (s.txs n).mask m with spectrum := [] })
      let u := (t.setI (TXD.page n) (TXD.MASK_MARGIN_MARGIN m) (clampI 32767 (nearest w.1))).setI (TXD.page n)
        (TXD.MASK_MARGIN_FREQ m) (nearest w.2)
      let f := u.raise (Kind.TXD.pg n) TXD.ev_MASK_LIVE_FAIL
      ((s.carries n m = false ∨ sp = []) → exec (.maskLiveMeasure n m) s = .next t.settle) ∧
      (s.carries n m = true → sp ≠ [] → exec (.maskLiveMeasure n m) s = .next (State.settle
        (if w.1 < -10 then
          if f.flag (TXD.page n) (TXD.MASK_CTRL_ACTION m) then
            (f.setTx n ((f.txs n).setMask m { (f.txs n).mask m with liveMuted := true })).showOut n
          else f
         else u)))) ∧
    (s.inConfig (Kind.TXD.pg n) = false → let c := s.getI (TXD.page n) TXD.CD_PRE_CURRENT
      let w := s.getI (TXD.page n) TXD.CD_PRE_TARGET
      c ≠ w → exec (.cdPreMove n) s = .next (s.cdPreTo n (if c < w then c + 1 else c - 1)).settle) ∧
    (s.active (Kind.TXD.pg n) = true → exec (.txSkewStep n false) s = .next (State.settle
      (each (List.range 4) (fun c t =>
        let v := t.getI (TXD.page n) (TXD.SKEW_CUR_SKW c)
        let w := t.getI (TXD.page n) (TXD.SKEW_SKW c)
        t.setI (TXD.page n) (TXD.SKEW_CUR_SKW c) (if v < w then v + 1 else if w < v then v - 1 else v)) s))) ∧
    exec (.clipCheck n) s = .next
      (((s.setTx n { s.txs n with clips := [0, 0, 0, 0] }).count (TXD.page n + TXD.CLIP_COUNT) (s.txs n).clips.sum).raiseIf
        ((s.txs n).clips.any (fun x => 18432 < x)) (Kind.TXD.pg n) TXD.ev_CLIP).settle

/-- Enabling and muting the output, Tables 6-4 and 6-5, and the SPI port of OCPn (R207, R208, R210).
The model's readings and choices it rests on: log entries 39, 65, 66. -/
def Obligations.OutputEnableRowsComplete : Prop :=
  ∀ s : State, s.running = true → ∀ n : Fin 2,
    (∀ r : Bool, exec (.unmuteStart n (some r)) s = .next
      (((s.setTx n { s.txs n with laserReady := r }).showOut n).unmutePoint n).settle) ∧
    exec (.unmuteStart n none) s = .next
      (((s.setTx n { s.txs n with waitDone := (s.txs n).waitDone || ((s.txs n).laserEn && s.laserWaited n) }).showOut n).unmutePoint
        n).settle ∧
    ((s.txs n).laserEn = true → (s.txs n).armed = false → s.laserWaited n = true → (s.txs n).laserReady = false →
      (s.setTx n { s.txs n with waitDone := true }).flag (TXD.page n) TXD.OCP_CFG_READY_EN = true →
      exec (.laserReadyTimeout n) s = .next
        ((s.setTx n { s.txs n with waitDone := true }).raise (Kind.TXD.pg n) TXD.ev_LASER_READY_TIMEOUT).settle) ∧
    (let g := rampGain (s.txs n) (s.now - (s.txs n).rampAt) (s.get (TXD.page n) TXD.OCP_CFG_UNMUTE_RAMP);
      ((s.txs n).ramp = .rising → 1000 ≤ g → exec (.outputRampDone n) s = .next
        ((s.setTx n { s.txs n with ramp := .steady, gain := 1000, rampAt := s.now }).showOut n).settle) ∧
      ((s.txs n).ramp = .falling → g = 0 → exec (.outputRampDone n) s = .next
        ((s.setTx n ({ s.txs n with ramp := .steady, gain := 0, rampAt := s.now } : TxState).enables).showOut n).settle)) ∧
    ((s.txs n).optActive = false → exec (.optFaultChange n true) s = .next
      (((s.raise (Kind.TXD.pg n) TXD.ev_OPT_FAULT).setTx n { s.txs n with optActive := true, optRecent := true }).optCause
        n).settle) ∧
    ((s.txs n).optActive = true → exec (.optFaultChange n false) s = .next
      ((s.setTx n { s.txs n with optActive := false, optRecent := true, optOffAt := s.now }).optCause n).settle) ∧
    ((s.txs n).optActive = false → (s.txs n).optOffAt + 100 * nsMs ≤ s.now → exec (.optFaultHoldoffExpiry n) s = .next
      ((s.setTx n { s.txs n with optRecent := false }).optCause n).settle) ∧
    (∀ rx w, (s.txs n).spiBusy = some (true, w) → exec (.ocpSpiTransferDone n rx) s = .next
      (((s.setTx n { s.txs n with spiBusy := none }).setWord (TXD.page n + TXD.OCP_SPI_RX) rx).spiStart n).settle) ∧
    (∀ rx w, (s.txs n).spiBusy = some (false, w) → exec (.ocpSpiTransferDone n rx) s = .next
      ((s.setTx n { s.txs n with spiBusy := none }).spiStart n).settle)

/-- The hub: windows, gutters, the burst map, the quiet span, join records (R218, R224 to R228).
The model's readings and choices it rests on: log entries 67, 68, 69, 125, 126. -/
def Obligations.HubRowsComplete : Prop :=
  ∀ s : State, s.running = true → ∀ n : Fin 2,
    exec (.windowLost n) s = .next (s.hubRefresh n).settle ∧
    (∀ (l : Fin 32) i, s.dedSub n l = some i → s.leafServing n l = true → (s.subc n i).st ≠ .track →
      (s.subc n i).lostAt + s.get (SUB.page n) SUB.RANGE_CFG_LOSS_N * nsMs ≤ s.now → exec (.dedicatedLossTimeout n l) s = .next (s.leafLost n l).settle) ∧
    (∀ (i : Fin 16) pos fd sw lo pk sk q,
      let c := s.subc n i
      let t := if c.swapDue then
          (s.setSubc n i { c with swapDue := false, taps := swapTaps c.taps }).raise (Kind.RXD.pg n) RXD.ev_POL_SWAP
        else s
      let stop := i.val = 0 && (t.rxs n).nlcStop && !(t.rxs n).flagged
      let t := if stop then t.nlcStopped n else t
      let t := t.gutterSeen n i pos fd sw lo pk sk
      let t := if i.val = 0 then t.setRx n { t.rxs n with flagged := stop } else t
      ((∀ l < 32, (t.role n = 1 ∧ t.dedSub n l = some i.val) → False) →
        exec (.rxGutterCorrelate n i pos fd sw lo pk sk q) s = .next t.settle) ∧
      (∀ l e, (List.range 32).find? (fun l => t.role n = 1 && t.dedSub n l = some i.val) = some l →
        let u := if (t.subc n i).st = .track then t.leafJoined n l else t
        exec (.rxGutterCorrelate n i pos fd sw lo pk sk none) s = .next u.settle ∧
        exec (.rxGutterCorrelate n i pos fd sw lo pk sk (some e)) s = .next
          ((u.hubArrival n l e).arrivalAvg n l (u.upFolio n) e).settle)) ∧
    (∀ f, s.role n = 1 → s.active (Kind.SUB.pg n) = true →
      let b := SUB.page n
      let g := f + 16
      let x := s.subst n
      let new := match x.switchAt with
        | some u => decide (u ≤ g)
        | none => false
      let bank := if new then s.get b SUB.SCHED_CTRL_BANK_ACTIVE else x.govBank
      let cyc := if new then s.get b SUB.SCHED_CTRL_CYCLE_LOG2 else x.govCycle
      let wins := ((s.bankWins n bank).map (·.2)).filter (fun w => w.folio = g % 2 ^ cyc && !s.inOldGuard n g w)
      let may := fun (w : SWin) => s.leafServing n w.leaf && !(w.subc = s.get b SUB.JOIN_CFG_SUBC
        && s.meetsQuiet n (g * tFolio + w.start * 125 : Nat) (g * tFolio + w.start * 125 + w.len * 2000 : Nat))
      let go := ((wins.filter may).foldr insertWin []).take 13
      exec (.burstMapFill n f) s = .next
        (let t := s.count (b + SUB.SUPPRESSED_COUNT) (wins.filter (fun w => !may w)).length
         let quiet := if t.flag b SUB.JOIN_CFG_EN && g % 2 ^ t.get b SUB.JOIN_CFG_PERIOD_LOG2 = 0
           then quietWord (t.get b SUB.JOIN_CFG_SUBC) (t.get b SUB.JOIN_CFG_START) else 0
         let pair := match x.assign with
           | [] => [0, 0]
           | a :: _ => [assignWord a, a.tag]
         let gr := go.map (fun w => ({ leaf := w.leaf, subc := w.subc, folio := g, start := w.start, len := w.len } : Grant))
         let t := t.setSub n { x with folio := f, grants := x.grants ++ gr, assign := x.assign.drop 1 }
         let t := t.set b SUB.HUB_STATUS_ASSIGN_QUEUED (x.assign.drop 1).length
         let words := (go.map grantWord ++ List.replicate (13 - go.length) 0) ++ quiet :: pair
         ((t.setFrm n { t.frms n with burstMap := words }).send "burstMap" ((n.val : Int) :: f ::
           words.map (fun (w : Nat) => (w : Int)))).settle)) ∧
    (∀ o : Bool, exec (.quietWindowOpen n o) s = .next ((s.setB (SUB.page n) SUB.HUB_STATUS_QUIET_OPEN
      (o && s.role n = 1 && s.flag (SUB.page n) SUB.JOIN_CFG_EN && s.active (Kind.SUB.pg n))).calHold n).settle) ∧
    (∀ (i : Fin 16) (r : BitVec 128), (Tab.get (fun _ => {}) (s.subst n).rx i.val : BurstRx).st = .join →
      let x := s.subst n
      let b := Tab.get (fun _ => {}) x.rx i.val
      let id := bitsOf r.toNat 0 64
      let tag := bitsOf r.toNat 64 32
      let t := s.setSub n { x with rx := Tab.put (fun _ => {}) x.rx i.val { b with st := .armed } }
      (bitsOf r.toNat 96 32 ≠ joinCrc id tag → exec (.joinDecision n i r) s = .next
        (t.logBurst n { verdict := 6, subc := i, l := b.latched, tag := tag }).settle) ∧
      (bitsOf r.toNat 96 32 = joinCrc id tag → t.flag (SUB.page n) SUB.JOIN_CFG_ADMIT = true →
        (∀ l < 32, (t.nat64 (SUBW.LEAFE n l + 20) = id ∧ t.flag (SUBW.LEAFE n l) SUBW.LEAFE_LISTED = true) → False) →
        exec (.joinDecision n i r) s = .next
          ((t.raise (Kind.SUB.pg n) SUB.ev_JOIN_REFUSED).logBurst n
            { verdict := 7, subc := i, l := b.latched, tag := tag }).settle) ∧
      (∀ (l : Nat) u, bitsOf r.toNat 96 32 = joinCrc id tag → t.flag (SUB.page n) SUB.JOIN_CFG_ADMIT = true →
        (List.range 32).find? (fun l => t.nat64 (SUBW.LEAFE n l + 20) = id && t.flag (SUBW.LEAFE n l) SUBW.LEAFE_LISTED) = some l →
        let off := ofSigned 22 (divRound (-b.latched.arrival) 500)
        t.assign n { leaf := l, action := 0, offset := off, tag := tag } = (true, u) →
        exec (.joinDecision n i r) s = .next
          (let a := SUBW.LEAFE n l
           let u := (u.setNat64 (a + 20) id).set a SUBW.LEAFE_LOFFSET off
           let u := (u.bump a SUBW.LEAFE_JOINS).set a SUBW.LEAFE_MISSED_RUN 0
           let u := (u.setI a SUBW.LEAFE_LCD (10 * b.latched.cd)).set a SUBW.LEAFE_LRSSI b.latched.rssi
           let u := u.set a SUBW.LEAFE_LSNR b.latched.snr
           let u := u.setLeafMem n l { cd := b.latched.cd, taps := defaultTaps (u.nTaps n), fd := b.latched.freq }
           let u := (u.setLeafSt n l leafVERIFY).logBurst n
             { verdict := 5, leaf := some l, subc := i, l := b.latched, tag := tag }
           State.settle (match u.dedSub n l with
             | none => u
             | some d => (u.assign n { leaf := l, action := 2, offset := d * 2 ^ 18, tag := 0 }).2))))

/-- The burst receiver, Table 7-7 (R233 to R239). The model's readings and choices it rests on: log entries 67, 69, 126. -/
def Obligations.BurstReceiverRowsComplete : Prop :=
  ∀ s : State, s.running = true → ∀ (n : Fin 2) (i : Fin 16),
    (∀ l : Fin 32, s.hasBurstRx n i = true → exec (.burstStateLoad n i l) s = .next (s.loadLeaf n i l).settle) ∧
    (∀ (cb : Bool) m st, s.hasBurstRx n i = true → 256 * s.get (SUB.page n) SUB.BURST_CFG_DET_TH ≤ m →
      (s.burstRx n i).st = .armed →
      exec (.burstDetection n i (if cb then none else some (m, st)) (if cb then some (m, st) else none)) s = .next
        (s.setBurstRx n i { s.burstRx n i with st := .syncSearch, corrB := cb, candM := m, captured := false }).settle) ∧
    (∀ (ma mb : Nat) (sa sb : Int), s.hasBurstRx n i = true → 256 * s.get (SUB.page n) SUB.BURST_CFG_DET_TH ≤ ma →
      256 * s.get (SUB.page n) SUB.BURST_CFG_DET_TH ≤ mb → (s.burstRx n i).st = .armed →
      exec (.burstDetection n i (some (ma, sa)) (some (mb, sb))) s = .next
        (s.setBurstRx n i { s.burstRx n i with
          st := .syncSearch, corrB := decide (ma < mb), candM := if ma < mb then mb else ma, captured := false }).settle) ∧
    (∀ (cb : Bool) m (st : Int) u, s.hasBurstRx n i = true → 256 * s.get (SUB.page n) SUB.BURST_CFG_DET_TH ≤ m →
      (s.burstRx n i).st = .payload → (s.burstRx n i).cur = some u →
      s.get (SUB.page n) SUB.CAPTURE_MARGIN ≠ 0xFF →
      -(u.latched.rssi : Int) + 10 * s.get (SUB.page n) SUB.CAPTURE_MARGIN ≤ st →
      exec (.burstDetection n i (if cb then none else some (m, st)) (if cb then some (m, st) else none)) s = .next
        (let t := s.setBurstRx n i { s.burstRx n i with st := .syncSearch, corrB := cb, candM := m, captured := true, cur := none }
         (((t.setSubc n i { t.subc n i with syms := [] }).raise (Kind.SUB.pg n) SUB.ev_COLLIDED).logBurst n
          { verdict := 2, leaf := some u.leaf, subc := i, intruded := u.intruded, l := u.latched }).settle)) ∧
    (∀ (j : Fin 33) (off : Int) metric folio rssi snr freq (arr : Int) cd adc g, j.val < 32 → (s.burstRx n i).st = .syncSearch →
      off.natAbs ≤ 8 → 256 * s.get (SUB.page n) SUB.BURST_CFG_SYNC_TH ≤ metric → (s.burstRx n i).captured = false →
      let mine := fun (g : Grant) => g.leaf = j.val && g.subc = i.val && g.folio = folio
      (s.subst n).grants.find? mine = some g → arr.natAbs ≤ 1000 * s.get (SUB.page n) SUB.BURST_CFG_WIN_TOL →
      exec (.burstSyncLatch n i j off metric folio rssi snr freq arr cd adc) s = .next
        (let r := s.burstRx n i
         let l : Latched := { rssi := rssi, snr := snr, freq := freq, arrival := arr, metric := min 255 (r.candM / 256), cd := cd }
         let x := s.subst n
         let t := s.setSub n { x with grants := x.grants.map (fun g => if mine g then { g with latched := true } else g) }
         let u : Burst := { leaf := j, folio := folio, start := g.start, len := g.len, latched := l }
         let t := t.setBurstRx n i { r with st := .payload, captured := false, latched := l, cur := some u }
         let t := t.burstTrain n i j adc
         let t := t.setSubc n i { t.subc n i with pos := t.burstFrom n u }
         let a := SUBW.LEAFE n j
         let t := ((t.set a SUBW.LEAFE_LRSSI rssi).set a SUBW.LEAFE_LSNR snr).set a SUBW.LEAFE_MISSED_RUN 0
         (t.hubArrival n j arr).settle)) ∧
    ((s.burstRx n i).st = .syncSearch → exec (.burstNoSync n i) s = .next
      ((s.setBurstRx n i { s.burstRx n i with st := .armed, captured := false }).logBurst n { verdict := 8, subc := i }).settle) ∧
    ((s.burstRx n i).st = .payload → let c := s.subc n i
      let kept := (s.burstRx n i).cur.map (fun u => { u with cd := c.cd, taps := c.taps, fd := c.fd })
      exec (.burstRampDown n i) s = .next
        ((s.deliverSoft n i).setBurstRx n i { s.burstRx n i with st := .armed, cur := none, ended := kept }).settle) ∧
    (∀ u p, (s.burstRx n i).ended = some u → Tab.get (fun _ => none) (s.fecs n).toFrm i.val = some p →
      exec (.burstVerdict n i) s = .next
      (let t := (s.setBurstRx n i { s.burstRx n i with ended := none, last := some u }).logBurst n
         { verdict := if p.unc + p.absent = 0 then 0 else 1, leaf := some u.leaf, subc := i, intruded := u.intruded,
           l := u.latched, uncorr := p.unc }
       let t := t.setLeafMem n u.leaf { t.leafMem n u.leaf with cd := u.cd, taps := u.taps, fd := u.fd }
       ((t.leafJoined n u.leaf).arrivalAvg n u.leaf u.folio u.latched.arrival).settle)) ∧
    (∀ (leaf : Fin 32) folio g,
      let mine := fun (g : Grant) => g.leaf = leaf.val && g.subc = i.val && g.folio = folio
      (s.subst n).grants.find? mine = some g → g.latched = false → exec (.burstWindowMissing n i leaf folio) s = .next
        (let x := s.subst n
         let t := s.setSub n { x with grants := x.grants.filter (fun g => !mine g) }
         let t := (t.logBurst n { verdict := 4, leaf := some leaf.val, subc := i }).bump (SUBW.LEAFE n leaf) SUBW.LEAFE_MISSED_RUN
         State.settle (if t.get (SUB.page n) SUB.RANGE_CFG_LOSS_N ≤ t.get (SUBW.LEAFE n leaf) SUBW.LEAFE_MISSED_RUN &&
           t.leafServing n leaf then t.leafLost n leaf else t)))

/-- The leaf's machine, Table 7-6 (R225, R231). The model's readings and choices it rests on: log entries 67, 68, 138. -/
def Obligations.LeafRowsComplete : Prop :=
  ∀ s : State, s.running = true → ∀ n : Fin 2,
    (∀ f entries, s.role n = 2 → s.active (Kind.SUB.pg n) = true → exec (.burstMapDecode n f entries) s = .next
      (let x := s.subst n
       let w := fun k => (entries.getD k 0).toNat
       let grants := ((List.range 13).map w).filter (fun v => bitsOf v 30 2 = 1)
       let pair := if bitsOf (w 14) 30 2 = 3 then
           [LeafDo.assign { leaf := bitsOf (w 14) 25 5, action := bitsOf (w 14) 22 3, offset := bitsOf (w 14) 0 22, tag := w 15 }]
         else []
       let t := s.setSub n { x with
         folio := f
         leafDue := x.leafDue.filter (fun d => f < d.1) ++ (pair ++ grants.map LeafDo.grant).map (fun d => (f + 16, d)) }
       let t := each (x.leafDue.filter (fun d => d.1 ≤ f)) (fun d t => t.leafAct n d) t
       State.settle (if bitsOf (w 13) 30 2 = 2 && t.leafState n = 1 then
           (if (t.subst n).backoff = 0 then t.sendJoin n (f + 16) (bitsOf (w 13) 21 4) (bitsOf (w 13) 11 10)
            else t.setSub n { t.subst n with backoff := (t.subst n).backoff - 1 })
         else t))) ∧
    (s.role n = 2 → s.leafState n = 0 → s.carrier n = cUP → (s.subc n 0).st = .track → s.frmAligned n = true →
      s.active (Kind.SUB.pg n) = true → exec (.leafJoinStart n) s = .next (s.waitQuiet n).settle) ∧
    (s.leafState n = 2 → s.leafFor n (s.get (SUB.page n) SUB.LEAF_CFG_REPLY_WAIT) = true → exec (.leafReplyTimeout n) s = .next
      ((s.waitQuiet n).raise (Kind.SUB.pg n) SUB.ev_JOIN_NO_REPLY).settle) ∧
    (s.leafState n = 3 → exec (.leafFirstBurst n) s = .next
      ((s.setLeafState n 4).raise (Kind.SUB.pg n) SUB.ev_LEAF_IN_SERVICE).settle) ∧
    (s.role n = 2 → 1 ≤ s.leafState n → s.leafState n ≤ 4 → s.frmAligned n = false → exec (.leafHoldEntry n) s = .next
      (((s.setSub n { s.subst n with leafHeld := s.leafState n, bursts := [] }).setLeafState n 5).send "rampToZero" [n]).settle) ∧
    (s.leafState n = 5 → s.leafFor n (s.get (SUB.page n) SUB.LEAF_CFG_HOLD) = true → exec (.leafHoldTimeout n) s = .next (s.leafIdle n).settle)

/-- Encoding, decoding and its counters, the engines, the measurement period (R175 to R177, R223, R243, R251 to R254, R259 to R263,
R266, R268). The model's readings and choices it rests on: log entries 17, 61, 63, 70, 136, 139. -/
def Obligations.FecRowsComplete : Prop :=
  ∀ s : State, s.running = true → ∀ n : Fin 2,
    (∀ i c bits r, Tab.get (fun _ => []) (s.fecs n).txIn i = (c, bits) :: r → s.active (Kind.FEC.pg n) = true →
      exec (.fecEncode n i) s = .next
        (let t := s.setFec n { s.fecs n with txIn := Tab.put (fun _ => []) (s.fecs n).txIn i r }
         let x := t.txs n
         let out := fecEncode (t.get (FEC.page n) FEC.CTRL_PROFILE) bits
         (t.setTx n { x with
           coded := Tab.put (fun _ => []) x.coded i (Tab.get (fun _ => []) x.coded i ++ [(c, out)]) }).settle)) ∧
    (∀ u, (s.subst n).switchAt = some u → exec (.schedSwitch n) s = .next
      (let t := s.setSub n { s.subst n with
         switchAt := none
         govBank := s.get (SUB.page n) SUB.SCHED_CTRL_BANK_ACTIVE
         govCycle := s.get (SUB.page n) SUB.SCHED_CTRL_CYCLE_LOG2 }
       ((t.raise (Kind.SUB.pg n) SUB.ev_SCHED_APPLIED).fecStructShort n).settle)) ∧
    (∀ i, s.serves (Kind.FEC.pg n) = true → (s.decoded n i).length < (s.rxStream n i).2 →
      let prof := s.get (FEC.page n) FEC.CTRL_PROFILE
      let cap := s.get (FEC.page n) FEC.CAP_STATUS_EFF
      let pos := s.codewordIn n i (s.decoded n i).length
      let v0 := fun (k : Nat) => ((pos[k]?).map SoftPos.value).getD 0
      let absent := (pos.filter SoftPos.isAbsent).length
      let t := (s.count64 (FEC.page n + FEC.CW_DECODED) 1).countLimits n
      let t := t.setFec n { t.fecs n with avgSum := (t.fecs n).avgSum + t.deltaM n cap, avgN := (t.fecs n).avgN + 1 }
      let run := ldpcRun (t.baseRows n prof) cap 0 ⟨v0, fun _ _ _ => 0⟩
      exec (.codewordDecode n i) s = .next (State.settle
        (if 7680 < absent then
          ((s.count (FEC.page n + FEC.ABSENT_CW)).count64 (FECW.HIST n 27) 1).addDecoded n i ⟨2, hardBits (ldpcK prof) v0⟩
         else run.1.elim (t.addDecoded n i ⟨1, hardBits (ldpcK prof) run.2.v⟩) (fun k =>
          (t.countConverged n pos run.2.v k).addDecoded n i ⟨0, hardBits (ldpcK prof) run.2.v⟩)))) ∧
    (∀ i (k : Fin 25), s.serves (Kind.FEC.pg n) = true → (s.decoded n i).length < (s.rxStream n i).2 →
      exec (.lateCodeword n i k) s = .next
        (let prof := s.get (FEC.page n) FEC.CTRL_PROFILE
         let pos := s.codewordIn n i (s.decoded n i).length
         let t := s.setFec n { s.fecs n with
           avgSum := (s.fecs n).avgSum + s.deltaM n (s.get (FEC.page n) FEC.CAP_STATUS_EFF), avgN := (s.fecs n).avgN + 1 }
         let t := ((t.count64 (FEC.page n + FEC.CW_DECODED) 1).countLimits n).count (FEC.page n + FEC.LATE_CW)
         let x := (ldpcRun (t.baseRows n prof) k 0 ⟨fun j => ((pos[j]?).map SoftPos.value).getD 0, fun _ _ _ => 0⟩).2
         ((t.addDecoded n i ⟨1, hardBits (ldpcK prof) x.v⟩).raise (Kind.FEC.pg n) FEC.ev_LATE).settle)) ∧
    (∀ i d nc, s.serves (Kind.FEC.pg n) = true → s.rxStream n i = (d, nc) → (s.decoded n i).length = nc → nc ≠ 0 →
      let dec := s.decoded n i
      let words := bchWordsOf d (dec.flatMap (·.bits))
      let failed := (words.filter (·.2.isNone)).length
      let corrected := (words.map (fun w => (w.2.map (·.2)).getD 0)).sum
      let open_ := (dec.filter (·.kind = 1)).length
      let unc := if failed = 0 then 0 else open_
      let pass : Passed := { bytes := bytesOfBits (bchOut d words), unc := unc,
                             absent := (dec.filter (·.kind = 2)).length, failed := failed != 0,
                             absent0 := (dec.head?.map (·.kind)) = some 2 }
      let hand := fun (t : State) => t.setFec n { t.fecs n with
        soft := (t.rxSubs n i).foldl (fun t i => Tab.put (fun _ => []) t i []) (t.fecs n).soft
        dec := Tab.put (fun _ => []) (t.fecs n).dec i []
        toFrm := Tab.put (fun _ => none) (t.fecs n).toFrm i (some pass) }
      let t := s.count64 (FEC.page n + FEC.BCH_CORR_BITS) corrected
      let t := t.count64 (FECW.HIST n (if failed = 0 then 25 else 26)) open_
      let t := (t.count64 (FEC.page n + FEC.UNCORR_CW) unc).count (FEC.page n + FEC.BCH_FAILED) failed
      let t := if unc = 0 then t else (t.count (FEC.page n + FEC.UNCORR_FOLIOS)).raise (Kind.FEC.pg n) FEC.ev_UNCORR
      let t := each (List.range (min 2 failed)) (fun _ t => t.raise (Kind.FEC.pg n) FEC.ev_BCH_FAIL) t
      exec (.bchDecode n i) s = .next (hand t).settle) ∧
    (∀ ap sp x r, (s.fecs n).spares = x :: r →
      let f := s.fecs n
      let u := f.active.getD (f.shadow % max 1 f.active.length) 0
      let t := s.setFec n { f with shadow := (f.shadow + 1) % max 1 f.active.length }
      exec (.engineShadowCheck n false ap sp) s = .next t.settle ∧
      exec (.engineShadowCheck n true true true) s = .next (t.bump (FEC.page n) FEC.ENGINES_MISMATCHES).settle ∧
      exec (.engineShadowCheck n true true false) s = .next ((t.sweepYield 2).engineSpareFail n x).settle ∧
      exec (.engineShadowCheck n true false true) s = .next ((t.sweepYield 2).engineFail n u).settle) ∧
    (∀ d x r, (s.fecs n).joinDue = d + 1 → (s.fecs n).spares = x :: r →
      exec (.engineSpareJoin n true) s = .next
        (let t := s.setFec n { s.fecs n with active := sortNat (x :: (s.fecs n).active), spares := r, joinDue := d }
         ((((t.raise (Kind.FEC.pg n) FEC.ev_ENGINE_SPARED).useSpare RPR.SPARES_ENGINES).showEngines n).fecStructShort n).settle) ∧
      exec (.engineSpareJoin n false) s = .next ((s.sweepYield 2).engineSpareFail n x).settle) ∧
    (s.measDue n = true → exec (.measPeriodEnd n) s = .next
      (let t := (each (s.usedSubs n) (fun i t => t.latchMeas n i) s).latchBer n
       let f := t.fecs n
       let avg := if f.avgN = 0 then 0 else (2 * f.avgSum + f.avgN) / (2 * f.avgN)
       let t := (t.set (FEC.page n) FEC.MARGIN_AVG avg).setFec n { f with avgSum := 0, avgN := 0 }
       (t.setRx n { t.rxs n with measFrom := t.now, measQuire := s.gridNow n }).settle))

/-- Received folios, signal degrade, burst spines, transmitted folios (R271 to R300, R303).
The model's readings and choices it rests on: log entries 71, 72, 73, 138, 143. -/
def Obligations.FrameRowsComplete : Prop :=
  ∀ s : State, s.running = true → ∀ (n : Fin 2) (i : Fin 16),
    (∀ p, s.frmReceives n i = true → Tab.get (fun _ => none) (s.fecs n).toFrm i.val = some p → (s.stream n i).locked = false →
      exec (.folioRx n i) s = .next
        (let x := s.stream n i
         let t := s.setFec n { s.fecs n with toFrm := Tab.put (fun _ => none) (s.fecs n).toFrm i none }
         let t := if p.absent != 0 then t.count (FRM.page n + FRM.ABSENT_FOLIOS) else t
         let t := (t.missedFields n i none).searchPass n i p.bytes
         let t := t.setStream n i { t.stream n i with lastErr := p.unc != 0 }
         let t := if p.unc != 0 then t.erroredFolio n i else t
         let t := (t.uncFolio n i (p.absent != 0 || p.unc != 0)).showFrm n
         let y := t.stream n i
         let bad := !y.locked || y.unc || p.absent != 0 || t.blk (Kind.FRM.pg n) = bFAULT
         let t := t.pm n (fun z => { z with defect := z.defect || bad, rdi := z.rdi || y.rdiRx })
         (t.giveSlots n i true y.sd false
           (scrFolio x.expected (((x.held ++ p.bytes).drop x.lead).take p.bytes.length))).settle)) ∧
    (∀ p, s.frmReceives n i = true → Tab.get (fun _ => none) (s.fecs n).toFrm i.val = some p → (s.stream n i).locked = true →
      (s.stream n i).lead = 0 → (s.stream n i).held = [] → p.unc = 0 → p.absent = 0 →
      exec (.folioRx n i) s = .next
        (let t := s.setFec n { s.fecs n with toFrm := Tab.put (fun _ => none) (s.fecs n).toFrm i none }
         let t := t.setStream n i { s.stream n i with lead := 0, held := [] }
         let r := t.lockedFolio n i p.absent0 p.bytes
         let t := r.1.setStream n i { r.1.stream n i with lastErr := false }
         let t := (t.uncFolio n i false).showFrm n
         let y := t.stream n i
         let bad := !y.locked || y.unc || t.blk (Kind.FRM.pg n) = bFAULT
         let t := t.pm n (fun z => { z with defect := z.defect || bad, rdi := z.rdi || y.rdiRx })
         (t.giveSlots n i (t.slotsOnes n i false false) y.sd r.2 (scrFolio (s.stream n i).expected p.bytes)).settle)) ∧
    (s.frmReceives n i = true → Tab.get (fun _ => none) (s.fecs n).toFrm i.val = none → exec (.folioRx n i) s = .next s.settle) ∧
    (s.frmReceives n i = true → exec (.sdSecond n i) s = .next
      (let x := s.stream n i
       let set_ := x.wholeSecond && x.locked && !x.sd && decide (s.get (FRM.page n) FRM.SD_CFG_SET ≤ x.bipSecond)
       let clr := x.wholeSecond && x.locked && x.sd && decide (x.bipSecond < s.get (FRM.page n) FRM.SD_CFG_CLEAR)
       let t := s.setStream n i { x with sd := (x.sd || set_) && !clr, bipSecond := 0, wholeSecond := x.locked }
       (((t.raiseIf set_ (Kind.FRM.pg n) FRM.ev_SD_SET).raiseIf clr (Kind.FRM.pg n) FRM.ev_SD_CLEAR).showFrm n).settle)) ∧
    (∀ u p, (s.burstRx n i).last = some u → Tab.get (fun _ => none) (s.fecs n).toFrm i.val = some p →
      let raw := p.bytes
      let c := countOf false raw
      let plain := scrFolio c raw
      let t := (s.setBurstRx n i { s.burstRx n i with last := none }).setFec n
        { s.fecs n with toFrm := Tab.put (fun _ => none) (s.fecs n).toFrm i none }
      (t.fawMatch n false raw = true → raw.getD 12 0 = u.leaf → c = (u.folio + t.payFolios n u.start) % 2 ^ 32 →
        exec (.burstSpineCheck n i) s = .next
          (let e := popcount 64 (bip64 (raw.drop 64) ^^^ beNat (sub_ plain 16 8))
           let bei := plain.getD 14 0
           let t := (t.count64 (FRM.page n + FRM.BIP_ERRS) e).count64 (FRM.page n + FRM.BEI_ERRS) bei
           let t := t.pm n (fun y => { y with bip := y.bip + e, bei := y.bei + bei })
           let t := t.mcUnit n false (raw.getD 12 0 :: sub_ plain 24 8)
           (t.giveBurst n u.leaf true plain).settle)) ∧
      ((t.fawMatch n false raw = false ∨ raw.getD 12 0 ≠ u.leaf ∨ c ≠ (u.folio + t.payFolios n u.start) % 2 ^ 32) →
        exec (.burstSpineCheck n i) s = .next
          (((t.count (FRM.page n + FRM.SPINE_BAD)).raise (Kind.FRM.pg n) FRM.ev_SPINE_BAD).giveBurst n u.leaf false plain).settle)) ∧
    (∀ core, s.frmSends n = true → s.unitsReady n (s.frms n).txCount = true → exec (.folioTx n core) s = .next
      (let b := FRM.page n
       let f := s.frms n
       let c := f.txCount
       let first := c % 256 = 0
       let ps := if s.flag b FRM.CTRL_PS_HOST then s.nat (b + FRM.PS_TX) else s.nat (GTH.page + GTH.PS_TX)
       let t := s.raiseIf (first && f.verUsed != f.verAgreed) (Kind.FRM.pg n) FRM.ev_VERSION_CHANGE
       let t := t.setFrm n { f with
         psSend := if first then ps else f.psSend
         verUsed := if first then f.verAgreed else f.verUsed }
       let t := t.setB b FRM.DEFECTS_RDI_TX (t.flag b FRM.CTRL_RDI_EN && t.rdiCause n)
       let a := t.mcSend n false 8 none
       let m := if a.2.role n = 2 then ([], a.2) else a.2.mcSend n true 32 (core.map (·.map (·.toNat)))
       let parts := (m.2.txStreams n).map (fun i => ({ stream := i, payload := m.2.streamPayload n i } : TxPart)) ++ m.2.burstParts n c
       let t := (m.2.takeUnits n).takeBursts n c
       let outs := parts.map (fun x => (x, t.txStream n c a.1 m.1 x))
       let hl := fun (x : TxPart) => if t.role n != 2 && x.stream = 0 then 1024 else 64
       let t := each outs (fun x u => if x.1.burst.isSome then u else
         u.setFrm n { u.frms n with bipTx := Tab.put (fun _ => 0) (u.frms n).bipTx x.1.stream (bip64 (x.2.drop (hl x.1))) }) t
       ((t.setFrm n { t.frms n with txCount := (c + 1) % 2 ^ 40, tagsPrev := (t.frms n).txTags }).handFolio n c outs).settle))

/-- Overhead ports and performance monitoring (R291 to R293, R305 to R310).
The model's readings and choices it rests on: log entry 89. -/
def Obligations.OverheadPortsAndPmbComplete : Prop :=
  ∀ s : State, s.running = true →
    (∀ (n : Fin 2) u r, s.active Kind.OSP.pages.1 = true → (s.frms n).mc0 = u :: r → exec (.ospExtractUnit n false) s = .next
      (State.settle (each ((List.range 4).filter (fun p => s.flag OSP.page (OSP.PORT_CFG_EXT_EN p)
          && s.get OSP.page (OSP.PORT_CFG_CARRIER p) = n.val && s.flag OSP.page (OSP.PORT_CFG_CHAN p) = false))
        (fun p t => t.send "osp" ((p : Int) :: u.map (fun (v : Nat) => (v : Int))))
        (s.setFrm n { s.frms n with mc0 := r })))) ∧
    (∀ (n : Fin 2) u r, s.active Kind.OSP.pages.1 = true → (s.frms n).mc1 = u :: r → exec (.ospExtractUnit n true) s = .next
      (State.settle (each ((List.range 4).filter (fun p => s.flag OSP.page (OSP.PORT_CFG_EXT_EN p)
          && s.get OSP.page (OSP.PORT_CFG_CARRIER p) = n.val && s.flag OSP.page (OSP.PORT_CFG_CHAN p) = true))
        (fun p t => t.send "osp" ((p : Int) :: u.map (fun (v : Nat) => (v : Int))))
        (s.setFrm n { s.frms n with mc1 := r })))) ∧
    (∀ (p : Fin 4) (unit : List (BitVec 8)), s.active Kind.OSP.pages.1 = true → s.flag OSP.page (OSP.PORT_CFG_INS_EN p) = true →
      exec (.ospInsertUnit p unit true) s = .next
        ((s.count (OSP.page + OSP.INS_SHORT p)).raise Kind.OSP.pages.1 OSP.ev_INS_SHORT).settle ∧
      ((s.ospFifo p).length < 16 → exec (.ospInsertUnit p unit false) s = .next
        (s.setOspFifo p (s.ospFifo p ++ [unit.map (·.toNat)])).settle) ∧
      (16 ≤ (s.ospFifo p).length → exec (.ospInsertUnit p unit false) s = .next
        ((s.count (OSP.page + OSP.INS_OVERFLOWS p)).raise Kind.OSP.pages.1 OSP.ev_INS_OVERFLOW).settle)) ∧
    (s.active Kind.PMB.pages.1 = true → exec .pmbSecondEnd s = .next
      (let t := s.pmTime
       let u := each (List.range 66) (fun e u =>
         let x := u.pmEnt e
         let next : PmSecond := { defect := u.pmDefect e }
         if s.pmEntities.contains e then
           u.setPmEnt e { x with cur := next, past := x.past ++ [{ x.cur with sec := t / nsSec - 1 }] }
         else u.setPmEnt e {}) s
       let q := pmInterval t % 2 ^ 32
       let d := pmDay t % 2 ^ 32
       let u := u.raiseIf (decide (q ≠ u.nat (PMB.page + PMB.INTERVAL))) Kind.PMB.pages.1 PMB.ev_BIN_END
       let u := u.raiseIf (decide (d ≠ u.nat (PMB.page + PMB.DAY))) Kind.PMB.pages.1 PMB.ev_DAY_END
       ((u.setNat (PMB.page + PMB.INTERVAL) q).setNat (PMB.page + PMB.DAY) d).settle)) ∧
    (exec .pmbSecondFinal s = .next (State.settle (each (List.range 66) (fun e u =>
      let x := u.pmEnt e
      let k := if e < 2 then 0 else 1
      match x.past with
      | y :: r =>
        if r.length < 10 then u
        else
          let w := (y :: r).take 10
          let un := if x.unavail then !(w.all (fun z => !z.ses k)) else w.all (fun z => z.ses k)
          (u.setPmEnt e { x with past := r, unavail := un }).pmEnter k (if k = 0 then e else e - 2) y un
      | [] => u) s))) ∧
    (∀ (e : Fin 262144) lost, s.flag PMB.page PMB.CTRL_EP_EN = true → s.active Kind.PMB.pages.1 = true →
      let x : EpCounts := Tab.get (fun _ => {}) s.pmb.eps e.val
      let record := fun (day : Bool) => s.epRecord e (pmBin day (if day then pmDay s.pmTime else pmInterval s.pmTime))
      let waits := ([false, true].map (fun d => (s.physPage (s.tableWord (record d)).1).1)).filter (fun c => s.chOver c && !s.chDown c)
      (x.c.any (· ≠ 0)) = true →
        ((s.eccServes = false ∨ waits = []) → exec (.epRecordFlush e lost) s = .next
          (let t := { s with pmb := { s.pmb with eps := Tab.put (fun _ => {}) s.pmb.eps e.val {} } }
           ((t.epBin e x.c false lost).epBin e x.c true lost).settle)) ∧
        (s.eccServes = true → waits ≠ [] → exec (.epRecordFlush e lost) s = .next
          (each waits (fun c t => t.count (MEM.page c + MEM.DEFERRED)) s).settle))

/-- Gathering units, received markers, protection groups, unit output (R325 to R350).
The model's readings and choices it rests on: log entries 74, 142, 144, 145. -/
def Obligations.GatheringRowsComplete : Prop :=
  ∀ s : State, s.running = true →
    (∀ (g : Fin 64) room t bytes u, s.gthEn g = true → s.blk Kind.GTH.pages.1 ≠ bOFF → s.blk Kind.GTH.pages.1 ≠ bCONFIG →
      s.unitRoom g = some (room, t) →
      let ao := !s.gthRuns || (s.transparent g && s.clientFailed g)
      let prot := match s.groupOf g with
        | some (q, true) => some (s.flag GTH.page (GTH.PG_STATUS_BR q))
        | _ => none
      (if ao then some (List.replicate room 0xFF, t) else if prot.isSome then some (List.replicate room 0, t)
        else t.unitBody g room) = some (bytes, u) →
      exec (.gthTxUnit g) s = .next
        (let n := (u.gth g).gsnNext
         let v := u.setGth g { u.gth g with
           gsnNext := (n + 1) % 2 ^ 32
           txUnits := (u.gth g).txUnits ++ [{ gsn := n, ones := ao, bridged := prot = some true, bytes := bytes }] }
         ((v.set (GTHW.STAT g) GTHW.STAT_GSN_TX n).send "unit"
           [(g.val : Int), (n : Int), (b2n ao : Nat), (b2n (prot = some false) : Nat)]).settle)) ∧
    (∀ (g : Fin 64) (p : Fin 2) d t, s.gthEn g = true → s.partIn g p = some (d, t) →
      let far := t.notCarried g p
      let v := if d.own then t else t.tagIn g p ((t.gth g).part p).last (if far then none else d.tag)
      let y := (v.gth g).part p
      let m := if far then none else d.marker
      let unit := fun (k : Nat) => ({
        gsn := k, t := d.at_, ao := d.ones || far, sd := d.sd, data := d.bytes, phase := if far then none else d.phase,
        tag := if d.own then some d.tag else none } : Machine.PUnit)
      (s.collates g = false → p = 0 → exec (.gatheringMarkerRx g p) s = .next
        (let k := m.getD ((y.last + 1) % 2 ^ 32)
         ((v.setGth g ((v.gth g).setPart p
          { y with
            st := if v.singleLocked g then .in_ else .acquire, last := k
            units := y.units ++ [unit k] })).showPart g).settle)) ∧
      (s.collates g = true → (y.st = .acquire ∨ y.st = .off) →
        (y.acquire (v.get GTH.page GTH.LOSS_CFG_LOCK_N) m unit).st = .acquire →
        exec (.gatheringMarkerRx g p) s = .next
          ((v.setGth g ((v.gth g).setPart p (y.acquire (v.get GTH.page GTH.LOSS_CFG_LOCK_N) m unit))).showPart g).settle)) ∧
    (∀ (g : Fin 64) (p : Fin 2), s.gthEn g = true → (s.collates g = true ∨ p = 0) → s.partIn g p = none →
      exec (.gatheringMarkerRx g p) s = .next s.settle) ∧
    (∀ (q : Fin 4), s.flag GTH.page (GTH.PG_CFG_EN q) = true →
      (s.held (s.pgrp q).failFromW (s.holdOff q) = true → exec (.pgHoldOffExpiry q false) s = .next
        (s.pgCond q true (s.flag GTH.page (GTH.PG_STATUS_SD_W q)) (s.flag GTH.page (GTH.PG_STATUS_SF_P q))).settle) ∧
      (s.held (s.pgrp q).failFromP (s.holdOff q) = true → exec (.pgHoldOffExpiry q true) s = .next
        (s.pgCond q (s.flag GTH.page (GTH.PG_STATUS_SF_W q)) (s.flag GTH.page (GTH.PG_STATUS_SD_W q)) true).settle)) ∧
    (∀ (q : Fin 4), s.held (s.pgrp q).wtrEnd 0 = true → exec (.pgWtrExpiry q) s = .next
      ((s.setPgrp q { s.pgrp q with wtrEnd := none }).pgEval q).settle) ∧
    (∀ (q : Fin 4), s.held (s.pgrp q).fopFrom (50 * nsMs) = true → exec (.pgFop q) s = .next
      (s.raise Kind.GTH.pages.1 GTH.ev_PG_FOP).settle) ∧
    (∀ (g : Fin 64) v r, s.gthEn g = true → s.collates g = false → (s.gth g).p0.units = v :: r →
      (s.setGth g { s.gth g with p0 := { (s.gth g).p0 with units := r } }).groupOf g = none →
      exec (.unitOutput g) s = .next
        (State.settle ((s.setGth g { s.gth g with p0 := { (s.gth g).p0 with units := r } }).hand g v.gsn
          (!s.gthRuns || v.ao || (s.gth g).p0.st != .in_) false g [some v])))

/-- Key loads, encrypted and verified units, the CRY self-test, key agreement (R352 to R379).
The model's readings and choices it rests on: log entries 75, 76, 77, 141, 142. -/
def Obligations.KeyAndAgreementRowsComplete : Prop :=
  ∀ s : State, s.running = true →
    (∀ (g : Fin 64) served k, ((s.ctx g).txLoad = some k → exec (.keyLoadDone g true served) s = .next (s.endLoad g true served k).settle) ∧
      ((s.ctx g).rxLoad = some k → exec (.keyLoadDone g false served) s = .next (s.endLoad g false served k).settle)) ∧
    (∀ (g : Fin 64) u r, (s.gth g).txUnits = u :: r →
      let t := s.setGth g { s.gth g with txUnits := r }
      let ones := List.replicate u.bytes.length 0xFF
      (∀ q, t.groupOf g = some (q, true) → exec (.cryTxUnit g) s = .next
        (let ao := u.ones || t.cryIdle
         let l := t.protUnit (t.get GTH.page (GTH.PG_CFG_W q)) { u with ones := ao }
         State.settle ((t.lineOut g (if t.cryIdle then { l with bytes := ones } else l)).send "cipher"
           [(g.val : Int), (u.gsn : Int), (b2n ao : Nat), 0]))) ∧
      ((∀ q, t.groupOf g ≠ some (q, true)) → t.suite g = 0 → exec (.cryTxUnit g) s = .next
        (let bad := u.ones || t.cryIdle
         State.settle ((t.lineOut g { gsn := u.gsn, phase := false, tag := 0, bytes := if bad then ones else u.bytes }).send "cipher"
           [(g.val : Int), (u.gsn : Int), (b2n bad : Nat), 0]))) ∧
      let v := (t.suiteVersion g).ctrWarn g u.gsn
      ((∀ q, t.groupOf g ≠ some (q, true)) → t.suite g ≠ 0 → v.txMaySwitch g u.gsn = false → u.ones = false →
        (v.ctx g).txCur.isSome = true → (v.ctx g).exhausted = false → v.txCounter g u.gsn ≠ 2 ^ 32 - 1 →
        let w := v.set (CRYW.CTX g) CRYW.CTX_TX_CTR (v.txCounter g u.gsn)
        w.cryFails g (v.ctx g).refetchTx = false →
        exec (.cryTxUnit g) s = .next
          (State.settle ((w.nextFree.lineOut g { gsn := u.gsn, phase := w.flag (CRYW.CTX g) CRYW.CTX_TX_PHASE
                                                 tag := w.freeVal % 2 ^ 128
                                                 bytes := w.cipherBytes Config.cipherByte u.bytes.length }).send "cipher"
             [(g.val : Int), (u.gsn : Int), 0, (v.txCounter g u.gsn : Int)])))) ∧
    (∀ (g : Fin 64) okSel okOther left h r, (s.gth g).handed = h :: r →
      let bytes := h.bytes (s.onePlusOne g)
      let len := if h.failed then s.unitBytes g else bytes.length
      let t := (s.setGth g { s.gth g with handed := r }).suiteVersion g
      (s.suite g = 0 → t.suite g = 0 → (t.cryIdle && !h.failed) = false → exec (.cryRxUnit g okSel okOther left) s = .next
        (State.settle (((t.setGth g { t.gth g with cryFailed := false }).toEgress g (!h.failed)
          (if h.failed then List.replicate len 0xFF else bytes)).send "plain"
          [(g.val : Int), (h.gsn : Int), (b2n (!h.failed) : Nat)]))) ∧
      (t.suite g ≠ 0 → h.failed = false → h.tagDue = false → exec (.cryRxUnit g okSel okOther left) s = .next
        (State.settle ((t.gradeCopies g h.sel okSel (h.other && okOther)).verify g h.gsn len left h.agree (h.phases.headD false)
          (okSel || (h.other && okOther))
          (okSel || (!t.flag (CRYW.KEY g) CRYW.KEY_RELEASE && (h.other && okOther))))))) ∧
    (∀ pass, s.flag CRY.page CRY.SELFTEST_RUNNING = true → s.hasLeave 7 0 = true → exec (.crySelfTestDone pass) s = .next
      (let t := (s.endLeave 7 0).setB CRY.page CRY.SELFTEST_RUNNING false
       let t := t.set CRY.page CRY.SELFTEST_RESULT (if pass then 1 else 2)
       let t := { t with cryPassed := t.cryPassed || pass }
       ((t.raise Kind.CRY.pages.1 CRY.ev_SELFTEST_DONE).raiseIf (!pass) Kind.CRY.pages.1 CRY.ev_SELFTEST_FAIL).settle)) ∧
    (∀ (n : Fin 2) (pos : Fin 32) (identity : BitVec 64) g, s.mc1Core n = true → s.agree.on = false →
      s.gatherings.find? (fun g => s.agreeCarrier g = n.val && s.gthPos g n = some pos.val) = some g →
      s.flag (CRYW.KEY g) CRYW.KEY_AGREE_RESP = true → s.flag CRY.page CRY.GUARD_STATE_LOCK = false →
      s.touchesV1 g = false → (s.agreeBegin g true).flag SEC.page SEC.RNG_STATUS_FAILED = false →
      (s.agreeBegin g true).peerListed identity.toNat = true →
      exec (.agreeA1Rx n pos identity true) s = .next ((s.agreeBegin g true).agreeSend n 2 pos).settle) ∧
    (∀ (identity : BitVec 64), s.agree.on = true → s.agree.responder = false → s.agree.storing = 0 →
      s.peerListed identity.toNat = true → exec (.agreeA2Rx identity true true) s = .next
        (State.agreeStore (s.agreeSend (s.agreeCarrier s.agree.gathering) 3 (s.agreePos s.agree.gathering))).settle) ∧
    (s.agree.on = true → s.agree.responder = true → s.agree.storing = 0 →
      exec (.agreeA3Rx true) s = .next s.agreeStore.settle ∧ exec (.agreeA3Rx false) s = .next (s.agreeFail 3).settle) ∧
    (s.agree.on = true → exec .agreeAbortRx s = .next (s.agreeFail 5).settle ∧
      (s.agree.from_ + 50 * nsMs ≤ s.now → exec .agreeTimeout s = .next (s.agreeFail 1).settle) ∧
      (s.now < s.agree.from_ + 50 * nsMs → exec .agreeTimeout s = .next s.settle)) ∧
    (s.agree.on = true → s.agree.stored = true → exec .agreeKeysStored s = .next
      (let g := s.agree.gathering
       let k := CRYW.KEY g
       let t := { s.nextFree.nextFree with agree := {} }.endLeave 6 1
       let t := t.startLoad g true ⟨t.get k CRYW.KEY_AGREE_TX_SLOT, s.freeVal % 2 ^ 64⟩
       let t := t.startLoad g false ⟨t.get k CRYW.KEY_AGREE_RX_SLOT, s.nextFree.freeVal % 2 ^ 64⟩
       ((t.set CRY.page CRY.AGREE_STATUS_STATE 3).raise Kind.CRY.pages.1 CRY.ev_AGREE_DONE).settle))

/-- Client lanes, ports, transparent mapping, received frames, lookups, staging (R383 to R400, R494).
The model's readings and choices it rests on: log entries 78, 79, 82, 141, 145. -/
def Obligations.ClientRowsComplete : Prop :=
  ∀ s : State, s.running = true →
    (∀ (l : Fin 32) sig cdr pcs hi (snr : Fin 256) errs cc uc cs,
      s.blk (Kind.CLN.pg (l.val / 4)) ≠ bOFF → s.quadMode (l.val / 4) ≠ 0 →
      exec (.clientLaneStatus l sig cdr pcs hi snr errs cc uc cs) s = .next
        (let q := l.val / 4
         let k := l.val % 4
         let b := CLN.page q
         let t := s.raiseIf (!sig && s.flag b (CLN.RX_STATUS_SIG_DET k)) (Kind.CLN.pg q) (CLN.ev_SIG_LOST k)
         let t := t.raiseIf (!cdr && t.flag b (CLN.RX_STATUS_CDR_LOCK k)) (Kind.CLN.pg q) (CLN.ev_CDR_UNLOCK k)
         let t := (t.setB b (CLN.RX_STATUS_SIG_DET k) sig).setB b (CLN.RX_STATUS_CDR_LOCK k) cdr
         let t := t.set b (CLN.RX_STATUS_SNR k) snr.val
         let t := if sig then t else t.setB b (CLN.RX_STATUS_ADAPT_DONE k) false
         let t := if t.get b (CLN.RX_CFG_CHECK k) = 0 then t else t.count (b + CLN.PATTERN_ERRS k) errs
         (match t.lanePort l.val with
         | none => t
         | some p =>
           let lost := !pcs && t.flag MAC.page (MAC.PORT_STATUS_PCS_ALIGNED p) && t.portEn p
           let t := t.raiseIf lost Kind.MAC.pages.1 (MAC.ev_PCS_LOST p)
           let t := t.setB MAC.page (MAC.PORT_STATUS_PCS_ALIGNED p) pcs
           let t := t.setB MAC.page (MAC.PORT_STATUS_HI_SER p) hi
           (((t.macCount p 10 cc).macCount p 11 uc).macCount p 12 cs).refreshPort p).settle)) ∧
    (∀ l : Fin 32, s.flag (CLN.page (l.val / 4)) (CLN.RX_STATUS_SIG_DET (l.val % 4)) = true →
      s.flag (CLN.page (l.val / 4)) (CLN.RX_CFG_ADAPT_FREEZE (l.val % 4)) = false →
      exec (.laneAdaptDone l) s = .next
        (s.setB (CLN.page (l.val / 4)) (CLN.RX_STATUS_ADAPT_DONE (l.val % 4)) true).settle) ∧
    (∀ q : Fin 8, s.flag (CLN.page q) CLN.QUAD_STATUS_PLL_LOCK = true → exec (.quadPllUnlock q) s = .next
      ((s.setB (CLN.page q) CLN.QUAD_STATUS_PLL_LOCK false).raise (Kind.CLN.pg q) CLN.ev_PLL_UNLOCK).settle) ∧
    (∀ (p : Fin 32) lf rf, s.isPort p = true → exec (.pcsFaultRx p lf rf) s = .next
      ((s.setB MAC.page (MAC.PORT_STATUS_RX_LF p) lf).setB MAC.page (MAC.PORT_STATUS_RX_RF p) rf).settle) ∧
    (∀ (p : Fin 32) g, s.portEn p = true → s.portTransparent p = true → s.portGath p = some g →
      (∀ arrived, s.active Kind.MAC.pages.1 = true → s.flag MAC.page (MAC.PORT_STATUS_CLIENT_FAIL p) = false →
        exec (.transparentMapUnit p arrived) s = .next
          (let w := (s.port p).blocksWaiting + arrived
           let n := min w (s.blockCap g)
           let x := s.port p
           State.settle (((s.setPort p { x with
             blocksWaiting := w - n, blockNo := x.blockNo + n, mapped := x.mapped ++ [(n, x.blockNo)] }).macCount p 13 n).send
               "mapUnit" [(g : Int), (n : Int)]))) ∧
      (∀ arrived, (s.active Kind.MAC.pages.1 = false ∨ s.flag MAC.page (MAC.PORT_STATUS_CLIENT_FAIL p) = true) →
        exec (.transparentMapUnit p arrived) s = .next
          (s.setPort p { s.port p with blocksWaiting := 0, mapped := [] }).settle) ∧
      (∀ sent good bytes rest, (s.gth g).released = (good, bytes) :: rest → exec (.demapUnit p sent) s = .next
        (let t := s.setGth g { s.gth g with released := rest }
         let x := t.port p
         let cap := t.blockCap g
         let blocks := if good then min (256 * bytes.getD 0 0 + bytes.getD 1 0) cap else 0
         let slip := !x.refill && (decide (x.demap < sent) || decide (2 * cap < x.demap - sent + blocks))
         let isOver := decide (2 * cap < x.demap - sent + blocks)
         let fill := if x.refill then min cap (x.demap + blocks)
           else if slip then (if isOver then cap else blocks) else x.demap - sent + blocks
         let t := t.setPort p { x with
           demap := fill
           failedUnit := !good
           refill := slip || (x.refill && decide (fill < cap)) }
         let t := if slip then (t.macCount p 14 1).raiseIf (decide (p.val < 31)) Kind.MAC.pages.1 (MAC.ev_DEMAP_SLIP p) else t
         (t.refreshPort p).settle))) ∧
    (∀ (p : Fin 32) f bw, s.portEn p = true → s.portTransparent p = false → s.active Kind.MAC.pages.1 = true →
      s.quadsActive p = true → s.flag MAC.page (MAC.PORT_STATUS_PCS_ALIGNED p) = true →
      (f.fcsOk = false → exec (.portFrameRx p f bw) s = .next (s.macCount p 2 1).settle) ∧
      (f.fcsOk = true → f.len < 64 → exec (.portFrameRx p f bw) s = .next (s.macCount p 3 1).settle) ∧
      (f.fcsOk = true → 64 ≤ f.len → s.get MAC.page (MAC.PORT_CFG_MAX_FRAME p) < f.len →
        exec (.portFrameRx p f bw) s = .next (s.macCount p 4 1).settle) ∧
      (f.fcsOk = true → 64 ≤ f.len → f.len ≤ s.get MAC.page (MAC.PORT_CFG_MAX_FRAME p) → f.etherType = 0x8808 → f.tags = [] →
        exec (.portFrameRx p f bw) s = .next (s.macCount p 6 1).settle) ∧
      (f.fcsOk = true → 64 ≤ f.len → f.len ≤ s.get MAC.page (MAC.PORT_CFG_MAX_FRAME p) → f.etherType ≠ 0x8808 →
        exec (.portFrameRx p f bw) s = .next
          (let t := (s.macCount p 0 1).macCount p 1 f.len
           if linkLocal f.dst.toNat then t.linkLocalFrame p f else t.classify p f bw).settle)) ∧
    (∀ ue bw m r, s.cls.miss = m :: r → s.serves Kind.CLS.pages.1 = true →
      s.cls.sigReady = true → exec (.missLookupDone ue bw) s = .next
        (let t := { s with cls := { s.cls with miss := r } }.showMiss
         let y := t.tableLookup m.key (ue.map (·.val)) [0, 1, 2, 3]
         (match y.1 with
          | none => ((y.2.count (CLS.page + CLS.DT_READ_FAIL)).raise Kind.CLS.pages.1 CLS.ev_DT_READ_FAIL).unkAct m.frame bw
          | some found => (y.2.install ⟨m.key, found⟩).resolved m.frame bw found).settle)) ∧
    (s.active Kind.CLS.pages.1 = true → s.flag CLS.page CLS.CTRL_DT_EN = true → exec .signatureBuildDone s = .next
      (State.settle { s with cls := { s.cls with sigReady := true } })) ∧
    (∀ (q : Fin 1048576) page, let u := (s.queue q).unwritten
      u ≠ 0 → (1792 ≤ u ∨ (s.queue q).stageAt + 4 * nsUs ≤ s.now) → s.eccServes = true → s.blk Kind.ECC.pages.1 ≠ bFAULT →
      s.chDown (s.physPage page).1 = false → s.blk (Kind.MEM.pg (s.physPage page).1) ≠ bFAULT →
      s.pkt.pagesUsed.contains page = false → s.ecc.region ≤ page → page < s.get ECC.page ECC.TOTAL_PAGES_P →
      s.collWaits (s.physPage page).1 = false → s.lookupWaits (s.physPage page).1 = false →
      exec (.stagingPageWrite q page) s = .next
        (let t := s.setQueue q { frames := stageInto page 1792 (s.queue q).frames, stageAt := s.now }
         State.settle { t with pkt := { t.pkt with pagesUsed := addNat page t.pkt.pagesUsed } }))

/-- Fabric link training, lanes, HELLO (R441 to R446, R452, Table 14-3).
The model's readings and choices it rests on: log entries 83, 85, 141. -/
def Obligations.FabricLinkRowsComplete : Prop :=
  ∀ s : State, s.running = true →
    (∀ k : Fin 8, s.linkSt k = kDISABLED → s.mayTrain k = true → s.blk (Kind.FBL.pg k) = bACTIVE →
      exec (.fabricTrainStart k) s = .next (s.linkTo k kTRAIN).settle) ∧
    (∀ (k : Fin 8) (l : Fin 4), s.linkSt k = kTRAIN → (∃ t, (s.link k).sigAt = some t) →
      exec (.fabricLaneCdrLock k l) s = .next
        ((s.setB (FBL.page k) (FBL.LANE_SIG_DET l) true).setB (FBL.page k) (FBL.LANE_CDR_LOCK l) true).settle) ∧
    (∀ (k : Fin 8) (l : Fin 4) foms, s.flag (FBL.page k) (FBL.LANE_CDR_LOCK l) = true → s.linkSt k = kTRAIN →
      exec (.ctleSweepDone k l foms) s = .next
        (let r := bestStep ((foms.take 16).map (·.toNat))
         let t := (s.set (FBL.page k) (FBL.LANE_CTLE l) r.2).set (FBL.page k) (FBL.LANE_FOM l) r.1
         State.settle ((t.setLane k l { t.lane k l with sweptAt := some t.now }).send "laneReady" [(k.val : Int), (l.val : Int)]))) ∧
    (∀ (k : Fin 8) t0, (s.link k).sigAt = some t0 → s.linkSt k = kTRAIN → t0 + 20 * nsMs ≤ s.now →
      (3 ≤ (s.lanesLocked k).length → exec (.linkTrainTimeout k) s = .next (s.negotiate k).settle) ∧
      ((s.lanesLocked k).length < 3 → exec (.linkTrainTimeout k) s = .next
        (let t := s.linkTo k kBACKOFF
         State.settle (t.setLink k { t.link k with backoffs := (t.link k).backoffs + 1 })))) ∧
    (∀ k : Fin 8, s.linkSt k = kBACKOFF → (s.link k).since + 100 * nsMs ≤ s.now →
      exec (.backoffExpiry k) s = .next
        (let third := decide (3 ≤ (s.link k).backoffs)
         let t := s.linkTo k kTRAIN
         let t := if third then t.setLink k { t.link k with backoffs := 0 } else t
         (t.raiseIf third (Kind.FBL.pg k) FBL.ev_TRAIN_FAIL).settle)) ∧
    (∀ k : Fin 8, s.linkSt k = kNEGOTIATE → (s.link k).hellos = 0 → (s.link k).since + 2 * nsMs ≤ s.now →
      exec (.negotiateTimeout k) s = .next (s.linkTo k kTRAIN).settle) ∧
    (∀ (k : Fin 8) (l : Fin 4) sig cdr, sig = false ∨ cdr = false → exec (.laneFail k l sig cdr) s = .next
      (State.settle (((s.setB (FBL.page k) (FBL.LANE_SIG_DET l) (s.flag (FBL.page k) (FBL.LANE_SIG_DET l) && sig)).setB (FBL.page k)
        (FBL.LANE_CDR_LOCK l) (s.flag (FBL.page k) (FBL.LANE_CDR_LOCK l) && cdr)).laneFail k l))) ∧
    (∀ (k : Fin 8) (l : Fin 4) t0, (s.lane k l).passFrom = some t0 → s.linkUp k = true → (s.lane k l).failed = true →
      s.flag (FBL.page k) (FBL.LANE_CW_LOCK l) = true → s.flag (FBL.page k) (FBL.LANE_SIG_DET l) = true →
      s.flag (FBL.page k) (FBL.LANE_CDR_LOCK l) = true → t0 + nsMs ≤ s.now →
      exec (.laneRestore k l) s = .next
        (let t := (s.setB (FBL.page k) (FBL.LANE_RX_OK l) true).setLane k l { s.lane k l with failed := false, uncorrRun := 0 }
         let t := (t.raise (Kind.FBL.pg k) FBL.ev_LANE_RESTORED).send "rxOk" [(k.val : Int), (l.val : Int), 1]
         (if (t.lanesIn k).length = 4 then t.linkLanes k else t.showLanes k).settle)) ∧
    (∀ (k : Fin 8) (l : Fin 4) (fom : BitVec 8), exec (.fomRefresh k l fom) s = .next
      (let low := decide (fom.toNat < s.get (FBL.page k) FBL.FOM_CFG_FOM_MIN)
       let y := s.lane k l
       let t := s.set (FBL.page k) (FBL.LANE_FOM l) fom.toNat
       let t := t.raiseIf (low && y.fomLow.isNone) (Kind.FBL.pg k) FBL.ev_FOM_LOW
       (t.setLane k l { y with fomLow := if low then some (y.fomLow.getD t.now) else none }).settle)) ∧
    (∀ (k : Fin 8) (l : Fin 4) (fom : BitVec 8), s.flag (FBL.page k) FBL.CFG_DITHER_EN = true → s.linkUp k = true →
      s.rxOk k l = true → exec (.ditherTrial k l fom) s = .next
        (let y := s.lane k l
         let old := s.get (FBL.page k) (FBL.LANE_CTLE l)
         let try_ := if y.up then min 15 (old + 1) else old - 1
         let t := s.setLane k l { y with up := !y.up }
         (if t.get (FBL.page k) (FBL.LANE_FOM l) + t.get (FBL.page k) FBL.FOM_CFG_DITHER_GAIN ≤ fom.toNat ∧ try_ ≠ old then
           (t.set (FBL.page k) (FBL.LANE_CTLE l) try_).set (FBL.page k) (FBL.LANE_FOM l) fom.toNat
         else t).settle)) ∧
    (∀ m : Fin 72, (m.val < 8 → kNEGOTIATE ≤ s.linkSt m) → (8 ≤ m.val → s.isLine m = true) → s.fabRole ≠ 0 → s.mayCtl m = true →
      s.blk Kind.FBR.pages.1 ≠ bOFF → exec (.helloSend m) s = .next
        (let x := s.neigh m
         let d := decide (s.memberVer m = 2)
         let link := if m.val < 8 then m.val else 0x40 + m.val - 8
         let ver := s.get FBR.page FBR.CTRL_VER_MAX
         let dom := s.nat64 (FBR.page + FBR.DOMAIN_ID)
         let t1 := if d then x.sentT else 0
         let t2 := if d then x.arrT else 0
         (((s.ctlOut m (ctlCell 2 s.myAddr (helloBytes s.myAddr ver s.fabRole link s.myIdent dom s.dtime t1 t2))).send "hello"
           [(m.val : Int), (s.myAddr : Int), (ver : Int), (s.fabRole : Int), (link : Int), (s.myIdent : Int), (dom : Int),
            (s.dtime : Int), (t1 : Int), (t2 : Int)]).settle))) ∧
    (∀ (m : Fin 72) addr ver link (ident domain t3 t1 t2 : BitVec 64),
      exec (.helloCellRx m addr ver link ident domain t3 t1 t2) s = .next
        (State.settle (s.helloRx m { addr := addr, ver := ver, link := link, ident := ident.toNat, domain := domain.toNat, t3 := t3.toNat, t1 := t1.toNat, t2 := t2.toNat }))) ∧
    (∀ m : Fin 72, (s.neigh m).alive = true → (s.neigh m).heardAt + 4 * (s.get FBR.page FBR.TIMERS_HELLO * 100 * nsUs) ≤ s.now →
      exec (.neighbourDead m) s = .next
        (if m.val < 8 ∧ (s.dropNeigh m).linkUp m then (s.dropNeigh m).linkTo m kTRAIN else s.dropNeigh m).settle)

/-- Resequencing, pause, received cells and lane frames, dequeue, reassembly, shapers (R423 to R430, R439, R449, R458, R459).
The model's readings and choices it rests on: log entries 80, 81, 82, 83, 85, 114, 141. -/
def Obligations.FabricTransitRowsComplete : Prop :=
  ∀ s : State, s.running = true →
    (∀ (src : Fin 512) x t0, s.reseqOf src = some x → (x.held.map (·.2)).min? = some t0 →
      t0 + s.get FBR.page FBR.RESEQ_CFG_TIMEOUT * nsUs ≤ s.now → exec (.reseqGapTimeout src) s = .next (s.skipGap src).settle) ∧
    (∀ (src : Fin 512) x, s.reseqOf src = some x → x.lastAt + nsSec ≤ s.now →
      exec (.reseqSourceTimeout src) s = .next (s.setReseq src none).showReseq.settle) ∧
    (∀ p : Fin 32, s.isPort p = true → s.blk Kind.QMG.pages.1 ≠ bOFF → s.blk Kind.QMG.pages.1 ≠ bCONFIG →
      exec (.egressFifoXoff p) s = .next
        ((s.setPort p { s.port p with fifo := max (s.port p).fifo (s.fifoSize p * s.get QMG.page QMG.BP_CFG_XOFF / 128) }).pausePort
          p).settle ∧
      exec (.egressFifoXon p) s = .next
        (let t := s.setPort p { s.port p with fifo := s.fifoSize p * s.get QMG.page QMG.BP_CFG_XON / 128 }
         let was := bitOf (t.get QMG.page QMG.BP_STATE_PAUSED) p
         let t := if was then (t.set QMG.page QMG.BP_STATE_PAUSED (clrBit (t.get QMG.page QMG.BP_STATE_PAUSED) p)).pauseSend p false
           else t
         let t := t.ovfDrain p (s.port p).ovf.length
         (if t.fifoSize p * t.get QMG.page QMG.BP_CFG_XOFF / 128 ≤ (t.port p).fifo then t.pausePort p else t).settle)) ∧
    (∀ (m : Fin 72) (origin : Fin 512) (port : Fin 32) on (seq : BitVec 16),
      exec (.pauseCellRx m origin port on seq) s = .next (s.pauseRx m origin port on seq.toNat).settle) ∧
    (∀ p : Fin 32, bitOf (s.get QMG.page QMG.BP_STATE_PAUSED) p = true →
      exec (.pauseRefresh p) s = .next (s.pauseSend p true).settle) ∧
    (∀ (origin : Fin 512) (port : Fin 32) x, x ∈ s.fbr.pauses → x.origin = origin.val → x.port = port.val →
      x.at_ + 200 * nsUs ≤ s.now → exec (.pauseExpiry origin port) s = .next
        (State.settle (State.raise { s with fbr := { s.fbr with
          pauses := s.fbr.pauses.filter (fun p => !(p.origin = origin.val && p.port = port.val)) } }
          Kind.FBR.pages.1 FBR.ev_PAUSE_EXPIRED))) ∧
    (∀ (m : Fin 72) c, m.val < 8 → kNEGOTIATE ≤ s.linkSt m → exec (.cellRx m c) s = .next (s.cellRx m c).settle) ∧
    (∀ (m : Fin 72) c t, 8 ≤ m.val → s.isLine m = true → s.takeCell (m.val - 8) c = some t →
      exec (.cellRx m c) s = .next (t.cellRx m c).settle) ∧
    (∀ (k : Fin 8) (l : Fin 4) (word : BitVec 40) cells, kNEGOTIATE ≤ s.linkSt k → s.linkSt k ≠ kBACKOFF →
      s.linkSt k ≠ kDISABLED → s.flag (FBL.page k) (FBL.LANE_CDR_LOCK l) = true →
      crc8 (word.toNat / 256) = word.toNat % 256 →
      let t := ((s.count (FBL.page k + FBL.CW_UNCORR) 0).setLane k l
        { (s.count (FBL.page k + FBL.CW_UNCORR) 0).lane k l with uncorrRun := 0 }).laneWord k l word.toNat
      t.rxOk k l = true → kNEGOTIATE ≤ t.linkSt k →
      exec (.laneFrameRx k l word false false cells) s = .next (State.settle (each (cells.take 5) (fun c u => u.cellRx k c) t))) ∧
    (∀ (dest : Fin 512) q t f u full noRoom, s.blk Kind.QMG.pages.1 = bACTIVE → (s.page Kind.QMG.pages.1).softReset = false →
      s.active Kind.FBR.pages.1 = true → s.blk Kind.FBR.pages.1 ≠ bFAULT → bitOf (s.outKey dest) 8 = true →
      s.pickQueue (s.outKey dest) (fun f => s.outKey f.part = s.outKey dest) = (some q, t) →
      t.takeFrame q = (some f, u) → t.frameLost f = false →
      ∀ v, u.egress f.ep (f.len - 4 * f.removed) full noRoom = (false, v) →
      exec (.frameDequeue dest full noRoom) s = .next
        (let len := f.len - 4 * f.removed + 4 * (if v.get (CLSW.EP f.ep) CLSW.EP_EG_TAGS ≤ 2 then v.get (CLSW.EP f.ep) CLSW.EP_EG_TAGS else 0)
         State.settle (each (setMembers (s.outKey dest)) (fun m x => x.charge (memberShaper m) len)
           ((v.charge q len).charge (shpEp f.ep) len)))) ∧
    (∀ (src : Fin 512) (cls : Fin 4) cs rest full noRoom,
      firstFrame (Tab.get (fun _ => {}) s.fbr.reasm (4 * src.val + cls.val)).ready = some (false, cs, rest) →
      s.blk Kind.QMG.pages.1 ≠ bOFF → s.blk Kind.QMG.pages.1 ≠ bCONFIG → exec (.frameReassembly src cls full noRoom) s = .next
        (State.settle (State.count (State.showReseq { s with fbr := { s.fbr with
          reasm := Tab.put (fun _ => {}) s.fbr.reasm (4 * src.val + cls.val) { ready := rest } } }) (FBR.page + FBR.REASM_DISCARDS)))) ∧
    (∀ (src : Fin 512) (cls : Fin 4) cs rest full noRoom t,
      firstFrame (Tab.get (fun _ => {}) s.fbr.reasm (4 * src.val + cls.val)).ready = some (true, cs, rest) →
      s.blk Kind.QMG.pages.1 ≠ bOFF → s.blk Kind.QMG.pages.1 ≠ bCONFIG →
      let lastLen := (cs.getLast?.map (·.len)).getD 0
      let len := 240 * (cs.length - 1) + (if lastLen = 0 then 240 else lastLen)
      (s.egress ((cs.head?.map (·.ep)).getD 0) len full noRoom = (false, t) → exec (.frameReassembly src cls full noRoom) s = .next
        (State.settle (State.showReseq { t with fbr := { t.fbr with
          reasm := Tab.put (fun _ => {}) t.fbr.reasm (4 * src.val + cls.val) { ready := rest } } }))) ∧
      (s.egress ((cs.head?.map (·.ep)).getD 0) len full noRoom = (true, t) → exec (.frameReassembly src cls full noRoom) s = .next
        t.settle)) ∧
    (∀ x : Fin 2097224, exec (.shaperWheelSlot x) s = .next (s.wheelSlot x).drain.settle)

/-- Topology records, their age, the routes firmware computes (R456).
The model's readings and choices it rests on: log entries 84, 85, 106. -/
def Obligations.TopologyRowsComplete : Prop :=
  ∀ s : State, s.running = true →
    (s.fabFirmware = true → s.inConflict = false → exec .topoFlood s = .next
      (let links := (s.ownLinks.map (·.2)).take 84
       let n := (s.fbr.mySeq + 1) % 65536
       let t : State := { s with fbr := { s.fbr with mySeq := n } }
       let t := t.learn t.myAddr { ident := t.myIdent, role := t.fabRole, seq := n, links := links }
       let ms := (List.range 72).filter (fun m => t.memberOpen m && t.mayCtl m)
       (each ms (fun m t => each (List.range (max 1 (ceilDiv links.length 28))) (fun i u =>
         if u.mayCtl m then (u.ctlOut m (u.topoCell u.myAddr n i)).send "topo"
           ([(m : Int), (u.myAddr : Int), (u.myIdent : Int), (u.fabRole : Int), (n : Int), (i : Int)]
           ++ topoArgs ((links.drop (28 * i)).take 28)) else u) t) t).settle)) ∧
    (∀ (m : Fin 72) (addr : Fin 512) (ident : BitVec 64) (role : Fin 3) (seq : BitVec 16) (links : List TopoEdge),
      s.memberOpen m = true → s.fabRole ≠ 0 → s.active Kind.FBR.pages.1 = true → s.topoRec addr = none → s.fbr.parts = [] →
      exec (.topoCellRx m addr ident role seq 0 1 links) s = .next
        (let ls := links.map (fun e => ({ addr := e.addr, line := e.line, cost := e.cost, cap := e.cap, delay := e.delay } : TopoLink))
         let t : State := { s with fbr := { s.fbr with parts := [(addr.val, seq.toNat, 0, ls)] } }
         let ms := (List.range 72).filter (fun k => k ≠ m.val && t.memberOpen k && t.mayCtl k)
         let t := each ms (fun k t => (t.ctlOut k (t.topoCell addr seq.toNat 0)).send "topo" ([(k : Int), (addr.val : Int), (ident.toNat : Int), (role.val : Int),
           (seq.toNat : Int), 0] ++ topoArgs ls)) t
         (State.learn { t with fbr := { t.fbr with parts := [] } } addr
           { ident := ident.toNat, role := role, seq := seq.toNat, links := ls }).settle)) ∧
    (∀ (addr : Fin 512) x, s.topoRec addr = some x → x.refreshed + 4 * nsSec ≤ s.now →
      exec (.topoAgeOut addr) s = .next (s.putTopo addr none).topoChanged.settle) ∧
    (s.fabFirmware = true → s.fbr.computeDue = true → exec .routeCompute s = .next
      (let t : State := { s with fbr := { s.fbr with computeDue := false } }
       let labels := t.paths ((t.fbr.topo.filterMap (·.2)).length + 1)
       let bank := 512 * (1 - t.get FBR.page FBR.ROUTE_CTRL_BANK_ACTIVE)
       let t := each (List.range 512) (fun a t =>
         let ws := if a = t.myAddr then routeWords [] true
           else match labels.find? (fun e => e.1 = a) with
             | some (_, x) => routeWords (t.hopSet x) false
             | none => [0, 0, 0]
         t.setWords (FBRW.ROUTE (bank + a)) ws) t
       t.routeApply.settle))

/-- The second of DTIME, reference activity, DPLL states, slews, steering, pulses, ESMC (R464 to R486).
The model's readings and choices it rests on: log entries 86, 87, 88, 147. -/
def Obligations.TimingRowsComplete : Prop :=
  ∀ s : State, s.running = true →
    (∀ ys phases c0 c1 e0 e1, s.active timPg = true → exec (.timSecond ys phases c0 c1 e0 e1) s = .next
      (let t := (s.dpSecond 0 c0 e0).dpSecond 1 c1 e1
       let t := each (List.range 16) (fun i t => t.slotMeasure i (ys.getD i none) (phases.getD i (0, 0))) t
       let t := each (List.range 16) (fun i t => t.slotDrift i) t
       let t := each (List.range 16) (fun i t => t.wtrTick i) t
       let t := (t.vote).judgeAll
       ((t.showHold 0).showHold 1).settle)) ∧
    (∀ slot : Fin 16, s.get TIM.page (TIM.SLOT_CFG_SOURCE slot) ≠ 0x3F →
      (s.flag TIM.page (TIM.SLOT_STATUS_ACTIVE slot) = false →
        s.recovered (s.get TIM.page (TIM.SLOT_CFG_SOURCE slot)) ≠ some false → exec (.refActivityChange slot true) s = .next
        (s.setB TIM.page (TIM.SLOT_STATUS_ACTIVE slot) true).judgeAll.settle) ∧
      (s.flag TIM.page (TIM.SLOT_STATUS_ACTIVE slot) = true →
        s.recovered (s.get TIM.page (TIM.SLOT_CFG_SOURCE slot)) ≠ some true → exec (.refActivityChange slot false) s = .next
        (let t := (s.setB TIM.page (TIM.SLOT_STATUS_ACTIVE slot) false).setB TIM.page (TIM.SLOT_STATUS_S_LOS slot) true
         let t := t.setSlot slot { t.slot slot with hist := [], overRun := 0, underRun := 0 }
         let t := if s.get TIM.page (TIM.SLOT_CFG_SOURCE slot) = 4 then { t with tim := { t.tim with ppsin := [] } } else t
         (t.setB TIM.page (TIM.SLOT_STATUS_MON_VALID slot) false).judgeAll.settle))) ∧
    (∀ ps : Fin 1000, exec (.ppsinEdge ps) s = .next
      (let t : State := { s with tim := { s.tim with ppsin := (((s.dtime : Int) * 1000 + ps.val) :: s.tim.ppsin).take 16 } }
       ((t.setNat64 (TIM.page + TIM.PPSIN_TIME) t.dtime).set TIM.page TIM.PPSIN_PS_PS ps).settle)) ∧
    (∀ slot : Fin 16, s.slotIs TIM.SLOT_STATUS_WTR slot = true → s.get TIM.page (TIM.SLOT_STATUS_WTR_LEFT slot) = 0 →
      s.slotGood slot = true → exec (.refWtrExpiry slot) s = .next (s.qualify slot).selectAll.settle) ∧
    (∀ d : Fin 2, s.dpState d = dpLOCKING → s.phaseOver d (s.lockLimit d) = false → (s.dpll d).since + 10 * nsSec ≤ s.now →
      exec (.dpllLock d) s = .next
      ((s.dpTo d dpLOCKED).raise timPg (TIM.ev_LOCKED d)).showQl.settle) ∧
    (∀ d : Fin 2, s.dpState d = dpLOCKED → s.phaseOver d 1000000 = true → (s.dpll d).since + nsSec ≤ s.now →
      exec (.dpllLockLost d) s = .next
      (((s.dpTo d dpLOCKING).setB TIM.page (TIM.DSTATUS_S_LOCK_LOST d) true).raise timPg (TIM.ev_LOCK_LOST d)).showQl.settle) ∧
    (∀ d : Fin 2, s.flag TIM.page (TIM.DSTATUS_SLEWING d) = true →
      (s.dpll d).slew.natAbs * 10 ^ 8 ≤ (s.dpll d).slewed → exec (.slewDone d) s = .next
      (let t := s.setDpll d { s.dpll d with slew := 0, slewed := 0 }
       ((t.setB TIM.page (TIM.DSTATUS_SLEWING d) false).raise timPg (TIM.ev_STEP_DONE d)).settle)) ∧
    (∀ offset, exec (.lineSteerUpdate offset) s = .next
      (let en0 := s.flag TIM.page TIM.LINE_SYNC_EN0
       let en1 := if s.commonRate then en0 else s.flag TIM.page TIM.LINE_SYNC_EN1
       let v := clampI 5000000 offset
       let c0 := en0 && (v != offset)
       let c1 := en1 && (v != offset)
       let t : State := { s with tim := { s.tim with steer := ⟨if en0 then v else 0, if en1 then v else 0⟩ } }
       let t := (t.setB TIM.page TIM.LINE_SYNC_CLAMP0 c0).setB TIM.page TIM.LINE_SYNC_CLAMP1 c1
       let t := if c0 || c1 then t.setB TIM.page (TIM.DSTATUS_S_CLAMP 0) true else t
       ((t.raiseIf c0 timPg (TIM.ev_STEER_CLAMP 0)).raiseIf c1 timPg (TIM.ev_STEER_CLAMP 1)).settle)) ∧
    (∀ good offset, exec (.monrefChange good offset) s = .next
      (let far := decide (5000 < (s.getI CLK.page CLK.OCXO_STATUS_OFFSET).natAbs) && s.flag CLK.page CLK.OCXO_STATUS_ACTIVE
       let t := s.setI CLK.page CLK.OCXO_STATUS_OFFSET (clampI 32767 offset)
       let on := good && t.flag CLK.page CLK.OCXO_CFG_EN
       (State.ocxo (t.raiseIf (on && decide (5000 < offset.natAbs) && !far) Kind.CLK.pages.1 CLK.ev_XO_OFFSET) on).settle)) ∧
    (∀ (j : Fin 2) t0, (s.pps j).next = some t0 → s.flag TIM.page (TIM.PPSOUT_CFG_EN j) = true →
      (((s.pps j).run = true ∧ s.flag TIM.page (TIM.PPSOUT_CFG_SRC j) = false) ∨ t0 ≤ s.dtime) → exec (.ppsPulse j) s = .next
      (State.settle (State.send { s with tim := { s.tim with
          pps := s.tim.pps.put j { s.pps j with next := some (t0 + (s.pps j).period), run := true } } } "pps"
        [j, t0, s.get TIM.page (TIM.PPSOUT_CFG_WIDTH j)]))) ∧
    (∀ slot : Fin 16, s.esmcSlot slot = true → (∀ ql : BitVec 8, exec (.esmcPduRx slot ql) s = .next
        ((s.setSlot slot { s.slot slot with pduAt := s.now }).setQl slot ql.toNat).settle) ∧
      ((s.slot slot).pduAt + 5 * nsSec ≤ s.now → exec (.esmcTimeout slot) s = .next (s.setQl slot 15).settle)) ∧
    (∀ (port : Fin 32) event, s.portEn port = true → s.portTransparent port = false →
      s.flag (CLN.page (port / 4)) CLN.QUAD_CFG_TX_TIMING = true → s.selected 0 = none → exec (.esmcPduSend port event) s = .next
        (s.send "esmc" [port, b2n event, s.qlOut 0]).settle)

/-- GDDR7 reads and writes, the slow path, scrubbing, retraining, device faults and temperatures (R499 to R512).
The model's readings and choices it rests on: log entries 20, 90, 91, 145, 151. -/
def Obligations.MemoryRowsComplete : Prop :=
  ∀ s : State, s.running = true →
    (∀ page (ce : Fin 57), s.pageServed page = true → exec (.gddr7Read page ce) s = .next
      (s.count (MEM.page (s.physPage page).1 + MEM.CE_WORDS) ce.val).settle) ∧
    (∀ page (fixed : Fin 57) who, s.pageServed page = true → exec (.slowPathDone page fixed 0 who) s = .next
      (let c := (s.physPage page).1
       let b := MEM.page c
       let t := (s.count (b + MEM.UE_WORDS) (fixed.val + 0)).count (b + MEM.STRONG_FIXED) fixed.val
       ((t.raiseIf (decide (0 < fixed.val)) (Kind.MEM.pg c) MEM.ev_STRONG_USED).count (b + MEM.STRONG_FAIL) 0).settle)) ∧
    (∀ page (lost : Fin 57), s.pageServed page = true → 0 < lost.val → exec (.slowPathDone page 0 lost .buffer) s = .next
      (let c := (s.physPage page).1
       let b := MEM.page c
       let t := (s.count (b + MEM.UE_WORDS) (0 + lost.val)).count (b + MEM.STRONG_FIXED) 0
       let t := (t.count (b + MEM.STRONG_FAIL) lost.val).raise (Kind.MEM.pg c) MEM.ev_STRONG_FAIL
       let spoil := fun (f : Frame) => if f.pages.contains page then { f with bad := true } else f
       State.settle { t with pkt := { t.pkt with
         queues := t.pkt.queues.map (fun e => (e.1, { e.2 with frames := e.2.frames.map spoil })) } })) ∧
    (∀ page, s.eccServes = true → page < s.get ECC.page ECC.TOTAL_PAGES_P → s.chDown (s.physPage page).1 = false →
      (page < s.tableFirst ∨ s.tableFirst + s.tablePages ≤ page ∨ s.chOver (s.physPage page).1 = false) →
      (∀ data : List (List Byte), exec (.wholePageWrite page data) s = .next
        (s.commitWrite page ((List.range 56).zip ((data.map (fun l => (l.map (·.toNat)).take 32)))) [] []).settle) ∧
      (∀ (words : List (Fin 56 × List Byte)) ue lost, exec (.readModifyWrite page words ue lost) s = .next
        (s.commitWrite page (words.map (fun x => (x.1.val, (x.2.map (·.toNat)).take 32))) (ue.map (·.val))
          (lost.map (·.val))).settle)) ∧
    (∀ (ce ue : Fin 57) failed, s.get ECC.page ECC.SCRUB_CFG_PASS ≠ 0 → s.eccServes = true → s.shed = false →
      s.tableFirst ≤ s.get ECC.page ECC.SCRUB_STATUS_PAGE →
      s.get ECC.page ECC.SCRUB_STATUS_PAGE + 1 < s.tableFirst + s.tablePages →
      let first := decide (s.get ECC.page ECC.SCRUB_STATUS_PAGE = s.tableFirst)
      (first = true → s.ecc.passAt.any (fun t => s.now < t + s.get ECC.page ECC.SCRUB_CFG_PASS * nsSec) = false) →
      let t : State := if first then { s with ecc := { s.ecc with passAt := some s.now } } else s
      let t := (t.set ECC.page ECC.SCRUB_STATUS_PAGE (s.get ECC.page ECC.SCRUB_STATUS_PAGE + 1)).setB ECC.page
        ECC.SCRUB_STATUS_STARVED false
      let x := t.physPage (s.get ECC.page ECC.SCRUB_STATUS_PAGE)
      let n := if t.chDown x.1 then (0, 56, 56) else (List.range 56).foldl (fun (m : Nat × Nat × Nat) w =>
        let y := t.scrubWord x.2 w; (m.1 + y.1, m.2.1 + y.2.1, m.2.2 + y.2.2)) (0, 0, 0)
      (n.1 + ce.val < t.get ECC.page ECC.SCRUB_CFG_CE_TH → n.2.1 + ue.val = 0 →
        exec (.scrubPage ce ue failed) s = .next t.settle) ∧
      (t.get ECC.page ECC.SCRUB_CFG_CE_TH ≤ n.1 + ce.val → n.2.1 + ue.val = 0 →
        exec (.scrubPage ce ue failed) s = .next
          (let k := t.nat (ECC.page + ECC.SCRUB_WR)
           let u := t.setWords (ECCW.SLOG (k % 256)) [t.dtime % 2 ^ 32, t.dtime / 2 ^ 32 % 2 ^ 32,
             s.get ECC.page ECC.SCRUB_STATUS_PAGE, min 255 (n.1 + ce.val) + 2 ^ 8 * min 255 0 + 2 ^ 16 * 0]
           ((u.setNat (ECC.page + ECC.SCRUB_WR) ((k + 1) % 2 ^ 32)).raise Kind.ECC.pages.1 ECC.ev_SCRUB_REPORT).settle))) ∧
    (s.eccServes = true → s.get ECC.page ECC.SCRUB_CFG_PASS ≠ 0 → exec (.scrubStarved true) s = .next
      ((s.setB ECC.page ECC.SCRUB_STATUS_STARVED true).raise Kind.ECC.pages.1 ECC.ev_SCRUB_STARVED).settle) ∧
    (∀ (c : Fin 16) again, s.chLive c = true → s.chFailed c = false → exec (.memRetrain c true again) s = .next
      (((s.count (MEM.page c + MEM.RETRAINS)).setB (MEM.page c) MEM.STATUS_TRAINED true).set (MEM.page c)
        MEM.STATUS_RETRAIN_FAILS 0).settle) ∧
    (∀ c : Fin 16, s.blk (Kind.MEM.pg c) ≠ bOFF → exec (.channelDeviceFail c) s = .next (s.failChannel c).settle) ∧
    (∀ (c : Fin 16) (temp : BitVec 8), s.blk (Kind.MEM.pg c) ≠ bOFF → s.get (MEM.page c) MEM.STATUS_BAND ≠ 3 →
      exec (.memTempRead c temp) s = .next
        (let old := s.get (MEM.page c) MEM.STATUS_BAND
         let new := nextBand old temp.toNat
         let t := (s.set (MEM.page c) MEM.STATUS_TEMP temp.toNat).set (MEM.page c) MEM.STATUS_BAND new
         let t := t.raiseIf (old != new) (Kind.MEM.pg c) MEM.ev_BAND_CHANGE
         (t.raiseIf (old != 3 && new = 3) (Kind.MEM.pg c) MEM.ev_OVERTEMP).settle))

/-- The power governor, AVS, droop sheds, temperature samples, leaves of the power governor (R521 to R536).
The model's readings and choices it rests on: log entries 93, 94, 95, 149, 151. -/
def Obligations.PowerAndThermalRowsComplete : Prop :=
  ∀ s : State, s.running = true →
    (∀ readings : List (Option Nat), (s.railsRead.any (fun i => (readings.getD i none).isNone)) = false →
      s.pwr.govAt + s.get PWR.page PWR.PMBUS_CFG_PERIOD_MS * nsMs ≤ s.now →
      exec (.govPeriod readings) s = .next
        (let b := PWR.page
         let mw := fun i => (readings.getD i none).getD 0
         let t : State := { s with pwr := { s.pwr with govAt := s.now, pmbusFailRun := 0 } }
         let t := each s.railsRead (fun i t => t.set b (PWR.RAIL_POWER_MW i) (mw i)) t
         let p := (s.railsRead.map mw).sum
         let t := t.set b PWR.MEASURED_MW p
         let e : Int := (p : Int) - t.get b PWR.BUDGET_MW
         let old := t.get b PWR.GOV_STATUS_GOV
         let gov := govNext old e (t.get b PWR.GOV_CFG_STEP_MW) (t.get b PWR.GOV_CFG_HYST)
         let t := (t.set b PWR.GOV_STATUS_GOV gov).raiseIf (gov != old) Kind.PWR.pages.1 PWR.ev_GOV_CHANGE
         let low := decide (gov = 6) && decide (0 < e)
         let was := t.flag b PWR.GOV_STATUS_AT_FLOOR
         (State.allCaps ((t.setB b PWR.GOV_STATUS_AT_FLOOR low).raiseIf (low && !was) Kind.PWR.pages.1 PWR.ev_OVER_BUDGET)).settle)) ∧
    (∀ readings : List (Option Nat), (s.railsRead.any (fun i => (readings.getD i none).isNone)) = true →
      s.pwr.govAt + s.get PWR.page PWR.PMBUS_CFG_PERIOD_MS * nsMs ≤ s.now →
      exec (.govPeriod readings) s = .next
        (State.settle (State.raiseIf (State.count { s with pwr := { s.pwr with govAt := s.now, pmbusFailRun := s.pwr.pmbusFailRun + 1 } }
          (PWR.page + PWR.PMBUS_ERRS)) (s.pwr.pmbusFailRun + 1 = 3) Kind.PWR.pages.1 PWR.ev_PMBUS_FAIL))) ∧
    (∀ slack u16, s.ready = true → s.flag PWR.page PWR.AVS_CFG_EN = true → s.avsRail.isNone = false → s.pwr.avsBad = false →
      s.pwr.avsStarted = true → exec (.avsEval slack u16 true) s = .next
        (let b := PWR.page
         let v := s.get b PWR.AVS_STATUS_VOUT
         let hi := s.get b PWR.AVS_LIMITS_VMAX
         let low := s.get b PWR.AVS_CFG_SLACK_LOW
         let w := avsWant v (s.get b PWR.AVS_LIMITS_VMIN) hi slack low (s.get b PWR.AVS_CFG_SLACK_HIGH) s.pwr.avsSlackRun s.pwr.avsRetry
         let t : State := { s with pwr := { s.pwr with avsStarted := true, avsSlackRun := w.2, avsRetry := none } }
         let t := (t.set b PWR.AVS_STATUS_VOUT w.1).set b PWR.AVS_STATUS_SLACK (min 255 slack)
         let atMax := decide (slack < low) && decide (hi ≤ v)
         ((t.setB b PWR.AVS_STATUS_AT_MAX atMax).raiseIf (atMax && !t.flag b PWR.AVS_STATUS_AT_MAX) Kind.PWR.pages.1
           PWR.ev_AVS_LIMIT).settle)) ∧
    (∀ detector fall, 200 + 50 * s.get PWR.page PWR.DROOP_CFG_TH < fall → exec (.droopTrip detector fall) s = .next
      (let b := PWR.page
       let t := s.setB b PWR.DROOP_STATUS_SHED true
       let rails := setBit (if !s.shed then 0 else t.get b PWR.DROOP_STATUS_LAST_RAILS) detector
       let t := (t.set b PWR.DROOP_STATUS_LAST_RAILS rails).count64 (b + PWR.SHEDS) 1
       let t := t.raise Kind.PWR.pages.1 PWR.ev_DROOP_SHED
       let sec := t.dtime / nsSec
       let same := decide (t.pwr.stormSecond = sec)
       let trips := (if same then t.pwr.stormTrips else 0) + 1
       let isOver := same && t.pwr.stormRaised
       let storm := decide (t.get b PWR.DROOP_CFG_STORM_N < trips)
       let t : State := { t with pwr := { t.pwr with
         shedEnd := t.now + t.get b PWR.DROOP_CFG_SHED_US * nsUs
         stormSecond := sec
         stormTrips := trips
         stormRaised := isOver || storm } }
       let t := t.raiseIf (storm && !isOver) Kind.PWR.pages.1 PWR.ev_DROOP_STORM
       (if !s.shed then (t.allCaps.coreGate).tipTrigger 1 else t.coreGate).settle)) ∧
    (∀ detector fall, fall ≤ 200 + 50 * s.get PWR.page PWR.DROOP_CFG_TH → exec (.droopTrip detector fall) s = .next s.settle) ∧
    (s.shed = true → s.pwr.shedEnd ≤ s.now → exec .droopShedEnd s = .next
      (State.settle ((s.setB PWR.page PWR.DROOP_STATUS_SHED false).allCaps.coreGate).hkShedEnd)) ∧
    exec .coreGateWindow s = .next s.coreGate.settle ∧
    (∀ temps, exec (.thmSample temps) s = .next (s.thmSample temps).settle) ∧
    (∀ (op : Fin 9) (unit : Fin 16) steps, let r := leaveOf op unit steps
      s.standing + r.cost ≤ s.get PWR.page PWR.BUDGET_MW → s.pwr.queue = [] → s.mayGrant r.cost = true →
      exec (.leaveRequest op unit steps) s = .next (State.settle ((s.leaveGranted r).leaveTaken op unit))) ∧
    (∀ r q, s.pwr.queue = r :: q → s.standing + r.cost ≤ s.get PWR.page PWR.BUDGET_MW → s.mayGrant r.cost = true →
      exec .leaveGrantQueued s = .next
        (((State.syncPower { s with pwr := { s.pwr with queue := q } }).leaveGranted r).leaveTaken r.op r.unit).goOn.settle) ∧
    (∀ (op : Fin 9) (unit : Fin 16) r, s.pwr.active.find? (fun r => r.op = op.val && r.unit = unit.val) = some r →
      exec (.leaveEnd op unit true) s = .next (State.settle ((s.endLeave op unit).leaveCompleted r)) ∧
      exec (.leaveEnd op unit false) s = .next (s.endLeave op unit).settle) ∧
    (∀ (op : Fin 9) (unit : Fin 16), let late := fun (r : LeaveReq) => r.op = op.val && r.unit = unit.val && !r.overrun && decide (r.at_ + 2 * r.durationMs * nsMs < s.now)
      s.pwr.active.any late = true → exec (.leaveOverrun op unit) s = .next
        (State.settle (State.raise { s with pwr := { s.pwr with
          active := s.pwr.active.map (fun r => if late r then { r with overrun := true } else r) } }
          Kind.PWR.pages.1 PWR.ev_LEAVE_OVERRUN)))

/-- HKA triggers, entries and calibration; events, grace and quiet timers (R542 to R562).
The model's readings and choices it rests on: log entries 50, 96, 148. -/
def Obligations.HousekeepingAndFaultRowsComplete : Prop :=
  ∀ s : State, s.running = true →
    (s.hkFlag HKA.CTRL_TIMER_EN = true → s.hka.tick + s.get HKA.page HKA.TIMER_PERIOD * (100 * nsUs) ≤ s.now → s.hkActive = true → s.hkState = hkIDLE → s.hkFlag HKA.STATUS_SCAN_INTERRUPTED = false →
      s.hkFlag HKA.STATUS_SCAN_PENDING = false → s.shed = false → exec .scanTimerTick s = .next
        (State.scanStart { s with hka := { s.hka with tick := s.now } }).settle) ∧
    (∀ droop guard pin, exec (.tipInTrigger droop guard pin) s = .next
      (s.tipTrigger (b2n droop + 2 * b2n (guard && s.hkFlag HKA.CTRL_GUARD_TRIG_EN)
        + 4 * b2n (pin && s.hkFlag HKA.CTRL_PIN_TRIG_EN))).settle) ∧
    (∀ (v : Int) (peak : Nat), s.hkState = hkSCAN →
      let i := s.get HKA.page HKA.STATUS_SCAN_ENTRY
      let w := s.nat (HKA.page + HKA.SCAN_ENTRY i)
      let t := s.hkKeep (HKA.SCAN_RESULT i) (hkRaw w v) (hkOver w v || hkOver w peak)
      s.hka.at_ + s.hkEntryNs w ≤ s.now →
      (t.get HKA.page HKA.SEQ_LEN_SCAN_LEN ≤ i + 1 → exec (.hkaEntryDone v peak) s = .next
        (t.raise Kind.HKA.pages.1 HKA.ev_SCAN_DONE).hkNext.settle) ∧
      (i + 1 < t.get HKA.page HKA.SEQ_LEN_SCAN_LEN → t.hkActive = true → exec (.hkaEntryDone v peak) s = .next
        (State.settle ((t.set HKA.page HKA.STATUS_SCAN_ENTRY (i + 1)).hkBegin (t.nat (HKA.page + HKA.SCAN_ENTRY (i + 1))))))) ∧
    (∀ (v : Int) (peak : Nat), s.hkState = hkTIP →
      let i := s.get HKA.page HKA.STATUS_TIP_ENTRY
      let w := s.nat (HKA.page + HKA.TIP_ENTRY i)
      let t := s.hkKeep (HKA.TIP_RESULT i) (hkRaw w v) (hkOver w v || hkOver w peak)
      s.hka.at_ + s.hkEntryNs w ≤ s.now →
      i + 1 < t.get HKA.page HKA.SEQ_LEN_TIP_LEN → t.hkActive = true → exec (.hkaEntryDone v peak) s = .next
        (State.settle ((t.set HKA.page HKA.STATUS_TIP_ENTRY (i + 1)).hkBegin (t.nat (HKA.page + HKA.TIP_ENTRY (i + 1)))))) ∧
    (∀ zero ref : Int, s.hkState = hkCAL → s.hka.at_ + 13 * hkPeriod (s.hka.last.getD (0, false)) ≤ s.now →
      exec (.hkaCalDone zero ref) s = .next
      (let b := HKA.page
       let off := divRound zero 3
       let d := ref - 4 * off
       let g := if d ≤ 0 then 0 else divRound (2 ^ 22 * 6710886 * 4) d.toNat
       let good := decide (off.natAbs ≤ 65536) && decide (95 * 2 ^ 22 ≤ 100 * g) && decide (100 * g ≤ 105 * 2 ^ 22)
       let t : State := { s with hka := { s.hka with last := s.hka.last.map (fun (x : Nat × Bool) => (withBits x.1 0 5 17, x.2)) } }
       let t := t.set b HKA.STATUS_STATE hkIDLE
       (if good then
         (((t.setI b HKA.CAL_OFFSET_OFFSET off).set b HKA.CAL_GAIN_GAIN g.toNat).setB b HKA.STATUS_CAL_VALID true).raise
           Kind.HKA.pages.1 HKA.ev_CAL_DONE
       else t.raise Kind.HKA.pages.1 HKA.ev_CAL_FAIL).settle)) ∧
    (∀ page index : Fin 128, evUsed page.val index.val = true → exec (.eventFire page index) s = .next
      (s.raise page.val index.val).settle) ∧
    (∀ (page : Fin 128) t0, (s.page page.val).graceFrom = some t0 → t0 + s.get (pageBase page.val) HDR.GRACE_MS * nsMs ≤ s.now →
      exec (.graceExpiry page) s = .next
      (let t := s.setPage page.val { s.page page.val with graceFrom := some s.now }
       (t.takeStep page.val (t.step_ page.val + 1) ((t.stickyOf page.val 2).headD 0) false).settle)) ∧
    (∀ page : Fin 128, s.blk page.val = bFAULT → s.safe = false → (s.page page.val).softReset = false →
      (s.page page.val).quietFrom + s.get (pageBase page.val) HDR.QUIET_S * nsSec ≤ s.now →
      exec (.quietExpiry page) s = .next (s.exitFault page.val).settle)

/-- Attestation, the key store, the random source, the guard, NV commits and the NV scrubber (R568 to R584).
The model's readings and choices it rests on: log entries 8, 97, 98, 99, 100, 101, 102, 151. -/
def Obligations.SecurityAndStoreRowsComplete : Prop :=
  ∀ s : State, s.running = true →
    (∀ (l f u : BitVec 256) (sig : BitVec 512), s.get SEC.page SEC.ATTEST_STATUS_STATE = 1 →
      exec (.attestComplete true l f u sig) s = .next
        (let t := s.setWords (SECW.REPORT 0) (numWords 64 (s.report l.toNat f.toNat u.toNat sig.toNat))
         (((t.set SEC.page SEC.ATTEST_STATUS_STATE 2).bump SEC.page SEC.ATTEST_STATUS_COUNT).raise secPg SEC.ev_ATTEST_DONE).settle) ∧
      exec (.attestComplete false l f u sig) s = .next
        ((s.set SEC.page SEC.ATTEST_STATUS_STATE 3).raise secPg SEC.ev_ATTEST_FAIL).settle) ∧
    (∀ op slot ty, s.sec.ksOp = some (op, slot, ty) → s.sec.ksGranted = true → s.sec.ksErased = false →
      (∀ lengthOk verified, s.sec.ksTx = 2 → exec (.ksOperationDone lengthOk verified) s = .next
        (s.ksEnd 1 (if op = ksLOAD then SEC.ev_KEK_LOADED else if op = ksIMPORT then SEC.ev_KEY_WRITTEN
          else SEC.ev_SLOT_CLEARED)).settle) ∧
      (s.sec.ksTx = 0 → (op = ksIMPORT → s.nv.kek.isNone = false) → exec (.ksOperationDone true true) s = .next
        (State.nvRequest { s with sec := { s.sec with ksTx := 1 } } (if op = ksIMPORT then .key slot ty else .kek ty) 3).settle)) ∧
    exec .rngFail s = .next ((s.setB SEC.page SEC.RNG_STATUS_FAILED true).raise secPg SEC.ev_RNG_FAIL).agreeBreak.settle ∧
    (∀ sensors : BitVec 8, s.guardOn = true → exec (.guardTrip sensors) s = .next
      ((s.set SEC.page SEC.GUARD_STATUS_TRIPPED sensors.toNat).guardTrips ((List.range 8).filter (fun i =>
        bitOf sensors.toNat i && !bitOf (s.get SEC.page SEC.GUARD_STATUS_TRIPPED) i))).settle) ∧
    (s.guardOn = true → s.flag SEC.page SEC.GUARD_STATUS_SELFTEST_BUSY = true → ∀ faults : BitVec 8,
      exec (.guardSelftestComplete faults) s = .next
        (let bad := (List.range 8).filter (fun i => bitOf faults.toNat i)
         let t := (s.set SEC.page SEC.GUARD_STATUS_SENSOR_FAULT faults.toNat).setB SEC.page SEC.GUARD_STATUS_SELFTEST_BUSY false
         let t := each bad (fun i t => t.raise secPg (SEC.ev_SENSOR_FAULT i)) t
         let t := if bad.any (fun i => t.get SEC.page (SEC.GUARD_POLICY_POLICY i) != 0) then t.guardLock else t
         (t.raise secPg SEC.ev_GUARD_SELFTEST_DONE).settle)) ∧
    (∀ i, i = .bypass ∨ i = .idcode ∨ i = .sample → exec (.tapInstruction i) s = .next s) ∧
    (∀ i, i = .extest ∨ i = .extestPulse ∨ i = .extestTrain ∨ i = .clamp ∨ i = .highz → exec (.tapInstruction i) s = .next
      (let t : State := { s with sec := { s.sec with boundary := true } }
       State.settle (t.nextFree.enterSafe secPg t.freeVal))) ∧
    (s.get SEC.page SEC.DEBUG_STATE = 0 → exec (.tapInstruction .vendor) s = .next (s.guardTrips [7]).settle) ∧
    (s.get SEC.page SEC.DEBUG_STATE ≠ 0 → exec (.tapInstruction .vendor) s = .fault .tapUndescribed) ∧
    (∀ wear : Fin 101, s.nv.queue ≠ [] →
      exec (.nvCommitDone true wear) s = .next (s.nvCommitEnds true wear.val).goOn.settle ∧
      exec (.nvCommitDone false wear) s = .next
        ((s.count (NVS.page + NVS.WRITE_FAILS)).raise nvsPg NVS.ev_WRITE_FAIL).goOn.settle) ∧
    (∀ corrected twice (slots : List (Fin 512)) user others, s.get NVS.page NVS.SCRUB_CFG_HOURS ≠ 0 →
      s.nv.scrubAt + s.get NVS.page NVS.SCRUB_CFG_HOURS * (3600 * nsSec) ≤ s.now →
      exec (.nvScrubPass corrected twice slots user others) s = .next
        (let bad := slots.length + b2n user + others
         let t : State := { s with nv := { s.nv with scrubAt := s.now } }
         let t := (t.count (NVS.page + NVS.ECC_CORR) corrected).count (NVS.page + NVS.ECC_UNCORR) bad
         let t := t.raiseIf (corrected != 0) nvsPg NVS.ev_ECC_CORRECTED
         let t := t.raiseIf (bad != 0) nvsPg NVS.ev_ECC_UNCORRECTABLE
         let t := t.raiseIf twice nvsPg NVS.ev_RETENTION_WEAK
         let t := (each slots (fun k t => t.slotEmpty k) t).showStore
         let t := if user then { t with nv := { t.nv with userHome := false } } else t
         (t.raise nvsPg NVS.ev_SCRUB_DONE).settle))

/-- Firmware replacement, watchdogs, core traps, user firmware, the PMU, sweeps and memory BIST (R591 to R613).
The model's readings and choices it rests on: log entries 103, 104, 105, 150, 151. -/
def Obligations.CoresAndRepairRowsComplete : Prop :=
  ∀ s : State, s.running = true →
    (s.svcState = svQUIESCING → s.agree.on = false → exec .fwQuiesceDone s = .next (s.svcRestart 1).settle) ∧
    (∀ version : BitVec 16, s.svcState = svRESTARTING → exec (.fwRunningReport version) s = .next
      (let b := CPU.page
       let t := (s.set b CPU.FW_STATUS_SVC_STATE svRUNNING).set b CPU.FW_STATUS_VERSION version.toNat
       let t := t.set b CPU.LAST_RESTART_MS_MS (min 4095 ((t.now - t.cpu.haltAt) / nsMs))
       let t := each [0, 1, 2, 3] (fun c t => t.runCore c) t
       let new := t.cpu.restart = 1
       let t : State := { t with cpu := { t.cpu with restart := 0, haltAt := 0 } }
       (if new then ((t.raise cpuPg CPU.ev_FW_REPLACE_DONE).nvRequest (.image 1) 64).set SYS.page SYS.BOOT_STATUS_SOURCE 2
        else t.set SYS.page SYS.BOOT_STATUS_SOURCE 1).settle)) ∧
    (s.svcState = svRESTARTING → s.cpu.restart = 1 → s.cpu.haltAt + 2 * nsSec ≤ s.now → exec .fwReplaceTimeout s = .next
      (State.settle (State.raise { s with cpu := { s.cpu with restart := 2 } } cpuPg CPU.ev_FW_REPLACE_FAIL))) ∧
    (∀ core : Fin 8, s.boot.fwStarted = true →
      (core.val < 4 → s.svcState ≠ svRESTARTING → exec (.coreWatchdog core) s = .next
        ((((s.raise cpuPg (CPU.ev_WATCHDOG core)).svcRestart 2).haltCore core 4).count (CPU.page + CPU.RESTARTS)).settle) ∧
      (4 ≤ core.val → s.get CPU.page CPU.FW_STATUS_USER_STATE = 2 → exec (.coreWatchdog core) s = .next
        (State.settle ((s.raise cpuPg (CPU.ev_WATCHDOG core)).haltUsers 4 3)))) ∧
    (∀ core : Fin 8, s.coreRuns core = true → exec (.coreException core) s = .next
      (((s.haltCore core s.freeVal).nextFree).raise cpuPg (CPU.ev_CORE_EXCEPTION core)).settle) ∧
    (s.get CPU.page CPU.FW_STATUS_USER_STATE = 1 →
      (s.nv.userHome = true → exec (.userVerifyDone true) s = .next
        (((each [4, 5, 6, 7] (fun c t => t.runCore c) s).set CPU.page CPU.FW_STATUS_USER_STATE 2).raise cpuPg CPU.ev_USER_STARTED).settle) ∧
      exec (.userVerifyDone false) s = .next ((s.set CPU.page CPU.FW_STATUS_USER_STATE 3).raise cpuPg CPU.ev_USER_FW_FAIL).settle) ∧
    (∀ (core : Fin 8) (counters : BitVec 8) (pc : BitVec 64),
      let on := (List.range 8).filter (fun k => bitOf counters.toNat k && bitOf (s.get CPU.page (CPU.PMU_CTRL_SAMPLE_EN core)) k
        && bitOf (s.get CPU.page (CPU.PMU_CTRL_EN core)) (2 + k)
        && decide (s.get CPU.page (CPU.SAMPLE_PERIOD_EVENTS core) ≤ Tab.get (fun _ => 0) s.cpu.sinceSample (8 * core.val + k)))
      on ≠ [] → s.coreRuns core = true → s.flag CPU.page CPU.CTRL_FREEZE_ALL = false →
      exec (.pmuSample core counters pc) s = .next
        (let left := on.foldl (fun (t : Tab Nat) k => Tab.put (fun _ => 0) t (8 * core.val + k)
           (Tab.get (fun _ => 0) t (8 * core.val + k) - s.get CPU.page (CPU.SAMPLE_PERIOD_EVENTS core))) s.cpu.sinceSample
         let t : State := { s with cpu := { s.cpu with sinceSample := left } }
         (((t.setNat64 (CPU.page + CPU.SAMPLE_PC core) pc.toNat).count (CPU.page + CPU.SAMPLE_COUNT core) on.length).raise cpuPg
          (CPU.ev_PMU_SAMPLE core)).settle)) ∧
    (s.flag RPR.page RPR.CTRL_SWEEP_EN = true → s.active rpPg = true → s.sweepBusy = false →
      s.rpr.periodAt + s.get RPR.page RPR.CTRL_PERIOD * (3600 * nsSec) ≤ s.now →
      exec .sweepPeriod s = .next (State.sweepAsk { s with rpr := { s.rpr with periodAt := s.now } }).st.settle) ∧
    (∀ hits untested (losses : List (BitVec 16)), s.rpr.sweepOn = true → s.rpr.sweepEnding = false → s.shed = false →
      exec (.sweepClassDone hits untested losses) s = .next
        (let k := s.rpr.lastClass
         let hs := hits.filter (hitOf k)
         let skip := s.skips k hs + untested
         let t := each hs (fun h t => t.condemn h) s
         let t := if k = 1 then t.sweepUnshadow else if k = 5 then t.ageing (losses.map (·.toNat)) else t
         let t := (t.count (RPR.page + RPR.SKIPPED) skip).raiseIf (skip != 0) rpPg RPR.ev_SWEEP_SKIPPED
         State.settle (State.sweepSealed { t with rpr := { t.rpr with sweepEnding := true } }))) ∧
    (∀ c, s.rpr.bistChannel = some c → s.hasLeave 3 0 = true →
      let t := (State.endLeave { s with rpr := { s.rpr with bistChannel := none } } 3 0).showRpr
      exec (.memBistDone false) s = .next (t.raise rpPg RPR.ev_MEM_BIST_FAIL).settle ∧
      exec (.memBistDone true) s = .next
        (((t.setB (MEM.page c) MEM.STATUS_FAILED false).setB (MEM.page c) MEM.STATUS_TRAINED true).raise rpPg
          RPR.ev_MEM_BIST_PASS).settle)

/-- Writes of SYS, RAP and FLT registers (R50 to R56, R75, R88, R555, R563).
The model's readings and choices it rests on: log entries 24, 37. -/
def Obligations.HostSystemRowsComplete : Prop :=
  ∀ s : State,
    (∀ c, s.CoreDoes c (SYS.page + SYS.RESET_CTRL) (1 + (0xA5C3 : BitVec 16).toNat * 2 ^ 16) (.warmReset 0xA5C3 (.core c))
      (wrSYS (8 + c.val) SYS.RESET_CTRL)) ∧
    (∀ c (n : Fin 2), s.ready = true → s.CoreDoes c (SYS.page + SYS.CARRIER_CTRL) (s.withField (SYS.page) (carrierUpFld n) 1)
      (.carrierUp n (.core c)) (fun x u => ok (State.wrUp (State.wrUp (u.setNat (SYS.page + SYS.CARRIER_CTRL) x) (s.nat
      (SYS.page + SYS.CARRIER_CTRL)) x (8 + c.val) 0) (s.nat (SYS.page + SYS.CARRIER_CTRL)) x (8 + c.val) 1))) ∧
    (∀ c (n : Fin 2), s.ready = true → s.CoreDoes c (SYS.page + SYS.CARRIER_CTRL) (s.withField (SYS.page) (carrierUpFld n) 0)
      (.carrierDown n (.core c)) (fun x u => ok (State.wrUp (State.wrUp (u.setNat (SYS.page + SYS.CARRIER_CTRL) x) (s.nat
      (SYS.page + SYS.CARRIER_CTRL)) x (8 + c.val) 0) (s.nat (SYS.page + SYS.CARRIER_CTRL)) x (8 + c.val) 1))) ∧
    (∀ c, s.ready = true → s.CoreDoes c (SYS.page + SYS.FABRIC_CTRL) (s.withField (SYS.page) SYS.FABRIC_CTRL_OPEN 1)
      (.fabricOpen (.core c)) (wrSYS (8 + c.val) SYS.FABRIC_CTRL)) ∧
    (∀ c (ipv6 : Bool), s.CoreDoes c (RAP.page + RAP.ENCAP) (s.withField (RAP.page) RAP.ENCAP_MODE (b2n ipv6)) (.encapModeWrite
      ipv6 (.core c)) (fun x u => ok (u.setNat (RAP.page + RAP.ENCAP) x))) ∧
    (∀ c (page index : Fin 128), (let x := s.written (FLT.page + FLT.ACK) (page.val + index.val * 2 ^ 8); evUsed (fv x
      FLT.ACK_PAGE) (fv x FLT.ACK_INDEX) = true) → s.CoreDoes c (FLT.page + FLT.ACK) (page.val + index.val * 2 ^ 8) (.fltAck
      page index (.core c)) (fun x u => ok (u.ackSource (fv x FLT.ACK_PAGE) (fv x FLT.ACK_INDEX)))) ∧
    (∀ c (on : Bool), s.CoreDoes c (FLT.page + FLT.CTRL) (s.withField (FLT.page) FLT.CTRL_FORCE_ALARM (b2n on))
      (.forceAlarmWrite on (.core c)) (fun x u => ok (State.refreshAlarm (u.setNat (FLT.page + FLT.CTRL) x))))

/-- Writes of CAL, RXD and TXD registers (R121 to R129, R144, R158, R164, R174, R181, R200 to R208).
The model's readings and choices it rests on: log entries 23, 37, 55, 58, 62. -/
def Obligations.HostCarrierRowsComplete : Prop :=
  ∀ s : State,
    (∀ c (n : Fin 2), s.CoreDoes c (CAL.page n + CAL.CMD) (s.withField (CAL.page n) CAL.CMD_FULL 1) (.calFull n (.core c))
      (wrCAL n CAL.CMD)) ∧
    (∀ c (n : Fin 2) (conv : Fin 8) (pos : Fin 64), s.CoreDoes c (CAL.page n + CAL.CMD) (2 + conv.val * 2 ^ 8 + pos.val * 2 ^
      16) (.calSwap n conv pos (.core c)) (wrCAL n CAL.CMD)) ∧
    (∀ c (n : Fin 2), s.CoreDoes c (CAL.page n + CAL.CMD) (s.withField (CAL.page n) CAL.CMD_ABORT_SPARE 1) (.calAbortSpare n
      (.core c)) (wrCAL n CAL.CMD)) ∧
    (∀ c (n : Fin 2) (i : Fin 16), s.CoreDoes c (RXD.page n + RXD.CMD) (1 + i.val * 2 ^ 8) (.acqRestart n (some i) (.core c))
      (fun x u => u.rxdCmd n x)) ∧
    (∀ c (n : Fin 2), s.CoreDoes c (RXD.page n + RXD.CMD) (1 + 2 ^ 12) (.acqRestart n none (.core c)) (fun x u => u.rxdCmd n
      x)) ∧
    (∀ c (n : Fin 2) (i : Fin 16), s.CoreDoes c (RXD.page n + RXD.CMD) (2 + i.val * 2 ^ 8) (.rxdSnap n i (.core c)) (fun x u =>
      u.rxdCmd n x)) ∧
    (∀ c (n : Fin 2), s.CoreDoes c (RXD.page n + RXD.CMD) (s.withField (RXD.page n) RXD.CMD_MEM_CLEAR 1) (.cdMemClear n (.core
      c)) (fun x u => u.rxdCmd n x)) ∧
    (∀ c (n : Fin 2), s.CoreDoes c (RXD.page n + RXD.CMD) (s.withField (RXD.page n) RXD.CMD_FB_ZERO 1) (.fbZero n (.core c))
      (fun x u => u.rxdCmd n x)) ∧
    (∀ c (n : Fin 2), s.CoreDoes c (RXD.page n + RXD.CTRL) (s.withField (RXD.page n) RXD.CTRL_NLC_REQ 1) (.nlcRequest n (.core
      c)) (wrRXD n RXD.CTRL)) ∧
    (∀ c (n : Fin 2), s.CoreDoes c (RXD.page n + RXD.CTRL) (s.withField (RXD.page n) RXD.CTRL_NLC_REQ 0) (.nlcStopRequest n
      (.core c)) (wrRXD n RXD.CTRL)) ∧
    (∀ c (n : Fin 2) (mute : Bool), s.CoreDoes c (TXD.page n + TXD.CTRL) (s.withField (TXD.page n) TXD.CTRL_MUTE (b2n mute))
      (.txMuteWrite n mute (.core c)) (fun x u => ok ((u.setNat (TXD.page n + TXD.CTRL) x).outCause n (fun t =>
      { t with cHost := fb x TXD.CTRL_MUTE })))) ∧
    (∀ c (n : Fin 2) (on : Bool), s.CoreDoes c (TXD.page n + TXD.OCP_CFG) (s.withField (TXD.page n) TXD.OCP_CFG_FAULT_EN (b2n
      on)) (.faultEnWrite n on (.core c)) (fun x u => ok (wrTXD n TXD.OCP_CFG x u).st)) ∧
    (∀ c (n m : Fin 2), s.CoreDoes c (TXD.page n + TXD.MASK_CTRL m) (s.withField (TXD.page n) (TXD.MASK_CTRL_CHECK m) 1)
      (.maskCheck n m (.core c)) (wrTXD n (TXD.MASK_CTRL m))) ∧
    (∀ c (n m : Fin 2), s.CoreDoes c (TXD.page n + TXD.MASK_CTRL m) (s.withField (TXD.page n) (TXD.MASK_CTRL_APPLY m) 1)
      (.maskApply n m (.core c)) (wrTXD n (TXD.MASK_CTRL m))) ∧
    (∀ c (n : Fin 2) (target : BitVec 16), s.CoreDoes c (TXD.page n + TXD.CD_PRE) (s.withField (TXD.page n) TXD.CD_PRE_TARGET
      target.toNat) (.cdPreTargetWrite n target (.core c)) (fun x u =>
      let v := u.setNat (TXD.page n + TXD.CD_PRE) x
      let cur := u.getI (TXD.page n) TXD.CD_PRE_CURRENT
      ok (if u.inConfig (Kind.TXD.pg n) then v.txTake n
        else v.raiseIf (u.getI (TXD.page n) TXD.CD_PRE_TARGET != cur && v.getI (TXD.page n) TXD.CD_PRE_TARGET = cur)
          (Kind.TXD.pg n) TXD.ev_PRECOMP_DONE))) ∧
    (∀ c (n : Fin 2) (word : BitVec 32), (s.txs n).spi.length < 8 → s.CoreDoes c (TXD.page n + TXD.OCP_SPI_TX) (word.toNat)
      (.ocpSpiTx n word (.core c)) (fun x u => ok (State.spiStart (u.setTx n
      { s.txs n with spi := (s.txs n).spi ++ [BitVec.ofNat 32 x] }) n)))

/-- Writes of SUB, FEC and FRM registers (R217 to R223, R229, R234, R255, R257, R272, R286).
The model's readings and choices it rests on: log entries 23, 37, 67. -/
def Obligations.HostFramingRowsComplete : Prop :=
  ∀ s : State,
    (∀ c (n : Fin 2), s.CoreDoes c (SUB.page n + SUB.SCHED_CTRL) (s.withField (SUB.page n) SUB.SCHED_CTRL_CHECK 1) (.schedCheck
      n (.core c)) (wrSUB n SUB.SCHED_CTRL)) ∧
    (∀ c (n : Fin 2), s.CoreDoes c (SUB.page n + SUB.SCHED_CTRL) (s.withField (SUB.page n) SUB.SCHED_CTRL_APPLY 1) (.schedApply
      n (.core c)) (wrSUB n SUB.SCHED_CTRL)) ∧
    (∀ c (n : Fin 2) (leaf : Fin 32), s.CoreDoes c (SUB.page n + SUB.LEAF_CMD) (leaf.val + 2 ^ 8) (.leafDeregister n leaf
      (.core c)) (wrSUB n SUB.LEAF_CMD)) ∧
    (∀ c (n : Fin 2) (i : Fin 16) (owner : Option (Fin 32)), s.CoreDoes c (SUB.page n + SUB.UP_OWNER (i / 4)) (s.withField
      (SUB.page n) ⟨SUB.UP_OWNER (i / 4), 8 * (i % 4), 8⟩ (match owner with | some l => 128 + l.val | none => 0))
      (.upOwnerWrite n i owner (.core c)) (wrSUB n (SUB.UP_OWNER (i / 4)))) ∧
    (∀ c (n : Fin 2) (imax : BitVec 5), s.CoreDoes c (FEC.page n + FEC.CAP_REQ) (s.withField (FEC.page n) FEC.CAP_REQ_IMAX
      imax.toNat) (.imaxWrite n imax (.core c)) (fun x u => u.imaxWrite n (fv x FEC.CAP_REQ_IMAX))) ∧
    (∀ c (n : Fin 2), (let x := s.written (FEC.page n + FEC.CMD) (s.withField (FEC.page n) FEC.CMD_HIST_CLEAR 1); fb x
      FEC.CMD_HIST_CLEAR = true) → s.CoreDoes c (FEC.page n + FEC.CMD) (s.withField (FEC.page n) FEC.CMD_HIST_CLEAR 1)
      (.histClear n (.core c)) (fun x u => ok (each (List.range 32) (fun e t => t.setNat64 (FECW.HIST n e) 0) u))) ∧
    (∀ c (n : Fin 2), s.CoreDoes c (FRM.page n + FRM.CMD) (s.withField (FRM.page n) FRM.CMD_ALIGN_RESTART 1) (.alignRestart n
      (.core c)) (fun x u => ok (wrFRM n FRM.CMD x u).st)) ∧
    (∀ c (n : Fin 2), s.CoreDoes c (FRM.page n + FRM.CMD) (s.withField (FRM.page n) FRM.CMD_HB_SNAP 1) (.hbSnap n (.core c))
      (fun x u => ok (wrFRM n FRM.CMD x u).st))

/-- Writes of GTH and CRY registers (R338, R342 to R344, R364, R367, R375, R377, R378).
The model's readings and choices it rests on: log entries 37, 74, 77, 102. -/
def Obligations.HostGatheringRowsComplete : Prop :=
  ∀ s : State,
    (∀ c (g : Fin 64), s.CoreDoes c (GTH.page + GTH.CMD) (g.val + 1 * 2 ^ 8) (.gthRecollate g (.core c)) (fun x u => u.gthCmd
      (fv x GTH.CMD_GATHERING) (fv x GTH.CMD_ACTION))) ∧
    (∀ c (g : Fin 64), s.CoreDoes c (GTH.page + GTH.CMD) (g.val + 2 * 2 ^ 8) (.selClear g (.core c)) (fun x u => u.gthCmd (fv x
      GTH.CMD_GATHERING) (fv x GTH.CMD_ACTION))) ∧
    (∀ c (g : Fin 64), s.CoreDoes c (GTH.page + GTH.CMD) (g.val + 3 * 2 ^ 8) (.selManualA g (.core c)) (fun x u => u.gthCmd (fv
      x GTH.CMD_GATHERING) (fv x GTH.CMD_ACTION))) ∧
    (∀ c (g : Fin 64), s.CoreDoes c (GTH.page + GTH.CMD) (g.val + 4 * 2 ^ 8) (.selManualB g (.core c)) (fun x u => u.gthCmd (fv
      x GTH.CMD_GATHERING) (fv x GTH.CMD_ACTION))) ∧
    (∀ c (g : Fin 64), s.CoreDoes c (GTH.page + GTH.CMD) (g.val + 5 * 2 ^ 8) (.selForceA g (.core c)) (fun x u => u.gthCmd (fv
      x GTH.CMD_GATHERING) (fv x GTH.CMD_ACTION))) ∧
    (∀ c (g : Fin 64), s.CoreDoes c (GTH.page + GTH.CMD) (g.val + 6 * 2 ^ 8) (.selForceB g (.core c)) (fun x u => u.gthCmd (fv
      x GTH.CMD_GATHERING) (fv x GTH.CMD_ACTION))) ∧
    (∀ c (q : Fin 4) (v : BitVec 32), s.CoreDoes c (GTH.page + GTH.PG_CFG q) (v.toNat) (.pgCfgWrite q v (.core c)) (fun x u =>
      u.pgCfgWrite q x)) ∧
    (∀ c (q : Fin 4), (let x := s.written (GTH.page + GTH.PG_CMD) (q.val + 0 * 2 ^ 4); s.flag GTH.page (GTH.PG_CFG_EN (fv x
      GTH.PG_CMD_GROUP)) = true) → s.CoreDoes c (GTH.page + GTH.PG_CMD) (q.val + 0 * 2 ^ 4) (.pgClear q (.core c)) (fun x u =>
      ok (u.pgCmd (fv x GTH.PG_CMD_GROUP) (fv x GTH.PG_CMD_CMD)))) ∧
    (∀ c (q : Fin 4), (let x := s.written (GTH.page + GTH.PG_CMD) (q.val + 1 * 2 ^ 4); s.flag GTH.page (GTH.PG_CFG_EN (fv x
      GTH.PG_CMD_GROUP)) = true) → s.CoreDoes c (GTH.page + GTH.PG_CMD) (q.val + 1 * 2 ^ 4) (.pgLockout q (.core c)) (fun x u
      => ok (u.pgCmd (fv x GTH.PG_CMD_GROUP) (fv x GTH.PG_CMD_CMD)))) ∧
    (∀ c (q : Fin 4), (let x := s.written (GTH.page + GTH.PG_CMD) (q.val + 2 * 2 ^ 4); s.flag GTH.page (GTH.PG_CFG_EN (fv x
      GTH.PG_CMD_GROUP)) = true) → s.CoreDoes c (GTH.page + GTH.PG_CMD) (q.val + 2 * 2 ^ 4) (.pgForce q (.core c)) (fun x u =>
      ok (u.pgCmd (fv x GTH.PG_CMD_GROUP) (fv x GTH.PG_CMD_CMD)))) ∧
    (∀ c (q : Fin 4), (let x := s.written (GTH.page + GTH.PG_CMD) (q.val + 3 * 2 ^ 4); s.flag GTH.page (GTH.PG_CFG_EN (fv x
      GTH.PG_CMD_GROUP)) = true) → s.CoreDoes c (GTH.page + GTH.PG_CMD) (q.val + 3 * 2 ^ 4) (.pgManual q (.core c)) (fun x u =>
      ok (u.pgCmd (fv x GTH.PG_CMD_GROUP) (fv x GTH.PG_CMD_CMD)))) ∧
    (∀ c (g : Fin 64), s.CoreDoes c (CRY.page + CRY.CMD) (g.val + 2 ^ 8) (.switchTx g (.core c)) (wrCRY CRY.CMD)) ∧
    (∀ c (g : Fin 64), s.CoreDoes c (CRY.page + CRY.CMD) (g.val + 2 * 2 ^ 8) (.rxResync g (.core c)) (wrCRY CRY.CMD)) ∧
    (∀ c, s.CoreDoes c (CRY.page + CRY.CMD) (s.withField (CRY.page) CRY.CMD_SELF_TEST 1) (.crySelfTest (.core c)) (wrCRY
      CRY.CMD)) ∧
    (∀ c (g : Fin 64), s.CoreDoes c (CRY.page + CRY.AGREE_CMD) (g.val + 2 ^ 8) (.agreeStart g (.core c)) (fun x u => u.agreeCmd
      x)) ∧
    (∀ c, s.CoreDoes c (CRY.page + CRY.AGREE_CMD) (s.withField (CRY.page) CRY.AGREE_CMD_ABORT 1) (.agreeAbort (.core c)) (fun x
      u => u.agreeCmd x))

/-- Writes of CLS, FBL, FBR, TIM, PWR and HKA registers (R401, R444, R455, R470 to R483, R518, R519, R545, R549).
The model's readings and choices it rests on: log entries 37, 88, 96. -/
def Obligations.HostNetworkRowsComplete : Prop :=
  ∀ s : State,
    (∀ c, (let x := s.written (CLS.page + CLS.CMD) (s.withField (CLS.page) CLS.CMD_CACHE_FLUSH 1); fb x CLS.CMD_CACHE_FLUSH =
      true) → s.CoreDoes c (CLS.page + CLS.CMD) (s.withField (CLS.page) CLS.CMD_CACHE_FLUSH 1) (.cacheFlush (.core c)) (fun x u
      => ok { u with cls := { s.cls with cache := [] } })) ∧
    (∀ c (k : Fin 8), s.CoreDoes c (FBL.page k + FBL.CMD) (s.withField (FBL.page k) FBL.CMD_RETRAIN 1) (.fblRetrain k (.core
      c)) (wrFBL k FBL.CMD)) ∧
    (∀ c, s.CoreDoes c (FBR.page + FBR.ROUTE_CTRL) (s.withField (FBR.page) FBR.ROUTE_CTRL_APPLY 1) (.routeApply (.core c))
      (wrFBR (isFirmware (.core c)) FBR.ROUTE_CTRL)) ∧
    (∀ c (d : Fin 2) (v : BitVec 32), s.CoreDoes c (TIM.page + TIM.DCTRL d) (v.toNat) (.dpllModeWrite d v (.core c)) (wrTIM
      (isFirmware (.core c)) (TIM.DCTRL d))) ∧
    (∀ c (d : Fin 2) (ps : BitVec 32), s.CoreDoes c (TIM.page + TIM.PHASE_STEP d) (ps.toNat) (.phaseStep d ps (.core c)) (wrTIM
      (isFirmware (.core c)) (TIM.PHASE_STEP d))) ∧
    (∀ c (slot : Fin 16) (v : BitVec 32), s.CoreDoes c (TIM.page + TIM.SLOT_CFG slot) (v.toNat) (.slotCfgWrite slot v (.core
      c)) (wrTIM (isFirmware (.core c)) (TIM.SLOT_CFG slot))) ∧
    (∀ c (i : Fin 4) (v : BitVec 32), s.CoreDoes c (TIM.page + TIM.CLKOUT_FREQ i) (v.toNat) (.clkoutChange i true v (.core c))
      (wrTIM (isFirmware (.core c)) (TIM.CLKOUT_FREQ i))) ∧
    (∀ c (i : Fin 4) (v : BitVec 32), s.CoreDoes c (TIM.page + TIM.CLKOUT_CFG i) (v.toNat) (.clkoutChange i false v (.core c))
      (wrTIM (isFirmware (.core c)) (TIM.CLKOUT_CFG i))) ∧
    (∀ c (a0 a1 : Bool), s.CoreDoes c (TIM.page + TIM.CMD) (b2n a0 + 2 * b2n a1) (.ppsoutAlign a0 a1 (.core c)) (wrTIM
      (isFirmware (.core c)) TIM.CMD)) ∧
    (∀ c (j : Fin 2) (v : BitVec 32), s.CoreDoes c (TIM.page + TIM.PPSOUT_CFG j) (v.toNat) (.ppsoutEnable j v (.core c)) (wrTIM
      (isFirmware (.core c)) (TIM.PPSOUT_CFG j))) ∧
    (∀ c (mw : BitVec 32), s.CoreDoes c (PWR.page + PWR.BUDGET) (mw.toNat) (.budgetWrite mw (.core c)) (fun x u => ok
      (State.syncPower (u.setNat (PWR.page + PWR.BUDGET) x)))) ∧
    (∀ c (mw : BitVec 32), s.CoreDoes c (PWR.page + PWR.STANDING_BASE) (mw.toNat) (.standingBaseWrite mw (.core c)) (fun x u =>
      ok (State.syncPower (u.setNat (PWR.page + PWR.STANDING_BASE) x)))) ∧
    (∀ c, s.CoreDoes c (HKA.page + HKA.CMD) (s.withField (HKA.page) HKA.CMD_SCAN_START 1) (.scanStart (.core c)) (wrHKA
      HKA.CMD)) ∧
    (∀ c, s.CoreDoes c (HKA.page + HKA.CMD) (s.withField (HKA.page) HKA.CMD_SCAN_STOP 1) (.scanStop (.core c)) (wrHKA HKA.CMD))
      ∧
    (∀ c, s.CoreDoes c (HKA.page + HKA.CMD) (s.withField (HKA.page) HKA.CMD_CAL 1) (.hkaCal (.core c)) (wrHKA HKA.CMD))

/-- Writes of SEC, CPU and RPR registers (R572, R575, R577, R583, R585, R586, R595, R600, R610, R613, R615).
The model's readings and choices it rests on: log entries 37, 98, 99, 102, 103, 105. -/
def Obligations.HostSecurityRowsComplete : Prop :=
  ∀ s : State,
    (∀ c, s.CoreDoes c (SEC.page + SEC.ATTEST_CMD) (s.withField (SEC.page) SEC.ATTEST_CMD_START 1) (.attestStart (.core c))
      (wrSEC none SEC.ATTEST_CMD)) ∧
    (∀ c (index : Fin 64), s.CoreDoes c (SEC.page + SEC.PEER_CMD) (index.val + 2 ^ 8) (.peerAdd index (.core c)) (fun x u =>
      u.peerCmd x)) ∧
    (∀ c (index : Fin 64), s.CoreDoes c (SEC.page + SEC.PEER_CMD) (index.val + 2 ^ 9) (.peerRemove index (.core c)) (fun x u =>
      u.peerCmd x)) ∧
    (∀ c (ty : Bool), s.CoreDoes c (SEC.page + SEC.KS_CMD) (1 * 2 ^ 12 + b2n ty * 2 ^ 16) (.ksLoadKek ty (.core c)) (fun x u =>
      u.ksCmd x)) ∧
    (∀ c (slot : Fin 512) (ty : Bool), s.CoreDoes c (SEC.page + SEC.KS_CMD) (slot.val + 2 * 2 ^ 12 + b2n ty * 2 ^ 16)
      (.ksImport slot ty (.core c)) (fun x u => u.ksCmd x)) ∧
    (∀ c (slot : Fin 512), s.CoreDoes c (SEC.page + SEC.KS_CMD) (slot.val + 3 * 2 ^ 12) (.ksClear slot (.core c)) (fun x u =>
      u.ksCmd x)) ∧
    (∀ c (policy : BitVec 32), s.CoreDoes c (SEC.page + SEC.GUARD_POLICY) (policy.toNat) (.guardPolicyWrite policy (.core c))
      (fun x u => u.policyWrite x)) ∧
    (∀ c, s.CoreDoes c (SEC.page + SEC.GUARD_CMD) (s.withField (SEC.page) SEC.GUARD_CMD_SELFTEST 1) (.guardSelftest (.core c))
      (wrSEC none SEC.GUARD_CMD)) ∧
    (∀ c, s.CoreDoes c (SEC.page + SEC.DEBUG) (s.withField (SEC.page) SEC.DEBUG_LOCKED 1) (.debugLockSet (.core c)) (wrSEC none
      SEC.DEBUG)) ∧
    (∀ c (mode : Fin 4), s.CoreDoes c (SEC.page + SEC.FR_CMD) (1 + mode.val * 2 ^ 8) (.frChallenge mode (.core c)) (fun x u =>
      u.frCmd x none)) ∧
    (∀ c, s.CoreDoes c (CPU.page + CPU.CTRL) (s.withField (CPU.page) CPU.CTRL_USER_EN 1) (.userEnable (.core c)) (fun x u =>
      u.cpuCtrl x)) ∧
    (∀ c, s.CoreDoes c (CPU.page + CPU.CTRL) (s.withField (CPU.page) CPU.CTRL_USER_EN 0) (.userDisable (.core c)) (fun x u =>
      u.cpuCtrl x)) ∧
    (∀ c (on : Bool), s.CoreDoes c (CPU.page + CPU.CTRL) (s.withField (CPU.page) CPU.CTRL_FREEZE_ALL (b2n on)) (.freezeAllWrite
      on (.core c)) (fun x u => u.cpuCtrl x)) ∧
    (∀ c (core : Fin 8) (all : Bool), s.CoreDoes c (CPU.page + CPU.CMD) (1 + core.val * 2 ^ 8 + b2n all * 2 ^ 12) (.pmuClear
      core all (.core c)) (fun x u => ok (u.cpuCmd x))) ∧
    (∀ c, s.CoreDoes c (RPR.page + RPR.CMD) (s.withField (RPR.page) RPR.CMD_SWEEP_NOW 1) (.sweepNow (.core c)) (fun x u =>
      u.rprCmd x)) ∧
    (∀ c (channel : Fin 16), s.CoreDoes c (RPR.page + RPR.CMD) (2 + channel.val * 2 ^ 4) (.memBist channel (.core c)) (fun x u
      => u.rprCmd x)) ∧
    (∀ c (entry : Fin 2048), s.CoreDoes c (RPR.page + RPR.CMD) (4 + entry.val * 2 ^ 16) (.repairEntryClear entry (.core c))
      (fun x u => u.rprCmd x))

/-- Writes of the header of a page by a core, and of any register (R58, R66, R67, R71, R75, R552 to R558). Table 3-4 lists STATE_REQ =
CONFIG for no state, so what STATE_REQ_CONFIG does is its refusal (R67).
The model's readings and choices it rests on: log entries 25, 26, 27, 37, 115. -/
def Obligations.HeaderRowsComplete : Prop :=
  ∀ s : State,
    (∀ c (page : Fin 128), s.CoreDoes c (pageBase page + HDR.BLK_CTRL) (s.withField (pageBase page) HDR.ENABLE 1) (.blockEnable page (.core c))
      (wrHDR page HDR.BLK_CTRL)) ∧
    (∀ c (page : Fin 128), s.CoreDoes c (pageBase page + HDR.BLK_CTRL) (s.withField (pageBase page) HDR.ENABLE 0) (.blockDisable page (.core c))
      (wrHDR page HDR.BLK_CTRL)) ∧
    (∀ c (page : Fin 128), s.CoreDoes c (pageBase page + HDR.BLK_CTRL) (s.withField (pageBase page) HDR.SOFT_RESET 1) (.blockSoftReset page (.core c))
      (wrHDR page HDR.BLK_CTRL)) ∧
    (∀ c (page : Fin 128), s.CoreDoes c (pageBase page + HDR.BLK_CTRL) (s.withField (pageBase page) HDR.STATE_REQ 2) (.stateReqActive page (.core c))
      (wrHDR page HDR.BLK_CTRL)) ∧
    (∀ c (page : Fin 128), s.CoreDoes c (pageBase page + HDR.BLK_CTRL) (s.withField (pageBase page) HDR.STATE_REQ 3) (.stateReqDrain page (.core c))
      (wrHDR page HDR.BLK_CTRL)) ∧
    (∀ (c : Fin 8) (page : Fin 128), s.running = true → s.coreRuns c = true →
      s.mayWrite (.core c) (pageBase page + HDR.BLK_CTRL) (s.withField (pageBase page) HDR.STATE_REQ 1) = true →
      (s.flag (pageBase page) HDR.ENABLE = true ∨ alwaysActive page = false) →
      exec (.stateReqConfig page (.core c)) s = .next ((s.reached (.core c)).refuse page HDR.BLK_CTRL false
        (if s.flag (pageBase page) HDR.BUSY then .transition else .state) (8 + c.val)).settle) ∧
    (∀ c (page : Fin 128) (ms : BitVec 14), s.CoreDoes c (pageBase page + HDR.GRACE_MS.off) (s.withField (pageBase page) HDR.GRACE_MS ms.toNat) (.graceMsWrite page ms (.core c))
      (wrHDR page HDR.GRACE_MS.off)) ∧
    (∀ c (page : Fin 128) (seconds : BitVec 12), s.CoreDoes c (pageBase page + HDR.QUIET_S.off) (s.withField (pageBase page) HDR.QUIET_S seconds.toNat) (.quietSWrite page seconds (.core c))
      (wrHDR page HDR.QUIET_S.off)) ∧
    (∀ c (page : Fin 128) (w : Fin 4) (bits : BitVec 32), s.CoreDoes c (pageBase page + HDR.EVT_STICKY w) bits.toNat
      (.evtStickyClear page w bits (.core c)) (wrHDR page (HDR.EVT_STICKY w))) ∧
    (∀ c (page : Fin 128) (w : Fin 8) (value : BitVec 32), s.CoreDoes c (pageBase page + HDR.EVT_CLASS w) value.toNat
      (.evtClassWrite page w value (.core c)) (wrHDR page (HDR.EVT_CLASS w))) ∧
    (∀ c (a v : BitVec 32) k n p off, (placeAt a.toNat).bind Place.key = some (k, n, p, off) →
      s.CoreDoes c a.toNat v.toNat (.registerWrite a v (.core c)) (fun x u => u.handle (.core c) none k n p off x))

/-- Writes of whole table entries by a core: gatherings, keys, meters, queues, routes (R81, R325, R361 to R363, R408, R418, R456).
The model's readings and choices it rests on: log entries 37, 74, 76, 80. -/
def Obligations.EntryRowsComplete : Prop :=
  ∀ s : State,
    (∀ c g (g' : Fin 64) (ws : List Word), g.win = 13 → g.off = 0 → s.MayCommit c g g' → ws.length = 16 → (entGTH g' (s.entryOf g g' (ws.map (·.toNat))) (s.unstaged c)).rej = none →
      exec (.gatheringCommit g' ws (.core c)) s = .next (entGTH g' (s.entryOf g g' (ws.map (·.toNat))) (s.unstaged c)).st.settle) ∧
    (∀ c g (g' : Fin 64) (ws : List Word), g.win = 14 → g.off = 0 → s.MayCommit c g g' → ws.length = 8 → (entCRY g' (s.entryOf g g' (ws.map (·.toNat))) (s.unstaged c)).rej = none →
      exec (.keyEntryCommit g' ws (.core c)) s = .next (entCRY g' (s.entryOf g g' (ws.map (·.toNat))) (s.unstaged c)).st.settle) ∧
    (∀ c g (g' : Fin 64) (slot : Fin 512) (salt : BitVec 64), g.win = 14 → g.off = 0 → s.MayCommit c g g' → (entCRY g' (s.entryOf g g' (((s.keyWords g' true slot salt.toNat).map (BitVec.ofNat 32) : List Word).map (·.toNat))) (s.unstaged c)).rej = none →
      exec (.txKeyLoad g' slot salt (.core c)) s = .next (entCRY g' (s.entryOf g g' (((s.keyWords g' true slot salt.toNat).map (BitVec.ofNat 32) : List Word).map (·.toNat))) (s.unstaged c)).st.settle) ∧
    (∀ c g (g' : Fin 64) (slot : Fin 512) (salt : BitVec 64), g.win = 14 → g.off = 0 → s.MayCommit c g g' → (entCRY g' (s.entryOf g g' (((s.keyWords g' false slot salt.toNat).map (BitVec.ofNat 32) : List Word).map (·.toNat))) (s.unstaged c)).rej = none →
      exec (.rxKeyLoad g' slot salt (.core c)) s = .next (entCRY g' (s.entryOf g g' (((s.keyWords g' false slot salt.toNat).map (BitVec.ofNat 32) : List Word).map (·.toNat))) (s.unstaged c)).st.settle) ∧
    (∀ c g (m : Fin 266240) (ws : List Word), g.win = 19 → g.off = 0 → s.MayCommit c g m → ws.length = 8 → (entMTR m (s.entryOf g m (ws.map (·.toNat))) (s.unstaged c)).rej = none →
      exec (.meterCommit m ws (.core c)) s = .next (entMTR m (s.entryOf g m (ws.map (·.toNat))) (s.unstaged c)).st.settle) ∧
    (∀ c g (q : Fin 1048576) (profile : Fin 64) (en : Bool), g.win = 18 → g.off = 0 → s.MayCommit c g q → (entQ q (s.entryOf g q (([profile.val + b2n en * 2 ^ 8, 0, 0, 0].map (BitVec.ofNat 32) : List Word).map (·.toNat))) (s.unstaged c)).rej = none →
      exec (.queueEntryCommit q profile en (.core c)) s = .next (entQ q (s.entryOf g q (([profile.val + b2n en * 2 ^ 8, 0, 0, 0].map (BitVec.ofNat 32) : List Word).map (·.toNat))) (s.unstaged c)).st.settle) ∧
    (∀ c g (e : Fin 1024) (ws : List Word), g.win = 22 → g.off = 0 → s.MayCommit c g e → ws.length = 4 → (entROUTE (isFirmware (.core c)) e (s.entryOf g e (ws.map (·.toNat))) (s.unstaged c)).rej = none →
      exec (.routeEntryCommit e ws (.core c)) s = .next (entROUTE (isFirmware (.core c)) e (s.entryOf g e (ws.map (·.toNat))) (s.unstaged c)).st.settle)

/-- Writes of shaper entries by a core (R81, R424 to R426). The model's readings and choices it rests on: log entries 37, 80. -/
def Obligations.ShaperRowsComplete : Prop :=
  ∀ s : State,
    (∀ c g (q : Fin 1048576) (ws : List Word), g.win = 20 → g.off = 0 → s.MayCommit c g q → ws.length = 4 → (entSHP (q.val) (s.entryOf g q (ws.map (·.toNat))) (s.unstaged c)).rej = none →
      exec (.shaperCommit (.queue q) ws (.core c)) s = .next (entSHP (q.val) (s.entryOf g q (ws.map (·.toNat))) (s.unstaged c)).st.settle) ∧
    (∀ c g (q : Fin 1048576) , g.win = 20 → g.off = 0 → s.MayCommit c g q → (entSHP (q.val) (s.entryOf g q (((s.entryWords (shaperAddr (.queue q)) 3 ++ [setBit (s.nat (shaperAddr (.queue q) + 12)) 0]).map (BitVec.ofNat 32) : List Word).map (·.toNat))) (s.unstaged c)).rej = none →
      exec (.clearDebt (.queue q) (.core c)) s = .next (entSHP (q.val) (s.entryOf g q (((s.entryWords (shaperAddr (.queue q)) 3 ++ [setBit (s.nat (shaperAddr (.queue q) + 12)) 0]).map (BitVec.ofNat 32) : List Word).map (·.toNat))) (s.unstaged c)).st.settle) ∧
    (∀ c g (e : Fin 262144) (ws : List Word), g.win = 21 → g.off = 0 → s.MayCommit c g e → ws.length = 4 → (entSHP (2 ^ 20 + e.val) (s.entryOf g e (ws.map (·.toNat))) (s.unstaged c)).rej = none →
      exec (.shaperCommit (.endpoint e) ws (.core c)) s = .next (entSHP (2 ^ 20 + e.val) (s.entryOf g e (ws.map (·.toNat))) (s.unstaged c)).st.settle) ∧
    (∀ c g (e : Fin 262144) , g.win = 21 → g.off = 0 → s.MayCommit c g e → (entSHP (2 ^ 20 + e.val) (s.entryOf g e (((s.entryWords (shaperAddr (.endpoint e)) 3 ++ [setBit (s.nat (shaperAddr (.endpoint e) + 12)) 0]).map (BitVec.ofNat 32) : List Word).map (·.toNat))) (s.unstaged c)).rej = none →
      exec (.clearDebt (.endpoint e) (.core c)) s = .next (entSHP (2 ^ 20 + e.val) (s.entryOf g e (((s.entryWords (shaperAddr (.endpoint e)) 3 ++ [setBit (s.nat (shaperAddr (.endpoint e) + 12)) 0]).map (BitVec.ofNat 32) : List Word).map (·.toNat))) (s.unstaged c)).st.settle) ∧
    (∀ c g (g' : Fin 64) (ws : List Word), g.win = 21 → g.off = 0x400000 → s.MayCommit c g g' → ws.length = 4 → (entSHP (2 ^ 21 + g'.val) (s.entryOf g g' (ws.map (·.toNat))) (s.unstaged c)).rej = none →
      exec (.shaperCommit (.gathering g') ws (.core c)) s = .next (entSHP (2 ^ 21 + g'.val) (s.entryOf g g' (ws.map (·.toNat))) (s.unstaged c)).st.settle) ∧
    (∀ c g (g' : Fin 64) , g.win = 21 → g.off = 0x400000 → s.MayCommit c g g' → (entSHP (2 ^ 21 + g'.val) (s.entryOf g g' (((s.entryWords (shaperAddr (.gathering g')) 3 ++ [setBit (s.nat (shaperAddr (.gathering g') + 12)) 0]).map (BitVec.ofNat 32) : List Word).map (·.toNat))) (s.unstaged c)).rej = none →
      exec (.clearDebt (.gathering g') (.core c)) s = .next (entSHP (2 ^ 21 + g'.val) (s.entryOf g g' (((s.entryWords (shaperAddr (.gathering g')) 3 ++ [setBit (s.nat (shaperAddr (.gathering g') + 12)) 0]).map (BitVec.ofNat 32) : List Word).map (·.toNat))) (s.unstaged c)).st.settle) ∧
    (∀ c g (k : Fin 8) (ws : List Word), g.win = 21 → g.off = 0x400400 → s.MayCommit c g k → ws.length = 4 → (entSHP (2 ^ 21 + 64 + k.val) (s.entryOf g k (ws.map (·.toNat))) (s.unstaged c)).rej = none →
      exec (.shaperCommit (.link k) ws (.core c)) s = .next (entSHP (2 ^ 21 + 64 + k.val) (s.entryOf g k (ws.map (·.toNat))) (s.unstaged c)).st.settle) ∧
    (∀ c g (k : Fin 8) , g.win = 21 → g.off = 0x400400 → s.MayCommit c g k → (entSHP (2 ^ 21 + 64 + k.val) (s.entryOf g k (((s.entryWords (shaperAddr (.link k)) 3 ++ [setBit (s.nat (shaperAddr (.link k) + 12)) 0]).map (BitVec.ofNat 32) : List Word).map (·.toNat))) (s.unstaged c)).rej = none →
      exec (.clearDebt (.link k) (.core c)) s = .next (entSHP (2 ^ 21 + 64 + k.val) (s.entryOf g k (((s.entryWords (shaperAddr (.link k)) 3 ++ [setBit (s.nat (shaperAddr (.link k) + 12)) 0]).map (BitVec.ofNat 32) : List Word).map (·.toNat))) (s.unstaged c)).st.settle)

/-- Writes of one table word, of ALIGN_OFFSET and of FR_CMD by a core; the commands that only a session may give; and every
register row, given by a session, is that session's WRITE request (R82, R121, R229, R305, R508, R574, R585, R586).
The model's readings and choices it rests on: log entries 37, 98. -/
def Obligations.SingleWordAndSessionRowsComplete : Prop :=
  ∀ s : State,
    (∀ c g (n : Fin 2) (entry : Fin 544) (target : BitVec 32), g.win = n.val → g.off = 0 → s.MayCommit c g entry →
      (s.requester (8 + c.val)).entry ≠ some (entryAddr g entry) →
      let o := winCAL n (CALW.SUBCONV n entry + 12) (merged s g entry 3 target.toNat) (s.unstaged c)
      o.rej = none → exec (.calTargetWrite n entry target (.core c)) s = .next o.st.settle) ∧
    (∀ c g (n : Fin 2) (leaf : Fin 32) (listed : Bool), g.win = 6 + n.val → g.off = 0x1000 → s.MayCommit c g leaf →
      (s.requester (8 + c.val)).entry ≠ some (entryAddr g leaf) →
      let v := s.withField (SUBW.LEAFE n leaf) SUBW.LEAFE_LISTED (b2n listed)
      let o := (s.unstaged c).commitEntry (.core c) g leaf (s.lastOf g leaf v)
      o.rej = none → exec (.leafListedWrite n leaf listed (.core c)) s = .next o.st.settle) ∧
    (∀ c g (i : Fin 512) (v : BitVec 32), g.win = 24 → g.off = 0 → s.MayCommit c g i →
      (s.requester (8 + c.val)).entry ≠ some (entryAddr g i) →
      let o := (s.unstaged c).rawWordWrite i (merged s g i 0 v.toNat)
      o.rej = none → exec (.rawWindowWrite i v (.core c)) s = .next o.st.settle) ∧
    (∀ c (offset : BitVec 64), let lo := PMB.page + PMB.ALIGN_OFFSET; let hi := PMB.page + (PMB.ALIGN_OFFSET + 4)
      let a := offset.toNat % 2 ^ 32; let b := offset.toNat / 2 ^ 32
      let o := wrPMB PMB.ALIGN_OFFSET (s.written lo a) (s.reached (.core c))
      let t := o.st.wrote lo
      let q := wrPMB (PMB.ALIGN_OFFSET + 4) (t.written hi b) (t.reached (.core c))
      s.running = true → s.coreRuns c = true → s.mayWrite (.core c) lo a = true → o.rej = none →
      t.mayWrite (.core c) hi b = true → q.rej = none →
      exec (.alignOffsetWrite offset (.core c)) s = .next (q.st.wrote hi).settle) ∧
    (∀ c (mode : Fin 4) (sigOk : Bool), let a := SEC.page + SEC.FR_CMD; let v := 2 + mode.val * 2 ^ 8
      let t : State := { s with sec := { s.sec with sigHint := some sigOk } }
      let o := State.frCmd (t.reached (.core c)) (t.written a v) none
      s.running = true → s.coreRuns c = true → t.mayWrite (.core c) a v = true → o.rej = none →
      exec (.frEnter mode sigOk (.core c)) s = .next (State.settle (let u := o.st.wrote a
        { u with sec := { u.sec with sigHint := none } }))) ∧
    (∀ t h (index : Fin 8), s.SessionDoes t h (SEC.page + SEC.AUTH_CMD) (index.val + 2 ^ 4) (.authAdd index (.rap h))
      (fun x u => u.authCmd x h.slot)) ∧
    (∀ t h (index : Fin 8), s.SessionDoes t h (SEC.page + SEC.AUTH_CMD) (index.val + 2 ^ 5) (.authRemove index (.rap h))
      (fun x u => u.authCmd x h.slot)) ∧
    (∀ t h (key : BitVec 16), s.SessionDoes t h (SEC.page + SEC.DEBUG_CMD) (1 + key.toNat * 2 ^ 16) (.debugOpen key (.rap h))
      (fun x u => u.debugCmd x (some (h.slot.val, h.tag.toNat)))) ∧
    (∀ h (a v : BitVec 32), exec (.registerWrite a v (.rap h)) s = exec (.write h a v) s)

/-- R91. Over any run of request SEQs offered to a new session, latest first in the list: one is accepted where it exceeds the highest accepted, or is one of
the 64 values below it that was not accepted yet. Any other is dropped by every request row and counted in REPLAY_DROPS. The part's own SEQ on a new
session starts at 1 (`txSeq` is that of the last frame sent) and goes up by 1 with each frame: a response, an event message, an EVT_LOST
message, whether it leaves at once or, after a change of encapsulation, waits for a peer (`unsent`). That a first SEQ must exceed 0 is
log entry 32. The model's readings and choices it rests on: log entry 32. -/
def Obligations.RequestSeqIsFreshAndRecent : Prop :=
  (∀ (l : List Nat) (q : Nat), let r := offered l; let high := r.2.foldl max 0
    ((seqAccept r.1 q).isSome = true ↔ high < q ∨ (q < high ∧ high ≤ q + 64 ∧ q ∉ r.2))) ∧
  (∀ (s : State) (h : ReqHdr), s.running = true → s.rapUp = true → s.ready = true → s.toMe h.via false = true →
    (h.via.udp = true → h.via.sumOk = true) → (s.session h.slot).stage = .opened →
    seqAccept (s.session h.slot) h.seq.toNat = none →
    (∀ i ∈ [Instr.nop h, .sessionClose h], exec i s = .next s.replayDrop.settle) ∧
    (∀ a v m n ws, ∀ i ∈ [Instr.read h a, .write h a v, .modify h a m v, .bulkWrite h a n ws, .bulkRead h a n, .fill h a n ws],
      exec i s = .next s.replayDrop.settle) ∧
    (∀ o b l p c x y, ∀ i ∈ [Instr.imagePush h o b, .imageCommit h l, .evtSubscribe h p c, .evtAck h x y],
      exec i s = .next s.replayDrop.settle)) ∧
  (∀ s : State, s.Canonical → s.replayDrop.nat (RAP.page + RAP.REPLAY_DROPS) = min (2 ^ 32 - 1) (s.nat (RAP.page + RAP.REPLAY_DROPS) + 1)) ∧
  ({} : Session).txSeq = 0 ∧
  (∀ (s : State) (slot tag : Nat) (r : Resp), (s.session slot).stage = .opened → s.Canonical →
    ((s.respond slot tag r).session slot).txSeq = (s.session slot).txSeq + 1 ∧
    ∃ op, let wire := (s.session slot).respWire op tag r
      (∃ p, (s.respond slot tag r).out = s.out ++ [.response slot tag r p wire]) ∨
      ((s.respond slot tag r).out = s.out ∧
        ((s.respond slot tag r).session slot).unsent = (s.session slot).unsent ++ [.response slot tag r {} wire])) ∧
  (∀ (s : State) (slot p i cls : Nat), s.Canonical →
    ∃ l k, (s.msgTo slot p i cls).out = s.out ++ l ∧
      ((s.msgTo slot p i cls).session slot).unsent = (s.session slot).unsent ++ k ∧
      ((s.msgTo slot p i cls).session slot).txSeq = (s.session slot).txSeq + (l.length + k.length))

/-- R100 (versions with RETRY: 2.0 and later). A repeated request whose TAG's response is kept receives that response again and does not execute; one
with no kept response executes as any other (`runReq`). While an earlier request of the session waits, the repeated response waits its turn (R99). Every response is kept under its TAG, in place of an older one; once its
second has passed (the row RESPONSE_RETENTION_EXPIRY says when) it is no longer kept.
The model's readings and choices it rests on: log entries 32, 128. -/
def Obligations.KeptResponsesAreRepeated : Prop :=
  (∀ (s : State) (h : ReqHdr) (y : Session) (k : Kept), s.running = true → s.rapUp = true → s.ready = true →
    s.toMe h.via false = true → (h.via.udp = true → h.via.sumOk = true) →
    (s.session h.slot).stage = .opened → seqAccept (s.session h.slot) h.seq.toNat = some y → s.Canonical →
    h.retry = true → 0x20 ≤ (s.session h.slot).version → (s.session h.slot).kept.find? (fun k => k.tag = h.tag.toNat) = some k →
    let again := fun (q : Req) => if s.rap.blocked.contains h.slot.val then
        let t := s.taken h y q
        State.settle { t with rap := { t.rap with held := t.rap.held ++ [(h.slot.val, h, Held.say k.resp)] } }
      else ((s.taken h y q).respond h.slot h.tag.toNat k.resp).settle
    exec (.nop h) s = .next (again .nop) ∧ exec (.sessionClose h) s = .next (again .close) ∧
    (∀ (a v m : Word) (n : Nat) (ws : List Word),
      exec (.read h a) s = .next (again (.read a)) ∧ exec (.write h a v) s = .next (again (.write a v)) ∧
      exec (.modify h a m v) s = .next (again (.modify a m v)) ∧ exec (.bulkWrite h a n ws) s = .next (again (.bulkWrite a n ws)) ∧
      exec (.bulkRead h a n) s = .next (again (.bulkRead a n)) ∧ exec (.fill h a n ws) s = .next (again (.fill a n ws))) ∧
    (∀ o b l p c x z,
      exec (.imagePush h o b) s = .next (again (.push o b)) ∧ exec (.imageCommit h l) s = .next (again (.commit l)) ∧
      exec (.evtSubscribe h p c) s = .next (again (.subscribe p c)) ∧ exec (.evtAck h x z) s = .next (again (.ack x z)))) ∧
  (∀ (s t : State) (h : ReqHdr), h.retry = true →
    (s.Takes h .nop t → exec (.nop h) s = .next (t.runReq h.slot h .nop).settle) ∧
    (s.Takes h .close t → exec (.sessionClose h) s = .next (t.runReq h.slot h .close).settle) ∧
    (∀ a v m : Word, ∀ (n : Nat) (ws : List Word),
      (s.Takes h (.read a) t → exec (.read h a) s = .next (t.runReq h.slot h (.read a)).settle) ∧
      (s.Takes h (.write a v) t → exec (.write h a v) s = .next (t.runReq h.slot h (.write a v)).settle) ∧
      (s.Takes h (.modify a m v) t → exec (.modify h a m v) s = .next (t.runReq h.slot h (.modify a m v)).settle) ∧
      (s.Takes h (.bulkWrite a n ws) t → exec (.bulkWrite h a n ws) s = .next (t.runReq h.slot h (.bulkWrite a n ws)).settle) ∧
      (s.Takes h (.bulkRead a n) t → exec (.bulkRead h a n) s = .next (t.runReq h.slot h (.bulkRead a n)).settle) ∧
      (s.Takes h (.fill a n ws) t → exec (.fill h a n ws) s = .next (t.runReq h.slot h (.fill a n ws)).settle)) ∧
    (∀ o b l p c x y,
      (s.Takes h (.push o b) t → exec (.imagePush h o b) s = .next (t.runReq h.slot h (.push o b)).settle) ∧
      (s.Takes h (.commit l) t → exec (.imageCommit h l) s = .next (t.runReq h.slot h (.commit l)).settle) ∧
      (s.Takes h (.subscribe p c) t → exec (.evtSubscribe h p c) s = .next (t.runReq h.slot h (.subscribe p c)).settle) ∧
      (s.Takes h (.ack x y) t → exec (.evtAck h x y) s = .next (t.runReq h.slot h (.ack x y)).settle))) ∧
  (∀ (s : State) (slot tag : Nat) (r : Resp), (s.session slot).stage = .opened → s.Canonical →
    (((s.respond slot tag r).session slot).kept.find? (fun k => k.tag = tag)).map (·.resp) = some r ∧
    (∀ u, u ≠ tag → ((s.respond slot tag r).session slot).kept.find? (fun k => k.tag = u) = (s.session slot).kept.find? (fun k => k.tag = u))) ∧
  (∀ (s : State) (slot : Fin 8) (tag : BitVec 16), s.running = true → s.raised = [] → s.acked = [] →
    s.rap.udp = s.flag RAP.page RAP.ENCAP_MODE → s.Canonical → (∀ k ∈ (s.session slot).kept, k.tag = tag.toNat → k.sentAt + nsSec ≤ s.now) →
    ∃ t, exec (.responseRetentionExpiry slot tag) s = .next t ∧ (t.session slot).kept.find? (fun k => k.tag = tag.toNat) = none ∧
      t.regs = s.regs ∧ t.mem = s.mem ∧ t.out = s.out ∧ ∀ j, j ≠ slot.val → t.session j = s.session j)

/-- R641. A READ, WRITE or MODIFY at an address that is not a multiple of 4 returns ALIGN, and so does a BULK_READ, BULK_WRITE or FILL that starts
there, on every page and in every window, implemented or not; a core's access receives ALIGN as well. Nothing changes (`unlink` ends the requester's snapshot, R77), nothing is raised and REJECT_LAST stays. A forbidden access returns ACCESS_DENIED first (R76). -/
def Obligations.MisalignedAccessesReturnAlign : Prop :=
  (∀ (s : State) (src : Src) (toTag : Option (Nat × Nat)) (a v : Nat), a % 4 ≠ 0 →
    (s.readAt src a = if readDenied src a then ⟨rsDENIED, false, 0, s.unlink src.code⟩ else ⟨rsALIGN, false, 0, s.unlink src.code⟩) ∧
    (s.writeAt src toTag a v = if s.writeDenied src a then ⟨rsDENIED, false, 0, s.unlink src.code⟩ else ⟨rsALIGN, false, 0, s.unlink src.code⟩)) ∧
  (∀ (s t : State) (h : ReqHdr) (a m v : BitVec 32) (n : Nat) (ws : List Word), a.toNat % 4 ≠ 0 →
    (s.Takes h (.read a) t →
      exec (.read h a) s = .next ((t.unlink h.slot).respond h.slot h.tag.toNat (status rsALIGN)).settle) ∧
    (s.Takes h (.write a v) t → (t.session h.slot).claim = false →
      exec (.write h a v) s = .next ((t.unlink h.slot).respond h.slot h.tag.toNat (status rsALIGN)).settle) ∧
    (s.Takes h (.modify a m v) t → (t.session h.slot).claim = false →
      exec (.modify h a m v) s = .next ((t.unlink h.slot).respond h.slot h.tag.toNat (status rsALIGN)).settle) ∧
    (s.Takes h (.bulkRead a n) t →
      exec (.bulkRead h a n) s = .next ((t.unlink h.slot).respond h.slot h.tag.toNat (status rsALIGN)).settle) ∧
    (s.Takes h (.bulkWrite a n ws) t → (t.session h.slot).claim = false →
      exec (.bulkWrite h a n ws) s = .next ((t.unlink h.slot).respond h.slot h.tag.toNat (status rsALIGN)).settle) ∧
    (s.Takes h (.fill a n ws) t → (t.session h.slot).claim = false →
      exec (.fill h a n ws) s = .next ((t.unlink h.slot).respond h.slot h.tag.toNat (status rsALIGN)).settle))

/-- R83. In the GDDR7 window a READ, WRITE or MODIFY returns ALIGN, and so does a BULK_READ, BULK_WRITE or FILL that does not start at a multiple of
32 or whose word count is no multiple of 8; while GDDR7 serves, one that starts beyond the table region returns NO_REG with no word done. None of
them has an effect. The model's readings and choices it rests on: log entry 22. -/
def Obligations.Gddr7WindowTakesWholeWordsOnly : Prop :=
  ∀ (s t : State) (h : ReqHdr) (a m v : BitVec 32) (n : Nat) (ws : List Word), 0x40000000 ≤ a.toNat → (t.session h.slot).claim = false →
    (s.Takes h (.read a) t →
      exec (.read h a) s = .next ((t.unlink h.slot).respond h.slot h.tag.toNat (status rsALIGN)).settle) ∧
    (s.Takes h (.write a v) t →
      exec (.write h a v) s = .next ((t.unlink h.slot).respond h.slot h.tag.toNat (status rsALIGN)).settle) ∧
    (s.Takes h (.modify a m v) t →
      exec (.modify h a m v) s = .next ((t.unlink h.slot).respond h.slot h.tag.toNat (status rsALIGN)).settle) ∧
    (a.toNat % 32 ≠ 0 ∨ n % 8 ≠ 0 →
      (s.Takes h (.bulkRead a n) t →
        exec (.bulkRead h a n) s = .next ((t.unlink h.slot).respond h.slot h.tag.toNat (status rsALIGN)).settle) ∧
      (ws.length = n → s.Takes h (.bulkWrite a n ws) t →
        exec (.bulkWrite h a n ws) s = .next ((t.unlink h.slot).respond h.slot h.tag.toNat (status rsALIGN)).settle) ∧
      (s.Takes h (.fill a n ws) t →
        exec (.fill h a n ws) s = .next ((t.unlink h.slot).respond h.slot h.tag.toNat (status rsALIGN)).settle)) ∧
    (a.toNat % 32 = 0 → n % 8 = 0 → t.eccServes = true → 0x40000000 + 32 * t.tableWords ≤ a.toNat →
      (s.Takes h (.bulkRead a n) t →
        exec (.bulkRead h a n) s = .next ((t.unlink h.slot).respond h.slot h.tag.toNat (status rsNO_REG)).settle) ∧
      (ws.length = n → s.Takes h (.bulkWrite a n ws) t →
        exec (.bulkWrite h a n ws) s = .next ((t.unlink h.slot).respond h.slot h.tag.toNat (status rsNO_REG)).settle) ∧
      (s.Takes h (.fill a n ws) t →
        exec (.fill h a n ws) s = .next ((t.unlink h.slot).respond h.slot h.tag.toNat (status rsNO_REG)).settle))

/-- R68. SYS, RAP, PWR, THM, FLT, SEC, CLK and NVS are ACTIVE after reset, and every write that would leave their ENABLE at 0 is refused with reason
STATE, from a core and from a session: the refusal is recorded on the page, and a session receives STATE_REJECT (R75). -/
def Obligations.ControlPagesRefuseDisable : Prop :=
  ∀ k ∈ [Kind.SYS, .RAP, .PWR, .THM, .FLT, .SEC, .CLK, .NVS],
    State.reset.blk k.pages.1 = bACTIVE ∧
    (∀ (s : State) (c : Fin 8) (a v : BitVec 32), a.toNat = pageBase k.pages.1 + HDR.BLK_CTRL → s.running = true → s.coreRuns c = true →
      s.mayWrite (.core c) a.toNat v.toNat = true → fb (s.written a.toNat v.toNat) HDR.ENABLE = false →
      exec (.registerWrite a v (.core c)) s
        = .next ((s.reached (.core c)).refuse k.pages.1 HDR.BLK_CTRL false .state (8 + c.val)).settle) ∧
    (∀ (s t : State) (h : ReqHdr) (a v : BitVec 32), a.toNat = pageBase k.pages.1 + HDR.BLK_CTRL → s.Takes h (.write a v) t →
      t.mayWrite (.rap h) a.toNat v.toNat = true → fb (t.written a.toNat v.toNat) HDR.ENABLE = false →
      exec (.write h a v) s = .next (((t.reached (.rap h)).refuse k.pages.1 HDR.BLK_CTRL false .state h.slot).respond h.slot h.tag.toNat
        (status rsSTATE)).settle)

/-- R60, R66, R67, R72. A session's request in BLK_CTRL that the block's state does not allow is refused and recorded: a soft reset of SYS; a STATE_REQ or
a soft reset while BUSY = 1, with reason TRANSITION; CONFIG, from any state; DRAIN unless the block is ACTIVE, and always on the
control pages; ACTIVE unless the block is in CONFIG or DRAIN; a soft reset of a block that is OFF. All but TRANSITION have reason STATE, and all
return STATE_REJECT. A write that asks for a soft reset and a state at once is refused where either would be (log entry 115).
The model's readings and choices it rests on: log entries 25, 26, 115. -/
def Obligations.BlockRequestsOutsideTheTableAreRefused : Prop :=
  ∀ (s t : State) (h : ReqHdr) (p : Fin 128) (a v : BitVec 32), a.toNat = pageBase p + HDR.BLK_CTRL → s.Takes h (.write a v) t →
    t.mayWrite (.rap h) a.toNat v.toNat = true →
    let x := t.written a.toNat v.toNat
    let b := t.blk p
    let req := fv x HDR.STATE_REQ
    let asks := req = 1 ∨ req = 2 ∨ req = 3
    let sr := fb x HDR.SOFT_RESET
    let busy := t.flag (pageBase p) HDR.BUSY
    let refused := fun (r : Rej) => exec (.write h a v) s = .next (((t.reached (.rap h)).refuse p HDR.BLK_CTRL false r h.slot).respond h.slot
      h.tag.toNat (status rsSTATE)).settle
    fb x HDR.ENABLE = true → t.flag (pageBase p) HDR.ENABLE = true →
      (p.val = 0 → sr = true → refused .state) ∧
      (busy = true → sr = true → p.val ≠ 0 → refused .transition) ∧
      (busy = true → sr = false → asks → refused .transition) ∧
      (busy = false → req = 1 → refused .state) ∧
      (busy = false → req = 3 → (b ≠ bACTIVE ∨ alwaysActive p = true) → refused .state) ∧
      (busy = false → req = 2 → b ≠ bCONFIG → b ≠ bDRAIN → refused .state) ∧
      (busy = false → sr = true → b = bOFF → refused .state)

/-- R70, R75 and Table 3-5. A session's write outside a field's range is refused with RANGE_REJECT, and one of a CONFIG only field outside OFF and CONFIG
with STATE_REJECT (log entry 12 says which writes those are). A refusal records OFFSET, REASON, SOURCE and WINDOW in the page's REJECT_LAST, raises WRITE_REJECTED and changes
no other word, nothing in GDDR7 and nothing that has left the part. The model's readings and choices it rests on: log entry 12. -/
def Obligations.RefusedWritesChangeOnlyTheRecord : Prop :=
  (∀ (s t : State) (h : ReqHdr) (a v : BitVec 32) k n p off r, s.Takes h (.write a v) t → t.writeDenied (.rap h) a.toNat = false → a.toNat % 4 = 0 →
    placeAt a.toNat = some (.reg k n p off r) → r.rw ||| r.wo ||| r.w1s ||| r.w1c ≠ 0 →
    let x := t.written a.toNat v.toNat
    ((t.reached (.rap h)).inRange k off x = false → exec (.write h a v) s = .next
      (((t.reached (.rap h)).refuse p off false .range h.slot).respond h.slot h.tag.toNat (status rsRANGE)).settle) ∧
    ((t.reached (.rap h)).inRange k off x = true → t.blk p ≠ bOFF → t.blk p ≠ bCONFIG → (t.nat a.toNat) &&& r.cfg ≠ x &&& r.cfg →
      exec (.write h a v) s = .next
        (((t.reached (.rap h)).refuse p off false .state h.slot).respond h.slot h.tag.toNat (status rsSTATE)).settle)) ∧
  (∀ (s : State) (p off src : Nat) (w : Bool) (r : Rej), s.Canonical → off < 4096 → src < 16 →
    let t := s.refuse p off w r src
    t.get (pageBase p) HDR.REJ_OFFSET = off ∧ t.get (pageBase p) HDR.REJ_REASON = r.code ∧ t.get (pageBase p) HDR.REJ_SOURCE = src ∧
    t.flag (pageBase p) HDR.REJ_WINDOW = w ∧ t.raised = s.raised ++ [(p, 127)] ∧
    (∀ a, a ≠ pageBase p + HDR.REJ_OFFSET.off → t.word a = s.word a) ∧ t = { s with regs := t.regs, raised := t.raised })

/-- The frame of a session's write of a register that no block acts on (THM, NVS, CNV, QMG, MTR, SHP, MEM, ECC; R7, R91, R100): where no source has
been raised, the register holds the word written, its WO bits 0; every other word, but for RAP's frame counters, every byte of GDDR7, and every other part of the state
but RAP's own is as it was when the request was taken; the one thing that leaves is the response OK, to the sender of the request.
The model's readings and choices it rests on: log entries 9, 10. -/
def Obligations.PlainWritesChangeOneRegister : Prop :=
  ∀ (s t : State) (h : ReqHdr) (a v : BitVec 32) k n p off r, s.Takes h (.write a v) t → t.mayWrite (.rap h) a.toNat v.toNat = true →
    placeAt a.toNat = some (.reg k n p off r) → k ∈ [Kind.THM, .NVS, .CNV, .QMG, .MTR, .SHP, .MEM, .ECC] → 0x100 ≤ off →
    s.Canonical → t.Canonical → t.raised = [] → t.acked = [] → t.rap.udp = t.flag RAP.page RAP.ENCAP_MODE →
    (t.session h.slot).stage = .opened →
    ∃ u, exec (.write h a v) s = .next u ∧
      u.nat a.toNat = (if r.wo = 0 then t.written a.toNat v.toNat else t.written a.toNat v.toNat &&& (0xFFFFFFFF - r.wo)) % 2 ^ 32 ∧
      (∀ b, b ≠ a.toNat → b ≠ RAP.page + RAP.TX_FRAMES → b ≠ RAP.page + RAP.TX_FRAMES + 4 → u.word b = t.word b) ∧
      u.out = t.out ++ [.response h.slot h.tag.toNat (status rsOK) h.via.peer
        ((t.session h.slot).respWire (reqOp (.write a v)) h.tag.toNat (status rsOK))] ∧
      (∀ i, i ≠ h.slot.val → u.session i = t.session i) ∧
      u = { t with regs := u.regs, rap := u.rap, out := u.out }

/-- R7, R73 and Table 0-4, for every register of every page: after a write passes its checks, an RW or WO bit of the word handed to the block is the
bit written, a W1C bit is cleared and a W1S bit set where 1 was written, and every other bit, reserved and RO ones, is as it was. No bit has two of these codes. -/
def Obligations.WrittenBitsFollowTheAccessCodes : Prop :=
  ∀ (s : State) (a v : Nat) k n p off r, placeAt a = some (.reg k n p off r) → v < 2 ^ 32 → ∀ i, i < 32 →
    let o := (s.nat a).testBit i
    let w := v.testBit i
    let x := (s.written a v).testBit i
    (r.rw.testBit i = true → x = w) ∧ (r.wo.testBit i = true → x = w) ∧ (r.w1s.testBit i = true → x = (o || w)) ∧
    (r.w1c.testBit i = true → x = (o && !w)) ∧
    (r.rw.testBit i = false → r.wo.testBit i = false → r.w1s.testBit i = false → r.w1c.testBit i = false → x = o)

/-- The state at reset is in the canonical form that every step keeps (log entry 1), with no command waiting.
The model's readings and choices it rests on: log entry 1. -/
def Obligations.ResetStateIsCanonical : Prop := State.reset.Canonical ∧ State.reset.pending = []

/-- At reset the device reset is in force (R32), nothing has left the part, DTIME is 0 (R43), the control pages are ACTIVE and every other block in
CONFIG (R66, R68), every ladder step is 0, and registers of every kind of page hold the Reset columns of their page summaries. -/
def Obligations.ResetHoldsTheSpecsValues : Prop :=
  State.reset.inReset = true ∧ State.reset.out = [] ∧ State.reset.dtime = 0 ∧ State.reset.mem = [] ∧
  (∀ p ∈ allPages, State.reset.blk p = (if p ∈ [0, 1, 2, 3, 5, 6, 7, 10] then bACTIVE else bCONFIG) ∧ State.reset.step_ p = 0 ∧
    State.reset.flag (pageBase p) HDR.ENABLE = true ∧ State.reset.nat (pageBase p + HDR.GRACE_MS.off) = 0x003103E8 ∧
    State.reset.nat (pageBase p + HDR.QUIET_S.off) = 0x3C) ∧
  State.reset.nat (RAP.page + RAP.UDP_PORT) = 0x88B5 ∧ State.reset.nat (PWR.page + PWR.GOV_CFG) = 0x0BB805DC ∧
  State.reset.nat (HKA.page + HKA.TIMER) = 0x2710 ∧ State.reset.nat (SEC.page + SEC.GUARD_POLICY) = 0x6815 ∧
  State.reset.nat (CLK.page + CLK.OCXO_CFG) = 0x00271001 ∧ State.reset.nat (TIM.page + TIM.LIMITS) = 0x23F011F8 ∧
  State.reset.nat (CPU.page + CPU.WDOG_CFG) = 0x1F4 ∧ State.reset.nat (RPR.page + RPR.CTRL) = 0x003F1801 ∧
  (∀ n ∈ [0, 1], State.reset.nat (CNV.page n + CNV.SPARES) = 0x44444444 ∧ State.reset.nat (CAL.page n + CAL.CTRL) = 0x000F0310 ∧
    State.reset.nat (RXD.page n + RXD.CD_WINDOW) = 0x4E20B1E0 ∧ State.reset.nat (TXD.page n + TXD.MOD) = 0x00013400 ∧
    State.reset.nat (SUB.page n + SUB.T_EQ) = 0x000F4240 ∧ State.reset.nat (FEC.page n + FEC.CAP_CAUSES) = 0x18181818 ∧
    State.reset.nat (FRM.page n + FRM.RATE) = 0x00180258) ∧
  State.reset.nat (GTH.page + GTH.COLL_CFG) = 0x03E807D0 ∧ State.reset.nat (CRY.page + CRY.CTR_WARN) = 0x80000000 ∧
  State.reset.nat (OSP.page + OSP.MC_SRC) = 0x55 ∧ State.reset.nat (PMB.page + PMB.CTRL) = 3 ∧
  (∀ q, q < 8 → State.reset.nat (CLN.page q + CLN.QUAD_CFG) = 1) ∧ State.reset.nat (MAC.page + MAC.PORT_CFG 31) = 0x24000000 ∧
  State.reset.nat (QMG.page + QMG.BP_CFG) = 0x4060 ∧ State.reset.nat (MTR.page + MTR.CTRL) = 1 ∧
  State.reset.nat (SHP.page + SHP.OVH_PROFILE 15) = 0x14 ∧ (∀ k, k < 8 → State.reset.nat (FBL.page k + FBL.FOM_CFG) = 0x440) ∧
  State.reset.nat (FBR.page + FBR.TIMERS) = 0x0010000A ∧ State.reset.nat (ECC.page + ECC.SCRUB_CFG) = 0x0002003C

/-- R552, R553 and Table 19-1, for a source of class INFO that fires alone. A source that the page does not use, or that is disabled, changes nothing. An
enabled one sets its sticky bit; where EVT_FIRST holds no capture it captures index, class and DTIME and sets VALID, and where it holds one, that stays and OVERFLOW is
set. No message leaves, and no other word and no other state changes. The model's readings and choices it rests on: log entry 10. -/
def Obligations.FiredSourceIsRecorded : Prop :=
  ∀ (s : State) (p i : Fin 128), s.running = true → s.raised = [] → s.acked = [] →
    s.rap.udp = s.flag RAP.page RAP.ENCAP_MODE → s.Canonical →
    (evUsed p i = false → exec (.eventFire p i) s = .next s) ∧
    (evUsed p i = true → s.flag (pageBase p) (evEnable i) = false → exec (.eventFire p i) s = .next s) ∧
    (evUsed p i = true → s.flag (pageBase p) (evEnable i) = true → s.evClass p i = 0 → ∃ u, exec (.eventFire p i) s = .next u ∧
      u.sticky p i = true ∧ (∀ j : Fin 128, j ≠ i → u.sticky p j = s.sticky p j) ∧
      (s.flag (pageBase p) HDR.FIRST_VALID = false → u.flag (pageBase p) HDR.FIRST_VALID = true ∧
        u.get (pageBase p) HDR.FIRST_INDEX = i ∧ u.get (pageBase p) HDR.FIRST_CLASS = 0 ∧
        u.flag (pageBase p) HDR.FIRST_OVERFLOW = s.flag (pageBase p) HDR.FIRST_OVERFLOW ∧
        u.nat64 (pageBase p + HDR.EVT_FIRST_TIME) = s.dtime % 2 ^ 64) ∧
      (s.flag (pageBase p) HDR.FIRST_VALID = true → u.flag (pageBase p) HDR.FIRST_VALID = true ∧
        u.flag (pageBase p) HDR.FIRST_OVERFLOW = true ∧ u.get (pageBase p) HDR.FIRST_INDEX = s.get (pageBase p) HDR.FIRST_INDEX ∧
        u.get (pageBase p) HDR.FIRST_CLASS = s.get (pageBase p) HDR.FIRST_CLASS ∧
        u.nat64 (pageBase p + HDR.EVT_FIRST_TIME) = s.nat64 (pageBase p + HDR.EVT_FIRST_TIME)) ∧
      (∀ a, a ≠ pageBase p + (evBit i).off → a ≠ pageBase p + HDR.FIRST_VALID.off → a ≠ pageBase p + HDR.EVT_FIRST_TIME →
        a ≠ pageBase p + HDR.EVT_FIRST_TIME + 4 → u.word a = s.word a) ∧
      u = { s with regs := u.regs })

/-- R77. A 64-bit register of a page sits in two consecutive words. A requester's read of the low word loads its own snapshot with the high word, and
its read of the high word right after returns it, whatever has happened to the register in between; where its last access was anything else, the read
returns the live high word. No other requester's read touches the snapshot.
The model's readings and choices it rests on: log entry 36. -/
def Obligations.HighWordsComeFromTheSnapshot : Prop :=
  (∀ k : Kind, ∀ r ∈ HDR.regs ++ k.regs, r.w64 = 1 → ∃ q ∈ HDR.regs ++ k.regs, q.w64 = 2 ∧ q.off = r.off + 4 ∧ q.count = r.count ∧
    (q.stride = r.stride ∨ r.count = 1)) ∧
  (∀ (s u : State) (src : Src) (a : Nat) (lo hi : Place), s.Canonical → a % 4 = 0 → a + 4 < 0x40000000 →
    s.filling a = false → u.filling (a + 4) = false → placeAt a = some lo → placeAt (a + 4) = some hi → lo.half = 1 → hi.half = 2 → readDenied src a = false →
    readDenied src (a + 4) = false →
    (s.readAt src a).status = rsOK ∧ (s.readAt src a).word = s.shown a lo ∧
    (u.requester src.code = ((s.readAt src a).st).requester src.code → u.readAt src (a + 4) = ⟨rsOK, false, s.nat (a + 4), u.afterRead src.code (a + 4) hi⟩) ∧
    ((u.requester src.code).lastLow ≠ some a → u.readAt src (a + 4) = ⟨rsOK, false, u.shown (a + 4) hi, u.afterRead src.code (a + 4) hi⟩)) ∧
  (∀ (s : State) (src other : Src) (a : Nat), other.code ≠ src.code → ((s.readAt other a).st).requester src.code = s.requester src.code)

/-- R81. A session's write of a word of a table entry other than its highest-addressed one is answered OK and changes no word: the word, as written, is the requester's staged word of that
place of the entry, together with those it staged before for the same entry; what it had staged for another entry is gone. Nothing else changes.
The model's readings and choices it rests on: log entry 36. -/
def Obligations.LowerWordsOfAnEntryAreStaged : Prop :=
  ∀ (s t : State) (h : ReqHdr) (a v : BitVec 32) (g : WinSeg) (e w : Nat), s.Takes h (.write a v) t → t.writeDenied (.rap h) a.toNat = false →
    a.toNat % 4 = 0 → a.toNat < 0x40000000 → placeAt a.toNat = some (.win g e w) → w + 1 < g.stride / 4 → t.filling a.toNat = false →
    t.Canonical →
    ∃ u : State, exec (.write h a v) s = .next (u.respond h.slot h.tag.toNat (status rsOK)).settle ∧
      u = { t with rap := { t.rap with requesters := u.rap.requesters } } ∧
      (u.requester h.slot).entry = some (entryAddr g e) ∧
      ((u.requester h.slot).staged.find? (fun x => x.1 = w)).map (·.2) = some v ∧
      (∀ j, j ≠ w → (u.requester h.slot).staged.find? (fun x => x.1 = j) =
        if (t.requester h.slot).entry = some (entryAddr g e) then (t.requester h.slot).staged.find? (fun x => x.1 = j) else none) ∧
      (∀ i, i ≠ h.slot.val → u.requester i = t.requester i)
end

