-- ==== Sys2Proof/Laws/Tables.lean ====
section
/-!
SUPPORT. The sparse tables and the GDDR7 bytes: a read after a write, and the canonical form that every operation on them
keeps.
-/

-- One declaration at a time: all at once need more threads than the check's memory limit allows.
set_option Elab.async false
namespace Sys2Proof.Machine

variable {α : Type} [DecidableEq α] {d : Nat → α}

/-- Reading the key just written. -/
@[simp] theorem Tab.get_put_same (t : Tab α) (h : t.Pairwise (fun a b => a.1 < b.1)) (k : Nat) (v : α) :
    Tab.get d (Tab.put d t k v) k = v := by
  induction t with
  | nil => by_cases hv : v = d k <;> simp [Tab.put, Tab.get, hv]
  | cons e r ih =>
    obtain ⟨j, x⟩ := e
    have hr := (List.pairwise_cons.mp h).2
    have hlt := (List.pairwise_cons.mp h).1
    have skip : ∀ l : Tab α, (∀ e ∈ l, k < e.1) → Tab.get d l k = d k := by
      intro l hl
      induction l with
      | nil => rfl
      | cons e l il =>
        have : e.1 ≠ k := by have := hl e (by simp); omega
        simp only [Tab.get, this, if_false]
        exact il (fun e he => hl e (by simp [he]))
    unfold Tab.put
    split
    · have : j ≠ k := by omega
      simp [Tab.get, this, ih hr]
    · split
      · subst j
        split
        · next hv => rw [hv]; exact skip r hlt
        · simp [Tab.get]
      · split
        · next hv =>
          rw [hv]
          refine skip _ (fun e he => ?_)
          have : k < j := by omega
          rcases List.mem_cons.mp he with rfl | he
          · exact this
          · have := hlt e he; simp at this; omega
        · simp [Tab.get]

/-- Reading another key. -/
@[simp] theorem Tab.get_put_ne (t : Tab α) {k j : Nat} (h : j ≠ k) (v : α) :
    Tab.get d (Tab.put d t k v) j = Tab.get d t j := by
  have h' : ¬ k = j := fun e => h e.symm
  induction t with
  | nil => by_cases hv : v = d k <;> simp [Tab.put, Tab.get, hv, h']
  | cons e r ih =>
    obtain ⟨i, x⟩ := e
    unfold Tab.put
    split
    · simp [Tab.get, ih]
    · split
      · subst i
        split <;> simp [Tab.get, h']
      · split <;> simp [Tab.get, h']

/-- The keys of a table after a write. -/
theorem Tab.mem_put {t : Tab α} {k : Nat} {v : α} {e : Nat × α} (h : e ∈ Tab.put d t k v) :
    e ∈ t ∨ (e = (k, v) ∧ v ≠ d k) := by
  induction t with
  | nil =>
    unfold Tab.put at h
    split at h
    · simp at h
    · exact .inr ⟨by simpa using h, by assumption⟩
  | cons x r ih =>
    obtain ⟨i, x⟩ := x
    unfold Tab.put at h
    split at h
    · rcases List.mem_cons.mp h with rfl | h
      · exact .inl (by simp)
      · rcases ih h with h | h
        · exact .inl (by simp [h])
        · exact .inr h
    · split at h
      · split at h
        · exact .inl (by simp [h])
        · rcases List.mem_cons.mp h with rfl | h
          · exact .inr ⟨rfl, by assumption⟩
          · exact .inl (by simp [h])
      · split at h
        · exact .inl h
        · rcases List.mem_cons.mp h with rfl | h
          · exact .inr ⟨rfl, by assumption⟩
          · exact .inl h

/-- A write keeps the keys rising. -/
theorem Tab.put_sorted {t : Tab α} (hs : t.Pairwise (fun a b => a.1 < b.1)) (k : Nat) (v : α) :
    (Tab.put d t k v).Pairwise (fun a b => a.1 < b.1) := by
  induction t with
  | nil => unfold Tab.put; split <;> simp
  | cons e r ih =>
    obtain ⟨i, x⟩ := e
    obtain ⟨hlt, hr⟩ := List.pairwise_cons.mp hs
    unfold Tab.put
    split
    · refine List.pairwise_cons.mpr ⟨fun e he => ?_, ih hr⟩
      rcases Tab.mem_put he with he | ⟨rfl, -⟩
      · exact hlt e he
      · assumption
    · split
      · subst i
        split
        · exact hr
        · exact List.pairwise_cons.mpr ⟨hlt, hr⟩
      · split
        · exact hs
        · refine List.pairwise_cons.mpr ⟨fun e he => ?_, hs⟩
          rcases List.mem_cons.mp he with rfl | he
          · show k < i; omega
          · have := hlt e he; simp only at this ⊢; omega

/-- A write keeps the canonical form. -/
theorem Tab.Canon.put {t : Tab α} (h : Tab.Canon d t) (k : Nat) (v : α) : Tab.Canon d (Tab.put d t k v) := by
  refine ⟨Tab.put_sorted h.1 k v, fun e he => ?_⟩
  rcases Tab.mem_put he with he | ⟨rfl, hv⟩
  · exact h.2 e he
  · exact hv

/-- Leaving entries out keeps the canonical form. -/
theorem Tab.Canon.filter {t : Tab α} (h : Tab.Canon d t) (p : Nat × α → Bool) : Tab.Canon d (t.filter p) :=
  ⟨h.1.filter p, fun e he => h.2 e (List.mem_filter.mp he).1⟩

omit [DecidableEq α] in
/-- The empty table is canonical. -/
theorem Tab.Canon.nil : Tab.Canon d [] := ⟨List.Pairwise.nil, by simp⟩

/-- Entries written one after another keep the canonical form. -/
theorem Tab.Canon.puts {β : Type} {t : Tab α} (h : Tab.Canon d t) (l : List β) (k : β → Nat) (v : β → α) :
    Tab.Canon d (l.foldl (fun u e => Tab.put d u (k e) (v e)) t) := by
  induction l generalizing t with
  | nil => exact h
  | cons e l ih => exact ih (h.put _ _)

omit [DecidableEq α] in
/-- Entries kept, left out or replaced under their keys stay canonical where no kept value is its key's default. -/
theorem Tab.Canon.filterMap {t : Tab α} (h : Tab.Canon d t) (f : Nat × α → Option (Nat × α))
    (key : ∀ e x, f e = some x → x.1 = e.1) (val : ∀ e ∈ t, ∀ x, f e = some x → x.2 ≠ d x.1) :
    Tab.Canon d (t.filterMap f) := by
  refine ⟨?_, fun e he => ?_⟩
  · refine List.Pairwise.filterMap f ?_ h.1
    intro a b hab x hx y hy
    rw [key a x hx, key b y hy]
    exact hab
  · obtain ⟨a, ha, hf⟩ := List.mem_filterMap.mp he
    exact val a ha e hf

/-! ### The bytes of GDDR7 -/

/-- The addresses of memory after a write. -/
theorem Cells.mem_put {m : List Host.Cell} {k : Nat} {v : Byte} {e : Host.Cell} (h : e ∈ Cells.put m k v) :
    e ∈ m ∨ e = (k, v) := by
  induction m with
  | nil => exact .inr (by simpa [Cells.put] using h)
  | cons x r ih =>
    obtain ⟨j, x⟩ := x
    unfold Cells.put at h
    split at h
    · rcases List.mem_cons.mp h with rfl | h
      · exact .inl (by simp)
      · exact (ih h).imp (fun h => by simp [h]) id
    · split at h
      · rcases List.mem_cons.mp h with rfl | h
        · exact .inr rfl
        · exact .inl (by simp [h])
      · rcases List.mem_cons.mp h with rfl | h
        · exact .inr rfl
        · exact .inl h

/-- Writing a byte keeps the canonical form of memory. -/
theorem Memory.wf_put {m : List Host.Cell} (h : Memory.wf m) (k : Nat) (v : Byte) : Memory.wf (Cells.put m k v) := by
  induction m with
  | nil => simp [Cells.put, Memory.wf]
  | cons e r ih =>
    obtain ⟨j, x⟩ := e
    obtain ⟨hlt, hr⟩ := List.pairwise_cons.mp h
    unfold Cells.put
    split
    · refine List.pairwise_cons.mpr ⟨fun e he => ?_, ih hr⟩
      rcases Cells.mem_put he with he | rfl
      · exact hlt e he
      · assumption
    · split
      · subst j; exact List.pairwise_cons.mpr ⟨hlt, hr⟩
      · refine List.pairwise_cons.mpr ⟨fun e he => ?_, h⟩
        rcases List.mem_cons.mp he with rfl | he
        · show k < j; omega
        · have := hlt e he; simp only at this ⊢; omega

/-- Writing bytes one after another keeps the canonical form of memory. -/
theorem Memory.wf_putBytes {m : List Host.Cell} (h : Memory.wf m) (k : Nat) (l : List Nat) : Memory.wf (putBytes m k l) := by
  induction l generalizing m k with
  | nil => exact h
  | cons b l ih => exact ih (Memory.wf_put h k _) (k + 1)

/-- Forgetting bytes keeps the canonical form of memory. -/
theorem Memory.wf_filter {m : List Host.Cell} (h : Memory.wf m) (p : Host.Cell → Bool) : Memory.wf (m.filter p) :=
  List.Pairwise.filter p h

/-- Reading the byte just written. -/
@[simp] theorem Cells.get_put_same (m : List Host.Cell) (k : Nat) (v : Byte) : Cells.get (Cells.put m k v) k = some v := by
  induction m with
  | nil => simp [Cells.put, Cells.get]
  | cons e r ih =>
    obtain ⟨j, x⟩ := e
    unfold Cells.put
    split
    · have : j ≠ k := by omega
      simp [Cells.get, this, ih]
    · split <;> simp [Cells.get]

/-- Reading another byte. -/
@[simp] theorem Cells.get_put_ne (m : List Host.Cell) {k j : Nat} (h : j ≠ k) (v : Byte) :
    Cells.get (Cells.put m k v) j = Cells.get m j := by
  have h' : ¬ k = j := fun e => h e.symm
  induction m with
  | nil => simp [Cells.put, Cells.get, h']
  | cons e r ih =>
    obtain ⟨i, x⟩ := e
    unfold Cells.put
    split
    · simp [Cells.get, ih]
    · split
      · subst i; simp [Cells.get, h']
      · simp [Cells.get, h']

/-- A byte outside a written run reads as before. -/
theorem Cells.get_putBytes_outside (m : List Host.Cell) (k : Nat) (l : List Nat) (a : Nat) (h : a < k ∨ k + l.length ≤ a) :
    Cells.get (putBytes m k l) a = Cells.get m a := by
  induction l generalizing m k with
  | nil => rfl
  | cons b l ih =>
    simp only [List.length_cons] at h
    rw [putBytes, ih _ _ (by omega), Cells.get_put_ne _ (by omega)]

end Sys2Proof.Machine
end

