-- ==== Sys2Proof/Laws/Evolves.lean ====
section
/-!
SUPPORT. How a state evolves: the relation is reflexive and transitive, it passes through conditions and lists, and an update of
fields outside its frame keeps it. Every operation of the block has its own lemma in the files beside this one.
-/

-- One declaration at a time: all at once need more threads than the check's memory limit allows.
set_option Elab.async false
namespace Sys2Proof.Machine

variable {s t u : State}

theorem Evolves.refl (s : State) : Evolves s s := ⟨rfl, rfl, List.prefix_refl _, Nat.le_refl _, id⟩

theorem Evolves.trans (h : Evolves s t) (k : Evolves t u) : Evolves s u :=
  ⟨k.pending.trans h.pending, k.now.trans h.now, h.out.trans k.out, Nat.le_trans h.freeCtr k.freeCtr,
   fun c => k.canonical (h.canonical c)⟩

/-- Two states agree in the fields that the relation speaks of. -/
structure SameFrame (u t : State) : Prop where
  pending : u.pending = t.pending
  now : u.now = t.now
  out : u.out = t.out
  freeCtr : u.freeCtr = t.freeCtr
  regs : u.regs = t.regs
  pages : u.pages = t.pages
  osp : u.osp = t.osp
  gath : u.gath = t.gath
  pg : u.pg = t.pg
  cry : u.cry = t.cry
  ports : u.ports = t.ports
  fbl : u.fbl = t.fbl
  mem : u.mem = t.mem
  sessions : u.rap.sessions = t.rap.sessions
  requesters : u.rap.requesters = t.rap.requesters

/-- An update of other fields. -/
theorem Evolves.upd (h : Evolves s t)
    (e : SameFrame u t := by exact ⟨rfl, rfl, rfl, rfl, rfl, rfl, rfl, rfl, rfl, rfl, rfl, rfl, rfl, rfl, rfl⟩) : Evolves s u := by
  refine ⟨e.pending ▸ h.pending, e.now ▸ h.now, e.out ▸ h.out, e.freeCtr ▸ h.freeCtr, fun c => ?_⟩
  have k := h.canonical c
  exact ⟨e.regs ▸ k.regs, e.pages ▸ k.pages, e.osp ▸ k.osp, e.gath ▸ k.gath, e.pg ▸ k.pg, e.cry ▸ k.cry,
    e.ports ▸ k.ports, e.fbl ▸ k.fbl, e.mem ▸ k.mem, e.sessions ▸ k.sessions, e.requesters ▸ k.requesters⟩

theorem Evolves.ite {c : Prop} [Decidable c] (h : Evolves s t) (k : Evolves s u) : Evolves s (if c then t else u) := by
  split <;> assumption

theorem Evolves.iteF {α : Type} {a b : α} {c : Prop} [Decidable c] (f : α → State) (h : Evolves s (f a))
    (k : Evolves s (f b)) : Evolves s (f (if c then a else b)) := by
  split <;> assumption

theorem Evolves.foldl {α : Type} {f : State → α → State} {l : List α} (h : Evolves s t)
    (hf : ∀ x a, Evolves s x → Evolves s (f x a)) : Evolves s (l.foldl f t) := by
  induction l generalizing t with
  | nil => exact h
  | cons a l ih => exact ih (hf t a h)

/-- Emptying the bytes of the OSP. -/
theorem Evolves.osp_nil (h : Evolves s t) : Evolves s { t with osp := [] } :=
  ⟨h.pending, h.now, h.out, h.freeCtr, fun c => have k := h.canonical c
    ⟨k.regs, k.pages, Tab.Canon.nil, k.gath, k.pg, k.cry, k.ports, k.fbl, k.mem, k.sessions, k.requesters⟩⟩

/-- Emptying the client ports' data. -/
theorem Evolves.ports_nil (h : Evolves s t) : Evolves s { t with ports := [] } :=
  ⟨h.pending, h.now, h.out, h.freeCtr, fun c => have k := h.canonical c
    ⟨k.regs, k.pages, k.osp, k.gath, k.pg, k.cry, Tab.Canon.nil, k.fbl, k.mem, k.sessions, k.requesters⟩⟩

/-- Memory replaced by one that keeps the canonical form. -/
theorem Evolves.setMem {m : List Host.Cell} (h : Evolves s t) (hm : Memory.wf t.mem → Memory.wf m) :
    Evolves s { t with mem := m } :=
  ⟨h.pending, h.now, h.out, h.freeCtr, fun c => have k := h.canonical c
    ⟨k.regs, k.pages, k.osp, k.gath, k.pg, k.cry, k.ports, k.fbl, hm k.mem, k.sessions, k.requesters⟩⟩

/-- Free values drawn. -/
theorem Evolves.draw {n : Nat} (h : Evolves s t) : Evolves s { t with freeCtr := t.freeCtr + n } :=
  ⟨h.pending, h.now, h.out, Nat.le_trans h.freeCtr (Nat.le_add_right _ _), fun c => have k := h.canonical c
    ⟨k.regs, k.pages, k.osp, k.gath, k.pg, k.cry, k.ports, k.fbl, k.mem, k.sessions, k.requesters⟩⟩

theorem Keeps.next (h : Evolves s t) : Keeps s (.next t) := h

theorem Keeps.ite {a b : Host.Outcome State Fault Refusal} {c : Prop} [Decidable c] (h : Keeps s a) (k : Keeps s b) :
    Keeps s (if c then a else b) := by
  split <;> assumption

end Sys2Proof.Machine
end

