-- ==== Sys2Proof/Laws/Ops.lean ====
section
/-!
SUPPORT. Each operation of Machine/Ops.lean: what it makes of a state has evolved from it (Safety).
-/

-- One declaration at a time: all at once need more threads than the check's memory limit allows.
set_option Elab.async false
namespace Sys2Proof.Machine

variable {s0 : State}

theorem Evolves.setWord {s : State} {a : Nat} {v : Word} (ev : Evolves s0 s) : Evolves s0 (s.setWord a v) :=
  ev.trans ⟨rfl, rfl, List.prefix_refl _, Nat.le_refl _,
    fun c => ⟨c.regs.put a v, c.pages, c.osp, c.gath, c.pg, c.cry, c.ports, c.fbl, c.mem, c.sessions, c.requesters⟩⟩

theorem Evolves.setNat {s : State} {a : Nat} {v : Nat} (ev : Evolves s0 s) :
    Evolves s0 (s.setNat a v) := by
  unfold State.setNat
  exact ev.setWord

theorem Evolves.set {s : State} {base : Nat} {f : Fld} {v : Nat} (ev : Evolves s0 s) :
    Evolves s0 (s.set base f v) := by
  unfold State.set
  exact ev.setNat

theorem Evolves.setI {s : State} {base : Nat} {f : Fld} {v : Int} (ev : Evolves s0 s) :
    Evolves s0 (s.setI base f v) := by
  unfold State.setI
  exact ev.set

theorem Evolves.setB {s : State} {base : Nat} {f : Fld} {b : Bool} (ev : Evolves s0 s) :
    Evolves s0 (s.setB base f b) := by
  unfold State.setB
  exact ev.set

theorem Evolves.bumpBy {s : State} {base : Nat} {f : Fld} {n : Nat} (ev : Evolves s0 s) :
    Evolves s0 (s.bumpBy base f n) := by
  unfold State.bumpBy
  exact ev.set

theorem Evolves.bump {s : State} {base : Nat} {f : Fld} (ev : Evolves s0 s) :
    Evolves s0 (s.bump base f) := by
  unfold State.bump
  exact ev.bumpBy

theorem Evolves.count {s : State} {a : Nat} {n : Nat} (ev : Evolves s0 s) :
    Evolves s0 (s.count a n) := by
  unfold State.count
  exact ev.bumpBy

theorem Evolves.setNat64 {s : State} {a : Nat} {v : Nat} (ev : Evolves s0 s) :
    Evolves s0 (s.setNat64 a v) := by
  unfold State.setNat64
  exact ev.setNat.setNat

theorem Evolves.count64 {s : State} {a : Nat} {n : Nat} (ev : Evolves s0 s) :
    Evolves s0 (s.count64 a n) := by
  unfold State.count64
  exact ev.setNat64

theorem Evolves.sat64 {s : State} {a : Nat} {n : Nat} (ev : Evolves s0 s) :
    Evolves s0 (s.sat64 a n) := by
  unfold State.sat64
  exact ev.setNat64

theorem Evolves.setWords {s : State} {a : Nat} {l : List Nat} (ev : Evolves s0 s) : Evolves s0 (s.setWords a l) := by
  induction l generalizing s a with
  | nil => exact ev
  | cons v r ih => exact ih ev.setNat

theorem Evolves.each {α : Type} {l : List α} {f : α → State → State} {s : State} (ev : Evolves s0 s)
    (hf : ∀ (a : α) (t : State), Evolves s0 t → Evolves s0 (f a t)) : Evolves s0 (each l f s) :=
  ev.foldl fun _ _ => hf _ _

theorem Evolves.whenB {b : Bool} {f : State → State} {s : State} (ev : Evolves s0 s) (hf0 : ∀ (a : State), Evolves s0 a → Evolves s0 (f a)) :
    Evolves s0 (whenB b f s) := by
  unfold Sys2Proof.Machine.whenB
  exact Evolves.ite (hf0 _ ev) ev

theorem Evolves.setPage {s : State} {p : Nat} {c : PageCtl} (ev : Evolves s0 s) : Evolves s0 (s.setPage p c) :=
  ev.trans ⟨rfl, rfl, List.prefix_refl _, Nat.le_refl _,
    fun k => ⟨k.regs, k.pages.put p c, k.osp, k.gath, k.pg, k.cry, k.ports, k.fbl, k.mem, k.sessions, k.requesters⟩⟩

theorem Evolves.syncFault {s : State} {p : Nat} (ev : Evolves s0 s) :
    Evolves s0 (s.syncFault p) := by
  unfold State.syncFault
  exact ev.setB

theorem Evolves.setBlk {s : State} {p : Nat} {st : Nat} (ev : Evolves s0 s) :
    Evolves s0 (s.setBlk p st) := by
  unfold State.setBlk
  extract_lets x1 x2
  have h3 : Evolves s0 x1 := ev.set
  clear_value x1
  have h4 : Evolves s0 x2 := Evolves.ite h3 h3.set
  clear_value x2
  exact h4.syncFault

theorem Evolves.emit {s : State} {o : Out} (ev : Evolves s0 s) : Evolves s0 (s.emit o) :=
  ev.trans ⟨rfl, rfl, List.prefix_append _ _, Nat.le_refl _,
    fun k => ⟨k.regs, k.pages, k.osp, k.gath, k.pg, k.cry, k.ports, k.fbl, k.mem, k.sessions, k.requesters⟩⟩

theorem Evolves.send {s : State} {what : String} {args : List Int} (ev : Evolves s0 s) :
    Evolves s0 (s.send what args) := by
  unfold State.send
  exact ev.emit

theorem Evolves.raise {s : State} {p : Nat} {i : Nat} (ev : Evolves s0 s) :
    Evolves s0 (s.raise p i) := by
  unfold State.raise
  exact ev.upd

theorem Evolves.raiseIf {s : State} {b : Bool} {p : Nat} {i : Nat} (ev : Evolves s0 s) :
    Evolves s0 (s.raiseIf b p i) := by
  unfold State.raiseIf
  exact Evolves.ite ev.raise ev

theorem Evolves.nextFree {s : State} (ev : Evolves s0 s) : Evolves s0 s.nextFree :=
  ev.trans ⟨rfl, rfl, List.prefix_refl _, Nat.le_succ _,
    fun k => ⟨k.regs, k.pages, k.osp, k.gath, k.pg, k.cry, k.ports, k.fbl, k.mem, k.sessions, k.requesters⟩⟩

end Sys2Proof.Machine
end

