-- ==== Sys2Proof/Laws/Blocks.lean ====
section
/-!
SUPPORT. Each operation of Machine/Blocks.lean: what it makes of a state has evolved from it (Safety).
-/

-- One declaration at a time: all at once need more threads than the check's memory limit allows.
set_option Elab.async false
namespace Sys2Proof.Machine

variable {s0 : State}

theorem Evolves.reinitWord {s : State} {a : Nat} {r : RegSpec} (ev : Evolves s0 s) : Evolves s0 (Machine.reinitWord s a r) :=
  ev.setNat

theorem Evolves.reinitWins {s : State} {p : Nat} {k : Kind} (ev : Evolves s0 s) : Evolves s0 (s.reinitWins p k) := by
  refine ev.trans ⟨rfl, rfl, List.prefix_refl _, Nat.le_refl _, fun c =>
    ⟨c.regs.filterMap _ (fun e x h => ?_) (fun e he x h => ?_), c.pages, c.osp, c.gath, c.pg, c.cry, c.ports, c.fbl, c.mem, c.sessions, c.requesters⟩⟩
  · revert h
    split
    · split
      · simp only; split <;> simp +contextual [eq_comm]
      · simp +contextual
    · simp +contextual
  · have keep := c.regs.2 e he
    revert h
    split
    · split
      · simp only; split
        · simp
        · rename_i hv; intro h; cases h; exact hv
      · intro h; cases h; exact keep
    · intro h; cases h; exact keep

theorem Evolves.reinitRegs {s : State} {p : Nat} (ev : Evolves s0 s) :
    Evolves s0 (s.reinitRegs p) := by
  unfold State.reinitRegs
  split
  · exact ev
  · extract_lets x1
    have h2 : Evolves s0 x1 := ev.reinitWins
    clear_value x1
    exact h2.each (fun _ _ h3 => h3.each (fun _ _ h4 => h4.reinitWord))

theorem Evolves.setTx {s : State} {n : Nat} {t : TxState} (ev : Evolves s0 s) :
    Evolves s0 (s.setTx n t) := by
  unfold State.setTx
  exact ev.upd

theorem Evolves.setCal {s : State} {n : Nat} {t : CalState} (ev : Evolves s0 s) :
    Evolves s0 (s.setCal n t) := by
  unfold State.setCal
  exact ev.upd

theorem Evolves.setRx {s : State} {n : Nat} {t : RxState} (ev : Evolves s0 s) :
    Evolves s0 (s.setRx n t) := by
  unfold State.setRx
  exact ev.upd

theorem Evolves.setSub {s : State} {n : Nat} {t : SubState} (ev : Evolves s0 s) :
    Evolves s0 (s.setSub n t) := by
  unfold State.setSub
  exact ev.upd

theorem Evolves.setFec {s : State} {n : Nat} {t : FecState} (ev : Evolves s0 s) :
    Evolves s0 (s.setFec n t) := by
  unfold State.setFec
  exact ev.upd

theorem Evolves.setFrm {s : State} {n : Nat} {t : FrmState} (ev : Evolves s0 s) :
    Evolves s0 (s.setFrm n t) := by
  unfold State.setFrm
  exact ev.upd

theorem Evolves.setCode {s : State} {n : Nat} {e : Nat} {k : Nat} {v : Int} (ev : Evolves s0 s) :
    Evolves s0 (s.setCode n e k v) := by
  unfold State.setCode
  exact ev.setNat

theorem Evolves.setRole {s : State} {n : Nat} {e : Nat} {r : Nat} (ev : Evolves s0 s) :
    Evolves s0 (s.setRole n e r) := by
  unfold State.setRole
  exact ev.set

theorem Evolves.calHold {s : State} {n : Nat} (ev : Evolves s0 s) :
    Evolves s0 (s.calHold n) := by
  unfold State.calHold
  extract_lets x1 x2 x3
  have h4 : Evolves s0 x3 := Evolves.ite ev.setB ev
  clear_value x3
  exact h4.raiseIf

theorem Evolves.showOut {s : State} {n : Nat} (ev : Evolves s0 s) :
    Evolves s0 (s.showOut n) := by
  unfold State.showOut
  extract_lets x1 x2 x3 x4 x5 x6 x7 x8 x9 x10 x11 x12 x13 x14
  have h15 : Evolves s0 x4 := ev.set
  clear_value x4
  have h16 : Evolves s0 x5 := h15.setB
  clear_value x5
  have h17 : Evolves s0 x6 := h16.setB
  clear_value x6
  have h18 : Evolves s0 x7 := h17.setB
  clear_value x7
  have h19 : Evolves s0 x8 := h18.setB
  clear_value x8
  have h20 : Evolves s0 x9 := h19.setB
  clear_value x9
  have h21 : Evolves s0 x10 := h20.setB
  clear_value x10
  have h22 : Evolves s0 x11 := h21.setB
  clear_value x11
  have h23 : Evolves s0 x12 := h22.setB
  clear_value x12
  have h24 : Evolves s0 x13 := h23.setB
  clear_value x13
  exact h24.set.calHold

theorem Evolves.outCause {s : State} {n : Nat} {f : TxState → TxState} (ev : Evolves s0 s) :
    Evolves s0 (s.outCause n f) := by
  unfold State.outCause
  extract_lets x1 x2 x3 x4 x5 x6 x7 x8 x9
  have h10 : Evolves s0 x7 := ev.setTx
  clear_value x7
  have h11 : Evolves s0 x8 := h10.raiseIf
  clear_value x8
  have h12 : Evolves s0 x9 := h11.raiseIf
  clear_value x9
  exact h12.showOut

theorem Evolves.syncPower {s : State} (ev : Evolves s0 s) :
    Evolves s0 s.syncPower := by
  unfold State.syncPower
  extract_lets x1 x2 x3 x4
  have h5 : Evolves s0 x1 := ev.set
  clear_value x1
  have h6 : Evolves s0 x2 := h5.set
  clear_value x2
  have h7 : Evolves s0 x3 := h6.set
  clear_value x3
  have h8 : Evolves s0 x4 := h7.setB
  clear_value x4
  exact h8.set

theorem Evolves.leaveRefused {s : State} {op : Nat} {reason : Nat} (ev : Evolves s0 s) :
    Evolves s0 (s.leaveRefused op reason) := by
  unfold State.leaveRefused
  extract_lets x1 x2 x3
  have h4 : Evolves s0 x1 := ev.set
  clear_value x1
  have h5 : Evolves s0 x2 := h4.set
  clear_value x2
  have h6 : Evolves s0 x3 := h5.count
  clear_value x3
  exact h6.raise

theorem Evolves.leaveGranted {s : State} {r : LeaveReq} (ev : Evolves s0 s) :
    Evolves s0 (s.leaveGranted r) := by
  unfold State.leaveGranted
  extract_lets x1 x2 x3
  have h4 : Evolves s0 x2 := ev.upd
  clear_value x2
  have h5 : Evolves s0 x3 := h4.count
  clear_value x3
  exact h5.raise.syncPower

theorem Evolves.requestLeave {s : State} {r : LeaveReq} (ev : Evolves s0 s) :
    Evolves s0 (s.requestLeave r).snd := by
  unfold State.requestLeave
  exact Evolves.iteF Prod.snd ev.leaveRefused (Evolves.iteF Prod.snd ev.leaveRefused (Evolves.iteF Prod.snd ev.leaveGranted ev.upd.syncPower))

theorem Evolves.withdrawLeave {s : State} {op : Nat} {unit : Nat} (ev : Evolves s0 s) :
    Evolves s0 (s.withdrawLeave op unit) := by
  unfold State.withdrawLeave
  exact ev.upd.syncPower

theorem Evolves.endLeave {s : State} {op : Nat} {unit : Nat} (ev : Evolves s0 s) :
    Evolves s0 (s.endLeave op unit) := by
  unfold State.endLeave
  exact ev.upd.syncPower

theorem Evolves.fecCaps {s : State} {n : Nat} (ev : Evolves s0 s) :
    Evolves s0 (s.fecCaps n) := by
  unfold State.fecCaps
  extract_lets x1 x2 x3 x4 x5 x6 x7 x8 x9 x10 x11 x12 x13 x14 x15 x16 x17 x18 x19 x20 x21
  have h22 : Evolves s0 x9 := ev.set.set.set
  clear_value x9
  have h23 : Evolves s0 x10 := h22.set
  clear_value x10
  have h24 : Evolves s0 x11 := h23.setB.setB
  clear_value x11
  have h25 : Evolves s0 x12 := h24.setB.setB
  clear_value x12
  have h26 : Evolves s0 x13 := h25.setB
  clear_value x13
  have h27 : Evolves s0 x14 := h26.set.set
  clear_value x14
  have h28 : Evolves s0 x15 := h27.set.set
  clear_value x15
  have h29 : Evolves s0 x16 := h28.set
  clear_value x16
  have h30 : Evolves s0 x20 := h29.setFec
  clear_value x20
  have h31 : Evolves s0 x21 := h30.raiseIf
  clear_value x21
  exact h31.raiseIf

theorem Evolves.allCaps {s : State} (ev : Evolves s0 s) :
    Evolves s0 s.allCaps := by
  unfold State.allCaps
  exact ev.fecCaps.fecCaps

theorem Evolves.showEngines {s : State} {n : Nat} (ev : Evolves s0 s) :
    Evolves s0 (s.showEngines n) := by
  unfold State.showEngines
  extract_lets x1 x2 x3
  have h4 : Evolves s0 x3 := ev.set.set
  clear_value x3
  exact h4.set

theorem Evolves.stopPll {s : State} {n : Nat} (ev : Evolves s0 s) :
    Evolves s0 (s.stopPll n) := by
  unfold State.stopPll
  extract_lets x1 x2
  have h3 : Evolves s0 x2 := ev.setCal
  clear_value x2
  exact h3.setB.setB

theorem Evolves.fullEnd {s : State} {n : Nat} (ev : Evolves s0 s) :
    Evolves s0 (s.fullEnd n) := by
  unfold State.fullEnd
  split
  · exact ev
  · extract_lets x1 x2 x3 x4
    have h5 : Evolves s0 x3 := ev.setCal
    clear_value x3
    have h6 : Evolves s0 x4 := h5.set.showOut
    clear_value x4
    exact Evolves.ite h6.endLeave h6

theorem Evolves.setSubc {s : State} {n : Nat} {i : Nat} {c : Subc} (ev : Evolves s0 s) :
    Evolves s0 (s.setSubc n i c) := by
  unfold State.setSubc
  exact ev.setRx

theorem Evolves.nlcRelease {s : State} {n : Nat} (ev : Evolves s0 s) :
    Evolves s0 (s.nlcRelease n) := by
  unfold State.nlcRelease
  extract_lets x1 x2
  have h3 : Evolves s0 x1 := ev.withdrawLeave
  clear_value x1
  exact h3.upd.syncPower

theorem Evolves.nlcStopped {s : State} {n : Nat} (ev : Evolves s0 s) :
    Evolves s0 (s.nlcStopped n) := by
  unfold State.nlcStopped
  extract_lets x1 x2
  have h3 : Evolves s0 x2 := ev.setRx
  clear_value x2
  exact Evolves.ite h3 h3.set

theorem Evolves.deliverSoft {s : State} {n : Nat} {i : Nat} (ev : Evolves s0 s) :
    Evolves s0 (s.deliverSoft n i) := by
  unfold State.deliverSoft
  extract_lets x1 x2 x3 x4 x5
  exact ev.setFec.setSubc

theorem Evolves.acqTo {s : State} {n : Nat} {i : Nat} {st : Acq} (ev : Evolves s0 s) :
    Evolves s0 (s.acqTo n i st) := by
  unfold State.acqTo
  extract_lets x1 x2 x3 x4 x5 x6 x7 x8 x9 x10 x11 x12
  have h13 : Evolves s0 x3 := Evolves.ite ev.deliverSoft ev
  clear_value x3
  have h14 : Evolves s0 x7 := h13.setSubc
  clear_value x7
  have h15 : Evolves s0 x8 := Evolves.ite h14.nlcStopped h14
  clear_value x8
  have h16 : Evolves s0 x9 := Evolves.ite h15.set h15
  clear_value x9
  have h17 : Evolves s0 x10 := h16.set
  clear_value x10
  have h18 : Evolves s0 x11 := h17.set
  clear_value x11
  have h19 : Evolves s0 x12 := Evolves.ite h18.count.raise h18
  clear_value x12
  exact Evolves.ite ev h19.raiseIf

theorem Evolves.rxIdle {s : State} {n : Nat} (ev : Evolves s0 s) :
    Evolves s0 (s.rxIdle n) := by
  unfold State.rxIdle
  exact ev.each (fun _ _ h1 => h1.acqTo)

theorem Evolves.cdClear {s : State} {n : Nat} (ev : Evolves s0 s) :
    Evolves s0 (s.cdClear n) := by
  unfold State.cdClear
  extract_lets x1
  have h2 : Evolves s0 x1 := ev.each (fun _ _ h3 => h3.setSubc)
  clear_value x1
  exact h2.setNat.setNat

theorem Evolves.frmDiscard {s : State} {n : Nat} (ev : Evolves s0 s) :
    Evolves s0 (s.frmDiscard n) := by
  unfold State.frmDiscard
  extract_lets x1 x2 x3 x4 x5 x6 x7 x8 x9 x10
  have h11 : Evolves s0 x2 := ev.setFrm
  clear_value x2
  have h12 : Evolves s0 x4 := h11.setNat
  clear_value x4
  have h13 : Evolves s0 x5 := h12.setNat
  clear_value x5
  have h14 : Evolves s0 x6 := h13.setNat
  clear_value x6
  have h15 : Evolves s0 x7 := h14.setNat
  clear_value x7
  have h16 : Evolves s0 x8 := h15.setNat
  clear_value x8
  have h17 : Evolves s0 x9 := h16.setNat
  clear_value x9
  have h18 : Evolves s0 x10 := h17.set
  clear_value x10
  exact h18.set.calHold

theorem Evolves.rxEnter {s : State} {n : Nat} (ev : Evolves s0 s) :
    Evolves s0 (s.rxEnter n) := by
  unfold State.rxEnter
  extract_lets x1 x2
  exact ev.setRx

theorem Evolves.leafIdle {s : State} {n : Nat} (ev : Evolves s0 s) :
    Evolves s0 (s.leafIdle n) := by
  unfold State.leafIdle
  extract_lets x1 x2 x3 x4 x5
  have h6 : Evolves s0 x2 := ev.setSub
  clear_value x2
  have h7 : Evolves s0 x4 := h6.set.set
  clear_value x4
  have h8 : Evolves s0 x5 := h7.set
  clear_value x5
  exact h8.set

theorem Evolves.carrierDown {s : State} {n : Nat} (ev : Evolves s0 s) :
    Evolves s0 (s.carrierDown n) := by
  unfold State.carrierDown
  split
  · exact ev
  · extract_lets x1 x2 x3 x4 x5 x6 x7 x8 x9 x10 x11 x12 x13
    have h14 : Evolves s0 x1 := ev.outCause
    clear_value x1
    have h15 : Evolves s0 x2 := h14.withdrawLeave.endLeave
    clear_value x2
    have h16 : Evolves s0 x4 := h15.upd.syncPower
    clear_value x4
    have h17 : Evolves s0 x5 := Evolves.ite h16 h16.fullEnd.stopPll
    clear_value x5
    have h18 : Evolves s0 x7 := h17.setCal
    clear_value x7
    have h19 : Evolves s0 x8 := h18.rxIdle.cdClear
    clear_value x8
    have h20 : Evolves s0 x9 := h19.frmDiscard.leafIdle
    clear_value x9
    have h21 : Evolves s0 x11 := h20.setTx
    clear_value x11
    have h22 : Evolves s0 x13 := h21.setFec
    clear_value x13
    exact h22.set

theorem Evolves.txLadder {s : State} {n : Nat} (ev : Evolves s0 s) :
    Evolves s0 (s.txLadder n) := by
  unfold State.txLadder
  extract_lets x1 x2
  exact Evolves.ite ev ev.outCause

theorem Evolves.setStream {s : State} {n : Nat} {i : Nat} {x : Stream} (ev : Evolves s0 s) :
    Evolves s0 (s.setStream n i x) := by
  unfold State.setStream
  exact ev.setFrm

theorem Evolves.showFrm {s : State} {n : Nat} (ev : Evolves s0 s) :
    Evolves s0 (s.showFrm n) := by
  unfold State.showFrm
  extract_lets x1 x2 x3 x4 x5 x6 x7 x8
  have h9 : Evolves s0 x5 := ev.set.set
  clear_value x5
  have h10 : Evolves s0 x6 := h9.set.set
  clear_value x6
  have h11 : Evolves s0 x7 := h10.setB.setB
  clear_value x7
  have h12 : Evolves s0 x8 := h11.setB.setB.setB
  clear_value x8
  exact h12.setB.calHold

theorem Evolves.frmSearch {s : State} {n : Nat} (ev : Evolves s0 s) :
    Evolves s0 (s.frmSearch n) := by
  unfold State.frmSearch
  extract_lets x1 x2 x3 x4 x5
  have h6 : Evolves s0 x4 := ev.setFrm
  clear_value x4
  have h7 : Evolves s0 x5 := Evolves.ite h6 h6.set
  clear_value x5
  exact h7.showFrm

theorem Evolves.rxStart {s : State} {n : Nat} (ev : Evolves s0 s) :
    Evolves s0 (s.rxStart n) := by
  unfold State.rxStart
  exact ev.each (fun _ _ h1 => by exact Evolves.ite h1.acqTo (Evolves.ite h1.acqTo h1))

theorem Evolves.carrierComplete {s : State} {n : Nat} (ev : Evolves s0 s) :
    Evolves s0 (s.carrierComplete n) := by
  unfold State.carrierComplete
  extract_lets x1 x2 x3
  have h4 : Evolves s0 x2 := ev.set.endLeave
  clear_value x2
  exact h4.upd.syncPower

theorem Evolves.alignedUp {s : State} {n : Nat} (ev : Evolves s0 s) :
    Evolves s0 (s.alignedUp n) := by
  unfold State.alignedUp
  exact Evolves.ite ev.carrierComplete ev

theorem Evolves.pllFollow {s : State} {n : Nat} (ev : Evolves s0 s) :
    Evolves s0 (s.pllFollow n) := by
  unfold State.pllFollow
  extract_lets x1 x2
  exact Evolves.ite ev.setCal (Evolves.ite ev.stopPll ev)

theorem Evolves.unmutePoint {s : State} {n : Nat} (ev : Evolves s0 s) :
    Evolves s0 (s.unmutePoint n) := by
  unfold State.unmutePoint
  extract_lets x1 x2 x3 x4 x5
  have h6 : Evolves s0 x4 := ev.setTx
  clear_value x4
  have h7 : Evolves s0 x5 := h6.raiseIf
  clear_value x5
  exact Evolves.ite ev h7.showOut

theorem Evolves.bringUpCalDone {s : State} {n : Nat} (ev : Evolves s0 s) :
    Evolves s0 (s.bringUpCalDone n) := by
  unfold State.bringUpCalDone
  split
  · exact ev
  · extract_lets x1 x2 x3
    have h4 : Evolves s0 x2 := ev.setTx
    clear_value x2
    have h5 : Evolves s0 x3 := h4.unmutePoint
    clear_value x3
    exact Evolves.ite h5.rxStart h5

theorem Evolves.fullCut {s : State} {n : Nat} (ev : Evolves s0 s) :
    Evolves s0 (s.fullCut n) := by
  unfold State.fullCut
  exact Evolves.ite ev ev.fullEnd.pllFollow.bringUpCalDone

end Sys2Proof.Machine
end

