-- ==== Sys2Proof/Laws/LinkCore.lean ====
section
/-!
SUPPORT. Each operation of Machine/LinkCore.lean: what it makes of a state has evolved from it (Safety).
-/

-- One declaration at a time: all at once need more threads than the check's memory limit allows.
set_option Elab.async false
namespace Sys2Proof.Machine

variable {s0 : State}

theorem Evolves.setLink {s : State} {k : Nat} {x : FabLink} (ev : Evolves s0 s) : Evolves s0 (s.setLink k x) :=
  ev.trans ⟨rfl, rfl, List.prefix_refl _, Nat.le_refl _,
    fun c => ⟨c.regs, c.pages, c.osp, c.gath, c.pg, c.cry, c.ports, c.fbl.put k x, c.mem, c.sessions, c.requesters⟩⟩

theorem Evolves.setLane {s : State} {k : Nat} {l : Nat} {y : FabLane} (ev : Evolves s0 s) :
    Evolves s0 (s.setLane k l y) := by
  unfold State.setLane
  exact ev.setLink

theorem Evolves.setNeigh {s : State} {m : Nat} {x : Neigh} (ev : Evolves s0 s) :
    Evolves s0 (s.setNeigh m x) := by
  unfold State.setNeigh
  exact ev.upd

theorem Evolves.showLanes {s : State} {k : Nat} (ev : Evolves s0 s) :
    Evolves s0 (s.showLanes k) := by
  unfold State.showLanes
  exact ev.set

theorem Evolves.dropNeigh {s : State} {m : Nat} (ev : Evolves s0 s) :
    Evolves s0 (s.dropNeigh m) := by
  unfold State.dropNeigh
  extract_lets x1 x2 x3 x4
  have h5 : Evolves s0 x3 := Evolves.ite ev.upd ev
  clear_value x3
  have h6 : Evolves s0 x4 := h5.setNeigh
  clear_value x4
  exact Evolves.ite h6.setB h6

theorem Evolves.linkTo {s : State} {k : Nat} {st : Nat} (ev : Evolves s0 s) :
    Evolves s0 (s.linkTo k st) := by
  unfold State.linkTo
  extract_lets x1 x2 x3 x4 x5 x6 x7 x8 x9 x10 x11 x12 x13
  have h14 : Evolves s0 x3 := ev.set
  clear_value x3
  have h15 : Evolves s0 x6 := h14.setLink
  clear_value x6
  have h16 : Evolves s0 x7 := h15.set
  clear_value x7
  have h17 : Evolves s0 x8 := Evolves.ite (h16.each (fun _ _ h18 => h18.setB.setB)) h14
  clear_value x8
  have h19 : Evolves s0 x10 := h17.setLink
  clear_value x10
  have h20 : Evolves s0 x11 := h19.raise
  clear_value x11
  have h21 : Evolves s0 x12 := Evolves.ite h20.count h20
  clear_value x12
  have h22 : Evolves s0 x13 := Evolves.ite h21.dropNeigh h19
  clear_value x13
  exact h22.showLanes

theorem Evolves.linkCheck {s : State} {k : Nat} (ev : Evolves s0 s) :
    Evolves s0 (s.linkCheck k) := by
  unfold State.linkCheck
  exact Evolves.ite ev.linkTo ev

theorem Evolves.linkChecks {s : State} (ev : Evolves s0 s) :
    Evolves s0 s.linkChecks := by
  unfold State.linkChecks
  exact ev.each (fun _ _ h1 => h1.linkCheck)

theorem Evolves.showFbr {s : State} (ev : Evolves s0 s) :
    Evolves s0 s.showFbr := by
  unfold State.showFbr
  exact Evolves.ite (Evolves.ite ev ev.set) (Evolves.ite ev ev.set)

end Sys2Proof.Machine
end

