-- ==== Sys2Proof/Laws/Ports.lean ====
section
/-!
SUPPORT. Each operation of Machine/Ports.lean: what it makes of a state has evolved from it (Safety).
-/

-- One declaration at a time: all at once need more threads than the check's memory limit allows.
set_option Elab.async false
namespace Sys2Proof.Machine

variable {s0 : State}

theorem Evolves.setPort {s : State} {p : Nat} {x : PortState} (ev : Evolves s0 s) : Evolves s0 (s.setPort p x) :=
  ev.trans ⟨rfl, rfl, List.prefix_refl _, Nat.le_refl _,
    fun k => ⟨k.regs, k.pages, k.osp, k.gath, k.pg, k.cry, k.ports.put p x, k.fbl, k.mem, k.sessions, k.requesters⟩⟩

theorem Evolves.macCount {s : State} {p : Nat} {i : Nat} {n : Nat} (ev : Evolves s0 s) :
    Evolves s0 (s.macCount p i n) := by
  unfold State.macCount
  exact ev.count64

theorem Evolves.refreshPort {s : State} {p : Nat} (ev : Evolves s0 s) :
    Evolves s0 (s.refreshPort p) := by
  unfold State.refreshPort
  extract_lets x1 x2 x3 x4 x5 x6 x7 x8 x9 x10 x11 x12
  have h13 : Evolves s0 x9 := ev.raiseIf
  clear_value x9
  have h14 : Evolves s0 x10 := h13.raiseIf
  clear_value x10
  have h15 : Evolves s0 x11 := h14.setB
  clear_value x11
  have h16 : Evolves s0 x12 := h15.setB
  clear_value x12
  exact h16.setB

theorem Evolves.refreshPorts {s : State} (ev : Evolves s0 s) :
    Evolves s0 s.refreshPorts := by
  unfold State.refreshPorts
  exact ev.each (fun _ _ h1 => h1.refreshPort)

theorem Evolves.failChannel {s : State} {c : Nat} (ev : Evolves s0 s) :
    Evolves s0 (s.failChannel c) := by
  unfold State.failChannel
  split
  · exact ev
  · extract_lets x1 x2
    have h3 : Evolves s0 x2 := ev.setB.raise
    clear_value x2
    exact h3.raiseIf

theorem Evolves.setGth {s : State} {g : Nat} {x : Gath} (ev : Evolves s0 s) : Evolves s0 (s.setGth g x) :=
  ev.trans ⟨rfl, rfl, List.prefix_refl _, Nat.le_refl _,
    fun k => ⟨k.regs, k.pages, k.osp, k.gath.put g x, k.pg, k.cry, k.ports, k.fbl, k.mem, k.sessions, k.requesters⟩⟩

theorem Evolves.setPgrp {s : State} {q : Nat} {x : PGroup} (ev : Evolves s0 s) : Evolves s0 (s.setPgrp q x) :=
  ev.trans ⟨rfl, rfl, List.prefix_refl _, Nat.le_refl _,
    fun k => ⟨k.regs, k.pages, k.osp, k.gath, k.pg.put q x, k.cry, k.ports, k.fbl, k.mem, k.sessions, k.requesters⟩⟩

theorem Evolves.showGth {s : State} (ev : Evolves s0 s) :
    Evolves s0 s.showGth := by
  unfold State.showGth
  extract_lets x1 x2
  have h3 : Evolves s0 x2 := ev.setNat64
  clear_value x2
  exact h3.set

theorem Evolves.showPart {s : State} {g : Nat} (ev : Evolves s0 s) :
    Evolves s0 (s.showPart g) := by
  unfold State.showPart
  extract_lets x1 x2 x3 x4 x5
  have h6 : Evolves s0 x3 := ev.set.set
  clear_value x3
  have h7 : Evolves s0 x4 := h6.setB.set
  clear_value x4
  have h8 : Evolves s0 x5 := h7.set
  clear_value x5
  exact h8.setI

theorem Evolves.pgEval {s : State} {q : Nat} (ev : Evolves s0 s) :
    Evolves s0 (s.pgEval q) := by
  unfold State.pgEval
  extract_lets x1 x2 x3 x4 x5 x6 x7 x8 x9 x10 x11 x12 x13 x14 x15
  have h16 : Evolves s0 x11 := ev.set.set.setB
  clear_value x11
  have h17 : Evolves s0 x12 := h16.setB.setB
  clear_value x12
  have h18 : Evolves s0 x13 := h17.setNat
  clear_value x13
  exact h18.setPgrp

theorem Evolves.lineClear {s : State} {g : Nat} (ev : Evolves s0 s) :
    Evolves s0 (s.lineClear g) := by
  unfold State.lineClear
  exact ev.each (fun _ _ h1 => by
    extract_lets x2 x3
    exact h1.setFrm)

theorem Evolves.gthFollow {s : State} {n : Nat} (ev : Evolves s0 s) :
    Evolves s0 (s.gthFollow n) := by
  unfold State.gthFollow
  extract_lets x1
  have h2 : Evolves s0 x1 := ev.each (fun _ _ h3 => by
    extract_lets x4 x5 x6
    exact Evolves.ite (Evolves.ite h3 h3.setGth.showPart) h3.setGth.showPart)
  clear_value x1
  exact h2.each (fun _ _ h7 => by exact Evolves.ite h7.pgEval h7)

theorem Evolves.carrierOff {s : State} {n : Nat} (ev : Evolves s0 s) :
    Evolves s0 (s.carrierOff n) := by
  unfold State.carrierOff
  exact ev.carrierDown.gthFollow

end Sys2Proof.Machine
end

