-- ==== Sys2Proof/Laws/TimCore.lean ====
section
/-!
SUPPORT. Each operation of Machine/TimCore.lean: what it makes of a state has evolved from it (Safety).
-/

-- One declaration at a time: all at once need more threads than the check's memory limit allows.
set_option Elab.async false
namespace Sys2Proof.Machine

variable {s0 : State}

theorem Evolves.setSlot {s : State} {i : Nat} {x : SlotState} (ev : Evolves s0 s) :
    Evolves s0 (s.setSlot i x) := by
  unfold State.setSlot
  exact ev.upd

theorem Evolves.setDpll {s : State} {d : Nat} {x : Dpll} (ev : Evolves s0 s) :
    Evolves s0 (s.setDpll d x) := by
  unfold State.setDpll
  exact ev.upd

theorem Evolves.showQl {s : State} (ev : Evolves s0 s) :
    Evolves s0 s.showQl := by
  unfold State.showQl
  exact ev.each (fun _ _ h1 => h1.set)

theorem Evolves.showHold {s : State} {d : Nat} (ev : Evolves s0 s) :
    Evolves s0 (s.showHold d) := by
  unfold State.showHold
  split
  · exact ev
  · extract_lets x1 x2
    have h3 : Evolves s0 x2 := ev.setI
    clear_value x2
    exact h3.set.setB

theorem Evolves.clkoutFollow {s : State} {old : State} (ev : Evolves s0 s) (ev2 : Evolves s0 old) :
    Evolves s0 (s.clkoutFollow old) := by
  unfold State.clkoutFollow
  exact ev.each (fun _ _ h1 => by exact Evolves.ite h1 h1.send)

theorem Evolves.dpTo {s : State} {d : Nat} {st : Nat} (ev : Evolves s0 s) :
    Evolves s0 (s.dpTo d st) := by
  unfold State.dpTo
  extract_lets x1 x2
  have h3 : Evolves s0 x1 := ev.set
  clear_value x1
  exact h3.setDpll.clkoutFollow ev

theorem Evolves.unselect {s : State} {d : Nat} (ev : Evolves s0 s) :
    Evolves s0 (s.unselect d) := by
  unfold State.unselect
  exact ev.setB.setB

theorem Evolves.freerun {s : State} {d : Nat} (ev : Evolves s0 s) :
    Evolves s0 (s.freerun d) := by
  unfold State.freerun
  extract_lets x1 x2
  have h3 : Evolves s0 x1 := ev.unselect
  clear_value x1
  have h4 : Evolves s0 x2 := h3.dpTo.setI
  clear_value x2
  exact Evolves.ite h3 h4.setB.raise.showHold

theorem Evolves.holdover {s : State} {d : Nat} (ev : Evolves s0 s) :
    Evolves s0 (s.holdover d) := by
  unfold State.holdover
  extract_lets x1 x2 x3
  have h4 : Evolves s0 x2 := ev.showHold.unselect
  clear_value x2
  have h5 : Evolves s0 x3 := h4.dpTo.setI
  clear_value x3
  exact Evolves.ite h5.setB.raise ev.raise.freerun

theorem Evolves.disqualify {s : State} {i : Nat} (ev : Evolves s0 s) :
    Evolves s0 (s.disqualify i) := by
  unfold State.disqualify
  extract_lets x1 x2 x3 x4
  have h5 : Evolves s0 x3 := ev.setSlot
  clear_value x3
  have h6 : Evolves s0 x4 := h5.setB.setB
  clear_value x4
  exact h6.set.raise

theorem Evolves.timLeave {s : State} {off : Bool} (ev : Evolves s0 s) :
    Evolves s0 (s.timLeave off) := by
  unfold State.timLeave
  extract_lets x1
  have h2 : Evolves s0 x1 := ev.each (fun _ _ h3 => by
    extract_lets x4
    exact Evolves.ite h3.disqualify (Evolves.ite h3.set h3))
  clear_value x1
  exact (h2.each (fun _ _ h5 => by exact Evolves.ite h5.freerun (Evolves.ite h5 (Evolves.ite h5.holdover h5.freerun)))).showQl

end Sys2Proof.Machine
end

