-- ==== Sys2Proof/Laws/Moves.lean ====
section
/-!
SUPPORT. Each operation of Machine/Moves.lean: what it makes of a state has evolved from it (Safety).
-/

-- One declaration at a time: all at once need more threads than the check's memory limit allows.
set_option Elab.async false
namespace Sys2Proof.Machine

variable {s0 : State}

theorem Evolves.haltUsers {s : State} {cause : Nat} {st : Nat} (ev : Evolves s0 s) :
    Evolves s0 (s.haltUsers cause st) := by
  unfold State.haltUsers
  extract_lets x1 x2
  have h3 : Evolves s0 x2 := ev.each (fun _ _ h4 => by exact Evolves.ite h4 h4.set.set)
  clear_value x2
  exact h3.set

theorem Evolves.hpmAdd {s : State} {c : Nat} {k : Nat} {n : Nat} (ev : Evolves s0 s) :
    Evolves s0 (s.hpmAdd c k n) := by
  unfold State.hpmAdd
  extract_lets x1 x2 x3
  have h4 : Evolves s0 x1 := ev.count64
  clear_value x1
  exact Evolves.ite h4.upd h4

theorem Evolves.sweepUnshadow {s : State} (ev : Evolves s0 s) :
    Evolves s0 s.sweepUnshadow := by
  unfold State.sweepUnshadow
  exact ev.each (fun _ _ h1 => by
    extract_lets x2 x3
    exact Evolves.ite h1.set.set h1)

theorem Evolves.rprStop {s : State} (ev : Evolves s0 s) :
    Evolves s0 s.rprStop := by
  unfold State.rprStop
  extract_lets x1 x2 x3
  have h4 : Evolves s0 x1 := ev.sweepUnshadow
  clear_value x1
  have h5 : Evolves s0 x2 := h4.withdrawLeave.withdrawLeave.endLeave.endLeave
  clear_value x2
  exact h5.upd.set

theorem Evolves.hkStop {s : State} (ev : Evolves s0 s) :
    Evolves s0 s.hkStop := by
  unfold State.hkStop
  extract_lets x1 x2 x3
  have h4 : Evolves s0 x2 := ev.set.setB
  clear_value x2
  have h5 : Evolves s0 x3 := h4.setB.setB
  clear_value x3
  exact h5.upd.setB

theorem Evolves.calDrop {s : State} {n : Nat} (ev : Evolves s0 s) :
    Evolves s0 (s.calDrop n) := by
  unfold State.calDrop
  exact ev.setCal.setB

theorem Evolves.timHold {s : State} (ev : Evolves s0 s) :
    Evolves s0 s.timHold := by
  unfold State.timHold
  exact (ev.each (fun _ _ h1 => by exact Evolves.ite h1.holdover h1)).showQl

theorem Evolves.cdPreTo {s : State} {n : Nat} {v : Int} (ev : Evolves s0 s) :
    Evolves s0 (s.cdPreTo n v) := by
  unfold State.cdPreTo
  extract_lets x1 x2 x3
  have h4 : Evolves s0 x3 := ev.setI
  clear_value x3
  exact h4.raiseIf

theorem Evolves.txTake {s : State} {n : Nat} (ev : Evolves s0 s) :
    Evolves s0 (s.txTake n) := by
  unfold State.txTake
  extract_lets x1 x2
  have h3 : Evolves s0 x2 := ev.cdPreTo
  clear_value x2
  exact h3.each (fun _ _ h4 => h4.setI)

theorem Evolves.showMove {s : State} {p : Nat} (ev : Evolves s0 s) :
    Evolves s0 (s.showMove p) := by
  unfold State.showMove
  split
  · exact Evolves.ite ev.refreshPorts (Evolves.ite ev.linkCheck (Evolves.ite ev.showFbr.linkChecks ev))
  · exact ev

theorem Evolves.moved {s : State} {p : Nat} {old : Nat} {st : Nat} (ev : Evolves s0 s) :
    Evolves s0 (s.moved p old st) := by
  unfold State.moved
  split
  · split
    · exact ev.rxIdle
    · extract_lets x1
      have h2 : Evolves s0 x1 := Evolves.ite ev.rxEnter ev
      clear_value x1
      exact Evolves.ite h2.rxStart h2
  · extract_lets x3
    have h4 : Evolves s0 x3 := ev.setB
    clear_value x3
    exact Evolves.ite h4.frmDiscard.gthFollow (Evolves.ite h4.frmSearch.gthFollow h4)
  · exact ev.pllFollow.txLadder
  · exact Evolves.txLadder (Evolves.ite ev.txTake ev)
  · exact Evolves.ite ev.calHold (Evolves.ite ev.fullCut ev.calDrop.fullCut)
  · exact Evolves.ite ev.timLeave (Evolves.ite ev.timLeave (Evolves.ite ev.timHold ev))
  · exact Evolves.ite ev.hkStop ev
  · exact Evolves.ite ev.rprStop ev
  · exact Evolves.ite ev.haltUsers (Evolves.ite ev.haltUsers ev)
  · exact ev

theorem Evolves.goTo {s : State} {p : Nat} {st : Nat} (ev : Evolves s0 s) :
    Evolves s0 (s.goTo p st) := by
  unfold State.goTo
  extract_lets x1 x2 x3
  have h4 : Evolves s0 x3 := Evolves.ite ev.setPage ev
  clear_value x3
  exact h4.setBlk.moved.showMove

theorem Evolves.stepEffect {s : State} {p : Nat} {k : Nat} (ev : Evolves s0 s) :
    Evolves s0 (s.stepEffect p k) := by
  unfold State.stepEffect
  extract_lets x1
  have h2 : Evolves s0 x1 := by
    unfold x1
    split
    · exact ev.txLadder
    · exact ev.txLadder
    · exact Evolves.ite ev.failChannel ev
    · exact Evolves.ite (ev.each (fun _ _ h3 => h3.failChannel)) ev
    · exact ev
  clear_value x1
  exact h2.showMove

theorem Evolves.setSession {s : State} {i : Nat} {x : Session} (ev : Evolves s0 s) :
    Evolves s0 (s.setSession i x) :=
  ev.trans ⟨rfl, rfl, List.prefix_refl _, Nat.le_refl _,
    fun k => ⟨k.regs, k.pages, k.osp, k.gath, k.pg, k.cry, k.ports, k.fbl, k.mem, k.sessions.put i x, k.requesters⟩⟩

theorem Evolves.sendTo {s : State} {slot : Nat} {to_ : Option Peer} {o : Out} (ev : Evolves s0 s) :
    Evolves s0 (s.sendTo slot to_ o) := by
  unfold State.sendTo
  extract_lets x1
  split
  · exact ev.emit.count64
  · exact ev.setSession

theorem Evolves.heardFrom {s : State} {slot : Nat} {p : Peer} (ev : Evolves s0 s) :
    Evolves s0 (s.heardFrom slot p) := by
  unfold State.heardFrom
  extract_lets x1
  exact ev.setSession.each (fun _ _ h2 => h2.emit.count64)

theorem Evolves.modeTake {s : State} (ev : Evolves s0 s) :
    Evolves s0 s.modeTake := by
  unfold State.modeTake
  extract_lets x1 x2
  exact Evolves.ite ev (ev.upd.each (fun _ _ h3 => h3.setSession))

theorem Evolves.showSessions {s : State} (ev : Evolves s0 s) :
    Evolves s0 s.showSessions := by
  unfold State.showSessions
  exact ev.set

theorem Evolves.orphan {s : State} {i : Nat} (ev : Evolves s0 s) :
    Evolves s0 (s.orphan i) := by
  unfold State.orphan
  extract_lets x1 x2 x3 x4 x5
  exact ev.upd

theorem Evolves.closeSession {s : State} {i : Nat} (ev : Evolves s0 s) :
    Evolves s0 (s.closeSession i) := by
  unfold State.closeSession
  extract_lets x1 x2 x3 x4 x5
  have h6 : Evolves s0 x2 := ev.orphan
  clear_value x2
  have h7 : Evolves s0 x3 := h6.setSession.showSessions
  clear_value x3
  have h8 : Evolves s0 x5 := h7.trans ⟨rfl, rfl, List.prefix_refl _, Nat.le_refl _,
    fun k => ⟨k.regs, k.pages, k.osp, k.gath, k.pg, k.cry, k.ports, k.fbl, k.mem, k.sessions, k.requesters.put i _⟩⟩
  clear_value x5
  exact h8.raiseIf

theorem Evolves.showOnDie {s : State} (ev : Evolves s0 s) :
    Evolves s0 s.showOnDie := by
  unfold State.showOnDie
  exact ev.set

theorem Evolves.copy {r : State} {s : State} {base : Nat} {fs : List Fld} (ev : Evolves s0 r) (ev2 : Evolves s0 s) :
    Evolves s0 (r.copy s base fs) := by
  unfold State.copy
  exact ev.each (fun _ _ h1 => h1.set)

theorem Evolves.reinitGth {s : State} (ev : Evolves s0 s) : Evolves s0 s.reinitGth := by
  unfold State.reinitGth
  extract_lets x1 off acq x2
  have h1 : Evolves s0 x1 := ev.trans ⟨rfl, rfl, List.prefix_refl _, Nat.le_refl _,
    fun k => ⟨k.regs, k.pages, k.osp, Tab.Canon.nil, Tab.Canon.nil, k.cry, k.ports, k.fbl, k.mem, k.sessions, k.requesters⟩⟩
  clear_value x1
  have h2 : Evolves s0 x2 := h1.each fun _ _ h => h.setGth.showPart
  clear_value x2
  exact h2.showGth.each fun q t h => Evolves.ite (c := t.flag GTH.page (GTH.PG_CFG_EN q) = true) h.pgEval h

theorem Evolves.reinitCry {s0 s r : State} (ev : Evolves s0 s) (ev2 : Evolves s0 r) : Evolves s0 (s.reinitCry r) := by
  unfold State.reinitCry
  extract_lets again r1 r2
  have h1 : Evolves s0 r1 := ⟨ev2.pending, ev2.now, ev2.out, ev2.freeCtr, fun k =>
    have c := ev2.canonical k
    ⟨c.regs, c.pages, c.osp, c.gath, c.pg, Tab.Canon.nil.puts _ _ _, c.ports, c.fbl, c.mem, c.sessions, c.requesters⟩⟩
  clear_value r1
  have h2 : Evolves s0 r2 := h1.withdrawLeave.endLeave.withdrawLeave.endLeave
  exact h2.copy ev

theorem Evolves.reinitTim {s : State} (ev : Evolves s0 s) :
    Evolves s0 s.reinitTim := by
  unfold State.reinitTim
  extract_lets x1 x2 x3 x4 x5 x6
  have h7 : Evolves s0 x1 := ev.timLeave
  clear_value x1
  have h8 : Evolves s0 x2 := h7.reinitRegs
  clear_value x2
  have h9 : Evolves s0 x4 := h8.copy h7
  clear_value x4
  have h10 : Evolves s0 x5 := h9.each (fun _ _ h11 => by
    extract_lets x12 x13
    exact h11.setB.setB)
  clear_value x5
  exact h10.upd

theorem Evolves.reinitCal {s : State} {p : Nat} {n : Nat} (ev : Evolves s0 s) :
    Evolves s0 (s.reinitCal p n) := by
  unfold State.reinitCal
  extract_lets x1 x2 x3 x4 x5
  have h6 : Evolves s0 x1 := ev.fullCut
  clear_value x1
  have h7 : Evolves s0 x3 := h6.reinitRegs.withdrawLeave
  clear_value x3
  have h8 : Evolves s0 x4 := h7.setCal
  clear_value x4
  have h9 : Evolves s0 x5 := h8.copy h6
  clear_value x5
  split
  · extract_lets x10
    exact h9.set.set
  · exact h9

theorem Evolves.reinitQmg {s : State} {r : State} (ev : Evolves s0 s) (ev2 : Evolves s0 r) :
    Evolves s0 (s.reinitQmg r) := by
  unfold State.reinitQmg
  extract_lets x1 x2 x3
  have h4 : Evolves s0 x1 := ev2.bumpBy
  clear_value x1
  have h5 : Evolves s0 x3 := h4.upd
  clear_value x3
  exact h5.showOnDie

theorem Evolves.reinitState {s : State} {p : Nat} (ev : Evolves s0 s) : Evolves s0 (s.reinitState p) := by
  have e : Evolves s0 (s.reinitRegs p) := ev.reinitRegs
  unfold State.reinitState
  rcases pageKind p with _ | ⟨k, n⟩
  · exact ev
  cases k
  case CNV => exact (e.copy ev).showOut
  case CAL => exact ev.reinitCal
  case RXD => exact ev.nlcRelease.endLeave.reinitRegs.setRx
  case TXD => exact (e.copy ev).setTx.showOut
  case SUB => exact e.setSub
  case FEC => exact ev.withdrawLeave.reinitRegs.setFec.set.showEngines.fecCaps
  case FRM => exact e.setFrm
  case GTH => exact e.reinitGth
  case CRY => exact ev.reinitCry e
  case OSP => exact e.osp_nil
  case PMB => exact Evolves.upd e
  case CLN => exact (e.copy ev).refreshPorts
  case MAC => exact e.ports_nil.refreshPorts
  case CLS => exact Evolves.refreshPorts (Evolves.upd e)
  case QMG => exact ev.reinitQmg e
  case MTR => exact Evolves.upd e
  case SHP => exact Evolves.upd e
  case FBL =>
    have k : Evolves s0 (if s.linkSt n = kDISABLED then s else s.linkTo n kDISABLED) := Evolves.ite ev ev.linkTo
    exact k.reinitRegs.setLink
  case FBR =>
    have k : Evolves s0 (if s.inConflict then (s.reinitRegs p).copy s FBR.page [FBR.STATE_DOMAIN] else s.reinitRegs p) :=
      Evolves.ite (e.copy ev) e
    exact Evolves.showFbr (Evolves.upd k)
  case MEM => exact e.copy ev
  case ECC => exact e.copy ev
  case TIM => exact ev.reinitTim
  case HKA => exact ev.hkStop.reinitRegs
  case RPR => exact ev.rprStop.reinitRegs.copy ev
  case CPU => exact ev.haltUsers.reinitRegs.copy ev.haltUsers
  case PWR => exact Evolves.upd ev
  case THM => exact Evolves.upd ev
  case SEC => exact Evolves.upd ev
  case RAP => exact ev.each fun _ _ h => h.closeSession
  all_goals exact ev

theorem Evolves.keepRegs {s0 r s : State} {p : Nat} (ev : Evolves s0 r) (_ : Evolves s0 s) : Evolves s0 (r.keepRegs s p) :=
  ev.trans ⟨rfl, rfl, List.prefix_refl _, Nat.le_refl _, fun k =>
    ⟨(k.regs.filter _).puts _ _ _, k.pages, k.osp, k.gath, k.pg, k.cry, k.ports, k.fbl, k.mem, k.sessions, k.requesters⟩⟩

theorem Evolves.showLive {s : State} {p : Nat} (ev : Evolves s0 s) :
    Evolves s0 (s.showLive p) := by
  unfold State.showLive
  split
  · exact ev.pllFollow
  · exact ev.calDrop.set
  · exact ev.showOut
  · exact ev.showEngines.fecCaps
  · exact ev.showFrm
  · exact ev.reinitGth
  · exact ev.set.setB
  · exact ev.setNat.refreshPorts
  · exact ev.showOnDie
  · exact ev.linkCheck
  · exact ev.setNat.showFbr
  · exact ev.each (fun _ _ h1 => h1.setB)
  · exact ev.hkStop
  · exact ev.rprStop
  · exact ev.showMove

end Sys2Proof.Machine
end

