-- ==== Sys2Proof/Laws/Events.lean ====
section
/-!
SUPPORT. Each operation of Machine/Events.lean: what it makes of a state has evolved from it (Safety).
-/

-- One declaration at a time: all at once need more threads than the check's memory limit allows.
set_option Elab.async false
namespace Sys2Proof.Machine

variable {s0 : State}

theorem Evolves.refreshAlarm {s : State} (ev : Evolves s0 s) :
    Evolves s0 s.refreshAlarm := by
  unfold State.refreshAlarm
  extract_lets x1 x2 x3
  have h4 : Evolves s0 x3 := ev.upd
  clear_value x3
  exact Evolves.ite ev h4.raise

theorem Evolves.syncUrgent {s : State} {p : Nat} (ev : Evolves s0 s) :
    Evolves s0 (s.syncUrgent p) := by
  unfold State.syncUrgent
  exact ev.setB.refreshAlarm

theorem Evolves.syncGrace {s : State} {p : Nat} (ev : Evolves s0 s) :
    Evolves s0 (s.syncGrace p) := by
  unfold State.syncGrace
  extract_lets x1 x2 x3
  exact ev.setPage.setB

theorem Evolves.msgTo {s : State} {slot : Nat} {p : Nat} {i : Nat} {cls : Nat} (ev : Evolves s0 s) :
    Evolves s0 (s.msgTo slot p i cls) := by
  unfold State.msgTo
  extract_lets x1 x2 x3 x4 x5 x6 x7 x8 x9
  have h10 : Evolves s0 x8 := ev.setSession
  clear_value x8
  have h11 : Evolves s0 x9 := Evolves.ite h10.sendTo h10
  clear_value x9
  exact Evolves.ite ev (Evolves.ite ev.setSession.raiseIf h11.sendTo)

theorem Evolves.message {s : State} {p : Nat} {i : Nat} {cls : Nat} (ev : Evolves s0 s) :
    Evolves s0 (s.message p i cls) := by
  unfold State.message
  extract_lets x1
  have h2 : Evolves s0 x1 := ev.each (fun _ _ h3 => h3.msgTo)
  clear_value x1
  exact Evolves.ite h2.raise h2.upd.emit

theorem Evolves.faultAt {s : State} {p : Nat} {k : Nat} (ev : Evolves s0 s) :
    Evolves s0 (s.faultAt p k) := by
  unfold State.faultAt
  extract_lets x1 x2 x3 x4 x5 x6
  have h7 : Evolves s0 x3 := Evolves.ite ev ev.setPage.goTo
  clear_value x3
  have h8 : Evolves s0 x4 := h7.set
  clear_value x4
  have h9 : Evolves s0 x6 := h8.setPage
  clear_value x6
  exact h9.stepEffect

theorem Evolves.step3 {s : State} {p : Nat} (ev : Evolves s0 s) :
    Evolves s0 (s.step3 p) := by
  unfold State.step3
  extract_lets x1 x2
  have h3 : Evolves s0 x1 := (ev.reinitState.keepRegs ev).showLive
  clear_value x1
  have h4 : Evolves s0 x2 := by
    unfold x2
    split
    · exact h3.carrierOff
    · exact h3
  clear_value x2
  exact h4.raise

theorem Evolves.enterSafe {s : State} {p : Nat} {i : Nat} (ev : Evolves s0 s) :
    Evolves s0 (s.enterSafe p i) := by
  unfold State.enterSafe
  split
  · exact ev
  · extract_lets x1 x2 x3 x4 x5 x6
    have h7 : Evolves s0 x1 := ev.upd
    clear_value x1
    have h8 : Evolves s0 x2 := h7.setB
    clear_value x2
    have h9 : Evolves s0 x3 := h8.set
    clear_value x3
    have h10 : Evolves s0 x4 := h9.set
    clear_value x4
    have h11 : Evolves s0 x5 := h10.each (fun _ _ h12 => by
      extract_lets x13 x14
      have h15 : Evolves s0 x13 := Evolves.ite h12 h12.faultAt
      clear_value x13
      exact h15.setPage)
    clear_value x5
    have h16 : Evolves s0 x6 := h11.each (fun _ _ h17 => h17.outCause)
    clear_value x6
    exact h16.linkChecks.raise.refreshAlarm

theorem Evolves.takeStep {s : State} {p : Nat} {k : Nat} {i : Nat} {urgent : Bool} (ev : Evolves s0 s) :
    Evolves s0 (s.takeStep p k i urgent) := by
  unfold State.takeStep
  split
  · exact ev
  · extract_lets x1 x2 x3 x4 x5 x6 x7 x8
    have h9 : Evolves s0 x1 := ev.faultAt
    clear_value x1
    have h10 : Evolves s0 x2 := h9.set
    clear_value x2
    have h11 : Evolves s0 x3 := h10.set
    clear_value x3
    have h12 : Evolves s0 x4 := h11.setB
    clear_value x4
    have h13 : Evolves s0 x5 := h12.set
    clear_value x5
    have h14 : Evolves s0 x6 := h13.setNat64
    clear_value x6
    have h15 : Evolves s0 x7 := h14.count
    clear_value x7
    have h16 : Evolves s0 x8 := Evolves.ite h15.step3 (Evolves.ite h15.enterSafe h15)
    clear_value x8
    exact h16.raise

theorem Evolves.urgentStep {s : State} {p : Nat} {i : Nat} (ev : Evolves s0 s) :
    Evolves s0 (s.urgentStep p i) := by
  unfold State.urgentStep
  extract_lets x1 x2
  exact ev.takeStep

theorem Evolves.capture {s : State} {p : Nat} {i : Nat} {cls : Nat} (ev : Evolves s0 s) :
    Evolves s0 (s.capture p i cls) := by
  unfold State.capture
  extract_lets x1 x2 x3 x4
  have h5 : Evolves s0 x2 := ev.set
  clear_value x2
  have h6 : Evolves s0 x3 := h5.set
  clear_value x3
  have h7 : Evolves s0 x4 := h6.setB
  clear_value x4
  exact Evolves.ite ev.setB h7.setNat64

theorem Evolves.fire {s : State} {p : Nat} {i : Nat} (ev : Evolves s0 s) :
    Evolves s0 (s.fire p i) := by
  unfold State.fire
  split
  · exact ev
  · extract_lets x1 x2 x3 x4 x5 x6 x7 x8
    have h9 : Evolves s0 x3 := ev.setB
    clear_value x3
    have h10 : Evolves s0 x4 := h9.capture
    clear_value x4
    have h11 : Evolves s0 x6 := h10.setPage
    clear_value x6
    have h12 : Evolves s0 x7 := h11.setB
    clear_value x7
    have h13 : Evolves s0 x8 := Evolves.ite h12 h12.message
    clear_value x8
    exact Evolves.ite h10 (Evolves.ite h13.syncGrace (Evolves.ite h13.syncUrgent.urgentStep h13))

theorem Evolves.settleN {s : State} {n : Nat} (ev : Evolves s0 s) : Evolves s0 (State.settleN n s) := by
  induction n generalizing s with
  | zero => exact ev
  | succ n ih =>
    unfold State.settleN
    split
    · exact ev
    · exact ih (Evolves.each ev.upd fun _ _ h => h.fire)

theorem Evolves.releaseFirst {s : State} {p : Nat} (ev : Evolves s0 s) :
    Evolves s0 (s.releaseFirst p) := by
  unfold State.releaseFirst
  exact Evolves.ite ev.setB.setB ev

theorem Evolves.endCycle {s : State} (ev : Evolves s0 s) :
    Evolves s0 s.endCycle := by
  unfold State.endCycle
  extract_lets x1 x2 x3
  have h4 : Evolves s0 x2 := (ev.each (fun _ _ h5 => h5.syncGrace.syncUrgent)).settleN
  clear_value x2
  have h6 : Evolves s0 x3 := h4.each (fun _ _ h7 => h7.releaseFirst)
  clear_value x3
  exact h6.upd

theorem Evolves.settle {s : State} (ev : Evolves s0 s) :
    Evolves s0 s.settle := by
  unfold State.settle
  extract_lets x1
  have h2 : Evolves s0 x1 := ev.settleN
  clear_value x1
  exact Evolves.modeTake (Evolves.ite h2 h2.endCycle)

theorem Evolves.done {s : State} (ev : Evolves s0 s) :
    Keeps s0 (done s) := by
  unfold Sys2Proof.Machine.done
  exact Keeps.next ev.settle

theorem Evolves.act {s : State} {f : State → State} (ev : Evolves s0 s) (hf : ∀ t, Evolves s0 t → Evolves s0 (f t)) :
    Keeps s0 (act s f) := by
  unfold Sys2Proof.Machine.act
  split
  · exact (hf _ ev).done
  · exact Keeps.next ev

theorem Evolves.clearSticky {s : State} {p : Nat} {w : Nat} {mask : Nat} (ev : Evolves s0 s) :
    Evolves s0 (s.clearSticky p w mask) := by
  unfold State.clearSticky
  extract_lets x1 x2 x3
  have h4 : Evolves s0 x3 := ev.setNat
  clear_value x3
  exact h4.upd

theorem Evolves.ackSource {s : State} {p : Nat} {i : Nat} (ev : Evolves s0 s) :
    Evolves s0 (s.ackSource p i) := by
  unfold State.ackSource
  exact ev.clearSticky

theorem Evolves.exitFault {s : State} {p : Nat} (ev : Evolves s0 s) :
    Evolves s0 (s.exitFault p) := by
  unfold State.exitFault
  extract_lets x1 x2
  have h3 : Evolves s0 x1 := ev.goTo
  clear_value x1
  have h4 : Evolves s0 x2 := h3.bump
  clear_value x2
  exact h4.raise

end Sys2Proof.Machine
end

