-- ==== Sys2Proof/Laws/Repair.lean ====
section
/-!
SUPPORT. Each operation of Machine/Repair.lean: what it makes of a state has evolved from it (Safety).
-/

-- One declaration at a time: all at once need more threads than the check's memory limit allows.
set_option Elab.async false
namespace Sys2Proof.Machine

variable {s0 : State}

theorem Evolves.nvRequest {s : State} {op : NvOp} {commits : Nat} {first : optParam Bool false} (ev : Evolves s0 s) :
    Evolves s0 (s.nvRequest op commits first) := by
  unfold State.nvRequest
  extract_lets x1 x2 x3
  exact ev.upd.setB

theorem Evolves.repair {s : State} {cls : Nat} {state : Nat} {loc : Nat} (ev : Evolves s0 s) :
    Evolves s0 (s.repair cls state loc) := by
  unfold State.repair
  extract_lets x1 x2
  have h3 : Evolves s0 x1 := ev.count
  clear_value x1
  exact Evolves.ite h3.raise h3.upd.nvRequest

theorem Evolves.useSpare {s : State} {f : Fld} (ev : Evolves s0 s) :
    Evolves s0 (s.useSpare f) := by
  unfold State.useSpare
  extract_lets x1 x2
  have h3 : Evolves s0 x2 := ev.set
  clear_value x2
  exact h3.raiseIf

theorem Evolves.showRpr {s : State} (ev : Evolves s0 s) :
    Evolves s0 s.showRpr := by
  unfold State.showRpr
  extract_lets x1
  exact ev.set

theorem Evolves.sweepSealed {s : State} (ev : Evolves s0 s) :
    Evolves s0 s.sweepSealed := by
  unfold State.sweepSealed
  split
  · extract_lets x1 x2 x3
    have h4 : Evolves s0 x2 := ev.upd.endLeave
    clear_value x2
    have h5 : Evolves s0 x3 := h4.setNat64
    clear_value x3
    exact h5.showRpr.raise
  · exact ev

theorem Evolves.sweepYield {s : State} {k : Nat} (ev : Evolves s0 s) :
    Evolves s0 (s.sweepYield k) := by
  unfold State.sweepYield
  split
  · exact ev
  · extract_lets x1 x2 x3 x4
    have h5 : Evolves s0 x2 := ev.nextFree.sweepUnshadow
    clear_value x2
    have h6 : Evolves s0 x3 := h5.count.raiseIf
    clear_value x3
    exact h6.upd.sweepSealed

end Sys2Proof.Machine
end

