-- ==== Sys2Proof/Laws/Writes.lean ====
section
/-!
SUPPORT. Each operation of Machine/Writes.lean: what it makes of a state has evolved from it (Safety).
-/

-- One declaration at a time: all at once need more threads than the check's memory limit allows.
set_option Elab.async false
namespace Sys2Proof.Machine

variable {s0 : State}

theorem Evolves.ok {s : State} (ev : Evolves s0 s) :
    Evolves s0 (ok s).st := by
  unfold Sys2Proof.Machine.ok
  exact ev

theorem Evolves.no {r : Rej} {s : State} (ev : Evolves s0 s) :
    Evolves s0 (no r s).st := by
  unfold Sys2Proof.Machine.no
  exact ev

theorem Evolves.later {s : State} (ev : Evolves s0 s) :
    Evolves s0 (later s).st := by
  unfold Sys2Proof.Machine.later
  exact ev

theorem Evolves.refuse {s : State} {p : Nat} {off : Nat} {window : Bool} {r : Rej} {src : Nat} (ev : Evolves s0 s) :
    Evolves s0 (s.refuse p off window r src) := by
  unfold State.refuse
  extract_lets x1 x2 x3 x4 x5
  have h6 : Evolves s0 x2 := ev.set
  clear_value x2
  have h7 : Evolves s0 x3 := h6.set
  clear_value x3
  have h8 : Evolves s0 x4 := h7.set
  clear_value x4
  have h9 : Evolves s0 x5 := h8.setB
  clear_value x5
  exact h9.raise

end Sys2Proof.Machine
end

