-- ==== Sys2Proof/Laws/Txd.lean ====
section
/-!
SUPPORT. Each operation of Machine/Txd.lean: what it makes of a state has evolved from it (Safety).
-/

-- One declaration at a time: all at once need more threads than the check's memory limit allows.
set_option Elab.async false
namespace Sys2Proof.Machine

variable {s0 : State}

theorem Evolves.addSpectra {s : State} {n : Nat} {x : List (List Cx)} {y : List (List Cx)} (ev : Evolves s0 s) :
    Evolves s0 (s.addSpectra n x y) := by
  unfold State.addSpectra
  exact ev.each (fun _ _ h1 => by
    split
    · exact h1
    · extract_lets x2 x3
      exact h1.setTx)

theorem Evolves.dacFolio {s : State} {n : Nat} {d : Nat} {v : List Dual} (ev : Evolves s0 s) :
    Evolves s0 (s.dacFolio n d v) := by
  unfold State.dacFolio
  extract_lets x1 x2 x3 x4 x5 x6 x7 x8 x9
  exact ev.setTx.send

theorem Evolves.startBursts {s : State} {n : Nat} {c : Nat} (ev : Evolves s0 s) :
    Evolves s0 (s.startBursts n c) := by
  unfold State.startBursts
  extract_lets x1 x2
  exact ev.setSub

theorem Evolves.endBursts {s : State} {n : Nat} {c : Nat} (ev : Evolves s0 s) :
    Evolves s0 (s.endBursts n c) := by
  unfold State.endBursts
  extract_lets x1 x2 x3 x4
  exact ev.setSub

theorem Evolves.execTxFolioMap {n : Fin 2} {s : State} (ev : Evolves s0 s) :
    Keeps s0 (execTxFolioMap n s) := by
  unfold Sys2Proof.Machine.execTxFolioMap
  exact ev.act (fun _ h1 => by
    extract_lets x2 x3 x4
    split
    · exact h1
    · split
      · exact h1
      · extract_lets x5 x6 x7 x8 x9 x10 x11 x12 x13 x14 x15 x16
        have h17 : Evolves s0 x5 := h1.endBursts.startBursts
        clear_value x5
        have h18 : Evolves s0 x14 := h17.addSpectra
        clear_value x14
        have h19 : Evolves s0 x16 := h18.setTx
        clear_value x16
        exact h19.each (fun _ _ h20 => h20.dacFolio))

theorem Evolves.checkTxd {s : State} {n : Nat} (ev : Evolves s0 s) :
    Evolves s0 (s.checkTxd n).snd := by
  unfold State.checkTxd
  extract_lets x1 x2 x3 x4 x5 x6 x7
  exact ev.set.set

theorem Evolves.maskExchange {s : State} {n : Nat} {m : Nat} (ev : Evolves s0 s) :
    Evolves s0 (s.maskExchange n m) := by
  unfold State.maskExchange
  extract_lets x1 x2 x3 x4 x5
  have h6 : Evolves s0 x4 := ev.setTx
  clear_value x4
  have h7 : Evolves s0 x5 := h6.set
  clear_value x5
  exact h7.set.showOut

theorem Evolves.execMaskCheckDone {n : Fin 2} {m : Fin 2} {s : State} (ev : Evolves s0 s) :
    Keeps s0 (execMaskCheckDone n m s) := by
  unfold Sys2Proof.Machine.execMaskCheckDone
  exact ev.act (fun _ h1 => by
    extract_lets x2 x3 x4 x5 x6 x7 x8 x9 x10
    have h11 : Evolves s0 x8 := h1.setTx
    clear_value x8
    have h12 : Evolves s0 x9 := h11.set
    clear_value x9
    have h13 : Evolves s0 x10 := h12.raise
    clear_value x10
    exact Evolves.ite h1 h13.raiseIf)

theorem Evolves.execMaskBankExchange {n : Fin 2} {m : Fin 2} {s : State} (ev : Evolves s0 s) :
    Keeps s0 (execMaskBankExchange n m s) := by
  unfold Sys2Proof.Machine.execMaskBankExchange
  exact ev.act (fun _ h1 => by exact Evolves.ite h1.maskExchange h1)

theorem Evolves.execMaskLiveMeasure {n : Fin 2} {m : Fin 2} {s : State} (ev : Evolves s0 s) :
    Keeps s0 (execMaskLiveMeasure n m s) := by
  unfold Sys2Proof.Machine.execMaskLiveMeasure
  exact ev.act (fun _ h1 => by
    extract_lets x2 x3 x4 x5 x6 x7 x8 x9 x10
    have h11 : Evolves s0 x4 := h1.setTx
    clear_value x4
    have h12 : Evolves s0 x6 := h11.setI
    clear_value x6
    have h13 : Evolves s0 x7 := h12.setI
    clear_value x7
    have h14 : Evolves s0 x8 := h13.raise
    clear_value x8
    exact Evolves.ite h11 (Evolves.ite (Evolves.ite h14.setTx.showOut h14) h13))

theorem Evolves.execCdPreMove {n : Fin 2} {s : State} (ev : Evolves s0 s) :
    Keeps s0 (execCdPreMove n s) := by
  unfold Sys2Proof.Machine.execCdPreMove
  exact ev.act (fun _ h1 => by
    extract_lets x2 x3 x4
    exact Evolves.ite h1 h1.cdPreTo)

theorem Evolves.execTxSkewStep {n : Fin 2} {carriesChange : Bool} {s : State} (ev : Evolves s0 s) :
    Keeps s0 (execTxSkewStep n carriesChange s) := by
  unfold Sys2Proof.Machine.execTxSkewStep
  exact ev.act (fun _ h1 => by exact Evolves.ite h1 (h1.each (fun _ _ h2 => by
    extract_lets x3 x4 x5
    exact h2.setI)))

theorem Evolves.execClipCheck {n : Fin 2} {s : State} (ev : Evolves s0 s) :
    Keeps s0 (execClipCheck n s) := by
  unfold Sys2Proof.Machine.execClipCheck
  exact ev.act (fun _ h1 => by
    extract_lets x2 x3 x4 x5
    have h6 : Evolves s0 x4 := h1.setTx
    clear_value x4
    have h7 : Evolves s0 x5 := h6.count
    clear_value x5
    exact h7.raiseIf)

theorem Evolves.execUnmuteStart {n : Fin 2} {ready : Option Bool} {s : State} (ev : Evolves s0 s) :
    Keeps s0 (execUnmuteStart n ready s) := by
  unfold Sys2Proof.Machine.execUnmuteStart
  exact ev.act (fun _ h1 => by
    extract_lets x2 x3
    exact h1.setTx.showOut.unmutePoint)

theorem Evolves.execLaserReadyTimeout {n : Fin 2} {s : State} (ev : Evolves s0 s) :
    Keeps s0 (execLaserReadyTimeout n s) := by
  unfold Sys2Proof.Machine.execLaserReadyTimeout
  exact ev.act (fun _ h1 => by
    extract_lets x2 x3 x4
    have h5 : Evolves s0 x4 := h1.setTx
    clear_value x4
    exact h5.raiseIf)

theorem Evolves.execOutputRampDone {n : Fin 2} {s : State} (ev : Evolves s0 s) :
    Keeps s0 (execOutputRampDone n s) := by
  unfold Sys2Proof.Machine.execOutputRampDone
  exact ev.act (fun _ h1 => by
    extract_lets x2 x3
    split
    · exact h1
    · split
      · exact h1
      · exact h1.setTx.showOut
      · exact h1.setTx.showOut)

theorem Evolves.optCause {s : State} {n : Nat} (ev : Evolves s0 s) :
    Evolves s0 (s.optCause n) := by
  unfold State.optCause
  extract_lets x1 x2
  exact ev.outCause

theorem Evolves.execOptFaultChange {n : Fin 2} {active : Bool} {s : State} (ev : Evolves s0 s) :
    Keeps s0 (execOptFaultChange n active s) := by
  unfold Sys2Proof.Machine.execOptFaultChange
  exact ev.act (fun _ h1 => by
    extract_lets x2 x3 x4
    have h5 : Evolves s0 x3 := h1.raiseIf
    clear_value x3
    have h6 : Evolves s0 x4 := h5.setTx
    clear_value x4
    exact h6.optCause)

theorem Evolves.execOptFaultHoldoffExpiry {n : Fin 2} {s : State} (ev : Evolves s0 s) :
    Keeps s0 (execOptFaultHoldoffExpiry n s) := by
  unfold Sys2Proof.Machine.execOptFaultHoldoffExpiry
  exact ev.act (fun _ h1 => by
    extract_lets x2
    exact Evolves.ite h1 h1.setTx.optCause)

theorem Evolves.showSpi {s : State} {n : Nat} (ev : Evolves s0 s) :
    Evolves s0 (s.showSpi n) := by
  unfold State.showSpi
  extract_lets x1 x2
  have h3 : Evolves s0 x2 := ev.setB
  clear_value x2
  exact h3.set

theorem Evolves.spiStart {s : State} {n : Nat} (ev : Evolves s0 s) :
    Evolves s0 (s.spiStart n) := by
  unfold State.spiStart
  extract_lets x1
  split
  · exact ev.showSpi
  · split
    · exact ev.setTx.send.showSpi
    · exact ev.setTx.send.showSpi
    · exact ev.showSpi

theorem Evolves.execOcpSpiTransferDone {n : Fin 2} {rx : BitVec 32} {s : State} (ev : Evolves s0 s) :
    Keeps s0 (execOcpSpiTransferDone n rx s) := by
  unfold Sys2Proof.Machine.execOcpSpiTransferDone
  exact ev.act (fun _ h1 => by
    extract_lets x2 x3
    have h4 : Evolves s0 x3 := h1.setTx
    clear_value x3
    split
    · exact h1
    · extract_lets x5
      have h6 : Evolves s0 x5 := Evolves.ite h4.setWord h4
      clear_value x5
      exact h6.spiStart)

theorem Evolves.wrTXD {n : Nat} {off : Nat} {v : Nat} {s : State} (ev : Evolves s0 s) :
    Evolves s0 (wrTXD n off v s).st := by
  unfold Sys2Proof.Machine.wrTXD
  extract_lets x1 x2 x3 x4 x5 x6 x7 x8 x9 x10 x11 x12 x13 x14 x15 x16 x17
  have h18 : Evolves s0 x2 := ev.setNat
  clear_value x2
  have h19 : Evolves s0 x7 := ev.setNat.setTx
  clear_value x7
  have h20 : Evolves s0 x12 := ev.setB
  clear_value x12
  have h21 : Evolves s0 x14 := h20.setTx
  clear_value x14
  have h22 : Evolves s0 x15 := h21.showOut
  clear_value x15
  split
  · exact ev.setNat.outCause.ok
  · split
    · exact Evolves.ok (Evolves.ite h18.txTake h18.raiseIf)
    · split
      · exact h19.raiseIf.optCause.unmutePoint.ok
      · split
        · split
          · exact ev.setNat.ok
          · exact ev.no
        · split
          · split
            · exact ev.no
            · exact Evolves.ok (Evolves.ite h22 (Evolves.ite h22.maskExchange h22.setTx))
          · split
            · exact ev.setNat.send.ok
            · split
              · split
                · exact ev.no
                · exact ev.setTx.spiStart.ok
              · exact ev.setNat.ok

theorem Evolves.winTXD {n : Nat} {a : Nat} {v : Nat} {s : State} (ev : Evolves s0 s) :
    Evolves s0 (winTXD n a v s).st := by
  unfold Sys2Proof.Machine.winTXD
  extract_lets x1 x2 x3
  split
  · split
    · exact ev.no
    · exact ev.setNat.set.ok
  · split
    · exact ev.setNat.set.ok
    · split
      · exact ev.setNat.ok
      · exact ev.ok

end Sys2Proof.Machine
end

