-- ==== Sys2Proof/Laws/Rxd.lean ====
section
/-!
SUPPORT. Each operation of Machine/Rxd.lean: what it makes of a state has evolved from it (Safety).
-/

-- One declaration at a time: all at once need more threads than the check's memory limit allows.
set_option Elab.async false
namespace Sys2Proof.Machine

variable {s0 : State}

theorem Evolves.cdTry {s : State} {n i : Nat} {l : List CdCand} (ev : Evolves s0 s) : Evolves s0 (s.cdTry n i l) := by
  induction l with
  | nil => exact ev
  | cons c r ih =>
    unfold State.cdTry
    split
    · exact ih
    · exact ev.setSubc

theorem Evolves.showC {s : State} {n : Nat} (ev : Evolves s0 s) :
    Evolves s0 (s.showC n) := by
  unfold State.showC
  exact ev.setI

theorem Evolves.queueLaser {s : State} {n : Nat} (ev : Evolves s0 s) :
    Evolves s0 (s.queueLaser n) := by
  unfold State.queueLaser
  extract_lets x1 x2 x3
  have h4 : Evolves s0 x2 := ev.setRx
  clear_value x2
  exact h4.setTx.spiStart

theorem Evolves.sendLaser {s : State} {n : Nat} (ev : Evolves s0 s) :
    Evolves s0 (s.sendLaser n) := by
  unfold State.sendLaser
  exact Evolves.ite ev ev.queueLaser

theorem Evolves.laserTo {s : State} {n : Nat} {v : Int} {f : Int} (ev : Evolves s0 s) :
    Evolves s0 (s.laserTo n v f) := by
  unfold State.laserTo
  extract_lets x1 x2 x3 x4 x5 x6 x7 x8
  have h9 : Evolves s0 x8 := ev.setRx.showC
  clear_value x8
  exact h9.raiseIf.sendLaser

theorem Evolves.laserEnabled {s : State} {n : Nat} (ev : Evolves s0 s) :
    Evolves s0 (s.laserEnabled n) := by
  unfold State.laserEnabled
  exact Evolves.ite ev.setRx.queueLaser ev

theorem Evolves.laserBringUp {s : State} {n : Nat} (ev : Evolves s0 s) :
    Evolves s0 (s.laserBringUp n) := by
  unfold State.laserBringUp
  exact ev.setRx.showC

theorem Evolves.enterEqBlind {s : State} {n : Nat} {i : Nat} (ev : Evolves s0 s) :
    Evolves s0 (s.enterEqBlind n i) := by
  unfold State.enterEqBlind
  extract_lets x1 x2 x3
  exact ev.setSubc.acqTo

theorem Evolves.enterCd {s : State} {n : Nat} {i : Nat} {cands : List CdCand} (ev : Evolves s0 s) :
    Evolves s0 (s.enterCd n i cands) := by
  unfold State.enterCd
  split
  · extract_lets x1 x2
    exact Evolves.ite ev.acqTo ev.setSubc.acqTo
  · extract_lets x3 x4 x5 x6 x7
    have h8 : Evolves s0 x4 := ev.setNat
    clear_value x4
    have h9 : Evolves s0 x6 := h8.setSubc
    clear_value x6
    have h10 : Evolves s0 x7 := h9.acqTo.cdTry
    clear_value x7
    exact Evolves.ite h10 (h10.each (fun _ _ h11 => by exact Evolves.ite h11.acqTo h11))

theorem Evolves.enterTrack {s : State} {n : Nat} {i : Nat} (ev : Evolves s0 s) :
    Evolves s0 (s.enterTrack n i) := by
  unfold State.enterTrack
  extract_lets x1 x2 x3 x4 x5 x6 x7 x8 x9 x10
  have h11 : Evolves s0 x6 := ev.setSubc
  clear_value x6
  have h12 : ∀ (f g : Fld) (x : CdSlot) (t : State), Evolves s0 t → Evolves s0 (x7 f g x t) := fun _ _ _ _ h13 => h13.setI.setB
  have h14 : Evolves s0 x8 := h12 _ _ _ _ h11
  clear_value x8
  have h15 : Evolves s0 x9 := h12 _ _ _ _ h14
  clear_value x9
  have h16 : Evolves s0 x10 := by
    unfold x10
    split
    · split
      · exact h15.set
      · exact h15
    · exact h11
  clear_value x10
  exact h16.acqTo

theorem Evolves.losInterval {s : State} {n : Nat} {level : Nat} (ev : Evolves s0 s) :
    Evolves s0 (s.losInterval n level) := by
  unfold State.losInterval
  extract_lets x1 x2 x3 x4
  have h5 : Evolves s0 x4 := ev.setRx
  clear_value x4
  exact Evolves.ite ev (Evolves.ite ev.setRx (Evolves.ite h5 (h5.raise.each (fun _ _ h6 => by exact Evolves.ite h6.acqTo h6))))

theorem Evolves.execRxLosDeclare {n : Fin 2} {level : Nat} {s : State} (ev : Evolves s0 s) :
    Keeps s0 (execRxLosDeclare n level s) := by
  unfold Sys2Proof.Machine.execRxLosDeclare
  exact ev.act (fun _ h1 => h1.losInterval)

theorem Evolves.execRxLosClear {n : Fin 2} {level : Nat} {s : State} (ev : Evolves s0 s) :
    Keeps s0 (execRxLosClear n level s) := by
  unfold Sys2Proof.Machine.execRxLosClear
  exact ev.act (fun _ h1 => h1.losInterval)

theorem Evolves.execWaitSignalExit {n : Fin 2} {i : Fin 16} {s : State} (ev : Evolves s0 s) :
    Keeps s0 (execWaitSignalExit n i s) := by
  unfold Sys2Proof.Machine.execWaitSignalExit
  exact ev.act (fun _ h1 => by
    extract_lets x2 x3 x4 x5
    have h6 : Evolves s0 x3 := h1.setSubc
    clear_value x3
    have h7 : Evolves s0 x5 := Evolves.ite h6.setRx.set h6
    clear_value x5
    exact Evolves.ite h1 h7.enterCd)

theorem Evolves.acqRestart {s : State} {n : Nat} {i : Nat} (ev : Evolves s0 s) :
    Evolves s0 (s.acqRestart n i) := by
  unfold State.acqRestart
  exact Evolves.ite ev ev.acqTo

theorem Evolves.cdQualify {s : State} {n : Nat} {i : Nat} {cand : CdCand} {v : Int} (ev : Evolves s0 s) :
    Evolves s0 (s.cdQualify n i cand v) := by
  unfold State.cdQualify
  extract_lets x1 x2 x3 x4 x5
  have h6 : Evolves s0 x3 := ev.setSubc
  clear_value x3
  have h7 : Evolves s0 x4 := h6.raiseIf
  clear_value x4
  have h8 : Evolves s0 x5 := h7.acqTo
  clear_value x5
  exact Evolves.ite h8 (h8.each (fun _ _ h9 => by exact Evolves.ite h9.setSubc.acqTo h9))

theorem Evolves.cdFail {s : State} {n : Nat} {i : Nat} (ev : Evolves s0 s) :
    Evolves s0 (s.cdFail n i) := by
  unfold State.cdFail
  extract_lets x1 x2
  have h3 : Evolves s0 x2 := ev.setSubc
  clear_value x2
  exact Evolves.ite h3.raise.cdTry ev.cdTry

theorem Evolves.execCdTrial {n : Fin 2} {i : Fin 16} {metric : Nat} {s : State} (ev : Evolves s0 s) :
    Keeps s0 (execCdTrial n i metric s) := by
  unfold Sys2Proof.Machine.execCdTrial
  exact ev.act (fun _ h1 => by
    extract_lets x2 x3 x4 x5 x6 x7 x8 x9 x10 x11 x12 x13
    have h14 : Evolves s0 x8 := h1.setSubc
    clear_value x8
    have h15 : Evolves s0 x9 := Evolves.ite h14.set h14
    clear_value x9
    exact Evolves.ite h1 (Evolves.ite h15 (Evolves.ite (Evolves.ite h15.cdFail h15.setSubc) (Evolves.ite h15.cdFail h15.cdQualify))))

theorem Evolves.execCdFilterMove {n : Fin 2} {i : Fin 16} {s : State} (ev : Evolves s0 s) :
    Keeps s0 (execCdFilterMove n i s) := by
  unfold Sys2Proof.Machine.execCdFilterMove
  exact ev.act (fun _ h1 => by
    extract_lets x2
    exact Evolves.ite h1 h1.setSubc)

theorem Evolves.execFreqAcqEstimate {n : Fin 2} {i : Fin 16} {residual : Int} {s : State} (ev : Evolves s0 s) :
    Keeps s0 (execFreqAcqEstimate n i residual s) := by
  unfold Sys2Proof.Machine.execFreqAcqEstimate
  exact ev.act (fun _ h1 => by
    extract_lets x2 x3 x4 x5 x6 x7
    have h8 : Evolves s0 x5 := h1.setSubc
    clear_value x5
    have h9 : Evolves s0 x6 := h8.setSubc
    clear_value x6
    have h10 : Evolves s0 x7 := Evolves.ite (Evolves.ite h9.laserTo h9) h8.setSubc
    clear_value x7
    exact Evolves.ite h1 (Evolves.ite h10.enterEqBlind h10))

theorem Evolves.execFreqAcqTimeout {n : Fin 2} {i : Fin 16} {s : State} (ev : Evolves s0 s) :
    Keeps s0 (execFreqAcqTimeout n i s) := by
  unfold Sys2Proof.Machine.execFreqAcqTimeout
  exact ev.act (fun _ h1 => by exact Evolves.ite h1.enterCd h1)

theorem Evolves.execFreqCaptureLoss {n : Fin 2} {i : Fin 16} {s : State} (ev : Evolves s0 s) :
    Keeps s0 (execFreqCaptureLoss n i s) := by
  unfold Sys2Proof.Machine.execFreqCaptureLoss
  exact ev.act (fun _ h1 => by
    extract_lets x2
    exact Evolves.ite h1.acqTo h1)

theorem Evolves.execLaserFbUpdate {n : Fin 2} {f : Int} {s : State} (ev : Evolves s0 s) :
    Keeps s0 (execLaserFbUpdate n f s) := by
  unfold Sys2Proof.Machine.execLaserFbUpdate
  exact ev.act (fun _ h1 => by
    extract_lets x2 x3 x4 x5 x6
    have h7 : Evolves s0 x5 := h1.setRx
    clear_value x5
    have h8 : Evolves s0 x6 := Evolves.ite h7.setSubc h7
    clear_value x6
    exact Evolves.ite h1 (Evolves.ite h8 h8.laserTo))

theorem Evolves.execFbResponseCheck {n : Fin 2} {f : Int} {s : State} (ev : Evolves s0 s) :
    Keeps s0 (execFbResponseCheck n f s) := by
  unfold Sys2Proof.Machine.execFbResponseCheck
  exact ev.act (fun _ h1 => by
    split
    · exact h1
    · split
      · exact h1
      · extract_lets x2 x3 x4
        have h5 : Evolves s0 x4 := h1.setRx
        clear_value x4
        exact h5.raiseIf)

theorem Evolves.takeData {s : State} {n : Nat} {i : Nat} {out : List Dual} (ev : Evolves s0 s) :
    Evolves s0 (s.takeData n i out) := by
  unfold State.takeData
  extract_lets x1 x2
  exact Evolves.ite ev.setSubc (Evolves.ite ev.setSubc.deliverSoft ev.setSubc)

theorem Evolves.sopSeen {s : State} {n : Nat} {rate : Rat} (ev : Evolves s0 s) :
    Evolves s0 (s.sopSeen n rate) := by
  unfold State.sopSeen
  exact Evolves.ite ev.setRx ev

theorem Evolves.eqStep {s : State} {n : Nat} {i : Nat} {b : Block} (ev : Evolves s0 s) :
    Evolves s0 (s.eqStep n i b) := by
  unfold State.eqStep
  extract_lets x1 x2 x3 x4 x5 x6 x7 x8 x9 x10 x11 x12 x13 x14
  have h15 : Evolves s0 x14 := ev.sopSeen
  clear_value x14
  exact h15.setSubc

theorem Evolves.eqSingular {s : State} {n : Nat} {i : Nat} (ev : Evolves s0 s) :
    Evolves s0 (s.eqSingular n i) := by
  unfold State.eqSingular
  extract_lets x1 x2
  have h3 : Evolves s0 x2 := ev.setSubc
  clear_value x2
  exact h3.raise.acqTo

theorem Evolves.execEqBlockUpdate {n : Fin 2} {i : Fin 16} {adc : List (List (BitVec 8))} {s : State} (ev : Evolves s0 s) :
    Keeps s0 (execEqBlockUpdate n i adc s) := by
  unfold Sys2Proof.Machine.execEqBlockUpdate
  exact ev.act (fun _ h1 => by
    extract_lets x2 x3 x4 x5 x6 x7
    have h8 : Evolves s0 x4 := Evolves.ite h1.takeData h1
    clear_value x4
    have h9 : Evolves s0 x5 := h8.eqStep
    clear_value x5
    have h10 : Evolves s0 x7 := h9.setSubc
    clear_value x7
    exact Evolves.ite h1 (Evolves.ite h9 (Evolves.ite h9.eqSingular (Evolves.ite h9 (Evolves.ite h10.acqTo h10)))))

theorem Evolves.execEqBlindTimeout {n : Fin 2} {i : Fin 16} {s : State} (ev : Evolves s0 s) :
    Keeps s0 (execEqBlindTimeout n i s) := by
  unfold Sys2Proof.Machine.execEqBlindTimeout
  exact ev.act (fun _ h1 => by exact Evolves.ite h1.enterCd h1)

theorem Evolves.gutterSeen {s : State} {n : Nat} {i : Nat} {pos : Int} {found : Bool} {swapped : Bool} {low : Bool} {pilotOk : Bool} {snrOk : Bool} (ev : Evolves s0 s) :
    Evolves s0 (s.gutterSeen n i pos found swapped low pilotOk snrOk) := by
  unfold State.gutterSeen
  extract_lets x1 x2 x3 x4 x5 x6 x7
  have h8 : Evolves s0 x5 := ev.setSubc
  clear_value x5
  have h9 : Evolves s0 x7 := ev.setSubc
  clear_value x7
  split
  · exact Evolves.ite h8.acqTo h8
  · exact Evolves.ite h9.acqTo (Evolves.ite h9.enterTrack h9)
  · exact Evolves.ite h9.acqTo (Evolves.ite h9.enterTrack h9)
  · exact ev

theorem Evolves.execGutterSearchTimeout {n : Fin 2} {i : Fin 16} {s : State} (ev : Evolves s0 s) :
    Keeps s0 (execGutterSearchTimeout n i s) := by
  unfold Sys2Proof.Machine.execGutterSearchTimeout
  exact ev.act (fun _ h1 => by exact Evolves.ite h1.enterEqBlind h1)

theorem Evolves.execAcqTrainTimeout {n : Fin 2} {i : Fin 16} {s : State} (ev : Evolves s0 s) :
    Keeps s0 (execAcqTrainTimeout n i s) := by
  unfold Sys2Proof.Machine.execAcqTrainTimeout
  exact ev.act (fun _ h1 => by exact Evolves.ite h1.acqTo h1)

theorem Evolves.execSopBoostStart {n : Fin 2} {s : State} (ev : Evolves s0 s) :
    Keeps s0 (execSopBoostStart n s) := by
  unfold Sys2Proof.Machine.execSopBoostStart
  exact ev.act (fun _ h1 => by exact Evolves.ite h1 h1.setRx.raise)

theorem Evolves.execSopBoostEnd {n : Fin 2} {s : State} (ev : Evolves s0 s) :
    Keeps s0 (execSopBoostEnd n s) := by
  unfold Sys2Proof.Machine.execSopBoostEnd
  exact ev.act (fun _ h1 => by exact Evolves.ite h1 h1.setRx)

theorem Evolves.execPhaseJump {n : Fin 2} {i : Fin 16} {s : State} (ev : Evolves s0 s) :
    Keeps s0 (execPhaseJump n i s) := by
  unfold Sys2Proof.Machine.execPhaseJump
  exact ev.act (fun _ h1 => by
    extract_lets x2 x3
    exact Evolves.ite h1 h1.setSubc.raise)

theorem Evolves.execDeskewStep {n : Fin 2} {d0 : Int} {d1 : Int} {d2 : Int} {d3 : Int} {s : State} (ev : Evolves s0 s) :
    Keeps s0 (execDeskewStep n d0 d1 d2 d3 s) := by
  unfold Sys2Proof.Machine.execDeskewStep
  exact ev.act (fun _ h1 => by
    extract_lets x2
    exact Evolves.ite h1 (h1.each (fun _ _ h3 => by
      extract_lets x4
      exact h3.setI)))

theorem Evolves.nlcGranted {s : State} {n : Nat} (ev : Evolves s0 s) :
    Evolves s0 (s.nlcGranted n) := by
  unfold State.nlcGranted
  exact ev.setRx.set

theorem Evolves.nlcRefused {s : State} {n : Nat} (ev : Evolves s0 s) :
    Evolves s0 (s.nlcRefused n) := by
  unfold State.nlcRefused
  exact ev.set.raise

theorem Evolves.nlcRequest {s : State} {n : Nat} (ev : Evolves s0 s) :
    Evolves s0 (s.nlcRequest n) := by
  unfold State.nlcRequest
  extract_lets x1 x2
  have h3 : Evolves s0 x2 := ev.set
  clear_value x2
  split
  · exact ev.set
  · split
    · rename_i y4 y5 y6
      have h7 : Evolves s0 y5 := (congrArg (fun z => Evolves s0 z.2) y6).mp h3.requestLeave
      exact h7.nlcGranted
    · rename_i y8 y9 y10
      have h11 : Evolves s0 y9 := (congrArg (fun z => Evolves s0 z.2) y10).mp h3.requestLeave
      exact h11.nlcRefused
    · rename_i y12 y13 y14
      have h15 : Evolves s0 y13 := (congrArg (fun z => Evolves s0 z.2) y14).mp h3.requestLeave
      exact h15

theorem Evolves.nlcHalt {s : State} {n : Nat} (ev : Evolves s0 s) :
    Evolves s0 (s.nlcHalt n) := by
  unfold State.nlcHalt
  exact Evolves.ite ev.setRx ev.nlcStopped

theorem Evolves.nlcStopRequest {s : State} {n : Nat} (ev : Evolves s0 s) :
    Evolves s0 (s.nlcStopRequest n) := by
  unfold State.nlcStopRequest
  exact ev.nlcRelease.nlcHalt

theorem Evolves.execNlcGutterStart {n : Fin 2} {s : State} (ev : Evolves s0 s) :
    Keeps s0 (execNlcGutterStart n s) := by
  unfold Sys2Proof.Machine.execNlcGutterStart
  exact ev.act (fun _ h1 => by
    extract_lets x2 x3 x4
    have h5 : Evolves s0 x4 := h1.setRx
    clear_value x4
    exact Evolves.ite h1 h5.set.raise)

theorem Evolves.execNlcLeaveEnd {n : Fin 2} {s : State} (ev : Evolves s0 s) :
    Keeps s0 (execNlcLeaveEnd n s) := by
  unfold Sys2Proof.Machine.execNlcLeaveEnd
  exact ev.act (fun _ h1 => by
    split
    · exact h1
    · extract_lets x2 x3 x4 x5
      have h6 : Evolves s0 x4 := h1.setRx.endLeave
      clear_value x4
      exact Evolves.ite h6.upd.syncPower h6)

theorem Evolves.nlcHoldBegin {s : State} {n : Nat} (ev : Evolves s0 s) :
    Evolves s0 (s.nlcHoldBegin n) := by
  unfold State.nlcHoldBegin
  extract_lets x1 x2 x3 x4 x5 x6
  have h7 : Evolves s0 x4 := ev.setRx
  clear_value x4
  have h8 : Evolves s0 x5 := h7.nlcRelease.nlcHalt
  clear_value x5
  have h9 : Evolves s0 x6 := h8.set
  clear_value x6
  exact Evolves.ite ev (Evolves.ite h9.bump.raise h7)

theorem Evolves.nlcHoldEnd {s : State} {n : Nat} (ev : Evolves s0 s) :
    Evolves s0 (s.nlcHoldEnd n) := by
  unfold State.nlcHoldEnd
  extract_lets x1 x2 x3
  have h4 : Evolves s0 x3 := ev.setRx
  clear_value x3
  exact Evolves.ite h4.nlcRequest h4

theorem Evolves.sliceErrs {s : State} {n : Nat} {errs : Nat} (ev : Evolves s0 s) :
    Evolves s0 (s.sliceErrs n errs) := by
  unfold State.sliceErrs
  exact ev.bumpBy

theorem Evolves.sliceFail {s : State} {n : Nat} {slice : Nat} (ev : Evolves s0 s) :
    Evolves s0 (s.sliceFail n slice) := by
  unfold State.sliceFail
  extract_lets x1 x2 x3 x4 x5 x6 x7 x8
  have h9 : Evolves s0 x5 := ev.raise
  clear_value x5
  have h10 : Evolves s0 x8 := h9.setRx
  clear_value x8
  exact Evolves.ite ev (Evolves.ite h10.set.set h10.raise)

theorem Evolves.execSliceFail {n : Fin 2} {slice : Fin 24} {errs : Nat} {s : State} (ev : Evolves s0 s) :
    Keeps s0 (execSliceFail n slice errs s) := by
  unfold Sys2Proof.Machine.execSliceFail
  exact ev.act (fun _ h1 => by
    extract_lets x2
    have h3 : Evolves s0 x2 := h1.sliceErrs
    clear_value x2
    exact Evolves.ite h3 (Evolves.sliceFail (Evolves.ite h3 h3.sweepYield)))

theorem Evolves.execSliceHandover {n : Fin 2} {s : State} (ev : Evolves s0 s) :
    Keeps s0 (execSliceHandover n s) := by
  unfold Sys2Proof.Machine.execSliceHandover
  exact ev.act (fun _ h1 => by
    extract_lets x2 x3 x4
    have h5 : Evolves s0 x4 := h1.set.raise
    clear_value x4
    exact Evolves.ite h1 h5.repair.useSpare.sweepSealed)

theorem Evolves.execSliceShadowError {n : Fin 2} {errs : Nat} {s : State} (ev : Evolves s0 s) :
    Keeps s0 (execSliceShadowError n errs s) := by
  unfold Sys2Proof.Machine.execSliceShadowError
  exact ev.act (fun _ h1 => by
    extract_lets x2 x3
    have h4 : Evolves s0 x3 := h1.sliceErrs
    clear_value x3
    exact Evolves.ite h4 h4.set.sweepSealed)

theorem Evolves.tapSnap {s : State} {n : Nat} {i : Nat} (ev : Evolves s0 s) :
    Evolves s0 (s.tapSnap n i) := by
  unfold State.tapSnap
  extract_lets x1 x2 x3
  have h4 : Evolves s0 x3 := ev.each (fun _ _ h5 => h5.setNat)
  clear_value x3
  exact h4.setNat64.raise

theorem Evolves.rxdCmd {s : State} {n : Nat} {v : Nat} (ev : Evolves s0 s) :
    Evolves s0 (s.rxdCmd n v).st := by
  unfold State.rxdCmd
  extract_lets x1 x2 x3 x4 x5 x6
  have h7 : Evolves s0 x2 := Evolves.ite (Evolves.ite (ev.each (fun _ _ h8 => h8.acqRestart)) ev.acqRestart) ev
  clear_value x2
  have h9 : Evolves s0 x3 := Evolves.ite h7.tapSnap h7
  clear_value x3
  have h10 : Evolves s0 x4 := Evolves.ite h9.cdClear h9
  clear_value x4
  have h11 : Evolves s0 x6 := h10.setRx.showC
  clear_value x6
  split
  · exact ev.no
  · split
    · exact ev.no
    · exact Evolves.ok (Evolves.ite (Evolves.ite h11.laserEnabled h11) h10)

theorem Evolves.wrRXD {n : Nat} {off : Nat} {v : Nat} {s : State} (ev : Evolves s0 s) :
    Evolves s0 (wrRXD n off v s).st := by
  unfold Sys2Proof.Machine.wrRXD
  extract_lets x1 x2 x3 x4 x5 x6
  have h7 : Evolves s0 x4 := ev.setNat
  clear_value x4
  have h8 : Evolves s0 x6 := Evolves.ite h7 h7.setRx
  clear_value x6
  split
  · split
    · exact ev.no
    · exact Evolves.ok (Evolves.ite h8.nlcRequest (Evolves.ite h8.nlcStopRequest h8))
  · split
    · exact ev.rxdCmd
    · split
      · split
        · exact ev.no
        · exact ev.setNat.ok
      · exact ev.setNat.ok

theorem Evolves.winRXD {n : Nat} {a : Nat} {v : Nat} {s : State} (ev : Evolves s0 s) :
    Evolves s0 (winRXD n a v s).st := by
  unfold Sys2Proof.Machine.winRXD
  split
  · exact ev.no
  · split
    · exact ev.no
    · exact ev.setNat.ok

end Sys2Proof.Machine
end

