-- ==== Sys2Proof/Laws/Sub.lean ====
section
/-!
SUPPORT. Each operation of Machine/Sub.lean: what it makes of a state has evolved from it (Safety).
-/

-- One declaration at a time: all at once need more threads than the check's memory limit allows.
set_option Elab.async false
namespace Sys2Proof.Machine

variable {s0 : State}

theorem Evolves.schedCheck {s : State} {n : Nat} (ev : Evolves s0 s) :
    Evolves s0 (s.schedCheck n) := by
  unfold State.schedCheck
  extract_lets x1 x2 x3 x4
  clear_value x4
  split
  · exact ev.set.set.set
  · extract_lets x5
    have h6 : Evolves s0 x5 := ev.set.set.set
    clear_value x5
    exact h6.raise

theorem Evolves.schedApply {s : State} {n : Nat} (ev : Evolves s0 s) :
    Evolves s0 (s.schedApply n) := by
  unfold State.schedApply
  extract_lets x1 x2 x3 x4 x5 x6 x7
  have h8 : Evolves s0 x3 := ev.set
  clear_value x3
  have h9 : Evolves s0 x4 := h8.set.set
  clear_value x4
  exact h9.setSub

theorem Evolves.setLeafMem {s : State} {n : Nat} {l : Nat} {m : LeafMem} (ev : Evolves s0 s) :
    Evolves s0 (s.setLeafMem n l m) := by
  unfold State.setLeafMem
  exact ev.setSub

theorem Evolves.hubRefresh {s : State} {n : Nat} (ev : Evolves s0 s) :
    Evolves s0 (s.hubRefresh n) := by
  unfold State.hubRefresh
  extract_lets x1 x2 x3 x4 x5 x6
  have h7 : Evolves s0 x5 := ev.set
  clear_value x5
  have h8 : Evolves s0 x6 := h7.setB
  clear_value x6
  exact h8.raiseIf.calHold

theorem Evolves.setLeafSt {s : State} {n : Nat} {l : Nat} {st : Nat} (ev : Evolves s0 s) :
    Evolves s0 (s.setLeafSt n l st) := by
  unfold State.setLeafSt
  exact ev.set.hubRefresh

theorem Evolves.assign {s : State} {n : Nat} {a : Assign} (ev : Evolves s0 s) :
    Evolves s0 (s.assign n a).snd := by
  unfold State.assign
  extract_lets x1
  exact Evolves.iteF Prod.snd ev.raise ev.setSub.set

theorem Evolves.leafLost {s : State} {n : Nat} {l : Nat} (ev : Evolves s0 s) :
    Evolves s0 (s.leafLost n l) := by
  unfold State.leafLost
  extract_lets x1 x2
  have h3 : Evolves s0 x1 := ev.setLeafSt
  clear_value x1
  have h4 : Evolves s0 x2 := h3.assign
  clear_value x2
  exact h4.raise

theorem Evolves.leafJoined {s : State} {n : Nat} {l : Nat} (ev : Evolves s0 s) :
    Evolves s0 (s.leafJoined n l) := by
  unfold State.leafJoined
  exact Evolves.ite ev.setLeafSt.raise ev

theorem Evolves.hubArrival {s : State} {n : Nat} {l : Nat} {ps : Int} (ev : Evolves s0 s) :
    Evolves s0 (s.hubArrival n l ps) := by
  unfold State.hubArrival
  exact ev.setLeafMem.hubRefresh

theorem Evolves.arrivalAvg {s : State} {n : Nat} {l : Nat} {folio : Nat} {ps : Int} (ev : Evolves s0 s) :
    Evolves s0 (s.arrivalAvg n l folio ps) := by
  unfold State.arrivalAvg
  extract_lets x1 x2 x3 x4 x5 x6 x7 x8 x9 x10
  have h11 : Evolves s0 x7 := ev.setI
  clear_value x7
  have h12 : Evolves s0 x8 := h11.setLeafMem
  clear_value x8
  split
  · exact ev
  · split
    · exact ev.setLeafMem
    · split
      · exact h12
      · split
        · rename_i y13 y14 y15
          have h16 : Evolves s0 y14 := (congrArg (fun z => Evolves s0 z.2) y15).mp h12.assign
          exact h16
        · rename_i y17 y18 y19
          have h20 : Evolves s0 y18 := (congrArg (fun z => Evolves s0 z.2) y19).mp h12.assign
          extract_lets x21 x22 x23
          have h24 : Evolves s0 x21 := h20.set
          clear_value x21
          exact h24.setLeafMem.raise

theorem Evolves.execWindowLost {n : Fin 2} {s : State} (ev : Evolves s0 s) :
    Keeps s0 (execWindowLost n s) := by
  unfold Sys2Proof.Machine.execWindowLost
  exact ev.act (fun _ h1 => h1.hubRefresh)

theorem Evolves.execDedicatedLossTimeout {n : Fin 2} {leaf : Fin 32} {s : State} (ev : Evolves s0 s) :
    Keeps s0 (execDedicatedLossTimeout n leaf s) := by
  unfold Sys2Proof.Machine.execDedicatedLossTimeout
  exact ev.act (fun _ h1 => by
    split
    · exact h1
    · exact Evolves.ite h1.leafLost h1)

theorem Evolves.execRxGutterCorrelate {n : Fin 2} {i : Fin 16} {pos : Int} {found : Bool} {swapped : Bool} {low : Bool} {pilotOk : Bool} {snrOk : Bool} {quireErr : Option Int} {s : State} (ev : Evolves s0 s) :
    Keeps s0 (execRxGutterCorrelate n i pos found swapped low pilotOk snrOk quireErr s) := by
  unfold Sys2Proof.Machine.execRxGutterCorrelate
  exact ev.act (fun _ h1 => by
    extract_lets x2 x3 x4 x5 x6 x7 x8 x9
    have h10 : Evolves s0 x3 := Evolves.ite h1.setSubc.raise h1
    clear_value x3
    have h11 : Evolves s0 x5 := Evolves.ite h10.nlcStopped h10
    clear_value x5
    have h12 : Evolves s0 x6 := h11.gutterSeen
    clear_value x6
    have h13 : Evolves s0 x8 := Evolves.ite h12.setRx h12
    clear_value x8
    clear_value x9
    split
    · exact h13
    · extract_lets x14
      have h15 : Evolves s0 x14 := Evolves.ite h13.leafJoined h13
      clear_value x14
      split
      · exact h15
      · exact h15.hubArrival.arrivalAvg)

theorem Evolves.execBurstMapFill {n : Fin 2} {f : Nat} {s : State} (ev : Evolves s0 s) :
    Keeps s0 (execBurstMapFill n f s) := by
  unfold Sys2Proof.Machine.execBurstMapFill
  exact ev.act (fun _ h1 => by
    extract_lets x2 x3 x4 x5 x6 x7 x8 x9 x10 x11 x12 x13 x14 x15 x16 x17 x18 x19 x20
    have h21 : Evolves s0 x12 := h1.count
    clear_value x12
    have h22 : Evolves s0 x16 := h21.setSub
    clear_value x16
    have h23 : Evolves s0 x17 := h22.set
    clear_value x17
    have h24 : Evolves s0 x20 := h23.setFrm
    clear_value x20
    exact Evolves.ite h1 h24.send)

theorem Evolves.execQuietWindowOpen {n : Fin 2} {opens : Bool} {s : State} (ev : Evolves s0 s) :
    Keeps s0 (execQuietWindowOpen n opens s) := by
  unfold Sys2Proof.Machine.execQuietWindowOpen
  exact ev.act (fun _ h1 => by
    extract_lets x2
    exact h1.setB.calHold)

theorem Evolves.logBurst {s : State} {n : Nat} {r : LogRec} (ev : Evolves s0 s) :
    Evolves s0 (s.logBurst n r) := by
  unfold State.logBurst
  extract_lets x1 x2 x3 x4 x5
  have h6 : Evolves s0 x2 := Evolves.ite ev.count (Evolves.ite ev.count ev)
  clear_value x2
  have h7 : Evolves s0 x5 := h6.setWords
  clear_value x5
  exact Evolves.ite h6 (Evolves.ite h6.count h7.setNat)

theorem Evolves.execJoinDecision {n : Fin 2} {i : Fin 16} {record : BitVec 128} {s : State} (ev : Evolves s0 s) :
    Keeps s0 (execJoinDecision n i record s) := by
  unfold Sys2Proof.Machine.execJoinDecision
  exact ev.act (fun _ h1 => by
    extract_lets x2 x3 x4 x5 x6 x7 x8 x9 x10 x11 x12 x13
    have h14 : Evolves s0 x7 := h1.setSub
    clear_value x7
    have h15 : ∀ (s : State), Evolves s0 s → Evolves s0 (x12 s) := fun _ h16 => h16.raise.logBurst
    split
    · exact h1
    · split
      · exact h14.logBurst
      · clear_value x11
        split
        · exact h15 _ h14
        · split
          · rename_i y17 y18 y19
            have h20 : Evolves s0 y18 := (congrArg (fun z => Evolves s0 z.2) y19).mp h14.assign
            exact h15 _ h20
          · rename_i y21 y22 y23
            have h24 : Evolves s0 y22 := (congrArg (fun z => Evolves s0 z.2) y23).mp h14.assign
            extract_lets x25 x26 x27 x28 x29 x30 x31 x32 x33
            have h34 : Evolves s0 x26 := h24.setNat64
            clear_value x26
            have h35 : Evolves s0 x27 := h34.set
            clear_value x27
            have h36 : Evolves s0 x28 := h35.bump.set
            clear_value x28
            have h37 : Evolves s0 x29 := h36.setI.set
            clear_value x29
            have h38 : Evolves s0 x30 := h37.set
            clear_value x30
            have h39 : Evolves s0 x31 := h38.setLeafMem
            clear_value x31
            have h40 : Evolves s0 x32 := h39.setLeafSt
            clear_value x32
            have h41 : Evolves s0 x33 := h40.logBurst
            clear_value x33
            split
            · exact h41
            · exact h41.assign)

theorem Evolves.setBurstRx {s : State} {n : Nat} {i : Nat} {r : BurstRx} (ev : Evolves s0 s) :
    Evolves s0 (s.setBurstRx n i r) := by
  unfold State.setBurstRx
  exact ev.setSub

theorem Evolves.loadLeaf {s : State} {n : Nat} {i : Nat} {l : Nat} (ev : Evolves s0 s) :
    Evolves s0 (s.loadLeaf n i l) := by
  unfold State.loadLeaf
  extract_lets x1 x2
  exact ev.setSubc

theorem Evolves.execBurstStateLoad {n : Fin 2} {i : Fin 16} {leaf : Fin 32} {s : State} (ev : Evolves s0 s) :
    Keeps s0 (execBurstStateLoad n i leaf s) := by
  unfold Sys2Proof.Machine.execBurstStateLoad
  exact ev.act (fun _ h1 => by exact Evolves.ite h1.loadLeaf h1)

theorem Evolves.execBurstDetection {n : Fin 2} {i : Fin 16} {peakA : Option (Nat × Int)} {peakB : Option (Nat × Int)} {s : State} (ev : Evolves s0 s) :
    Keeps s0 (execBurstDetection n i peakA peakB s) := by
  unfold Sys2Proof.Machine.execBurstDetection
  exact ev.act (fun _ h1 => by
    extract_lets x2 x3 x4 x5 x6
    clear_value x5
    split
    · exact h1
    · split
      · exact h1
      · extract_lets x7 x8 x9 x10
        have h11 : Evolves s0 x8 := h1.setBurstRx
        clear_value x8
        have h12 : Evolves s0 x10 := h11.setSubc.raise
        clear_value x10
        split
        · exact h1.setBurstRx
        · exact Evolves.ite h1.setBurstRx.logBurst h1
        · exact Evolves.ite h12.logBurst h1.setBurstRx.count
        · exact h1)

theorem Evolves.alien {s : State} {n : Nat} {i : Nat} {leaf : Option Nat} {l : Latched} (ev : Evolves s0 s) :
    Evolves s0 (s.alien n i leaf l) := by
  unfold State.alien
  extract_lets x1 x2
  have h3 : Evolves s0 x2 := ev.setBurstRx
  clear_value x2
  exact h3.raise.logBurst

theorem Evolves.burstTrain {s : State} {n : Nat} {i : Nat} {j : Nat} {adc : List (List (BitVec 8))} (ev : Evolves s0 s) :
    Evolves s0 (s.burstTrain n i j adc) := by
  unfold State.burstTrain
  extract_lets x1 x2 x3 x4 x5 x6 x7
  exact ev.setSubc

theorem Evolves.execBurstSyncLatch {n : Fin 2} {i : Fin 16} {j : Fin 33} {off : Int} {metric : Nat} {folio : Nat} {rssi : Nat} {snr : Nat} {freq : Int} {arrival : Int} {cd : Int} {adc : List (List (BitVec 8))} {s : State} (ev : Evolves s0 s) :
    Keeps s0 (execBurstSyncLatch n i j off metric folio rssi snr freq arrival cd adc s) := by
  unfold Sys2Proof.Machine.execBurstSyncLatch
  exact ev.act (fun _ h1 => by
    extract_lets x2 x3 x4 x5 x6 x7 x8 x9 x10 x11
    have h12 : Evolves s0 x5 := h1.setBurstRx
    clear_value x5
    have h13 : Evolves s0 x8 := Evolves.ite h1.loadLeaf h1
    clear_value x8
    have h14 : Evolves s0 x10 := h13.setSub
    clear_value x10
    split
    · exact h1
    · split
      · exact Evolves.ite h12.setSubc.burstTrain h1.alien
      · split
        · exact h1.alien
        · split
          · exact h1.alien
          · extract_lets x15 x16 x17 x18 x19 x20
            have h21 : Evolves s0 x16 := h14.setBurstRx
            clear_value x16
            have h22 : Evolves s0 x17 := h21.burstTrain
            clear_value x17
            have h23 : Evolves s0 x19 := h22.setSubc
            clear_value x19
            have h24 : Evolves s0 x20 := h23.set.set.set
            clear_value x20
            exact h24.hubArrival)

theorem Evolves.execBurstNoSync {n : Fin 2} {i : Fin 16} {s : State} (ev : Evolves s0 s) :
    Keeps s0 (execBurstNoSync n i s) := by
  unfold Sys2Proof.Machine.execBurstNoSync
  exact ev.act (fun _ h1 => by
    extract_lets x2
    exact Evolves.ite h1 h1.setBurstRx.logBurst)

theorem Evolves.execBurstRampDown {n : Fin 2} {i : Fin 16} {s : State} (ev : Evolves s0 s) :
    Keeps s0 (execBurstRampDown n i s) := by
  unfold Sys2Proof.Machine.execBurstRampDown
  exact ev.act (fun _ h1 => by
    extract_lets x2 x3
    exact Evolves.ite h1 h1.deliverSoft.setBurstRx)

theorem Evolves.execBurstVerdict {n : Fin 2} {i : Fin 16} {s : State} (ev : Evolves s0 s) :
    Keeps s0 (execBurstVerdict n i s) := by
  unfold Sys2Proof.Machine.execBurstVerdict
  exact ev.act (fun _ h1 => by
    extract_lets x2
    split
    · extract_lets x3 x4 x5 x6
      have h7 : Evolves s0 x3 := h1.setBurstRx
      clear_value x3
      have h8 : Evolves s0 x4 := h7.logBurst
      clear_value x4
      have h9 : Evolves s0 x6 := h8.setLeafMem
      clear_value x6
      exact h9.leafJoined.arrivalAvg
    · exact h1)

theorem Evolves.execBurstWindowMissing {n : Fin 2} {i : Fin 16} {leaf : Fin 32} {folio : Nat} {s : State} (ev : Evolves s0 s) :
    Keeps s0 (execBurstWindowMissing n i leaf folio s) := by
  unfold Sys2Proof.Machine.execBurstWindowMissing
  exact ev.act (fun _ h1 => by
    extract_lets x2 x3 x4 x5 x6 x7
    have h8 : Evolves s0 x4 := h1.setSub
    clear_value x4
    have h9 : Evolves s0 x5 := h8.logBurst
    clear_value x5
    have h10 : Evolves s0 x7 := h9.bump
    clear_value x7
    split
    · exact h1
    · exact Evolves.ite h8 (Evolves.ite h10.leafLost h10))

theorem Evolves.setLeafState {s : State} {n : Nat} {st : Nat} (ev : Evolves s0 s) :
    Evolves s0 (s.setLeafState n st) := by
  unfold State.setLeafState
  exact ev.setSub.set

theorem Evolves.waitQuiet {s : State} {n : Nat} (ev : Evolves s0 s) :
    Evolves s0 (s.waitQuiet n) := by
  unfold State.waitQuiet
  extract_lets x1 x2
  exact ev.nextFree.setSub.set.setLeafState

theorem Evolves.sendJoin {s : State} {n : Nat} {g : Nat} {subc : Nat} {start : Nat} (ev : Evolves s0 s) :
    Evolves s0 (s.sendJoin n g subc start) := by
  unfold State.sendJoin
  extract_lets x1 x2 x3 x4 x5
  have h6 : Evolves s0 x5 := ev.nextFree.setSub
  clear_value x5
  exact h6.bump.set.setLeafState

theorem Evolves.leafAssign {s : State} {n : Nat} {a : Assign} (ev : Evolves s0 s) :
    Evolves s0 (s.leafAssign n a) := by
  unfold State.leafAssign
  extract_lets x1 x2 x3 x4 x5
  have h6 : Evolves s0 x4 := ev.set.setB
  clear_value x4
  have h7 : Evolves s0 x5 := ev.setB.setB
  clear_value x5
  split
  · exact Evolves.ite h6.set.setLeafState ev
  · exact Evolves.ite ev.set ev
  · exact Evolves.ite ev.set.setB ev
  · exact Evolves.ite ev.setB ev
  · exact Evolves.ite h7.waitQuiet.raise ev
  · exact ev

theorem Evolves.leafGrant {s : State} {n : Nat} {g : Nat} {w : Nat} (ev : Evolves s0 s) :
    Evolves s0 (s.leafGrant n g w) := by
  unfold State.leafGrant
  extract_lets x1 x2
  exact Evolves.ite ev.setSub ev

theorem Evolves.leafAct {s : State} {n : Nat} {d : Nat × LeafDo} (ev : Evolves s0 s) :
    Evolves s0 (s.leafAct n d) := by
  unfold State.leafAct
  split
  · exact ev.leafAssign
  · exact ev.leafGrant

theorem Evolves.execBurstMapDecode {n : Fin 2} {f : Nat} {entries : List (BitVec 32)} {s : State} (ev : Evolves s0 s) :
    Keeps s0 (execBurstMapDecode n f entries s) := by
  unfold Sys2Proof.Machine.execBurstMapDecode
  exact ev.act (fun _ h1 => by
    split
    · exact h1
    · extract_lets x2 x3 x4 x5 x6 x7 x8 x9
      have h10 : Evolves s0 x7 := h1.setSub
      clear_value x7
      have h11 : Evolves s0 x8 := h10.each (fun _ _ h12 => h12.leafAct)
      clear_value x8
      exact Evolves.ite (Evolves.ite h11.sendJoin h11.setSub) h11)

theorem Evolves.execLeafJoinStart {n : Fin 2} {s : State} (ev : Evolves s0 s) :
    Keeps s0 (execLeafJoinStart n s) := by
  unfold Sys2Proof.Machine.execLeafJoinStart
  exact ev.act (fun _ h1 => by exact Evolves.ite h1.waitQuiet h1)

theorem Evolves.execLeafReplyTimeout {n : Fin 2} {s : State} (ev : Evolves s0 s) :
    Keeps s0 (execLeafReplyTimeout n s) := by
  unfold Sys2Proof.Machine.execLeafReplyTimeout
  exact ev.act (fun _ h1 => by exact Evolves.ite h1.waitQuiet.raise h1)

theorem Evolves.execLeafFirstBurst {n : Fin 2} {s : State} (ev : Evolves s0 s) :
    Keeps s0 (execLeafFirstBurst n s) := by
  unfold Sys2Proof.Machine.execLeafFirstBurst
  exact ev.act (fun _ h1 => by exact Evolves.ite h1.setLeafState.raise h1)

theorem Evolves.execLeafHoldEntry {n : Fin 2} {s : State} (ev : Evolves s0 s) :
    Keeps s0 (execLeafHoldEntry n s) := by
  unfold Sys2Proof.Machine.execLeafHoldEntry
  exact ev.act (fun _ h1 => by
    extract_lets x2 x3
    exact Evolves.ite h1.setSub.setLeafState.send h1)

theorem Evolves.leafRegain {s : State} {n : Nat} (ev : Evolves s0 s) :
    Evolves s0 (s.leafRegain n) := by
  unfold State.leafRegain
  exact Evolves.ite ev.setLeafState ev

theorem Evolves.execLeafHoldTimeout {n : Fin 2} {s : State} (ev : Evolves s0 s) :
    Keeps s0 (execLeafHoldTimeout n s) := by
  unfold Sys2Proof.Machine.execLeafHoldTimeout
  exact ev.act (fun _ h1 => by exact Evolves.ite h1.leafIdle h1)

theorem Evolves.ownerChange {s : State} {n : Nat} {i : Nat} {old : Option Nat} {new : Option Nat} (ev : Evolves s0 s) :
    Evolves s0 (s.ownerChange n i old new) := by
  unfold State.ownerChange
  split
  · exact ev
  · extract_lets x1
    have h2 : Evolves s0 x1 := by
      unfold x1
      split
      · exact Evolves.ite ev.assign ev
      · exact ev
    clear_value x1
    split
    · exact Evolves.ite h2.assign h2
    · exact h2

theorem Evolves.wrSUB {n : Nat} {off : Nat} {v : Nat} {s : State} (ev : Evolves s0 s) :
    Evolves s0 (wrSUB n off v s).st := by
  unfold Sys2Proof.Machine.wrSUB
  extract_lets x1 x2 x3 x4 x5 x6 x7 x8 x9 x10
  have h11 : Evolves s0 x4 := ev.set.set
  clear_value x4
  have h12 : Evolves s0 x5 := Evolves.ite h11.schedApply h11
  clear_value x5
  have h13 : Evolves s0 x10 := ev.setNat
  clear_value x10
  split
  · split
    · exact ev.no
    · exact Evolves.ok (Evolves.ite h12.schedCheck h12)
  · split
    · split
      · exact ev.ok
      · split
        · exact ev.no
        · exact ev.leafLost.ok
    · split
      · exact (h13.each (fun _ _ h14 => h14.ownerChange)).ok
      · split
        · exact ev.setNat.hubRefresh.ok
        · exact ev.setNat.ok

theorem Evolves.winSUB {n : Nat} {a : Nat} {v : Nat} {s : State} (ev : Evolves s0 s) :
    Evolves s0 (winSUB n a v s).st := by
  unfold Sys2Proof.Machine.winSUB
  extract_lets x1 x2 x3 x4 x5
  have h6 : Evolves s0 x4 := ev.setNat
  clear_value x4
  split
  · split
    · exact ev.no
    · exact ev.setNat.set.ok
  · split
    · exact ev.no
    · split
      · exact Evolves.ok (Evolves.ite h6.setLeafSt (Evolves.ite h6.setLeafSt h6))
      · exact h6.ok

end Sys2Proof.Machine
end

