-- ==== Sys2Proof/Laws/Fec.lean ====
section
/-!
SUPPORT. Each operation of Machine/Fec.lean: what it makes of a state has evolved from it (Safety).
-/

-- One declaration at a time: all at once need more threads than the check's memory limit allows.
set_option Elab.async false
namespace Sys2Proof.Machine

variable {s0 : State}

theorem Evolves.execFecEncode {n : Fin 2} {stream : Nat} {s : State} (ev : Evolves s0 s) :
    Keeps s0 (execFecEncode n stream s) := by
  unfold Sys2Proof.Machine.execFecEncode
  exact ev.act (fun _ h1 => by
    extract_lets x2
    split
    · exact h1
    · split
      · exact h1
      · extract_lets x3 x4 x5 x6
        have h7 : Evolves s0 x3 := h1.setFec
        clear_value x3
        exact h7.setTx)

theorem Evolves.fecStruct {s : State} {n : Nat} (ev : Evolves s0 s) :
    Evolves s0 (s.fecStruct n) := by
  unfold State.fecStruct
  extract_lets x1 x2 x3 x4 x5 x6 x7 x8 x9
  have h10 : Evolves s0 x8 := ev.set
  clear_value x8
  have h11 : Evolves s0 x9 := h10.set.set
  clear_value x9
  exact h11.set.fecCaps

theorem Evolves.engineShort {s : State} {n : Nat} {old : Nat} (ev : Evolves s0 s) :
    Evolves s0 (s.engineShort n old) := by
  unfold State.engineShort
  extract_lets x1
  exact ev.raiseIf

theorem Evolves.fecStructShort {s : State} {n : Nat} (ev : Evolves s0 s) :
    Evolves s0 (s.fecStructShort n) := by
  unfold State.fecStructShort
  extract_lets x1
  exact ev.fecStruct.engineShort

theorem Evolves.checkFec {s : State} {n : Nat} (ev : Evolves s0 s) :
    Evolves s0 (s.checkFec n).snd := by
  unfold State.checkFec
  extract_lets x1
  have h2 : Evolves s0 x1 := ev.fecStruct
  clear_value x1
  exact h2

theorem Evolves.execSchedSwitch {n : Fin 2} {s : State} (ev : Evolves s0 s) :
    Keeps s0 (execSchedSwitch n s) := by
  unfold Sys2Proof.Machine.execSchedSwitch
  exact ev.act (fun _ h1 => by
    extract_lets x2 x3 x4
    have h5 : Evolves s0 x4 := h1.setSub
    clear_value x4
    split
    · exact h1
    · exact h5.raise.fecStructShort)

theorem Evolves.countLimits {s : State} {n : Nat} (ev : Evolves s0 s) :
    Evolves s0 (s.countLimits n) := by
  unfold State.countLimits
  extract_lets x1
  exact ev.each (fun _ _ h2 => by exact Evolves.ite h2.count64 h2)

theorem Evolves.addDecoded {s : State} {n : Nat} {st : Nat} {w : DecWord} (ev : Evolves s0 s) :
    Evolves s0 (s.addDecoded n st w) := by
  unfold State.addDecoded
  extract_lets x1
  exact ev.setFec

theorem Evolves.countConverged {s : State} {n : Nat} {pos : List SoftPos} {v : Nat → Int} {k : Nat} (ev : Evolves s0 s) :
    Evolves s0 (s.countConverged n pos v k) := by
  unfold State.countConverged
  extract_lets x1 x2 x3 x4 x5 x6 x7 x8 x9
  have h10 : Evolves s0 x6 := ev.count64.count64
  clear_value x6
  have h11 : Evolves s0 x7 := h10.count64
  clear_value x7
  have h12 : Evolves s0 x8 := h11.count64
  clear_value x8
  exact h12.setFec

theorem Evolves.execCodewordDecode {n : Fin 2} {stream : Nat} {s : State} (ev : Evolves s0 s) :
    Keeps s0 (execCodewordDecode n stream s) := by
  unfold Sys2Proof.Machine.execCodewordDecode
  exact ev.act (fun _ h1 => by
    extract_lets x2 x3 x4 x5 x6 x7 x8 x9 x10 x11
    have h12 : Evolves s0 x9 := h1.count64.countLimits
    clear_value x9
    have h13 : Evolves s0 x11 := h12.setFec
    clear_value x11
    split
    · exact h1
    · split
      · exact h1.count.count64.addDecoded
      · split
        · split
          · exact h13.countConverged.addDecoded
          · exact h13.addDecoded)

theorem Evolves.execLateCodeword {n : Fin 2} {stream : Nat} {iters : Fin 25} {s : State} (ev : Evolves s0 s) :
    Keeps s0 (execLateCodeword n stream iters s) := by
  unfold Sys2Proof.Machine.execLateCodeword
  exact ev.act (fun _ h1 => by
    extract_lets x2 x3 x4 x5 x6 x7 x8 x9 x10
    have h11 : Evolves s0 x8 := h1.setFec
    clear_value x8
    have h12 : Evolves s0 x9 := h11.count64.countLimits.count
    clear_value x9
    exact Evolves.ite h1 h12.addDecoded.raise)

theorem Evolves.execBchDecode {n : Fin 2} {stream : Nat} {s : State} (ev : Evolves s0 s) :
    Keeps s0 (execBchDecode n stream s) := by
  unfold Sys2Proof.Machine.execBchDecode
  exact ev.act (fun _ h1 => by
    split
    · extract_lets x2 x3 x4 x5 x6 x7 x8 x9 x10 x11 x12 x13 x14 x15
      have h16 : Evolves s0 x9 := h1.count64
      clear_value x9
      have h17 : Evolves s0 x10 := h16.count64
      clear_value x10
      have h18 : Evolves s0 x11 := h17.count64.count
      clear_value x11
      have h19 : Evolves s0 x12 := Evolves.ite h18 h18.count.raise
      clear_value x12
      have h20 : Evolves s0 x13 := h19.each (fun _ _ h21 => h21.raise)
      clear_value x13
      exact Evolves.ite h1 h20.setFec)

theorem Evolves.engineFail {s : State} {n : Nat} {u : Nat} (ev : Evolves s0 s) :
    Evolves s0 (s.engineFail n u) := by
  unfold State.engineFail
  extract_lets x1 x2 x3 x4 x5
  have h6 : Evolves s0 x3 := ev.setFec
  clear_value x3
  have h7 : Evolves s0 x4 := h6.raise
  clear_value x4
  have h8 : Evolves s0 x5 := h7.raiseIf
  clear_value x5
  exact Evolves.ite ev h8.repair.showEngines.fecStructShort

theorem Evolves.engineSpareFail {s : State} {n : Nat} {u : Nat} (ev : Evolves s0 s) :
    Evolves s0 (s.engineSpareFail n u) := by
  unfold State.engineSpareFail
  extract_lets x1 x2
  have h3 : Evolves s0 x2 := ev.setFec
  clear_value x2
  exact Evolves.ite ev h3.repair.useSpare.showEngines

theorem Evolves.execEngineShadowCheck {n : Fin 2} {mismatch : Bool} {activePass : Bool} {sparePass : Bool} {s : State} (ev : Evolves s0 s) :
    Keeps s0 (execEngineShadowCheck n mismatch activePass sparePass s) := by
  unfold Sys2Proof.Machine.execEngineShadowCheck
  exact ev.act (fun _ h1 => by
    extract_lets x2 x3 x4 x5
    have h6 : Evolves s0 x4 := h1.setFec
    clear_value x4
    have h7 : Evolves s0 x5 := h6.sweepYield
    clear_value x5
    split
    · exact h1
    · split
      · exact h6
      · split
        · exact h6.bump
        · extract_lets x8
          have h9 : Evolves s0 x8 := Evolves.ite h7 h7.engineSpareFail
          clear_value x8
          exact Evolves.ite h9 h9.engineFail)

theorem Evolves.execEngineSpareJoin {n : Fin 2} {refPass : Bool} {s : State} (ev : Evolves s0 s) :
    Keeps s0 (execEngineSpareJoin n refPass s) := by
  unfold Sys2Proof.Machine.execEngineSpareJoin
  exact ev.act (fun _ h1 => by
    extract_lets x2
    split
    · exact h1
    · exact h1
    · split
      · exact h1.sweepYield.engineSpareFail
      · extract_lets x3 x4
        have h5 : Evolves s0 x3 := h1.setFec
        clear_value x3
        have h6 : Evolves s0 x4 := h5.raise.useSpare
        clear_value x4
        exact h6.showEngines.fecStructShort)

theorem Evolves.hostCap {s : State} {n : Nat} {v : Nat} (ev : Evolves s0 s) :
    Evolves s0 (s.hostCap n v) := by
  unfold State.hostCap
  extract_lets x1
  exact ev.set.set.fecCaps

theorem Evolves.imaxGranted {s : State} {n : Nat} (ev : Evolves s0 s) :
    Evolves s0 (s.imaxGranted n) := by
  unfold State.imaxGranted
  split
  · exact ev
  · exact ev.setFec.hostCap

theorem Evolves.imaxRefused {s : State} {n : Nat} (ev : Evolves s0 s) :
    Evolves s0 (s.imaxRefused n) := by
  unfold State.imaxRefused
  extract_lets x1 x2
  have h3 : Evolves s0 x2 := ev.setFec
  clear_value x2
  exact h3.set.raise

theorem Evolves.imaxWrite {s : State} {n : Nat} {v : Nat} (ev : Evolves s0 s) :
    Evolves s0 (s.imaxWrite n v).st := by
  unfold State.imaxWrite
  extract_lets x1 x2 x3 x4 x5 x6 x7 x8 x9 x10 x11 x12
  have h13 : Evolves s0 x4 := ev.withdrawLeave.setFec
  clear_value x4
  have h14 : Evolves s0 x9 := h13.set.setFec
  clear_value x9
  have h15 : Evolves s0 x12 := h13.upd.syncPower
  clear_value x12
  split
  · split
    · rename_i y16 y17 y18
      have h19 : Evolves s0 y17 := (congrArg (fun z => Evolves s0 z.2) y18).mp h14.requestLeave
      exact h19.set.imaxGranted.ok
    · rename_i y20 y21 y22
      have h23 : Evolves s0 y21 := (congrArg (fun z => Evolves s0 z.2) y22).mp h14.requestLeave
      exact h23.set.ok
    · rename_i y24 y25 y26
      have h27 : Evolves s0 y25 := (congrArg (fun z => Evolves s0 z.2) y26).mp h14.requestLeave
      exact h27.imaxRefused.no
  · exact h15.set.hostCap.ok

theorem Evolves.latchMeas {s : State} {n : Nat} {i : Nat} (ev : Evolves s0 s) :
    Evolves s0 (s.latchMeas n i) := by
  unfold State.latchMeas
  extract_lets x1 x2 x3 x4 x5 x6 x7 x8 x9 x10 x11 x12 x13 x14 x15
  have h16 : Evolves s0 x6 := ev.setB.set
  clear_value x6
  have h17 : Evolves s0 x7 := h16.setI
  clear_value x7
  have h18 : Evolves s0 x8 := h17.set.set
  clear_value x8
  have h19 : Evolves s0 x9 := h18.set
  clear_value x9
  have h20 : Evolves s0 x10 := h19.setI.setI
  clear_value x10
  have h21 : Evolves s0 x11 := h20.set.set
  clear_value x11
  have h22 : Evolves s0 x12 := h21.set.set
  clear_value x12
  have h23 : Evolves s0 x13 := h22.setI.setI
  clear_value x13
  have h24 : Evolves s0 x14 := h23.set.set
  clear_value x14
  exact h24.setSubc

theorem Evolves.latchBer {s : State} {n : Nat} (ev : Evolves s0 s) :
    Evolves s0 (s.latchBer n) := by
  unfold State.latchBer
  extract_lets x1 x2 x3
  have h4 : Evolves s0 x3 := ev.setFec
  clear_value x3
  split
  · exact h4.setNat.setNat
  · split
    · extract_lets x5 x6
      have h7 : Evolves s0 x5 := Evolves.ite h4.nextFree h4
      clear_value x5
      have h8 : Evolves s0 x6 := h7.set.set.setB
      clear_value x6
      exact h8.set.set

theorem Evolves.execMeasPeriodEnd {n : Fin 2} {s : State} (ev : Evolves s0 s) :
    Keeps s0 (execMeasPeriodEnd n s) := by
  unfold Sys2Proof.Machine.execMeasPeriodEnd
  exact ev.act (fun _ h1 => by
    split
    · exact h1
    · extract_lets x2 x3 x4 x5 x6 x7 x8
      have h9 : Evolves s0 x3 := h1.each (fun _ _ h10 => h10.latchMeas)
      clear_value x3
      have h11 : Evolves s0 x4 := h9.latchBer
      clear_value x4
      have h12 : Evolves s0 x7 := h11.set.setFec
      clear_value x7
      exact h12.setRx)

theorem Evolves.wrFEC {n : Nat} {off : Nat} {v : Nat} {s : State} (ev : Evolves s0 s) :
    Evolves s0 (wrFEC n off v s).st := by
  unfold Sys2Proof.Machine.wrFEC
  extract_lets x1
  split
  · exact Evolves.ok (Evolves.ite (ev.each (fun _ _ h2 => h2.setNat64)) ev)
  · split
    · exact ev.imaxWrite
    · exact ev.setNat.ok

end Sys2Proof.Machine
end

