-- ==== Sys2Proof/Laws/Pm.lean ====
section
/-!
SUPPORT. Each operation of Machine/Pm.lean: what it makes of a state has evolved from it (Safety).
-/

-- One declaration at a time: all at once need more threads than the check's memory limit allows.
set_option Elab.async false
namespace Sys2Proof.Machine

variable {s0 : State}

theorem Evolves.setPmEnt {s : State} {e : Nat} {x : PmEnt} (ev : Evolves s0 s) :
    Evolves s0 (s.setPmEnt e x) := by
  unfold State.setPmEnt
  exact ev.upd

theorem Evolves.pm {s : State} {e : Nat} {f : PmSecond → PmSecond} (ev : Evolves s0 s) :
    Evolves s0 (s.pm e f) := by
  unfold State.pm
  exact ev.setPmEnt

end Sys2Proof.Machine
end

