-- ==== Sys2Proof/Laws/Gth.lean ====
section
/-!
SUPPORT. Each operation of Machine/Gth.lean: what it makes of a state has evolved from it (Safety).
-/

-- One declaration at a time: all at once need more threads than the check's memory limit allows.
set_option Elab.async false
namespace Sys2Proof.Machine

variable {s0 : State}

theorem Evolves.gthRefuse {s : State} {g : Nat} {rule : Nat} (ev : Evolves s0 s) :
    Evolves s0 (s.gthRefuse g rule).st := by
  unfold State.gthRefuse
  extract_lets x1
  have h2 : Evolves s0 x1 := ev.set.set
  clear_value x1
  exact h2.raise.no

theorem Evolves.refreshClient {s : State} {g : Nat} (ev : Evolves s0 s) :
    Evolves s0 (s.refreshClient g) := by
  unfold State.refreshClient
  exact Evolves.ite ev.refreshPort ev

theorem Evolves.entGTH {g : Nat} {ws : List Nat} {s : State} (ev : Evolves s0 s) :
    Evolves s0 (entGTH g ws s).st := by
  unfold Sys2Proof.Machine.entGTH
  extract_lets x1 x2 x3 x4 x5 x6 x7
  have h8 : Evolves s0 x3 := ev.setWords
  clear_value x3
  have h9 : Evolves s0 x6 := h8.setGth.lineClear.showGth
  clear_value x6
  have h10 : Evolves s0 x7 := h9.setNat64
  clear_value x7
  split
  · split
    · exact ev.gthRefuse
    · split
      · exact ev.gthRefuse
      · exact h8.setGth.showGth.showPart.refreshClient.ok
  · split
    · exact ev.gthRefuse
    · split
      · exact ev.gthRefuse
      · exact h10.setB.showPart.refreshClient.ok

theorem Evolves.sendCell {s : State} {m : Nat} {c : Cell} (ev : Evolves s0 s) :
    Evolves s0 (s.sendCell m c) := by
  unfold State.sendCell
  exact ev.send

theorem Evolves.giveCredit {s : State} {c : Cell} (ev : Evolves s0 s) :
    Evolves s0 (s.giveCredit c) := by
  unfold State.giveCredit
  exact Evolves.ite ev.send ev

theorem Evolves.fillUnit {s : State} {g : Nat} {bytes : Nat} (ev : Evolves s0 s) :
    Evolves s0 (s.fillUnit g bytes).snd := by
  unfold State.fillUnit
  extract_lets x1 x2 x3 x4 x5 x6
  have h7 : Evolves s0 x6 := ev.upd
  clear_value x6
  exact h7.each (fun _ _ h8 => h8.sendCell.giveCredit)

theorem Evolves.unitRoom {s0 s t : State} {g n : Nat} (ev : Evolves s0 s) (h : s.unitRoom g = some (n, t)) : Evolves s0 t := by
  unfold State.unitRoom at h
  revert h
  repeat' split
  · intro h; cases h; exact ev
  · intro h; cases h; exact ev
  · rw [Option.map_eq_some_iff]
    rintro ⟨r, -, hr⟩
    cases hr; exact ev.setSub

theorem Evolves.unitBody {s0 s t : State} {g n : Nat} {b : List Nat} (ev : Evolves s0 s)
    (h : s.unitBody g n = some (b, t)) : Evolves s0 t := by
  unfold State.unitBody at h
  revert h
  split
  · intro h; cases h; exact ev.fillUnit
  · dsimp only
    split
    · simp
    · intro h; cases h; exact ev.setPort

theorem Evolves.execGthTxUnit {g : Fin 64} {s : State} (ev : Evolves s0 s) :
    Keeps s0 (execGthTxUnit g s) := by
  unfold Machine.execGthTxUnit
  refine Evolves.act ev fun s ev => ?_
  refine Evolves.ite ev ?_
  extract_lets ao prot
  clear_value ao prot
  split
  · exact ev
  · next room t h =>
    have h1 := ev.unitRoom h
    split
    · exact ev
    · next bytes u hu =>
      have h2 : Evolves s0 u := by
        revert hu
        repeat' split
        · intro e; cases e; exact h1
        · intro e; cases e; exact h1
        · exact fun e => h1.unitBody e
      exact h2.setGth.set.send

theorem Evolves.countPsw {s : State} {g : Nat} (ev : Evolves s0 s) :
    Evolves s0 (s.countPsw g) := by
  unfold State.countPsw
  extract_lets x1
  have h2 : Evolves s0 x1 := ev.bump.count
  clear_value x1
  exact h2.pm

theorem Evolves.recollate {s : State} {g : Nat} (ev : Evolves s0 s) :
    Evolves s0 (s.recollate g) := by
  unfold State.recollate
  extract_lets x1 x2 x3 x4 x5
  have h6 : Evolves s0 x3 := ev.setGth
  clear_value x3
  have h7 : Evolves s0 x4 := h6.bump.count
  clear_value x4
  have h8 : Evolves s0 x5 := h7.pm
  clear_value x5
  exact h8.raise.showPart

theorem Evolves.place {s : State} {g : Nat} {p : Nat} {l : Int} (ev : Evolves s0 s) :
    Evolves s0 (s.place g p l) := by
  unfold State.place
  extract_lets x1 x2 x3 x4 x5
  have h6 : Evolves s0 x5 := ev.setGth
  clear_value x5
  exact Evolves.ite ev.setGth h6.raise

theorem Evolves.setTimeline {s : State} {g : Nat} {u : Nat} (ev : Evolves s0 s) :
    Evolves s0 (s.setTimeline g u) := by
  unfold State.setTimeline
  extract_lets x1 x2 x3 x4 x5
  have h6 : Evolves s0 x5 := ev.setGth
  clear_value x5
  exact h6.each (fun _ _ h7 => by
    split
    · exact h7.place
    · exact h7)

theorem Evolves.timed {s : State} {g : Nat} {p : Nat} {u : PUnit} (ev : Evolves s0 s) :
    Evolves s0 (s.timed g p u) := by
  unfold State.timed
  extract_lets x1 x2
  split
  · exact ev
  · extract_lets x3 x4
    split
    · exact ev.place
    · exact Evolves.ite ev.place ev.setGth
    · exact Evolves.ite ev.place ev.setGth
    · exact ev.setGth
    · exact ev

theorem Evolves.delayNote {s : State} {g : Nat} {p : Nat} {u : PUnit} (ev : Evolves s0 s) :
    Evolves s0 (s.delayNote g p u) := by
  unfold State.delayNote
  extract_lets x1 x2 x3 x4
  have h5 : Evolves s0 x4 := Evolves.ite ev ev.setI
  clear_value x4
  split
  · exact ev
  · split
    · exact ev
    · extract_lets x6
      exact Evolves.ite ev.setGth h5.setGth

theorem Evolves.tagIn {s : State} {g : Nat} {p : Nat} {gsn : Nat} {tag : Option Nat} (ev : Evolves s0 s) :
    Evolves s0 (s.tagIn g p gsn tag) := by
  unfold State.tagIn
  extract_lets x1 x2 x3 x4 x5 x6
  have h7 : Evolves s0 x6 := ev.setGth
  clear_value x6
  split
  · extract_lets x8 x9 x10 x11
    have h12 : Evolves s0 x9 := h7.setPgrp
    clear_value x9
    exact h12.setGth
  · exact h7

theorem Evolves.partIn {s0 s t : State} {g p : Nat} {d : FolioIn} (ev : Evolves s0 s) (h : s.partIn g p = some (d, t)) :
    Evolves s0 t := by
  unfold State.partIn at h
  revert h
  dsimp only
  repeat' split
  all_goals first
    | (intro h; cases h; first | exact ev | exact ev.setFrm)
    | simp

theorem Evolves.execGatheringMarkerRx {g : Fin 64} {p : Fin 2} {s : State} (ev : Evolves s0 s) :
    Keeps s0 (execGatheringMarkerRx g p s) := by
  unfold Machine.execGatheringMarkerRx
  refine Evolves.act ev fun s ev => ?_
  refine Evolves.ite ev ?_
  split
  · exact ev
  · next d t h =>
    have h1 := ev.partIn h
    clear h
    extract_lets far t1 x y m mk st k depth y' lost t2 u t3 x2 o t4
    have h2 : Evolves s0 t1 := Evolves.ite h1 h1.tagIn
    clear_value t1
    refine Evolves.ite h2.setGth.showPart ?_
    have h3 : Evolves s0 t2 := h2.setGth.raiseIf
    clear_value t2
    refine Evolves.ite h3.showPart ?_
    have h4 : Evolves s0 t3 := h3.delayNote.timed
    clear_value t3
    have h5 : Evolves s0 t4 := Evolves.ite h4 (Evolves.ite h4.setTimeline (Evolves.ite h4.setTimeline h4))
    exact h5.showPart

theorem Evolves.pgCond {s : State} {q : Nat} {sfW : Bool} {sdW : Bool} {sfP : Bool} (ev : Evolves s0 s) :
    Evolves s0 (s.pgCond q sfW sdW sfP) := by
  unfold State.pgCond
  extract_lets x1 x2 x3 x4 x5 x6 x7 x8 x9 x10 x11 x12
  have h13 : Evolves s0 x6 := ev.setB.setB.setB
  clear_value x6
  exact h13.setPgrp.pgEval

theorem Evolves.pgUnit {s : State} {q : Nat} {isP : Bool} {failed : Bool} {sd : Bool} (ev : Evolves s0 s) :
    Evolves s0 (s.pgUnit q isP failed sd) := by
  unfold State.pgUnit
  extract_lets x1 x2 x3 x4 x5 x6 x7 x8
  have h9 : Evolves s0 x8 := ev.setPgrp
  clear_value x8
  exact Evolves.ite h9.pgCond h9.pgCond

theorem Evolves.execPgHoldOffExpiry {q : Fin 4} {isP : Bool} {s : State} (ev : Evolves s0 s) :
    Keeps s0 (execPgHoldOffExpiry q isP s) := by
  unfold Sys2Proof.Machine.execPgHoldOffExpiry
  exact ev.act (fun _ h1 => by
    extract_lets x2 x3
    exact Evolves.ite h1 (Evolves.ite (Evolves.ite h1 h1.pgCond) (Evolves.ite h1 h1.pgCond)))

theorem Evolves.execPgWtrExpiry {q : Fin 4} {s : State} (ev : Evolves s0 s) :
    Keeps s0 (execPgWtrExpiry q s) := by
  unfold Sys2Proof.Machine.execPgWtrExpiry
  exact ev.act (fun _ h1 => by exact Evolves.ite h1 h1.setPgrp.pgEval)

theorem Evolves.execPgFop {q : Fin 4} {s : State} (ev : Evolves s0 s) :
    Keeps s0 (execPgFop q s) := by
  unfold Sys2Proof.Machine.execPgFop
  exact ev.act (fun _ h1 => h1.raiseIf)

theorem Evolves.pgCmd {s : State} {q : Nat} {c : Nat} (ev : Evolves s0 s) :
    Evolves s0 (s.pgCmd q c) := by
  unfold State.pgCmd
  extract_lets x1 x2
  exact ev.setPgrp.pgEval

theorem Evolves.psAccepted {s : State} {n : Nat} (ev : Evolves s0 s) :
    Evolves s0 (s.psAccepted n) := by
  unfold State.psAccepted
  exact ev.each (fun _ _ h1 => by
    extract_lets x2 x3 x4 x5
    have h6 : Evolves s0 x5 := h1.raiseIf
    clear_value x5
    exact Evolves.ite h6.pgEval h6)

theorem Evolves.pgCfgWrite {s : State} {q : Nat} {v : Nat} (ev : Evolves s0 s) :
    Evolves s0 (s.pgCfgWrite q v).st := by
  unfold State.pgCfgWrite
  extract_lets x1 x2 x3 x4
  split
  · split
    · exact ev.no
    · exact ev.setNat.setPgrp.set.pgCond.setPgrp.pgEval.ok
  · split
    · exact ev.gthRefuse
    · exact ev.setNat.pgEval.ok

theorem Evolves.unitFate {s : State} {g : Nat} {failed : Bool} (ev : Evolves s0 s) :
    Evolves s0 (s.unitFate g failed) := by
  unfold State.unitFate
  extract_lets x1 x2 x3 x4 x5 x6 x7 x8 x9 x10 x11
  have h12 : Evolves s0 x4 := ev.setNat64
  clear_value x4
  have h13 : Evolves s0 x5 := h12.setB
  clear_value x5
  have h14 : Evolves s0 x7 := h13.bump.bumpBy
  clear_value x7
  have h15 : Evolves s0 x8 := h14.setGth
  clear_value x8
  have h16 : Evolves s0 x9 := h15.pm
  clear_value x9
  have h17 : Evolves s0 x11 := h13.setGth
  clear_value x11
  exact Evolves.ite h16.raiseIf h17.raiseIf

theorem Evolves.collStep {s : State} {g : Nat} (ev : Evolves s0 s) :
    Evolves s0 (s.collStep g) := by
  unfold State.collStep
  extract_lets x1 x2 x3
  clear_value x3
  split
  · exact ev
  · exact Evolves.ite ev.setGth ev.recollate

theorem Evolves.advance {s : State} {g : Nat} (ev : Evolves s0 s) :
    Evolves s0 (s.advance g) := by
  unfold State.advance
  extract_lets x1 x2 x3 x4
  split
  · exact ev
  · clear_value x2
    split
    · exact ev.setGth
    · extract_lets x5 x6 x7 x8 x9
      exact ev.setGth

theorem Evolves.outputOne {s : State} {g : Nat} {u : Nat} (ev : Evolves s0 s) :
    Evolves s0 (s.outputOne g u).fst := by
  unfold State.outputOne
  extract_lets x1 x2 x3 x4 x5 x6 x7 x8 x9 x10 x11
  have h12 : Evolves s0 x6 := ev.setB.setB.setB
  clear_value x6
  have h13 : Evolves s0 x7 := h12.setB
  clear_value x7
  have h14 : Evolves s0 x8 := h13.setGth
  clear_value x8
  have h15 : Evolves s0 x9 := Evolves.ite h14 h14.countPsw.raise
  clear_value x9
  exact h15

theorem Evolves.hand {s : State} {g : Nat} {u : Nat} {failed : Bool} {other : Bool} {src : Nat} {units : List (Option PUnit)} (ev : Evolves s0 s) :
    Evolves s0 (s.hand g u failed other src units) := by
  unfold State.hand
  extract_lets x1 x2 x3
  have h4 : Evolves s0 x1 := ev.unitFate
  clear_value x1
  exact h4.setGth.set

theorem Evolves.execUnitOutput {g : Fin 64} {s : State} (ev : Evolves s0 s) :
    Keeps s0 (execUnitOutput g s) := by
  unfold Sys2Proof.Machine.execUnitOutput
  exact ev.act (fun _ h1 => by
    split
    · exact h1
    · extract_lets x2 x3 x4 x5 x6
      have h7 : Evolves s0 x3 := h1.collStep
      clear_value x3
      split
      · split
        · exact h7.hand.showPart
        · extract_lets x8 x9
          have h10 : Evolves s0 x9 := by
            unfold x9
            split
            · split
              · rename_i y11 y12 y13 y14 y15
                have h16 : Evolves s0 y12 := (congrArg (fun z => Evolves s0 z.1) y15).mp h7.outputOne
                exact h16.hand
            · exact h7.hand
          clear_value x9
          exact h10.advance.showPart
      · split
        · exact h1
        · extract_lets x17 x18
          have h19 : Evolves s0 x17 := h1.setGth
          clear_value x17
          split
          · exact h19.hand
          · exact h19.setPgrp.pgUnit
          · extract_lets x20 x21 x22 x23 x24
            have h25 : Evolves s0 x20 := h19.pgUnit
            clear_value x20
            have h26 : Evolves s0 x23 := h25.setB
            clear_value x23
            have h27 : Evolves s0 x24 := Evolves.ite h26 h26.countPsw.raise
            clear_value x24
            exact Evolves.ite h27.hand h27.hand)

theorem Evolves.gthCmd {s : State} {g : Nat} {c : Nat} (ev : Evolves s0 s) :
    Evolves s0 (s.gthCmd g c).st := by
  unfold State.gthCmd
  split
  · exact ev.ok
  · split
    · exact Evolves.ok (Evolves.ite ev.recollate ev)
    · split
      · exact ev.no
      · exact ev.setGth.showPart.ok

theorem Evolves.wrGTH {off : Nat} {v : Nat} {s : State} (ev : Evolves s0 s) :
    Evolves s0 (wrGTH off v s).st := by
  unfold Sys2Proof.Machine.wrGTH
  split
  · exact ev.gthCmd
  · split
    · extract_lets x1
      split
      · exact ev.no
      · exact ev.pgCmd.ok
    · split
      · exact ev.pgCfgWrite
      · exact ev.setNat.ok

end Sys2Proof.Machine
end

