-- ==== Sys2Proof/Laws/Mem.lean ====
section
/-!
SUPPORT. Each operation of Machine/Mem.lean: what it makes of a state has evolved from it (Safety).
-/

-- One declaration at a time: all at once need more threads than the check's memory limit allows.
set_option Elab.async false
namespace Sys2Proof.Machine

variable {s0 : State}

theorem Evolves.readWord {s : State} {p : Nat} {w : Nat} (ev : Evolves s0 s) :
    Evolves s0 (s.readWord p w).snd := by
  unfold State.readWord
  split
  · extract_lets x1 x2 x3
    have h4 : Evolves s0 x3 := ev.count
    clear_value x3
    split
    · exact ev.count.raise
    · split
      · exact ev
      · exact ev.count
      · split
        · exact h4.count.raise
        · exact h4.count.raise

theorem Evolves.storeWord {s : State} {P w : Nat} {data : List Nat} (ev : Evolves s0 s) : Evolves s0 (s.storeWord P w data) :=
  Evolves.upd (ev.setMem fun h => Memory.wf_putBytes h (2048 * P + 34 * w) data)

theorem Evolves.storePage {s : State} {P : Nat} {words : List (Option (List Nat))} (ev : Evolves s0 s) :
    Evolves s0 (s.storePage P words) := by
  unfold State.storePage
  extract_lets e x1
  have h1 : Evolves s0 x1 := Evolves.upd (ev.setMem fun h => Memory.wf_filter h _)
  clear_value x1
  refine h1.each fun x t h => ?_
  split
  · exact h.storeWord
  · exact h.upd.count

theorem Evolves.rawModify {s : State} {P : Nat} {words : List (Nat × List Nat)} (ev : Evolves s0 s) :
    Evolves s0 (s.rawModify P words) := by
  unfold State.rawModify
  refine ev.each fun x t h => ?_
  exact h.setMem fun m => Memory.wf_putBytes (Memory.wf_putBytes m _ _) _ _

theorem Evolves.doWrite {s : State} {P : Nat} {words : List (Nat × List Nat)} {ue : List Nat} {lost : List Nat} (ev : Evolves s0 s) :
    Evolves s0 (s.doWrite P words ue lost) := by
  unfold State.doWrite
  extract_lets x1 x2 x3 x4
  exact Evolves.ite ev.storePage (Evolves.ite ev.storePage (Evolves.ite ev.rawModify (ev.each (fun _ _ h5 => h5.storeWord))))

theorem Evolves.uncache {s : State} {w : Nat} (ev : Evolves s0 s) :
    Evolves s0 (s.uncache w) := by
  unfold State.uncache
  split
  · extract_lets x1 x2
    exact ev.upd
  · exact ev

theorem Evolves.commitWrite {s : State} {p : Nat} {words : List (Nat × List Nat)} {ue : List Nat} {lost : List Nat} (ev : Evolves s0 s) :
    Evolves s0 (s.commitWrite p words ue lost) := by
  unfold State.commitWrite
  extract_lets x1 x2
  have h3 : Evolves s0 x2 := ev.doWrite
  clear_value x2
  exact Evolves.ite (h3.each (fun _ _ h4 => h4.uncache)) h3

theorem Evolves.tableWrite {s : State} {p : Nat} {words : List (Nat × List Nat)} {who : Option (Nat × Nat × Nat)} (ev : Evolves s0 s) :
    Evolves s0 (s.tableWrite p words who).snd := by
  unfold State.tableWrite
  split
  · extract_lets x1 x2
    have h3 : ∀ (t : State), Evolves s0 t → Evolves s0 (x1 t) := fun _ h4 => h4.count
    exact Evolves.iteF Prod.snd ev.count (Evolves.iteF Prod.snd ev.upd.count ev.commitWrite)

theorem Evolves.tableRun {s : State} {w : Nat} {data : List (List Nat)} {who : Option (Nat × Nat × Nat)}
    (ev : Evolves s0 s) : Evolves s0 (s.tableRun w data who).snd := by
  unfold State.tableRun
  generalize s.byPage w data = l
  suffices h : ∀ x : Bool × State, Evolves s0 x.snd → Evolves s0 (l.foldl (fun (x : Bool × State) j =>
      let r := x.2.tableWrite j.1 j.2 who; (x.1 || r.1, r.2)) x).snd from h (false, s) ev
  induction l with
  | nil => exact fun x hx => hx
  | cons j l ih => exact fun x hx => ih _ hx.tableWrite

theorem Evolves.losePages {s : State} (ev : Evolves s0 s) :
    Evolves s0 s.losePages := by
  unfold State.losePages
  extract_lets x1 x2
  exact ev.upd

theorem Evolves.eccEnter {s : State} (ev : Evolves s0 s) :
    Evolves s0 s.eccEnter := by
  unfold State.eccEnter
  extract_lets x1 x2 x3 x4 x5 x6 x7 x8 x9 x10 x11 x12 x13 x14 x15
  have h16 : Evolves s0 x7 := Evolves.ite ev.losePages ev
  clear_value x7
  have h17 : Evolves s0 x9 := h16.upd
  clear_value x9
  have h18 : Evolves s0 x11 := h17.each (fun _ _ h19 => h19.repair)
  clear_value x11
  have h20 : Evolves s0 x12 := h18.each (fun _ _ h21 => h21.setB)
  clear_value x12
  have h22 : Evolves s0 x13 := h20.set
  clear_value x13
  have h23 : Evolves s0 x14 := h22.set
  clear_value x14
  have h24 : Evolves s0 x15 := h23.set
  clear_value x15
  exact h24.raiseIf

theorem Evolves.makeRaw {s : State} {P : Nat} (ev : Evolves s0 s) : Evolves s0 (s.makeRaw P) := by
  unfold State.makeRaw
  split
  · exact ev
  · extract_lets touched word body bytes
    exact Evolves.upd (ev.setMem fun h => Memory.wf_putBytes h (2048 * P) bytes)

theorem Evolves.rawWordWrite {s : State} {i v : Nat} (ev : Evolves s0 s) : Evolves s0 (s.rawWordWrite i v).st := by
  unfold State.rawWordWrite
  split
  · exact ev.no
  · split
    split
    · exact ev.ok
    · exact (ev.makeRaw.setMem fun h => Memory.wf_putBytes h _ _).ok

end Sys2Proof.Machine
end

