-- ==== Sys2Proof/Laws/Pmb.lean ====
section
/-!
SUPPORT. Each operation of Machine/Pmb.lean: what it makes of a state has evolved from it (Safety).
-/

-- One declaration at a time: all at once need more threads than the check's memory limit allows.
set_option Elab.async false
namespace Sys2Proof.Machine

variable {s0 : State}

theorem Evolves.ep {s : State} {e : Nat} {i : Nat} {n : Nat} (ev : Evolves s0 s) :
    Evolves s0 (s.ep e i n) := by
  unfold State.ep
  split
  · exact ev
  · extract_lets x1 x2 x3
    exact ev.upd

theorem Evolves.tca {s : State} {k : Nat} {e : Nat} {i : Nat} {day : Bool} {number : Nat} {v : Nat} (ev : Evolves s0 s) :
    Evolves s0 (s.tca k e i day number v) := by
  unfold State.tca
  extract_lets x1 x2 x3 x4 x5 x6 x7
  have h8 : Evolves s0 x5 := ev.upd
  clear_value x5
  have h9 : Evolves s0 x7 := h8.setWords
  clear_value x7
  exact Evolves.ite ev h9.setNat.raise

theorem Evolves.pmBinAdd {s : State} {k : Nat} {e : Nat} {i : Nat} {day : Bool} {number : Nat} {v : Nat} (ev : Evolves s0 s) :
    Evolves s0 (s.pmBinAdd k e i day number v) := by
  unfold State.pmBinAdd
  extract_lets x1 x2 x3 x4 x5 x6
  have h7 : Evolves s0 x3 := Evolves.ite ev (ev.each (fun _ _ h8 => h8.setNat))
  clear_value x3
  have h9 : Evolves s0 x4 := h7.setWords
  clear_value x4
  have h10 : Evolves s0 x6 := h9.sat64
  clear_value x6
  exact h10.tca

theorem Evolves.pmCount {s : State} {k : Nat} {e : Nat} {i : Nat} {sec : Nat} {v : Nat} (ev : Evolves s0 s) :
    Evolves s0 (s.pmCount k e i sec v) := by
  unfold State.pmCount
  exact Evolves.ite ev ev.pmBinAdd.pmBinAdd

theorem Evolves.execPmbSecondEnd {s : State} (ev : Evolves s0 s) :
    Keeps s0 (execPmbSecondEnd s) := by
  unfold Sys2Proof.Machine.execPmbSecondEnd
  exact ev.act (fun _ h1 => by
    split
    · exact h1.upd
    · extract_lets x2 x3 x4 x5 x6 x7 x8 x9
      have h10 : Evolves s0 x5 := h1.each (fun _ _ h11 => by
        extract_lets x12 x13 x14
        exact Evolves.ite h11.setPmEnt h11.setPmEnt)
      clear_value x5
      have h15 : Evolves s0 x8 := h10.raiseIf
      clear_value x8
      have h16 : Evolves s0 x9 := h15.raiseIf
      clear_value x9
      exact h16.setNat.setNat)

theorem Evolves.pmEnter {s : State} {k : Nat} {e : Nat} {x : PmSecond} {unavail : Bool} (ev : Evolves s0 s) :
    Evolves s0 (s.pmEnter k e x unavail) := by
  unfold State.pmEnter
  extract_lets x1 x2 x3 x4 x5 x6 x7 x8 x9 x10
  have h11 : Evolves s0 x2 := ev.pmCount
  clear_value x2
  have h12 : Evolves s0 x3 := h11.pmCount
  clear_value x3
  have h13 : Evolves s0 x4 := h12.pmCount
  clear_value x4
  have h14 : Evolves s0 x5 := h13.pmCount
  clear_value x5
  have h15 : Evolves s0 x6 := h14.pmCount
  clear_value x6
  have h16 : Evolves s0 x7 := h15.pmCount
  clear_value x7
  have h17 : Evolves s0 x8 := h13.pmCount
  clear_value x8
  have h18 : Evolves s0 x9 := h17.pmCount
  clear_value x9
  have h19 : Evolves s0 x10 := h18.pmCount
  clear_value x10
  exact Evolves.ite h16.pmCount h19.pmCount

theorem Evolves.execPmbSecondFinal {s : State} (ev : Evolves s0 s) :
    Keeps s0 (execPmbSecondFinal s) := by
  unfold Sys2Proof.Machine.execPmbSecondFinal
  exact ev.act (fun _ h1 => h1.each (fun _ _ h2 => by
    extract_lets x3 x4
    split
    · split
      · exact h2
      · extract_lets x5 x6
        exact h2.setPmEnt.pmEnter
    · exact h2))

theorem Evolves.pmStep {s : State} {old : Nat} (ev : Evolves s0 s) :
    Evolves s0 (s.pmStep old) := by
  unfold State.pmStep
  extract_lets x1 x2 x3 x4 x5 x6 x7
  have h8 : Evolves s0 x4 := ev.upd
  clear_value x4
  have h9 : ∀ (k e : Nat) (day : Bool) (number : Nat) (u : State), Evolves s0 u → Evolves s0 (x5 k e day number u) := fun _ _ _ _ _ h10 => by
    unfold x5
    extract_lets x11
    exact Evolves.ite h10.setWords h10
  have h12 : Evolves s0 x6 := h8.each (fun _ _ h13 => by
    extract_lets x14 x15
    exact h9 _ _ _ _ _ (h9 _ _ _ _ _ h13))
  clear_value x6
  have h16 : Evolves s0 x7 := h12.setNat.setNat
  clear_value x7
  exact h16.raise

theorem Evolves.tableRead {s : State} {w : Nat} (ev : Evolves s0 s) :
    Evolves s0 (s.tableRead w).snd := by
  unfold State.tableRead
  exact Evolves.iteF Prod.snd ev ev.readWord

theorem Evolves.epBin {s : State} {e : Nat} {c : List Nat} {day : Bool} {lost : Bool} (ev : Evolves s0 s) :
    Evolves s0 (s.epBin e c day lost) := by
  unfold State.epBin
  extract_lets x1 x2
  split
  · rename_i y3 y4 y5 y6
    have h7 : Evolves s0 y5 := (congrArg (fun z => Evolves s0 z.2) y6).mp ev.tableRead
    split
    · rename_i y8 y9 y10 y11
      have h12 : Evolves s0 y10 := (congrArg (fun z => Evolves s0 z.2) y11).mp h7.tableRead
      split
      · extract_lets x13 x14 x15 x16 x17 x18 x19 x20
        have h21 : Evolves s0 x13 := h12.raiseIf
        clear_value x13
        have h22 : Evolves s0 x20 := h21.tableRun
        clear_value x20
        exact h22.each (fun _ _ h23 => by exact Evolves.ite h23 h23.tca)

theorem Evolves.execEpRecordFlush {e : Fin 262144} {lost : Bool} {s : State} (ev : Evolves s0 s) :
    Keeps s0 (execEpRecordFlush e lost s) := by
  unfold Sys2Proof.Machine.execEpRecordFlush
  exact ev.act (fun _ h1 => by
    extract_lets x2 x3 x4 x5 x6
    have h7 : Evolves s0 x6 := h1.upd
    clear_value x6
    exact Evolves.ite h1 (Evolves.ite (h1.each (fun _ _ h8 => h8.count)) h7.epBin.epBin))

theorem Evolves.wrPMB {off : Nat} {v : Nat} {s : State} (ev : Evolves s0 s) :
    Evolves s0 (wrPMB off v s).st := by
  unfold Sys2Proof.Machine.wrPMB
  split
  · exact ev.no
  · extract_lets x1 x2 x3 x4
    have h5 : Evolves s0 x2 := ev.setNat
    clear_value x2
    have h6 : Evolves s0 x4 := h5.upd
    clear_value x4
    split
    · exact h6.pmStep.ok
    · exact h5.ok

end Sys2Proof.Machine
end

