-- ==== Sys2Proof/Laws/Qmg.lean ====
section
/-!
SUPPORT. Each operation of Machine/Qmg.lean: what it makes of a state has evolved from it (Safety).
-/

-- One declaration at a time: all at once need more threads than the check's memory limit allows.
set_option Elab.async false
namespace Sys2Proof.Machine

variable {s0 : State}

theorem Evolves.setMeter {s : State} {m : Nat} {x : Meter} (ev : Evolves s0 s) :
    Evolves s0 (s.setMeter m x) := by
  unfold State.setMeter
  exact ev.upd

theorem Evolves.meterOne {s : State} {m : Nat} {input : Nat} {len : Nat} (ev : Evolves s0 s) :
    Evolves s0 (s.meterOne m input len).snd := by
  unfold State.meterOne
  extract_lets x1 x2
  exact Evolves.iteF Prod.snd ev ev.setMeter

theorem Evolves.meterFrame {s : State} {f : Frame} (ev : Evolves s0 s) : Evolves s0 (s.meterFrame f).snd := by
  unfold State.meterFrame
  extract_lets input
  clear_value input
  split
  rename_i k1 s1 e1
  have h2 : Evolves s0 s1 := (congrArg (fun z => Evolves s0 z.2) e1).mp ev.meterOne
  split
  rename_i k2 s2 e2
  have h3 : Evolves s0 s2 := by
    split at e2
    · exact (congrArg (fun z => Evolves s0 z.2) e2).mp h2.meterOne
    · exact (congrArg (fun z => Evolves s0 z.2) e2).mp h2
  exact h3.count64.ep

theorem Evolves.entMTR {m : Nat} {ws : List Nat} {s : State} (ev : Evolves s0 s) :
    Evolves s0 (entMTR m ws s).st := by
  unfold Sys2Proof.Machine.entMTR
  extract_lets x1 x2 x3 x4 x5 x6 x7 x8 x9 x10
  have h11 : Evolves s0 x7 := ev.setWords
  clear_value x7
  have h12 : Evolves s0 x8 := Evolves.ite h11.setNat h11
  clear_value x8
  split
  · exact ev.no
  · split
    · exact h12.setMeter.ok
    · exact h12.setMeter.raiseIf.ok

theorem Evolves.setQueue {s : State} {q : Nat} {x : Queue} (ev : Evolves s0 s) :
    Evolves s0 (s.setQueue q x) := by
  unfold State.setQueue
  exact ev.upd

theorem Evolves.onDieAdd {s : State} {n : Nat} (ev : Evolves s0 s) :
    Evolves s0 (s.onDieAdd n) := by
  unfold State.onDieAdd
  exact ev.upd.showOnDie

theorem Evolves.onDieSub {s : State} {n : Nat} (ev : Evolves s0 s) :
    Evolves s0 (s.onDieSub n) := by
  unfold State.onDieSub
  exact ev.upd.showOnDie

theorem Evolves.bufTake {s : State} {n : Nat} (ev : Evolves s0 s) :
    Evolves s0 (s.bufTake n) := by
  unfold State.bufTake
  exact ev.set

theorem Evolves.bufGive {s : State} {n : Nat} (ev : Evolves s0 s) :
    Evolves s0 (s.bufGive n) := by
  unfold State.bufGive
  exact ev.set

theorem Evolves.dropFrame {s : State} {f : Frame} (ev : Evolves s0 s) :
    Evolves s0 (s.dropFrame f) := by
  unfold State.dropFrame
  exact ev.ep

theorem Evolves.admitFrame {s : State} {f : Frame} {bw : Bool} (ev : Evolves s0 s) :
    Evolves s0 (s.admitFrame f bw) := by
  unfold State.admitFrame
  split
  · exact Evolves.dropFrame (Evolves.ite ev.count ev)
  · extract_lets x1 x2 x3 x4 x5 x6 x7 x8 x9 x10 x11 x12 x13 x14
    have h15 : Evolves s0 x10 := ev.raiseIf
    clear_value x10
    have h16 : Evolves s0 x11 := ev.raiseIf
    clear_value x11
    have h17 : Evolves s0 x13 := ev.setQueue
    clear_value x13
    have h18 : Evolves s0 x14 := h17.set
    clear_value x14
    exact Evolves.ite ev.count.dropFrame (Evolves.ite ev.count.bump.dropFrame (Evolves.ite h15.count.dropFrame (Evolves.ite h16.count.dropFrame (Evolves.ite h18.onDieAdd h18.set.bufTake))))

theorem Evolves.takeFrame {s : State} {q : Nat} (ev : Evolves s0 s) :
    Evolves s0 (s.takeFrame q).snd := by
  unfold State.takeFrame
  extract_lets x1 x2
  split
  · exact ev
  · extract_lets x3 x4 x5 x6 x7 x8 x9 x10 x11
    have h12 : Evolves s0 x6 := ev.setQueue
    clear_value x6
    have h13 : Evolves s0 x7 := h12.set
    clear_value x7
    have h14 : Evolves s0 x8 := h13.set
    clear_value x8
    have h15 : Evolves s0 x10 := h14.upd
    clear_value x10
    have h16 : Evolves s0 x11 := Evolves.ite h15.bufGive h13.onDieSub
    clear_value x11
    exact h16

theorem Evolves.entQ {q : Nat} {ws : List Nat} {s : State} (ev : Evolves s0 s) :
    Evolves s0 (entQ q ws s).st := by
  unfold Sys2Proof.Machine.entQ
  exact ev.setNat.ok

theorem Evolves.setShaper {s : State} {x : Nat} {y : Shaper} (ev : Evolves s0 s) :
    Evolves s0 (s.setShaper x y) := by
  unfold State.setShaper
  exact ev.upd

theorem Evolves.onWheel {s : State} {x : Nat} {y : Shaper} {te : Nat} (ev : Evolves s0 s) :
    Evolves s0 (s.onWheel x y te) := by
  unfold State.onWheel
  extract_lets x1 x2
  have h3 : Evolves s0 x2 := ev.setShaper
  clear_value x2
  exact Evolves.ite ev.setShaper (Evolves.ite ev.setShaper h3.count.raise)

theorem Evolves.charge {s : State} {x : Nat} {len : Nat} (ev : Evolves s0 s) :
    Evolves s0 (s.charge x len) := by
  unfold State.charge
  split
  · exact ev
  · extract_lets x1 x2 x3 x4 x5 x6 x7
    have h8 : Evolves s0 x5 := Evolves.ite ev.count64.raise ev
    clear_value x5
    exact Evolves.ite h8.onWheel h8.setShaper

theorem Evolves.entSHP {x : Nat} {ws : List Nat} {s : State} (ev : Evolves s0 s) :
    Evolves s0 (entSHP x ws s).st := by
  unfold Sys2Proof.Machine.entSHP
  extract_lets x1 x2 x3 x4 x5 x6 x7 x8 x9 x10 x11 x12
  have h13 : Evolves s0 x10 := ev.setWords
  clear_value x10
  split
  · exact ev.no
  · split
    · exact h13.setShaper.ok
    · split
      · exact h13.setShaper.ok
      · split
        · exact h13.setShaper.ok
        · split
          · split
            · exact h13.onWheel.ok
            · exact h13.setShaper.ok
          · exact h13.setShaper.ok

theorem Evolves.wheelSlot {s : State} {x : Nat} (ev : Evolves s0 s) :
    Evolves s0 (s.wheelSlot x) := by
  unfold State.wheelSlot
  extract_lets x1 x2
  split
  · exact ev
  · split
    · exact ev
    · split
      · exact ev.setShaper
      · extract_lets x3
        exact Evolves.ite ev.setShaper ev.onWheel

theorem Evolves.pickQueue {s : State} {out : Nat} {bound : Frame → Bool} (ev : Evolves s0 s) :
    Evolves s0 (s.pickQueue out bound).snd := by
  unfold State.pickQueue
  extract_lets x1 x2 x3 x4 x5 x6 x7 x8 x9
  have h10 : Evolves s0 x8 := ev.upd
  clear_value x8
  split
  · exact h10
  · split
    · exact h10.upd
    · exact h10

end Sys2Proof.Machine
end

