-- ==== Sys2Proof/Laws/Cls.lean ====
section
/-!
SUPPORT. Each operation of Machine/Cls.lean: what it makes of a state has evolved from it (Safety).
-/

-- One declaration at a time: all at once need more threads than the check's memory limit allows.
set_option Elab.async false
namespace Sys2Proof.Machine

variable {s0 : State}

theorem Evolves.execClientLaneStatus {l : Fin 32} {sigDet : Bool} {cdrLock : Bool} {pcs : Bool} {hiSer : Bool} {snr : Fin 256} {errs : Nat} {corrCw : Nat} {uncorrCw : Nat} {corrSym : Nat} {s : State} (ev : Evolves s0 s) :
    Keeps s0 (execClientLaneStatus l sigDet cdrLock pcs hiSer snr errs corrCw uncorrCw corrSym s) := by
  unfold Sys2Proof.Machine.execClientLaneStatus
  exact ev.act (fun _ h1 => by
    extract_lets x2 x3 x4 x5 x6 x7 x8 x9 x10
    have h11 : Evolves s0 x5 := h1.raiseIf
    clear_value x5
    have h12 : Evolves s0 x6 := h11.raiseIf
    clear_value x6
    have h13 : Evolves s0 x7 := h12.setB.setB
    clear_value x7
    have h14 : Evolves s0 x8 := h13.set
    clear_value x8
    have h15 : Evolves s0 x9 := Evolves.ite h14 h14.setB
    clear_value x9
    have h16 : Evolves s0 x10 := Evolves.ite h15 h15.count
    clear_value x10
    split
    · exact h1
    · split
      · exact h16
      · extract_lets x17 x18 x19 x20 x21
        have h22 : Evolves s0 x18 := h16.raiseIf
        clear_value x18
        have h23 : Evolves s0 x19 := h22.setB
        clear_value x19
        have h24 : Evolves s0 x20 := h23.setB
        clear_value x20
        have h25 : Evolves s0 x21 := h24.macCount.macCount.macCount
        clear_value x21
        exact h25.refreshPort)

theorem Evolves.execLaneAdaptDone {l : Fin 32} {s : State} (ev : Evolves s0 s) :
    Keeps s0 (execLaneAdaptDone l s) := by
  unfold Sys2Proof.Machine.execLaneAdaptDone
  exact ev.act (fun _ h1 => by
    extract_lets x2 x3
    exact Evolves.ite h1.setB h1)

theorem Evolves.execQuadPllUnlock {q : Fin 8} {s : State} (ev : Evolves s0 s) :
    Keeps s0 (execQuadPllUnlock q s) := by
  unfold Sys2Proof.Machine.execQuadPllUnlock
  exact ev.act (fun _ h1 => by exact Evolves.ite h1 h1.setB.raise)

theorem Evolves.execPcsFaultRx {p : Fin 32} {lf : Bool} {rf : Bool} {s : State} (ev : Evolves s0 s) :
    Keeps s0 (execPcsFaultRx p lf rf s) := by
  unfold Sys2Proof.Machine.execPcsFaultRx
  exact ev.act (fun _ h1 => by exact Evolves.ite h1 h1.setB.setB)

theorem Evolves.execTransparentMapUnit {p : Fin 32} {arrived : Nat} {s : State} (ev : Evolves s0 s) :
    Keeps s0 (execTransparentMapUnit p arrived s) := by
  unfold Sys2Proof.Machine.execTransparentMapUnit
  exact ev.act (fun _ h1 => by
    split
    · exact h1
    · split
      · exact h1.setPort
      · extract_lets x2 x3 x4 x5
        have h6 : Evolves s0 x5 := h1.setPort
        clear_value x5
        exact h6.macCount.send)

theorem Evolves.execDemapUnit {p : Fin 32} {sent : Nat} {s : State} (ev : Evolves s0 s) :
    Keeps s0 (execDemapUnit p sent s) := by
  unfold Sys2Proof.Machine.execDemapUnit
  exact ev.act (fun _ h1 => by
    split
    · exact h1
    · split
      · exact h1
      · extract_lets x2 x3 x4 x5 x6 x7 x8 x9 x10 x11
        have h12 : Evolves s0 x3 := h1.setGth
        clear_value x3
        have h13 : Evolves s0 x10 := h12.setPort
        clear_value x10
        have h14 : Evolves s0 x11 := Evolves.ite h13.macCount.raiseIf h13
        clear_value x11
        exact h14.refreshPort)

theorem Evolves.noEp {s : State} (ev : Evolves s0 s) :
    Evolves s0 s.noEp := by
  unfold State.noEp
  exact ev.count.raise

theorem Evolves.toQueue {s : State} {f : Frame} {bw : Bool} (ev : Evolves s0 s) :
    Evolves s0 (s.toQueue f bw) := by
  unfold State.toQueue
  split
  · exact ev.dropFrame
  · extract_lets x1
    have h2 : Evolves s0 x1.snd := ev.meterFrame
    clear_value x1
    exact h2.admitFrame

theorem Evolves.unkAct {s : State} {f : Frame} {bw : Bool} (ev : Evolves s0 s) :
    Evolves s0 (s.unkAct f bw) := by
  unfold State.unkAct
  extract_lets x1
  exact Evolves.ite ev.count.toQueue ev.count.dropFrame

theorem Evolves.resolved {s : State} {f : Frame} {bw : Bool} {z0 : Option (Nat × Nat × Bool)} (ev : Evolves s0 s) :
    Evolves s0 (s.resolved f bw z0) := by
  unfold State.resolved
  split
  · exact ev.unkAct
  · exact ev.count.dropFrame
  · exact ev.toQueue

theorem Evolves.showMiss {s : State} (ev : Evolves s0 s) :
    Evolves s0 s.showMiss := by
  unfold State.showMiss
  exact ev.setNat

theorem Evolves.install {s : State} {e : CacheEnt} (ev : Evolves s0 s) :
    Evolves s0 (s.install e) := by
  unfold State.install
  extract_lets x1 x2 x3 x4
  exact ev.upd

theorem Evolves.lookup {s : State} {f : Frame} {key : Nat} {bw : Bool} (ev : Evolves s0 s) :
    Evolves s0 (s.lookup f key bw) := by
  unfold State.lookup
  extract_lets x1 x2 x3 x4 x5 x6
  have h7 : Evolves s0 x4 := ev.count64
  clear_value x4
  have h8 : Evolves s0 x5 := h7.raiseIf
  clear_value x5
  split
  · extract_lets x9
    have h10 : Evolves s0 x9 := ev.upd
    clear_value x9
    exact h10.count64.resolved
  · exact Evolves.ite h8.count.unkAct h7.upd.showMiss

theorem Evolves.classify {s : State} {p : Nat} {f : RxFrame} {bw : Bool} (ev : Evolves s0 s) :
    Evolves s0 (s.classify p f bw) := by
  unfold State.classify
  split
  · exact ev.count
  · split
    · exact ev.count
    · split
      · exact ev
      · split
        · exact ev.noEp
        · extract_lets x1 x2 x3
          exact Evolves.ite ev.noEp ev.ep.lookup

theorem Evolves.linkLocalFrame {s : State} {p : Nat} {f : RxFrame} (ev : Evolves s0 s) :
    Evolves s0 (s.linkLocalFrame p f) := by
  unfold State.linkLocalFrame
  extract_lets x1 x2 x3
  have h4 : Evolves s0 x3 := ev.setPort.macCount
  clear_value x3
  exact Evolves.ite ev.setPort.macCount h4.send

theorem Evolves.execPortFrameRx {p : Fin 32} {f : RxFrame} {bw : Bool} {s : State} (ev : Evolves s0 s) :
    Keeps s0 (execPortFrameRx p f bw s) := by
  unfold Sys2Proof.Machine.execPortFrameRx
  exact ev.act (fun _ h1 => by
    split
    · exact h1
    · split
      · exact h1.macCount
      · split
        · exact h1.macCount
        · split
          · exact h1.macCount
          · split
            · exact h1.macCount
            · extract_lets x2
              have h3 : Evolves s0 x2 := h1.macCount.macCount
              clear_value x2
              exact Evolves.ite h3.linkLocalFrame h3.classify)

theorem Evolves.tableLookup {s : State} {key : Nat} {ue l : List Nat} (ev : Evolves s0 s) :
    Evolves s0 (s.tableLookup key ue l).snd := by
  induction l generalizing s with
  | nil => exact ev
  | cons a l ih =>
    unfold State.tableLookup
    extract_lets w
    clear_value w
    by_cases hs : (!s.sigMatch w key) = true
    · rw [if_pos hs]; exact ih ev
    · rw [if_neg hs]
      have h : Evolves s0 (s.tableRead w).snd := ev.tableRead
      generalize s.tableRead w = r at h ⊢
      obtain ⟨d, t⟩ := r
      show Evolves s0 (Prod.snd (match (if ue.contains a then none else d) with
        | none => (none, t)
        | some x => match (dtEntries x).find? (fun e => e.valid && e.key = key) with
          | some e => (some (some (e.part, e.ep, e.discard)), t)
          | none => t.tableLookup key ue l))
      generalize (if ue.contains a then none else d) = o
      cases o with
      | none => exact h
      | some x =>
        simp only
        split
        · exact h
        · exact ih h

theorem Evolves.execMissLookupDone {ue : List (Fin 4)} {bw : Bool} {s : State} (ev : Evolves s0 s) :
    Keeps s0 (execMissLookupDone ue bw s) := by
  unfold Sys2Proof.Machine.execMissLookupDone
  exact ev.act (fun _ h1 => by
    split
    · exact h1
    · split
      · exact h1
      · extract_lets x2 x3
        have h4 : Evolves s0 x3 := h1.upd.showMiss
        clear_value x3
        split
        · rename_i y5 y6 y7 y8
          have h9 : Evolves s0 y7 := (congrArg (fun z => Evolves s0 z.2) y8).mp h4.tableLookup
          split
          · exact h9.count.raise.unkAct
          · exact h9.install.resolved)

theorem Evolves.execSignatureBuildDone {s : State} (ev : Evolves s0 s) :
    Keeps s0 (execSignatureBuildDone s) := by
  unfold Sys2Proof.Machine.execSignatureBuildDone
  exact ev.act (fun _ h1 => by exact Evolves.ite h1.upd h1)

theorem Evolves.wrMAC {off : Nat} {v : Nat} {s : State} (ev : Evolves s0 s) :
    Evolves s0 (wrMAC off v s).st := by
  unfold Sys2Proof.Machine.wrMAC
  split
  · extract_lets x1 x2
    split
    · exact ev.no
    · split
      · exact ev.no
      · split
        · exact ev.no
        · exact ev.setNat.refreshPort.ok
  · exact ev.setNat.ok

theorem Evolves.wrCLS {off : Nat} {v : Nat} {s : State} (ev : Evolves s0 s) :
    Evolves s0 (wrCLS off v s).st := by
  unfold Sys2Proof.Machine.wrCLS
  split
  · exact Evolves.ok (Evolves.ite ev.upd ev)
  · exact ev.setNat.ok

end Sys2Proof.Machine
end

