-- ==== Sys2Proof/Laws/Links.lean ====
section
/-!
SUPPORT. Each operation of Machine/Links.lean: what it makes of a state has evolved from it (Safety).
-/

-- One declaration at a time: all at once need more threads than the check's memory limit allows.
set_option Elab.async false
namespace Sys2Proof.Machine

variable {s0 : State}

theorem Evolves.execFabricTrainStart {k : Fin 8} {s : State} (ev : Evolves s0 s) :
    Keeps s0 (execFabricTrainStart k s) := by
  unfold Sys2Proof.Machine.execFabricTrainStart
  exact ev.act (fun _ h1 => by exact Evolves.ite h1.linkTo h1)

theorem Evolves.execFabricLaneCdrLock {k : Fin 8} {l : Fin 4} {s : State} (ev : Evolves s0 s) :
    Keeps s0 (execFabricLaneCdrLock k l s) := by
  unfold Sys2Proof.Machine.execFabricLaneCdrLock
  exact ev.act (fun _ h1 => by
    extract_lets x2 x3 x4
    have h5 : Evolves s0 x3 := h1.setB.setB
    clear_value x3
    exact Evolves.ite (Evolves.ite h5.setLink h5) h1)

theorem Evolves.execCtleSweepDone {k : Fin 8} {l : Fin 4} {foms : List (BitVec 8)} {s : State} (ev : Evolves s0 s) :
    Keeps s0 (execCtleSweepDone k l foms s) := by
  unfold Sys2Proof.Machine.execCtleSweepDone
  exact ev.act (fun _ h1 => by
    extract_lets x2 x3 x4 x5
    have h6 : Evolves s0 x4 := h1.set.set
    clear_value x4
    exact Evolves.ite h1 h6.setLane.send)

theorem Evolves.negotiate {s : State} {k : Nat} (ev : Evolves s0 s) :
    Evolves s0 (s.negotiate k) := by
  unfold State.negotiate
  extract_lets x1 x2
  have h3 : Evolves s0 x1 := ev.linkTo
  clear_value x1
  exact h3.setLink

theorem Evolves.execLinkTrainTimeout {k : Fin 8} {s : State} (ev : Evolves s0 s) :
    Keeps s0 (execLinkTrainTimeout k s) := by
  unfold Sys2Proof.Machine.execLinkTrainTimeout
  exact ev.act (fun _ h1 => by
    split
    · split
      · exact h1
      · split
        · exact h1.negotiate
        · extract_lets x2 x3
          have h4 : Evolves s0 x2 := h1.linkTo
          clear_value x2
          exact h4.setLink
    · exact h1)

theorem Evolves.execBackoffExpiry {k : Fin 8} {s : State} (ev : Evolves s0 s) :
    Keeps s0 (execBackoffExpiry k s) := by
  unfold Sys2Proof.Machine.execBackoffExpiry
  exact ev.act (fun _ h1 => by
    extract_lets x2 x3 x4 x5 x6
    have h7 : Evolves s0 x4 := h1.linkTo
    clear_value x4
    have h8 : Evolves s0 x6 := Evolves.ite h7.setLink h7
    clear_value x6
    exact Evolves.ite h1 h8.raiseIf)

theorem Evolves.execNegotiateTimeout {k : Fin 8} {s : State} (ev : Evolves s0 s) :
    Keeps s0 (execNegotiateTimeout k s) := by
  unfold Sys2Proof.Machine.execNegotiateTimeout
  exact ev.act (fun _ h1 => by
    extract_lets x2
    exact Evolves.ite h1.linkTo h1)

theorem Evolves.linkLanes {s : State} {k : Nat} (ev : Evolves s0 s) :
    Evolves s0 (s.linkLanes k) := by
  unfold State.linkLanes
  split
  · exact ev
  · extract_lets x1 x2
    exact Evolves.ite ev.set.showLanes (Evolves.ite ev.set.showLanes ev.linkTo)

theorem Evolves.laneFail {s : State} {k : Nat} {l : Nat} (ev : Evolves s0 s) :
    Evolves s0 (s.laneFail k l) := by
  unfold State.laneFail
  extract_lets x1 x2 x3 x4 x5
  have h6 : Evolves s0 x2 := ev.setB.count
  clear_value x2
  have h7 : Evolves s0 x4 := h6.setLane
  clear_value x4
  have h8 : Evolves s0 x5 := h7.raise.send
  clear_value x5
  exact Evolves.ite ev h8.linkLanes

theorem Evolves.execLaneFail {k : Fin 8} {l : Fin 4} {sigDet : Bool} {cdrLock : Bool} {s : State} (ev : Evolves s0 s) :
    Keeps s0 (execLaneFail k l sigDet cdrLock s) := by
  unfold Sys2Proof.Machine.execLaneFail
  exact ev.act (fun _ h1 => by
    extract_lets x2 x3 x4
    have h5 : Evolves s0 x4 := h1.setB.setB
    clear_value x4
    exact Evolves.ite h5.laneFail h5)

theorem Evolves.execLaneRestore {k : Fin 8} {l : Fin 4} {s : State} (ev : Evolves s0 s) :
    Keeps s0 (execLaneRestore k l s) := by
  unfold Sys2Proof.Machine.execLaneRestore
  exact ev.act (fun _ h1 => by
    extract_lets x2 x3 x4 x5
    have h6 : Evolves s0 x4 := h1.setB.setLane
    clear_value x4
    have h7 : Evolves s0 x5 := h6.raise.send
    clear_value x5
    split
    · exact Evolves.ite h1 (Evolves.ite h7.linkLanes h7.showLanes)
    · exact h1)

theorem Evolves.execFomRefresh {k : Fin 8} {l : Fin 4} {fom : BitVec 8} {s : State} (ev : Evolves s0 s) :
    Keeps s0 (execFomRefresh k l fom s) := by
  unfold Sys2Proof.Machine.execFomRefresh
  exact ev.act (fun _ h1 => by
    extract_lets x2 x3 x4 x5 x6
    have h7 : Evolves s0 x5 := h1.set
    clear_value x5
    have h8 : Evolves s0 x6 := h7.raiseIf
    clear_value x6
    exact h8.setLane)

theorem Evolves.execDitherTrial {k : Fin 8} {l : Fin 4} {fom : BitVec 8} {s : State} (ev : Evolves s0 s) :
    Keeps s0 (execDitherTrial k l fom s) := by
  unfold Sys2Proof.Machine.execDitherTrial
  exact ev.act (fun _ h1 => by
    extract_lets x2 x3 x4 x5 x6
    have h7 : Evolves s0 x6 := h1.setLane
    clear_value x6
    exact Evolves.ite h1 (Evolves.ite h7.set.set h7))

theorem Evolves.spend {s : State} {m : Nat} (ev : Evolves s0 s) :
    Evolves s0 (s.spend m) := by
  unfold State.spend
  exact Evolves.ite ev.setLink.count64 ev

theorem Evolves.ctlOut {s : State} {m : Nat} {cell : List Nat} (ev : Evolves s0 s) :
    Evolves s0 (s.ctlOut m cell) := by
  unfold State.ctlOut
  exact Evolves.ite ev.spend ev.upd

theorem Evolves.execHelloSend {m : Fin 72} {s : State} (ev : Evolves s0 s) :
    Keeps s0 (execHelloSend m s) := by
  unfold Sys2Proof.Machine.execHelloSend
  exact ev.act (fun _ h1 => by
    extract_lets x2 x3 x4 x5 x6 x7 x8 x9 x10
    exact Evolves.ite h1 h1.ctlOut.send)

theorem Evolves.helloDelay {s : State} {m : Nat} {t1 : Nat} {t2 : Nat} {t3 : Nat} {t4 : Nat} (ev : Evolves s0 s) :
    Evolves s0 (s.helloDelay m t1 t2 t3 t4) := by
  unfold State.helloDelay
  extract_lets x1 x2 x3 x4
  have h5 : Evolves s0 x4 := ev.setNeigh
  clear_value x4
  exact Evolves.ite ev.setNeigh (Evolves.ite h5.set h5)

theorem Evolves.linkAgree {s : State} {k : Nat} {ver : Nat} {foreign : Bool} (ev : Evolves s0 s) :
    Evolves s0 (s.linkAgree k ver foreign) := by
  unfold State.linkAgree
  extract_lets x1 x2 x3 x4 x5 x6 x7 x8 x9 x10
  have h11 : Evolves s0 x5 := ev.linkTo
  clear_value x5
  have h12 : Evolves s0 x7 := h11.setLink
  clear_value x7
  have h13 : Evolves s0 x8 := h12.set.setB
  clear_value x8
  have h14 : Evolves s0 x9 := Evolves.ite h13.set h13
  clear_value x9
  have h15 : Evolves s0 x10 := h14.showLanes.raise
  clear_value x10
  exact Evolves.ite ev.linkTo h15.raiseIf

theorem Evolves.helloRx {s : State} {m : Nat} {z0 : Hello} (ev : Evolves s0 s) :
    Evolves s0 (s.helloRx m z0) := by
  unfold State.helloRx
  extract_lets x1 x2 x3 x4 x5 x6 x7 x8 x9 x10 x11 x12 x13 x14 x15 x16 x17 x18 x19 x20 x21 x22
  have h23 : Evolves s0 x9 := ev.setNeigh
  clear_value x9
  have h24 : Evolves s0 x11 := Evolves.ite h23.upd h23
  clear_value x11
  have h25 : Evolves s0 x12 := h24.raiseIf
  clear_value x12
  have h26 : Evolves s0 x14 := h25.set.set.setB
  clear_value x14
  have h27 : Evolves s0 x17 := h26.setLink
  clear_value x17
  have h28 : Evolves s0 x18 := h27.linkAgree
  clear_value x18
  have h29 : Evolves s0 x20 := h28.setNeigh
  clear_value x20
  have h30 : Evolves s0 x22 := Evolves.ite (Evolves.ite (Evolves.ite (Evolves.ite h29.upd h28) h27) h26) h25
  clear_value x22
  exact Evolves.ite ev (Evolves.ite h30.helloDelay h30)

theorem Evolves.execHelloCellRx {m : Fin 72} {addr : Fin 512} {ver : Fin 3} {link : Fin 128} {ident : BitVec 64} {domain : BitVec 64} {t3 : BitVec 64} {t1 : BitVec 64} {t2 : BitVec 64} {s : State} (ev : Evolves s0 s) :
    Keeps s0 (execHelloCellRx m addr ver link ident domain t3 t1 t2 s) := by
  unfold Sys2Proof.Machine.execHelloCellRx
  exact ev.act (fun _ h1 => h1.helloRx)

theorem Evolves.execNeighbourDead {m : Fin 72} {s : State} (ev : Evolves s0 s) :
    Keeps s0 (execNeighbourDead m s) := by
  unfold Sys2Proof.Machine.execNeighbourDead
  exact ev.act (fun _ h1 => by
    extract_lets x2 x3
    have h4 : Evolves s0 x3 := h1.dropNeigh
    clear_value x3
    exact Evolves.ite h1 (Evolves.ite h4.linkTo h4))

theorem Evolves.wrFBL {k : Nat} {off : Nat} {v : Nat} {s : State} (ev : Evolves s0 s) :
    Evolves s0 (wrFBL k off v s).st := by
  unfold Sys2Proof.Machine.wrFBL
  split
  · split
    · exact ev.ok
    · split
      · exact ev.no
      · exact Evolves.ok (Evolves.ite ev.linkTo ev)
  · exact ev.setNat.linkCheck.ok

end Sys2Proof.Machine
end

