-- ==== Sys2Proof/Laws/Fab.lean ====
section
/-!
SUPPORT. Each operation of Machine/Fab.lean: what it makes of a state has evolved from it (Safety).
-/

-- One declaration at a time: all at once need more threads than the check's memory limit allows.
set_option Elab.async false
namespace Sys2Proof.Machine

variable {s0 : State}

theorem Evolves.placeCell {s : State} {m : Nat} {c : Cell} (ev : Evolves s0 s) :
    Evolves s0 (s.placeCell m c) := by
  unfold State.placeCell
  split
  · exact ev.spend.sendCell.giveCredit
  · extract_lets x1 x2
    exact Evolves.ite ev.count.raise ev.upd

theorem Evolves.noRoute {s : State} {c : Cell} (ev : Evolves s0 s) :
    Evolves s0 (s.noRoute c) := by
  unfold State.noRoute
  extract_lets x1
  have h2 : Evolves s0 x1 := ev.raiseIf
  clear_value x1
  exact h2.count.giveCredit

theorem Evolves.placeNext {s : State} {m : Nat} {c : Cell} (ev : Evolves s0 s) :
    Evolves s0 (s.placeNext m c) := by
  unfold State.placeNext
  extract_lets x1 x2 x3
  have h4 : Evolves s0 x3 := Evolves.ite ev.upd ev
  clear_value x3
  exact h4.placeCell

theorem Evolves.spray {s0 s t : State} {c : Cell} {m : Nat} (ev : Evolves s0 s) (e : s.spray c = some (m, t)) :
    Evolves s0 t := by
  unfold State.spray at e
  extract_lets key ms at e
  split at e
  · cases e
    exact Evolves.upd ev
  · cases e

theorem Evolves.forward {s : State} {c : Cell} (ev : Evolves s0 s) : Evolves s0 (s.forward c) := by
  unfold State.forward
  extract_lets key hold
  have hh : ∀ t, Evolves s0 t → Evolves s0 (hold t) := fun t h => Evolves.ite h.count.raise h.upd
  clear_value hold
  refine Evolves.ite ev.noRoute ?_
  split
  · rename_i m t e
    have h1 : Evolves s0 t := by
      split at e
      · cases e
      · exact ev.spray e
    split
    · exact hh _ (Evolves.placeNext ev.upd)
    · exact h1.placeNext
  · exact hh _ ev

theorem Evolves.drainCells {s : State} {n : Nat} {t l : List Cell} (ev : Evolves s0 s) :
    Evolves s0 (State.drainCells n t l s) := by
  induction n generalizing t l s with
  | zero => unfold State.drainCells; exact ev
  | succ n ih =>
    rcases t with _ | ⟨c, t⟩ <;> rcases l with _ | ⟨d, l⟩ <;> simp only [State.drainCells]
    all_goals repeat' split
    all_goals first
      | exact ev
      | exact ih ev.noRoute
      | exact ih ev.upd
      | exact ih ev.placeNext
      | exact ih (ev.spray ‹_›).placeNext

theorem Evolves.drain {s : State} (ev : Evolves s0 s) :
    Evolves s0 s.drain := by
  unfold State.drain
  extract_lets x1 x2
  exact ev.upd.drainCells

theorem Evolves.setReseq {s : State} {src : Nat} {x : Option Reseq} (ev : Evolves s0 s) :
    Evolves s0 (s.setReseq src x) := by
  unfold State.setReseq
  exact ev.upd

theorem Evolves.showReseq {s : State} (ev : Evolves s0 s) :
    Evolves s0 s.showReseq := by
  unfold State.showReseq
  exact ev.setNat

theorem Evolves.release {s : State} {c : Cell} (ev : Evolves s0 s) :
    Evolves s0 (s.release c) := by
  unfold State.release
  extract_lets x1 x2 x3
  exact ev.upd

theorem Evolves.releaseRun {s : State} {src n : Nat} (ev : Evolves s0 s) : Evolves s0 (s.releaseRun src n) := by
  induction n generalizing s with
  | zero => exact ev
  | succ n ih =>
    unfold State.releaseRun
    split
    · exact ev
    · split
      · exact Evolves.ite (ih ev.setReseq.release) ev
      · exact ev

theorem Evolves.skipGap {s : State} {src : Nat} (ev : Evolves s0 s) :
    Evolves s0 (s.skipGap src) := by
  unfold State.skipGap
  split
  · split
    · extract_lets x1
      have h2 : Evolves s0 x1 := ev.setReseq.releaseRun
      clear_value x1
      exact h2.count.raise.showReseq
    · exact ev
  · exact ev

theorem Evolves.reseqRx {s : State} {c : Cell} (ev : Evolves s0 s) :
    Evolves s0 (s.reseqRx c) := by
  unfold State.reseqRx
  extract_lets x1
  have h2 : Evolves s0 x1 := by
    unfold x1
    split
    · exact ev.setReseq
    · extract_lets x3
      exact Evolves.ite ev.setReseq.count ev.setReseq
  clear_value x1
  split
  · exact h2
  · extract_lets x4 x5 x6 x7
    have h8 : Evolves s0 x5 := h2.setReseq
    clear_value x5
    have h9 : Evolves s0 x6 := h8.releaseRun
    clear_value x6
    have h10 : Evolves s0 x7 := by
      unfold x7
      split
      · split
        · exact h9.skipGap
        · exact h9
      · exact h9
    clear_value x7
    exact Evolves.ite h2.count (Evolves.ite h2.count h10.showReseq)

theorem Evolves.execReseqGapTimeout {src : Fin 512} {s : State} (ev : Evolves s0 s) :
    Keeps s0 (execReseqGapTimeout src s) := by
  unfold Sys2Proof.Machine.execReseqGapTimeout
  exact ev.act (fun _ h1 => by
    split
    · split
      · exact Evolves.ite h1.skipGap h1
      · exact h1
    · exact h1)

theorem Evolves.execReseqSourceTimeout {src : Fin 512} {s : State} (ev : Evolves s0 s) :
    Keeps s0 (execReseqSourceTimeout src s) := by
  unfold Sys2Proof.Machine.execReseqSourceTimeout
  exact ev.act (fun _ h1 => by
    split
    · exact Evolves.ite h1.setReseq.showReseq h1
    · exact h1)

theorem Evolves.portTx {s : State} {p : Nat} {e : Nat} {len : Nat} (ev : Evolves s0 s) :
    Evolves s0 (s.portTx p e len) := by
  unfold State.portTx
  exact Evolves.ite ev.macCount ev.macCount.macCount.ep.ep

theorem Evolves.egress {s : State} {e : Nat} {len : Nat} {full : Bool} {noRoom : Bool} (ev : Evolves s0 s) :
    Evolves s0 (s.egress e len full noRoom).snd := by
  unfold State.egress
  extract_lets x1 x2 x3 x4 x5 x6 x7 x8 x9
  have h10 : Evolves s0 x7 := ev.raiseIf
  clear_value x7
  have h11 : Evolves s0 x8 := h10.count64
  clear_value x8
  have h12 : Evolves s0 x9 := Evolves.ite h11.onDieAdd h11.bufTake
  clear_value x9
  exact Evolves.iteF Prod.snd ev.macCount (Evolves.iteF Prod.snd ev.setPort.portTx (Evolves.iteF Prod.snd (Evolves.ite ev ev.setPort.count) h12.setPort))

theorem Evolves.ovfDrain {s : State} {p n : Nat} (ev : Evolves s0 s) : Evolves s0 (s.ovfDrain p n) := by
  induction n generalizing s with
  | zero => exact ev
  | succ n ih =>
    unfold State.ovfDrain
    extract_lets x
    clear_value x
    split
    · exact ev
    · split
      · exact ev
      · extract_lets back s1 s2
        have h1 : Evolves s0 s1 := ev.setPort
        clear_value s1
        have h2 : Evolves s0 s2 := Evolves.ite h1.onDieSub h1.bufGive
        exact ih h2.portTx

theorem Evolves.pauseSend {s : State} {p : Nat} {on : Bool} (ev : Evolves s0 s) :
    Evolves s0 (s.pauseSend p on) := by
  unfold State.pauseSend
  extract_lets x1 x2 x3
  have h4 : Evolves s0 x3 := ev.upd
  clear_value x3
  exact h4.each (fun _ _ h5 => h5.ctlOut.send)

theorem Evolves.pausePort {s : State} {p : Nat} (ev : Evolves s0 s) :
    Evolves s0 (s.pausePort p) := by
  unfold State.pausePort
  split
  · exact ev
  · extract_lets x1
    have h2 : Evolves s0 x1 := ev.set
    clear_value x1
    exact h2.raise.pauseSend

theorem Evolves.execEgressFifoXoff {p : Fin 32} {s : State} (ev : Evolves s0 s) :
    Keeps s0 (execEgressFifoXoff p s) := by
  unfold Sys2Proof.Machine.execEgressFifoXoff
  exact ev.act (fun _ h1 => by
    split
    · exact h1
    · extract_lets x2
      exact h1.setPort.pausePort)

theorem Evolves.execEgressFifoXon {p : Fin 32} {s : State} (ev : Evolves s0 s) :
    Keeps s0 (execEgressFifoXon p s) := by
  unfold Sys2Proof.Machine.execEgressFifoXon
  exact ev.act (fun _ h1 => by
    split
    · exact h1
    · extract_lets x2 x3 x4 x5 x6
      have h7 : Evolves s0 x3 := h1.setPort
      clear_value x3
      have h8 : Evolves s0 x5 := Evolves.ite h7.set.pauseSend h7
      clear_value x5
      have h9 : Evolves s0 x6 := h8.ovfDrain
      clear_value x6
      exact Evolves.ite h9.pausePort h9)

theorem Evolves.pauseRx {s : State} {m : Nat} {origin : Nat} {port_ : Nat} {on : Bool} {seq : Nat} (ev : Evolves s0 s) :
    Evolves s0 (s.pauseRx m origin port_ on seq) := by
  unfold State.pauseRx
  extract_lets x1 x2 x3 x4
  have h5 : Evolves s0 x4 := ev.upd
  clear_value x4
  exact Evolves.ite ev (h5.each (fun _ _ h6 => h6.ctlOut.send))

theorem Evolves.execPauseCellRx {m : Fin 72} {origin : Fin 512} {port : Fin 32} {on : Bool} {seq : BitVec 16} {s : State} (ev : Evolves s0 s) :
    Keeps s0 (execPauseCellRx m origin port on seq s) := by
  unfold Sys2Proof.Machine.execPauseCellRx
  exact ev.act (fun _ h1 => h1.pauseRx)

theorem Evolves.execPauseRefresh {p : Fin 32} {s : State} (ev : Evolves s0 s) :
    Keeps s0 (execPauseRefresh p s) := by
  unfold Sys2Proof.Machine.execPauseRefresh
  exact ev.act (fun _ h1 => by exact Evolves.ite h1.pauseSend h1)

theorem Evolves.execPauseExpiry {origin : Fin 512} {port : Fin 32} {s : State} (ev : Evolves s0 s) :
    Keeps s0 (execPauseExpiry origin port s) := by
  unfold Sys2Proof.Machine.execPauseExpiry
  exact ev.act (fun _ h1 => by
    extract_lets x2 x3 x4
    have h5 : Evolves s0 x4 := h1.upd
    clear_value x4
    exact Evolves.ite h1 h5.raise)

theorem Evolves.dataRx {s : State} {c : Cell} (ev : Evolves s0 s) :
    Evolves s0 (s.dataRx c) := by
  unfold State.dataRx
  exact Evolves.ite ev.count.giveCredit (Evolves.ite ev.giveCredit (Evolves.ite ev.giveCredit.reseqRx (Evolves.ite ev.count.raise.giveCredit ev.forward)))

theorem Evolves.cellRx {s : State} {m : Nat} {c : RawCell} (ev : Evolves s0 s) :
    Evolves s0 (s.cellRx m c) := by
  unfold State.cellRx
  extract_lets x1 x2 x3 x4 x5 x6
  have h7 : Evolves s0 x4 := Evolves.ite ev.count64 ev
  clear_value x4
  exact Evolves.ite (Evolves.ite ev.count ev) (Evolves.ite ev (Evolves.ite h7.giveCredit.helloRx (Evolves.ite h7.giveCredit (Evolves.ite h7.giveCredit.pauseRx (Evolves.ite h7.giveCredit h7.dataRx)))))

theorem Evolves.takeCell {s0 s t : State} {g : Nat} {c : RawCell} (ev : Evolves s0 s) (h : s.takeCell g c = some t) :
    Evolves s0 t := by
  unfold State.takeCell at h
  revert h
  split
  · split
    · intro h; cases h; exact ev.setGth
    · simp
  · simp

theorem Evolves.execCellRx {s : State} {m : Fin 72} {c : RawCell} (ev : Evolves s0 s) : Keeps s0 (execCellRx m c s) := by
  unfold Machine.execCellRx
  refine Evolves.act ev fun s ev => Evolves.ite (Evolves.ite ev.cellRx ev) (Evolves.ite ev ?_)
  split
  · exact (ev.takeCell ‹_›).cellRx
  · exact ev

theorem Evolves.laneWord {s : State} {k : Nat} {l : Nat} {w : Nat} (ev : Evolves s0 s) :
    Evolves s0 (s.laneWord k l w) := by
  unfold State.laneWord
  extract_lets x1 x2 x3 x4 x5 x6 x7 x8 x9 x10
  have h11 : Evolves s0 x4 := ev.setLane
  clear_value x4
  have h12 : Evolves s0 x5 := Evolves.ite h11.setB h11
  clear_value x5
  have h13 : Evolves s0 x6 := Evolves.ite h12.setB h12
  clear_value x6
  have h14 : Evolves s0 x7 := h13.set
  clear_value x7
  have h15 : Evolves s0 x9 := h14.setLink
  clear_value x9
  have h16 : Evolves s0 x10 := Evolves.ite h15.negotiate (Evolves.ite h15.linkLanes h15)
  clear_value x10
  exact h16.drain

theorem Evolves.execLaneFrameRx {k : Fin 8} {l : Fin 4} {word : BitVec 40} {bad0 : Bool} {bad1 : Bool} {cells : List RawCell} {s : State} (ev : Evolves s0 s) :
    Keeps s0 (execLaneFrameRx k l word bad0 bad1 cells s) := by
  unfold Sys2Proof.Machine.execLaneFrameRx
  exact ev.act (fun _ h1 => by
    extract_lets x2 x3 x4 x5 x6 x7 x8 x9 x10 x11 x12 x13 x14
    have h15 : Evolves s0 x3 := h1.count
    clear_value x3
    have h16 : Evolves s0 x7 := h15.setLane
    clear_value x7
    have h17 : Evolves s0 x11 := h16.setLane
    clear_value x11
    have h18 : Evolves s0 x12 := h17.setB.laneFail
    clear_value x12
    have h19 : Evolves s0 x13 := Evolves.ite h16.laneWord (Evolves.ite (Evolves.ite h18 h18.setB) h17)
    clear_value x13
    have h20 : Evolves s0 x14 := Evolves.ite h19.laneFail h19
    clear_value x14
    exact Evolves.ite h1 (Evolves.ite h20.count (Evolves.ite (h20.each (fun _ _ h21 => h21.cellRx)) h20)))

theorem Evolves.sendFrame {s : State} {f : Frame} (ev : Evolves s0 s) :
    Evolves s0 (s.sendFrame f) := by
  unfold State.sendFrame
  extract_lets x1 x2 x3 x4
  have h5 : Evolves s0 x4 := ev.upd
  clear_value x4
  exact h5.each (fun _ _ h6 => h6.forward)

theorem Evolves.execFrameDequeue {dest : Fin 512} {full : Bool} {noRoom : Bool} {s : State} (ev : Evolves s0 s) :
    Keeps s0 (execFrameDequeue dest full noRoom s) := by
  unfold Sys2Proof.Machine.execFrameDequeue
  exact ev.act (fun _ h1 => by
    extract_lets x2 x3 x4 x5
    split
    · exact h1
    · split
      · rename_i y6 y7 y8
        have h9 : Evolves s0 y7 := (congrArg (fun z => Evolves s0 z.2) y8).mp h1.pickQueue
        exact h9
      · rename_i y10 y11 y12 y13
        have h14 : Evolves s0 y12 := (congrArg (fun z => Evolves s0 z.2) y13).mp h1.pickQueue
        split
        · rename_i y15 y16 y17
          have h18 : Evolves s0 y16 := (congrArg (fun z => Evolves s0 z.2) y17).mp h14.takeFrame
          exact h18
        · rename_i y19 y20 y21 y22
          have h23 : Evolves s0 y21 := (congrArg (fun z => Evolves s0 z.2) y22).mp h14.takeFrame
          split
          · exact h23.count.raise.dropFrame
          · extract_lets x24
            have h25 : ∀ (v : State), Evolves s0 v → Evolves s0 (x24 v) := fun _ h26 => by
              unfold x24
              extract_lets x27 x28 x29
              have h30 : Evolves s0 x29 := h26.charge.charge
              clear_value x29
              exact h30.each (fun _ _ h31 => h31.charge)
            split
            · exact (h25 _ h23).count
            · split
              · split
                · rename_i y32 y33 y34
                  have h35 : Evolves s0 y33 := (congrArg (fun z => Evolves s0 z.2) y34).mp h23.egress
                  exact h25 _ h35
                · rename_i y36 y37 y38
                  have h39 : Evolves s0 y37 := (congrArg (fun z => Evolves s0 z.2) y38).mp h23.egress
                  exact h1.egress
              · exact h25 _ h23.sendFrame)

theorem Evolves.execFrameReassembly {src : Fin 512} {cls : Fin 4} {full : Bool} {noRoom : Bool} {s : State} (ev : Evolves s0 s) :
    Keeps s0 (execFrameReassembly src cls full noRoom s) := by
  unfold Sys2Proof.Machine.execFrameReassembly
  exact ev.act (fun _ h1 => by
    extract_lets x2
    split
    · exact h1
    · extract_lets x3 x4 x5
      have h6 : ∀ (t : State), Evolves s0 t → Evolves s0 (x3 t) := fun _ h7 => h7.upd.showReseq
      split
      · exact h1
      · split
        · exact (h6 _ h1).count
        · split
          · rename_i y8 y9 y10
            have h11 : Evolves s0 y9 := (congrArg (fun z => Evolves s0 z.2) y10).mp h1.egress
            exact h11
          · rename_i y12 y13 y14
            have h15 : Evolves s0 y13 := (congrArg (fun z => Evolves s0 z.2) y14).mp h1.egress
            exact h6 _ h15)

theorem Evolves.execShaperWheelSlot {x : Fin 2097224} {s : State} (ev : Evolves s0 s) :
    Keeps s0 (execShaperWheelSlot x s) := by
  unfold Sys2Proof.Machine.execShaperWheelSlot
  exact ev.act (fun _ h1 => h1.wheelSlot.drain)

end Sys2Proof.Machine
end

