-- ==== Sys2Proof/Laws/Answer.lean ====
section
/-!
SUPPORT. Each operation of Machine/Answer.lean: what it makes of a state has evolved from it (Safety).
-/

-- One declaration at a time: all at once need more threads than the check's memory limit allows.
set_option Elab.async false
namespace Sys2Proof.Machine

variable {s0 : State}

theorem Evolves.respond {s : State} {slot : Nat} {tag : Nat} {r : Resp} (ev : Evolves s0 s) :
    Evolves s0 (s.respond slot tag r) := by
  unfold State.respond
  extract_lets x1 x2 x3 x4 x5
  have h6 : Evolves s0 x5 := ev.setSession
  clear_value x5
  exact Evolves.ite ev h6.sendTo

theorem Evolves.setOutstanding {s : State} {n : Nat} (ev : Evolves s0 s) :
    Evolves s0 (s.setOutstanding n) := by
  unfold State.setOutstanding
  exact ev.upd.set

theorem Evolves.deferred {s : State} (ev : Evolves s0 s) :
    Evolves s0 s.deferred := by
  unfold State.deferred
  exact ev.setOutstanding

theorem Evolves.unblock {s : State} {slot : Nat} (ev : Evolves s0 s) :
    Evolves s0 (s.unblock slot) := by
  unfold State.unblock
  exact ev.upd

theorem Evolves.answer {s : State} {slot : Nat} {tag : Nat} {r : Resp} (ev : Evolves s0 s) :
    Evolves s0 (s.answer slot tag r) := by
  unfold State.answer
  split
  · exact ev.setOutstanding.respond
  · extract_lets x1 x2
    exact Evolves.ite ev.upd ev.upd.setOutstanding.respond

end Sys2Proof.Machine
end

