-- ==== Sys2Proof/Laws/Cry.lean ====
section
/-!
SUPPORT. Each operation of Machine/Cry.lean: what it makes of a state has evolved from it (Safety).
-/

-- One declaration at a time: all at once need more threads than the check's memory limit allows.
set_option Elab.async false
namespace Sys2Proof.Machine

variable {s0 : State}

theorem Evolves.setCtx {s : State} {g : Nat} {c : CryCtx} (ev : Evolves s0 s) : Evolves s0 (s.setCtx g c) :=
  ev.trans ⟨rfl, rfl, List.prefix_refl _, Nat.le_refl _,
    fun k => ⟨k.regs, k.pages, k.osp, k.gath, k.pg, k.cry.put g c, k.ports, k.fbl, k.mem, k.sessions, k.requesters⟩⟩

theorem Evolves.syncSlots {s : State} {slots : List Nat} (ev : Evolves s0 s) :
    Evolves s0 (s.syncSlots slots) := by
  unfold State.syncSlots
  exact ev.each (fun _ _ h1 => h1.setB)

theorem Evolves.showCtx {s : State} {g : Nat} (ev : Evolves s0 s) :
    Evolves s0 (s.showCtx g) := by
  unfold State.showCtx
  extract_lets x1 x2 x3 x4
  have h5 : Evolves s0 x3 := ev.set.setB
  clear_value x3
  have h6 : Evolves s0 x4 := h5.set.setB
  clear_value x4
  exact h6.set

theorem Evolves.updCtx {s : State} {g : Nat} {c : CryCtx} (ev : Evolves s0 s) :
    Evolves s0 (s.updCtx g c) := by
  unfold State.updCtx
  extract_lets x1
  exact ev.setCtx.syncSlots.showCtx

theorem Evolves.startLoad {s : State} {g : Nat} {tx : Bool} {k : KeyRef} (ev : Evolves s0 s) :
    Evolves s0 (s.startLoad g tx k) := by
  unfold State.startLoad
  extract_lets x1
  exact Evolves.ite ev.updCtx.set ev.updCtx.set

theorem Evolves.endLoad {s : State} {g : Nat} {tx : Bool} {served : Bool} {k : KeyRef} (ev : Evolves s0 s) :
    Evolves s0 (s.endLoad g tx served k) := by
  unfold State.endLoad
  extract_lets x1 x2 x3 x4 x5 x6 x7 x8
  have h9 : Evolves s0 x6 := Evolves.ite ev.updCtx ev.updCtx
  clear_value x6
  have h10 : Evolves s0 x7 := Evolves.ite h9.set.set h9.set.set
  clear_value x7
  have h11 : Evolves s0 x8 := h10.raiseIf
  clear_value x8
  exact h11.raiseIf

theorem Evolves.execKeyLoadDone {g : Fin 64} {tx : Bool} {served : Bool} {s : State} (ev : Evolves s0 s) :
    Keeps s0 (execKeyLoadDone g tx served s) := by
  unfold Sys2Proof.Machine.execKeyLoadDone
  exact ev.act (fun _ h1 => by
    extract_lets x2
    split
    · exact h1.endLoad
    · exact Evolves.ite h1 (Evolves.ite h1.raise h1.setCtx))

theorem Evolves.entCRY {g : Nat} {ws : List Nat} {s : State} (ev : Evolves s0 s) :
    Evolves s0 (entCRY g ws s).st := by
  unfold Sys2Proof.Machine.entCRY
  extract_lets x1 x2 x3 x4 x5 x6 x7 x8 x9 x10
  have h11 : Evolves s0 x8 := ev.setWords
  clear_value x8
  have h12 : Evolves s0 x9 := h11.setB.setB
  clear_value x9
  have h13 : Evolves s0 x10 := Evolves.ite h12.startLoad h12
  clear_value x10
  split
  · exact ev.no
  · split
    · exact ev.no
    · split
      · exact ev.no
      · exact Evolves.ok (Evolves.ite h13.startLoad h13)

theorem Evolves.suiteVersion {s : State} {g : Nat} (ev : Evolves s0 s) :
    Evolves s0 (s.suiteVersion g) := by
  unfold State.suiteVersion
  extract_lets x1 x2 x3
  exact ev.setCtx.raiseIf

theorem Evolves.txSwitch {s : State} {g : Nat} {gsn : Nat} (ev : Evolves s0 s) :
    Evolves s0 (s.txSwitch g gsn) := by
  unfold State.txSwitch
  extract_lets x1 x2 x3
  split
  · exact ev
  · extract_lets x4 x5 x6
    have h7 : Evolves s0 x4 := ev.updCtx
    clear_value x4
    have h8 : Evolves s0 x5 := h7.set.set
    clear_value x5
    have h9 : Evolves s0 x6 := h8.set.setB
    clear_value x6
    exact h9.nvRequest.raise

theorem Evolves.lineOut {s : State} {g : Nat} {u : LineUnit} (ev : Evolves s0 s) :
    Evolves s0 (s.lineOut g u) := by
  unfold State.lineOut
  extract_lets x1 x2 x3
  have h4 : Evolves s0 x2 := ev.setGth
  clear_value x2
  exact h4.each (fun _ _ h5 => by
    split
    · exact h5
    · extract_lets x6 x7
      exact h5.setFrm)

theorem Evolves.ctrWarn {s : State} {g : Nat} {gsn : Nat} (ev : Evolves s0 s) :
    Evolves s0 (s.ctrWarn g gsn) := by
  unfold State.ctrWarn
  extract_lets x1
  exact Evolves.ite ev.setCtx.raise ev

theorem Evolves.execCryTxUnit {g : Fin 64} {s : State} (ev : Evolves s0 s) :
    Keeps s0 (execCryTxUnit g s) := by
  unfold Sys2Proof.Machine.execCryTxUnit
  exact ev.act (fun _ h1 => by
    split
    · exact h1
    · extract_lets x2 x3 x4 x5 x6 x7 x8 x9 x10 x11 x12 x13 x14 x15 x16
      have h17 : Evolves s0 x4 := h1.setGth
      clear_value x4
      have h18 : Evolves s0 x7 := h17.suiteVersion.ctrWarn
      clear_value x7
      have h19 : Evolves s0 x8 := Evolves.ite h18.txSwitch h18
      clear_value x8
      have h20 : Evolves s0 x13 := Evolves.ite h19.updCtx.raiseIf h19
      clear_value x13
      have h21 : Evolves s0 x14 := Evolves.ite h20.set h20
      clear_value x14
      split
      · extract_lets x22
        exact h17.lineOut.send
      · exact Evolves.ite h17.lineOut.send (Evolves.send (Evolves.lineOut (Evolves.ite h21 h21.nextFree))))

theorem Evolves.tagFail {s : State} {g : Nat} (ev : Evolves s0 s) :
    Evolves s0 (s.tagFail g) := by
  unfold State.tagFail
  extract_lets x1 x2 x3
  have h4 : Evolves s0 x1 := ev.bump.count
  clear_value x1
  have h5 : Evolves s0 x2 := h4.pm
  clear_value x2
  exact h5.setGth.raise

theorem Evolves.keyMissing {s : State} {g : Nat} (ev : Evolves s0 s) :
    Evolves s0 (s.keyMissing g) := by
  unfold State.keyMissing
  extract_lets x1 x2 x3 x4 x5
  have h6 : Evolves s0 x2 := ev.bump.count
  clear_value x2
  have h7 : Evolves s0 x3 := h6.pm
  clear_value x3
  have h8 : Evolves s0 x4 := h7.setCtx.raiseIf
  clear_value x4
  exact h8.setGth

theorem Evolves.rxSwitch {s : State} {g : Nat} {gsn : Nat} {b : Nat} {phase : Bool} (ev : Evolves s0 s) :
    Evolves s0 (s.rxSwitch g gsn b phase) := by
  unfold State.rxSwitch
  extract_lets x1 x2 x3 x4
  have h5 : Evolves s0 x3 := ev.updCtx
  clear_value x3
  have h6 : Evolves s0 x4 := h5.set.setB.set
  clear_value x4
  exact h6.setB.raise

theorem Evolves.toEgress {s : State} {g : Nat} {good : Bool} {bytes : List Nat} (ev : Evolves s0 s) :
    Evolves s0 (s.toEgress g good bytes) := by
  unfold State.toEgress
  exact Evolves.ite ev ev.setGth

theorem Evolves.released {s : State} {g : Nat} {gsn : Nat} {len : Nat} (ev : Evolves s0 s) :
    Evolves s0 (s.released g gsn len) := by
  unfold State.released
  extract_lets x1 x2 x3
  have h4 : Evolves s0 x1 := ev.count64
  clear_value x1
  have h5 : Evolves s0 x3 := h4.setGth
  clear_value x3
  exact h5.nextFree.toEgress.send

theorem Evolves.zeroed {s : State} {g : Nat} {gsn : Nat} {len : Nat} {left : Nat} (ev : Evolves s0 s) :
    Evolves s0 (s.zeroed g gsn len left) := by
  unfold State.zeroed
  extract_lets x1 x2 x3 x4
  have h5 : Evolves s0 x2 := ev.bumpBy.count64
  clear_value x2
  have h6 : Evolves s0 x4 := Evolves.ite h5.setNat64.raise ev
  clear_value x4
  exact h6.toEgress.send

theorem Evolves.gradeCopies {s : State} {g : Nat} {selB : Bool} {okSel : Bool} {okOther : Bool} (ev : Evolves s0 s) :
    Evolves s0 (s.gradeCopies g selB okSel okOther) := by
  unfold State.gradeCopies
  split
  · exact ev
  · extract_lets x1 x2 x3 x4 x5
    exact ev.setGth

theorem Evolves.trialFailed {s : State} {g : Nat} {n : Nat} (ev : Evolves s0 s) :
    Evolves s0 (s.trialFailed g n) := by
  unfold State.trialFailed
  extract_lets x1 x2 x3
  have h4 : Evolves s0 x3 := ev.setCtx
  clear_value x3
  exact h4.setB.raiseIf

theorem Evolves.verify {s : State} {g : Nat} {gsn : Nat} {len : Nat} {left : Nat} {agree : Bool} {phase : Bool} {okAny : Bool} {okRel : Bool} (ev : Evolves s0 s) :
    Evolves s0 (s.verify g gsn len left agree phase okAny okRel) := by
  unfold State.verify
  extract_lets x1 x2 x3 x4 x5 x6 x7 x8 x9
  have h10 : ∀ (t : State), Evolves s0 t → Evolves s0 (x3 t) := fun _ h11 => h11.tagFail.zeroed
  have h12 : ∀ (t : State), Evolves s0 t → Evolves s0 (x4 t) := fun _ h13 => by exact Evolves.ite h13.released (h10 _ h13)
  have h14 : Evolves s0 x7 := ev.setCtx
  clear_value x7
  split
  · exact h10 _ ev
  · split
    · exact Evolves.ite (h10 _ h14) (h12 _ h14.setCtx.setB)
    · split
      · exact h10 _ ev
      · split
        · exact ev.keyMissing.zeroed
        · extract_lets x15
          exact Evolves.ite (h10 _ ev.trialFailed) (h12 _ ev.rxSwitch)

theorem Evolves.execCryRxUnit {g : Fin 64} {okSel : Bool} {okOther : Bool} {left : Nat} {s : State} (ev : Evolves s0 s) :
    Keeps s0 (execCryRxUnit g okSel okOther left s) := by
  unfold Sys2Proof.Machine.execCryRxUnit
  exact ev.act (fun _ h1 => by
    split
    · exact h1
    · split
      · exact h1
      · extract_lets x2 x3 x4 x5 x6 x7 x8 x9 x10
        have h11 : Evolves s0 x6 := h1.setGth.suiteVersion
        clear_value x6
        have h12 : Evolves s0 x10 := h11.gradeCopies
        clear_value x10
        exact Evolves.ite h11.tagFail.zeroed (Evolves.ite h11.setGth.toEgress.send (Evolves.ite h11.toEgress.send h12.verify)))

theorem Evolves.rxResync {s : State} {g : Nat} (ev : Evolves s0 s) :
    Evolves s0 (s.rxResync g) := by
  unfold State.rxResync
  extract_lets x1
  split
  · exact ev.setCtx
  · exact ev.updCtx.set

theorem Evolves.cryLock {s : State} {on : Bool} (ev : Evolves s0 s) :
    Evolves s0 (s.cryLock on) := by
  unfold State.cryLock
  exact ev.setB

theorem Evolves.cryErase {s : State} (ev : Evolves s0 s) :
    Evolves s0 s.cryErase := by
  unfold State.cryErase
  extract_lets x1
  have h2 : Evolves s0 x1 := ev.each (fun _ _ h3 => by
    split
    · exact h3
    · extract_lets x4
      have h5 : Evolves s0 x4 := h3.updCtx
      clear_value x4
      exact h5.set.set)
  clear_value x1
  exact h2.raise

theorem Evolves.crySelfTest {s : State} (ev : Evolves s0 s) :
    Evolves s0 s.crySelfTest.st := by
  unfold State.crySelfTest
  split
  · exact ev.no
  · split
    · exact ev.ok
    · split
      · rename_i y1 y2 y3
        have h4 : Evolves s0 y2 := (congrArg (fun z => Evolves s0 z.2) y3).mp ev.requestLeave
        exact h4.no
      · rename_i y5 y6 y7 y8 y9
        have h10 : Evolves s0 y7 := (congrArg (fun z => Evolves s0 z.2) y9).mp ev.requestLeave
        exact h10.setB.ok

theorem Evolves.execCrySelfTestDone {pass : Bool} {s : State} (ev : Evolves s0 s) :
    Keeps s0 (execCrySelfTestDone pass s) := by
  unfold Sys2Proof.Machine.execCrySelfTestDone
  exact ev.act (fun _ h1 => by
    split
    · exact h1
    · extract_lets x2 x3 x4
      have h5 : Evolves s0 x2 := h1.endLeave.setB
      clear_value x2
      have h6 : Evolves s0 x3 := h5.set
      clear_value x3
      have h7 : Evolves s0 x4 := h6.upd
      clear_value x4
      exact h7.raise.raiseIf)

theorem Evolves.agreeSend {s : State} {n : Nat} {code : Nat} {pos : Nat} (ev : Evolves s0 s) :
    Evolves s0 (s.agreeSend n code pos) := by
  unfold State.agreeSend
  extract_lets x1 x2
  have h3 : Evolves s0 x2 := ev.setFrm
  clear_value x2
  exact h3.nextFree.send

theorem Evolves.agreeFail {s : State} {cause : Nat} (ev : Evolves s0 s) :
    Evolves s0 (s.agreeFail cause) := by
  unfold State.agreeFail
  extract_lets x1 x2 x3 x4 x5
  have h6 : Evolves s0 x1 := ev.upd.withdrawLeave
  clear_value x1
  have h7 : Evolves s0 x2 := h6.endLeave
  clear_value x2
  have h8 : Evolves s0 x4 := h7.upd
  clear_value x4
  have h9 : Evolves s0 x5 := h8.set.set
  clear_value x5
  exact h9.raise

theorem Evolves.agreeBegin {s : State} {g : Nat} {responder : Bool} (ev : Evolves s0 s) :
    Evolves s0 (s.agreeBegin g responder) := by
  unfold State.agreeBegin
  extract_lets x1 x2
  have h3 : Evolves s0 x1 := ev.upd
  clear_value x1
  have h4 : Evolves s0 x2 := h3.set.setB
  clear_value x2
  exact h4.set.set

theorem Evolves.agreeBreak {s : State} (ev : Evolves s0 s) :
    Evolves s0 s.agreeBreak := by
  unfold State.agreeBreak
  exact Evolves.ite ev.nextFree.agreeFail ev

theorem Evolves.agreeStart {s : State} {g : Nat} (ev : Evolves s0 s) :
    Evolves s0 (s.agreeStart g) := by
  unfold State.agreeStart
  extract_lets x1
  have h2 : Evolves s0 x1 := ev.agreeBegin
  clear_value x1
  exact Evolves.ite h2.agreeFail (Evolves.ite h2.agreeBreak h2.agreeSend)

theorem Evolves.agreeCmd {s : State} {v : Nat} (ev : Evolves s0 s) :
    Evolves s0 (s.agreeCmd v).st := by
  unfold State.agreeCmd
  extract_lets x1 x2 x3
  have h4 : Evolves s0 x3 := Evolves.ite ev.agreeFail ev
  clear_value x3
  split
  · exact h4.ok
  · split
    · exact ev.no
    · exact h4.agreeStart.ok

theorem Evolves.agreeKeysOut {s : State} (ev : Evolves s0 s) :
    Evolves s0 s.agreeKeysOut := by
  unfold State.agreeKeysOut
  extract_lets x1 x2 x3
  exact ev.upd.nvRequest

theorem Evolves.agreeStore {s : State} (ev : Evolves s0 s) :
    Evolves s0 s.agreeStore := by
  unfold State.agreeStore
  split
  · rename_i y1 y2 y3
    have h4 : Evolves s0 y2 := (congrArg (fun z => Evolves s0 z.2) y3).mp ev.requestLeave
    exact h4.agreeKeysOut
  · rename_i y5 y6 y7
    have h8 : Evolves s0 y6 := (congrArg (fun z => Evolves s0 z.2) y7).mp ev.requestLeave
    exact h8.upd
  · rename_i y9 y10 y11
    have h12 : Evolves s0 y10 := (congrArg (fun z => Evolves s0 z.2) y11).mp ev.requestLeave
    exact h12.agreeFail

theorem Evolves.execAgreeA1Rx {n : Fin 2} {pos : Fin 32} {identity : BitVec 64} {sigOk : Bool} {s : State} (ev : Evolves s0 s) :
    Keeps s0 (execAgreeA1Rx n pos identity sigOk s) := by
  unfold Sys2Proof.Machine.execAgreeA1Rx
  exact ev.act (fun _ h1 => by
    split
    · exact h1
    · split
      · exact h1.agreeSend
      · split
        · exact h1
        · split
          · exact h1
          · extract_lets x2
            have h3 : Evolves s0 x2 := h1.agreeBegin
            clear_value x2
            exact Evolves.ite h3.agreeBreak (Evolves.ite h3.agreeFail (Evolves.ite h3.agreeFail h3.agreeSend)))

theorem Evolves.execAgreeA2Rx {identity : BitVec 64} {sigOk : Bool} {confOk : Bool} {s : State} (ev : Evolves s0 s) :
    Keeps s0 (execAgreeA2Rx identity sigOk confOk s) := by
  unfold Sys2Proof.Machine.execAgreeA2Rx
  exact ev.act (fun _ h1 => by exact Evolves.ite h1 (Evolves.ite h1.agreeFail (Evolves.ite h1.agreeFail (Evolves.ite h1.agreeFail h1.agreeSend.agreeStore))))

theorem Evolves.execAgreeA3Rx {confOk : Bool} {s : State} (ev : Evolves s0 s) :
    Keeps s0 (execAgreeA3Rx confOk s) := by
  unfold Sys2Proof.Machine.execAgreeA3Rx
  exact ev.act (fun _ h1 => by exact Evolves.ite h1 (Evolves.ite h1.agreeFail h1.agreeStore))

theorem Evolves.execAgreeAbortRx {s : State} (ev : Evolves s0 s) :
    Keeps s0 (execAgreeAbortRx s) := by
  unfold Sys2Proof.Machine.execAgreeAbortRx
  exact ev.act (fun _ h1 => by exact Evolves.ite h1.agreeFail h1)

theorem Evolves.execAgreeTimeout {s : State} (ev : Evolves s0 s) :
    Keeps s0 (execAgreeTimeout s) := by
  unfold Sys2Proof.Machine.execAgreeTimeout
  exact ev.act (fun _ h1 => by exact Evolves.ite h1.agreeFail h1)

theorem Evolves.execAgreeKeysStored {s : State} (ev : Evolves s0 s) :
    Keeps s0 (execAgreeKeysStored s) := by
  unfold Sys2Proof.Machine.execAgreeKeysStored
  exact ev.act (fun _ h1 => by
    split
    · exact h1
    · extract_lets x2 x3 x4 x5 x6 x7 x8 x9 x10
      have h11 : Evolves s0 x5 := h1.nextFree
      clear_value x5
      have h12 : Evolves s0 x7 := h11.nextFree
      clear_value x7
      have h13 : Evolves s0 x8 := h12.upd.endLeave
      clear_value x8
      have h14 : Evolves s0 x9 := h13.startLoad
      clear_value x9
      have h15 : Evolves s0 x10 := h14.startLoad
      clear_value x10
      exact h15.set.raise)

theorem Evolves.agreeGranted {s : State} (ev : Evolves s0 s) :
    Evolves s0 s.agreeGranted := by
  unfold State.agreeGranted
  exact Evolves.ite ev.agreeKeysOut ev.endLeave

theorem Evolves.wrCRY {off : Nat} {v : Nat} {s : State} (ev : Evolves s0 s) :
    Evolves s0 (wrCRY off v s).st := by
  unfold Sys2Proof.Machine.wrCRY
  split
  · extract_lets x1 x2 x3 x4
    have h5 : Evolves s0 x4.st := by
      unfold x4
      split
      · exact ev.crySelfTest
      · exact ev.ok
    clear_value x4
    split
    · exact ev.no
    · split
      · exact h5
      · exact Evolves.ok (Evolves.ite h5.updCtx (Evolves.ite h5.rxResync h5))
  · split
    · exact ev.agreeCmd
    · exact ev.setNat.ok

end Sys2Proof.Machine
end

