-- ==== Sys2Proof/Laws/Nv.lean ====
section
/-!
SUPPORT. Each operation of Machine/Nv.lean: what it makes of a state has evolved from it (Safety).
-/

-- One declaration at a time: all at once need more threads than the check's memory limit allows.
set_option Elab.async false
namespace Sys2Proof.Machine

variable {s0 : State}

theorem Evolves.showStore {s : State} (ev : Evolves s0 s) :
    Evolves s0 s.showStore := by
  unfold State.showStore
  extract_lets x1 x2 x3 x4 x5 x6
  have h7 : Evolves s0 x3 := ev.set.setB
  clear_value x3
  have h8 : Evolves s0 x4 := h7.set
  clear_value x4
  have h9 : Evolves s0 x5 := h8.set.setB
  clear_value x5
  have h10 : Evolves s0 x6 := h9.setNat64.set
  clear_value x6
  exact h10.set

theorem Evolves.showNv {s : State} (ev : Evolves s0 s) :
    Evolves s0 s.showNv := by
  unfold State.showNv
  exact ev.setB

theorem Evolves.setQueue_ {s : State} {q : List NvTx} (ev : Evolves s0 s) :
    Evolves s0 (s.setQueue_ q) := by
  unfold State.setQueue_
  exact ev.upd.showNv

theorem Evolves.slotWrite {s : State} {k : Nat} {ty : Nat} {origin : Nat} (ev : Evolves s0 s) :
    Evolves s0 (s.slotWrite k ty origin) := by
  unfold State.slotWrite
  extract_lets x1 x2
  have h3 : Evolves s0 x2 := ev.setB.set.set
  clear_value x2
  exact h3.setB.bump

theorem Evolves.slotEmpty {s : State} {k : Nat} (ev : Evolves s0 s) :
    Evolves s0 (s.slotEmpty k) := by
  unfold State.slotEmpty
  extract_lets x1 x2
  have h3 : Evolves s0 x2 := ev.setB.set.set
  clear_value x2
  exact h3.setB

theorem Evolves.storeErased {s : State} (ev : Evolves s0 s) :
    Evolves s0 s.storeErased := by
  unfold State.storeErased
  extract_lets x1 x2
  have h3 : Evolves s0 x1 := ev.each (fun _ _ h4 => h4.slotEmpty)
  clear_value x1
  exact h3.upd.showStore

theorem Evolves.mapPut {s : State} {w0 : Nat} (ev : Evolves s0 s) :
    Evolves s0 (s.mapPut w0) := by
  unfold State.mapPut
  split
  · exact ev
  · extract_lets x1 x2 x3 x4
    have h5 : Evolves s0 x2 := ev.setNat.setNat
    clear_value x2
    have h6 : Evolves s0 x4 := h5.upd
    clear_value x4
    exact h6.set

theorem Evolves.opened {s : State} {mode : Nat} (ev : Evolves s0 s) :
    Evolves s0 (s.opened mode) := by
  unfold State.opened
  extract_lets x1 x2 x3 x4 x5 x6 x7 x8 x9 x10 x11 x12 x13
  have h14 : Evolves s0 x2 := ev.upd.storeErased
  clear_value x2
  have h15 : Evolves s0 x5 := h14.upd.showStore
  clear_value x5
  have h16 : Evolves s0 x6 := Evolves.ite h15.set.raise h14
  clear_value x6
  have h17 : Evolves s0 x7 := h16.cryErase.haltUsers
  clear_value x7
  have h18 : Evolves s0 x8 := by
    unfold x8
    split
    · exact Evolves.ite h17 h17.unblock.answer
    · exact h17
  clear_value x8
  have h19 : Evolves s0 x9 := h18.each (fun _ _ h20 => h20.closeSession)
  clear_value x9
  have h21 : Evolves s0 x11 := h19.upd.endLeave
  clear_value x11
  have h22 : Evolves s0 x12 := Evolves.ite h21.enterSafe h21
  clear_value x12
  have h23 : Evolves s0 x13 := h22.set
  clear_value x13
  exact h23.raise.raise

theorem Evolves.putEntry {s : State} {a : Nat} {n : Nat} {l : List Word} (ev : Evolves s0 s) :
    Evolves s0 (s.putEntry a n l) := by
  unfold State.putEntry
  exact ev.setWords

theorem Evolves.nvSeal {s : State} {z0 : NvOp} (ev : Evolves s0 s) :
    Evolves s0 (s.nvSeal z0) := by
  unfold State.nvSeal
  split
  · extract_lets x1 x2
    have h3 : Evolves s0 x2 := ev.upd.mapPut
    clear_value x2
    exact h3.raise.raise
  · extract_lets x4
    have h5 : Evolves s0 x4 := ev.set
    clear_value x4
    exact h5.raise.raise
  · exact Evolves.ite ev.upd (Evolves.ite ev.upd ev)
  · extract_lets x6 x7 x8 x9 x10 x11
    have h12 : Evolves s0 x8 := ev.upd.putEntry.showStore
    clear_value x8
    have h13 : Evolves s0 x9 := h12.each (fun _ _ h14 => h14.closeSession)
    clear_value x9
    have h15 : Evolves s0 x11 := Evolves.ite h13.setSession h12
    clear_value x11
    exact h15.raise
  · extract_lets x16 x17
    have h18 : Evolves s0 x17 := ev.upd.putEntry.showStore
    clear_value x17
    exact h18.raise
  · extract_lets x19 x20 x21
    have h22 : Evolves s0 x21 := ev.upd.putEntry
    clear_value x21
    exact h22.showStore.raise
  · extract_lets x23 x24
    have h25 : Evolves s0 x23 := ev.slotWrite.showStore
    clear_value x23
    exact h25.upd
  · extract_lets x26 x27 x28
    have h29 : Evolves s0 x27 := ev.upd.showStore
    clear_value x27
    exact h29.upd
  · extract_lets x30 x31
    have h32 : Evolves s0 x30 := ev.slotEmpty.showStore
    clear_value x30
    exact h32.upd
  · extract_lets x33 x34
    have h35 : Evolves s0 x33 := ev.slotWrite.slotWrite.showStore
    clear_value x33
    exact h35.upd.raise
  · exact ev.setB
  · exact ev.storeErased.raise
  · exact ev.opened

theorem Evolves.nvHome {s : State} {z0 : NvOp} (ev : Evolves s0 s) :
    Evolves s0 (s.nvHome z0) := by
  unfold State.nvHome
  split
  · exact ev.raise.raiseIf
  · exact ev

theorem Evolves.nvCommit {s : State} (ev : Evolves s0 s) :
    Evolves s0 s.nvCommit := by
  unfold State.nvCommit
  split
  · exact ev
  · extract_lets x1 x2
    have h3 : Evolves s0 x1 := ev.count64
    clear_value x1
    have h4 : Evolves s0 x2 := h3.setQueue_
    clear_value x2
    exact Evolves.ite (Evolves.ite h3.setQueue_ h4.nvSeal.showNv) (Evolves.ite h3.setQueue_ h3.setQueue_.nvHome)

theorem Evolves.nvAbandoned {s : State} (ev : Evolves s0 s) :
    Evolves s0 s.nvAbandoned := by
  unfold State.nvAbandoned
  exact ev.count.raise

theorem Evolves.nvCommitEnds {s : State} {readBack : Bool} {wear : Nat} (ev : Evolves s0 s) :
    Evolves s0 (s.nvCommitEnds readBack wear) := by
  unfold State.nvCommitEnds
  split
  · exact ev.count.raise
  · extract_lets x1 x2 x3 x4 x5
    have h6 : Evolves s0 x3 := ev.upd
    clear_value x3
    have h7 : Evolves s0 x4 := h6.set.raiseIf
    clear_value x4
    have h8 : Evolves s0 x5 := h7.nvCommit.sweepSealed
    clear_value x5
    split
    · exact h8
    · split
      · exact h8
      · split
        · exact h8
        · extract_lets x9 x10 x11
          have h12 : Evolves s0 x9 := Evolves.ite h8.nvAbandoned h8
          clear_value x9
          have h13 : Evolves s0 x11 := h12.upd
          clear_value x11
          exact h13.setQueue_

theorem Evolves.execNvScrubPass {corrected : Nat} {twice : Bool} {slots : List (Fin 512)} {user : Bool} {others : Nat} {s : State} (ev : Evolves s0 s) :
    Keeps s0 (execNvScrubPass corrected twice slots user others s) := by
  unfold Sys2Proof.Machine.execNvScrubPass
  exact ev.act (fun _ h1 => by
    extract_lets x2 x3 x4 x5 x6 x7 x8 x9 x10 x11 x12
    have h13 : Evolves s0 x4 := h1.upd
    clear_value x4
    have h14 : Evolves s0 x6 := h13.count.count
    clear_value x6
    have h15 : Evolves s0 x7 := h14.raiseIf
    clear_value x7
    have h16 : Evolves s0 x8 := h15.raiseIf
    clear_value x8
    have h17 : Evolves s0 x9 := h16.raiseIf
    clear_value x9
    have h18 : Evolves s0 x10 := (h17.each (fun _ _ h19 => h19.slotEmpty)).showStore
    clear_value x10
    have h20 : Evolves s0 x12 := Evolves.ite h18.upd h18
    clear_value x12
    exact Evolves.ite h1 h20.raise)

theorem Evolves.nvCut {s : State} {finish : Bool} (ev : Evolves s0 s) :
    Evolves s0 (s.nvCut finish) := by
  unfold State.nvCut
  extract_lets x1 x2 x3
  have h4 : Evolves s0 x1 := Evolves.ite ev.nvCommit ev
  clear_value x1
  exact h4.upd

theorem Evolves.journalReplay {s : State} (ev : Evolves s0 s) :
    Evolves s0 s.journalReplay := by
  unfold State.journalReplay
  extract_lets x1 x2 x3 x4
  have h5 : Evolves s0 x2 := Evolves.ite ev.setB.raise ev
  clear_value x2
  have h6 : Evolves s0 x3 := Evolves.ite h5.setB.raise.nvAbandoned h5
  clear_value x3
  exact h6.upd

end Sys2Proof.Machine
end

