-- ==== Sys2Proof/Laws/Cpu.lean ====
section
/-!
SUPPORT. Each operation of Machine/Cpu.lean: what it makes of a state has evolved from it (Safety).
-/

-- One declaration at a time: all at once need more threads than the check's memory limit allows.
set_option Elab.async false
namespace Sys2Proof.Machine

variable {s0 : State}

theorem Evolves.haltCore {s : State} {c : Nat} {cause : Nat} (ev : Evolves s0 s) :
    Evolves s0 (s.haltCore c cause) := by
  unfold State.haltCore
  exact ev.set.set

theorem Evolves.runCore {s : State} {c : Nat} (ev : Evolves s0 s) :
    Evolves s0 (s.runCore c) := by
  unfold State.runCore
  extract_lets x1
  exact ev.set.set

theorem Evolves.svcRestart {s : State} {kind : Nat} (ev : Evolves s0 s) :
    Evolves s0 (s.svcRestart kind) := by
  unfold State.svcRestart
  extract_lets x1 x2
  have h3 : Evolves s0 x1 := ev.each (fun _ _ h4 => h4.haltCore)
  clear_value x1
  exact h3.upd.set

theorem Evolves.execFwQuiesceDone {s : State} (ev : Evolves s0 s) :
    Keeps s0 (execFwQuiesceDone s) := by
  unfold Sys2Proof.Machine.execFwQuiesceDone
  exact ev.act (fun _ h1 => by exact Evolves.ite h1 h1.svcRestart)

theorem Evolves.execFwRunningReport {version : BitVec 16} {s : State} (ev : Evolves s0 s) :
    Keeps s0 (execFwRunningReport version s) := by
  unfold Sys2Proof.Machine.execFwRunningReport
  exact ev.act (fun _ h1 => by
    split
    · exact h1
    · extract_lets x2 x3 x4 x5 x6 x7 x8 x9
      have h10 : Evolves s0 x3 := h1.set.set
      clear_value x3
      have h11 : Evolves s0 x4 := h10.set
      clear_value x4
      have h12 : Evolves s0 x5 := h11.each (fun _ _ h13 => h13.runCore)
      clear_value x5
      have h14 : Evolves s0 x8 := h12.upd
      clear_value x8
      have h15 : Evolves s0 x9 := h14.raise.nvRequest
      clear_value x9
      exact Evolves.ite h15.set h14.set)

theorem Evolves.execFwReplaceTimeout {s : State} (ev : Evolves s0 s) :
    Keeps s0 (execFwReplaceTimeout s) := by
  unfold Sys2Proof.Machine.execFwReplaceTimeout
  exact ev.act (fun _ h1 => by exact Evolves.ite h1 h1.upd.raise)

theorem Evolves.execCoreWatchdog {core : Fin 8} {s : State} (ev : Evolves s0 s) :
    Keeps s0 (execCoreWatchdog core s) := by
  unfold Sys2Proof.Machine.execCoreWatchdog
  exact ev.act (fun _ h1 => by
    extract_lets x2 x3 x4
    have h5 : Evolves s0 x3 := h1.raise
    clear_value x3
    have h6 : Evolves s0 x4 := h5.svcRestart.haltCore
    clear_value x4
    exact Evolves.ite h1 (Evolves.ite h6.count h5.haltUsers))

theorem Evolves.execCoreException {core : Fin 8} {s : State} (ev : Evolves s0 s) :
    Keeps s0 (execCoreException core s) := by
  unfold Sys2Proof.Machine.execCoreException
  exact ev.act (fun _ h1 => by
    extract_lets x2
    exact Evolves.ite h1 h1.haltCore.nextFree.raise)

theorem Evolves.cpuCtrl {s : State} {v : Nat} (ev : Evolves s0 s) :
    Evolves s0 (s.cpuCtrl v).st := by
  unfold State.cpuCtrl
  extract_lets x1 x2 x3 x4
  have h5 : Evolves s0 x4 := ev.setNat
  clear_value x4
  split
  · exact ev.no
  · exact Evolves.ok (Evolves.ite h5.set (Evolves.ite h5.haltUsers h5))

theorem Evolves.execUserVerifyDone {good : Bool} {s : State} (ev : Evolves s0 s) :
    Keeps s0 (execUserVerifyDone good s) := by
  unfold Sys2Proof.Machine.execUserVerifyDone
  exact ev.act (fun _ h1 => by
    extract_lets x2 x3
    have h4 : Evolves s0 x3 := h1.each (fun _ _ h5 => h5.runCore)
    clear_value x3
    exact Evolves.ite h1 (Evolves.ite h4.set.raise h1.set.raise))

theorem Evolves.pmuClear {s : State} {c : Nat} (ev : Evolves s0 s) :
    Evolves s0 (s.pmuClear c) := by
  unfold State.pmuClear
  exact ev.setWords

theorem Evolves.cpuCmd {s : State} {v : Nat} (ev : Evolves s0 s) :
    Evolves s0 (s.cpuCmd v) := by
  unfold State.cpuCmd
  exact Evolves.ite ev (Evolves.ite (ev.each (fun _ _ h1 => h1.pmuClear)) ev.pmuClear)

theorem Evolves.execPmuSample {core : Fin 8} {counters : BitVec 8} {pc : BitVec 64} {s : State} (ev : Evolves s0 s) :
    Keeps s0 (execPmuSample core counters pc s) := by
  unfold Sys2Proof.Machine.execPmuSample
  exact ev.act (fun _ h1 => by
    extract_lets x2 x3 x4 x5 x6 x7 x8 x9
    have h10 : Evolves s0 x8 := h1.upd
    clear_value x8
    have h11 : Evolves s0 x9 := h10.setNat64.count
    clear_value x9
    exact Evolves.ite h1 h11.raise)

theorem Evolves.coreTick {s : State} {cyc c : Nat} (ev : Evolves s0 s) : Evolves s0 (s.coreTick cyc c) := by
  unfold State.coreTick
  extract_lets b en f ret flu nof blk b0 b1 b2 n0 n1 causes free s1 s2 s3 s4 s5
  have h1 : Evolves s0 s1 := ev.draw
  clear_value s1
  have h2 : Evolves s0 s2 := Evolves.ite h1.count64 h1
  clear_value s2
  have h3 : Evolves s0 s3 := Evolves.ite h2.count64 h2
  clear_value s3
  have h4 : Evolves s0 s4 := h3.each fun k t h => by exact Evolves.ite h.hpmAdd h
  clear_value s4
  have h5 : Evolves s0 s5 := h4.count64.count64
  clear_value s5
  exact Evolves.ite ev (Evolves.ite h4 h5.count64.count64)

theorem Evolves.pmuCtrl {s : State} {off : Nat} {v : Nat} (ev : Evolves s0 s) :
    Evolves s0 (s.pmuCtrl off v) := by
  unfold State.pmuCtrl
  extract_lets x1 x2 x3 x4
  exact ev.upd.setNat

theorem Evolves.wrCPU {off : Nat} {v : Nat} {s : State} (ev : Evolves s0 s) :
    Evolves s0 (wrCPU off v s).st := by
  unfold Sys2Proof.Machine.wrCPU
  split
  · exact ev.cpuCtrl
  · split
    · exact ev.cpuCmd.ok
    · split
      · exact ev.pmuCtrl.ok
      · exact ev.setNat.ok

end Sys2Proof.Machine
end

