-- ==== Sys2Proof/Laws/Hka.lean ====
section
/-!
SUPPORT. Each operation of Machine/Hka.lean: what it makes of a state has evolved from it (Safety).
-/

-- One declaration at a time: all at once need more threads than the check's memory limit allows.
set_option Elab.async false
namespace Sys2Proof.Machine

variable {s0 : State}

theorem Evolves.hkPaused {s : State} (ev : Evolves s0 s) :
    Evolves s0 s.hkPaused := by
  unfold State.hkPaused
  exact ev.setB

theorem Evolves.hkBegin {s : State} {w : Nat} (ev : Evolves s0 s) :
    Evolves s0 (s.hkBegin w) := by
  unfold State.hkBegin
  extract_lets x1 x2
  exact ev.upd

theorem Evolves.hkClear {s : State} {result : Nat → Nat} {len : Nat} (ev : Evolves s0 s) :
    Evolves s0 (s.hkClear result len) := by
  unfold State.hkClear
  exact ev.each (fun _ _ h1 => h1.setB)

theorem Evolves.scanStart {s : State} (ev : Evolves s0 s) :
    Evolves s0 s.scanStart := by
  unfold State.scanStart
  extract_lets x1 x2 x3 x4
  have h5 : Evolves s0 x2 := ev.hkClear
  clear_value x2
  have h6 : Evolves s0 x3 := h5.set.set
  clear_value x3
  have h7 : Evolves s0 x4 := h6.setB.setB
  clear_value x4
  exact h7.hkBegin.hkPaused

theorem Evolves.tipStart {s : State} (ev : Evolves s0 s) :
    Evolves s0 s.tipStart := by
  unfold State.tipStart
  extract_lets x1 x2 x3
  have h4 : Evolves s0 x2 := ev.hkClear
  clear_value x2
  have h5 : Evolves s0 x3 := h4.set.set
  clear_value x3
  exact h5.hkBegin.hkPaused

theorem Evolves.hkNext {s : State} (ev : Evolves s0 s) :
    Evolves s0 s.hkNext := by
  unfold State.hkNext
  extract_lets x1 x2 x3
  have h4 : Evolves s0 x2 := ev.set
  clear_value x2
  have h5 : Evolves s0 x3 := h4.set.setB
  clear_value x3
  exact Evolves.ite h4.setB.tipStart (Evolves.ite h4.hkPaused (Evolves.ite h5.hkBegin.hkPaused (Evolves.ite h4.scanStart h4.hkPaused)))

theorem Evolves.scanOverrun {s : State} (ev : Evolves s0 s) :
    Evolves s0 s.scanOverrun := by
  unfold State.scanOverrun
  exact ev.count.raise

theorem Evolves.scanTrigger {s : State} (ev : Evolves s0 s) :
    Evolves s0 s.scanTrigger := by
  unfold State.scanTrigger
  exact Evolves.ite ev (Evolves.ite ev.count (Evolves.ite ev.scanOverrun (Evolves.ite ev.setB.hkPaused ev.scanStart)))

theorem Evolves.tipTrigger {s : State} {cause : Nat} (ev : Evolves s0 s) :
    Evolves s0 (s.tipTrigger cause) := by
  unfold State.tipTrigger
  split
  · exact ev
  · extract_lets x1 x2 x3 x4 x5 x6 x7
    have h8 : Evolves s0 x2 := ev.setNat.setNat64
    clear_value x2
    have h9 : Evolves s0 x3 := Evolves.ite h8.setB h8
    clear_value x3
    have h10 : Evolves s0 x4 := h9.raiseIf
    clear_value x4
    have h11 : Evolves s0 x7 := Evolves.ite h10.upd h10
    clear_value x7
    exact Evolves.ite ev.count.raise (Evolves.ite h8.setB h11.tipStart)

theorem Evolves.hkShedEnd {s : State} (ev : Evolves s0 s) :
    Evolves s0 s.hkShedEnd := by
  unfold State.hkShedEnd
  exact Evolves.ite ev.hkNext ev.hkPaused

theorem Evolves.execScanTimerTick {s : State} (ev : Evolves s0 s) :
    Keeps s0 (execScanTimerTick s) := by
  unfold Sys2Proof.Machine.execScanTimerTick
  exact ev.act (fun _ h1 => by exact Evolves.ite h1.upd.scanTrigger h1)

theorem Evolves.execTipInTrigger {droop : Bool} {guard : Bool} {pin : Bool} {s : State} (ev : Evolves s0 s) :
    Keeps s0 (execTipInTrigger droop guard pin s) := by
  unfold Sys2Proof.Machine.execTipInTrigger
  exact ev.act (fun _ h1 => h1.tipTrigger)

theorem Evolves.hkKeep {s : State} {a : Nat} {raw : Int} {overload : Bool} (ev : Evolves s0 s) :
    Evolves s0 (s.hkKeep a raw overload) := by
  unfold State.hkKeep
  extract_lets x1 x2 x3 x4
  have h5 : Evolves s0 x2 := ev.setI
  clear_value x2
  have h6 : Evolves s0 x3 := h5.setB.setB.setB
  clear_value x3
  have h7 : Evolves s0 x4 := h6.set
  clear_value x4
  exact h7.raiseIf

theorem Evolves.execHkaEntryDone {v : Int} {peak : Nat} {s : State} (ev : Evolves s0 s) :
    Keeps s0 (execHkaEntryDone v peak s) := by
  unfold Sys2Proof.Machine.execHkaEntryDone
  exact ev.act (fun _ h1 => by
    extract_lets x2 x3 x4 x5 x6 x7 x8 x9 x10
    have h11 : Evolves s0 x7 := h1.hkKeep
    clear_value x7
    have h12 : Evolves s0 x9 := h1.hkKeep
    clear_value x9
    have h13 : Evolves s0 x10 := h12.raise
    clear_value x10
    exact Evolves.ite h1 (Evolves.ite (Evolves.ite h11.raise.hkNext (Evolves.ite h11.set h11.set.hkBegin)) (Evolves.ite (Evolves.ite (Evolves.ite h13.hkNext h13.set) (Evolves.ite h12.set h12.set.hkBegin)) h1)))

theorem Evolves.scanStop {s : State} (ev : Evolves s0 s) :
    Evolves s0 s.scanStop := by
  unfold State.scanStop
  extract_lets x1 x2
  have h3 : Evolves s0 x2 := Evolves.ite ev.set ev
  clear_value x2
  exact h3.setB.setB.hkPaused

theorem Evolves.hkCal {s : State} (ev : Evolves s0 s) :
    Evolves s0 s.hkCal := by
  unfold State.hkCal
  exact Evolves.ite ev ev.upd.set

theorem Evolves.execHkaCalDone {zeroSum : Int} {refSum : Int} {s : State} (ev : Evolves s0 s) :
    Keeps s0 (execHkaCalDone zeroSum refSum s) := by
  unfold Sys2Proof.Machine.execHkaCalDone
  exact ev.act (fun _ h1 => by
    split
    · exact h1
    · extract_lets x2 x3 x4 x5 x6 x7 x8 x9 x10
      have h11 : Evolves s0 x8 := h1.upd
      clear_value x8
      have h12 : Evolves s0 x9 := h11.set
      clear_value x9
      have h13 : Evolves s0 x10 := h12.setI.set
      clear_value x10
      exact Evolves.ite h13.setB.raise h12.raise)

theorem Evolves.wrHKA {off : Nat} {v : Nat} {s : State} (ev : Evolves s0 s) :
    Evolves s0 (wrHKA off v s).st := by
  unfold Sys2Proof.Machine.wrHKA
  extract_lets x1 x2 x3 x4 x5
  have h6 : Evolves s0 x2 := Evolves.ite ev.scanStop ev
  clear_value x2
  have h7 : Evolves s0 x3 := Evolves.ite h6.scanTrigger h6
  clear_value x3
  have h8 : Evolves s0 x5 := Evolves.ite ev.upd ev
  clear_value x5
  split
  · split
    · exact ev.no
    · exact Evolves.ok (Evolves.ite h7.hkCal h7)
  · split
    · split
      · exact ev.no
      · exact ev.setNat.ok
    · split
      · split
        · exact ev.no
        · exact ev.setNat.ok
      · split
        · split
          · exact ev.no
          · exact ev.setNat.ok
        · split
          · exact h8.setNat.ok
          · exact ev.setNat.ok

end Sys2Proof.Machine
end

