-- ==== Sys2Proof/Laws/Pwr.lean ====
section
/-!
SUPPORT. Each operation of Machine/Pwr.lean: what it makes of a state has evolved from it (Safety).
-/

-- One declaration at a time: all at once need more threads than the check's memory limit allows.
set_option Elab.async false
namespace Sys2Proof.Machine

variable {s0 : State}

theorem Evolves.execGovPeriod {readings : List (Option Nat)} {s : State} (ev : Evolves s0 s) :
    Keeps s0 (execGovPeriod readings s) := by
  unfold Sys2Proof.Machine.execGovPeriod
  exact ev.act (fun _ h1 => by
    extract_lets x2 x3 x4 x5 x6 x7 x8 x9 x10 x11 x12 x13 x14 x15 x16 x17 x18 x19 x20
    have h21 : Evolves s0 x5 := h1.upd
    clear_value x5
    have h22 : Evolves s0 x8 := h21.upd.count
    clear_value x8
    have h23 : Evolves s0 x9 := h21.upd
    clear_value x9
    have h24 : Evolves s0 x11 := h23.each (fun _ _ h25 => h25.set)
    clear_value x11
    have h26 : Evolves s0 x13 := h24.set
    clear_value x13
    have h27 : Evolves s0 x17 := h26.set.raiseIf
    clear_value x17
    have h28 : Evolves s0 x20 := h27.setB
    clear_value x20
    exact Evolves.ite h1 (Evolves.ite h22.raiseIf h28.raiseIf.allCaps))

theorem Evolves.execAvsEval {slack : Nat} {ulinear16 : Bool} {commandOk : Bool} {s : State} (ev : Evolves s0 s) :
    Keeps s0 (execAvsEval slack ulinear16 commandOk s) := by
  unfold Sys2Proof.Machine.execAvsEval
  exact ev.act (fun _ h1 => by
    extract_lets x2 x3 x4 x5 x6 x7 x8 x9 x10 x11 x12 x13
    have h14 : Evolves s0 x10 := h1.upd
    clear_value x10
    have h15 : Evolves s0 x11 := h14.set.set
    clear_value x11
    exact Evolves.ite h1 (Evolves.ite h1.upd.raise h15.setB.raiseIf))

theorem Evolves.showGate {s : State} {gated : Bool} {cycles : Nat} (ev : Evolves s0 s) :
    Evolves s0 (s.showGate gated cycles) := by
  unfold State.showGate
  extract_lets x1
  exact ev.each (fun _ _ h2 => by
    extract_lets x3 x4
    have h5 : Evolves s0 x4 := h2.set
    clear_value x4
    exact Evolves.ite (Evolves.ite h2.set h2) (Evolves.ite h2 (Evolves.ite h5 (h5.each (fun _ _ h6 => by exact Evolves.ite h6.hpmAdd h6)))))

theorem Evolves.coreGate {s : State} (ev : Evolves s0 s) :
    Evolves s0 s.coreGate := by
  unfold State.coreGate
  extract_lets x1 x2 x3 x4
  have h5 : Evolves s0 x2 := ev.setB
  clear_value x2
  clear_value x1
  split
  · exact h5.upd.showGate
  · extract_lets x6 x7
    have h8 : Evolves s0 x6 := h5.showGate
    clear_value x6
    exact h8.upd
  · exact h5

theorem Evolves.droopTrip {s : State} {detector : Nat} (ev : Evolves s0 s) :
    Evolves s0 (s.droopTrip detector) := by
  unfold State.droopTrip
  extract_lets x1 x2 x3 x4 x5 x6 x7 x8 x9 x10 x11 x12 x13 x14
  have h15 : Evolves s0 x3 := ev.setB
  clear_value x3
  have h16 : Evolves s0 x5 := h15.set.count64
  clear_value x5
  have h17 : Evolves s0 x6 := h16.raise
  clear_value x6
  have h18 : Evolves s0 x13 := h17.upd
  clear_value x13
  have h19 : Evolves s0 x14 := h18.raiseIf
  clear_value x14
  exact Evolves.ite h19.allCaps.coreGate.tipTrigger h19.coreGate

theorem Evolves.execDroopTrip {detector : Fin 6} {fall : Nat} {s : State} (ev : Evolves s0 s) :
    Keeps s0 (execDroopTrip detector fall s) := by
  unfold Sys2Proof.Machine.execDroopTrip
  exact ev.act (fun _ h1 => by exact Evolves.ite h1 h1.droopTrip)

theorem Evolves.execDroopShedEnd {s : State} (ev : Evolves s0 s) :
    Keeps s0 (execDroopShedEnd s) := by
  unfold Sys2Proof.Machine.execDroopShedEnd
  exact ev.act (fun _ h1 => by exact Evolves.ite h1 h1.setB.allCaps.coreGate.hkShedEnd)

theorem Evolves.execCoreGateWindow {s : State} (ev : Evolves s0 s) :
    Keeps s0 (execCoreGateWindow s) := by
  unfold Sys2Proof.Machine.execCoreGateWindow
  exact ev.act (fun _ h1 => h1.coreGate)

theorem Evolves.sensorJudge {s : State} {far : Bool} {i : Nat} (ev : Evolves s0 s) :
    Evolves s0 (s.sensorJudge far i) := by
  unfold State.sensorJudge
  extract_lets x1 x2 x3 x4 x5
  have h6 : Evolves s0 x3 := ev.upd
  clear_value x3
  have h7 : Evolves s0 x4 := h6.setB.setB
  clear_value x4
  have h8 : Evolves s0 x5 := h7.setB
  clear_value x5
  exact Evolves.ite h6 h8.raise

theorem Evolves.sampleRate {s : State} {t : Int} (ev : Evolves s0 s) :
    Evolves s0 (s.sampleRate t) := by
  unfold State.sampleRate
  extract_lets x1 x2 x3 x4 x5 x6
  exact Evolves.ite ev.upd.set (Evolves.ite ev.upd.set ev.upd)

theorem Evolves.nlcThermal {s : State} {t : Int} {dt : Nat} {n : Nat} (ev : Evolves s0 s) :
    Evolves s0 (s.nlcThermal t dt n) := by
  unfold State.nlcThermal
  split
  · exact ev.nlcHoldBegin
  · split
    · exact ev
    · split
      · exact ev.setRx
      · split
        · exact ev.setRx
        · exact Evolves.ite ev.nlcHoldEnd ev.setRx

theorem Evolves.thermalShutdown {s : State} {sensor : Nat} {t : Int} (ev : Evolves s0 s) :
    Evolves s0 (s.thermalShutdown sensor t) := by
  unfold State.thermalShutdown
  extract_lets x1 x2 x3 x4 x5
  have h6 : Evolves s0 x2 := ev.setI.set
  clear_value x2
  have h7 : Evolves s0 x3 := h6.setB
  clear_value x3
  have h8 : Evolves s0 x4 := h7.each (fun _ _ h9 => h9.outCause)
  clear_value x4
  exact h8.upd.refreshAlarm

theorem Evolves.maxSeen {s : State} {t : Int} (ev : Evolves s0 s) :
    Evolves s0 (s.maxSeen t) := by
  unfold State.maxSeen
  exact Evolves.ite ev.upd.setI ev

theorem Evolves.throttleTime {s : State} {dt : Nat} (ev : Evolves s0 s) :
    Evolves s0 (s.throttleTime dt) := by
  unfold State.throttleTime
  split
  · exact ev
  · extract_lets x1 x2
    exact ev.upd.count

theorem Evolves.thresholds {s : State} {t : Int} {dt : Nat} (ev : Evolves s0 s) :
    Evolves s0 (s.thresholds t dt) := by
  unfold State.thresholds
  extract_lets x1 x2 x3 x4 x5 x6 x7 x8 x9 x10 x11 x12
  have h13 : Evolves s0 x3 := ev.throttleTime
  clear_value x3
  have h14 : Evolves s0 x5 := Evolves.ite h13.setB.raise (Evolves.ite h13.setB.raise h13)
  clear_value x5
  have h15 : Evolves s0 x8 := h14.setB.raiseIf
  clear_value x8
  have h16 : Evolves s0 x9 := h15.raiseIf
  clear_value x9
  have h17 : Evolves s0 x12 := h16.setB.raiseIf
  clear_value x12
  exact Evolves.ite h17 h17.nlcThermal.nlcThermal.allCaps

theorem Evolves.thmSample {s : State} {temps : List Int} (ev : Evolves s0 s) :
    Evolves s0 (s.thmSample temps) := by
  unfold State.thmSample
  extract_lets x1 x2 x3 x4 x5 x6 x7 x8 x9 x10 x11 x12 x13 x14 x15
  have h16 : Evolves s0 x4 := ev.each (fun _ _ h17 => by
    extract_lets x18
    have h19 : Evolves s0 x18 := h17.setI
    clear_value x18
    exact h19.setB)
  clear_value x4
  have h20 : Evolves s0 x6 := h16.each (fun _ _ h21 => h21.sensorJudge)
  clear_value x6
  have h22 : Evolves s0 x8 := h20.raiseIf
  clear_value x8
  have h23 : Evolves s0 x10 := h22.upd
  clear_value x10
  have h24 : Evolves s0 x15 := h23.upd
  clear_value x15
  clear_value x11
  split
  · exact Evolves.ite h24 h24.allCaps
  · extract_lets x25 x26 x27 x28
    have h29 : Evolves s0 x26 := h24.setI.set
    clear_value x26
    have h30 : Evolves s0 x27 := h29.maxSeen.sampleRate.thresholds
    clear_value x27
    clear_value x28
    split
    · exact h30
    · split
      · exact h30
      · extract_lets x31
        exact h30.thermalShutdown

theorem Evolves.execThmSample {temps : List Int} {s : State} (ev : Evolves s0 s) :
    Keeps s0 (execThmSample temps s) := by
  unfold Sys2Proof.Machine.execThmSample
  split
  · exact Keeps.next ev
  · split
    · refine Keeps.next ?_
      extract_lets x1
      have h2 : Evolves s0 x1 := ev.thmSample
      clear_value x1
      exact h2.upd
    · exact ev.thmSample.done

theorem Evolves.wrPWR {off : Nat} {v : Nat} {s : State} (ev : Evolves s0 s) :
    Evolves s0 (wrPWR off v s).st := by
  unfold Sys2Proof.Machine.wrPWR
  extract_lets x1 x2
  split
  · split
    · exact ev.no
    · exact ev.setNat.ok
  · exact ev.setNat.syncPower.ok

end Sys2Proof.Machine
end

