-- ==== Sys2Proof/Laws/Frm.lean ====
section
/-!
SUPPORT. Each operation of Machine/Frm.lean: what it makes of a state has evolved from it (Safety).
-/

-- One declaration at a time: all at once need more threads than the check's memory limit allows.
set_option Elab.async false
namespace Sys2Proof.Machine

variable {s0 : State}

theorem Evolves.gridFollow {s : State} {n : Nat} {v : Nat} {lock : Bool} (ev : Evolves s0 s) :
    Evolves s0 (s.gridFollow n v lock) := by
  unfold State.gridFollow
  extract_lets x1 x2 x3 x4
  have h5 : Evolves s0 x3 := ev.setRx
  clear_value x3
  exact Evolves.ite h5 (Evolves.alignedUp (Evolves.ite h5.setFrm h5))

theorem Evolves.searchPass {s : State} {n : Nat} {i : Nat} {bytes : List Nat} (ev : Evolves s0 s) :
    Evolves s0 (s.searchPass n i bytes) := by
  unfold State.searchPass
  extract_lets x1 x2 x3 x4 x5 x6
  have h7 : Evolves s0 x6 := ev.bumpBy
  clear_value x6
  split
  · exact h7.setStream
  · extract_lets x8 x9
    have h10 : Evolves s0 x9 := h7.setStream.raise
    clear_value x9
    exact Evolves.gthFollow (Evolves.ite h10.leafRegain.gridFollow h10)

theorem Evolves.alignLost {s : State} {n : Nat} {i : Nat} (ev : Evolves s0 s) :
    Evolves s0 (s.alignLost n i) := by
  unfold State.alignLost
  extract_lets x1 x2 x3 x4 x5
  have h6 : Evolves s0 x2 := ev.setStream
  clear_value x2
  have h7 : Evolves s0 x3 := h6.count.raise
  clear_value x3
  have h8 : Evolves s0 x4 := h7.gthFollow
  clear_value x4
  exact Evolves.ite h8.setFrm.raise h8

theorem Evolves.psQuire {s : State} {n : Nat} (ev : Evolves s0 s) :
    Evolves s0 (s.psQuire n) := by
  unfold State.psQuire
  extract_lets x1 x2
  split
  · split
    · exact ev.setFrm.raise
    · extract_lets x3 x4
      have h5 : Evolves s0 x4 := ev.setNat.setFrm
      clear_value x4
      exact Evolves.ite h5.setNat.raise.psAccepted h5
  · exact ev

theorem Evolves.psFolio {s : State} {n : Nat} {k : Nat} {v : Option Nat} (ev : Evolves s0 s) :
    Evolves s0 (s.psFolio n k v) := by
  unfold State.psFolio
  extract_lets x1 x2 x3
  have h4 : Evolves s0 x3 := ev.setFrm
  clear_value x3
  exact Evolves.ite h4.psQuire h4

theorem Evolves.capAccept {s : State} {n : Nat} {w : Nat} (ev : Evolves s0 s) :
    Evolves s0 (s.capAccept n w) := by
  unfold State.capAccept
  extract_lets x1 x2 x3 x4 x5 x6 x7 x8 x9
  have h10 : Evolves s0 x2 := ev.setNat.setNat
  clear_value x2
  have h11 : Evolves s0 x3 := h10.setB
  clear_value x3
  have h12 : Evolves s0 x6 := h11.setNat
  clear_value x6
  have h13 : Evolves s0 x7 := h12.raiseIf
  clear_value x7
  exact Evolves.ite h13 h13.set.setFrm

theorem Evolves.capFolio {s : State} {n : Nat} {w : Option Nat} (ev : Evolves s0 s) :
    Evolves s0 (s.capFolio n w) := by
  unfold State.capFolio
  extract_lets x1
  split
  · exact ev.setFrm
  · extract_lets x2 x3 x4 x5 x6
    have h7 : Evolves s0 x2 := ev.set
    clear_value x2
    have h8 : Evolves s0 x5 := h7.setFrm
    clear_value x5
    exact Evolves.ite h8.capAccept h8

theorem Evolves.traceAccept {s : State} {n : Nat} {t : List Nat} (ev : Evolves s0 s) :
    Evolves s0 (s.traceAccept n t) := by
  unfold State.traceAccept
  extract_lets x1 x2 x3 x4
  have h5 : Evolves s0 x2 := ev.setWords
  clear_value x2
  exact Evolves.ite h5 h5.setB.raiseIf

theorem Evolves.traceFolio {s : State} {n : Nat} {c : Nat} {v : Option Nat} (ev : Evolves s0 s) :
    Evolves s0 (s.traceFolio n c v) := by
  unfold State.traceFolio
  extract_lets x1 x2 x3
  split
  · exact ev.setFrm
  · split
    · exact ev.setFrm
    · extract_lets x4 x5 x6
      have h7 : Evolves s0 x6 := ev.setFrm
      clear_value x6
      exact Evolves.ite ev.setFrm (Evolves.ite h7.traceAccept h7)

theorem Evolves.rdiFolio {s : State} {n : Nat} {i : Nat} {rdi : Bool} (ev : Evolves s0 s) :
    Evolves s0 (s.rdiFolio n i rdi) := by
  unfold State.rdiFolio
  extract_lets x1 x2 x3 x4 x5
  have h6 : Evolves s0 x5 := ev.setStream
  clear_value x5
  exact h6.raiseIf.raiseIf

theorem Evolves.erroredFolio {s : State} {n : Nat} {i : Nat} (ev : Evolves s0 s) :
    Evolves s0 (s.erroredFolio n i) := by
  unfold State.erroredFolio
  extract_lets x1 x2
  have h3 : Evolves s0 x1 := ev.count
  clear_value x1
  have h4 : Evolves s0 x2 := h3.pm
  clear_value x2
  exact h4.each (fun _ _ h5 => h5.pm)

theorem Evolves.bipFolio {s : State} {n : Nat} {i : Nat} {bip : Nat} (ev : Evolves s0 s) :
    Evolves s0 (s.bipFolio n i bip) := by
  unfold State.bipFolio
  extract_lets x1 x2
  split
  · exact ev.setFrm
  · extract_lets x3 x4 x5 x6 x7 x8
    have h9 : Evolves s0 x4 := ev.setStream
    clear_value x4
    have h10 : Evolves s0 x6 := h9.setFrm
    clear_value x6
    have h11 : Evolves s0 x7 := h10.count64
    clear_value x7
    have h12 : Evolves s0 x8 := h11.pm
    clear_value x8
    exact Evolves.ite h12.erroredFolio h12

theorem Evolves.farFolio {s : State} {n : Nat} {i : Nat} {bei : Nat} {rdi : Bool} (ev : Evolves s0 s) :
    Evolves s0 (s.farFolio n i bei rdi) := by
  unfold State.farFolio
  extract_lets x1 x2 x3
  have h4 : Evolves s0 x1 := ev.count64
  clear_value x1
  have h5 : Evolves s0 x2 := Evolves.ite h4.set h4
  clear_value x2
  have h6 : Evolves s0 x3 := h5.pm
  clear_value x3
  exact h6.rdiFolio

theorem Evolves.mcUnit {s : State} {n : Nat} {mc1 : Bool} {u : List Nat} (ev : Evolves s0 s) :
    Evolves s0 (s.mcUnit n mc1 u) := by
  unfold State.mcUnit
  extract_lets x1 x2
  exact ev.setFrm

theorem Evolves.headFields {s : State} {n : Nat} {c : Nat} {z0 : List Nat} (ev : Evolves s0 s) :
    Evolves s0 (s.headFields n c z0) := by
  unfold State.headFields
  extract_lets x1 x2 x3 x4 x5 x6 x7 x8 x9 x10 x11
  have h12 : Evolves s0 x2 := ev.bipFolio
  clear_value x2
  have h13 : Evolves s0 x3 := h12.farFolio
  clear_value x3
  have h14 : Evolves s0 x4 := h13.setNat
  clear_value x4
  have h15 : Evolves s0 x5 := h14.each (fun _ _ h16 => by
    split
    · exact Evolves.ite h16.pm h16
    · exact h16)
  clear_value x5
  have h17 : Evolves s0 x6 := h15.psFolio.capFolio.traceFolio
  clear_value x6
  have h18 : Evolves s0 x7 := h17.mcUnit.mcUnit
  clear_value x7
  have h19 : Evolves s0 x9 := h18.setFrm
  clear_value x9
  have h20 : Evolves s0 x10 := h19.setWords
  clear_value x10
  exact Evolves.ite h20.setFrm.raise h19

theorem Evolves.spineFields {s : State} {n : Nat} {i : Nat} {z0 : List Nat} (ev : Evolves s0 s) :
    Evolves s0 (s.spineFields n i z0) := by
  unfold State.spineFields
  extract_lets x1
  have h2 : Evolves s0 x1 := ev.bipFolio.farFolio
  clear_value x1
  exact Evolves.ite h2.mcUnit h2

theorem Evolves.missedFields {s : State} {n : Nat} {i : Nat} {c : Option Nat} (ev : Evolves s0 s) :
    Evolves s0 (s.missedFields n i c) := by
  unfold State.missedFields
  extract_lets x1 x2 x3 x4 x5 x6 x7 x8
  have h9 : Evolves s0 x2 := ev.setStream
  clear_value x2
  have h10 : Evolves s0 x4 := h9.setFrm
  clear_value x4
  have h11 : Evolves s0 x5 := h10.count
  clear_value x5
  have h12 : Evolves s0 x6 := h11.capFolio
  clear_value x6
  have h13 : Evolves s0 x8 := h12.setFrm
  clear_value x8
  split
  · split
    · exact h13.psFolio.traceFolio
    · exact h13
  · exact Evolves.ite h10.count h10

theorem Evolves.lockedFolio {s : State} {n : Nat} {i : Nat} {absent0 : Bool} {folio : List Nat} (ev : Evolves s0 s) :
    Evolves s0 (s.lockedFolio n i absent0 folio).fst := by
  unfold State.lockedFolio
  extract_lets x1 x2 x3 x4 x5 x6 x7 x8 x9 x10 x11
  have h12 : Evolves s0 x5 := ev.setStream
  clear_value x5
  have h13 : Evolves s0 x8 := Evolves.ite h12.headFields h12.spineFields
  clear_value x8
  have h14 : Evolves s0 x9 := Evolves.ite h13.gridFollow h13
  clear_value x9
  have h15 : Evolves s0 x11 := h12.count.missedFields
  clear_value x11
  exact Evolves.iteF Prod.fst h14.setStream (Evolves.ite h15.alignLost.showFrm.calHold h15)

theorem Evolves.uncFolio {s : State} {n : Nat} {i : Nat} {bad : Bool} (ev : Evolves s0 s) :
    Evolves s0 (s.uncFolio n i bad) := by
  unfold State.uncFolio
  extract_lets x1 x2 x3 x4 x5 x6 x7 x8
  have h9 : Evolves s0 x8 := ev.setStream
  clear_value x8
  exact h9.raiseIf.raiseIf

theorem Evolves.giveSlots {s : State} {n : Nat} {i : Nat} {ones : Bool} {sd : Bool} {good : Bool} {plain : List Nat} (ev : Evolves s0 s) :
    Evolves s0 (s.giveSlots n i ones sd good plain) := by
  unfold State.giveSlots
  extract_lets x1 x2 x3
  exact ev.each (fun _ _ h4 => by
    extract_lets x5 x6 x7
    split
    · extract_lets x8
      exact h4.setFrm)

theorem Evolves.execFolioRx {n : Fin 2} {i : Fin 16} {s : State} (ev : Evolves s0 s) :
    Keeps s0 (execFolioRx n i s) := by
  unfold Sys2Proof.Machine.execFolioRx
  exact ev.act (fun _ h1 => by
    extract_lets x2 x3 x4
    have h5 : Evolves s0 x4 := h1.setFec
    clear_value x4
    split
    · exact h1
    · extract_lets x6 x7 x8 x9 x10 x11 x12 x13
      have h14 : Evolves s0 x8 := Evolves.ite h5.count h5
      clear_value x8
      have h15 : Evolves s0 x12 := h14.setStream
      clear_value x12
      split
      · rename_i y16 y17 y18 y19
        have h20 : Evolves s0 y17 := (congrArg (fun z => Evolves s0 z.1) y19).mp (Evolves.iteF Prod.fst h14.missedFields.searchPass (Evolves.iteF Prod.fst h15.setStream h15.lockedFolio))
        extract_lets x21 x22 x23 x24 x25 x26 x27 x28
        have h29 : Evolves s0 x22 := h20.setStream
        clear_value x22
        have h30 : Evolves s0 x23 := Evolves.ite h29.erroredFolio h29
        clear_value x23
        have h31 : Evolves s0 x24 := h30.uncFolio
        clear_value x24
        have h32 : Evolves s0 x25 := h31.showFrm
        clear_value x25
        have h33 : Evolves s0 x28 := h32.pm
        clear_value x28
        exact h33.giveSlots)

theorem Evolves.execSdSecond {n : Fin 2} {i : Fin 16} {s : State} (ev : Evolves s0 s) :
    Keeps s0 (execSdSecond n i s) := by
  unfold Sys2Proof.Machine.execSdSecond
  exact ev.act (fun _ h1 => by
    split
    · exact h1
    · extract_lets x2 x3 x4 x5 x6 x7
      have h8 : Evolves s0 x6 := h1.setStream
      clear_value x6
      have h9 : Evolves s0 x7 := h8.raiseIf.raiseIf
      clear_value x7
      exact h9.showFrm)

theorem Evolves.alignRestart {s : State} {n : Nat} (ev : Evolves s0 s) :
    Evolves s0 (s.alignRestart n) := by
  unfold State.alignRestart
  extract_lets x1 x2 x3
  have h4 : Evolves s0 x1 := ev.each (fun _ _ h5 => by
    extract_lets x6
    exact Evolves.ite h5 h5.setStream)
  clear_value x1
  have h7 : Evolves s0 x3 := h4.setFrm
  clear_value x3
  exact h7.showFrm.gthFollow

theorem Evolves.giveBurst {s : State} {n : Nat} {leaf : Nat} {good : Bool} {plain : List Nat} (ev : Evolves s0 s) :
    Evolves s0 (s.giveBurst n leaf good plain) := by
  unfold State.giveBurst
  extract_lets x1 x2
  exact ev.each (fun _ _ h3 => by
    split
    · extract_lets x4 x5
      exact h3.setFrm)

theorem Evolves.execBurstSpineCheck {n : Fin 2} {i : Fin 16} {s : State} (ev : Evolves s0 s) :
    Keeps s0 (execBurstSpineCheck n i s) := by
  unfold Sys2Proof.Machine.execBurstSpineCheck
  exact ev.act (fun _ h1 => by
    extract_lets x2 x3 x4 x5
    have h6 : Evolves s0 x4 := h1.setBurstRx.setFec
    clear_value x4
    have h7 : Evolves s0 x5 := h6.count.raise
    clear_value x5
    split
    · extract_lets x8 x9 x10 x11 x12 x13 x14 x15
      have h16 : Evolves s0 x13 := h6.count64.count64
      clear_value x13
      have h17 : Evolves s0 x14 := h16.pm
      clear_value x14
      have h18 : Evolves s0 x15 := h17.mcUnit
      clear_value x15
      exact Evolves.ite h18.giveBurst h7.giveBurst
    · exact h1)

theorem Evolves.setOspFifo {s : State} {p : Nat} {l : List (List Nat)} (ev : Evolves s0 s) : Evolves s0 (s.setOspFifo p l) := by
  have h : Evolves s0 { s with osp := Tab.put (fun _ => []) s.osp p l } :=
    ev.trans ⟨rfl, rfl, List.prefix_refl _, Nat.le_refl _,
      fun k => ⟨k.regs, k.pages, k.osp.put p l, k.gath, k.pg, k.cry, k.ports, k.fbl, k.mem, k.sessions, k.requesters⟩⟩
  exact h.set

theorem Evolves.mcSend {s : State} {n : Nat} {mc1 : Bool} {k : Nat} {core : Option (List Nat)} (ev : Evolves s0 s) :
    Evolves s0 (s.mcSend n mc1 k core).snd := by
  unfold State.mcSend
  extract_lets x1 x2 x3
  split
  · split
    · exact ev
    · split
      · exact ev
      · split
        · exact ev
        · exact ev.setOspFifo
  · split
    · exact ev.setFrm
    · exact ev
  · exact ev

theorem Evolves.takeUnits {s : State} {n : Nat} (ev : Evolves s0 s) :
    Evolves s0 (s.takeUnits n) := by
  unfold State.takeUnits
  exact ev.each (fun _ _ h1 => by
    split
    · exact h1
    · extract_lets x2 x3
      split
      · exact h1.setFrm
      · exact h1.setFrm)

theorem Evolves.takeBursts {s : State} {n : Nat} {c : Nat} (ev : Evolves s0 s) :
    Evolves s0 (s.takeBursts n c) := by
  unfold State.takeBursts
  extract_lets x1 x2 x3 x4
  have h5 : Evolves s0 x3 := ev.setSub
  clear_value x3
  split
  · exact ev
  · split
    · exact h5.setFrm
    · exact h5

theorem Evolves.handFolio {s : State} {n : Nat} {c : Nat} {outs : List (TxPart × List Nat)} (ev : Evolves s0 s) :
    Evolves s0 (s.handFolio n c outs) := by
  unfold State.handFolio
  split
  · exact ev
  · extract_lets x1 x2
    have h3 : Evolves s0 x1 := ev.each (fun _ _ h4 => by
      extract_lets x5 x6
      exact h4.setFec)
    clear_value x1
    exact h3.setTx

theorem Evolves.execFolioTx {n : Fin 2} {core : Option (List (BitVec 8))} {s : State} (ev : Evolves s0 s) :
    Keeps s0 (execFolioTx n core s) := by
  unfold Sys2Proof.Machine.execFolioTx
  exact ev.act (fun _ h1 => by
    extract_lets x2 x3 x4 x5 x6 x7 x8 x9
    have h10 : Evolves s0 x7 := h1.raiseIf
    clear_value x7
    have h11 : Evolves s0 x8 := h10.setFrm
    clear_value x8
    have h12 : Evolves s0 x9 := h11.setB
    clear_value x9
    split
    · exact h1
    · split
      · rename_i y13 y14 y15 y16
        have h17 : Evolves s0 y15 := (congrArg (fun z => Evolves s0 z.2) y16).mp h12.mcSend
        split
        · rename_i y18 y19 y20 y21
          have h22 : Evolves s0 y20 := (congrArg (fun z => Evolves s0 z.2) y21).mp (Evolves.iteF Prod.snd h17 h17.mcSend)
          extract_lets x23 x24 x25 x26 x27 x28 x29
          have h30 : Evolves s0 x24 := h22.takeUnits.takeBursts
          clear_value x24
          have h31 : Evolves s0 x27 := h30.each (fun _ _ h32 => by exact Evolves.ite h32 h32.setFrm)
          clear_value x27
          have h33 : Evolves s0 x29 := h31.setFrm
          clear_value x29
          exact h33.handFolio)

theorem Evolves.execOspExtractUnit {n : Fin 2} {mc1 : Bool} {s : State} (ev : Evolves s0 s) :
    Keeps s0 (execOspExtractUnit n mc1 s) := by
  unfold Sys2Proof.Machine.execOspExtractUnit
  exact ev.act (fun _ h1 => by
    extract_lets x2
    split
    · exact h1
    · extract_lets x3
      have h4 : Evolves s0 x3 := h1.setFrm
      clear_value x3
      exact Evolves.ite h4 (h4.each (fun _ _ h5 => h5.send)))

theorem Evolves.execOspInsertUnit {p : Fin 4} {unit : List (BitVec 8)} {cut : Bool} {s : State} (ev : Evolves s0 s) :
    Keeps s0 (execOspInsertUnit p unit cut s) := by
  unfold Sys2Proof.Machine.execOspInsertUnit
  exact ev.act (fun _ h1 => by
    extract_lets x2 x3
    exact Evolves.ite h1 (Evolves.ite h1.count.raise (Evolves.ite h1.count.raise h1.setOspFifo)))

theorem Evolves.wrFRM {n : Nat} {off : Nat} {v : Nat} {s : State} (ev : Evolves s0 s) :
    Evolves s0 (wrFRM n off v s).st := by
  unfold Sys2Proof.Machine.wrFRM
  split
  · extract_lets x1 x2
    have h3 : Evolves s0 x1 := Evolves.ite ev.alignRestart ev
    clear_value x1
    exact Evolves.ok (Evolves.ite h3.setFrm h3)
  · exact ev.setNat.ok

theorem Evolves.wrOSP {off : Nat} {v : Nat} {s : State} (ev : Evolves s0 s) :
    Evolves s0 (wrOSP off v s).st := by
  unfold Sys2Proof.Machine.wrOSP
  extract_lets x1 x2
  split
  · exact ev.no
  · exact ev.setNat.ok

end Sys2Proof.Machine
end

