-- ==== Sys2Proof/Laws/Cal.lean ====
section
/-!
SUPPORT. Each operation of Machine/Cal.lean: what it makes of a state has evolved from it (Safety).
-/

-- One declaration at a time: all at once need more threads than the check's memory limit allows.
set_option Elab.async false
namespace Sys2Proof.Machine

variable {s0 : State}

theorem Evolves.setUnitAt {s : State} {n : Nat} {c : Nat} {p : Nat} {u : Nat} (ev : Evolves s0 s) :
    Evolves s0 (s.setUnitAt n c p u) := by
  unfold State.setUnitAt
  exact ev.set

theorem Evolves.setErrs {s : State} {n : Nat} {e : Nat} {err : List Int} (ev : Evolves s0 s) :
    Evolves s0 (s.setErrs n e err) := by
  unfold State.setErrs
  exact ev.each (fun _ _ h1 => h1.setI)

theorem Evolves.formUpdate {s : State} {n : Nat} {c : Nat} {weak : Bool} {errs : Nat → List Int} (ev : Evolves s0 s) :
    Evolves s0 (s.formUpdate n c weak errs) := by
  unfold State.formUpdate
  split
  · exact ev
  · extract_lets x1 x2 x3 x4 x5 x6 x7
    have h8 : Evolves s0 x4 := ev.raiseIf
    clear_value x4
    have h9 : Evolves s0 x6 := Evolves.ite h8 h8.count
    clear_value x6
    exact h9.setCal

theorem Evolves.showSpares {s : State} {n : Nat} {c : Nat} (ev : Evolves s0 s) :
    Evolves s0 (s.showSpares n c) := by
  unfold State.showSpares
  exact ev.set

theorem Evolves.showSwap {s : State} {n : Nat} {stage : Nat} (ev : Evolves s0 s) :
    Evolves s0 (s.showSwap n stage) := by
  unfold State.showSwap
  extract_lets x1 x2
  have h3 : Evolves s0 x2 := ev.set.setB
  clear_value x2
  split
  · exact h3
  · extract_lets x4
    have h5 : Evolves s0 x4 := h3.set.set.set
    clear_value x4
    exact h5.set

theorem Evolves.startSwap {s : State} {n : Nat} {c : Nat} {p : Nat} (ev : Evolves s0 s) :
    Evolves s0 (s.startSwap n c p) := by
  unfold State.startSwap
  split
  · exact ev.setCal.showSwap.raise
  · extract_lets x1 x2 x3 x4 x5 x6
    have h7 : Evolves s0 x2 := ev.setRole.set
    clear_value x2
    have h8 : Evolves s0 x6 := h7.setCal
    clear_value x6
    exact h8.showSpares.showSwap

theorem Evolves.retireUnit {s : State} {n : Nat} {c : Nat} {u : Nat} (ev : Evolves s0 s) :
    Evolves s0 (s.retireUnit n c u) := by
  unfold State.retireUnit
  exact ev.setRole.showSpares.repair

theorem Evolves.nextSwap {s : State} {n : Nat} (ev : Evolves s0 s) :
    Evolves s0 (s.nextSwap n) := by
  unfold State.nextSwap
  extract_lets x1
  split
  · exact ev.setCal
  · split
    · exact ev.setCal.startSwap
    · exact ev

theorem Evolves.healthFail {s : State} {n : Nat} {c : Nat} {u : Nat} {cause : Nat} (ev : Evolves s0 s) :
    Evolves s0 (s.healthFail n c u cause) := by
  unfold State.healthFail
  extract_lets x1 x2 x3 x4 x5
  have h6 : Evolves s0 x3 := ev.setCal
  clear_value x3
  have h7 : Evolves s0 x4 := h6.set.raise
  clear_value x4
  split
  · exact ev
  · split
    · exact h7
    · exact Evolves.ite h7 (Evolves.ite h7.raise h7.setCal.sweepYield)

theorem Evolves.judge {s : State} {n : Nat} {c : Nat} {p : Nat} {err : List Int} {stuck : Bool} {low : Bool} (ev : Evolves s0 s) :
    Evolves s0 (s.judge n c p err stuck low) := by
  unfold State.judge
  extract_lets x1 x2 x3 x4 x5 x6 x7 x8
  have h9 : Evolves s0 x3 := ev.setErrs
  clear_value x3
  have h10 : Evolves s0 x7 := h9.setCal
  clear_value x7
  exact Evolves.ite h10 h10.healthFail

theorem Evolves.periodBegin {s : State} {n : Nat} {c : Nat} {t : Nat} (ev : Evolves s0 s) :
    Evolves s0 (s.periodBegin n c t) := by
  unfold State.periodBegin
  exact ev.setCal

theorem Evolves.convPeriod {s : State} {n : Nat} {c : Nat} {weak : Bool} {errs : List (List Int)} {stuck : Nat → Bool} {low : Nat → Bool} (ev : Evolves s0 s) :
    Evolves s0 (s.convPeriod n c weak errs stuck low) := by
  unfold State.convPeriod
  extract_lets x1
  have h2 : Evolves s0 x1 := ev.each (fun _ _ h3 => h3.judge)
  clear_value x1
  exact h2.formUpdate.periodBegin

theorem Evolves.adcPeriod {s : State} {n : Nat} {adc : List AdcStats} (ev : Evolves s0 s) :
    Evolves s0 (s.adcPeriod n adc) := by
  unfold State.adcPeriod
  extract_lets x1 x2 x3 x4 x5 x6
  have h7 : Evolves s0 x4 := ev.nextFree
  clear_value x4
  have h8 : Evolves s0 x5 := h7.each (fun _ _ h9 => by
    extract_lets x10 x11 x12 x13
    have h14 : Evolves s0 x11 := h9.set.set
    clear_value x11
    have h15 : Evolves s0 x12 := h14.set
    clear_value x12
    have h16 : Evolves s0 x13 := h15.raiseIf
    clear_value x13
    exact h16.convPeriod)
  clear_value x5
  exact Evolves.ite h8 h8.setB.raiseIf

theorem Evolves.obsNext {s : State} {n : Nat} (ev : Evolves s0 s) :
    Evolves s0 (s.obsNext n) := by
  unfold State.obsNext
  extract_lets x1
  exact Evolves.ite ev.setCal ev.setCal

theorem Evolves.dacPeriod {s : State} {n : Nat} {fits : List DacFit} (ev : Evolves s0 s) :
    Evolves s0 (s.dacPeriod n fits) := by
  unfold State.dacPeriod
  extract_lets x1 x2 x3 x4
  exact Evolves.ite ev ev.nextFree.convPeriod.obsNext

theorem Evolves.spareCorrect {s : State} {n : Nat} {e : Nat} {err : List Int} (ev : Evolves s0 s) :
    Evolves s0 (s.spareCorrect n e err) := by
  unfold State.spareCorrect
  exact ev.each (fun _ _ h1 => by
    extract_lets x2 x3 x4
    exact Evolves.ite h1 h1.setCode)

theorem Evolves.sparePeriod {s : State} {n : Nat} {adc : List AdcStats} {fits : List DacFit} {m : SpareMeas} (ev : Evolves s0 s) :
    Evolves s0 (s.sparePeriod n adc fits m) := by
  unfold State.sparePeriod
  split
  · exact ev
  · split
    · exact ev
    · split
      · exact ev
      · extract_lets x1 x2 x3 x4 x5 x6 x7
        have h8 : Evolves s0 x2 := ev.nextFree.setErrs
        clear_value x2
        have h9 : Evolves s0 x4 := h8.spareCorrect
        clear_value x4
        have h10 : Evolves s0 x7 := h9.setCal
        clear_value x7
        exact h10.showSwap.raiseIf

theorem Evolves.bisect {s : State} {n : Nat} {e : Nat} {k : Nat} {x : Int} (ev : Evolves s0 s) :
    Evolves s0 (s.bisect n e k x) := by
  unfold State.bisect
  split
  · exact ev
  · extract_lets x1 x2 x3 x4 x5
    exact Evolves.ite ev ev.setCal.setCode

theorem Evolves.fullMeasure {s : State} {n : Nat} {e : Nat} {err : List Int} (ev : Evolves s0 s) :
    Evolves s0 (s.fullMeasure n e err) := by
  unfold State.fullMeasure
  extract_lets x1 x2 x3 x4 x5 x6
  have h7 : Evolves s0 x1 := ev.setErrs
  clear_value x1
  have h8 : Evolves s0 x4 := h7.each (fun _ _ h9 => h9.bisect)
  clear_value x4
  exact Evolves.ite (Evolves.ite h8.setCal h8) h7.setCal

theorem Evolves.fullAdvance {s : State} {n : Nat} (ev : Evolves s0 s) :
    Evolves s0 (s.fullAdvance n) := by
  unfold State.fullAdvance
  extract_lets x1
  exact Evolves.ite ev.setCal ev

theorem Evolves.fullPeriod {s : State} {n : Nat} {adc : List AdcStats} {fits : List DacFit} {spares : List SpareMeas} (ev : Evolves s0 s) :
    Evolves s0 (s.fullPeriod n adc fits spares) := by
  unfold State.fullPeriod
  extract_lets x1 x2 x3 x4 x5 x6 x7
  have h8 : Evolves s0 x4 := ev.nextFree.each (fun _ _ h9 => by
    extract_lets x10
    exact h9.each (fun _ _ h11 => h11.fullMeasure))
  clear_value x4
  have h12 : Evolves s0 x5 := h8.each (fun _ _ h13 => h13.fullMeasure)
  clear_value x5
  have h14 : Evolves s0 x6 := h12.each (fun _ _ h15 => h15.fullMeasure)
  clear_value x6
  exact Evolves.fullAdvance (Evolves.ite h14 h14.setCal)

theorem Evolves.showD2d {s : State} {n : Nat} (ev : Evolves s0 s) :
    Evolves s0 (s.showD2d n) := by
  unfold State.showD2d
  extract_lets x1
  exact ev.setB

theorem Evolves.fullStart {s : State} {n : Nat} {byUp : Bool} (ev : Evolves s0 s) :
    Evolves s0 (s.fullStart n byUp) := by
  unfold State.fullStart
  extract_lets x1 x2 x3
  have h4 : Evolves s0 x1 := Evolves.ite ev (ev.each (fun _ _ h5 => h5.setNat))
  clear_value x1
  have h6 : Evolves s0 x3 := h4.calDrop.setCal
  clear_value x3
  exact h6.set.showOut

theorem Evolves.fullGranted {s : State} {n : Nat} (ev : Evolves s0 s) :
    Evolves s0 (s.fullGranted n) := by
  unfold State.fullGranted
  exact ev.fullStart.pllFollow

theorem Evolves.pllBringUp {s : State} {n : Nat} (ev : Evolves s0 s) :
    Evolves s0 (s.pllBringUp n) := by
  unfold State.pllBringUp
  extract_lets x1 x2 x3 x4 x5
  have h6 : Evolves s0 x2 := ev.setCal
  clear_value x2
  have h7 : Evolves s0 x4 := h6.setTx
  clear_value x4
  have h8 : Evolves s0 x5 := h7.showOut.laserEnabled
  clear_value x5
  exact Evolves.ite h8 (Evolves.ite h8.fullStart h8.bringUpCalDone)

theorem Evolves.execLinePllLocked {n : Fin 2} {s : State} (ev : Evolves s0 s) :
    Keeps s0 (execLinePllLocked n s) := by
  unfold Sys2Proof.Machine.execLinePllLocked
  exact ev.act (fun _ h1 => by
    extract_lets x2 x3 x4 x5
    have h6 : Evolves s0 x3 := h1.setB.raise
    clear_value x3
    have h7 : Evolves s0 x5 := h6.setCal.showD2d
    clear_value x5
    exact Evolves.ite h1 (Evolves.ite h7.pllBringUp h7))

theorem Evolves.execLinePllUnlock {n : Fin 2} {s : State} (ev : Evolves s0 s) :
    Keeps s0 (execLinePllUnlock n s) := by
  unfold Sys2Proof.Machine.execLinePllUnlock
  exact ev.act (fun _ h1 => by
    split
    · exact h1
    · extract_lets x2
      have h3 : Evolves s0 x2 := h1.setB.bump
      clear_value x2
      exact h3.showD2d.raise)

theorem Evolves.execSigOkChange {n : Fin 2} {ok : Bool} {s : State} (ev : Evolves s0 s) :
    Keeps s0 (execSigOkChange n ok s) := by
  unfold Sys2Proof.Machine.execSigOkChange
  exact ev.act (fun _ h1 => by
    extract_lets x2 x3 x4
    have h5 : Evolves s0 x3 := h1.setB
    clear_value x3
    have h6 : Evolves s0 x4 := Evolves.ite (h5.each (fun _ _ h7 => h7.periodBegin)) h5
    clear_value x4
    exact h6.raiseIf.calHold)

theorem Evolves.execCalPeriodEnd {n : Fin 2} {adc : List AdcStats} {dac : List DacPos} {spares : List SpareMeas} {s : State} (ev : Evolves s0 s) :
    Keeps s0 (execCalPeriodEnd n adc dac spares s) := by
  unfold Sys2Proof.Machine.execCalPeriodEnd
  exact ev.act (fun _ h1 => by
    split
    · exact h1
    · extract_lets x2 x3 x4 x5 x6 x7
      have h8 : Evolves s0 x5 := h1.each (fun _ _ h9 => h9.sparePeriod)
      clear_value x5
      have h10 : Evolves s0 x6 := Evolves.ite h8 h8.adcPeriod
      clear_value x6
      have h11 : Evolves s0 x7 := Evolves.ite h10 h10.dacPeriod
      clear_value x7
      exact Evolves.ite h1.fullPeriod h11.nextSwap.calHold)

theorem Evolves.stepCode {s : State} {n : Nat} {x : CodeStep} (ev : Evolves s0 s) :
    Evolves s0 (s.stepCode n x) := by
  unfold State.stepCode
  extract_lets x1
  have h2 : Evolves s0 x1 := ev.setCode
  clear_value x1
  exact h2.bump

theorem Evolves.committed {s : State} {n : Nat} (ev : Evolves s0 s) :
    Evolves s0 (s.committed n) := by
  unfold State.committed
  extract_lets x1
  have h2 : Evolves s0 x1 := ev.setNat64
  clear_value x1
  exact h2.setNat64

theorem Evolves.holdEnd {s : State} {n : Nat} (ev : Evolves s0 s) :
    Evolves s0 (s.holdEnd n) := by
  unfold State.holdEnd
  exact Evolves.ite ev.setB.raise ev

theorem Evolves.slotTake {s : State} {n : Nat} {tx : Bool} (ev : Evolves s0 s) :
    Evolves s0 (s.slotTake n tx) := by
  unfold State.slotTake
  exact ev.setCal

theorem Evolves.execCalGutterCommit {n : Fin 2} {tx : Bool} {gap : Option Nat} {s : State} (ev : Evolves s0 s) :
    Keeps s0 (execCalGutterCommit n tx gap s) := by
  unfold Sys2Proof.Machine.execCalGutterCommit
  exact ev.act (fun _ h1 => by
    extract_lets x2 x3 x4
    split
    · exact h1
    · split
      · exact h1.calHold
      · split
        · split
          · exact h1
          · extract_lets x5 x6 x7
            have h8 : Evolves s0 x5 := h1.each (fun _ _ h9 => h9.stepCode)
            clear_value x5
            have h10 : Evolves s0 x7 := h8.setCal
            clear_value x7
            exact h10.periodBegin.slotTake.committed.holdEnd
        · exact Evolves.ite (Evolves.ite h1 ((((h1.each (fun _ _ h11 => h11.stepCode)).slotTake).committed).holdEnd)) h1)

theorem Evolves.execSpareSwapCommit {n : Fin 2} {s : State} (ev : Evolves s0 s) :
    Keeps s0 (execSpareSwapCommit n s) := by
  unfold Sys2Proof.Machine.execSpareSwapCommit
  exact ev.act (fun _ h1 => by
    split
    · exact h1
    · extract_lets x2 x3 x4 x5 x6 x7 x8 x9
      have h10 : Evolves s0 x3 := h1.setUnitAt.setRole
      clear_value x3
      have h11 : Evolves s0 x4 := h10.repair.retireUnit
      clear_value x4
      have h12 : Evolves s0 x5 := h11.useSpare
      clear_value x5
      have h13 : Evolves s0 x7 := h12.setCal.slotTake
      clear_value x7
      have h14 : Evolves s0 x8 := h13.showSwap.raise.nextSwap
      clear_value x8
      exact Evolves.ite h1 (Evolves.ite h14 h14.setRx))

theorem Evolves.execSparePrecalTimeout {n : Fin 2} {s : State} (ev : Evolves s0 s) :
    Keeps s0 (execSparePrecalTimeout n s) := by
  unfold Sys2Proof.Machine.execSparePrecalTimeout
  exact ev.act (fun _ h1 => by
    split
    · exact h1
    · split
      · exact h1
      · extract_lets x2
        have h3 : Evolves s0 x2 := h1.retireUnit.useSpare
        clear_value x2
        exact h3.raise.startSwap)

theorem Evolves.execFullCalDone {n : Fin 2} {obsFail : Bool} {s : State} (ev : Evolves s0 s) :
    Keeps s0 (execFullCalDone n obsFail s) := by
  unfold Sys2Proof.Machine.execFullCalDone
  exact ev.act (fun _ h1 => by
    extract_lets x2 x3 x4 x5 x6 x7 x8 x9 x10
    have h11 : Evolves s0 x4 := h1.fullEnd
    clear_value x4
    have h12 : Evolves s0 x6 := h11.setCal
    clear_value x6
    have h13 : Evolves s0 x7 := h12.setB.raise
    clear_value x7
    have h14 : Evolves s0 x8 := h13.raiseIf
    clear_value x8
    have h15 : Evolves s0 x9 := h14.raiseIf
    clear_value x9
    have h16 : Evolves s0 x10 := h15.each (fun _ _ h17 => by exact Evolves.ite h17.healthFail h17.set)
    clear_value x10
    exact Evolves.ite h1 h16.nextSwap.pllFollow.bringUpCalDone)

theorem Evolves.d2dLaneFail {s : State} {n : Nat} {d : Nat} {lane : Nat} {bySweep : Bool} (ev : Evolves s0 s) :
    Evolves s0 (s.d2dLaneFail n d lane bySweep) := by
  unfold State.d2dLaneFail
  extract_lets x1
  exact Evolves.ite ev (Evolves.ite ev.setCal.showD2d.raise ev.setCal.showD2d)

theorem Evolves.execD2dLaneFail {n : Fin 2} {toCore : Bool} {lane : Fin 528} {s : State} (ev : Evolves s0 s) :
    Keeps s0 (execD2dLaneFail n toCore lane s) := by
  unfold Sys2Proof.Machine.execD2dLaneFail
  exact ev.act (fun _ h1 => h1.sweepYield.d2dLaneFail)

theorem Evolves.execD2dLaneExchange {n : Fin 2} {toCore : Bool} {s : State} (ev : Evolves s0 s) :
    Keeps s0 (execD2dLaneExchange n toCore s) := by
  unfold Sys2Proof.Machine.execD2dLaneExchange
  exact ev.act (fun _ h1 => by
    extract_lets x2 x3 x4
    split
    · exact h1
    · split
      · exact h1
      · extract_lets x5 x6 x7 x8 x9
        have h10 : Evolves s0 x5 := h1.setCal.slotTake
        clear_value x5
        have h11 : Evolves s0 x6 := h10.bump
        clear_value x6
        have h12 : Evolves s0 x7 := h11.showD2d.raise
        clear_value x7
        have h13 : Evolves s0 x8 := h12.raiseIf
        clear_value x8
        have h14 : Evolves s0 x9 := h13.raiseIf
        clear_value x9
        exact h14.repair.useSpare)

theorem Evolves.calMode {s : State} {n : Nat} {old : Nat} {new : Nat} (ev : Evolves s0 s) :
    Evolves s0 (s.calMode n old new) := by
  unfold State.calMode
  extract_lets x1 x2 x3
  have h4 : Evolves s0 x2 := Evolves.ite ev.setCal.setB ev
  clear_value x2
  have h5 : Evolves s0 x3 := Evolves.ite (h4.each (fun _ _ h6 => h6.setNat)) h4
  clear_value x3
  exact h5.calHold

theorem Evolves.calFull {s : State} {n : Nat} (ev : Evolves s0 s) :
    Evolves s0 (s.calFull n).st := by
  unfold State.calFull
  split
  · exact ev.no
  · split
    · exact ev.ok
    · split
      · rename_i y1 y2 y3
        have h4 : Evolves s0 y2 := (congrArg (fun z => Evolves s0 z.2) y3).mp ev.requestLeave
        exact h4.fullGranted.ok
      · rename_i y5 y6 y7
        have h8 : Evolves s0 y6 := (congrArg (fun z => Evolves s0 z.2) y7).mp ev.requestLeave
        exact h8.ok
      · rename_i y9 y10 y11
        have h12 : Evolves s0 y10 := (congrArg (fun z => Evolves s0 z.2) y11).mp ev.requestLeave
        exact h12.no

theorem Evolves.calSwap {s : State} {n : Nat} {c : Nat} {p : Nat} (ev : Evolves s0 s) :
    Evolves s0 (s.calSwap n c p).st := by
  unfold State.calSwap
  split
  · exact ev.no
  · exact ev.startSwap.ok

theorem Evolves.calAbort {s : State} {n : Nat} (ev : Evolves s0 s) :
    Evolves s0 (s.calAbort n) := by
  unfold State.calAbort
  split
  · exact ev
  · extract_lets x1 x2
    have h3 : Evolves s0 x1 := ev.setRole
    clear_value x1
    exact h3.setCal.showSpares.showSwap

theorem Evolves.wrCAL {n : Nat} {off : Nat} {v : Nat} {s : State} (ev : Evolves s0 s) :
    Evolves s0 (wrCAL n off v s).st := by
  unfold Sys2Proof.Machine.wrCAL
  extract_lets x1 x2 x3 x4 x5
  have h6 : Evolves s0 x3.st := by
    unfold x3
    split
    · exact ev.calAbort.ok
    · exact ev.ok
  clear_value x3
  have h7 : Evolves s0 x4.st := by
    unfold x4
    split
    · exact h6.calSwap
    · exact h6
  clear_value x4
  have h8 : Evolves s0 x5.st := h7.calFull
  clear_value x5
  split
  · exact ev.setNat.calMode.ok
  · split
    · split
      · exact ev.no
      · split
        · split
          · exact ev.no
          · exact h8
        · exact h7
    · exact ev.setNat.ok

theorem Evolves.winCAL {n : Nat} {a : Nat} {v : Nat} {s : State} (ev : Evolves s0 s) :
    Evolves s0 (winCAL n a v s).st := by
  unfold Sys2Proof.Machine.winCAL
  split
  · exact ev.no
  · split
    · exact ev.no
    · exact ev.setNat.ok

end Sys2Proof.Machine
end

