-- ==== Sys2Proof/Laws/Rpr.lean ====
section
/-!
SUPPORT. Each operation of Machine/Rpr.lean: what it makes of a state has evolved from it (Safety).
-/

-- One declaration at a time: all at once need more threads than the check's memory limit allows.
set_option Elab.async false
namespace Sys2Proof.Machine

variable {s0 : State}

theorem Evolves.sramUse {s : State} {array : Nat} {row : Bool} (ev : Evolves s0 s) :
    Evolves s0 (s.sramUse array row) := by
  unfold State.sramUse
  extract_lets x1 x2
  exact Evolves.ite ev.upd ev.upd

theorem Evolves.sramRepair {s : State} {array : Nat} {line : Nat} {row : Bool} (ev : Evolves s0 s) :
    Evolves s0 (s.sramRepair array line row) := by
  unfold State.sramRepair
  extract_lets x1 x2 x3 x4
  have h5 : Evolves s0 x3 := ev.sramUse.set
  clear_value x3
  have h6 : Evolves s0 x4 := h5.repair
  clear_value x4
  exact Evolves.ite ev h6.raise.raiseIf

theorem Evolves.sweepGranted {s : State} (ev : Evolves s0 s) :
    Evolves s0 s.sweepGranted := by
  unfold State.sweepGranted
  split
  · exact ev.endLeave.showRpr
  · extract_lets x1 x2 x3
    have h4 : Evolves s0 x2 := ev.upd.set
    clear_value x2
    have h5 : Evolves s0 x3 := Evolves.ite h4 (h4.each (fun _ _ h6 => by exact Evolves.ite h6 h6.set))
    clear_value x3
    exact h5.showRpr.raise

theorem Evolves.sweepAsk {s : State} (ev : Evolves s0 s) :
    Evolves s0 s.sweepAsk.st := by
  unfold State.sweepAsk
  split
  · rename_i y1 y2 y3
    have h4 : Evolves s0 y2 := (congrArg (fun z => Evolves s0 z.2) y3).mp ev.requestLeave
    exact h4.sweepGranted.ok
  · rename_i y5 y6 y7
    have h8 : Evolves s0 y6 := (congrArg (fun z => Evolves s0 z.2) y7).mp ev.requestLeave
    exact h8.showRpr.ok
  · rename_i y9 y10 y11
    have h12 : Evolves s0 y10 := (congrArg (fun z => Evolves s0 z.2) y11).mp ev.requestLeave
    exact h12.raise.no

theorem Evolves.execSweepPeriod {s : State} (ev : Evolves s0 s) : Keeps s0 (execSweepPeriod s) := by
  unfold Machine.execSweepPeriod
  refine Evolves.act ev fun s ev => Evolves.ite ev ?_
  have h1 : Evolves s0 { s with rpr := { s.rpr with periodAt := s.now } } := ev.upd
  exact Evolves.ite h1 h1.sweepAsk

theorem Evolves.condemn {s : State} {z0 : SweepHit} (ev : Evolves s0 s) :
    Evolves s0 (s.condemn z0) := by
  unfold State.condemn
  extract_lets x1 x2
  have h3 : ∀ (t : State), Evolves s0 t → Evolves s0 (x1 t) := fun _ h4 => h4.raise
  have h5 : ∀ (t : State), Evolves s0 t → Evolves s0 (x2 t) := fun _ h6 => h6.raise
  split
  · exact h3 _ ev.sramRepair
  · exact Evolves.ite ev (h3 _ ev.sliceFail)
  · exact Evolves.ite (h3 _ ev.engineFail) (Evolves.ite (h5 _ ev.engineSpareFail) ev)
  · extract_lets x7 x8 x9
    have h10 : Evolves s0 x8 := ev.setCal
    clear_value x8
    have h11 : Evolves s0 x9 := h10.raiseIf
    clear_value x9
    exact Evolves.ite ev (h5 _ h11.repair.useSpare)
  · exact h3 _ ev.d2dLaneFail
  · exact Evolves.ite ev (h5 _ ev.retireUnit.useSpare)

theorem Evolves.ageing {s : State} {losses : List Nat} (ev : Evolves s0 s) :
    Evolves s0 (s.ageing losses) := by
  unfold State.ageing
  extract_lets x1 x2 x3 x4
  have h5 : Evolves s0 x3 := ev.each (fun _ _ h6 => by
    extract_lets x7 x8 x9 x10 x11
    have h12 : Evolves s0 x8 := h6.set
    clear_value x8
    have h13 : Evolves s0 x10 := Evolves.ite h12.setB.raise h12
    clear_value x10
    exact Evolves.ite h13.upd.raise h13)
  clear_value x3
  exact h5.set.set

theorem Evolves.execSweepClassDone {hits : List SweepHit} {untested : Nat} {losses : List (BitVec 16)} {s : State} (ev : Evolves s0 s) :
    Keeps s0 (execSweepClassDone hits untested losses s) := by
  unfold Sys2Proof.Machine.execSweepClassDone
  exact ev.act (fun _ h1 => by
    split
    · exact h1
    · extract_lets x2 x3 x4 x5 x6 x7 x8
      have h9 : Evolves s0 x5 := h1.each (fun _ _ h10 => h10.condemn)
      clear_value x5
      have h11 : Evolves s0 x6 := Evolves.ite h9.sweepUnshadow (Evolves.ite h9.ageing h9)
      clear_value x6
      have h12 : Evolves s0 x7 := h11.count.raiseIf
      clear_value x7
      exact h12.upd.sweepSealed)

theorem Evolves.memBist {s : State} {c : Nat} (ev : Evolves s0 s) :
    Evolves s0 (s.memBist c).st := by
  unfold State.memBist
  extract_lets x1
  split
  · exact ev.no
  · split
    · exact ev.ok
    · split
      · rename_i y2 y3 y4
        have h5 : Evolves s0 y3 := (congrArg (fun z => Evolves s0 z.2) y4).mp ev.requestLeave
        exact h5.no
      · rename_i y6 y7 y8 y9 y10
        have h11 : Evolves s0 y8 := (congrArg (fun z => Evolves s0 z.2) y10).mp ev.requestLeave
        exact h11.upd.showRpr.ok

theorem Evolves.execMemBistDone {pass : Bool} {s : State} (ev : Evolves s0 s) :
    Keeps s0 (execMemBistDone pass s) := by
  unfold Sys2Proof.Machine.execMemBistDone
  exact ev.act (fun _ h1 => by
    split
    · exact h1
    · split
      · exact h1
      · extract_lets x2 x3 x4
        have h5 : Evolves s0 x3 := h1.upd.endLeave.showRpr
        clear_value x3
        have h6 : Evolves s0 x4 := h5.setB.setB
        clear_value x4
        exact Evolves.ite h5.raise h6.raise)

theorem Evolves.entryClear {s : State} {e : Nat} (ev : Evolves s0 s) :
    Evolves s0 (s.entryClear e).st := by
  unfold State.entryClear
  split
  · exact ev.no
  · exact ev.nvRequest.ok

theorem Evolves.rprCmd {s : State} {v : Nat} (ev : Evolves s0 s) :
    Evolves s0 (s.rprCmd v).st := by
  unfold State.rprCmd
  extract_lets x1 x2 x3 x4 x5
  have h6 : Evolves s0 x4.st := by
    unfold x4
    split
    · exact ev.entryClear
    · exact ev.ok
  clear_value x4
  have h7 : Evolves s0 x5.st := by
    unfold x5
    split
    · exact h6.memBist
    · exact h6
  clear_value x5
  split
  · exact ev.no
  · split
    · exact ev.no
    · split
      · exact h7.sweepAsk
      · exact h7

theorem Evolves.wrRPR {off : Nat} {v : Nat} {s : State} (ev : Evolves s0 s) :
    Evolves s0 (wrRPR off v s).st := by
  unfold Sys2Proof.Machine.wrRPR
  split
  · exact ev.rprCmd
  · exact ev.setNat.ok

end Sys2Proof.Machine
end

