-- ==== Sys2Proof/Laws/Sec.lean ====
section
/-!
SUPPORT. Each operation of Machine/Sec.lean: what it makes of a state has evolved from it (Safety).
-/

-- One declaration at a time: all at once need more threads than the check's memory limit allows.
set_option Elab.async false
namespace Sys2Proof.Machine

variable {s0 : State}

theorem Evolves.attestStart {s : State} (ev : Evolves s0 s) :
    Evolves s0 s.attestStart.st := by
  unfold State.attestStart
  split
  · exact ev.no
  · extract_lets x1 x2
    have h3 : Evolves s0 x2 := ev.upd
    clear_value x2
    exact h3.set.ok

theorem Evolves.execAttestComplete {signed : Bool} {loader : BitVec 256} {firmware : BitVec 256} {user : BitVec 256} {signature : BitVec 512} {s : State} (ev : Evolves s0 s) :
    Keeps s0 (execAttestComplete signed loader firmware user signature s) := by
  unfold Sys2Proof.Machine.execAttestComplete
  exact ev.act (fun _ h1 => by
    extract_lets x2 x3
    have h4 : Evolves s0 x3 := h1.setWords
    clear_value x3
    exact Evolves.ite h1 (Evolves.ite h1.set.raise h4.set.bump.raise))

theorem Evolves.authCmd {s : State} {v : Nat} {slot : Nat} (ev : Evolves s0 s) :
    Evolves s0 (s.authCmd v slot).st := by
  unfold State.authCmd
  extract_lets x1 x2 x3
  have h4 : Evolves s0 x3 := Evolves.ite ev.nvRequest ev
  clear_value x3
  split
  · exact ev.no
  · exact Evolves.ok (Evolves.ite h4.nvRequest h4)

theorem Evolves.peerCmd {s : State} {v : Nat} (ev : Evolves s0 s) :
    Evolves s0 (s.peerCmd v).st := by
  unfold State.peerCmd
  extract_lets x1 x2
  have h3 : Evolves s0 x2 := Evolves.ite ev.nvRequest ev
  clear_value x2
  exact Evolves.ok (Evolves.ite h3.nvRequest h3)

theorem Evolves.ksEnd {s : State} {result : Nat} {z0 : Nat} (ev : Evolves s0 s) :
    Evolves s0 (s.ksEnd result z0) := by
  unfold State.ksEnd
  extract_lets x1 x2 x3 x4
  have h5 : Evolves s0 x1 := ev.setWords
  clear_value x1
  have h6 : Evolves s0 x3 := h5.upd
  clear_value x3
  have h7 : Evolves s0 x4 := h6.setB.set
  clear_value x4
  exact h7.endLeave.raise

theorem Evolves.ksGrant {s : State} (ev : Evolves s0 s) :
    Evolves s0 s.ksGrant := by
  unfold State.ksGrant
  split
  · exact ev.endLeave
  · extract_lets x1 x2 x3
    have h4 : Evolves s0 x2 := ev.upd
    clear_value x2
    exact Evolves.ite h4.upd.nvRequest h4

theorem Evolves.ksCmd {s : State} {v : Nat} (ev : Evolves s0 s) :
    Evolves s0 (s.ksCmd v).st := by
  unfold State.ksCmd
  extract_lets x1 x2 x3 x4 x5
  split
  · exact ev.ok
  · split
    · exact ev.no
    · split
      · exact ev.no
      · split
        · rename_i y6 y7 y8
          have h9 : Evolves s0 y7 := (congrArg (fun z => Evolves s0 z.2) y8).mp ev.requestLeave
          exact h9.ksEnd.no
        · rename_i y10 y11 y12 y13 y14
          have h15 : Evolves s0 y12 := (congrArg (fun z => Evolves s0 z.2) y14).mp ev.requestLeave
          extract_lets x16 x17 x18
          have h19 : Evolves s0 x17 := h15.upd
          clear_value x17
          have h20 : Evolves s0 x18 := h19.setB
          clear_value x18
          exact Evolves.ok (Evolves.ite h20.ksGrant h20)

theorem Evolves.execKsOperationDone {lengthOk : Bool} {verified : Bool} {s : State} (ev : Evolves s0 s) :
    Keeps s0 (execKsOperationDone lengthOk verified s) := by
  unfold Sys2Proof.Machine.execKsOperationDone
  exact ev.act (fun _ h1 => by
    split
    · exact h1
    · split
      · exact h1
      · split
        · exact h1.ksEnd
        · split
          · exact h1.ksEnd
          · split
            · exact h1
            · split
              · exact h1.ksEnd
              · split
                · exact h1.ksEnd
                · split
                  · exact Evolves.ite h1.ksEnd h1.ksEnd
                  · extract_lets x2 x3
                    have h4 : Evolves s0 x3 := h1.upd
                    clear_value x3
                    exact h4.nvRequest)

theorem Evolves.execRngFail {s : State} (ev : Evolves s0 s) :
    Keeps s0 (execRngFail s) := by
  unfold Sys2Proof.Machine.execRngFail
  exact ev.act (fun _ h1 => h1.setB.raise.agreeBreak)

theorem Evolves.guardLock {s : State} (ev : Evolves s0 s) :
    Evolves s0 s.guardLock := by
  unfold State.guardLock
  extract_lets x1
  have h2 : Evolves s0 x1 := ev.setB.cryLock
  clear_value x1
  exact h2.agreeBreak.raise

theorem Evolves.guardErase {s : State} (ev : Evolves s0 s) :
    Evolves s0 s.guardErase := by
  unfold State.guardErase
  extract_lets x1 x2 x3 x4 x5 x6 x7
  have h8 : Evolves s0 x1 := ev.setB.cryErase
  clear_value x1
  have h9 : Evolves s0 x2 := h8.each (fun _ _ h10 => h10.closeSession)
  clear_value x2
  have h11 : Evolves s0 x5 := h9.upd
  clear_value x5
  exact h11.upd.nvRequest

theorem Evolves.guardTrip {s : State} {i : Nat} (ev : Evolves s0 s) :
    Evolves s0 (s.guardTrip i) := by
  unfold State.guardTrip
  extract_lets x1 x2
  have h3 : Evolves s0 x1 := ev.raise
  clear_value x1
  exact Evolves.ite h3.guardLock (Evolves.ite h3.guardErase h3)

theorem Evolves.guardTrips {s : State} {l : List Nat} (ev : Evolves s0 s) :
    Evolves s0 (s.guardTrips l) := by
  unfold State.guardTrips
  exact Evolves.ite ev (Evolves.each (Evolves.ite ev.tipTrigger ev) (fun _ _ h1 => h1.guardTrip))

theorem Evolves.execGuardTrip {sensors : BitVec 8} {s : State} (ev : Evolves s0 s) :
    Keeps s0 (execGuardTrip sensors s) := by
  unfold Sys2Proof.Machine.execGuardTrip
  split
  · exact Keeps.next ev
  · extract_lets x1 x2
    exact ev.set.guardTrips.done

theorem Evolves.execGuardSelftestComplete {faults : BitVec 8} {s : State} (ev : Evolves s0 s) :
    Keeps s0 (execGuardSelftestComplete faults s) := by
  unfold Sys2Proof.Machine.execGuardSelftestComplete
  extract_lets x1 x2 x3 x4 x5 x6
  have h7 : Evolves s0 x4 := ev.set.setB
  clear_value x4
  have h8 : Evolves s0 x5 := h7.each (fun _ _ h9 => h9.raise)
  clear_value x5
  have h10 : Evolves s0 x6 := Evolves.ite h8.guardLock h8
  clear_value x6
  exact Keeps.ite (Keeps.next ev) h10.raise.done

theorem Evolves.policyWrite {s : State} {v : Nat} (ev : Evolves s0 s) :
    Evolves s0 (s.policyWrite v).st := by
  unfold State.policyWrite
  extract_lets x1 x2
  split
  · exact ev.no
  · split
    · exact ev.no
    · exact ev.setNat.ok

theorem Evolves.openGrant {s : State} (ev : Evolves s0 s) :
    Evolves s0 s.openGrant := by
  unfold State.openGrant
  split
  · exact ev.endLeave
  · exact ev.upd.nvRequest

theorem Evolves.openAsk {s : State} {mode : Nat} {who : Option (Nat × Nat)} {refused : State → State} (ev : Evolves s0 s) (hf0 : ∀ (a : State), Evolves s0 a → Evolves s0 (refused a)) :
    Evolves s0 (s.openAsk mode who refused).st := by
  unfold State.openAsk
  split
  · rename_i y1 y2 y3
    have h4 : Evolves s0 y2 := (congrArg (fun z => Evolves s0 z.2) y3).mp ev.requestLeave
    exact (hf0 _ h4).no
  · rename_i y5 y6 y7 y8 y9
    have h10 : Evolves s0 y7 := (congrArg (fun z => Evolves s0 z.2) y9).mp ev.requestLeave
    split
    · extract_lets x11 x12
      have h13 : Evolves s0 x12 := h10.upd
      clear_value x12
      exact Evolves.later (Evolves.ite h13.openGrant h13)

theorem Evolves.debugRefused {s : State} (ev : Evolves s0 s) :
    Evolves s0 s.debugRefused := by
  unfold State.debugRefused
  exact ev.raise

theorem Evolves.debugCmd {s : State} {v : Nat} {who : Option (Nat × Nat)} (ev : Evolves s0 s) :
    Evolves s0 (s.debugCmd v who).st := by
  unfold State.debugCmd
  extract_lets x1
  split
  · exact ev.ok
  · split
    · exact ev.debugRefused.no
    · split
      · exact ev.debugRefused.no
      · split
        · exact ev.debugRefused.no
        · exact ev.openAsk (fun _ h2 => h2.debugRefused)

theorem Evolves.challenge {s : State} {mode : Nat} (ev : Evolves s0 s) :
    Evolves s0 (s.challenge mode).st := by
  unfold State.challenge
  split
  · exact ev.no
  · extract_lets x1 x2 x3 x4
    have h5 : Evolves s0 x1 := ev.each (fun _ _ h6 => h6.setNat.nextFree)
    clear_value x1
    have h7 : Evolves s0 x2 := h5.setWords
    clear_value x2
    have h8 : Evolves s0 x4 := h7.upd
    clear_value x4
    exact h8.raise.ok

theorem Evolves.frRefused {result : Nat} {s : State} (ev : Evolves s0 s) :
    Evolves s0 (State.frRefused result s) := by
  unfold State.frRefused
  exact ev.set.raise

theorem Evolves.enter {s : State} {mode : Nat} {who : Option (Nat × Nat)} (ev : Evolves s0 s) :
    Evolves s0 (s.enter mode who).st := by
  unfold State.enter
  extract_lets good s1 chal n c1 s2 s3 s4 c2 s5
  have h1 : Evolves s0 s1 := Evolves.ite ev.nextFree ev
  have h2 : Evolves s0 s2 := Evolves.upd h1
  have h3 : Evolves s0 s3 := h2.frRefused
  have h4 : Evolves s0 s4 := Evolves.upd h1
  have h5 : Evolves s0 s5 := Evolves.upd h4
  split
  · exact h1.no
  · split
    · exact Evolves.no (Evolves.ite h3.guardTrips h3)
    · split
      · exact h4.frRefused.no
      · split
        · exact h4.frRefused.no
        · split
          · exact h4.frRefused.no
          · exact h5.openAsk fun _ h => h.frRefused

theorem Evolves.frCmd {s : State} {v : Nat} {who : Option (Nat × Nat)} (ev : Evolves s0 s) :
    Evolves s0 (s.frCmd v who).st := by
  unfold State.frCmd
  extract_lets x1 x2 x3 x4
  have h5 : Evolves s0 x4.st := by
    unfold x4
    split
    · exact ev.challenge
    · exact ev.ok
  clear_value x4
  split
  · exact ev.ok
  · split
    · exact ev.no
    · split
      · exact h5
      · exact h5.enter

theorem Evolves.execTapInstruction {ins : TapInstr} {s : State} (ev : Evolves s0 s) :
    Keeps s0 (execTapInstruction ins s) := by
  unfold Sys2Proof.Machine.execTapInstruction
  split
  · exact Keeps.next ev
  · extract_lets x1
    have h2 : ∀ (t : State), Evolves s0 t → Keeps s0 (x1 t) := fun _ h3 => by
      unfold x1
      extract_lets x4 x5
      have h6 : Evolves s0 x5 := h3.upd
      clear_value x5
      exact h6.nextFree.enterSafe.done
    split
    · exact Keeps.next ev
    · exact Keeps.next ev
    · exact Keeps.next ev
    · exact h2 _ ev
    · exact h2 _ ev
    · exact h2 _ ev
    · exact h2 _ ev
    · exact h2 _ ev
    · split
      · exact ev.guardTrips.done
      · trivial

theorem Evolves.wrSEC {who : Option (Nat × Nat)} {off : Nat} {v : Nat} {s : State} (ev : Evolves s0 s) :
    Evolves s0 (wrSEC who off v s).st := by
  unfold Sys2Proof.Machine.wrSEC
  split
  · exact ev.debugCmd
  · split
    · exact ev.frCmd
    · split
      · exact ev.policyWrite
      · split
        · exact Evolves.ok (Evolves.ite ev.setB ev)
        · split
          · exact ev.ksCmd
          · split
            · exact ev.authCmd
            · split
              · exact ev.peerCmd
              · split
                · split
                  · exact ev.attestStart
                  · exact ev.ok
                · exact ev.setNat.ok

theorem Evolves.entSEC {a : Nat} {ws : List Nat} {s : State} (ev : Evolves s0 s) :
    Evolves s0 (entSEC a ws s).st := by
  unfold Sys2Proof.Machine.entSEC
  extract_lets x1 x2
  split
  · exact ev.upd.ok
  · exact ev.upd.ok

end Sys2Proof.Machine
end

