-- ==== Sys2Proof/Laws/Boot.lean ====
section
/-!
SUPPORT. Each operation of Machine/Boot.lean: what it makes of a state has evolved from it (Safety).
-/

-- One declaration at a time: all at once need more threads than the check's memory limit allows.
set_option Elab.async false
namespace Sys2Proof.Machine

variable {s0 : State}

theorem Evolves.setStage {s : State} {n : Nat} (ev : Evolves s0 s) :
    Evolves s0 (s.setStage n) := by
  unfold State.setStage
  exact ev.set

theorem Evolves.loadRails {s : State} (ev : Evolves s0 s) :
    Evolves s0 s.loadRails := by
  unfold State.loadRails
  extract_lets x1 x2 x3 x4
  have h5 : Evolves s0 x3 := ev.each (fun _ _ h6 => by
    extract_lets x7 x8
    exact h6.setNat)
  clear_value x3
  exact h5.upd

theorem canon_nvKept {l : List (Nat × Word)} (h : Tab.Canon resetWord l) : Tab.Canon resetWord (nvKept l) := by
  refine h.filterMap _ (fun e x hx => ?_) (fun e _ x hx => ?_)
  · by_cases hn : (!nvWord e.1) = true
    · rw [if_pos hn] at hx; cases hx
    · rw [if_neg hn] at hx
      extract_lets v at hx
      by_cases hv : v = resetWord e.1
      · rw [if_pos hv] at hx; cases hx
      · rw [if_neg hv] at hx; cases hx; rfl
  · by_cases hn : (!nvWord e.1) = true
    · rw [if_pos hn] at hx; cases hx
    · rw [if_neg hn] at hx
      extract_lets v at hx
      by_cases hv : v = resetWord e.1
      · rw [if_pos hv] at hx; cases hx
      · rw [if_neg hv] at hx; cases hx; exact hv

theorem Evolves.fresh {s : State} {b : BootState} (ev : Evolves s0 s) : Evolves s0 (s.fresh b) := by
  unfold State.fresh
  extract_lets t
  have h : Evolves s0 t := ⟨ev.pending, ev.now, ev.out, ev.freeCtr, fun c =>
    ⟨canon_nvKept (ev.canonical c).regs, Tab.Canon.nil, Tab.Canon.nil, Tab.Canon.nil, Tab.Canon.nil, Tab.Canon.nil,
      Tab.Canon.nil, Tab.Canon.nil, List.Pairwise.nil, Tab.Canon.nil, Tab.Canon.nil⟩⟩
  exact h.loadRails

theorem Evolves.cutOut {s0 s t : State} (ev : Evolves s0 s) (h : Evolves s t) : Evolves s0 { t with out := s.out } :=
  ⟨h.pending.trans ev.pending, h.now.trans ev.now, ev.out, Nat.le_trans ev.freeCtr h.freeCtr, fun c =>
    have k := h.canonical (ev.canonical c)
    ⟨k.regs, k.pages, k.osp, k.gath, k.pg, k.cry, k.ports, k.fbl, k.mem, k.sessions, k.requesters⟩⟩

theorem Evolves.execDeviceResetEntry {s : State} {pwrgood resetN finish : Bool} {low : Nat} (ev : Evolves s0 s) :
    Keeps s0 (execDeviceResetEntry pwrgood resetN finish low s) := by
  unfold Sys2Proof.Machine.execDeviceResetEntry
  refine Keeps.ite (Keeps.next ev) (Keeps.ite (Keeps.next (Evolves.ite ev ev.nextFree)) ?_)
  · extract_lets up keep bt b c0 cut
    have hk : ∀ r, Evolves s0 r → Evolves s0 (keep r) := fun r h => by
      unfold keep
      exact Evolves.ite ((h.copy ev).copy ev) h
    have h1 : Evolves s0 { s with boot := b } := Evolves.upd ev
    split
    · split
      · exact Keeps.next (Evolves.upd ev)
      · exact Keeps.next h1.setB.setNat
    · have h2 : Evolves s0 cut := ev.cutOut (Evolves.refl s).nvCut
      exact Keeps.next (hk _ h2.fresh)

theorem Evolves.execDeviceResetRelease {s : State} (ev : Evolves s0 s) :
    Keeps s0 (execDeviceResetRelease s) := by
  unfold Sys2Proof.Machine.execDeviceResetRelease
  split
  · exact Keeps.next ev
  · extract_lets x1 x2 x3
    have h4 : Evolves s0 x2 := ev.upd
    clear_value x2
    have h5 : Evolves s0 x3 := h4.setB
    clear_value x3
    exact Keeps.next h5.setB

theorem Evolves.applyStraps {s : State} {v : Nat} (ev : Evolves s0 s) :
    Evolves s0 (s.applyStraps v) := by
  unfold State.applyStraps
  extract_lets x1 x2 x3 x4 x5 x6 x7 x8 x9 x10 x11 x12
  have h13 : Evolves s0 x2 := ev.upd
  clear_value x2
  have h14 : Evolves s0 x5 := h13.set
  clear_value x5
  have h15 : Evolves s0 x6 := h14.set
  clear_value x6
  have h16 : Evolves s0 x7 := h15.set
  clear_value x7
  have h17 : Evolves s0 x8 := h16.set.setB
  clear_value x8
  have h18 : Evolves s0 x9 := h17.setB
  clear_value x9
  have h19 : Evolves s0 x10 := Evolves.ite h18.setB h18
  clear_value x10
  have h20 : Evolves s0 x11 := h19.setB
  clear_value x11
  have h21 : Evolves s0 x12 := h20.each (fun _ _ h22 => h22.setB)
  clear_value x12
  exact h21.each (fun _ _ h23 => h23.set.set)

theorem Evolves.execStrapsSampled {straps : BitVec 16} {s : State} (ev : Evolves s0 s) :
    Keeps s0 (execStrapsSampled straps s) := by
  unfold Sys2Proof.Machine.execStrapsSampled
  exact ev.act (fun _ h1 => by
    split
    · exact h1
    · extract_lets x2 x3
      have h4 : Evolves s0 x2 := h1.applyStraps.setStage
      clear_value x2
      exact h4.upd)

theorem Evolves.releasePins {s : State} (ev : Evolves s0 s) :
    Evolves s0 s.releasePins := by
  unfold State.releasePins
  exact ev.upd.refreshAlarm

theorem Evolves.execRootPllLocked {s : State} (ev : Evolves s0 s) :
    Keeps s0 (execRootPllLocked s) := by
  unfold Sys2Proof.Machine.execRootPllLocked
  exact ev.act (fun _ h1 => by
    split
    · exact h1
    · extract_lets x2
      have h3 : Evolves s0 x2 := h1.setB
      clear_value x2
      exact Evolves.ite h3.setStage.releasePins h3)

theorem Evolves.execRootUnlock {s : State} (ev : Evolves s0 s) :
    Keeps s0 (execRootUnlock s) := by
  unfold Sys2Proof.Machine.execRootUnlock
  exact ev.act (fun _ h1 => by
    split
    · exact h1
    · extract_lets x2
      have h3 : Evolves s0 x2 := h1.setB.bump
      clear_value x2
      exact h3.raise)

theorem Evolves.mapEmpty {s : State} (ev : Evolves s0 s) : Evolves s0 s.mapEmpty :=
  ev.trans ⟨rfl, rfl, List.prefix_refl _, Nat.le_refl _,
    fun k => ⟨k.regs.filter _, k.pages, k.osp, k.gath, k.pg, k.cry, k.ports, k.fbl, k.mem, k.sessions, k.requesters⟩⟩

theorem Evolves.mapDrop {s : State} {e : Nat} (ev : Evolves s0 s) :
    Evolves s0 (s.mapDrop e) := by
  unfold State.mapDrop
  exact ev.setNat.setNat

theorem Evolves.mapUnit {s : State} {wait : Tab (Option (Nat × Nat))} {e : Nat} {st : Nat} {loc : Nat} (ev : Evolves s0 s) :
    Evolves s0 (s.mapUnit wait e st loc).fst := by
  unfold State.mapUnit
  extract_lets x1 x2 x3 x4 x5 x6 x7 x8
  have h9 : Evolves s0 x8 := by
    unfold x8
    clear_value x6
    split
    · extract_lets x10
      have h11 : Evolves s0 x10 := ev.setUnitAt.setRole
      clear_value x10
      exact h11.set
    · exact ev
  clear_value x8
  split
  · exact ev
  · split
    · clear_value x6
      split
      · exact ev.mapDrop
      · exact ev
    · exact h9.setRole.showSpares

theorem Evolves.mapOther {s : State} {cls : Nat} {loc : Nat} (ev : Evolves s0 s) :
    Evolves s0 (s.mapOther cls loc) := by
  unfold State.mapOther
  extract_lets x1 x2 x3 x4 x5 x6 x7 x8 x9 x10
  have h11 : Evolves s0 x4 := ev.setRx
  clear_value x4
  have h12 : Evolves s0 x10 := ev.setCal
  clear_value x10
  exact Evolves.ite h11.set.set (Evolves.ite (Evolves.ite ev.setFec.showEngines ev.setFec.showEngines.fecStructShort) (Evolves.ite (Evolves.ite h12.bump h12) (Evolves.ite ev.sramUse (Evolves.ite ev.sramUse ev))))

theorem Evolves.foldl_fst {α β : Type} {s : State} {f : State × β → α → State × β} {l : List α} {x : State × β}
    (h : Evolves s x.1) (hf : ∀ x a, Evolves s x.1 → Evolves s (f x a).1) : Evolves s (l.foldl f x).1 := by
  induction l generalizing x with
  | nil => exact h
  | cons a l ih => exact ih (hf x a h)

theorem Evolves.mapApply {s : State} (ev : Evolves s0 s) : Evolves s0 s.mapApply := by
  unfold State.mapApply
  extract_lets s1 s2 sum s3 s4 s5
  have h1 : Evolves s0 s1 := by
    unfold s1
    refine Evolves.foldl_fst ev fun x e h => ?_
    extract_lets t cls st loc u
    have hu : Evolves s0 u := Evolves.ite h.mapDrop h
    clear_value u
    split
    · exact hu.mapUnit
    · split
      · exact hu.mapOther
      · exact hu
  clear_value s1
  exact h1.set.set.set.set.set

theorem Evolves.loadColophon {s : State} {c : Colophon} (ev : Evolves s0 s) :
    Evolves s0 (s.loadColophon c) := by
  unfold State.loadColophon
  extract_lets x1 x2 x3 x4 x5 x6 x7
  have h8 : Evolves s0 x1 := ev.setNat64
  clear_value x1
  have h9 : Evolves s0 x2 := h8.set.set
  clear_value x2
  have h10 : Evolves s0 x3 := h9.setB.setB
  clear_value x3
  have h11 : Evolves s0 x4 := h10.set
  clear_value x4
  have h12 : Evolves s0 x5 := h11.setWords
  clear_value x5
  have h13 : Evolves s0 x6 := h12.each (fun _ _ h14 => h14.setWords)
  clear_value x6
  exact h13.upd

theorem Evolves.romRecovery {s : State} (ev : Evolves s0 s) :
    Evolves s0 s.romRecovery := by
  unfold State.romRecovery
  extract_lets x1 x2
  have h3 : Evolves s0 x2 := ev.upd.setStage
  clear_value x2
  exact h3.raise.enterSafe

theorem Evolves.warmPins {s : State} (ev : Evolves s0 s) :
    Evolves s0 s.warmPins := by
  unfold State.warmPins
  extract_lets x1 x2
  have h3 : Evolves s0 x2 := Evolves.ite ev.upd ev
  clear_value x2
  exact Evolves.ite h3.releasePins h3

theorem Evolves.execNvLoaded {colophon : Option Colophon} {mapOk : Bool} {s : State} (ev : Evolves s0 s) :
    Keeps s0 (execNvLoaded colophon mapOk s) := by
  unfold Sys2Proof.Machine.execNvLoaded
  exact ev.act (fun _ h1 => by
    split
    · exact h1
    · extract_lets x2 x3 x4 x5
      have h6 : Evolves s0 x3 := Evolves.ite h1.upd.releasePins h1
      clear_value x3
      have h7 : Evolves s0 x4 := h6.journalReplay.showStore.setStage
      clear_value x4
      have h8 : Evolves s0 x5 := Evolves.ite h7.mapApply h7.mapEmpty.mapApply.setB.raise
      clear_value x5
      split
      · exact h8.loadColophon
      · exact h8.romRecovery)

theorem Evolves.execSramDone {repairs : List (BitVec 16 × Bool × BitVec 8)} {withheld : List (Option (Fin 128))} {rows : BitVec 16} {cols : BitVec 16} {s : State} (ev : Evolves s0 s) :
    Keeps s0 (execSramDone repairs withheld rows cols s) := by
  unfold Sys2Proof.Machine.execSramDone
  exact ev.act (fun _ h1 => by
    split
    · exact h1
    · extract_lets x2 x3 x4 x5 x6 x7 x8 x9
      have h10 : Evolves s0 x2 := h1.each (fun _ _ h11 => by
        extract_lets x12 x13 x14 x15 x16
        have h17 : Evolves s0 x15 := h11.sramUse.mapPut
        clear_value x15
        have h18 : Evolves s0 x16 := h17.count
        clear_value x16
        exact h18.raise.raiseIf)
      clear_value x2
      have h19 : Evolves s0 x4 := Evolves.ite h10 h10.count64.raise.raise
      clear_value x4
      have h20 : Evolves s0 x7 := h19.upd.showOnDie
      clear_value x7
      have h21 : Evolves s0 x8 := h20.set.set
      clear_value x8
      have h22 : Evolves s0 x9 := h21.raiseIf
      clear_value x9
      exact h22.raise.setStage)

theorem Evolves.execGddr7TrainingDone {failed : BitVec 16} {s : State} (ev : Evolves s0 s) :
    Keeps s0 (execGddr7TrainingDone failed s) := by
  unfold Sys2Proof.Machine.execGddr7TrainingDone
  exact ev.act (fun _ h1 => by
    split
    · exact h1
    · extract_lets x2 x3 x4 x5 x6
      have h7 : Evolves s0 x4 := h1.upd
      clear_value x4
      have h8 : Evolves s0 x5 := h7.each (fun _ _ h9 => h9.setB)
      clear_value x5
      have h10 : Evolves s0 x6 := h8.each (fun _ _ h11 => h11.raise)
      clear_value x6
      clear_value x2
      split
      · exact h10
      · extract_lets x12 x13 x14
        have h15 : Evolves s0 x12 := h10.setB.set
        clear_value x12
        have h16 : Evolves s0 x14 := h15.upd
        clear_value x14
        exact h16.raise.each (fun _ _ h17 => h17.failChannel))

theorem Evolves.execLoaderOk {copyA : Bool} {copyB : Bool} {s : State} (ev : Evolves s0 s) :
    Keeps s0 (execLoaderOk copyA copyB s) := by
  unfold Sys2Proof.Machine.execLoaderOk
  exact ev.act (fun _ h1 => by
    split
    · exact h1
    · split
      · exact h1.romRecovery
      · extract_lets x2 x3
        have h4 : Evolves s0 x3 := h1.upd.setStage
        clear_value x3
        exact Evolves.ite h4 h4.setB.raise)

theorem Evolves.execRapUp {s : State} (ev : Evolves s0 s) :
    Keeps s0 (execRapUp s) := by
  unfold Sys2Proof.Machine.execRapUp
  exact ev.act (fun _ h1 => by exact Evolves.ite h1 h1.setStage)

theorem Evolves.execClientSerdesLocked {s : State} (ev : Evolves s0 s) :
    Keeps s0 (execClientSerdesLocked s) := by
  unfold Sys2Proof.Machine.execClientSerdesLocked
  exact ev.act (fun _ h1 => by
    split
    · exact h1
    · extract_lets x2 x3
      have h4 : Evolves s0 x3 := h1.upd
      clear_value x3
      exact (h4.each (fun _ _ h5 => h5.setB)).refreshPorts)

theorem Evolves.fwStart {s : State} {source : Nat} {version : Nat} (ev : Evolves s0 s) :
    Evolves s0 (s.fwStart source version) := by
  unfold State.fwStart
  extract_lets x1 x2
  have h3 : Evolves s0 x2 := ev.upd.setStage
  clear_value x2
  exact h3.set.set

theorem Evolves.execFwVerify {good : Bool} {version : BitVec 16} {s : State} (ev : Evolves s0 s) :
    Keeps s0 (execFwVerify good version s) := by
  unfold Sys2Proof.Machine.execFwVerify
  exact ev.act (fun _ h1 => by exact Evolves.ite h1 (Evolves.ite h1.fwStart h1.setStage.setB.raise))

theorem Evolves.readyBlock {s : State} {p : Nat} (ev : Evolves s0 s) :
    Evolves s0 (s.readyBlock p) := by
  unfold State.readyBlock
  exact Evolves.ite ev (Evolves.ite ev.goTo (Evolves.ite ev.setPage ev))

theorem Evolves.execReady {power : Nat} {s : State} (ev : Evolves s0 s) :
    Keeps s0 (execReady power s) := by
  unfold Sys2Proof.Machine.execReady
  exact ev.act (fun _ h1 => by
    split
    · exact h1
    · extract_lets x2 x3 x4 x5 x6 x7 x8 x9 x10 x11
      have h12 : Evolves s0 x2 := h1.setStage.setB
      clear_value x2
      have h13 : Evolves s0 x3 := h12.set
      clear_value x3
      have h14 : Evolves s0 x4 := h13.each (fun _ _ h15 => h15.readyBlock)
      clear_value x4
      have h16 : Evolves s0 x6 := h14.set.syncPower
      clear_value x6
      have h17 : Evolves s0 x7 := h16.raiseIf
      clear_value x7
      have h18 : Evolves s0 x8 := h17.raiseIf
      clear_value x8
      have h19 : Evolves s0 x9 := h18.raiseIf
      clear_value x9
      have h20 : Evolves s0 x11 := Evolves.ite h19.upd.setB h19
      clear_value x11
      exact h20.linkChecks.refreshPorts.raise)

theorem Evolves.warmKeep {r : State} {s : State} (ev : Evolves s0 r) (ev2 : Evolves s0 s) :
    Evolves s0 (r.warmKeep s) := by
  unfold State.warmKeep
  extract_lets x1 x2 x3 x4 x5 x6 x7
  have h8 : Evolves s0 x1 := ev.copy ev2
  clear_value x1
  have h9 : Evolves s0 x2 := h8.copy ev2
  clear_value x2
  have h10 : Evolves s0 x3 := h9.copy ev2
  clear_value x3
  have h11 : Evolves s0 x4 := h10.copy ev2
  clear_value x4
  have h12 : Evolves s0 x5 := h11.each (fun _ _ h13 => h13.copy ev2)
  clear_value x5
  have h14 : Evolves s0 x6 := h12.copy ev2
  clear_value x6
  exact h14.upd

theorem Evolves.execWarmResetStart {s : State} (ev : Evolves s0 s) : Keeps s0 (execWarmResetStart s) := by
  unfold Sys2Proof.Machine.execWarmResetStart
  refine ev.act fun t h => ?_
  split
  · exact h
  · extract_lets b c0 cut r
    have h1 : Evolves s0 cut := h.cutOut (Evolves.refl t).nvCut
    clear_value cut
    have h2 : Evolves s0 r := Evolves.applyStraps (h1.fresh.warmKeep h)
    exact h2.setB.setStage

theorem Evolves.execImageVerified {s : State} {good : Bool} {ty : Fin 4} {version : BitVec 16} {record : List Word}
    (ev : Evolves s0 s) : Keeps s0 (execImageVerified good ty version record s) := by
  unfold Sys2Proof.Machine.execImageVerified
  refine ev.act fun t h => ?_
  split
  · exact h
  · extract_lets n1 s1 s2 s3 n2 s4
    have h1 : Evolves s0 s1 := h.upd.set
    have h3 : Evolves s0 s3 := h1.set
    have h4 : Evolves s0 s4 := Evolves.ite (Evolves.upd h3) h3
    exact Evolves.ite h1.set.setB.raise (Evolves.ite h3.fwStart (Evolves.ite h3.set.raise h4.nvRequest))

end Sys2Proof.Machine
end

