-- ==== Sys2Proof/Laws/Tim.lean ====
section
/-!
SUPPORT. Each operation of Machine/Tim.lean: what it makes of a state has evolved from it (Safety).
-/

-- One declaration at a time: all at once need more threads than the check's memory limit allows.
set_option Elab.async false
namespace Sys2Proof.Machine

variable {s0 : State}

theorem Evolves.switchTo {s : State} {d : Nat} {i : Nat} (ev : Evolves s0 s) :
    Evolves s0 (s.switchTo d i) := by
  unfold State.switchTo
  extract_lets x1 x2 x3 x4 x5 x6 x7 x8
  have h9 : Evolves s0 x4 := ev.setI
  clear_value x4
  have h10 : Evolves s0 x5 := h9.setSlot
  clear_value x5
  have h11 : Evolves s0 x6 := h10.setI.set
  clear_value x6
  have h12 : Evolves s0 x7 := h11.setB.setB
  clear_value x7
  have h13 : Evolves s0 x8 := h12.setB.count
  clear_value x8
  exact h13.raise

theorem Evolves.dpllSelect {s : State} {d : Nat} (ev : Evolves s0 s) :
    Evolves s0 (s.dpllSelect d) := by
  unfold State.dpllSelect
  split
  · exact ev
  · extract_lets x1
    split
    · exact Evolves.ite ev.freerun (Evolves.ite ev.holdover ev)
    · extract_lets x2
      have h3 : Evolves s0 x2 := Evolves.ite ev ev.switchTo
      clear_value x2
      exact Evolves.ite h3.dpTo h3

theorem Evolves.selectAll {s : State} (ev : Evolves s0 s) :
    Evolves s0 s.selectAll := by
  unfold State.selectAll
  exact ev.dpllSelect.dpllSelect.showQl

theorem Evolves.qualify {s : State} {i : Nat} (ev : Evolves s0 s) :
    Evolves s0 (s.qualify i) := by
  unfold State.qualify
  extract_lets x1 x2 x3 x4
  have h5 : Evolves s0 x3 := ev.setSlot
  clear_value x3
  have h6 : Evolves s0 x4 := h5.setB.setB
  clear_value x4
  exact h6.set.raise

theorem Evolves.judgeSlot {s : State} {i : Nat} (ev : Evolves s0 s) :
    Evolves s0 (s.judgeSlot i) := by
  unfold State.judgeSlot
  extract_lets x1 x2 x3
  exact Evolves.ite (Evolves.ite ev ev.disqualify) (Evolves.ite (Evolves.ite ev.set ev) (Evolves.ite ev.qualify ev))

theorem Evolves.judgeAll {s : State} (ev : Evolves s0 s) :
    Evolves s0 s.judgeAll := by
  unfold State.judgeAll
  exact (ev.each (fun _ _ h1 => h1.judgeSlot)).selectAll

theorem Evolves.driftClear {s : State} {i : Nat} (ev : Evolves s0 s) :
    Evolves s0 (s.driftClear i) := by
  unfold State.driftClear
  extract_lets x1
  have h2 : Evolves s0 x1 := ev.setB
  clear_value x1
  exact h2.each (fun _ _ h3 => by exact Evolves.ite h3.setB h3)

theorem Evolves.slotForget {s : State} {i : Nat} (ev : Evolves s0 s) :
    Evolves s0 (s.slotForget i) := by
  unfold State.slotForget
  extract_lets x1 x2
  have h3 : Evolves s0 x2 := ev.setSlot
  clear_value x2
  exact h3.driftClear.setB

theorem Evolves.slotMeasure {s : State} {i : Nat} {y : Option Int} {ph : Int × Int} (ev : Evolves s0 s) :
    Evolves s0 (s.slotMeasure i y ph) := by
  unfold State.slotMeasure
  extract_lets x1 x2 x3 x4
  clear_value x2
  split
  · exact ev.setSlot
  · split
    · exact ev.setSlot
    · extract_lets x5 x6 x7 x8 x9 x10 x11 x12
      have h13 : Evolves s0 x5 := ev.setSlot
      clear_value x5
      have h14 : Evolves s0 x6 := h13.setI.setB
      clear_value x6
      have h15 : Evolves s0 x10 := h14.setB.setB
      clear_value x10
      have h16 : Evolves s0 x11 := Evolves.ite h15.setB h15
      clear_value x11
      have h17 : Evolves s0 x12 := Evolves.ite h16.setB h16
      clear_value x12
      exact h17.raiseIf

theorem Evolves.onsetNote {s : State} {d : Nat} {onset : Nat} (ev : Evolves s0 s) :
    Evolves s0 (s.onsetNote d onset) := by
  unfold State.onsetNote
  extract_lets x1 x2 x3 x4 x5
  have h6 : Evolves s0 x4 := ev.setNat64.setB
  clear_value x4
  exact h6.setDpll

theorem Evolves.slotDrift {s : State} {i : Nat} (ev : Evolves s0 s) :
    Evolves s0 (s.slotDrift i) := by
  unfold State.slotDrift
  extract_lets x1 x2 x3 x4 x5 x6 x7 x8 x9
  have h10 : Evolves s0 x6 := ev.setSlot
  clear_value x6
  have h11 : Evolves s0 x8 := h10.setB.setB
  clear_value x8
  have h12 : Evolves s0 x9 := h11.raise
  clear_value x9
  exact Evolves.ite ev (Evolves.ite (h12.each (fun _ _ h13 => by exact Evolves.ite h13.onsetNote h13)) (Evolves.ite h10.driftClear h10))

theorem Evolves.vote {s : State} (ev : Evolves s0 s) :
    Evolves s0 s.vote := by
  unfold State.vote
  extract_lets x1 x2 x3 x4 x5 x6 x7 x8 x9 x10 x11 x12 x13
  have h14 : Evolves s0 x6 := ev.each (fun _ _ h15 => h15.setB)
  clear_value x6
  have h16 : Evolves s0 x7 := h14.each (fun _ _ h17 => h17.setB.setB.raise)
  clear_value x7
  have h18 : Evolves s0 x12 := h16.upd
  clear_value x12
  have h19 : Evolves s0 x13 := h18.each (fun _ _ h20 => by
    extract_lets x21 x22
    have h23 : Evolves s0 x22 := h20.setB
    clear_value x22
    exact Evolves.ite h23.setB h23)
  clear_value x13
  exact h19.each (fun _ _ h24 => h24.raise)

theorem Evolves.dpSecond {s : State} {d : Nat} {c : Int} {e : Int} (ev : Evolves s0 s) :
    Evolves s0 (s.dpSecond d c e) := by
  unfold State.dpSecond
  extract_lets x1 x2 x3 x4 x5
  have h6 : Evolves s0 x4 := ev.setDpll
  clear_value x4
  have h7 : Evolves s0 x5 := h6.setI
  clear_value x5
  exact Evolves.ite h7.setI h7

theorem Evolves.wtrTick {s : State} {i : Nat} (ev : Evolves s0 s) :
    Evolves s0 (s.wtrTick i) := by
  unfold State.wtrTick
  extract_lets x1
  exact Evolves.ite ev.set ev

theorem Evolves.execTimSecond {ys : List (Option Int)} {phases : List (Int × Int)} {c0 : Int} {c1 : Int} {e0 : Int} {e1 : Int} {s : State} (ev : Evolves s0 s) :
    Keeps s0 (execTimSecond ys phases c0 c1 e0 e1 s) := by
  unfold Sys2Proof.Machine.execTimSecond
  exact ev.act (fun _ h1 => by
    split
    · exact h1
    · extract_lets x2 x3 x4 x5 x6
      have h7 : Evolves s0 x2 := h1.dpSecond.dpSecond
      clear_value x2
      have h8 : Evolves s0 x3 := h7.each (fun _ _ h9 => h9.slotMeasure)
      clear_value x3
      have h10 : Evolves s0 x4 := h8.each (fun _ _ h11 => h11.slotDrift)
      clear_value x4
      have h12 : Evolves s0 x5 := h10.each (fun _ _ h13 => h13.wtrTick)
      clear_value x5
      have h14 : Evolves s0 x6 := h12.vote.judgeAll
      clear_value x6
      exact h14.showHold.showHold)

theorem Evolves.execRefActivityChange {slot : Fin 16} {active : Bool} {s : State} (ev : Evolves s0 s) :
    Keeps s0 (execRefActivityChange slot active s) := by
  unfold Sys2Proof.Machine.execRefActivityChange
  exact ev.act (fun _ h1 => by
    extract_lets x2 x3 x4 x5 x6 x7 x8 x9 x10
    have h11 : Evolves s0 x4 := h1.setB
    clear_value x4
    have h12 : Evolves s0 x5 := h11.setB
    clear_value x5
    have h13 : Evolves s0 x7 := h12.setSlot
    clear_value x7
    have h14 : Evolves s0 x9 := Evolves.ite h13.upd h13
    clear_value x9
    have h15 : Evolves s0 x10 := Evolves.ite h11 h14.setB
    clear_value x10
    exact Evolves.ite h1 h15.judgeAll)

theorem Evolves.execPpsinEdge {ps : Fin 1000} {s : State} (ev : Evolves s0 s) :
    Keeps s0 (execPpsinEdge ps s) := by
  unfold Sys2Proof.Machine.execPpsinEdge
  exact ev.act (fun _ h1 => by
    extract_lets x2 x3
    have h4 : Evolves s0 x3 := h1.upd
    clear_value x3
    exact h4.setNat64.set)

theorem Evolves.execRefWtrExpiry {slot : Fin 16} {s : State} (ev : Evolves s0 s) :
    Keeps s0 (execRefWtrExpiry slot s) := by
  unfold Sys2Proof.Machine.execRefWtrExpiry
  exact ev.act (fun _ h1 => by exact Evolves.ite h1.qualify.selectAll h1)

theorem Evolves.execDpllLock {d : Fin 2} {s : State} (ev : Evolves s0 s) :
    Keeps s0 (execDpllLock d s) := by
  unfold Sys2Proof.Machine.execDpllLock
  exact ev.act (fun _ h1 => by exact Evolves.ite h1 h1.dpTo.raise.showQl)

theorem Evolves.execDpllLockLost {d : Fin 2} {s : State} (ev : Evolves s0 s) :
    Keeps s0 (execDpllLockLost d s) := by
  unfold Sys2Proof.Machine.execDpllLockLost
  exact ev.act (fun _ h1 => by exact Evolves.ite h1 h1.dpTo.setB.raise.showQl)

theorem Evolves.moveDtime {s : State} {ps : Int} (ev : Evolves s0 s) :
    Evolves s0 (s.moveDtime ps) := by
  unfold State.moveDtime
  extract_lets x1 x2 x3 x4 x5
  have h6 : Evolves s0 x3 := ev.setDpll
  clear_value x3
  have h7 : Evolves s0 x5 := h6.upd
  clear_value x5
  exact h7.upd

theorem Evolves.phaseStep {s : State} {d : Nat} {ps : Int} (ev : Evolves s0 s) :
    Evolves s0 (s.phaseStep d ps) := by
  unfold State.phaseStep
  split
  · extract_lets x1 x2 x3 x4
    have h5 : Evolves s0 x3 := Evolves.ite ev.moveDtime ev
    clear_value x3
    have h6 : Evolves s0 x4 := Evolves.ite h5 h5.pmStep
    clear_value x4
    exact h6.raise
  · exact ev.setDpll.setB

theorem Evolves.execSlewDone {d : Fin 2} {s : State} (ev : Evolves s0 s) :
    Keeps s0 (execSlewDone d s) := by
  unfold Sys2Proof.Machine.execSlewDone
  exact ev.act (fun _ h1 => by
    split
    · exact h1
    · extract_lets x2 x3
      have h4 : Evolves s0 x3 := h1.setDpll
      clear_value x3
      exact h4.setB.raise)

theorem Evolves.slewTick {s : State} {d : Nat} {ns : Nat} (ev : Evolves s0 s) :
    Evolves s0 (s.slewTick d ns).fst := by
  unfold State.slewTick
  split
  · exact ev
  · extract_lets x1 x2
    exact ev.setDpll

theorem Evolves.dtimeTick {s : State} {ns : Nat} (ev : Evolves s0 s) :
    Evolves s0 (s.dtimeTick ns) := by
  unfold State.dtimeTick
  extract_lets x1 x2 x3 x4 x5 x6 x7
  have h8 : Evolves s0 x1 := ev.slewTick
  clear_value x1
  have h9 : Evolves s0 x2.fst := h8.slewTick
  clear_value x2
  have h10 : Evolves s0 x3 := h9
  clear_value x3
  have h11 : Evolves s0 x7 := h10.setDpll
  clear_value x7
  exact h11.upd

theorem Evolves.execLineSteerUpdate {offset : Int} {s : State} (ev : Evolves s0 s) :
    Keeps s0 (execLineSteerUpdate offset s) := by
  unfold Sys2Proof.Machine.execLineSteerUpdate
  exact ev.act (fun _ h1 => by
    extract_lets x2 x3 x4 x5 x6 x7 x8 x9 x10 x11 x12 x13
    have h14 : Evolves s0 x11 := h1.upd
    clear_value x11
    have h15 : Evolves s0 x12 := h14.setB.setB
    clear_value x12
    have h16 : Evolves s0 x13 := Evolves.ite h15.setB h15
    clear_value x13
    exact h16.raiseIf.raiseIf)

theorem Evolves.monrefChanged {s : State} (ev : Evolves s0 s) :
    Evolves s0 s.monrefChanged := by
  unfold State.monrefChanged
  extract_lets x1 x2 x3 x4
  have h5 : Evolves s0 x1 := ev.each (fun _ _ h6 => h6.slotForget)
  clear_value x1
  have h7 : Evolves s0 x2 := h5.each (fun _ _ h8 => h8.setDpll.setB)
  clear_value x2
  have h9 : Evolves s0 x4 := h7.upd
  clear_value x4
  exact h9.raise.judgeAll

theorem Evolves.ocxo {s : State} {on : Bool} (ev : Evolves s0 s) :
    Evolves s0 (s.ocxo on) := by
  unfold State.ocxo
  extract_lets x1 x2 x3 x4 x5
  have h6 : Evolves s0 x3 := ev.setB.setB
  clear_value x3
  have h7 : Evolves s0 x4 := h6.raiseIf
  clear_value x4
  have h8 : Evolves s0 x5 := h7.raiseIf
  clear_value x5
  exact Evolves.ite h8 h8.monrefChanged

theorem Evolves.execMonrefChange {good : Bool} {offset : Int} {s : State} (ev : Evolves s0 s) :
    Keeps s0 (execMonrefChange good offset s) := by
  unfold Sys2Proof.Machine.execMonrefChange
  exact ev.act (fun _ h1 => by
    extract_lets x2 x3 x4 x5 x6
    have h7 : Evolves s0 x4 := h1.setI
    clear_value x4
    have h8 : Evolves s0 x6 := h7.raiseIf
    clear_value x6
    exact h8.ocxo)

theorem Evolves.ppsAlign {s : State} {j : Nat} (ev : Evolves s0 s) :
    Evolves s0 (s.ppsAlign j) := by
  unfold State.ppsAlign
  extract_lets x1 x2 x3
  exact ev.upd

theorem Evolves.execPpsPulse {j : Fin 2} {s : State} (ev : Evolves s0 s) :
    Keeps s0 (execPpsPulse j s) := by
  unfold Sys2Proof.Machine.execPpsPulse
  exact ev.act (fun _ h1 => by
    split
    · extract_lets x2 x3 x4
      have h5 : Evolves s0 x4 := h1.upd
      clear_value x4
      exact Evolves.ite h1 h5.send
    · exact h1)

theorem Evolves.setQl {s : State} {i : Nat} {ql : Nat} (ev : Evolves s0 s) :
    Evolves s0 (s.setQl i ql) := by
  unfold State.setQl
  extract_lets x1 x2
  have h3 : Evolves s0 x2 := ev.set
  clear_value x2
  exact Evolves.ite h3 h3.raise.selectAll

theorem Evolves.execEsmcPduRx {slot : Fin 16} {ql : BitVec 8} {s : State} (ev : Evolves s0 s) :
    Keeps s0 (execEsmcPduRx slot ql s) := by
  unfold Sys2Proof.Machine.execEsmcPduRx
  exact ev.act (fun _ h1 => by exact Evolves.ite h1.setSlot.setQl h1)

theorem Evolves.execEsmcTimeout {slot : Fin 16} {s : State} (ev : Evolves s0 s) :
    Keeps s0 (execEsmcTimeout slot s) := by
  unfold Sys2Proof.Machine.execEsmcTimeout
  exact ev.act (fun _ h1 => by exact Evolves.ite h1.setQl h1)

theorem Evolves.execEsmcPduSend {port : Fin 32} {event : Bool} {s : State} (ev : Evolves s0 s) :
    Keeps s0 (execEsmcPduSend port event s) := by
  unfold Sys2Proof.Machine.execEsmcPduSend
  exact ev.act (fun _ h1 => by
    split
    · exact h1
    · extract_lets x2
      exact h1.send)

theorem Evolves.wrSlot {s : State} {firmware : Bool} {i : Nat} {v : Nat} (ev : Evolves s0 s) :
    Evolves s0 (s.wrSlot firmware i v).st := by
  unfold State.wrSlot
  extract_lets x1 x2 x3 x4 x5 x6 x7 x8 x9 x10
  have h11 : Evolves s0 x5 := ev.setNat
  clear_value x5
  have h12 : Evolves s0 x6 := Evolves.ite h11.slotForget.setB h11
  clear_value x6
  have h13 : Evolves s0 x7 := h12.judgeSlot
  clear_value x7
  have h14 : Evolves s0 x9 := Evolves.ite h13.setSlot h13
  clear_value x9
  have h15 : Evolves s0 x10 := Evolves.ite h14.setB.set h14
  clear_value x10
  split
  · exact ev.no
  · split
    · exact ev.no
    · exact h15.raiseIf.judgeAll.ok

theorem Evolves.wrTIM {firmware : Bool} {off : Nat} {v : Nat} {s : State} (ev : Evolves s0 s) :
    Evolves s0 (wrTIM firmware off v s).st := by
  unfold Sys2Proof.Machine.wrTIM
  extract_lets x1 x2 x3 x4 x5 x6 x7 x8 x9 x10 x11 x12 x13 x14
  have h15 : Evolves s0 x4 := ev.setNat
  clear_value x4
  have h16 : Evolves s0 x7 := Evolves.ite h15.freerun (Evolves.ite h15.holdover h15)
  clear_value x7
  have h17 : Evolves s0 x9 := Evolves.ite ev.ppsAlign ev
  clear_value x9
  have h18 : Evolves s0 x14 := Evolves.ite h15.send h15
  clear_value x14
  split
  · exact ev.wrSlot
  · split
    · exact h16.selectAll.ok
    · split
      · split
        · exact ev.no
        · exact ev.phaseStep.ok
      · split
        · split
          · exact ev.no
          · exact Evolves.ok (Evolves.ite h17.ppsAlign h17)
        · split
          · split
            · exact ev.no
            · exact Evolves.ok (Evolves.ite h15.ppsAlign h15)
          · split
            · exact (h18.clkoutFollow ev).ok
            · exact ev.setNat.ok

theorem Evolves.wrCLK {off : Nat} {v : Nat} {s : State} (ev : Evolves s0 s) :
    Evolves s0 (wrCLK off v s).st := by
  unfold Sys2Proof.Machine.wrCLK
  extract_lets x1 x2 x3
  have h4 : Evolves s0 x3 := ev.setNat
  clear_value x3
  split
  · exact Evolves.ok (Evolves.ite h4 h4.ocxo)
  · exact ev.setNat.ok

end Sys2Proof.Machine
end

