-- ==== Sys2Proof/Laws/Topo.lean ====
section
/-!
SUPPORT. Each operation of Machine/Topo.lean: what it makes of a state has evolved from it (Safety).
-/

-- One declaration at a time: all at once need more threads than the check's memory limit allows.
set_option Elab.async false
namespace Sys2Proof.Machine

variable {s0 : State}

theorem Evolves.showDomain {s : State} (ev : Evolves s0 s) :
    Evolves s0 s.showDomain := by
  unfold State.showDomain
  extract_lets x1 x2 x3
  have h4 : Evolves s0 x3 := ev.set
  clear_value x3
  exact h4.setNat64

theorem Evolves.putTopo {s : State} {a : Nat} {r : Option TopoRec} (ev : Evolves s0 s) :
    Evolves s0 (s.putTopo a r) := by
  unfold State.putTopo
  extract_lets x1 x2 x3
  have h4 : Evolves s0 x2 := ev.upd
  clear_value x2
  have h5 : Evolves s0 x3 := by
    unfold x3
    split
    · exact h4.setWords
    · exact h4.setWords
  clear_value x3
  exact h5.showDomain

theorem Evolves.topoChanged {s : State} (ev : Evolves s0 s) :
    Evolves s0 s.topoChanged := by
  unfold State.topoChanged
  exact ev.upd.raise

theorem Evolves.learn {s : State} {a : Nat} {r : TopoRec} (ev : Evolves s0 s) :
    Evolves s0 (s.learn a r) := by
  unfold State.learn
  split
  · extract_lets x1
    have h2 : Evolves s0 x1 := ev.raise
    clear_value x1
    exact Evolves.ite h2.set h2
  · extract_lets x3 x4
    have h5 : Evolves s0 x4 := ev.putTopo
    clear_value x4
    exact Evolves.ite h5 h5.topoChanged

theorem Evolves.execTopoFlood {s : State} (ev : Evolves s0 s) :
    Keeps s0 (execTopoFlood s) := by
  unfold Sys2Proof.Machine.execTopoFlood
  exact ev.act (fun _ h1 => by
    split
    · exact h1
    · extract_lets x2 x3 x4 x5 x6 x7
      have h8 : Evolves s0 x5 := h1.upd
      clear_value x5
      have h9 : Evolves s0 x6 := h8.learn
      clear_value x6
      exact h9.each (fun _ _ h10 => by exact h10.each (fun _ _ h11 => by exact Evolves.ite h11.ctlOut.send h11)))

theorem Evolves.execTopoCellRx {m : Fin 72} {addr : Fin 512} {ident : BitVec 64} {role : Fin 3} {seq : BitVec 16} {idx : Fin 4} {cnt : Fin 4} {links : List TopoEdge} {s : State} (ev : Evolves s0 s) :
    Keeps s0 (execTopoCellRx m addr ident role seq idx cnt links s) := by
  unfold Sys2Proof.Machine.execTopoCellRx
  exact ev.act (fun _ h1 => by
    extract_lets x2 x3 x4 x5 x6 x7 x8 x9 x10 x11 x12 x13 x14
    have h15 : Evolves s0 x9 := h1.upd
    clear_value x9
    have h16 : Evolves s0 x11 := h15.each (fun _ _ h17 => h17.ctlOut.send)
    clear_value x11
    have h18 : Evolves s0 x14 := h16.upd
    clear_value x14
    exact Evolves.ite h1 (Evolves.ite h18.learn h16))

theorem Evolves.execTopoAgeOut {addr : Fin 512} {s : State} (ev : Evolves s0 s) :
    Keeps s0 (execTopoAgeOut addr s) := by
  unfold Sys2Proof.Machine.execTopoAgeOut
  exact ev.act (fun _ h1 => by
    split
    · exact Evolves.ite h1.putTopo.topoChanged h1
    · exact h1)

theorem Evolves.routeApply {s : State} (ev : Evolves s0 s) :
    Evolves s0 s.routeApply := by
  unfold State.routeApply
  extract_lets x1 x2
  have h3 : Evolves s0 x1 := ev.set
  clear_value x1
  have h4 : Evolves s0 x2 := h3.set
  clear_value x2
  exact h4.raise.drain

theorem Evolves.execRouteCompute {s : State} (ev : Evolves s0 s) :
    Keeps s0 (execRouteCompute s) := by
  unfold Sys2Proof.Machine.execRouteCompute
  exact ev.act (fun _ h1 => by
    split
    · exact h1
    · extract_lets x2 x3 x4 x5 x6
      have h7 : Evolves s0 x3 := h1.upd
      clear_value x3
      have h8 : Evolves s0 x6 := h7.each (fun _ _ h9 => by
        extract_lets x10
        exact h9.setWords)
      clear_value x6
      exact h8.routeApply)

theorem Evolves.entROUTE {firmware : Bool} {e : Nat} {ws : List Nat} {s : State} (ev : Evolves s0 s) :
    Evolves s0 (entROUTE firmware e ws s).st := by
  unfold Sys2Proof.Machine.entROUTE
  split
  · exact ev.no
  · exact ev.setWords.ok

theorem Evolves.wrFBR {firmware : Bool} {off : Nat} {v : Nat} {s : State} (ev : Evolves s0 s) :
    Evolves s0 (wrFBR firmware off v s).st := by
  unfold Sys2Proof.Machine.wrFBR
  split
  · split
    · exact ev.ok
    · split
      · exact ev.no
      · exact ev.routeApply.ok
  · extract_lets x1 x2 x3
    have h4 : Evolves s0 x2 := ev.setNat
    clear_value x2
    have h5 : Evolves s0 x3 := Evolves.ite h4.set h4
    clear_value x3
    exact h5.showFbr.linkChecks.ok

end Sys2Proof.Machine
end

