-- ==== Sys2Proof/Laws/Carrier.lean ====
section
/-!
SUPPORT. Each operation of Machine/Carrier.lean: what it makes of a state has evolved from it (Safety).
-/

-- One declaration at a time: all at once need more threads than the check's memory limit allows.
set_option Elab.async false
namespace Sys2Proof.Machine

variable {s0 : State}

theorem Evolves.checkBlock {s : State} {p : Nat} (ev : Evolves s0 s) :
    Evolves s0 (s.checkBlock p).snd := by
  unfold State.checkBlock
  split
  · exact ev
  · split
    · exact ev
    · exact ev.checkTxd
    · exact ev
    · exact ev.checkFec
    · exact ev
    · exact ev
    · exact ev
    · exact ev
    · exact ev
    · exact ev
    · exact ev

theorem Evolves.activate {s : State} {p : Nat} (ev : Evolves s0 s) :
    Evolves s0 (s.activate p) := by
  unfold State.activate
  extract_lets x1 x2
  have h3 : Evolves s0 x1 := ev.goTo
  clear_value x1
  split
  · exact h3.eccEnter
  · exact h3.upd
  · exact h3

theorem Evolves.carrierChecks {s : State} {l : List (Nat × Nat)} (ev : Evolves s0 s) :
    Evolves s0 (s.carrierChecks l).snd := by
  induction l generalizing s with
  | nil => exact ev
  | cons e l ih =>
    unfold State.carrierChecks
    split
    · exact ev
    · split
      rename_i good t h
      have k : Evolves s0 t := (congrArg (fun z => Evolves s0 z.2) h).mp ev.checkBlock
      split
      · exact ih k
      · exact k

theorem Evolves.carrierRefused {s : State} {n : Nat} {cause : Nat} (ev : Evolves s0 s) :
    Evolves s0 (s.carrierRefused n cause) := by
  unfold State.carrierRefused
  extract_lets x1
  have h2 : Evolves s0 x1 := ev.set.set
  clear_value x1
  exact h2.raise

theorem Evolves.checkRefused {s : State} {n : Nat} {p : Nat} {cause : Nat} (ev : Evolves s0 s) :
    Evolves s0 (s.checkRefused n p cause) := by
  unfold State.checkRefused
  extract_lets x1
  have h2 : Evolves s0 x1 := ev.nextFree.refuse
  clear_value x1
  exact h2.carrierRefused

theorem Evolves.carrierGranted {s : State} {n : Nat} (ev : Evolves s0 s) :
    Evolves s0 (s.carrierGranted n) := by
  unfold State.carrierGranted
  split
  · rename_i y1 y2 y3 y4 y5
    have h6 : Evolves s0 y4 := (congrArg (fun z => Evolves s0 z.2) y5).mp ev.carrierChecks
    exact h6.endLeave.checkRefused
  · rename_i y7 y8 y9
    have h10 : Evolves s0 y8 := (congrArg (fun z => Evolves s0 z.2) y9).mp ev.carrierChecks
    extract_lets x11 x12 x13 x14 x15
    have h16 : Evolves s0 x11 := h10.each (fun _ _ h17 => by exact Evolves.ite h17.activate h17)
    clear_value x11
    have h18 : Evolves s0 x12 := h16.set
    clear_value x12
    have h19 : Evolves s0 x13 := h18.outCause
    clear_value x13
    have h20 : Evolves s0 x15 := h19.setCal.laserBringUp.pllFollow
    clear_value x15
    exact Evolves.ite h20.pllBringUp h20

theorem Evolves.carrierUp {s : State} {n : Nat} {src : Nat} (ev : Evolves s0 s) :
    Evolves s0 (s.carrierUp n src) := by
  unfold State.carrierUp
  extract_lets x1 x2
  have h3 : Evolves s0 x2 := ev.upd
  clear_value x2
  split
  · rename_i y4 y5 y6 y7 y8
    have h9 : Evolves s0 y7 := (congrArg (fun z => Evolves s0 z.2) y8).mp h3.carrierChecks
    exact h9.checkRefused
  · rename_i y10 y11 y12
    have h13 : Evolves s0 y11 := (congrArg (fun z => Evolves s0 z.2) y12).mp h3.carrierChecks
    split
    · rename_i y14 y15 y16
      have h17 : Evolves s0 y15 := (congrArg (fun z => Evolves s0 z.2) y16).mp h13.requestLeave
      exact h17.carrierGranted
    · rename_i y18 y19 y20
      have h21 : Evolves s0 y19 := (congrArg (fun z => Evolves s0 z.2) y20).mp h13.requestLeave
      exact h21.set
    · rename_i y22 y23 y24
      have h25 : Evolves s0 y23 := (congrArg (fun z => Evolves s0 z.2) y24).mp h13.requestLeave
      exact h25.carrierRefused

theorem Evolves.execCarrierUpComplete {n : Fin 2} {s : State} (ev : Evolves s0 s) :
    Keeps s0 (execCarrierUpComplete n s) := by
  unfold Sys2Proof.Machine.execCarrierUpComplete
  exact ev.act (fun _ h1 => by
    extract_lets x2
    exact Evolves.ite h1.carrierComplete h1)

theorem Evolves.wrUp {s : State} {old : Nat} {v : Nat} {src : Nat} {n : Nat} (ev : Evolves s0 s) :
    Evolves s0 (s.wrUp old v src n) := by
  unfold State.wrUp
  exact Evolves.ite ev.carrierOff.set (Evolves.ite ev.carrierUp ev)

theorem Evolves.wrSYS {src : Nat} {off : Nat} {v : Nat} {s : State} (ev : Evolves s0 s) :
    Evolves s0 (wrSYS src off v s).st := by
  unfold Sys2Proof.Machine.wrSYS
  extract_lets x1 x2 x3 x4 x5
  have h6 : Evolves s0 x4 := ev.upd
  clear_value x4
  split
  · split
    · exact ev.ok
    · split
      · exact ev.no
      · split
        · exact ev.no
        · exact ev.upd.ok
  · split
    · split
      · exact ev.no
      · exact h6.setNat.linkChecks.ok
    · split
      · split
        · exact ev.no
        · exact ev.setNat.wrUp.wrUp.ok
      · exact ev.setNat.ok

theorem Evolves.softStart {s : State} {p : Nat} (ev : Evolves s0 s) :
    Evolves s0 (s.softStart p) := by
  unfold State.softStart
  extract_lets x1 x2 x3 x4
  have h5 : Evolves s0 x2 := ev.setPage.setB
  clear_value x2
  have h6 : Evolves s0 x3 := h5.set
  clear_value x3
  have h7 : Evolves s0 x4 := by
    unfold x4
    split
    · exact h6.carrierOff.outCause
    · exact h6
  clear_value x4
  exact h7.syncGrace.showMove

theorem Evolves.disable {s : State} {p : Nat} (ev : Evolves s0 s) :
    Evolves s0 (s.disable p) := by
  unfold State.disable
  extract_lets x1 x2
  have h3 : Evolves s0 x2 := ev.setPage.setB
  clear_value x2
  exact h3.setB.goTo.syncGrace

theorem Evolves.stateReq {s : State} {p : Nat} {req : Nat} (ev : Evolves s0 s) :
    Evolves s0 (s.stateReq p req).st := by
  unfold State.stateReq
  extract_lets x1
  split
  · split
    · rename_i y2 y3 y4 y5
      have h6 : Evolves s0 y4 := (congrArg (fun z => Evolves s0 z.2) y5).mp ev.checkBlock
      split
      · exact h6.activate.ok
      · exact h6.no
  · split
    · exact ev.goTo.ok
    · split
      · exact ev.goTo.ok
      · exact ev.no

theorem Evolves.softReq {s : State} {p : Nat} {barred : Bool} (ev : Evolves s0 s) :
    Evolves s0 (s.softReq p barred).st := by
  unfold State.softReq
  split
  · exact ev.no
  · split
    · exact ev.no
    · split
      · exact ev.no
      · exact ev.softStart.ok

theorem Evolves.wrCtrl {p : Nat} {v : Nat} {s : State} (ev : Evolves s0 s) :
    Evolves s0 (wrCtrl p v s).st := by
  unfold Sys2Proof.Machine.wrCtrl
  extract_lets x1 x2 x3 x4 x5 x6 x7 x8
  have h9 : Evolves s0 x7.st := ev.softReq
  clear_value x7
  have h10 : Evolves s0 x8.st := ev.stateReq
  clear_value x8
  split
  · exact ev.no
  · split
    · exact ev.no
    · split
      · split
        · exact ev.setB.goTo.syncGrace.ok
        · split
          · exact ev.no
          · exact ev.disable.ok
      · split
        · split
          · exact h9
          · split
            · exact h10
            · exact h10.softStart.ok
        · split
          · exact ev.ok
          · split
            · exact ev.no
            · exact ev.stateReq

theorem Evolves.execSoftResetComplete {page : Fin 128} {s : State} (ev : Evolves s0 s) :
    Keeps s0 (execSoftResetComplete page s) := by
  unfold Sys2Proof.Machine.execSoftResetComplete
  exact ev.act (fun _ h1 => by
    extract_lets x2 x3 x4 x5
    have h6 : Evolves s0 x3 := h1.reinitState
    clear_value x3
    have h7 : Evolves s0 x5 := h6.setPage.setB
    clear_value x5
    exact Evolves.ite h1 h7.goTo.syncGrace)

theorem Evolves.linkDrained {s : State} {k : Nat} (ev : Evolves s0 s) :
    Evolves s0 (s.linkDrained k) := by
  unfold State.linkDrained
  extract_lets x1 x2
  exact ev.upd.count

theorem Evolves.fbrDrained {s : State} (ev : Evolves s0 s) :
    Evolves s0 s.fbrDrained := by
  unfold State.fbrDrained
  extract_lets x1 x2 x3 x4
  have h5 : Evolves s0 x3 := ev.count.count
  clear_value x3
  exact h5.upd.setNat

theorem Evolves.drainEffect {s : State} {p : Nat} (ev : Evolves s0 s) :
    Evolves s0 (s.drainEffect p) := by
  unfold State.drainEffect
  split
  · exact ev.carrierOff
  · split
    · exact ev.linkDrained
    · exact ev.fbrDrained
    · exact ev.hkStop
    · exact ev.haltUsers
    · exact ev.rprStop
    · exact ev

theorem Evolves.execDrainEnd {page : Fin 128} {s : State} (ev : Evolves s0 s) :
    Keeps s0 (execDrainEnd page s) := by
  unfold Sys2Proof.Machine.execDrainEnd
  exact ev.act (fun _ h1 => by
    extract_lets x2
    exact Evolves.ite h1 h1.goTo.drainEffect.syncGrace)

end Sys2Proof.Machine
end

