-- ==== Sys2Proof/Laws/Leave.lean ====
section
/-!
SUPPORT. Each operation of Machine/Leave.lean: what it makes of a state has evolved from it (Safety).
-/

-- One declaration at a time: all at once need more threads than the check's memory limit allows.
set_option Elab.async false
namespace Sys2Proof.Machine

variable {s0 : State}

theorem Evolves.fillStart {s : State} (ev : Evolves s0 s) :
    Evolves s0 s.fillStart := by
  unfold State.fillStart
  exact ev.upd

theorem Evolves.fillDenied {s : State} (ev : Evolves s0 s) :
    Evolves s0 s.fillDenied := by
  unfold State.fillDenied
  split
  · exact ev
  · extract_lets x1 x2
    have h3 : Evolves s0 x2 := ev.upd.refuse
    clear_value x2
    exact h3.answer

theorem Evolves.openDenied {s : State} (ev : Evolves s0 s) :
    Evolves s0 s.openDenied := by
  unfold State.openDenied
  split
  · exact ev
  · extract_lets x1 x2 x3 x4
    have h5 : Evolves s0 x2 := ev.upd
    clear_value x2
    have h6 : Evolves s0 x3 := Evolves.ite h5.frRefused h5.debugRefused
    clear_value x3
    have h7 : Evolves s0 x4 := h6.refuse
    clear_value x4
    exact Evolves.ite h7 h7.unblock.answer

theorem Evolves.leaveTaken {s : State} {op : Nat} {u : Nat} (ev : Evolves s0 s) :
    Evolves s0 (s.leaveTaken op u) := by
  unfold State.leaveTaken
  split
  · exact Evolves.ite ev.carrierGranted ev
  · exact Evolves.ite ev.fullGranted ev.endLeave
  · exact ev.imaxGranted
  · exact ev.showRpr
  · exact ev.fillStart
  · exact Evolves.ite ev ev.sweepGranted
  · exact Evolves.ite (Evolves.ite ev.ksGrant ev) (Evolves.ite (Evolves.ite ev.agreeGranted ev) (Evolves.ite ev.openGrant ev))
  · exact ev
  · exact Evolves.ite ev.nlcGranted ev

theorem Evolves.leaveDenied {s : State} {op : Nat} {u : Nat} (ev : Evolves s0 s) :
    Evolves s0 (s.leaveDenied op u) := by
  unfold State.leaveDenied
  split
  · exact Evolves.ite ev.carrierRefused ev
  · exact ev
  · exact Evolves.ite ev.imaxRefused ev
  · exact ev.upd.showRpr
  · exact ev.fillDenied
  · exact ev.showRpr.raise
  · exact Evolves.ite (Evolves.ite ev.ksEnd ev) (Evolves.ite (Evolves.ite ev.agreeFail ev) ev.openDenied)
  · exact ev.setB
  · exact Evolves.ite ev.nlcRefused ev

theorem Evolves.execLeaveRequest {op : Fin 9} {unit : Fin 16} {steps : Nat} {s : State} (ev : Evolves s0 s) :
    Keeps s0 (execLeaveRequest op unit steps s) := by
  unfold Sys2Proof.Machine.execLeaveRequest
  exact ev.act (fun _ h1 => by
    split
    · rename_i y2 y3 y4
      have h5 : Evolves s0 y3 := (congrArg (fun z => Evolves s0 z.2) y4).mp h1.requestLeave
      exact h5.leaveTaken
    · rename_i y6 y7 y8
      have h9 : Evolves s0 y7 := (congrArg (fun z => Evolves s0 z.2) y8).mp h1.requestLeave
      exact h9
    · rename_i y10 y11 y12
      have h13 : Evolves s0 y11 := (congrArg (fun z => Evolves s0 z.2) y12).mp h1.requestLeave
      exact h13)

theorem Evolves.leaveAgain {s : State} (ev : Evolves s0 s) :
    Evolves s0 s.leaveAgain := by
  unfold State.leaveAgain
  split
  · exact ev
  · extract_lets x1 x2
    have h3 : Evolves s0 x2 := ev.upd.syncPower
    clear_value x2
    exact Evolves.ite h3.leaveRefused.leaveDenied (Evolves.ite h3.leaveGranted.leaveTaken ev)

theorem Evolves.leaveCompleted {s : State} {r : LeaveReq} (ev : Evolves s0 s) :
    Evolves s0 (s.leaveCompleted r) := by
  unfold State.leaveCompleted
  extract_lets x1 x2 x3 x4 x5 x6
  have h7 : Evolves s0 x5 := ev.setRx
  clear_value x5
  exact Evolves.ite (Evolves.ite ev.carrierComplete ev) (Evolves.ite (Evolves.ite ev ev.upd.syncPower) (Evolves.ite (Evolves.ite h7.upd.syncPower h7) ev))

theorem Evolves.execLeaveEnd {op : Fin 9} {unit : Fin 16} {completed : Bool} {s : State} (ev : Evolves s0 s) :
    Keeps s0 (execLeaveEnd op unit completed s) := by
  unfold Sys2Proof.Machine.execLeaveEnd
  exact ev.act (fun _ h1 => by
    split
    · exact h1
    · extract_lets x2
      have h3 : Evolves s0 x2 := h1.endLeave
      clear_value x2
      exact Evolves.ite h3.leaveCompleted h3)

theorem Evolves.execLeaveOverrun {op : Fin 9} {unit : Fin 16} {s : State} (ev : Evolves s0 s) :
    Keeps s0 (execLeaveOverrun op unit s) := by
  unfold Sys2Proof.Machine.execLeaveOverrun
  exact ev.act (fun _ h1 => by
    extract_lets x2 x3 x4
    exact Evolves.ite h1 h1.upd.raise)

end Sys2Proof.Machine
end

