-- ==== Sys2Proof/Laws/Flt.lean ====
section
/-!
SUPPORT. Each operation of Machine/Flt.lean: what it makes of a state has evolved from it (Safety).
-/

-- One declaration at a time: all at once need more threads than the check's memory limit allows.
set_option Elab.async false
namespace Sys2Proof.Machine

variable {s0 : State}

theorem Evolves.execEventFire {page : Fin 128} {index : Fin 128} {s : State} (ev : Evolves s0 s) :
    Keeps s0 (execEventFire page index s) := by
  unfold Sys2Proof.Machine.execEventFire
  exact ev.act (fun _ h1 => h1.raiseIf)

theorem Evolves.execGraceExpiry {page : Fin 128} {s : State} (ev : Evolves s0 s) :
    Keeps s0 (execGraceExpiry page s) := by
  unfold Sys2Proof.Machine.execGraceExpiry
  exact ev.act (fun _ h1 => by
    extract_lets x2 x3 x4
    have h5 : Evolves s0 x4 := h1.setPage
    clear_value x4
    exact Evolves.ite h1 h5.takeStep)

theorem Evolves.execQuietExpiry {page : Fin 128} {s : State} (ev : Evolves s0 s) :
    Keeps s0 (execQuietExpiry page s) := by
  unfold Sys2Proof.Machine.execQuietExpiry
  exact ev.act (fun _ h1 => by exact Evolves.ite h1 h1.exitFault)

theorem Evolves.wrHDR {p : Nat} {off : Nat} {v : Nat} {s : State} (ev : Evolves s0 s) :
    Evolves s0 (wrHDR p off v s).st := by
  unfold Sys2Proof.Machine.wrHDR
  extract_lets x1 x2 x3 x4 x5
  split
  · exact ev.wrCtrl
  · split
    · exact ev.clearSticky.ok
    · split
      · exact ev.setNat.ok
      · split
        · exact ev.setNat.syncGrace.syncUrgent.ok
        · exact ev.setNat.ok

theorem Evolves.wrFLT {off : Nat} {v : Nat} {s : State} (ev : Evolves s0 s) :
    Evolves s0 (wrFLT off v s).st := by
  unfold Sys2Proof.Machine.wrFLT
  split
  · extract_lets x1 x2
    exact Evolves.ok (Evolves.ite ev.ackSource ev)
  · split
    · exact ev.setNat.refreshAlarm.ok
    · exact ev.setNat.ok

end Sys2Proof.Machine
end

