-- ==== Sys2Proof/Laws/MemRows.lean ====
section
/-!
SUPPORT. Each operation of Machine/MemRows.lean: what it makes of a state has evolved from it (Safety).
-/

-- One declaration at a time: all at once need more threads than the check's memory limit allows.
set_option Elab.async false
namespace Sys2Proof.Machine

variable {s0 : State}

theorem Evolves.execGddr7Read {page : Nat} {ce : Fin 57} {s : State} (ev : Evolves s0 s) :
    Keeps s0 (execGddr7Read page ce s) := by
  unfold Sys2Proof.Machine.execGddr7Read
  exact ev.act (fun _ h1 => by exact Evolves.ite h1.count h1)

theorem Evolves.execSlowPathDone {page : Nat} {fixed : Fin 57} {lost : Fin 57} {who : MemReader} {s : State} (ev : Evolves s0 s) :
    Keeps s0 (execSlowPathDone page fixed lost who s) := by
  unfold Sys2Proof.Machine.execSlowPathDone
  exact ev.act (fun _ h1 => by
    split
    · exact h1
    · extract_lets x2 x3 x4 x5 x6 x7 x8 x9 x10
      have h11 : Evolves s0 x4 := h1.count
      clear_value x4
      have h12 : Evolves s0 x5 := h11.count
      clear_value x5
      have h13 : Evolves s0 x6 := h12.raiseIf
      clear_value x6
      have h14 : Evolves s0 x7 := h13.count
      clear_value x7
      have h15 : Evolves s0 x8 := h14.raiseIf
      clear_value x8
      split
      · exact h15
      · split
        · exact h15.upd
        · extract_lets x16 x17 x18
          exact h15.setGth
        · exact h15)

theorem Evolves.execStagingPageWrite {q : Fin 1048576} {page : Nat} {s : State} (ev : Evolves s0 s) :
    Keeps s0 (execStagingPageWrite q page s) := by
  unfold Sys2Proof.Machine.execStagingPageWrite
  exact ev.act (fun _ h1 => by
    extract_lets x2 x3 x4 x5 x6
    have h7 : Evolves s0 x5 := h1.setQueue
    clear_value x5
    exact Evolves.ite h1 (Evolves.ite h1 h7.upd))

theorem Evolves.pageWrite {s : State} {page : Nat} {words : List (Nat × List Nat)} {ue : List Nat} {lost : List Nat} (ev : Evolves s0 s) :
    Evolves s0 (s.pageWrite page words ue lost) := by
  unfold State.pageWrite
  extract_lets x1
  exact Evolves.ite ev (Evolves.ite ev.tableWrite (Evolves.ite ev ev.commitWrite))

theorem Evolves.execWholePageWrite {page : Nat} {data : List (List Byte)} {s : State} (ev : Evolves s0 s) :
    Keeps s0 (execWholePageWrite page data s) := by
  unfold Sys2Proof.Machine.execWholePageWrite
  exact ev.act (fun _ h1 => h1.pageWrite)

theorem Evolves.execReadModifyWrite {page : Nat} {words : List (Fin 56 × List Byte)} {ue : List (Fin 56)} {lost : List (Fin 56)} {s : State} (ev : Evolves s0 s) :
    Keeps s0 (execReadModifyWrite page words ue lost s) := by
  unfold Sys2Proof.Machine.execReadModifyWrite
  exact ev.act (fun _ h1 => h1.pageWrite)

theorem Evolves.execScrubPage {ce : Fin 57} {ue : Fin 57} {failed : Bool} {s : State} (ev : Evolves s0 s) :
    Keeps s0 (execScrubPage ce ue failed s) := by
  unfold Sys2Proof.Machine.execScrubPage
  exact ev.act (fun _ h1 => by
    extract_lets x2 x3 x4 x5 x6 x7 x8 x9 x10
    have h11 : Evolves s0 x7 := Evolves.ite h1.upd h1
    clear_value x7
    have h12 : Evolves s0 x9 := h11.set.setB
    clear_value x9
    split
    · exact h1
    · split
      · exact h1
      · split
        · extract_lets x13 x14 x15 x16 x17
          have h18 : Evolves s0 x17 := h12.setWords
          clear_value x17
          exact Evolves.ite h12 h18.setNat.raise)

theorem Evolves.execScrubStarved {scrubber : Bool} {s : State} (ev : Evolves s0 s) :
    Keeps s0 (execScrubStarved scrubber s) := by
  unfold Sys2Proof.Machine.execScrubStarved
  exact ev.act (fun _ h1 => by exact Evolves.ite h1.setB.raise h1)

theorem Evolves.execMemRetrain {c : Fin 16} {first : Bool} {again : Bool} {s : State} (ev : Evolves s0 s) :
    Keeps s0 (execMemRetrain c first again s) := by
  unfold Sys2Proof.Machine.execMemRetrain
  exact ev.act (fun _ h1 => by
    extract_lets x2 x3 x4
    have h5 : ∀ (pass : Bool) (t : State), Evolves s0 t → Evolves s0 (x3 pass t) := fun _ _ h6 => by
      unfold x3
      split
      · exact h6
      · extract_lets x7 x8 x9
        have h10 : Evolves s0 x7 := h6.count.setB
        clear_value x7
        have h11 : Evolves s0 x9 := h10.set.raise
        clear_value x9
        exact Evolves.ite h10.set (Evolves.ite h11.failChannel h11)
    have h12 : Evolves s0 x4 := h5 _ _ h1
    clear_value x4
    exact Evolves.ite h1 (Evolves.ite h12 (h5 _ _ h12)))

theorem Evolves.execChannelDeviceFail {c : Fin 16} {s : State} (ev : Evolves s0 s) :
    Keeps s0 (execChannelDeviceFail c s) := by
  unfold Sys2Proof.Machine.execChannelDeviceFail
  exact ev.act (fun _ h1 => by exact Evolves.ite h1 h1.failChannel)

end Sys2Proof.Machine
end

