-- ==== Sys2Proof/Laws/Access.lean ====
section
/-!
SUPPORT. Each operation of Machine/Access.lean: what it makes of a state has evolved from it (Safety).
-/

-- One declaration at a time: all at once need more threads than the check's memory limit allows.
set_option Elab.async false
namespace Sys2Proof.Machine

variable {s0 : State}

theorem Evolves.setRequester {s : State} {i : Nat} {x : Requester} (ev : Evolves s0 s) :
    Evolves s0 (s.setRequester i x) :=
  ev.trans ⟨rfl, rfl, List.prefix_refl _, Nat.le_refl _,
    fun k => ⟨k.regs, k.pages, k.osp, k.gath, k.pg, k.cry, k.ports, k.fbl, k.mem, k.sessions, k.requesters.put i x⟩⟩

theorem Evolves.unlink {s : State} {i : Nat} (ev : Evolves s0 s) :
    Evolves s0 (s.unlink i) := by
  unfold State.unlink
  exact ev.setRequester

theorem Evolves.atEntry {s : State} {i : Nat} {a : Nat} (ev : Evolves s0 s) :
    Evolves s0 (s.atEntry i a) := by
  unfold State.atEntry
  extract_lets x1
  exact Evolves.ite ev ev.setRequester

theorem Evolves.afterRead {s : State} {i : Nat} {a : Nat} {pl : Place} (ev : Evolves s0 s) :
    Evolves s0 (s.afterRead i a pl) := by
  unfold State.afterRead
  extract_lets x1 x2
  have h3 : Evolves s0 x1 := by
    unfold x1
    split
    · exact ev.atEntry
    · extract_lets x4 x5 x6
      have h7 : Evolves s0 x4 := Evolves.ite ev ev.setNat
      clear_value x4
      have h8 : Evolves s0 x5 := Evolves.ite h7.nextFree h7
      clear_value x5
      exact Evolves.ite h8.upd h8
  clear_value x1
  exact Evolves.ite h3.setRequester h3.unlink

theorem Evolves.readAt {s : State} {src : Src} {a : Nat} (ev : Evolves s0 s) :
    Evolves s0 (s.readAt src a).st := by
  unfold State.readAt
  extract_lets x1 x2
  split
  · exact ev.unlink
  · split
    · exact ev.unlink
    · split
      · exact ev.unlink
      · split
        · exact ev.unlink
        · extract_lets x3
          exact ev.afterRead

theorem Evolves.wrRAP {off : Nat} {v : Nat} {s : State} (ev : Evolves s0 s) :
    Evolves s0 (wrRAP off v s).st := by
  unfold Sys2Proof.Machine.wrRAP
  extract_lets x1
  have h2 : Evolves s0 x1 := Evolves.ite (ev.each (fun _ _ h3 => by
    extract_lets x4
    exact Evolves.ite h3.setSession h3)) ev
  clear_value x1
  exact h2.setNat.ok

theorem Evolves.handle {s : State} {src : Src} {toTag : Option (Nat × Nat)} {k : Kind} {n : Nat} {p : Nat} {off : Nat} {v : Nat} (ev : Evolves s0 s) :
    Evolves s0 (s.handle src toTag k n p off v).st := by
  unfold State.handle
  split
  · exact ev.wrHDR
  · split
    · exact ev.wrSYS
    · exact ev.wrRAP
    · exact ev.wrPWR
    · exact ev.wrHKA
    · exact ev.wrFLT
    · exact ev.wrSEC
    · exact ev.wrCLK
    · exact ev.wrTIM
    · exact ev.wrCPU
    · exact ev.wrRPR
    · exact ev.wrCAL
    · exact ev.wrRXD
    · exact ev.wrTXD
    · exact ev.wrSUB
    · exact ev.wrFEC
    · exact ev.wrFRM
    · exact ev.wrGTH
    · exact ev.wrCRY
    · exact ev.wrOSP
    · exact ev.wrPMB
    · exact ev.wrMAC
    · exact ev.wrCLS
    · exact ev.setNat.refreshPorts.ok
    · exact ev.wrFBL
    · exact ev.wrFBR
    · exact ev.setNat.ok
    · exact ev.setNat.ok
    · exact ev.setNat.ok
    · exact ev.setNat.ok
    · exact ev.setNat.ok
    · exact ev.setNat.ok
    · exact ev.setNat.ok
    · exact ev.setNat.ok

theorem Evolves.stripWo {s : State} {r : RegSpec} {a : Nat} (ev : Evolves s0 s) :
    Evolves s0 (s.stripWo r a) := by
  unfold State.stripWo
  exact Evolves.ite ev ev.setNat

theorem Evolves.end_ {o : WOut} {p : Nat} {off : Nat} {window : Bool} {src : Nat} (ev : Evolves s0 o.st) :
    Evolves s0 (o.end_ p off window src).st := by
  unfold WOut.end_
  split
  · exact ev.refuse
  · exact ev

theorem Evolves.writeReg {s : State} {src : Src} {toTag : Option (Nat × Nat)} {k : Kind} {n : Nat} {p : Nat} {off : Nat} {r : RegSpec} {v : Nat} (ev : Evolves s0 s) :
    Evolves s0 (s.writeReg src toTag k n p off r v).st := by
  unfold State.writeReg
  extract_lets x1 x2 x3 x4
  have h5 : Evolves s0 x4.st := ev.handle
  clear_value x4
  split
  · exact ev
  · split
    · exact ev.no.end_
    · split
      · exact ev.no.end_
      · split
        · exact h5.end_
        · exact h5.stripWo.end_

theorem Evolves.wordByWord {f : Nat → Nat → State → WOut} {l : List (Nat × Nat)} {s : State} (ev : Evolves s0 s)
    (hf : ∀ (a b : Nat) (t : State), Evolves s0 t → Evolves s0 (f a b t).st) : Evolves s0 (wordByWord f l s).st := by
  induction l generalizing s with
  | nil => exact ev
  | cons e l ih =>
    obtain ⟨a, v⟩ := e
    unfold Sys2Proof.Machine.wordByWord
    extract_lets o
    have h : Evolves s0 o.st := hf _ _ _ ev
    clear_value o
    split
    · exact h
    · exact ih h

theorem Evolves.commitEntry {s : State} {src : Src} {g : WinSeg} {e : Nat} {ws : List Nat} (ev : Evolves s0 s) :
    Evolves s0 (s.commitEntry src g e ws).st := by
  unfold State.commitEntry
  extract_lets x1 x2 x3
  split
  · exact ev.ok
  · split
    · exact ev.winCAL
    · exact ev.winCAL
    · exact ev.winRXD
    · exact ev.winRXD
    · exact ev.winTXD
    · exact ev.winTXD
    · exact ev.wordByWord (fun _ _ _ h4 => h4.winSUB)
    · exact ev.wordByWord (fun _ _ _ h5 => h5.winSUB)
    · exact ev.entGTH
    · exact ev.entCRY
    · exact ev.entQ
    · exact ev.entMTR
    · exact ev.entSHP
    · exact ev.entSHP
    · split
      · exact ev.entROUTE
      · exact ev.setWords.ok
    · exact ev.rawWordWrite
    · split
      · exact ev.entSEC
      · exact ev.setWords.ok
    · exact ev.setWords.ok

theorem Evolves.writeWin {s : State} {src : Src} {g : WinSeg} {e : Nat} {w : Nat} {v : Nat} (ev : Evolves s0 s) :
    Evolves s0 (s.writeWin src g e w v).st := by
  unfold State.writeWin
  extract_lets x1 x2 x3 x4 x5 x6 x7 x8
  have h9 : Evolves s0 x3 := ev.atEntry
  clear_value x3
  have h10 : Evolves s0 x8 := h9.setRequester
  clear_value x8
  split
  · exact h9.setRequester
  · exact h10.commitEntry.end_

theorem Evolves.writeAt {s : State} {src : Src} {toTag : Option (Nat × Nat)} {a : Nat} {v : Nat} (ev : Evolves s0 s) :
    Evolves s0 (s.writeAt src toTag a v).st := by
  unfold State.writeAt
  extract_lets x1 x2
  have h3 : Evolves s0 x2 := ev.unlink
  clear_value x2
  split
  · exact h3
  · split
    · exact h3
    · split
      · exact h3
      · split
        · exact h3.no.end_
        · split
          · exact h3.writeReg
          · exact h3.writeWin

theorem Evolves.modifyAt {s : State} {src : Src} {toTag : Option (Nat × Nat)} {a : Nat} {mask : Nat} {v : Nat} (ev : Evolves s0 s) :
    Evolves s0 (s.modifyAt src toTag a mask v).st := by
  unfold State.modifyAt
  extract_lets x1 x2 x3
  have h4 : Evolves s0 x3.st := ev.writeAt
  clear_value x3
  split
  · exact h4
  · split
    · exact h4
    · exact h4
    · exact h4

theorem Evolves.gddrRead {n : Nat} {s : State} {o : Nat} {l : List Nat} (ev : Evolves s0 s) :
    Evolves s0 (State.gddrRead n s o l).snd.snd := by
  induction n generalizing s o l with
  | zero => exact ev
  | succ n ih =>
    unfold State.gddrRead
    split
    · exact ev
    · split
      rename_i p w e
      split
      rename_i d t h
      exact ih ((congrArg (fun z => Evolves s0 z.2) h).mp ev.readWord)

end Sys2Proof.Machine
end

