-- ==== Sys2Proof/Laws/State.lean ====
section
/-!
SUPPORT. The fields of the state after each primitive update: an update changes its own field and no other, and an update of
another field leaves every register word as it is.
-/

-- One declaration at a time: all at once need more threads than the check's memory limit allows.
set_option Elab.async false
namespace Sys2Proof.Machine

variable {s : State}

/-! ### setWord -/

@[simp] theorem State.setWord_mem {a : Nat} {v : Word} : (s.setWord a v).mem = s.mem := rfl
@[simp] theorem State.setWord_poisoned {a : Nat} {v : Word} : (s.setWord a v).poisoned = s.poisoned := rfl
@[simp] theorem State.setWord_dtime {a : Nat} {v : Word} : (s.setWord a v).dtime = s.dtime := rfl
@[simp] theorem State.setWord_now {a : Nat} {v : Word} : (s.setWord a v).now = s.now := rfl
@[simp] theorem State.setWord_freeCtr {a : Nat} {v : Word} : (s.setWord a v).freeCtr = s.freeCtr := rfl
@[simp] theorem State.setWord_boot {a : Nat} {v : Word} : (s.setWord a v).boot = s.boot := rfl
@[simp] theorem State.setWord_rap {a : Nat} {v : Word} : (s.setWord a v).rap = s.rap := rfl
@[simp] theorem State.setWord_pwr {a : Nat} {v : Word} : (s.setWord a v).pwr = s.pwr := rfl
@[simp] theorem State.setWord_thm {a : Nat} {v : Word} : (s.setWord a v).thm = s.thm := rfl
@[simp] theorem State.setWord_pages {a : Nat} {v : Word} : (s.setWord a v).pages = s.pages := rfl
@[simp] theorem State.setWord_coreQueue {a : Nat} {v : Word} : (s.setWord a v).coreQueue = s.coreQueue := rfl
@[simp] theorem State.setWord_safe {a : Nat} {v : Word} : (s.setWord a v).safe = s.safe := rfl
@[simp] theorem State.setWord_raised {a : Nat} {v : Word} : (s.setWord a v).raised = s.raised := rfl
@[simp] theorem State.setWord_cal {a : Nat} {v : Word} : (s.setWord a v).cal = s.cal := rfl
@[simp] theorem State.setWord_tx {a : Nat} {v : Word} : (s.setWord a v).tx = s.tx := rfl
@[simp] theorem State.setWord_rx {a : Nat} {v : Word} : (s.setWord a v).rx = s.rx := rfl
@[simp] theorem State.setWord_sub {a : Nat} {v : Word} : (s.setWord a v).sub = s.sub := rfl
@[simp] theorem State.setWord_fec {a : Nat} {v : Word} : (s.setWord a v).fec = s.fec := rfl
@[simp] theorem State.setWord_frm {a : Nat} {v : Word} : (s.setWord a v).frm = s.frm := rfl
@[simp] theorem State.setWord_osp {a : Nat} {v : Word} : (s.setWord a v).osp = s.osp := rfl
@[simp] theorem State.setWord_pmb {a : Nat} {v : Word} : (s.setWord a v).pmb = s.pmb := rfl
@[simp] theorem State.setWord_gath {a : Nat} {v : Word} : (s.setWord a v).gath = s.gath := rfl
@[simp] theorem State.setWord_pg {a : Nat} {v : Word} : (s.setWord a v).pg = s.pg := rfl
@[simp] theorem State.setWord_cry {a : Nat} {v : Word} : (s.setWord a v).cry = s.cry := rfl
@[simp] theorem State.setWord_agree {a : Nat} {v : Word} : (s.setWord a v).agree = s.agree := rfl
@[simp] theorem State.setWord_cryPassed {a : Nat} {v : Word} : (s.setWord a v).cryPassed = s.cryPassed := rfl
@[simp] theorem State.setWord_cls {a : Nat} {v : Word} : (s.setWord a v).cls = s.cls := rfl
@[simp] theorem State.setWord_ports {a : Nat} {v : Word} : (s.setWord a v).ports = s.ports := rfl
@[simp] theorem State.setWord_pkt {a : Nat} {v : Word} : (s.setWord a v).pkt = s.pkt := rfl
@[simp] theorem State.setWord_fbl {a : Nat} {v : Word} : (s.setWord a v).fbl = s.fbl := rfl
@[simp] theorem State.setWord_fbr {a : Nat} {v : Word} : (s.setWord a v).fbr = s.fbr := rfl
@[simp] theorem State.setWord_tim {a : Nat} {v : Word} : (s.setWord a v).tim = s.tim := rfl
@[simp] theorem State.setWord_ecc {a : Nat} {v : Word} : (s.setWord a v).ecc = s.ecc := rfl
@[simp] theorem State.setWord_hka {a : Nat} {v : Word} : (s.setWord a v).hka = s.hka := rfl
@[simp] theorem State.setWord_nv {a : Nat} {v : Word} : (s.setWord a v).nv = s.nv := rfl
@[simp] theorem State.setWord_sec {a : Nat} {v : Word} : (s.setWord a v).sec = s.sec := rfl
@[simp] theorem State.setWord_cpu {a : Nat} {v : Word} : (s.setWord a v).cpu = s.cpu := rfl
@[simp] theorem State.setWord_rpr {a : Nat} {v : Word} : (s.setWord a v).rpr = s.rpr := rfl
@[simp] theorem State.setWord_out {a : Nat} {v : Word} : (s.setWord a v).out = s.out := rfl
@[simp] theorem State.setWord_pending {a : Nat} {v : Word} : (s.setWord a v).pending = s.pending := rfl

/-! ### setNat -/

@[simp] theorem State.setNat_mem {a v : Nat} : (s.setNat a v).mem = s.mem := rfl
@[simp] theorem State.setNat_poisoned {a v : Nat} : (s.setNat a v).poisoned = s.poisoned := rfl
@[simp] theorem State.setNat_dtime {a v : Nat} : (s.setNat a v).dtime = s.dtime := rfl
@[simp] theorem State.setNat_now {a v : Nat} : (s.setNat a v).now = s.now := rfl
@[simp] theorem State.setNat_freeCtr {a v : Nat} : (s.setNat a v).freeCtr = s.freeCtr := rfl
@[simp] theorem State.setNat_boot {a v : Nat} : (s.setNat a v).boot = s.boot := rfl
@[simp] theorem State.setNat_rap {a v : Nat} : (s.setNat a v).rap = s.rap := rfl
@[simp] theorem State.setNat_pwr {a v : Nat} : (s.setNat a v).pwr = s.pwr := rfl
@[simp] theorem State.setNat_thm {a v : Nat} : (s.setNat a v).thm = s.thm := rfl
@[simp] theorem State.setNat_pages {a v : Nat} : (s.setNat a v).pages = s.pages := rfl
@[simp] theorem State.setNat_coreQueue {a v : Nat} : (s.setNat a v).coreQueue = s.coreQueue := rfl
@[simp] theorem State.setNat_safe {a v : Nat} : (s.setNat a v).safe = s.safe := rfl
@[simp] theorem State.setNat_raised {a v : Nat} : (s.setNat a v).raised = s.raised := rfl
@[simp] theorem State.setNat_cal {a v : Nat} : (s.setNat a v).cal = s.cal := rfl
@[simp] theorem State.setNat_tx {a v : Nat} : (s.setNat a v).tx = s.tx := rfl
@[simp] theorem State.setNat_rx {a v : Nat} : (s.setNat a v).rx = s.rx := rfl
@[simp] theorem State.setNat_sub {a v : Nat} : (s.setNat a v).sub = s.sub := rfl
@[simp] theorem State.setNat_fec {a v : Nat} : (s.setNat a v).fec = s.fec := rfl
@[simp] theorem State.setNat_frm {a v : Nat} : (s.setNat a v).frm = s.frm := rfl
@[simp] theorem State.setNat_osp {a v : Nat} : (s.setNat a v).osp = s.osp := rfl
@[simp] theorem State.setNat_pmb {a v : Nat} : (s.setNat a v).pmb = s.pmb := rfl
@[simp] theorem State.setNat_gath {a v : Nat} : (s.setNat a v).gath = s.gath := rfl
@[simp] theorem State.setNat_pg {a v : Nat} : (s.setNat a v).pg = s.pg := rfl
@[simp] theorem State.setNat_cry {a v : Nat} : (s.setNat a v).cry = s.cry := rfl
@[simp] theorem State.setNat_agree {a v : Nat} : (s.setNat a v).agree = s.agree := rfl
@[simp] theorem State.setNat_cryPassed {a v : Nat} : (s.setNat a v).cryPassed = s.cryPassed := rfl
@[simp] theorem State.setNat_cls {a v : Nat} : (s.setNat a v).cls = s.cls := rfl
@[simp] theorem State.setNat_ports {a v : Nat} : (s.setNat a v).ports = s.ports := rfl
@[simp] theorem State.setNat_pkt {a v : Nat} : (s.setNat a v).pkt = s.pkt := rfl
@[simp] theorem State.setNat_fbl {a v : Nat} : (s.setNat a v).fbl = s.fbl := rfl
@[simp] theorem State.setNat_fbr {a v : Nat} : (s.setNat a v).fbr = s.fbr := rfl
@[simp] theorem State.setNat_tim {a v : Nat} : (s.setNat a v).tim = s.tim := rfl
@[simp] theorem State.setNat_ecc {a v : Nat} : (s.setNat a v).ecc = s.ecc := rfl
@[simp] theorem State.setNat_hka {a v : Nat} : (s.setNat a v).hka = s.hka := rfl
@[simp] theorem State.setNat_nv {a v : Nat} : (s.setNat a v).nv = s.nv := rfl
@[simp] theorem State.setNat_sec {a v : Nat} : (s.setNat a v).sec = s.sec := rfl
@[simp] theorem State.setNat_cpu {a v : Nat} : (s.setNat a v).cpu = s.cpu := rfl
@[simp] theorem State.setNat_rpr {a v : Nat} : (s.setNat a v).rpr = s.rpr := rfl
@[simp] theorem State.setNat_out {a v : Nat} : (s.setNat a v).out = s.out := rfl
@[simp] theorem State.setNat_pending {a v : Nat} : (s.setNat a v).pending = s.pending := rfl

/-! ### set -/

@[simp] theorem State.set_mem {b v : Nat} {f : Fld} : (s.set b f v).mem = s.mem := rfl
@[simp] theorem State.set_poisoned {b v : Nat} {f : Fld} : (s.set b f v).poisoned = s.poisoned := rfl
@[simp] theorem State.set_dtime {b v : Nat} {f : Fld} : (s.set b f v).dtime = s.dtime := rfl
@[simp] theorem State.set_now {b v : Nat} {f : Fld} : (s.set b f v).now = s.now := rfl
@[simp] theorem State.set_freeCtr {b v : Nat} {f : Fld} : (s.set b f v).freeCtr = s.freeCtr := rfl
@[simp] theorem State.set_boot {b v : Nat} {f : Fld} : (s.set b f v).boot = s.boot := rfl
@[simp] theorem State.set_rap {b v : Nat} {f : Fld} : (s.set b f v).rap = s.rap := rfl
@[simp] theorem State.set_pwr {b v : Nat} {f : Fld} : (s.set b f v).pwr = s.pwr := rfl
@[simp] theorem State.set_thm {b v : Nat} {f : Fld} : (s.set b f v).thm = s.thm := rfl
@[simp] theorem State.set_pages {b v : Nat} {f : Fld} : (s.set b f v).pages = s.pages := rfl
@[simp] theorem State.set_coreQueue {b v : Nat} {f : Fld} : (s.set b f v).coreQueue = s.coreQueue := rfl
@[simp] theorem State.set_safe {b v : Nat} {f : Fld} : (s.set b f v).safe = s.safe := rfl
@[simp] theorem State.set_raised {b v : Nat} {f : Fld} : (s.set b f v).raised = s.raised := rfl
@[simp] theorem State.set_cal {b v : Nat} {f : Fld} : (s.set b f v).cal = s.cal := rfl
@[simp] theorem State.set_tx {b v : Nat} {f : Fld} : (s.set b f v).tx = s.tx := rfl
@[simp] theorem State.set_rx {b v : Nat} {f : Fld} : (s.set b f v).rx = s.rx := rfl
@[simp] theorem State.set_sub {b v : Nat} {f : Fld} : (s.set b f v).sub = s.sub := rfl
@[simp] theorem State.set_fec {b v : Nat} {f : Fld} : (s.set b f v).fec = s.fec := rfl
@[simp] theorem State.set_frm {b v : Nat} {f : Fld} : (s.set b f v).frm = s.frm := rfl
@[simp] theorem State.set_osp {b v : Nat} {f : Fld} : (s.set b f v).osp = s.osp := rfl
@[simp] theorem State.set_pmb {b v : Nat} {f : Fld} : (s.set b f v).pmb = s.pmb := rfl
@[simp] theorem State.set_gath {b v : Nat} {f : Fld} : (s.set b f v).gath = s.gath := rfl
@[simp] theorem State.set_pg {b v : Nat} {f : Fld} : (s.set b f v).pg = s.pg := rfl
@[simp] theorem State.set_cry {b v : Nat} {f : Fld} : (s.set b f v).cry = s.cry := rfl
@[simp] theorem State.set_agree {b v : Nat} {f : Fld} : (s.set b f v).agree = s.agree := rfl
@[simp] theorem State.set_cryPassed {b v : Nat} {f : Fld} : (s.set b f v).cryPassed = s.cryPassed := rfl
@[simp] theorem State.set_cls {b v : Nat} {f : Fld} : (s.set b f v).cls = s.cls := rfl
@[simp] theorem State.set_ports {b v : Nat} {f : Fld} : (s.set b f v).ports = s.ports := rfl
@[simp] theorem State.set_pkt {b v : Nat} {f : Fld} : (s.set b f v).pkt = s.pkt := rfl
@[simp] theorem State.set_fbl {b v : Nat} {f : Fld} : (s.set b f v).fbl = s.fbl := rfl
@[simp] theorem State.set_fbr {b v : Nat} {f : Fld} : (s.set b f v).fbr = s.fbr := rfl
@[simp] theorem State.set_tim {b v : Nat} {f : Fld} : (s.set b f v).tim = s.tim := rfl
@[simp] theorem State.set_ecc {b v : Nat} {f : Fld} : (s.set b f v).ecc = s.ecc := rfl
@[simp] theorem State.set_hka {b v : Nat} {f : Fld} : (s.set b f v).hka = s.hka := rfl
@[simp] theorem State.set_nv {b v : Nat} {f : Fld} : (s.set b f v).nv = s.nv := rfl
@[simp] theorem State.set_sec {b v : Nat} {f : Fld} : (s.set b f v).sec = s.sec := rfl
@[simp] theorem State.set_cpu {b v : Nat} {f : Fld} : (s.set b f v).cpu = s.cpu := rfl
@[simp] theorem State.set_rpr {b v : Nat} {f : Fld} : (s.set b f v).rpr = s.rpr := rfl
@[simp] theorem State.set_out {b v : Nat} {f : Fld} : (s.set b f v).out = s.out := rfl
@[simp] theorem State.set_pending {b v : Nat} {f : Fld} : (s.set b f v).pending = s.pending := rfl

/-! ### setI -/

@[simp] theorem State.setI_mem {b : Nat} {f : Fld} {x : Int} : (s.setI b f x).mem = s.mem := rfl
@[simp] theorem State.setI_poisoned {b : Nat} {f : Fld} {x : Int} : (s.setI b f x).poisoned = s.poisoned := rfl
@[simp] theorem State.setI_dtime {b : Nat} {f : Fld} {x : Int} : (s.setI b f x).dtime = s.dtime := rfl
@[simp] theorem State.setI_now {b : Nat} {f : Fld} {x : Int} : (s.setI b f x).now = s.now := rfl
@[simp] theorem State.setI_freeCtr {b : Nat} {f : Fld} {x : Int} : (s.setI b f x).freeCtr = s.freeCtr := rfl
@[simp] theorem State.setI_boot {b : Nat} {f : Fld} {x : Int} : (s.setI b f x).boot = s.boot := rfl
@[simp] theorem State.setI_rap {b : Nat} {f : Fld} {x : Int} : (s.setI b f x).rap = s.rap := rfl
@[simp] theorem State.setI_pwr {b : Nat} {f : Fld} {x : Int} : (s.setI b f x).pwr = s.pwr := rfl
@[simp] theorem State.setI_thm {b : Nat} {f : Fld} {x : Int} : (s.setI b f x).thm = s.thm := rfl
@[simp] theorem State.setI_pages {b : Nat} {f : Fld} {x : Int} : (s.setI b f x).pages = s.pages := rfl
@[simp] theorem State.setI_coreQueue {b : Nat} {f : Fld} {x : Int} : (s.setI b f x).coreQueue = s.coreQueue := rfl
@[simp] theorem State.setI_safe {b : Nat} {f : Fld} {x : Int} : (s.setI b f x).safe = s.safe := rfl
@[simp] theorem State.setI_raised {b : Nat} {f : Fld} {x : Int} : (s.setI b f x).raised = s.raised := rfl
@[simp] theorem State.setI_cal {b : Nat} {f : Fld} {x : Int} : (s.setI b f x).cal = s.cal := rfl
@[simp] theorem State.setI_tx {b : Nat} {f : Fld} {x : Int} : (s.setI b f x).tx = s.tx := rfl
@[simp] theorem State.setI_rx {b : Nat} {f : Fld} {x : Int} : (s.setI b f x).rx = s.rx := rfl
@[simp] theorem State.setI_sub {b : Nat} {f : Fld} {x : Int} : (s.setI b f x).sub = s.sub := rfl
@[simp] theorem State.setI_fec {b : Nat} {f : Fld} {x : Int} : (s.setI b f x).fec = s.fec := rfl
@[simp] theorem State.setI_frm {b : Nat} {f : Fld} {x : Int} : (s.setI b f x).frm = s.frm := rfl
@[simp] theorem State.setI_osp {b : Nat} {f : Fld} {x : Int} : (s.setI b f x).osp = s.osp := rfl
@[simp] theorem State.setI_pmb {b : Nat} {f : Fld} {x : Int} : (s.setI b f x).pmb = s.pmb := rfl
@[simp] theorem State.setI_gath {b : Nat} {f : Fld} {x : Int} : (s.setI b f x).gath = s.gath := rfl
@[simp] theorem State.setI_pg {b : Nat} {f : Fld} {x : Int} : (s.setI b f x).pg = s.pg := rfl
@[simp] theorem State.setI_cry {b : Nat} {f : Fld} {x : Int} : (s.setI b f x).cry = s.cry := rfl
@[simp] theorem State.setI_agree {b : Nat} {f : Fld} {x : Int} : (s.setI b f x).agree = s.agree := rfl
@[simp] theorem State.setI_cryPassed {b : Nat} {f : Fld} {x : Int} : (s.setI b f x).cryPassed = s.cryPassed := rfl
@[simp] theorem State.setI_cls {b : Nat} {f : Fld} {x : Int} : (s.setI b f x).cls = s.cls := rfl
@[simp] theorem State.setI_ports {b : Nat} {f : Fld} {x : Int} : (s.setI b f x).ports = s.ports := rfl
@[simp] theorem State.setI_pkt {b : Nat} {f : Fld} {x : Int} : (s.setI b f x).pkt = s.pkt := rfl
@[simp] theorem State.setI_fbl {b : Nat} {f : Fld} {x : Int} : (s.setI b f x).fbl = s.fbl := rfl
@[simp] theorem State.setI_fbr {b : Nat} {f : Fld} {x : Int} : (s.setI b f x).fbr = s.fbr := rfl
@[simp] theorem State.setI_tim {b : Nat} {f : Fld} {x : Int} : (s.setI b f x).tim = s.tim := rfl
@[simp] theorem State.setI_ecc {b : Nat} {f : Fld} {x : Int} : (s.setI b f x).ecc = s.ecc := rfl
@[simp] theorem State.setI_hka {b : Nat} {f : Fld} {x : Int} : (s.setI b f x).hka = s.hka := rfl
@[simp] theorem State.setI_nv {b : Nat} {f : Fld} {x : Int} : (s.setI b f x).nv = s.nv := rfl
@[simp] theorem State.setI_sec {b : Nat} {f : Fld} {x : Int} : (s.setI b f x).sec = s.sec := rfl
@[simp] theorem State.setI_cpu {b : Nat} {f : Fld} {x : Int} : (s.setI b f x).cpu = s.cpu := rfl
@[simp] theorem State.setI_rpr {b : Nat} {f : Fld} {x : Int} : (s.setI b f x).rpr = s.rpr := rfl
@[simp] theorem State.setI_out {b : Nat} {f : Fld} {x : Int} : (s.setI b f x).out = s.out := rfl
@[simp] theorem State.setI_pending {b : Nat} {f : Fld} {x : Int} : (s.setI b f x).pending = s.pending := rfl

/-! ### setB -/

@[simp] theorem State.setB_mem {b : Nat} {f : Fld} {y : Bool} : (s.setB b f y).mem = s.mem := rfl
@[simp] theorem State.setB_poisoned {b : Nat} {f : Fld} {y : Bool} : (s.setB b f y).poisoned = s.poisoned := rfl
@[simp] theorem State.setB_dtime {b : Nat} {f : Fld} {y : Bool} : (s.setB b f y).dtime = s.dtime := rfl
@[simp] theorem State.setB_now {b : Nat} {f : Fld} {y : Bool} : (s.setB b f y).now = s.now := rfl
@[simp] theorem State.setB_freeCtr {b : Nat} {f : Fld} {y : Bool} : (s.setB b f y).freeCtr = s.freeCtr := rfl
@[simp] theorem State.setB_boot {b : Nat} {f : Fld} {y : Bool} : (s.setB b f y).boot = s.boot := rfl
@[simp] theorem State.setB_rap {b : Nat} {f : Fld} {y : Bool} : (s.setB b f y).rap = s.rap := rfl
@[simp] theorem State.setB_pwr {b : Nat} {f : Fld} {y : Bool} : (s.setB b f y).pwr = s.pwr := rfl
@[simp] theorem State.setB_thm {b : Nat} {f : Fld} {y : Bool} : (s.setB b f y).thm = s.thm := rfl
@[simp] theorem State.setB_pages {b : Nat} {f : Fld} {y : Bool} : (s.setB b f y).pages = s.pages := rfl
@[simp] theorem State.setB_coreQueue {b : Nat} {f : Fld} {y : Bool} : (s.setB b f y).coreQueue = s.coreQueue := rfl
@[simp] theorem State.setB_safe {b : Nat} {f : Fld} {y : Bool} : (s.setB b f y).safe = s.safe := rfl
@[simp] theorem State.setB_raised {b : Nat} {f : Fld} {y : Bool} : (s.setB b f y).raised = s.raised := rfl
@[simp] theorem State.setB_cal {b : Nat} {f : Fld} {y : Bool} : (s.setB b f y).cal = s.cal := rfl
@[simp] theorem State.setB_tx {b : Nat} {f : Fld} {y : Bool} : (s.setB b f y).tx = s.tx := rfl
@[simp] theorem State.setB_rx {b : Nat} {f : Fld} {y : Bool} : (s.setB b f y).rx = s.rx := rfl
@[simp] theorem State.setB_sub {b : Nat} {f : Fld} {y : Bool} : (s.setB b f y).sub = s.sub := rfl
@[simp] theorem State.setB_fec {b : Nat} {f : Fld} {y : Bool} : (s.setB b f y).fec = s.fec := rfl
@[simp] theorem State.setB_frm {b : Nat} {f : Fld} {y : Bool} : (s.setB b f y).frm = s.frm := rfl
@[simp] theorem State.setB_osp {b : Nat} {f : Fld} {y : Bool} : (s.setB b f y).osp = s.osp := rfl
@[simp] theorem State.setB_pmb {b : Nat} {f : Fld} {y : Bool} : (s.setB b f y).pmb = s.pmb := rfl
@[simp] theorem State.setB_gath {b : Nat} {f : Fld} {y : Bool} : (s.setB b f y).gath = s.gath := rfl
@[simp] theorem State.setB_pg {b : Nat} {f : Fld} {y : Bool} : (s.setB b f y).pg = s.pg := rfl
@[simp] theorem State.setB_cry {b : Nat} {f : Fld} {y : Bool} : (s.setB b f y).cry = s.cry := rfl
@[simp] theorem State.setB_agree {b : Nat} {f : Fld} {y : Bool} : (s.setB b f y).agree = s.agree := rfl
@[simp] theorem State.setB_cryPassed {b : Nat} {f : Fld} {y : Bool} : (s.setB b f y).cryPassed = s.cryPassed := rfl
@[simp] theorem State.setB_cls {b : Nat} {f : Fld} {y : Bool} : (s.setB b f y).cls = s.cls := rfl
@[simp] theorem State.setB_ports {b : Nat} {f : Fld} {y : Bool} : (s.setB b f y).ports = s.ports := rfl
@[simp] theorem State.setB_pkt {b : Nat} {f : Fld} {y : Bool} : (s.setB b f y).pkt = s.pkt := rfl
@[simp] theorem State.setB_fbl {b : Nat} {f : Fld} {y : Bool} : (s.setB b f y).fbl = s.fbl := rfl
@[simp] theorem State.setB_fbr {b : Nat} {f : Fld} {y : Bool} : (s.setB b f y).fbr = s.fbr := rfl
@[simp] theorem State.setB_tim {b : Nat} {f : Fld} {y : Bool} : (s.setB b f y).tim = s.tim := rfl
@[simp] theorem State.setB_ecc {b : Nat} {f : Fld} {y : Bool} : (s.setB b f y).ecc = s.ecc := rfl
@[simp] theorem State.setB_hka {b : Nat} {f : Fld} {y : Bool} : (s.setB b f y).hka = s.hka := rfl
@[simp] theorem State.setB_nv {b : Nat} {f : Fld} {y : Bool} : (s.setB b f y).nv = s.nv := rfl
@[simp] theorem State.setB_sec {b : Nat} {f : Fld} {y : Bool} : (s.setB b f y).sec = s.sec := rfl
@[simp] theorem State.setB_cpu {b : Nat} {f : Fld} {y : Bool} : (s.setB b f y).cpu = s.cpu := rfl
@[simp] theorem State.setB_rpr {b : Nat} {f : Fld} {y : Bool} : (s.setB b f y).rpr = s.rpr := rfl
@[simp] theorem State.setB_out {b : Nat} {f : Fld} {y : Bool} : (s.setB b f y).out = s.out := rfl
@[simp] theorem State.setB_pending {b : Nat} {f : Fld} {y : Bool} : (s.setB b f y).pending = s.pending := rfl

/-! ### bumpBy -/

@[simp] theorem State.bumpBy_mem {b v : Nat} {f : Fld} : (s.bumpBy b f v).mem = s.mem := rfl
@[simp] theorem State.bumpBy_poisoned {b v : Nat} {f : Fld} : (s.bumpBy b f v).poisoned = s.poisoned := rfl
@[simp] theorem State.bumpBy_dtime {b v : Nat} {f : Fld} : (s.bumpBy b f v).dtime = s.dtime := rfl
@[simp] theorem State.bumpBy_now {b v : Nat} {f : Fld} : (s.bumpBy b f v).now = s.now := rfl
@[simp] theorem State.bumpBy_freeCtr {b v : Nat} {f : Fld} : (s.bumpBy b f v).freeCtr = s.freeCtr := rfl
@[simp] theorem State.bumpBy_boot {b v : Nat} {f : Fld} : (s.bumpBy b f v).boot = s.boot := rfl
@[simp] theorem State.bumpBy_rap {b v : Nat} {f : Fld} : (s.bumpBy b f v).rap = s.rap := rfl
@[simp] theorem State.bumpBy_pwr {b v : Nat} {f : Fld} : (s.bumpBy b f v).pwr = s.pwr := rfl
@[simp] theorem State.bumpBy_thm {b v : Nat} {f : Fld} : (s.bumpBy b f v).thm = s.thm := rfl
@[simp] theorem State.bumpBy_pages {b v : Nat} {f : Fld} : (s.bumpBy b f v).pages = s.pages := rfl
@[simp] theorem State.bumpBy_coreQueue {b v : Nat} {f : Fld} : (s.bumpBy b f v).coreQueue = s.coreQueue := rfl
@[simp] theorem State.bumpBy_safe {b v : Nat} {f : Fld} : (s.bumpBy b f v).safe = s.safe := rfl
@[simp] theorem State.bumpBy_raised {b v : Nat} {f : Fld} : (s.bumpBy b f v).raised = s.raised := rfl
@[simp] theorem State.bumpBy_cal {b v : Nat} {f : Fld} : (s.bumpBy b f v).cal = s.cal := rfl
@[simp] theorem State.bumpBy_tx {b v : Nat} {f : Fld} : (s.bumpBy b f v).tx = s.tx := rfl
@[simp] theorem State.bumpBy_rx {b v : Nat} {f : Fld} : (s.bumpBy b f v).rx = s.rx := rfl
@[simp] theorem State.bumpBy_sub {b v : Nat} {f : Fld} : (s.bumpBy b f v).sub = s.sub := rfl
@[simp] theorem State.bumpBy_fec {b v : Nat} {f : Fld} : (s.bumpBy b f v).fec = s.fec := rfl
@[simp] theorem State.bumpBy_frm {b v : Nat} {f : Fld} : (s.bumpBy b f v).frm = s.frm := rfl
@[simp] theorem State.bumpBy_osp {b v : Nat} {f : Fld} : (s.bumpBy b f v).osp = s.osp := rfl
@[simp] theorem State.bumpBy_pmb {b v : Nat} {f : Fld} : (s.bumpBy b f v).pmb = s.pmb := rfl
@[simp] theorem State.bumpBy_gath {b v : Nat} {f : Fld} : (s.bumpBy b f v).gath = s.gath := rfl
@[simp] theorem State.bumpBy_pg {b v : Nat} {f : Fld} : (s.bumpBy b f v).pg = s.pg := rfl
@[simp] theorem State.bumpBy_cry {b v : Nat} {f : Fld} : (s.bumpBy b f v).cry = s.cry := rfl
@[simp] theorem State.bumpBy_agree {b v : Nat} {f : Fld} : (s.bumpBy b f v).agree = s.agree := rfl
@[simp] theorem State.bumpBy_cryPassed {b v : Nat} {f : Fld} : (s.bumpBy b f v).cryPassed = s.cryPassed := rfl
@[simp] theorem State.bumpBy_cls {b v : Nat} {f : Fld} : (s.bumpBy b f v).cls = s.cls := rfl
@[simp] theorem State.bumpBy_ports {b v : Nat} {f : Fld} : (s.bumpBy b f v).ports = s.ports := rfl
@[simp] theorem State.bumpBy_pkt {b v : Nat} {f : Fld} : (s.bumpBy b f v).pkt = s.pkt := rfl
@[simp] theorem State.bumpBy_fbl {b v : Nat} {f : Fld} : (s.bumpBy b f v).fbl = s.fbl := rfl
@[simp] theorem State.bumpBy_fbr {b v : Nat} {f : Fld} : (s.bumpBy b f v).fbr = s.fbr := rfl
@[simp] theorem State.bumpBy_tim {b v : Nat} {f : Fld} : (s.bumpBy b f v).tim = s.tim := rfl
@[simp] theorem State.bumpBy_ecc {b v : Nat} {f : Fld} : (s.bumpBy b f v).ecc = s.ecc := rfl
@[simp] theorem State.bumpBy_hka {b v : Nat} {f : Fld} : (s.bumpBy b f v).hka = s.hka := rfl
@[simp] theorem State.bumpBy_nv {b v : Nat} {f : Fld} : (s.bumpBy b f v).nv = s.nv := rfl
@[simp] theorem State.bumpBy_sec {b v : Nat} {f : Fld} : (s.bumpBy b f v).sec = s.sec := rfl
@[simp] theorem State.bumpBy_cpu {b v : Nat} {f : Fld} : (s.bumpBy b f v).cpu = s.cpu := rfl
@[simp] theorem State.bumpBy_rpr {b v : Nat} {f : Fld} : (s.bumpBy b f v).rpr = s.rpr := rfl
@[simp] theorem State.bumpBy_out {b v : Nat} {f : Fld} : (s.bumpBy b f v).out = s.out := rfl
@[simp] theorem State.bumpBy_pending {b v : Nat} {f : Fld} : (s.bumpBy b f v).pending = s.pending := rfl

/-! ### bump -/

@[simp] theorem State.bump_mem {b : Nat} {f : Fld} : (s.bump b f).mem = s.mem := rfl
@[simp] theorem State.bump_poisoned {b : Nat} {f : Fld} : (s.bump b f).poisoned = s.poisoned := rfl
@[simp] theorem State.bump_dtime {b : Nat} {f : Fld} : (s.bump b f).dtime = s.dtime := rfl
@[simp] theorem State.bump_now {b : Nat} {f : Fld} : (s.bump b f).now = s.now := rfl
@[simp] theorem State.bump_freeCtr {b : Nat} {f : Fld} : (s.bump b f).freeCtr = s.freeCtr := rfl
@[simp] theorem State.bump_boot {b : Nat} {f : Fld} : (s.bump b f).boot = s.boot := rfl
@[simp] theorem State.bump_rap {b : Nat} {f : Fld} : (s.bump b f).rap = s.rap := rfl
@[simp] theorem State.bump_pwr {b : Nat} {f : Fld} : (s.bump b f).pwr = s.pwr := rfl
@[simp] theorem State.bump_thm {b : Nat} {f : Fld} : (s.bump b f).thm = s.thm := rfl
@[simp] theorem State.bump_pages {b : Nat} {f : Fld} : (s.bump b f).pages = s.pages := rfl
@[simp] theorem State.bump_coreQueue {b : Nat} {f : Fld} : (s.bump b f).coreQueue = s.coreQueue := rfl
@[simp] theorem State.bump_safe {b : Nat} {f : Fld} : (s.bump b f).safe = s.safe := rfl
@[simp] theorem State.bump_raised {b : Nat} {f : Fld} : (s.bump b f).raised = s.raised := rfl
@[simp] theorem State.bump_cal {b : Nat} {f : Fld} : (s.bump b f).cal = s.cal := rfl
@[simp] theorem State.bump_tx {b : Nat} {f : Fld} : (s.bump b f).tx = s.tx := rfl
@[simp] theorem State.bump_rx {b : Nat} {f : Fld} : (s.bump b f).rx = s.rx := rfl
@[simp] theorem State.bump_sub {b : Nat} {f : Fld} : (s.bump b f).sub = s.sub := rfl
@[simp] theorem State.bump_fec {b : Nat} {f : Fld} : (s.bump b f).fec = s.fec := rfl
@[simp] theorem State.bump_frm {b : Nat} {f : Fld} : (s.bump b f).frm = s.frm := rfl
@[simp] theorem State.bump_osp {b : Nat} {f : Fld} : (s.bump b f).osp = s.osp := rfl
@[simp] theorem State.bump_pmb {b : Nat} {f : Fld} : (s.bump b f).pmb = s.pmb := rfl
@[simp] theorem State.bump_gath {b : Nat} {f : Fld} : (s.bump b f).gath = s.gath := rfl
@[simp] theorem State.bump_pg {b : Nat} {f : Fld} : (s.bump b f).pg = s.pg := rfl
@[simp] theorem State.bump_cry {b : Nat} {f : Fld} : (s.bump b f).cry = s.cry := rfl
@[simp] theorem State.bump_agree {b : Nat} {f : Fld} : (s.bump b f).agree = s.agree := rfl
@[simp] theorem State.bump_cryPassed {b : Nat} {f : Fld} : (s.bump b f).cryPassed = s.cryPassed := rfl
@[simp] theorem State.bump_cls {b : Nat} {f : Fld} : (s.bump b f).cls = s.cls := rfl
@[simp] theorem State.bump_ports {b : Nat} {f : Fld} : (s.bump b f).ports = s.ports := rfl
@[simp] theorem State.bump_pkt {b : Nat} {f : Fld} : (s.bump b f).pkt = s.pkt := rfl
@[simp] theorem State.bump_fbl {b : Nat} {f : Fld} : (s.bump b f).fbl = s.fbl := rfl
@[simp] theorem State.bump_fbr {b : Nat} {f : Fld} : (s.bump b f).fbr = s.fbr := rfl
@[simp] theorem State.bump_tim {b : Nat} {f : Fld} : (s.bump b f).tim = s.tim := rfl
@[simp] theorem State.bump_ecc {b : Nat} {f : Fld} : (s.bump b f).ecc = s.ecc := rfl
@[simp] theorem State.bump_hka {b : Nat} {f : Fld} : (s.bump b f).hka = s.hka := rfl
@[simp] theorem State.bump_nv {b : Nat} {f : Fld} : (s.bump b f).nv = s.nv := rfl
@[simp] theorem State.bump_sec {b : Nat} {f : Fld} : (s.bump b f).sec = s.sec := rfl
@[simp] theorem State.bump_cpu {b : Nat} {f : Fld} : (s.bump b f).cpu = s.cpu := rfl
@[simp] theorem State.bump_rpr {b : Nat} {f : Fld} : (s.bump b f).rpr = s.rpr := rfl
@[simp] theorem State.bump_out {b : Nat} {f : Fld} : (s.bump b f).out = s.out := rfl
@[simp] theorem State.bump_pending {b : Nat} {f : Fld} : (s.bump b f).pending = s.pending := rfl

/-! ### count -/

@[simp] theorem State.count_mem {a v : Nat} : (s.count a v).mem = s.mem := rfl
@[simp] theorem State.count_poisoned {a v : Nat} : (s.count a v).poisoned = s.poisoned := rfl
@[simp] theorem State.count_dtime {a v : Nat} : (s.count a v).dtime = s.dtime := rfl
@[simp] theorem State.count_now {a v : Nat} : (s.count a v).now = s.now := rfl
@[simp] theorem State.count_freeCtr {a v : Nat} : (s.count a v).freeCtr = s.freeCtr := rfl
@[simp] theorem State.count_boot {a v : Nat} : (s.count a v).boot = s.boot := rfl
@[simp] theorem State.count_rap {a v : Nat} : (s.count a v).rap = s.rap := rfl
@[simp] theorem State.count_pwr {a v : Nat} : (s.count a v).pwr = s.pwr := rfl
@[simp] theorem State.count_thm {a v : Nat} : (s.count a v).thm = s.thm := rfl
@[simp] theorem State.count_pages {a v : Nat} : (s.count a v).pages = s.pages := rfl
@[simp] theorem State.count_coreQueue {a v : Nat} : (s.count a v).coreQueue = s.coreQueue := rfl
@[simp] theorem State.count_safe {a v : Nat} : (s.count a v).safe = s.safe := rfl
@[simp] theorem State.count_raised {a v : Nat} : (s.count a v).raised = s.raised := rfl
@[simp] theorem State.count_cal {a v : Nat} : (s.count a v).cal = s.cal := rfl
@[simp] theorem State.count_tx {a v : Nat} : (s.count a v).tx = s.tx := rfl
@[simp] theorem State.count_rx {a v : Nat} : (s.count a v).rx = s.rx := rfl
@[simp] theorem State.count_sub {a v : Nat} : (s.count a v).sub = s.sub := rfl
@[simp] theorem State.count_fec {a v : Nat} : (s.count a v).fec = s.fec := rfl
@[simp] theorem State.count_frm {a v : Nat} : (s.count a v).frm = s.frm := rfl
@[simp] theorem State.count_osp {a v : Nat} : (s.count a v).osp = s.osp := rfl
@[simp] theorem State.count_pmb {a v : Nat} : (s.count a v).pmb = s.pmb := rfl
@[simp] theorem State.count_gath {a v : Nat} : (s.count a v).gath = s.gath := rfl
@[simp] theorem State.count_pg {a v : Nat} : (s.count a v).pg = s.pg := rfl
@[simp] theorem State.count_cry {a v : Nat} : (s.count a v).cry = s.cry := rfl
@[simp] theorem State.count_agree {a v : Nat} : (s.count a v).agree = s.agree := rfl
@[simp] theorem State.count_cryPassed {a v : Nat} : (s.count a v).cryPassed = s.cryPassed := rfl
@[simp] theorem State.count_cls {a v : Nat} : (s.count a v).cls = s.cls := rfl
@[simp] theorem State.count_ports {a v : Nat} : (s.count a v).ports = s.ports := rfl
@[simp] theorem State.count_pkt {a v : Nat} : (s.count a v).pkt = s.pkt := rfl
@[simp] theorem State.count_fbl {a v : Nat} : (s.count a v).fbl = s.fbl := rfl
@[simp] theorem State.count_fbr {a v : Nat} : (s.count a v).fbr = s.fbr := rfl
@[simp] theorem State.count_tim {a v : Nat} : (s.count a v).tim = s.tim := rfl
@[simp] theorem State.count_ecc {a v : Nat} : (s.count a v).ecc = s.ecc := rfl
@[simp] theorem State.count_hka {a v : Nat} : (s.count a v).hka = s.hka := rfl
@[simp] theorem State.count_nv {a v : Nat} : (s.count a v).nv = s.nv := rfl
@[simp] theorem State.count_sec {a v : Nat} : (s.count a v).sec = s.sec := rfl
@[simp] theorem State.count_cpu {a v : Nat} : (s.count a v).cpu = s.cpu := rfl
@[simp] theorem State.count_rpr {a v : Nat} : (s.count a v).rpr = s.rpr := rfl
@[simp] theorem State.count_out {a v : Nat} : (s.count a v).out = s.out := rfl
@[simp] theorem State.count_pending {a v : Nat} : (s.count a v).pending = s.pending := rfl

/-! ### setNat64 -/

@[simp] theorem State.setNat64_mem {a v : Nat} : (s.setNat64 a v).mem = s.mem := rfl
@[simp] theorem State.setNat64_poisoned {a v : Nat} : (s.setNat64 a v).poisoned = s.poisoned := rfl
@[simp] theorem State.setNat64_dtime {a v : Nat} : (s.setNat64 a v).dtime = s.dtime := rfl
@[simp] theorem State.setNat64_now {a v : Nat} : (s.setNat64 a v).now = s.now := rfl
@[simp] theorem State.setNat64_freeCtr {a v : Nat} : (s.setNat64 a v).freeCtr = s.freeCtr := rfl
@[simp] theorem State.setNat64_boot {a v : Nat} : (s.setNat64 a v).boot = s.boot := rfl
@[simp] theorem State.setNat64_rap {a v : Nat} : (s.setNat64 a v).rap = s.rap := rfl
@[simp] theorem State.setNat64_pwr {a v : Nat} : (s.setNat64 a v).pwr = s.pwr := rfl
@[simp] theorem State.setNat64_thm {a v : Nat} : (s.setNat64 a v).thm = s.thm := rfl
@[simp] theorem State.setNat64_pages {a v : Nat} : (s.setNat64 a v).pages = s.pages := rfl
@[simp] theorem State.setNat64_coreQueue {a v : Nat} : (s.setNat64 a v).coreQueue = s.coreQueue := rfl
@[simp] theorem State.setNat64_safe {a v : Nat} : (s.setNat64 a v).safe = s.safe := rfl
@[simp] theorem State.setNat64_raised {a v : Nat} : (s.setNat64 a v).raised = s.raised := rfl
@[simp] theorem State.setNat64_cal {a v : Nat} : (s.setNat64 a v).cal = s.cal := rfl
@[simp] theorem State.setNat64_tx {a v : Nat} : (s.setNat64 a v).tx = s.tx := rfl
@[simp] theorem State.setNat64_rx {a v : Nat} : (s.setNat64 a v).rx = s.rx := rfl
@[simp] theorem State.setNat64_sub {a v : Nat} : (s.setNat64 a v).sub = s.sub := rfl
@[simp] theorem State.setNat64_fec {a v : Nat} : (s.setNat64 a v).fec = s.fec := rfl
@[simp] theorem State.setNat64_frm {a v : Nat} : (s.setNat64 a v).frm = s.frm := rfl
@[simp] theorem State.setNat64_osp {a v : Nat} : (s.setNat64 a v).osp = s.osp := rfl
@[simp] theorem State.setNat64_pmb {a v : Nat} : (s.setNat64 a v).pmb = s.pmb := rfl
@[simp] theorem State.setNat64_gath {a v : Nat} : (s.setNat64 a v).gath = s.gath := rfl
@[simp] theorem State.setNat64_pg {a v : Nat} : (s.setNat64 a v).pg = s.pg := rfl
@[simp] theorem State.setNat64_cry {a v : Nat} : (s.setNat64 a v).cry = s.cry := rfl
@[simp] theorem State.setNat64_agree {a v : Nat} : (s.setNat64 a v).agree = s.agree := rfl
@[simp] theorem State.setNat64_cryPassed {a v : Nat} : (s.setNat64 a v).cryPassed = s.cryPassed := rfl
@[simp] theorem State.setNat64_cls {a v : Nat} : (s.setNat64 a v).cls = s.cls := rfl
@[simp] theorem State.setNat64_ports {a v : Nat} : (s.setNat64 a v).ports = s.ports := rfl
@[simp] theorem State.setNat64_pkt {a v : Nat} : (s.setNat64 a v).pkt = s.pkt := rfl
@[simp] theorem State.setNat64_fbl {a v : Nat} : (s.setNat64 a v).fbl = s.fbl := rfl
@[simp] theorem State.setNat64_fbr {a v : Nat} : (s.setNat64 a v).fbr = s.fbr := rfl
@[simp] theorem State.setNat64_tim {a v : Nat} : (s.setNat64 a v).tim = s.tim := rfl
@[simp] theorem State.setNat64_ecc {a v : Nat} : (s.setNat64 a v).ecc = s.ecc := rfl
@[simp] theorem State.setNat64_hka {a v : Nat} : (s.setNat64 a v).hka = s.hka := rfl
@[simp] theorem State.setNat64_nv {a v : Nat} : (s.setNat64 a v).nv = s.nv := rfl
@[simp] theorem State.setNat64_sec {a v : Nat} : (s.setNat64 a v).sec = s.sec := rfl
@[simp] theorem State.setNat64_cpu {a v : Nat} : (s.setNat64 a v).cpu = s.cpu := rfl
@[simp] theorem State.setNat64_rpr {a v : Nat} : (s.setNat64 a v).rpr = s.rpr := rfl
@[simp] theorem State.setNat64_out {a v : Nat} : (s.setNat64 a v).out = s.out := rfl
@[simp] theorem State.setNat64_pending {a v : Nat} : (s.setNat64 a v).pending = s.pending := rfl

/-! ### count64 -/

@[simp] theorem State.count64_mem {a v : Nat} : (s.count64 a v).mem = s.mem := rfl
@[simp] theorem State.count64_poisoned {a v : Nat} : (s.count64 a v).poisoned = s.poisoned := rfl
@[simp] theorem State.count64_dtime {a v : Nat} : (s.count64 a v).dtime = s.dtime := rfl
@[simp] theorem State.count64_now {a v : Nat} : (s.count64 a v).now = s.now := rfl
@[simp] theorem State.count64_freeCtr {a v : Nat} : (s.count64 a v).freeCtr = s.freeCtr := rfl
@[simp] theorem State.count64_boot {a v : Nat} : (s.count64 a v).boot = s.boot := rfl
@[simp] theorem State.count64_rap {a v : Nat} : (s.count64 a v).rap = s.rap := rfl
@[simp] theorem State.count64_pwr {a v : Nat} : (s.count64 a v).pwr = s.pwr := rfl
@[simp] theorem State.count64_thm {a v : Nat} : (s.count64 a v).thm = s.thm := rfl
@[simp] theorem State.count64_pages {a v : Nat} : (s.count64 a v).pages = s.pages := rfl
@[simp] theorem State.count64_coreQueue {a v : Nat} : (s.count64 a v).coreQueue = s.coreQueue := rfl
@[simp] theorem State.count64_safe {a v : Nat} : (s.count64 a v).safe = s.safe := rfl
@[simp] theorem State.count64_raised {a v : Nat} : (s.count64 a v).raised = s.raised := rfl
@[simp] theorem State.count64_cal {a v : Nat} : (s.count64 a v).cal = s.cal := rfl
@[simp] theorem State.count64_tx {a v : Nat} : (s.count64 a v).tx = s.tx := rfl
@[simp] theorem State.count64_rx {a v : Nat} : (s.count64 a v).rx = s.rx := rfl
@[simp] theorem State.count64_sub {a v : Nat} : (s.count64 a v).sub = s.sub := rfl
@[simp] theorem State.count64_fec {a v : Nat} : (s.count64 a v).fec = s.fec := rfl
@[simp] theorem State.count64_frm {a v : Nat} : (s.count64 a v).frm = s.frm := rfl
@[simp] theorem State.count64_osp {a v : Nat} : (s.count64 a v).osp = s.osp := rfl
@[simp] theorem State.count64_pmb {a v : Nat} : (s.count64 a v).pmb = s.pmb := rfl
@[simp] theorem State.count64_gath {a v : Nat} : (s.count64 a v).gath = s.gath := rfl
@[simp] theorem State.count64_pg {a v : Nat} : (s.count64 a v).pg = s.pg := rfl
@[simp] theorem State.count64_cry {a v : Nat} : (s.count64 a v).cry = s.cry := rfl
@[simp] theorem State.count64_agree {a v : Nat} : (s.count64 a v).agree = s.agree := rfl
@[simp] theorem State.count64_cryPassed {a v : Nat} : (s.count64 a v).cryPassed = s.cryPassed := rfl
@[simp] theorem State.count64_cls {a v : Nat} : (s.count64 a v).cls = s.cls := rfl
@[simp] theorem State.count64_ports {a v : Nat} : (s.count64 a v).ports = s.ports := rfl
@[simp] theorem State.count64_pkt {a v : Nat} : (s.count64 a v).pkt = s.pkt := rfl
@[simp] theorem State.count64_fbl {a v : Nat} : (s.count64 a v).fbl = s.fbl := rfl
@[simp] theorem State.count64_fbr {a v : Nat} : (s.count64 a v).fbr = s.fbr := rfl
@[simp] theorem State.count64_tim {a v : Nat} : (s.count64 a v).tim = s.tim := rfl
@[simp] theorem State.count64_ecc {a v : Nat} : (s.count64 a v).ecc = s.ecc := rfl
@[simp] theorem State.count64_hka {a v : Nat} : (s.count64 a v).hka = s.hka := rfl
@[simp] theorem State.count64_nv {a v : Nat} : (s.count64 a v).nv = s.nv := rfl
@[simp] theorem State.count64_sec {a v : Nat} : (s.count64 a v).sec = s.sec := rfl
@[simp] theorem State.count64_cpu {a v : Nat} : (s.count64 a v).cpu = s.cpu := rfl
@[simp] theorem State.count64_rpr {a v : Nat} : (s.count64 a v).rpr = s.rpr := rfl
@[simp] theorem State.count64_out {a v : Nat} : (s.count64 a v).out = s.out := rfl
@[simp] theorem State.count64_pending {a v : Nat} : (s.count64 a v).pending = s.pending := rfl

/-! ### sat64 -/

@[simp] theorem State.sat64_mem {a v : Nat} : (s.sat64 a v).mem = s.mem := rfl
@[simp] theorem State.sat64_poisoned {a v : Nat} : (s.sat64 a v).poisoned = s.poisoned := rfl
@[simp] theorem State.sat64_dtime {a v : Nat} : (s.sat64 a v).dtime = s.dtime := rfl
@[simp] theorem State.sat64_now {a v : Nat} : (s.sat64 a v).now = s.now := rfl
@[simp] theorem State.sat64_freeCtr {a v : Nat} : (s.sat64 a v).freeCtr = s.freeCtr := rfl
@[simp] theorem State.sat64_boot {a v : Nat} : (s.sat64 a v).boot = s.boot := rfl
@[simp] theorem State.sat64_rap {a v : Nat} : (s.sat64 a v).rap = s.rap := rfl
@[simp] theorem State.sat64_pwr {a v : Nat} : (s.sat64 a v).pwr = s.pwr := rfl
@[simp] theorem State.sat64_thm {a v : Nat} : (s.sat64 a v).thm = s.thm := rfl
@[simp] theorem State.sat64_pages {a v : Nat} : (s.sat64 a v).pages = s.pages := rfl
@[simp] theorem State.sat64_coreQueue {a v : Nat} : (s.sat64 a v).coreQueue = s.coreQueue := rfl
@[simp] theorem State.sat64_safe {a v : Nat} : (s.sat64 a v).safe = s.safe := rfl
@[simp] theorem State.sat64_raised {a v : Nat} : (s.sat64 a v).raised = s.raised := rfl
@[simp] theorem State.sat64_cal {a v : Nat} : (s.sat64 a v).cal = s.cal := rfl
@[simp] theorem State.sat64_tx {a v : Nat} : (s.sat64 a v).tx = s.tx := rfl
@[simp] theorem State.sat64_rx {a v : Nat} : (s.sat64 a v).rx = s.rx := rfl
@[simp] theorem State.sat64_sub {a v : Nat} : (s.sat64 a v).sub = s.sub := rfl
@[simp] theorem State.sat64_fec {a v : Nat} : (s.sat64 a v).fec = s.fec := rfl
@[simp] theorem State.sat64_frm {a v : Nat} : (s.sat64 a v).frm = s.frm := rfl
@[simp] theorem State.sat64_osp {a v : Nat} : (s.sat64 a v).osp = s.osp := rfl
@[simp] theorem State.sat64_pmb {a v : Nat} : (s.sat64 a v).pmb = s.pmb := rfl
@[simp] theorem State.sat64_gath {a v : Nat} : (s.sat64 a v).gath = s.gath := rfl
@[simp] theorem State.sat64_pg {a v : Nat} : (s.sat64 a v).pg = s.pg := rfl
@[simp] theorem State.sat64_cry {a v : Nat} : (s.sat64 a v).cry = s.cry := rfl
@[simp] theorem State.sat64_agree {a v : Nat} : (s.sat64 a v).agree = s.agree := rfl
@[simp] theorem State.sat64_cryPassed {a v : Nat} : (s.sat64 a v).cryPassed = s.cryPassed := rfl
@[simp] theorem State.sat64_cls {a v : Nat} : (s.sat64 a v).cls = s.cls := rfl
@[simp] theorem State.sat64_ports {a v : Nat} : (s.sat64 a v).ports = s.ports := rfl
@[simp] theorem State.sat64_pkt {a v : Nat} : (s.sat64 a v).pkt = s.pkt := rfl
@[simp] theorem State.sat64_fbl {a v : Nat} : (s.sat64 a v).fbl = s.fbl := rfl
@[simp] theorem State.sat64_fbr {a v : Nat} : (s.sat64 a v).fbr = s.fbr := rfl
@[simp] theorem State.sat64_tim {a v : Nat} : (s.sat64 a v).tim = s.tim := rfl
@[simp] theorem State.sat64_ecc {a v : Nat} : (s.sat64 a v).ecc = s.ecc := rfl
@[simp] theorem State.sat64_hka {a v : Nat} : (s.sat64 a v).hka = s.hka := rfl
@[simp] theorem State.sat64_nv {a v : Nat} : (s.sat64 a v).nv = s.nv := rfl
@[simp] theorem State.sat64_sec {a v : Nat} : (s.sat64 a v).sec = s.sec := rfl
@[simp] theorem State.sat64_cpu {a v : Nat} : (s.sat64 a v).cpu = s.cpu := rfl
@[simp] theorem State.sat64_rpr {a v : Nat} : (s.sat64 a v).rpr = s.rpr := rfl
@[simp] theorem State.sat64_out {a v : Nat} : (s.sat64 a v).out = s.out := rfl
@[simp] theorem State.sat64_pending {a v : Nat} : (s.sat64 a v).pending = s.pending := rfl

/-! ### raise -/

@[simp] theorem State.raise_regs {p i : Nat} : (s.raise p i).regs = s.regs := rfl
@[simp] theorem State.raise_mem {p i : Nat} : (s.raise p i).mem = s.mem := rfl
@[simp] theorem State.raise_poisoned {p i : Nat} : (s.raise p i).poisoned = s.poisoned := rfl
@[simp] theorem State.raise_dtime {p i : Nat} : (s.raise p i).dtime = s.dtime := rfl
@[simp] theorem State.raise_now {p i : Nat} : (s.raise p i).now = s.now := rfl
@[simp] theorem State.raise_freeCtr {p i : Nat} : (s.raise p i).freeCtr = s.freeCtr := rfl
@[simp] theorem State.raise_boot {p i : Nat} : (s.raise p i).boot = s.boot := rfl
@[simp] theorem State.raise_rap {p i : Nat} : (s.raise p i).rap = s.rap := rfl
@[simp] theorem State.raise_pwr {p i : Nat} : (s.raise p i).pwr = s.pwr := rfl
@[simp] theorem State.raise_thm {p i : Nat} : (s.raise p i).thm = s.thm := rfl
@[simp] theorem State.raise_pages {p i : Nat} : (s.raise p i).pages = s.pages := rfl
@[simp] theorem State.raise_coreQueue {p i : Nat} : (s.raise p i).coreQueue = s.coreQueue := rfl
@[simp] theorem State.raise_safe {p i : Nat} : (s.raise p i).safe = s.safe := rfl
@[simp] theorem State.raise_cal {p i : Nat} : (s.raise p i).cal = s.cal := rfl
@[simp] theorem State.raise_tx {p i : Nat} : (s.raise p i).tx = s.tx := rfl
@[simp] theorem State.raise_rx {p i : Nat} : (s.raise p i).rx = s.rx := rfl
@[simp] theorem State.raise_sub {p i : Nat} : (s.raise p i).sub = s.sub := rfl
@[simp] theorem State.raise_fec {p i : Nat} : (s.raise p i).fec = s.fec := rfl
@[simp] theorem State.raise_frm {p i : Nat} : (s.raise p i).frm = s.frm := rfl
@[simp] theorem State.raise_osp {p i : Nat} : (s.raise p i).osp = s.osp := rfl
@[simp] theorem State.raise_pmb {p i : Nat} : (s.raise p i).pmb = s.pmb := rfl
@[simp] theorem State.raise_gath {p i : Nat} : (s.raise p i).gath = s.gath := rfl
@[simp] theorem State.raise_pg {p i : Nat} : (s.raise p i).pg = s.pg := rfl
@[simp] theorem State.raise_cry {p i : Nat} : (s.raise p i).cry = s.cry := rfl
@[simp] theorem State.raise_agree {p i : Nat} : (s.raise p i).agree = s.agree := rfl
@[simp] theorem State.raise_cryPassed {p i : Nat} : (s.raise p i).cryPassed = s.cryPassed := rfl
@[simp] theorem State.raise_cls {p i : Nat} : (s.raise p i).cls = s.cls := rfl
@[simp] theorem State.raise_ports {p i : Nat} : (s.raise p i).ports = s.ports := rfl
@[simp] theorem State.raise_pkt {p i : Nat} : (s.raise p i).pkt = s.pkt := rfl
@[simp] theorem State.raise_fbl {p i : Nat} : (s.raise p i).fbl = s.fbl := rfl
@[simp] theorem State.raise_fbr {p i : Nat} : (s.raise p i).fbr = s.fbr := rfl
@[simp] theorem State.raise_tim {p i : Nat} : (s.raise p i).tim = s.tim := rfl
@[simp] theorem State.raise_ecc {p i : Nat} : (s.raise p i).ecc = s.ecc := rfl
@[simp] theorem State.raise_hka {p i : Nat} : (s.raise p i).hka = s.hka := rfl
@[simp] theorem State.raise_nv {p i : Nat} : (s.raise p i).nv = s.nv := rfl
@[simp] theorem State.raise_sec {p i : Nat} : (s.raise p i).sec = s.sec := rfl
@[simp] theorem State.raise_cpu {p i : Nat} : (s.raise p i).cpu = s.cpu := rfl
@[simp] theorem State.raise_rpr {p i : Nat} : (s.raise p i).rpr = s.rpr := rfl
@[simp] theorem State.raise_out {p i : Nat} : (s.raise p i).out = s.out := rfl
@[simp] theorem State.raise_pending {p i : Nat} : (s.raise p i).pending = s.pending := rfl
@[simp] theorem State.raise_word {p i : Nat} {k : Nat} : (s.raise p i).word k = s.word k := rfl
@[simp] theorem State.raise_nat {p i : Nat} {k : Nat} : (s.raise p i).nat k = s.nat k := rfl
@[simp] theorem State.raise_get {p i : Nat} {k : Nat} {g : Fld} : (s.raise p i).get k g = s.get k g := rfl
@[simp] theorem State.raise_getI {p i : Nat} {k : Nat} {g : Fld} : (s.raise p i).getI k g = s.getI k g := rfl
@[simp] theorem State.raise_flag {p i : Nat} {k : Nat} {g : Fld} : (s.raise p i).flag k g = s.flag k g := rfl
@[simp] theorem State.raise_nat64 {p i : Nat} {k : Nat} : (s.raise p i).nat64 k = s.nat64 k := rfl
@[simp] theorem State.raise_blk {p i : Nat} {k : Nat} : (s.raise p i).blk k = s.blk k := rfl
@[simp] theorem State.raise_raised {p i : Nat} : (s.raise p i).raised = s.raised ++ [(p, i)] := rfl

/-! ### raiseIf -/

@[simp] theorem State.raiseIf_regs {y : Bool} {p i : Nat} : (s.raiseIf y p i).regs = s.regs := by
  unfold State.raiseIf; split <;> rfl
@[simp] theorem State.raiseIf_mem {y : Bool} {p i : Nat} : (s.raiseIf y p i).mem = s.mem := by
  unfold State.raiseIf; split <;> rfl
@[simp] theorem State.raiseIf_poisoned {y : Bool} {p i : Nat} : (s.raiseIf y p i).poisoned = s.poisoned := by
  unfold State.raiseIf; split <;> rfl
@[simp] theorem State.raiseIf_dtime {y : Bool} {p i : Nat} : (s.raiseIf y p i).dtime = s.dtime := by
  unfold State.raiseIf; split <;> rfl
@[simp] theorem State.raiseIf_now {y : Bool} {p i : Nat} : (s.raiseIf y p i).now = s.now := by
  unfold State.raiseIf; split <;> rfl
@[simp] theorem State.raiseIf_freeCtr {y : Bool} {p i : Nat} : (s.raiseIf y p i).freeCtr = s.freeCtr := by
  unfold State.raiseIf; split <;> rfl
@[simp] theorem State.raiseIf_boot {y : Bool} {p i : Nat} : (s.raiseIf y p i).boot = s.boot := by
  unfold State.raiseIf; split <;> rfl
@[simp] theorem State.raiseIf_rap {y : Bool} {p i : Nat} : (s.raiseIf y p i).rap = s.rap := by
  unfold State.raiseIf; split <;> rfl
@[simp] theorem State.raiseIf_pwr {y : Bool} {p i : Nat} : (s.raiseIf y p i).pwr = s.pwr := by
  unfold State.raiseIf; split <;> rfl
@[simp] theorem State.raiseIf_thm {y : Bool} {p i : Nat} : (s.raiseIf y p i).thm = s.thm := by
  unfold State.raiseIf; split <;> rfl
@[simp] theorem State.raiseIf_pages {y : Bool} {p i : Nat} : (s.raiseIf y p i).pages = s.pages := by
  unfold State.raiseIf; split <;> rfl
@[simp] theorem State.raiseIf_coreQueue {y : Bool} {p i : Nat} : (s.raiseIf y p i).coreQueue = s.coreQueue := by
  unfold State.raiseIf; split <;> rfl
@[simp] theorem State.raiseIf_safe {y : Bool} {p i : Nat} : (s.raiseIf y p i).safe = s.safe := by
  unfold State.raiseIf; split <;> rfl
@[simp] theorem State.raiseIf_cal {y : Bool} {p i : Nat} : (s.raiseIf y p i).cal = s.cal := by
  unfold State.raiseIf; split <;> rfl
@[simp] theorem State.raiseIf_tx {y : Bool} {p i : Nat} : (s.raiseIf y p i).tx = s.tx := by
  unfold State.raiseIf; split <;> rfl
@[simp] theorem State.raiseIf_rx {y : Bool} {p i : Nat} : (s.raiseIf y p i).rx = s.rx := by
  unfold State.raiseIf; split <;> rfl
@[simp] theorem State.raiseIf_sub {y : Bool} {p i : Nat} : (s.raiseIf y p i).sub = s.sub := by
  unfold State.raiseIf; split <;> rfl
@[simp] theorem State.raiseIf_fec {y : Bool} {p i : Nat} : (s.raiseIf y p i).fec = s.fec := by
  unfold State.raiseIf; split <;> rfl
@[simp] theorem State.raiseIf_frm {y : Bool} {p i : Nat} : (s.raiseIf y p i).frm = s.frm := by
  unfold State.raiseIf; split <;> rfl
@[simp] theorem State.raiseIf_osp {y : Bool} {p i : Nat} : (s.raiseIf y p i).osp = s.osp := by
  unfold State.raiseIf; split <;> rfl
@[simp] theorem State.raiseIf_pmb {y : Bool} {p i : Nat} : (s.raiseIf y p i).pmb = s.pmb := by
  unfold State.raiseIf; split <;> rfl
@[simp] theorem State.raiseIf_gath {y : Bool} {p i : Nat} : (s.raiseIf y p i).gath = s.gath := by
  unfold State.raiseIf; split <;> rfl
@[simp] theorem State.raiseIf_pg {y : Bool} {p i : Nat} : (s.raiseIf y p i).pg = s.pg := by
  unfold State.raiseIf; split <;> rfl
@[simp] theorem State.raiseIf_cry {y : Bool} {p i : Nat} : (s.raiseIf y p i).cry = s.cry := by
  unfold State.raiseIf; split <;> rfl
@[simp] theorem State.raiseIf_agree {y : Bool} {p i : Nat} : (s.raiseIf y p i).agree = s.agree := by
  unfold State.raiseIf; split <;> rfl
@[simp] theorem State.raiseIf_cryPassed {y : Bool} {p i : Nat} : (s.raiseIf y p i).cryPassed = s.cryPassed := by
  unfold State.raiseIf; split <;> rfl
@[simp] theorem State.raiseIf_cls {y : Bool} {p i : Nat} : (s.raiseIf y p i).cls = s.cls := by
  unfold State.raiseIf; split <;> rfl
@[simp] theorem State.raiseIf_ports {y : Bool} {p i : Nat} : (s.raiseIf y p i).ports = s.ports := by
  unfold State.raiseIf; split <;> rfl
@[simp] theorem State.raiseIf_pkt {y : Bool} {p i : Nat} : (s.raiseIf y p i).pkt = s.pkt := by
  unfold State.raiseIf; split <;> rfl
@[simp] theorem State.raiseIf_fbl {y : Bool} {p i : Nat} : (s.raiseIf y p i).fbl = s.fbl := by
  unfold State.raiseIf; split <;> rfl
@[simp] theorem State.raiseIf_fbr {y : Bool} {p i : Nat} : (s.raiseIf y p i).fbr = s.fbr := by
  unfold State.raiseIf; split <;> rfl
@[simp] theorem State.raiseIf_tim {y : Bool} {p i : Nat} : (s.raiseIf y p i).tim = s.tim := by
  unfold State.raiseIf; split <;> rfl
@[simp] theorem State.raiseIf_ecc {y : Bool} {p i : Nat} : (s.raiseIf y p i).ecc = s.ecc := by
  unfold State.raiseIf; split <;> rfl
@[simp] theorem State.raiseIf_hka {y : Bool} {p i : Nat} : (s.raiseIf y p i).hka = s.hka := by
  unfold State.raiseIf; split <;> rfl
@[simp] theorem State.raiseIf_nv {y : Bool} {p i : Nat} : (s.raiseIf y p i).nv = s.nv := by
  unfold State.raiseIf; split <;> rfl
@[simp] theorem State.raiseIf_sec {y : Bool} {p i : Nat} : (s.raiseIf y p i).sec = s.sec := by
  unfold State.raiseIf; split <;> rfl
@[simp] theorem State.raiseIf_cpu {y : Bool} {p i : Nat} : (s.raiseIf y p i).cpu = s.cpu := by
  unfold State.raiseIf; split <;> rfl
@[simp] theorem State.raiseIf_rpr {y : Bool} {p i : Nat} : (s.raiseIf y p i).rpr = s.rpr := by
  unfold State.raiseIf; split <;> rfl
@[simp] theorem State.raiseIf_out {y : Bool} {p i : Nat} : (s.raiseIf y p i).out = s.out := by
  unfold State.raiseIf; split <;> rfl
@[simp] theorem State.raiseIf_pending {y : Bool} {p i : Nat} : (s.raiseIf y p i).pending = s.pending := by
  unfold State.raiseIf; split <;> rfl
@[simp] theorem State.raiseIf_word {y : Bool} {p i : Nat} {k : Nat} : (s.raiseIf y p i).word k = s.word k := by
  unfold State.raiseIf; split <;> rfl
@[simp] theorem State.raiseIf_nat {y : Bool} {p i : Nat} {k : Nat} : (s.raiseIf y p i).nat k = s.nat k := by
  unfold State.raiseIf; split <;> rfl
@[simp] theorem State.raiseIf_get {y : Bool} {p i : Nat} {k : Nat} {g : Fld} : (s.raiseIf y p i).get k g = s.get k g := by
  unfold State.raiseIf; split <;> rfl
@[simp] theorem State.raiseIf_getI {y : Bool} {p i : Nat} {k : Nat} {g : Fld} : (s.raiseIf y p i).getI k g = s.getI k g := by
  unfold State.raiseIf; split <;> rfl
@[simp] theorem State.raiseIf_flag {y : Bool} {p i : Nat} {k : Nat} {g : Fld} : (s.raiseIf y p i).flag k g = s.flag k g := by
  unfold State.raiseIf; split <;> rfl
@[simp] theorem State.raiseIf_nat64 {y : Bool} {p i : Nat} {k : Nat} : (s.raiseIf y p i).nat64 k = s.nat64 k := by
  unfold State.raiseIf; split <;> rfl
@[simp] theorem State.raiseIf_blk {y : Bool} {p i : Nat} {k : Nat} : (s.raiseIf y p i).blk k = s.blk k := by
  unfold State.raiseIf; split <;> rfl
@[simp] theorem State.raiseIf_raised {y : Bool} {p i : Nat} :
    (s.raiseIf y p i).raised = s.raised ++ (if y then [(p, i)] else []) := by
  unfold State.raiseIf; cases y <;> simp [State.raise]

/-! ### emit -/

@[simp] theorem State.emit_regs {o : Out} : (s.emit o).regs = s.regs := rfl
@[simp] theorem State.emit_mem {o : Out} : (s.emit o).mem = s.mem := rfl
@[simp] theorem State.emit_poisoned {o : Out} : (s.emit o).poisoned = s.poisoned := rfl
@[simp] theorem State.emit_dtime {o : Out} : (s.emit o).dtime = s.dtime := rfl
@[simp] theorem State.emit_now {o : Out} : (s.emit o).now = s.now := rfl
@[simp] theorem State.emit_freeCtr {o : Out} : (s.emit o).freeCtr = s.freeCtr := rfl
@[simp] theorem State.emit_boot {o : Out} : (s.emit o).boot = s.boot := rfl
@[simp] theorem State.emit_rap {o : Out} : (s.emit o).rap = s.rap := rfl
@[simp] theorem State.emit_pwr {o : Out} : (s.emit o).pwr = s.pwr := rfl
@[simp] theorem State.emit_thm {o : Out} : (s.emit o).thm = s.thm := rfl
@[simp] theorem State.emit_pages {o : Out} : (s.emit o).pages = s.pages := rfl
@[simp] theorem State.emit_coreQueue {o : Out} : (s.emit o).coreQueue = s.coreQueue := rfl
@[simp] theorem State.emit_safe {o : Out} : (s.emit o).safe = s.safe := rfl
@[simp] theorem State.emit_raised {o : Out} : (s.emit o).raised = s.raised := rfl
@[simp] theorem State.emit_cal {o : Out} : (s.emit o).cal = s.cal := rfl
@[simp] theorem State.emit_tx {o : Out} : (s.emit o).tx = s.tx := rfl
@[simp] theorem State.emit_rx {o : Out} : (s.emit o).rx = s.rx := rfl
@[simp] theorem State.emit_sub {o : Out} : (s.emit o).sub = s.sub := rfl
@[simp] theorem State.emit_fec {o : Out} : (s.emit o).fec = s.fec := rfl
@[simp] theorem State.emit_frm {o : Out} : (s.emit o).frm = s.frm := rfl
@[simp] theorem State.emit_osp {o : Out} : (s.emit o).osp = s.osp := rfl
@[simp] theorem State.emit_pmb {o : Out} : (s.emit o).pmb = s.pmb := rfl
@[simp] theorem State.emit_gath {o : Out} : (s.emit o).gath = s.gath := rfl
@[simp] theorem State.emit_pg {o : Out} : (s.emit o).pg = s.pg := rfl
@[simp] theorem State.emit_cry {o : Out} : (s.emit o).cry = s.cry := rfl
@[simp] theorem State.emit_agree {o : Out} : (s.emit o).agree = s.agree := rfl
@[simp] theorem State.emit_cryPassed {o : Out} : (s.emit o).cryPassed = s.cryPassed := rfl
@[simp] theorem State.emit_cls {o : Out} : (s.emit o).cls = s.cls := rfl
@[simp] theorem State.emit_ports {o : Out} : (s.emit o).ports = s.ports := rfl
@[simp] theorem State.emit_pkt {o : Out} : (s.emit o).pkt = s.pkt := rfl
@[simp] theorem State.emit_fbl {o : Out} : (s.emit o).fbl = s.fbl := rfl
@[simp] theorem State.emit_fbr {o : Out} : (s.emit o).fbr = s.fbr := rfl
@[simp] theorem State.emit_tim {o : Out} : (s.emit o).tim = s.tim := rfl
@[simp] theorem State.emit_ecc {o : Out} : (s.emit o).ecc = s.ecc := rfl
@[simp] theorem State.emit_hka {o : Out} : (s.emit o).hka = s.hka := rfl
@[simp] theorem State.emit_nv {o : Out} : (s.emit o).nv = s.nv := rfl
@[simp] theorem State.emit_sec {o : Out} : (s.emit o).sec = s.sec := rfl
@[simp] theorem State.emit_cpu {o : Out} : (s.emit o).cpu = s.cpu := rfl
@[simp] theorem State.emit_rpr {o : Out} : (s.emit o).rpr = s.rpr := rfl
@[simp] theorem State.emit_pending {o : Out} : (s.emit o).pending = s.pending := rfl
@[simp] theorem State.emit_word {o : Out} {k : Nat} : (s.emit o).word k = s.word k := rfl
@[simp] theorem State.emit_nat {o : Out} {k : Nat} : (s.emit o).nat k = s.nat k := rfl
@[simp] theorem State.emit_get {o : Out} {k : Nat} {g : Fld} : (s.emit o).get k g = s.get k g := rfl
@[simp] theorem State.emit_getI {o : Out} {k : Nat} {g : Fld} : (s.emit o).getI k g = s.getI k g := rfl
@[simp] theorem State.emit_flag {o : Out} {k : Nat} {g : Fld} : (s.emit o).flag k g = s.flag k g := rfl
@[simp] theorem State.emit_nat64 {o : Out} {k : Nat} : (s.emit o).nat64 k = s.nat64 k := rfl
@[simp] theorem State.emit_blk {o : Out} {k : Nat} : (s.emit o).blk k = s.blk k := rfl
@[simp] theorem State.emit_out {o : Out} : (s.emit o).out = s.out ++ [o] := rfl

/-! ### send -/

@[simp] theorem State.send_regs {w : String} {l : List Int} : (s.send w l).regs = s.regs := rfl
@[simp] theorem State.send_mem {w : String} {l : List Int} : (s.send w l).mem = s.mem := rfl
@[simp] theorem State.send_poisoned {w : String} {l : List Int} : (s.send w l).poisoned = s.poisoned := rfl
@[simp] theorem State.send_dtime {w : String} {l : List Int} : (s.send w l).dtime = s.dtime := rfl
@[simp] theorem State.send_now {w : String} {l : List Int} : (s.send w l).now = s.now := rfl
@[simp] theorem State.send_freeCtr {w : String} {l : List Int} : (s.send w l).freeCtr = s.freeCtr := rfl
@[simp] theorem State.send_boot {w : String} {l : List Int} : (s.send w l).boot = s.boot := rfl
@[simp] theorem State.send_rap {w : String} {l : List Int} : (s.send w l).rap = s.rap := rfl
@[simp] theorem State.send_pwr {w : String} {l : List Int} : (s.send w l).pwr = s.pwr := rfl
@[simp] theorem State.send_thm {w : String} {l : List Int} : (s.send w l).thm = s.thm := rfl
@[simp] theorem State.send_pages {w : String} {l : List Int} : (s.send w l).pages = s.pages := rfl
@[simp] theorem State.send_coreQueue {w : String} {l : List Int} : (s.send w l).coreQueue = s.coreQueue := rfl
@[simp] theorem State.send_safe {w : String} {l : List Int} : (s.send w l).safe = s.safe := rfl
@[simp] theorem State.send_raised {w : String} {l : List Int} : (s.send w l).raised = s.raised := rfl
@[simp] theorem State.send_cal {w : String} {l : List Int} : (s.send w l).cal = s.cal := rfl
@[simp] theorem State.send_tx {w : String} {l : List Int} : (s.send w l).tx = s.tx := rfl
@[simp] theorem State.send_rx {w : String} {l : List Int} : (s.send w l).rx = s.rx := rfl
@[simp] theorem State.send_sub {w : String} {l : List Int} : (s.send w l).sub = s.sub := rfl
@[simp] theorem State.send_fec {w : String} {l : List Int} : (s.send w l).fec = s.fec := rfl
@[simp] theorem State.send_frm {w : String} {l : List Int} : (s.send w l).frm = s.frm := rfl
@[simp] theorem State.send_osp {w : String} {l : List Int} : (s.send w l).osp = s.osp := rfl
@[simp] theorem State.send_pmb {w : String} {l : List Int} : (s.send w l).pmb = s.pmb := rfl
@[simp] theorem State.send_gath {w : String} {l : List Int} : (s.send w l).gath = s.gath := rfl
@[simp] theorem State.send_pg {w : String} {l : List Int} : (s.send w l).pg = s.pg := rfl
@[simp] theorem State.send_cry {w : String} {l : List Int} : (s.send w l).cry = s.cry := rfl
@[simp] theorem State.send_agree {w : String} {l : List Int} : (s.send w l).agree = s.agree := rfl
@[simp] theorem State.send_cryPassed {w : String} {l : List Int} : (s.send w l).cryPassed = s.cryPassed := rfl
@[simp] theorem State.send_cls {w : String} {l : List Int} : (s.send w l).cls = s.cls := rfl
@[simp] theorem State.send_ports {w : String} {l : List Int} : (s.send w l).ports = s.ports := rfl
@[simp] theorem State.send_pkt {w : String} {l : List Int} : (s.send w l).pkt = s.pkt := rfl
@[simp] theorem State.send_fbl {w : String} {l : List Int} : (s.send w l).fbl = s.fbl := rfl
@[simp] theorem State.send_fbr {w : String} {l : List Int} : (s.send w l).fbr = s.fbr := rfl
@[simp] theorem State.send_tim {w : String} {l : List Int} : (s.send w l).tim = s.tim := rfl
@[simp] theorem State.send_ecc {w : String} {l : List Int} : (s.send w l).ecc = s.ecc := rfl
@[simp] theorem State.send_hka {w : String} {l : List Int} : (s.send w l).hka = s.hka := rfl
@[simp] theorem State.send_nv {w : String} {l : List Int} : (s.send w l).nv = s.nv := rfl
@[simp] theorem State.send_sec {w : String} {l : List Int} : (s.send w l).sec = s.sec := rfl
@[simp] theorem State.send_cpu {w : String} {l : List Int} : (s.send w l).cpu = s.cpu := rfl
@[simp] theorem State.send_rpr {w : String} {l : List Int} : (s.send w l).rpr = s.rpr := rfl
@[simp] theorem State.send_pending {w : String} {l : List Int} : (s.send w l).pending = s.pending := rfl
@[simp] theorem State.send_word {w : String} {l : List Int} {k : Nat} : (s.send w l).word k = s.word k := rfl
@[simp] theorem State.send_nat {w : String} {l : List Int} {k : Nat} : (s.send w l).nat k = s.nat k := rfl
@[simp] theorem State.send_get {w : String} {l : List Int} {k : Nat} {g : Fld} : (s.send w l).get k g = s.get k g := rfl
@[simp] theorem State.send_getI {w : String} {l : List Int} {k : Nat} {g : Fld} : (s.send w l).getI k g = s.getI k g := rfl
@[simp] theorem State.send_flag {w : String} {l : List Int} {k : Nat} {g : Fld} : (s.send w l).flag k g = s.flag k g := rfl
@[simp] theorem State.send_nat64 {w : String} {l : List Int} {k : Nat} : (s.send w l).nat64 k = s.nat64 k := rfl
@[simp] theorem State.send_blk {w : String} {l : List Int} {k : Nat} : (s.send w l).blk k = s.blk k := rfl
@[simp] theorem State.send_out {w : String} {l : List Int} : (s.send w l).out = s.out ++ [.sent w l] := rfl

/-! ### nextFree -/

@[simp] theorem State.nextFree_regs : s.nextFree.regs = s.regs := rfl
@[simp] theorem State.nextFree_mem : s.nextFree.mem = s.mem := rfl
@[simp] theorem State.nextFree_poisoned : s.nextFree.poisoned = s.poisoned := rfl
@[simp] theorem State.nextFree_dtime : s.nextFree.dtime = s.dtime := rfl
@[simp] theorem State.nextFree_now : s.nextFree.now = s.now := rfl
@[simp] theorem State.nextFree_boot : s.nextFree.boot = s.boot := rfl
@[simp] theorem State.nextFree_rap : s.nextFree.rap = s.rap := rfl
@[simp] theorem State.nextFree_pwr : s.nextFree.pwr = s.pwr := rfl
@[simp] theorem State.nextFree_thm : s.nextFree.thm = s.thm := rfl
@[simp] theorem State.nextFree_pages : s.nextFree.pages = s.pages := rfl
@[simp] theorem State.nextFree_coreQueue : s.nextFree.coreQueue = s.coreQueue := rfl
@[simp] theorem State.nextFree_safe : s.nextFree.safe = s.safe := rfl
@[simp] theorem State.nextFree_raised : s.nextFree.raised = s.raised := rfl
@[simp] theorem State.nextFree_cal : s.nextFree.cal = s.cal := rfl
@[simp] theorem State.nextFree_tx : s.nextFree.tx = s.tx := rfl
@[simp] theorem State.nextFree_rx : s.nextFree.rx = s.rx := rfl
@[simp] theorem State.nextFree_sub : s.nextFree.sub = s.sub := rfl
@[simp] theorem State.nextFree_fec : s.nextFree.fec = s.fec := rfl
@[simp] theorem State.nextFree_frm : s.nextFree.frm = s.frm := rfl
@[simp] theorem State.nextFree_osp : s.nextFree.osp = s.osp := rfl
@[simp] theorem State.nextFree_pmb : s.nextFree.pmb = s.pmb := rfl
@[simp] theorem State.nextFree_gath : s.nextFree.gath = s.gath := rfl
@[simp] theorem State.nextFree_pg : s.nextFree.pg = s.pg := rfl
@[simp] theorem State.nextFree_cry : s.nextFree.cry = s.cry := rfl
@[simp] theorem State.nextFree_agree : s.nextFree.agree = s.agree := rfl
@[simp] theorem State.nextFree_cryPassed : s.nextFree.cryPassed = s.cryPassed := rfl
@[simp] theorem State.nextFree_cls : s.nextFree.cls = s.cls := rfl
@[simp] theorem State.nextFree_ports : s.nextFree.ports = s.ports := rfl
@[simp] theorem State.nextFree_pkt : s.nextFree.pkt = s.pkt := rfl
@[simp] theorem State.nextFree_fbl : s.nextFree.fbl = s.fbl := rfl
@[simp] theorem State.nextFree_fbr : s.nextFree.fbr = s.fbr := rfl
@[simp] theorem State.nextFree_tim : s.nextFree.tim = s.tim := rfl
@[simp] theorem State.nextFree_ecc : s.nextFree.ecc = s.ecc := rfl
@[simp] theorem State.nextFree_hka : s.nextFree.hka = s.hka := rfl
@[simp] theorem State.nextFree_nv : s.nextFree.nv = s.nv := rfl
@[simp] theorem State.nextFree_sec : s.nextFree.sec = s.sec := rfl
@[simp] theorem State.nextFree_cpu : s.nextFree.cpu = s.cpu := rfl
@[simp] theorem State.nextFree_rpr : s.nextFree.rpr = s.rpr := rfl
@[simp] theorem State.nextFree_out : s.nextFree.out = s.out := rfl
@[simp] theorem State.nextFree_pending : s.nextFree.pending = s.pending := rfl
@[simp] theorem State.nextFree_word  {k : Nat} : s.nextFree.word k = s.word k := rfl
@[simp] theorem State.nextFree_nat  {k : Nat} : s.nextFree.nat k = s.nat k := rfl
@[simp] theorem State.nextFree_get  {k : Nat} {g : Fld} : s.nextFree.get k g = s.get k g := rfl
@[simp] theorem State.nextFree_getI  {k : Nat} {g : Fld} : s.nextFree.getI k g = s.getI k g := rfl
@[simp] theorem State.nextFree_flag  {k : Nat} {g : Fld} : s.nextFree.flag k g = s.flag k g := rfl
@[simp] theorem State.nextFree_nat64  {k : Nat} : s.nextFree.nat64 k = s.nat64 k := rfl
@[simp] theorem State.nextFree_blk  {k : Nat} : s.nextFree.blk k = s.blk k := rfl
@[simp] theorem State.nextFree_freeCtr : s.nextFree.freeCtr = s.freeCtr + 1 := rfl

/-! ### setPage -/

@[simp] theorem State.setPage_regs {p : Nat} {c : PageCtl} : (s.setPage p c).regs = s.regs := rfl
@[simp] theorem State.setPage_mem {p : Nat} {c : PageCtl} : (s.setPage p c).mem = s.mem := rfl
@[simp] theorem State.setPage_poisoned {p : Nat} {c : PageCtl} : (s.setPage p c).poisoned = s.poisoned := rfl
@[simp] theorem State.setPage_dtime {p : Nat} {c : PageCtl} : (s.setPage p c).dtime = s.dtime := rfl
@[simp] theorem State.setPage_now {p : Nat} {c : PageCtl} : (s.setPage p c).now = s.now := rfl
@[simp] theorem State.setPage_freeCtr {p : Nat} {c : PageCtl} : (s.setPage p c).freeCtr = s.freeCtr := rfl
@[simp] theorem State.setPage_boot {p : Nat} {c : PageCtl} : (s.setPage p c).boot = s.boot := rfl
@[simp] theorem State.setPage_rap {p : Nat} {c : PageCtl} : (s.setPage p c).rap = s.rap := rfl
@[simp] theorem State.setPage_pwr {p : Nat} {c : PageCtl} : (s.setPage p c).pwr = s.pwr := rfl
@[simp] theorem State.setPage_thm {p : Nat} {c : PageCtl} : (s.setPage p c).thm = s.thm := rfl
@[simp] theorem State.setPage_coreQueue {p : Nat} {c : PageCtl} : (s.setPage p c).coreQueue = s.coreQueue := rfl
@[simp] theorem State.setPage_safe {p : Nat} {c : PageCtl} : (s.setPage p c).safe = s.safe := rfl
@[simp] theorem State.setPage_raised {p : Nat} {c : PageCtl} : (s.setPage p c).raised = s.raised := rfl
@[simp] theorem State.setPage_cal {p : Nat} {c : PageCtl} : (s.setPage p c).cal = s.cal := rfl
@[simp] theorem State.setPage_tx {p : Nat} {c : PageCtl} : (s.setPage p c).tx = s.tx := rfl
@[simp] theorem State.setPage_rx {p : Nat} {c : PageCtl} : (s.setPage p c).rx = s.rx := rfl
@[simp] theorem State.setPage_sub {p : Nat} {c : PageCtl} : (s.setPage p c).sub = s.sub := rfl
@[simp] theorem State.setPage_fec {p : Nat} {c : PageCtl} : (s.setPage p c).fec = s.fec := rfl
@[simp] theorem State.setPage_frm {p : Nat} {c : PageCtl} : (s.setPage p c).frm = s.frm := rfl
@[simp] theorem State.setPage_osp {p : Nat} {c : PageCtl} : (s.setPage p c).osp = s.osp := rfl
@[simp] theorem State.setPage_pmb {p : Nat} {c : PageCtl} : (s.setPage p c).pmb = s.pmb := rfl
@[simp] theorem State.setPage_gath {p : Nat} {c : PageCtl} : (s.setPage p c).gath = s.gath := rfl
@[simp] theorem State.setPage_pg {p : Nat} {c : PageCtl} : (s.setPage p c).pg = s.pg := rfl
@[simp] theorem State.setPage_cry {p : Nat} {c : PageCtl} : (s.setPage p c).cry = s.cry := rfl
@[simp] theorem State.setPage_agree {p : Nat} {c : PageCtl} : (s.setPage p c).agree = s.agree := rfl
@[simp] theorem State.setPage_cryPassed {p : Nat} {c : PageCtl} : (s.setPage p c).cryPassed = s.cryPassed := rfl
@[simp] theorem State.setPage_cls {p : Nat} {c : PageCtl} : (s.setPage p c).cls = s.cls := rfl
@[simp] theorem State.setPage_ports {p : Nat} {c : PageCtl} : (s.setPage p c).ports = s.ports := rfl
@[simp] theorem State.setPage_pkt {p : Nat} {c : PageCtl} : (s.setPage p c).pkt = s.pkt := rfl
@[simp] theorem State.setPage_fbl {p : Nat} {c : PageCtl} : (s.setPage p c).fbl = s.fbl := rfl
@[simp] theorem State.setPage_fbr {p : Nat} {c : PageCtl} : (s.setPage p c).fbr = s.fbr := rfl
@[simp] theorem State.setPage_tim {p : Nat} {c : PageCtl} : (s.setPage p c).tim = s.tim := rfl
@[simp] theorem State.setPage_ecc {p : Nat} {c : PageCtl} : (s.setPage p c).ecc = s.ecc := rfl
@[simp] theorem State.setPage_hka {p : Nat} {c : PageCtl} : (s.setPage p c).hka = s.hka := rfl
@[simp] theorem State.setPage_nv {p : Nat} {c : PageCtl} : (s.setPage p c).nv = s.nv := rfl
@[simp] theorem State.setPage_sec {p : Nat} {c : PageCtl} : (s.setPage p c).sec = s.sec := rfl
@[simp] theorem State.setPage_cpu {p : Nat} {c : PageCtl} : (s.setPage p c).cpu = s.cpu := rfl
@[simp] theorem State.setPage_rpr {p : Nat} {c : PageCtl} : (s.setPage p c).rpr = s.rpr := rfl
@[simp] theorem State.setPage_out {p : Nat} {c : PageCtl} : (s.setPage p c).out = s.out := rfl
@[simp] theorem State.setPage_pending {p : Nat} {c : PageCtl} : (s.setPage p c).pending = s.pending := rfl
@[simp] theorem State.setPage_word {p : Nat} {c : PageCtl} {k : Nat} : (s.setPage p c).word k = s.word k := rfl
@[simp] theorem State.setPage_nat {p : Nat} {c : PageCtl} {k : Nat} : (s.setPage p c).nat k = s.nat k := rfl
@[simp] theorem State.setPage_get {p : Nat} {c : PageCtl} {k : Nat} {g : Fld} : (s.setPage p c).get k g = s.get k g := rfl
@[simp] theorem State.setPage_getI {p : Nat} {c : PageCtl} {k : Nat} {g : Fld} : (s.setPage p c).getI k g = s.getI k g := rfl
@[simp] theorem State.setPage_flag {p : Nat} {c : PageCtl} {k : Nat} {g : Fld} : (s.setPage p c).flag k g = s.flag k g := rfl
@[simp] theorem State.setPage_nat64 {p : Nat} {c : PageCtl} {k : Nat} : (s.setPage p c).nat64 k = s.nat64 k := rfl
@[simp] theorem State.setPage_blk {p : Nat} {c : PageCtl} {k : Nat} : (s.setPage p c).blk k = s.blk k := rfl

/-! ### setTx -/

@[simp] theorem State.setTx_regs {n : Nat} {t : TxState} : (s.setTx n t).regs = s.regs := rfl
@[simp] theorem State.setTx_mem {n : Nat} {t : TxState} : (s.setTx n t).mem = s.mem := rfl
@[simp] theorem State.setTx_poisoned {n : Nat} {t : TxState} : (s.setTx n t).poisoned = s.poisoned := rfl
@[simp] theorem State.setTx_dtime {n : Nat} {t : TxState} : (s.setTx n t).dtime = s.dtime := rfl
@[simp] theorem State.setTx_now {n : Nat} {t : TxState} : (s.setTx n t).now = s.now := rfl
@[simp] theorem State.setTx_freeCtr {n : Nat} {t : TxState} : (s.setTx n t).freeCtr = s.freeCtr := rfl
@[simp] theorem State.setTx_boot {n : Nat} {t : TxState} : (s.setTx n t).boot = s.boot := rfl
@[simp] theorem State.setTx_rap {n : Nat} {t : TxState} : (s.setTx n t).rap = s.rap := rfl
@[simp] theorem State.setTx_pwr {n : Nat} {t : TxState} : (s.setTx n t).pwr = s.pwr := rfl
@[simp] theorem State.setTx_thm {n : Nat} {t : TxState} : (s.setTx n t).thm = s.thm := rfl
@[simp] theorem State.setTx_pages {n : Nat} {t : TxState} : (s.setTx n t).pages = s.pages := rfl
@[simp] theorem State.setTx_coreQueue {n : Nat} {t : TxState} : (s.setTx n t).coreQueue = s.coreQueue := rfl
@[simp] theorem State.setTx_safe {n : Nat} {t : TxState} : (s.setTx n t).safe = s.safe := rfl
@[simp] theorem State.setTx_raised {n : Nat} {t : TxState} : (s.setTx n t).raised = s.raised := rfl
@[simp] theorem State.setTx_cal {n : Nat} {t : TxState} : (s.setTx n t).cal = s.cal := rfl
@[simp] theorem State.setTx_rx {n : Nat} {t : TxState} : (s.setTx n t).rx = s.rx := rfl
@[simp] theorem State.setTx_sub {n : Nat} {t : TxState} : (s.setTx n t).sub = s.sub := rfl
@[simp] theorem State.setTx_fec {n : Nat} {t : TxState} : (s.setTx n t).fec = s.fec := rfl
@[simp] theorem State.setTx_frm {n : Nat} {t : TxState} : (s.setTx n t).frm = s.frm := rfl
@[simp] theorem State.setTx_osp {n : Nat} {t : TxState} : (s.setTx n t).osp = s.osp := rfl
@[simp] theorem State.setTx_pmb {n : Nat} {t : TxState} : (s.setTx n t).pmb = s.pmb := rfl
@[simp] theorem State.setTx_gath {n : Nat} {t : TxState} : (s.setTx n t).gath = s.gath := rfl
@[simp] theorem State.setTx_pg {n : Nat} {t : TxState} : (s.setTx n t).pg = s.pg := rfl
@[simp] theorem State.setTx_cry {n : Nat} {t : TxState} : (s.setTx n t).cry = s.cry := rfl
@[simp] theorem State.setTx_agree {n : Nat} {t : TxState} : (s.setTx n t).agree = s.agree := rfl
@[simp] theorem State.setTx_cryPassed {n : Nat} {t : TxState} : (s.setTx n t).cryPassed = s.cryPassed := rfl
@[simp] theorem State.setTx_cls {n : Nat} {t : TxState} : (s.setTx n t).cls = s.cls := rfl
@[simp] theorem State.setTx_ports {n : Nat} {t : TxState} : (s.setTx n t).ports = s.ports := rfl
@[simp] theorem State.setTx_pkt {n : Nat} {t : TxState} : (s.setTx n t).pkt = s.pkt := rfl
@[simp] theorem State.setTx_fbl {n : Nat} {t : TxState} : (s.setTx n t).fbl = s.fbl := rfl
@[simp] theorem State.setTx_fbr {n : Nat} {t : TxState} : (s.setTx n t).fbr = s.fbr := rfl
@[simp] theorem State.setTx_tim {n : Nat} {t : TxState} : (s.setTx n t).tim = s.tim := rfl
@[simp] theorem State.setTx_ecc {n : Nat} {t : TxState} : (s.setTx n t).ecc = s.ecc := rfl
@[simp] theorem State.setTx_hka {n : Nat} {t : TxState} : (s.setTx n t).hka = s.hka := rfl
@[simp] theorem State.setTx_nv {n : Nat} {t : TxState} : (s.setTx n t).nv = s.nv := rfl
@[simp] theorem State.setTx_sec {n : Nat} {t : TxState} : (s.setTx n t).sec = s.sec := rfl
@[simp] theorem State.setTx_cpu {n : Nat} {t : TxState} : (s.setTx n t).cpu = s.cpu := rfl
@[simp] theorem State.setTx_rpr {n : Nat} {t : TxState} : (s.setTx n t).rpr = s.rpr := rfl
@[simp] theorem State.setTx_out {n : Nat} {t : TxState} : (s.setTx n t).out = s.out := rfl
@[simp] theorem State.setTx_pending {n : Nat} {t : TxState} : (s.setTx n t).pending = s.pending := rfl
@[simp] theorem State.setTx_word {n : Nat} {t : TxState} {k : Nat} : (s.setTx n t).word k = s.word k := rfl
@[simp] theorem State.setTx_nat {n : Nat} {t : TxState} {k : Nat} : (s.setTx n t).nat k = s.nat k := rfl
@[simp] theorem State.setTx_get {n : Nat} {t : TxState} {k : Nat} {g : Fld} : (s.setTx n t).get k g = s.get k g := rfl
@[simp] theorem State.setTx_getI {n : Nat} {t : TxState} {k : Nat} {g : Fld} : (s.setTx n t).getI k g = s.getI k g := rfl
@[simp] theorem State.setTx_flag {n : Nat} {t : TxState} {k : Nat} {g : Fld} : (s.setTx n t).flag k g = s.flag k g := rfl
@[simp] theorem State.setTx_nat64 {n : Nat} {t : TxState} {k : Nat} : (s.setTx n t).nat64 k = s.nat64 k := rfl
@[simp] theorem State.setTx_blk {n : Nat} {t : TxState} {k : Nat} : (s.setTx n t).blk k = s.blk k := rfl

/-! ### setCal -/

@[simp] theorem State.setCal_regs {n : Nat} {t : CalState} : (s.setCal n t).regs = s.regs := rfl
@[simp] theorem State.setCal_mem {n : Nat} {t : CalState} : (s.setCal n t).mem = s.mem := rfl
@[simp] theorem State.setCal_poisoned {n : Nat} {t : CalState} : (s.setCal n t).poisoned = s.poisoned := rfl
@[simp] theorem State.setCal_dtime {n : Nat} {t : CalState} : (s.setCal n t).dtime = s.dtime := rfl
@[simp] theorem State.setCal_now {n : Nat} {t : CalState} : (s.setCal n t).now = s.now := rfl
@[simp] theorem State.setCal_freeCtr {n : Nat} {t : CalState} : (s.setCal n t).freeCtr = s.freeCtr := rfl
@[simp] theorem State.setCal_boot {n : Nat} {t : CalState} : (s.setCal n t).boot = s.boot := rfl
@[simp] theorem State.setCal_rap {n : Nat} {t : CalState} : (s.setCal n t).rap = s.rap := rfl
@[simp] theorem State.setCal_pwr {n : Nat} {t : CalState} : (s.setCal n t).pwr = s.pwr := rfl
@[simp] theorem State.setCal_thm {n : Nat} {t : CalState} : (s.setCal n t).thm = s.thm := rfl
@[simp] theorem State.setCal_pages {n : Nat} {t : CalState} : (s.setCal n t).pages = s.pages := rfl
@[simp] theorem State.setCal_coreQueue {n : Nat} {t : CalState} : (s.setCal n t).coreQueue = s.coreQueue := rfl
@[simp] theorem State.setCal_safe {n : Nat} {t : CalState} : (s.setCal n t).safe = s.safe := rfl
@[simp] theorem State.setCal_raised {n : Nat} {t : CalState} : (s.setCal n t).raised = s.raised := rfl
@[simp] theorem State.setCal_tx {n : Nat} {t : CalState} : (s.setCal n t).tx = s.tx := rfl
@[simp] theorem State.setCal_rx {n : Nat} {t : CalState} : (s.setCal n t).rx = s.rx := rfl
@[simp] theorem State.setCal_sub {n : Nat} {t : CalState} : (s.setCal n t).sub = s.sub := rfl
@[simp] theorem State.setCal_fec {n : Nat} {t : CalState} : (s.setCal n t).fec = s.fec := rfl
@[simp] theorem State.setCal_frm {n : Nat} {t : CalState} : (s.setCal n t).frm = s.frm := rfl
@[simp] theorem State.setCal_osp {n : Nat} {t : CalState} : (s.setCal n t).osp = s.osp := rfl
@[simp] theorem State.setCal_pmb {n : Nat} {t : CalState} : (s.setCal n t).pmb = s.pmb := rfl
@[simp] theorem State.setCal_gath {n : Nat} {t : CalState} : (s.setCal n t).gath = s.gath := rfl
@[simp] theorem State.setCal_pg {n : Nat} {t : CalState} : (s.setCal n t).pg = s.pg := rfl
@[simp] theorem State.setCal_cry {n : Nat} {t : CalState} : (s.setCal n t).cry = s.cry := rfl
@[simp] theorem State.setCal_agree {n : Nat} {t : CalState} : (s.setCal n t).agree = s.agree := rfl
@[simp] theorem State.setCal_cryPassed {n : Nat} {t : CalState} : (s.setCal n t).cryPassed = s.cryPassed := rfl
@[simp] theorem State.setCal_cls {n : Nat} {t : CalState} : (s.setCal n t).cls = s.cls := rfl
@[simp] theorem State.setCal_ports {n : Nat} {t : CalState} : (s.setCal n t).ports = s.ports := rfl
@[simp] theorem State.setCal_pkt {n : Nat} {t : CalState} : (s.setCal n t).pkt = s.pkt := rfl
@[simp] theorem State.setCal_fbl {n : Nat} {t : CalState} : (s.setCal n t).fbl = s.fbl := rfl
@[simp] theorem State.setCal_fbr {n : Nat} {t : CalState} : (s.setCal n t).fbr = s.fbr := rfl
@[simp] theorem State.setCal_tim {n : Nat} {t : CalState} : (s.setCal n t).tim = s.tim := rfl
@[simp] theorem State.setCal_ecc {n : Nat} {t : CalState} : (s.setCal n t).ecc = s.ecc := rfl
@[simp] theorem State.setCal_hka {n : Nat} {t : CalState} : (s.setCal n t).hka = s.hka := rfl
@[simp] theorem State.setCal_nv {n : Nat} {t : CalState} : (s.setCal n t).nv = s.nv := rfl
@[simp] theorem State.setCal_sec {n : Nat} {t : CalState} : (s.setCal n t).sec = s.sec := rfl
@[simp] theorem State.setCal_cpu {n : Nat} {t : CalState} : (s.setCal n t).cpu = s.cpu := rfl
@[simp] theorem State.setCal_rpr {n : Nat} {t : CalState} : (s.setCal n t).rpr = s.rpr := rfl
@[simp] theorem State.setCal_out {n : Nat} {t : CalState} : (s.setCal n t).out = s.out := rfl
@[simp] theorem State.setCal_pending {n : Nat} {t : CalState} : (s.setCal n t).pending = s.pending := rfl
@[simp] theorem State.setCal_word {n : Nat} {t : CalState} {k : Nat} : (s.setCal n t).word k = s.word k := rfl
@[simp] theorem State.setCal_nat {n : Nat} {t : CalState} {k : Nat} : (s.setCal n t).nat k = s.nat k := rfl
@[simp] theorem State.setCal_get {n : Nat} {t : CalState} {k : Nat} {g : Fld} : (s.setCal n t).get k g = s.get k g := rfl
@[simp] theorem State.setCal_getI {n : Nat} {t : CalState} {k : Nat} {g : Fld} : (s.setCal n t).getI k g = s.getI k g := rfl
@[simp] theorem State.setCal_flag {n : Nat} {t : CalState} {k : Nat} {g : Fld} : (s.setCal n t).flag k g = s.flag k g := rfl
@[simp] theorem State.setCal_nat64 {n : Nat} {t : CalState} {k : Nat} : (s.setCal n t).nat64 k = s.nat64 k := rfl
@[simp] theorem State.setCal_blk {n : Nat} {t : CalState} {k : Nat} : (s.setCal n t).blk k = s.blk k := rfl

/-! ### setRx -/

@[simp] theorem State.setRx_regs {n : Nat} {t : RxState} : (s.setRx n t).regs = s.regs := rfl
@[simp] theorem State.setRx_mem {n : Nat} {t : RxState} : (s.setRx n t).mem = s.mem := rfl
@[simp] theorem State.setRx_poisoned {n : Nat} {t : RxState} : (s.setRx n t).poisoned = s.poisoned := rfl
@[simp] theorem State.setRx_dtime {n : Nat} {t : RxState} : (s.setRx n t).dtime = s.dtime := rfl
@[simp] theorem State.setRx_now {n : Nat} {t : RxState} : (s.setRx n t).now = s.now := rfl
@[simp] theorem State.setRx_freeCtr {n : Nat} {t : RxState} : (s.setRx n t).freeCtr = s.freeCtr := rfl
@[simp] theorem State.setRx_boot {n : Nat} {t : RxState} : (s.setRx n t).boot = s.boot := rfl
@[simp] theorem State.setRx_rap {n : Nat} {t : RxState} : (s.setRx n t).rap = s.rap := rfl
@[simp] theorem State.setRx_pwr {n : Nat} {t : RxState} : (s.setRx n t).pwr = s.pwr := rfl
@[simp] theorem State.setRx_thm {n : Nat} {t : RxState} : (s.setRx n t).thm = s.thm := rfl
@[simp] theorem State.setRx_pages {n : Nat} {t : RxState} : (s.setRx n t).pages = s.pages := rfl
@[simp] theorem State.setRx_coreQueue {n : Nat} {t : RxState} : (s.setRx n t).coreQueue = s.coreQueue := rfl
@[simp] theorem State.setRx_safe {n : Nat} {t : RxState} : (s.setRx n t).safe = s.safe := rfl
@[simp] theorem State.setRx_raised {n : Nat} {t : RxState} : (s.setRx n t).raised = s.raised := rfl
@[simp] theorem State.setRx_cal {n : Nat} {t : RxState} : (s.setRx n t).cal = s.cal := rfl
@[simp] theorem State.setRx_tx {n : Nat} {t : RxState} : (s.setRx n t).tx = s.tx := rfl
@[simp] theorem State.setRx_sub {n : Nat} {t : RxState} : (s.setRx n t).sub = s.sub := rfl
@[simp] theorem State.setRx_fec {n : Nat} {t : RxState} : (s.setRx n t).fec = s.fec := rfl
@[simp] theorem State.setRx_frm {n : Nat} {t : RxState} : (s.setRx n t).frm = s.frm := rfl
@[simp] theorem State.setRx_osp {n : Nat} {t : RxState} : (s.setRx n t).osp = s.osp := rfl
@[simp] theorem State.setRx_pmb {n : Nat} {t : RxState} : (s.setRx n t).pmb = s.pmb := rfl
@[simp] theorem State.setRx_gath {n : Nat} {t : RxState} : (s.setRx n t).gath = s.gath := rfl
@[simp] theorem State.setRx_pg {n : Nat} {t : RxState} : (s.setRx n t).pg = s.pg := rfl
@[simp] theorem State.setRx_cry {n : Nat} {t : RxState} : (s.setRx n t).cry = s.cry := rfl
@[simp] theorem State.setRx_agree {n : Nat} {t : RxState} : (s.setRx n t).agree = s.agree := rfl
@[simp] theorem State.setRx_cryPassed {n : Nat} {t : RxState} : (s.setRx n t).cryPassed = s.cryPassed := rfl
@[simp] theorem State.setRx_cls {n : Nat} {t : RxState} : (s.setRx n t).cls = s.cls := rfl
@[simp] theorem State.setRx_ports {n : Nat} {t : RxState} : (s.setRx n t).ports = s.ports := rfl
@[simp] theorem State.setRx_pkt {n : Nat} {t : RxState} : (s.setRx n t).pkt = s.pkt := rfl
@[simp] theorem State.setRx_fbl {n : Nat} {t : RxState} : (s.setRx n t).fbl = s.fbl := rfl
@[simp] theorem State.setRx_fbr {n : Nat} {t : RxState} : (s.setRx n t).fbr = s.fbr := rfl
@[simp] theorem State.setRx_tim {n : Nat} {t : RxState} : (s.setRx n t).tim = s.tim := rfl
@[simp] theorem State.setRx_ecc {n : Nat} {t : RxState} : (s.setRx n t).ecc = s.ecc := rfl
@[simp] theorem State.setRx_hka {n : Nat} {t : RxState} : (s.setRx n t).hka = s.hka := rfl
@[simp] theorem State.setRx_nv {n : Nat} {t : RxState} : (s.setRx n t).nv = s.nv := rfl
@[simp] theorem State.setRx_sec {n : Nat} {t : RxState} : (s.setRx n t).sec = s.sec := rfl
@[simp] theorem State.setRx_cpu {n : Nat} {t : RxState} : (s.setRx n t).cpu = s.cpu := rfl
@[simp] theorem State.setRx_rpr {n : Nat} {t : RxState} : (s.setRx n t).rpr = s.rpr := rfl
@[simp] theorem State.setRx_out {n : Nat} {t : RxState} : (s.setRx n t).out = s.out := rfl
@[simp] theorem State.setRx_pending {n : Nat} {t : RxState} : (s.setRx n t).pending = s.pending := rfl
@[simp] theorem State.setRx_word {n : Nat} {t : RxState} {k : Nat} : (s.setRx n t).word k = s.word k := rfl
@[simp] theorem State.setRx_nat {n : Nat} {t : RxState} {k : Nat} : (s.setRx n t).nat k = s.nat k := rfl
@[simp] theorem State.setRx_get {n : Nat} {t : RxState} {k : Nat} {g : Fld} : (s.setRx n t).get k g = s.get k g := rfl
@[simp] theorem State.setRx_getI {n : Nat} {t : RxState} {k : Nat} {g : Fld} : (s.setRx n t).getI k g = s.getI k g := rfl
@[simp] theorem State.setRx_flag {n : Nat} {t : RxState} {k : Nat} {g : Fld} : (s.setRx n t).flag k g = s.flag k g := rfl
@[simp] theorem State.setRx_nat64 {n : Nat} {t : RxState} {k : Nat} : (s.setRx n t).nat64 k = s.nat64 k := rfl
@[simp] theorem State.setRx_blk {n : Nat} {t : RxState} {k : Nat} : (s.setRx n t).blk k = s.blk k := rfl

/-! ### setSub -/

@[simp] theorem State.setSub_regs {n : Nat} {t : SubState} : (s.setSub n t).regs = s.regs := rfl
@[simp] theorem State.setSub_mem {n : Nat} {t : SubState} : (s.setSub n t).mem = s.mem := rfl
@[simp] theorem State.setSub_poisoned {n : Nat} {t : SubState} : (s.setSub n t).poisoned = s.poisoned := rfl
@[simp] theorem State.setSub_dtime {n : Nat} {t : SubState} : (s.setSub n t).dtime = s.dtime := rfl
@[simp] theorem State.setSub_now {n : Nat} {t : SubState} : (s.setSub n t).now = s.now := rfl
@[simp] theorem State.setSub_freeCtr {n : Nat} {t : SubState} : (s.setSub n t).freeCtr = s.freeCtr := rfl
@[simp] theorem State.setSub_boot {n : Nat} {t : SubState} : (s.setSub n t).boot = s.boot := rfl
@[simp] theorem State.setSub_rap {n : Nat} {t : SubState} : (s.setSub n t).rap = s.rap := rfl
@[simp] theorem State.setSub_pwr {n : Nat} {t : SubState} : (s.setSub n t).pwr = s.pwr := rfl
@[simp] theorem State.setSub_thm {n : Nat} {t : SubState} : (s.setSub n t).thm = s.thm := rfl
@[simp] theorem State.setSub_pages {n : Nat} {t : SubState} : (s.setSub n t).pages = s.pages := rfl
@[simp] theorem State.setSub_coreQueue {n : Nat} {t : SubState} : (s.setSub n t).coreQueue = s.coreQueue := rfl
@[simp] theorem State.setSub_safe {n : Nat} {t : SubState} : (s.setSub n t).safe = s.safe := rfl
@[simp] theorem State.setSub_raised {n : Nat} {t : SubState} : (s.setSub n t).raised = s.raised := rfl
@[simp] theorem State.setSub_cal {n : Nat} {t : SubState} : (s.setSub n t).cal = s.cal := rfl
@[simp] theorem State.setSub_tx {n : Nat} {t : SubState} : (s.setSub n t).tx = s.tx := rfl
@[simp] theorem State.setSub_rx {n : Nat} {t : SubState} : (s.setSub n t).rx = s.rx := rfl
@[simp] theorem State.setSub_fec {n : Nat} {t : SubState} : (s.setSub n t).fec = s.fec := rfl
@[simp] theorem State.setSub_frm {n : Nat} {t : SubState} : (s.setSub n t).frm = s.frm := rfl
@[simp] theorem State.setSub_osp {n : Nat} {t : SubState} : (s.setSub n t).osp = s.osp := rfl
@[simp] theorem State.setSub_pmb {n : Nat} {t : SubState} : (s.setSub n t).pmb = s.pmb := rfl
@[simp] theorem State.setSub_gath {n : Nat} {t : SubState} : (s.setSub n t).gath = s.gath := rfl
@[simp] theorem State.setSub_pg {n : Nat} {t : SubState} : (s.setSub n t).pg = s.pg := rfl
@[simp] theorem State.setSub_cry {n : Nat} {t : SubState} : (s.setSub n t).cry = s.cry := rfl
@[simp] theorem State.setSub_agree {n : Nat} {t : SubState} : (s.setSub n t).agree = s.agree := rfl
@[simp] theorem State.setSub_cryPassed {n : Nat} {t : SubState} : (s.setSub n t).cryPassed = s.cryPassed := rfl
@[simp] theorem State.setSub_cls {n : Nat} {t : SubState} : (s.setSub n t).cls = s.cls := rfl
@[simp] theorem State.setSub_ports {n : Nat} {t : SubState} : (s.setSub n t).ports = s.ports := rfl
@[simp] theorem State.setSub_pkt {n : Nat} {t : SubState} : (s.setSub n t).pkt = s.pkt := rfl
@[simp] theorem State.setSub_fbl {n : Nat} {t : SubState} : (s.setSub n t).fbl = s.fbl := rfl
@[simp] theorem State.setSub_fbr {n : Nat} {t : SubState} : (s.setSub n t).fbr = s.fbr := rfl
@[simp] theorem State.setSub_tim {n : Nat} {t : SubState} : (s.setSub n t).tim = s.tim := rfl
@[simp] theorem State.setSub_ecc {n : Nat} {t : SubState} : (s.setSub n t).ecc = s.ecc := rfl
@[simp] theorem State.setSub_hka {n : Nat} {t : SubState} : (s.setSub n t).hka = s.hka := rfl
@[simp] theorem State.setSub_nv {n : Nat} {t : SubState} : (s.setSub n t).nv = s.nv := rfl
@[simp] theorem State.setSub_sec {n : Nat} {t : SubState} : (s.setSub n t).sec = s.sec := rfl
@[simp] theorem State.setSub_cpu {n : Nat} {t : SubState} : (s.setSub n t).cpu = s.cpu := rfl
@[simp] theorem State.setSub_rpr {n : Nat} {t : SubState} : (s.setSub n t).rpr = s.rpr := rfl
@[simp] theorem State.setSub_out {n : Nat} {t : SubState} : (s.setSub n t).out = s.out := rfl
@[simp] theorem State.setSub_pending {n : Nat} {t : SubState} : (s.setSub n t).pending = s.pending := rfl
@[simp] theorem State.setSub_word {n : Nat} {t : SubState} {k : Nat} : (s.setSub n t).word k = s.word k := rfl
@[simp] theorem State.setSub_nat {n : Nat} {t : SubState} {k : Nat} : (s.setSub n t).nat k = s.nat k := rfl
@[simp] theorem State.setSub_get {n : Nat} {t : SubState} {k : Nat} {g : Fld} : (s.setSub n t).get k g = s.get k g := rfl
@[simp] theorem State.setSub_getI {n : Nat} {t : SubState} {k : Nat} {g : Fld} : (s.setSub n t).getI k g = s.getI k g := rfl
@[simp] theorem State.setSub_flag {n : Nat} {t : SubState} {k : Nat} {g : Fld} : (s.setSub n t).flag k g = s.flag k g := rfl
@[simp] theorem State.setSub_nat64 {n : Nat} {t : SubState} {k : Nat} : (s.setSub n t).nat64 k = s.nat64 k := rfl
@[simp] theorem State.setSub_blk {n : Nat} {t : SubState} {k : Nat} : (s.setSub n t).blk k = s.blk k := rfl

/-! ### setFec -/

@[simp] theorem State.setFec_regs {n : Nat} {t : FecState} : (s.setFec n t).regs = s.regs := rfl
@[simp] theorem State.setFec_mem {n : Nat} {t : FecState} : (s.setFec n t).mem = s.mem := rfl
@[simp] theorem State.setFec_poisoned {n : Nat} {t : FecState} : (s.setFec n t).poisoned = s.poisoned := rfl
@[simp] theorem State.setFec_dtime {n : Nat} {t : FecState} : (s.setFec n t).dtime = s.dtime := rfl
@[simp] theorem State.setFec_now {n : Nat} {t : FecState} : (s.setFec n t).now = s.now := rfl
@[simp] theorem State.setFec_freeCtr {n : Nat} {t : FecState} : (s.setFec n t).freeCtr = s.freeCtr := rfl
@[simp] theorem State.setFec_boot {n : Nat} {t : FecState} : (s.setFec n t).boot = s.boot := rfl
@[simp] theorem State.setFec_rap {n : Nat} {t : FecState} : (s.setFec n t).rap = s.rap := rfl
@[simp] theorem State.setFec_pwr {n : Nat} {t : FecState} : (s.setFec n t).pwr = s.pwr := rfl
@[simp] theorem State.setFec_thm {n : Nat} {t : FecState} : (s.setFec n t).thm = s.thm := rfl
@[simp] theorem State.setFec_pages {n : Nat} {t : FecState} : (s.setFec n t).pages = s.pages := rfl
@[simp] theorem State.setFec_coreQueue {n : Nat} {t : FecState} : (s.setFec n t).coreQueue = s.coreQueue := rfl
@[simp] theorem State.setFec_safe {n : Nat} {t : FecState} : (s.setFec n t).safe = s.safe := rfl
@[simp] theorem State.setFec_raised {n : Nat} {t : FecState} : (s.setFec n t).raised = s.raised := rfl
@[simp] theorem State.setFec_cal {n : Nat} {t : FecState} : (s.setFec n t).cal = s.cal := rfl
@[simp] theorem State.setFec_tx {n : Nat} {t : FecState} : (s.setFec n t).tx = s.tx := rfl
@[simp] theorem State.setFec_rx {n : Nat} {t : FecState} : (s.setFec n t).rx = s.rx := rfl
@[simp] theorem State.setFec_sub {n : Nat} {t : FecState} : (s.setFec n t).sub = s.sub := rfl
@[simp] theorem State.setFec_frm {n : Nat} {t : FecState} : (s.setFec n t).frm = s.frm := rfl
@[simp] theorem State.setFec_osp {n : Nat} {t : FecState} : (s.setFec n t).osp = s.osp := rfl
@[simp] theorem State.setFec_pmb {n : Nat} {t : FecState} : (s.setFec n t).pmb = s.pmb := rfl
@[simp] theorem State.setFec_gath {n : Nat} {t : FecState} : (s.setFec n t).gath = s.gath := rfl
@[simp] theorem State.setFec_pg {n : Nat} {t : FecState} : (s.setFec n t).pg = s.pg := rfl
@[simp] theorem State.setFec_cry {n : Nat} {t : FecState} : (s.setFec n t).cry = s.cry := rfl
@[simp] theorem State.setFec_agree {n : Nat} {t : FecState} : (s.setFec n t).agree = s.agree := rfl
@[simp] theorem State.setFec_cryPassed {n : Nat} {t : FecState} : (s.setFec n t).cryPassed = s.cryPassed := rfl
@[simp] theorem State.setFec_cls {n : Nat} {t : FecState} : (s.setFec n t).cls = s.cls := rfl
@[simp] theorem State.setFec_ports {n : Nat} {t : FecState} : (s.setFec n t).ports = s.ports := rfl
@[simp] theorem State.setFec_pkt {n : Nat} {t : FecState} : (s.setFec n t).pkt = s.pkt := rfl
@[simp] theorem State.setFec_fbl {n : Nat} {t : FecState} : (s.setFec n t).fbl = s.fbl := rfl
@[simp] theorem State.setFec_fbr {n : Nat} {t : FecState} : (s.setFec n t).fbr = s.fbr := rfl
@[simp] theorem State.setFec_tim {n : Nat} {t : FecState} : (s.setFec n t).tim = s.tim := rfl
@[simp] theorem State.setFec_ecc {n : Nat} {t : FecState} : (s.setFec n t).ecc = s.ecc := rfl
@[simp] theorem State.setFec_hka {n : Nat} {t : FecState} : (s.setFec n t).hka = s.hka := rfl
@[simp] theorem State.setFec_nv {n : Nat} {t : FecState} : (s.setFec n t).nv = s.nv := rfl
@[simp] theorem State.setFec_sec {n : Nat} {t : FecState} : (s.setFec n t).sec = s.sec := rfl
@[simp] theorem State.setFec_cpu {n : Nat} {t : FecState} : (s.setFec n t).cpu = s.cpu := rfl
@[simp] theorem State.setFec_rpr {n : Nat} {t : FecState} : (s.setFec n t).rpr = s.rpr := rfl
@[simp] theorem State.setFec_out {n : Nat} {t : FecState} : (s.setFec n t).out = s.out := rfl
@[simp] theorem State.setFec_pending {n : Nat} {t : FecState} : (s.setFec n t).pending = s.pending := rfl
@[simp] theorem State.setFec_word {n : Nat} {t : FecState} {k : Nat} : (s.setFec n t).word k = s.word k := rfl
@[simp] theorem State.setFec_nat {n : Nat} {t : FecState} {k : Nat} : (s.setFec n t).nat k = s.nat k := rfl
@[simp] theorem State.setFec_get {n : Nat} {t : FecState} {k : Nat} {g : Fld} : (s.setFec n t).get k g = s.get k g := rfl
@[simp] theorem State.setFec_getI {n : Nat} {t : FecState} {k : Nat} {g : Fld} : (s.setFec n t).getI k g = s.getI k g := rfl
@[simp] theorem State.setFec_flag {n : Nat} {t : FecState} {k : Nat} {g : Fld} : (s.setFec n t).flag k g = s.flag k g := rfl
@[simp] theorem State.setFec_nat64 {n : Nat} {t : FecState} {k : Nat} : (s.setFec n t).nat64 k = s.nat64 k := rfl
@[simp] theorem State.setFec_blk {n : Nat} {t : FecState} {k : Nat} : (s.setFec n t).blk k = s.blk k := rfl

/-! ### setFrm -/

@[simp] theorem State.setFrm_regs {n : Nat} {t : FrmState} : (s.setFrm n t).regs = s.regs := rfl
@[simp] theorem State.setFrm_mem {n : Nat} {t : FrmState} : (s.setFrm n t).mem = s.mem := rfl
@[simp] theorem State.setFrm_poisoned {n : Nat} {t : FrmState} : (s.setFrm n t).poisoned = s.poisoned := rfl
@[simp] theorem State.setFrm_dtime {n : Nat} {t : FrmState} : (s.setFrm n t).dtime = s.dtime := rfl
@[simp] theorem State.setFrm_now {n : Nat} {t : FrmState} : (s.setFrm n t).now = s.now := rfl
@[simp] theorem State.setFrm_freeCtr {n : Nat} {t : FrmState} : (s.setFrm n t).freeCtr = s.freeCtr := rfl
@[simp] theorem State.setFrm_boot {n : Nat} {t : FrmState} : (s.setFrm n t).boot = s.boot := rfl
@[simp] theorem State.setFrm_rap {n : Nat} {t : FrmState} : (s.setFrm n t).rap = s.rap := rfl
@[simp] theorem State.setFrm_pwr {n : Nat} {t : FrmState} : (s.setFrm n t).pwr = s.pwr := rfl
@[simp] theorem State.setFrm_thm {n : Nat} {t : FrmState} : (s.setFrm n t).thm = s.thm := rfl
@[simp] theorem State.setFrm_pages {n : Nat} {t : FrmState} : (s.setFrm n t).pages = s.pages := rfl
@[simp] theorem State.setFrm_coreQueue {n : Nat} {t : FrmState} : (s.setFrm n t).coreQueue = s.coreQueue := rfl
@[simp] theorem State.setFrm_safe {n : Nat} {t : FrmState} : (s.setFrm n t).safe = s.safe := rfl
@[simp] theorem State.setFrm_raised {n : Nat} {t : FrmState} : (s.setFrm n t).raised = s.raised := rfl
@[simp] theorem State.setFrm_cal {n : Nat} {t : FrmState} : (s.setFrm n t).cal = s.cal := rfl
@[simp] theorem State.setFrm_tx {n : Nat} {t : FrmState} : (s.setFrm n t).tx = s.tx := rfl
@[simp] theorem State.setFrm_rx {n : Nat} {t : FrmState} : (s.setFrm n t).rx = s.rx := rfl
@[simp] theorem State.setFrm_sub {n : Nat} {t : FrmState} : (s.setFrm n t).sub = s.sub := rfl
@[simp] theorem State.setFrm_fec {n : Nat} {t : FrmState} : (s.setFrm n t).fec = s.fec := rfl
@[simp] theorem State.setFrm_osp {n : Nat} {t : FrmState} : (s.setFrm n t).osp = s.osp := rfl
@[simp] theorem State.setFrm_pmb {n : Nat} {t : FrmState} : (s.setFrm n t).pmb = s.pmb := rfl
@[simp] theorem State.setFrm_gath {n : Nat} {t : FrmState} : (s.setFrm n t).gath = s.gath := rfl
@[simp] theorem State.setFrm_pg {n : Nat} {t : FrmState} : (s.setFrm n t).pg = s.pg := rfl
@[simp] theorem State.setFrm_cry {n : Nat} {t : FrmState} : (s.setFrm n t).cry = s.cry := rfl
@[simp] theorem State.setFrm_agree {n : Nat} {t : FrmState} : (s.setFrm n t).agree = s.agree := rfl
@[simp] theorem State.setFrm_cryPassed {n : Nat} {t : FrmState} : (s.setFrm n t).cryPassed = s.cryPassed := rfl
@[simp] theorem State.setFrm_cls {n : Nat} {t : FrmState} : (s.setFrm n t).cls = s.cls := rfl
@[simp] theorem State.setFrm_ports {n : Nat} {t : FrmState} : (s.setFrm n t).ports = s.ports := rfl
@[simp] theorem State.setFrm_pkt {n : Nat} {t : FrmState} : (s.setFrm n t).pkt = s.pkt := rfl
@[simp] theorem State.setFrm_fbl {n : Nat} {t : FrmState} : (s.setFrm n t).fbl = s.fbl := rfl
@[simp] theorem State.setFrm_fbr {n : Nat} {t : FrmState} : (s.setFrm n t).fbr = s.fbr := rfl
@[simp] theorem State.setFrm_tim {n : Nat} {t : FrmState} : (s.setFrm n t).tim = s.tim := rfl
@[simp] theorem State.setFrm_ecc {n : Nat} {t : FrmState} : (s.setFrm n t).ecc = s.ecc := rfl
@[simp] theorem State.setFrm_hka {n : Nat} {t : FrmState} : (s.setFrm n t).hka = s.hka := rfl
@[simp] theorem State.setFrm_nv {n : Nat} {t : FrmState} : (s.setFrm n t).nv = s.nv := rfl
@[simp] theorem State.setFrm_sec {n : Nat} {t : FrmState} : (s.setFrm n t).sec = s.sec := rfl
@[simp] theorem State.setFrm_cpu {n : Nat} {t : FrmState} : (s.setFrm n t).cpu = s.cpu := rfl
@[simp] theorem State.setFrm_rpr {n : Nat} {t : FrmState} : (s.setFrm n t).rpr = s.rpr := rfl
@[simp] theorem State.setFrm_out {n : Nat} {t : FrmState} : (s.setFrm n t).out = s.out := rfl
@[simp] theorem State.setFrm_pending {n : Nat} {t : FrmState} : (s.setFrm n t).pending = s.pending := rfl
@[simp] theorem State.setFrm_word {n : Nat} {t : FrmState} {k : Nat} : (s.setFrm n t).word k = s.word k := rfl
@[simp] theorem State.setFrm_nat {n : Nat} {t : FrmState} {k : Nat} : (s.setFrm n t).nat k = s.nat k := rfl
@[simp] theorem State.setFrm_get {n : Nat} {t : FrmState} {k : Nat} {g : Fld} : (s.setFrm n t).get k g = s.get k g := rfl
@[simp] theorem State.setFrm_getI {n : Nat} {t : FrmState} {k : Nat} {g : Fld} : (s.setFrm n t).getI k g = s.getI k g := rfl
@[simp] theorem State.setFrm_flag {n : Nat} {t : FrmState} {k : Nat} {g : Fld} : (s.setFrm n t).flag k g = s.flag k g := rfl
@[simp] theorem State.setFrm_nat64 {n : Nat} {t : FrmState} {k : Nat} : (s.setFrm n t).nat64 k = s.nat64 k := rfl
@[simp] theorem State.setFrm_blk {n : Nat} {t : FrmState} {k : Nat} : (s.setFrm n t).blk k = s.blk k := rfl

/-! ### setPort -/

@[simp] theorem State.setPort_regs {n : Nat} {t : PortState} : (s.setPort n t).regs = s.regs := rfl
@[simp] theorem State.setPort_mem {n : Nat} {t : PortState} : (s.setPort n t).mem = s.mem := rfl
@[simp] theorem State.setPort_poisoned {n : Nat} {t : PortState} : (s.setPort n t).poisoned = s.poisoned := rfl
@[simp] theorem State.setPort_dtime {n : Nat} {t : PortState} : (s.setPort n t).dtime = s.dtime := rfl
@[simp] theorem State.setPort_now {n : Nat} {t : PortState} : (s.setPort n t).now = s.now := rfl
@[simp] theorem State.setPort_freeCtr {n : Nat} {t : PortState} : (s.setPort n t).freeCtr = s.freeCtr := rfl
@[simp] theorem State.setPort_boot {n : Nat} {t : PortState} : (s.setPort n t).boot = s.boot := rfl
@[simp] theorem State.setPort_rap {n : Nat} {t : PortState} : (s.setPort n t).rap = s.rap := rfl
@[simp] theorem State.setPort_pwr {n : Nat} {t : PortState} : (s.setPort n t).pwr = s.pwr := rfl
@[simp] theorem State.setPort_thm {n : Nat} {t : PortState} : (s.setPort n t).thm = s.thm := rfl
@[simp] theorem State.setPort_pages {n : Nat} {t : PortState} : (s.setPort n t).pages = s.pages := rfl
@[simp] theorem State.setPort_coreQueue {n : Nat} {t : PortState} : (s.setPort n t).coreQueue = s.coreQueue := rfl
@[simp] theorem State.setPort_safe {n : Nat} {t : PortState} : (s.setPort n t).safe = s.safe := rfl
@[simp] theorem State.setPort_raised {n : Nat} {t : PortState} : (s.setPort n t).raised = s.raised := rfl
@[simp] theorem State.setPort_cal {n : Nat} {t : PortState} : (s.setPort n t).cal = s.cal := rfl
@[simp] theorem State.setPort_tx {n : Nat} {t : PortState} : (s.setPort n t).tx = s.tx := rfl
@[simp] theorem State.setPort_rx {n : Nat} {t : PortState} : (s.setPort n t).rx = s.rx := rfl
@[simp] theorem State.setPort_sub {n : Nat} {t : PortState} : (s.setPort n t).sub = s.sub := rfl
@[simp] theorem State.setPort_fec {n : Nat} {t : PortState} : (s.setPort n t).fec = s.fec := rfl
@[simp] theorem State.setPort_frm {n : Nat} {t : PortState} : (s.setPort n t).frm = s.frm := rfl
@[simp] theorem State.setPort_osp {n : Nat} {t : PortState} : (s.setPort n t).osp = s.osp := rfl
@[simp] theorem State.setPort_pmb {n : Nat} {t : PortState} : (s.setPort n t).pmb = s.pmb := rfl
@[simp] theorem State.setPort_gath {n : Nat} {t : PortState} : (s.setPort n t).gath = s.gath := rfl
@[simp] theorem State.setPort_pg {n : Nat} {t : PortState} : (s.setPort n t).pg = s.pg := rfl
@[simp] theorem State.setPort_cry {n : Nat} {t : PortState} : (s.setPort n t).cry = s.cry := rfl
@[simp] theorem State.setPort_agree {n : Nat} {t : PortState} : (s.setPort n t).agree = s.agree := rfl
@[simp] theorem State.setPort_cryPassed {n : Nat} {t : PortState} : (s.setPort n t).cryPassed = s.cryPassed := rfl
@[simp] theorem State.setPort_cls {n : Nat} {t : PortState} : (s.setPort n t).cls = s.cls := rfl
@[simp] theorem State.setPort_pkt {n : Nat} {t : PortState} : (s.setPort n t).pkt = s.pkt := rfl
@[simp] theorem State.setPort_fbl {n : Nat} {t : PortState} : (s.setPort n t).fbl = s.fbl := rfl
@[simp] theorem State.setPort_fbr {n : Nat} {t : PortState} : (s.setPort n t).fbr = s.fbr := rfl
@[simp] theorem State.setPort_tim {n : Nat} {t : PortState} : (s.setPort n t).tim = s.tim := rfl
@[simp] theorem State.setPort_ecc {n : Nat} {t : PortState} : (s.setPort n t).ecc = s.ecc := rfl
@[simp] theorem State.setPort_hka {n : Nat} {t : PortState} : (s.setPort n t).hka = s.hka := rfl
@[simp] theorem State.setPort_nv {n : Nat} {t : PortState} : (s.setPort n t).nv = s.nv := rfl
@[simp] theorem State.setPort_sec {n : Nat} {t : PortState} : (s.setPort n t).sec = s.sec := rfl
@[simp] theorem State.setPort_cpu {n : Nat} {t : PortState} : (s.setPort n t).cpu = s.cpu := rfl
@[simp] theorem State.setPort_rpr {n : Nat} {t : PortState} : (s.setPort n t).rpr = s.rpr := rfl
@[simp] theorem State.setPort_out {n : Nat} {t : PortState} : (s.setPort n t).out = s.out := rfl
@[simp] theorem State.setPort_pending {n : Nat} {t : PortState} : (s.setPort n t).pending = s.pending := rfl
@[simp] theorem State.setPort_word {n : Nat} {t : PortState} {k : Nat} : (s.setPort n t).word k = s.word k := rfl
@[simp] theorem State.setPort_nat {n : Nat} {t : PortState} {k : Nat} : (s.setPort n t).nat k = s.nat k := rfl
@[simp] theorem State.setPort_get {n : Nat} {t : PortState} {k : Nat} {g : Fld} : (s.setPort n t).get k g = s.get k g := rfl
@[simp] theorem State.setPort_getI {n : Nat} {t : PortState} {k : Nat} {g : Fld} : (s.setPort n t).getI k g = s.getI k g := rfl
@[simp] theorem State.setPort_flag {n : Nat} {t : PortState} {k : Nat} {g : Fld} : (s.setPort n t).flag k g = s.flag k g := rfl
@[simp] theorem State.setPort_nat64 {n : Nat} {t : PortState} {k : Nat} : (s.setPort n t).nat64 k = s.nat64 k := rfl
@[simp] theorem State.setPort_blk {n : Nat} {t : PortState} {k : Nat} : (s.setPort n t).blk k = s.blk k := rfl

/-! ### setGth -/

@[simp] theorem State.setGth_regs {n : Nat} {t : Gath} : (s.setGth n t).regs = s.regs := rfl
@[simp] theorem State.setGth_mem {n : Nat} {t : Gath} : (s.setGth n t).mem = s.mem := rfl
@[simp] theorem State.setGth_poisoned {n : Nat} {t : Gath} : (s.setGth n t).poisoned = s.poisoned := rfl
@[simp] theorem State.setGth_dtime {n : Nat} {t : Gath} : (s.setGth n t).dtime = s.dtime := rfl
@[simp] theorem State.setGth_now {n : Nat} {t : Gath} : (s.setGth n t).now = s.now := rfl
@[simp] theorem State.setGth_freeCtr {n : Nat} {t : Gath} : (s.setGth n t).freeCtr = s.freeCtr := rfl
@[simp] theorem State.setGth_boot {n : Nat} {t : Gath} : (s.setGth n t).boot = s.boot := rfl
@[simp] theorem State.setGth_rap {n : Nat} {t : Gath} : (s.setGth n t).rap = s.rap := rfl
@[simp] theorem State.setGth_pwr {n : Nat} {t : Gath} : (s.setGth n t).pwr = s.pwr := rfl
@[simp] theorem State.setGth_thm {n : Nat} {t : Gath} : (s.setGth n t).thm = s.thm := rfl
@[simp] theorem State.setGth_pages {n : Nat} {t : Gath} : (s.setGth n t).pages = s.pages := rfl
@[simp] theorem State.setGth_coreQueue {n : Nat} {t : Gath} : (s.setGth n t).coreQueue = s.coreQueue := rfl
@[simp] theorem State.setGth_safe {n : Nat} {t : Gath} : (s.setGth n t).safe = s.safe := rfl
@[simp] theorem State.setGth_raised {n : Nat} {t : Gath} : (s.setGth n t).raised = s.raised := rfl
@[simp] theorem State.setGth_cal {n : Nat} {t : Gath} : (s.setGth n t).cal = s.cal := rfl
@[simp] theorem State.setGth_tx {n : Nat} {t : Gath} : (s.setGth n t).tx = s.tx := rfl
@[simp] theorem State.setGth_rx {n : Nat} {t : Gath} : (s.setGth n t).rx = s.rx := rfl
@[simp] theorem State.setGth_sub {n : Nat} {t : Gath} : (s.setGth n t).sub = s.sub := rfl
@[simp] theorem State.setGth_fec {n : Nat} {t : Gath} : (s.setGth n t).fec = s.fec := rfl
@[simp] theorem State.setGth_frm {n : Nat} {t : Gath} : (s.setGth n t).frm = s.frm := rfl
@[simp] theorem State.setGth_osp {n : Nat} {t : Gath} : (s.setGth n t).osp = s.osp := rfl
@[simp] theorem State.setGth_pmb {n : Nat} {t : Gath} : (s.setGth n t).pmb = s.pmb := rfl
@[simp] theorem State.setGth_pg {n : Nat} {t : Gath} : (s.setGth n t).pg = s.pg := rfl
@[simp] theorem State.setGth_cry {n : Nat} {t : Gath} : (s.setGth n t).cry = s.cry := rfl
@[simp] theorem State.setGth_agree {n : Nat} {t : Gath} : (s.setGth n t).agree = s.agree := rfl
@[simp] theorem State.setGth_cryPassed {n : Nat} {t : Gath} : (s.setGth n t).cryPassed = s.cryPassed := rfl
@[simp] theorem State.setGth_cls {n : Nat} {t : Gath} : (s.setGth n t).cls = s.cls := rfl
@[simp] theorem State.setGth_ports {n : Nat} {t : Gath} : (s.setGth n t).ports = s.ports := rfl
@[simp] theorem State.setGth_pkt {n : Nat} {t : Gath} : (s.setGth n t).pkt = s.pkt := rfl
@[simp] theorem State.setGth_fbl {n : Nat} {t : Gath} : (s.setGth n t).fbl = s.fbl := rfl
@[simp] theorem State.setGth_fbr {n : Nat} {t : Gath} : (s.setGth n t).fbr = s.fbr := rfl
@[simp] theorem State.setGth_tim {n : Nat} {t : Gath} : (s.setGth n t).tim = s.tim := rfl
@[simp] theorem State.setGth_ecc {n : Nat} {t : Gath} : (s.setGth n t).ecc = s.ecc := rfl
@[simp] theorem State.setGth_hka {n : Nat} {t : Gath} : (s.setGth n t).hka = s.hka := rfl
@[simp] theorem State.setGth_nv {n : Nat} {t : Gath} : (s.setGth n t).nv = s.nv := rfl
@[simp] theorem State.setGth_sec {n : Nat} {t : Gath} : (s.setGth n t).sec = s.sec := rfl
@[simp] theorem State.setGth_cpu {n : Nat} {t : Gath} : (s.setGth n t).cpu = s.cpu := rfl
@[simp] theorem State.setGth_rpr {n : Nat} {t : Gath} : (s.setGth n t).rpr = s.rpr := rfl
@[simp] theorem State.setGth_out {n : Nat} {t : Gath} : (s.setGth n t).out = s.out := rfl
@[simp] theorem State.setGth_pending {n : Nat} {t : Gath} : (s.setGth n t).pending = s.pending := rfl
@[simp] theorem State.setGth_word {n : Nat} {t : Gath} {k : Nat} : (s.setGth n t).word k = s.word k := rfl
@[simp] theorem State.setGth_nat {n : Nat} {t : Gath} {k : Nat} : (s.setGth n t).nat k = s.nat k := rfl
@[simp] theorem State.setGth_get {n : Nat} {t : Gath} {k : Nat} {g : Fld} : (s.setGth n t).get k g = s.get k g := rfl
@[simp] theorem State.setGth_getI {n : Nat} {t : Gath} {k : Nat} {g : Fld} : (s.setGth n t).getI k g = s.getI k g := rfl
@[simp] theorem State.setGth_flag {n : Nat} {t : Gath} {k : Nat} {g : Fld} : (s.setGth n t).flag k g = s.flag k g := rfl
@[simp] theorem State.setGth_nat64 {n : Nat} {t : Gath} {k : Nat} : (s.setGth n t).nat64 k = s.nat64 k := rfl
@[simp] theorem State.setGth_blk {n : Nat} {t : Gath} {k : Nat} : (s.setGth n t).blk k = s.blk k := rfl

/-! ### setPgrp -/

@[simp] theorem State.setPgrp_regs {n : Nat} {t : PGroup} : (s.setPgrp n t).regs = s.regs := rfl
@[simp] theorem State.setPgrp_mem {n : Nat} {t : PGroup} : (s.setPgrp n t).mem = s.mem := rfl
@[simp] theorem State.setPgrp_poisoned {n : Nat} {t : PGroup} : (s.setPgrp n t).poisoned = s.poisoned := rfl
@[simp] theorem State.setPgrp_dtime {n : Nat} {t : PGroup} : (s.setPgrp n t).dtime = s.dtime := rfl
@[simp] theorem State.setPgrp_now {n : Nat} {t : PGroup} : (s.setPgrp n t).now = s.now := rfl
@[simp] theorem State.setPgrp_freeCtr {n : Nat} {t : PGroup} : (s.setPgrp n t).freeCtr = s.freeCtr := rfl
@[simp] theorem State.setPgrp_boot {n : Nat} {t : PGroup} : (s.setPgrp n t).boot = s.boot := rfl
@[simp] theorem State.setPgrp_rap {n : Nat} {t : PGroup} : (s.setPgrp n t).rap = s.rap := rfl
@[simp] theorem State.setPgrp_pwr {n : Nat} {t : PGroup} : (s.setPgrp n t).pwr = s.pwr := rfl
@[simp] theorem State.setPgrp_thm {n : Nat} {t : PGroup} : (s.setPgrp n t).thm = s.thm := rfl
@[simp] theorem State.setPgrp_pages {n : Nat} {t : PGroup} : (s.setPgrp n t).pages = s.pages := rfl
@[simp] theorem State.setPgrp_coreQueue {n : Nat} {t : PGroup} : (s.setPgrp n t).coreQueue = s.coreQueue := rfl
@[simp] theorem State.setPgrp_safe {n : Nat} {t : PGroup} : (s.setPgrp n t).safe = s.safe := rfl
@[simp] theorem State.setPgrp_raised {n : Nat} {t : PGroup} : (s.setPgrp n t).raised = s.raised := rfl
@[simp] theorem State.setPgrp_cal {n : Nat} {t : PGroup} : (s.setPgrp n t).cal = s.cal := rfl
@[simp] theorem State.setPgrp_tx {n : Nat} {t : PGroup} : (s.setPgrp n t).tx = s.tx := rfl
@[simp] theorem State.setPgrp_rx {n : Nat} {t : PGroup} : (s.setPgrp n t).rx = s.rx := rfl
@[simp] theorem State.setPgrp_sub {n : Nat} {t : PGroup} : (s.setPgrp n t).sub = s.sub := rfl
@[simp] theorem State.setPgrp_fec {n : Nat} {t : PGroup} : (s.setPgrp n t).fec = s.fec := rfl
@[simp] theorem State.setPgrp_frm {n : Nat} {t : PGroup} : (s.setPgrp n t).frm = s.frm := rfl
@[simp] theorem State.setPgrp_osp {n : Nat} {t : PGroup} : (s.setPgrp n t).osp = s.osp := rfl
@[simp] theorem State.setPgrp_pmb {n : Nat} {t : PGroup} : (s.setPgrp n t).pmb = s.pmb := rfl
@[simp] theorem State.setPgrp_gath {n : Nat} {t : PGroup} : (s.setPgrp n t).gath = s.gath := rfl
@[simp] theorem State.setPgrp_cry {n : Nat} {t : PGroup} : (s.setPgrp n t).cry = s.cry := rfl
@[simp] theorem State.setPgrp_agree {n : Nat} {t : PGroup} : (s.setPgrp n t).agree = s.agree := rfl
@[simp] theorem State.setPgrp_cryPassed {n : Nat} {t : PGroup} : (s.setPgrp n t).cryPassed = s.cryPassed := rfl
@[simp] theorem State.setPgrp_cls {n : Nat} {t : PGroup} : (s.setPgrp n t).cls = s.cls := rfl
@[simp] theorem State.setPgrp_ports {n : Nat} {t : PGroup} : (s.setPgrp n t).ports = s.ports := rfl
@[simp] theorem State.setPgrp_pkt {n : Nat} {t : PGroup} : (s.setPgrp n t).pkt = s.pkt := rfl
@[simp] theorem State.setPgrp_fbl {n : Nat} {t : PGroup} : (s.setPgrp n t).fbl = s.fbl := rfl
@[simp] theorem State.setPgrp_fbr {n : Nat} {t : PGroup} : (s.setPgrp n t).fbr = s.fbr := rfl
@[simp] theorem State.setPgrp_tim {n : Nat} {t : PGroup} : (s.setPgrp n t).tim = s.tim := rfl
@[simp] theorem State.setPgrp_ecc {n : Nat} {t : PGroup} : (s.setPgrp n t).ecc = s.ecc := rfl
@[simp] theorem State.setPgrp_hka {n : Nat} {t : PGroup} : (s.setPgrp n t).hka = s.hka := rfl
@[simp] theorem State.setPgrp_nv {n : Nat} {t : PGroup} : (s.setPgrp n t).nv = s.nv := rfl
@[simp] theorem State.setPgrp_sec {n : Nat} {t : PGroup} : (s.setPgrp n t).sec = s.sec := rfl
@[simp] theorem State.setPgrp_cpu {n : Nat} {t : PGroup} : (s.setPgrp n t).cpu = s.cpu := rfl
@[simp] theorem State.setPgrp_rpr {n : Nat} {t : PGroup} : (s.setPgrp n t).rpr = s.rpr := rfl
@[simp] theorem State.setPgrp_out {n : Nat} {t : PGroup} : (s.setPgrp n t).out = s.out := rfl
@[simp] theorem State.setPgrp_pending {n : Nat} {t : PGroup} : (s.setPgrp n t).pending = s.pending := rfl
@[simp] theorem State.setPgrp_word {n : Nat} {t : PGroup} {k : Nat} : (s.setPgrp n t).word k = s.word k := rfl
@[simp] theorem State.setPgrp_nat {n : Nat} {t : PGroup} {k : Nat} : (s.setPgrp n t).nat k = s.nat k := rfl
@[simp] theorem State.setPgrp_get {n : Nat} {t : PGroup} {k : Nat} {g : Fld} : (s.setPgrp n t).get k g = s.get k g := rfl
@[simp] theorem State.setPgrp_getI {n : Nat} {t : PGroup} {k : Nat} {g : Fld} : (s.setPgrp n t).getI k g = s.getI k g := rfl
@[simp] theorem State.setPgrp_flag {n : Nat} {t : PGroup} {k : Nat} {g : Fld} : (s.setPgrp n t).flag k g = s.flag k g := rfl
@[simp] theorem State.setPgrp_nat64 {n : Nat} {t : PGroup} {k : Nat} : (s.setPgrp n t).nat64 k = s.nat64 k := rfl
@[simp] theorem State.setPgrp_blk {n : Nat} {t : PGroup} {k : Nat} : (s.setPgrp n t).blk k = s.blk k := rfl

/-! ### setLink -/

@[simp] theorem State.setLink_regs {n : Nat} {t : FabLink} : (s.setLink n t).regs = s.regs := rfl
@[simp] theorem State.setLink_mem {n : Nat} {t : FabLink} : (s.setLink n t).mem = s.mem := rfl
@[simp] theorem State.setLink_poisoned {n : Nat} {t : FabLink} : (s.setLink n t).poisoned = s.poisoned := rfl
@[simp] theorem State.setLink_dtime {n : Nat} {t : FabLink} : (s.setLink n t).dtime = s.dtime := rfl
@[simp] theorem State.setLink_now {n : Nat} {t : FabLink} : (s.setLink n t).now = s.now := rfl
@[simp] theorem State.setLink_freeCtr {n : Nat} {t : FabLink} : (s.setLink n t).freeCtr = s.freeCtr := rfl
@[simp] theorem State.setLink_boot {n : Nat} {t : FabLink} : (s.setLink n t).boot = s.boot := rfl
@[simp] theorem State.setLink_rap {n : Nat} {t : FabLink} : (s.setLink n t).rap = s.rap := rfl
@[simp] theorem State.setLink_pwr {n : Nat} {t : FabLink} : (s.setLink n t).pwr = s.pwr := rfl
@[simp] theorem State.setLink_thm {n : Nat} {t : FabLink} : (s.setLink n t).thm = s.thm := rfl
@[simp] theorem State.setLink_pages {n : Nat} {t : FabLink} : (s.setLink n t).pages = s.pages := rfl
@[simp] theorem State.setLink_coreQueue {n : Nat} {t : FabLink} : (s.setLink n t).coreQueue = s.coreQueue := rfl
@[simp] theorem State.setLink_safe {n : Nat} {t : FabLink} : (s.setLink n t).safe = s.safe := rfl
@[simp] theorem State.setLink_raised {n : Nat} {t : FabLink} : (s.setLink n t).raised = s.raised := rfl
@[simp] theorem State.setLink_cal {n : Nat} {t : FabLink} : (s.setLink n t).cal = s.cal := rfl
@[simp] theorem State.setLink_tx {n : Nat} {t : FabLink} : (s.setLink n t).tx = s.tx := rfl
@[simp] theorem State.setLink_rx {n : Nat} {t : FabLink} : (s.setLink n t).rx = s.rx := rfl
@[simp] theorem State.setLink_sub {n : Nat} {t : FabLink} : (s.setLink n t).sub = s.sub := rfl
@[simp] theorem State.setLink_fec {n : Nat} {t : FabLink} : (s.setLink n t).fec = s.fec := rfl
@[simp] theorem State.setLink_frm {n : Nat} {t : FabLink} : (s.setLink n t).frm = s.frm := rfl
@[simp] theorem State.setLink_osp {n : Nat} {t : FabLink} : (s.setLink n t).osp = s.osp := rfl
@[simp] theorem State.setLink_pmb {n : Nat} {t : FabLink} : (s.setLink n t).pmb = s.pmb := rfl
@[simp] theorem State.setLink_gath {n : Nat} {t : FabLink} : (s.setLink n t).gath = s.gath := rfl
@[simp] theorem State.setLink_pg {n : Nat} {t : FabLink} : (s.setLink n t).pg = s.pg := rfl
@[simp] theorem State.setLink_cry {n : Nat} {t : FabLink} : (s.setLink n t).cry = s.cry := rfl
@[simp] theorem State.setLink_agree {n : Nat} {t : FabLink} : (s.setLink n t).agree = s.agree := rfl
@[simp] theorem State.setLink_cryPassed {n : Nat} {t : FabLink} : (s.setLink n t).cryPassed = s.cryPassed := rfl
@[simp] theorem State.setLink_cls {n : Nat} {t : FabLink} : (s.setLink n t).cls = s.cls := rfl
@[simp] theorem State.setLink_ports {n : Nat} {t : FabLink} : (s.setLink n t).ports = s.ports := rfl
@[simp] theorem State.setLink_pkt {n : Nat} {t : FabLink} : (s.setLink n t).pkt = s.pkt := rfl
@[simp] theorem State.setLink_fbr {n : Nat} {t : FabLink} : (s.setLink n t).fbr = s.fbr := rfl
@[simp] theorem State.setLink_tim {n : Nat} {t : FabLink} : (s.setLink n t).tim = s.tim := rfl
@[simp] theorem State.setLink_ecc {n : Nat} {t : FabLink} : (s.setLink n t).ecc = s.ecc := rfl
@[simp] theorem State.setLink_hka {n : Nat} {t : FabLink} : (s.setLink n t).hka = s.hka := rfl
@[simp] theorem State.setLink_nv {n : Nat} {t : FabLink} : (s.setLink n t).nv = s.nv := rfl
@[simp] theorem State.setLink_sec {n : Nat} {t : FabLink} : (s.setLink n t).sec = s.sec := rfl
@[simp] theorem State.setLink_cpu {n : Nat} {t : FabLink} : (s.setLink n t).cpu = s.cpu := rfl
@[simp] theorem State.setLink_rpr {n : Nat} {t : FabLink} : (s.setLink n t).rpr = s.rpr := rfl
@[simp] theorem State.setLink_out {n : Nat} {t : FabLink} : (s.setLink n t).out = s.out := rfl
@[simp] theorem State.setLink_pending {n : Nat} {t : FabLink} : (s.setLink n t).pending = s.pending := rfl
@[simp] theorem State.setLink_word {n : Nat} {t : FabLink} {k : Nat} : (s.setLink n t).word k = s.word k := rfl
@[simp] theorem State.setLink_nat {n : Nat} {t : FabLink} {k : Nat} : (s.setLink n t).nat k = s.nat k := rfl
@[simp] theorem State.setLink_get {n : Nat} {t : FabLink} {k : Nat} {g : Fld} : (s.setLink n t).get k g = s.get k g := rfl
@[simp] theorem State.setLink_getI {n : Nat} {t : FabLink} {k : Nat} {g : Fld} : (s.setLink n t).getI k g = s.getI k g := rfl
@[simp] theorem State.setLink_flag {n : Nat} {t : FabLink} {k : Nat} {g : Fld} : (s.setLink n t).flag k g = s.flag k g := rfl
@[simp] theorem State.setLink_nat64 {n : Nat} {t : FabLink} {k : Nat} : (s.setLink n t).nat64 k = s.nat64 k := rfl
@[simp] theorem State.setLink_blk {n : Nat} {t : FabLink} {k : Nat} : (s.setLink n t).blk k = s.blk k := rfl

/-! ### setCtx -/

@[simp] theorem State.setCtx_regs {n : Nat} {t : CryCtx} : (s.setCtx n t).regs = s.regs := rfl
@[simp] theorem State.setCtx_mem {n : Nat} {t : CryCtx} : (s.setCtx n t).mem = s.mem := rfl
@[simp] theorem State.setCtx_poisoned {n : Nat} {t : CryCtx} : (s.setCtx n t).poisoned = s.poisoned := rfl
@[simp] theorem State.setCtx_dtime {n : Nat} {t : CryCtx} : (s.setCtx n t).dtime = s.dtime := rfl
@[simp] theorem State.setCtx_now {n : Nat} {t : CryCtx} : (s.setCtx n t).now = s.now := rfl
@[simp] theorem State.setCtx_freeCtr {n : Nat} {t : CryCtx} : (s.setCtx n t).freeCtr = s.freeCtr := rfl
@[simp] theorem State.setCtx_boot {n : Nat} {t : CryCtx} : (s.setCtx n t).boot = s.boot := rfl
@[simp] theorem State.setCtx_rap {n : Nat} {t : CryCtx} : (s.setCtx n t).rap = s.rap := rfl
@[simp] theorem State.setCtx_pwr {n : Nat} {t : CryCtx} : (s.setCtx n t).pwr = s.pwr := rfl
@[simp] theorem State.setCtx_thm {n : Nat} {t : CryCtx} : (s.setCtx n t).thm = s.thm := rfl
@[simp] theorem State.setCtx_pages {n : Nat} {t : CryCtx} : (s.setCtx n t).pages = s.pages := rfl
@[simp] theorem State.setCtx_coreQueue {n : Nat} {t : CryCtx} : (s.setCtx n t).coreQueue = s.coreQueue := rfl
@[simp] theorem State.setCtx_safe {n : Nat} {t : CryCtx} : (s.setCtx n t).safe = s.safe := rfl
@[simp] theorem State.setCtx_raised {n : Nat} {t : CryCtx} : (s.setCtx n t).raised = s.raised := rfl
@[simp] theorem State.setCtx_cal {n : Nat} {t : CryCtx} : (s.setCtx n t).cal = s.cal := rfl
@[simp] theorem State.setCtx_tx {n : Nat} {t : CryCtx} : (s.setCtx n t).tx = s.tx := rfl
@[simp] theorem State.setCtx_rx {n : Nat} {t : CryCtx} : (s.setCtx n t).rx = s.rx := rfl
@[simp] theorem State.setCtx_sub {n : Nat} {t : CryCtx} : (s.setCtx n t).sub = s.sub := rfl
@[simp] theorem State.setCtx_fec {n : Nat} {t : CryCtx} : (s.setCtx n t).fec = s.fec := rfl
@[simp] theorem State.setCtx_frm {n : Nat} {t : CryCtx} : (s.setCtx n t).frm = s.frm := rfl
@[simp] theorem State.setCtx_osp {n : Nat} {t : CryCtx} : (s.setCtx n t).osp = s.osp := rfl
@[simp] theorem State.setCtx_pmb {n : Nat} {t : CryCtx} : (s.setCtx n t).pmb = s.pmb := rfl
@[simp] theorem State.setCtx_gath {n : Nat} {t : CryCtx} : (s.setCtx n t).gath = s.gath := rfl
@[simp] theorem State.setCtx_pg {n : Nat} {t : CryCtx} : (s.setCtx n t).pg = s.pg := rfl
@[simp] theorem State.setCtx_agree {n : Nat} {t : CryCtx} : (s.setCtx n t).agree = s.agree := rfl
@[simp] theorem State.setCtx_cryPassed {n : Nat} {t : CryCtx} : (s.setCtx n t).cryPassed = s.cryPassed := rfl
@[simp] theorem State.setCtx_cls {n : Nat} {t : CryCtx} : (s.setCtx n t).cls = s.cls := rfl
@[simp] theorem State.setCtx_ports {n : Nat} {t : CryCtx} : (s.setCtx n t).ports = s.ports := rfl
@[simp] theorem State.setCtx_pkt {n : Nat} {t : CryCtx} : (s.setCtx n t).pkt = s.pkt := rfl
@[simp] theorem State.setCtx_fbl {n : Nat} {t : CryCtx} : (s.setCtx n t).fbl = s.fbl := rfl
@[simp] theorem State.setCtx_fbr {n : Nat} {t : CryCtx} : (s.setCtx n t).fbr = s.fbr := rfl
@[simp] theorem State.setCtx_tim {n : Nat} {t : CryCtx} : (s.setCtx n t).tim = s.tim := rfl
@[simp] theorem State.setCtx_ecc {n : Nat} {t : CryCtx} : (s.setCtx n t).ecc = s.ecc := rfl
@[simp] theorem State.setCtx_hka {n : Nat} {t : CryCtx} : (s.setCtx n t).hka = s.hka := rfl
@[simp] theorem State.setCtx_nv {n : Nat} {t : CryCtx} : (s.setCtx n t).nv = s.nv := rfl
@[simp] theorem State.setCtx_sec {n : Nat} {t : CryCtx} : (s.setCtx n t).sec = s.sec := rfl
@[simp] theorem State.setCtx_cpu {n : Nat} {t : CryCtx} : (s.setCtx n t).cpu = s.cpu := rfl
@[simp] theorem State.setCtx_rpr {n : Nat} {t : CryCtx} : (s.setCtx n t).rpr = s.rpr := rfl
@[simp] theorem State.setCtx_out {n : Nat} {t : CryCtx} : (s.setCtx n t).out = s.out := rfl
@[simp] theorem State.setCtx_pending {n : Nat} {t : CryCtx} : (s.setCtx n t).pending = s.pending := rfl
@[simp] theorem State.setCtx_word {n : Nat} {t : CryCtx} {k : Nat} : (s.setCtx n t).word k = s.word k := rfl
@[simp] theorem State.setCtx_nat {n : Nat} {t : CryCtx} {k : Nat} : (s.setCtx n t).nat k = s.nat k := rfl
@[simp] theorem State.setCtx_get {n : Nat} {t : CryCtx} {k : Nat} {g : Fld} : (s.setCtx n t).get k g = s.get k g := rfl
@[simp] theorem State.setCtx_getI {n : Nat} {t : CryCtx} {k : Nat} {g : Fld} : (s.setCtx n t).getI k g = s.getI k g := rfl
@[simp] theorem State.setCtx_flag {n : Nat} {t : CryCtx} {k : Nat} {g : Fld} : (s.setCtx n t).flag k g = s.flag k g := rfl
@[simp] theorem State.setCtx_nat64 {n : Nat} {t : CryCtx} {k : Nat} : (s.setCtx n t).nat64 k = s.nat64 k := rfl
@[simp] theorem State.setCtx_blk {n : Nat} {t : CryCtx} {k : Nat} : (s.setCtx n t).blk k = s.blk k := rfl

/-! ### A carrier's value -/

/-- A carrier's value just written. -/
@[simp] theorem Pair.at_put_same {α : Type} {p : Pair α} {n : Nat} {v : α} : (p.put n v).at n = v := by
  unfold Pair.at Pair.put; split <;> rfl

/-- The other carrier's value. -/
theorem Pair.at_put_ne {α : Type} {p : Pair α} {n m : Nat} {v : α} (hn : n < 2) (hm : m < 2) (h : m ≠ n) :
    (p.put n v).at m = p.at m := by
  have k : n = 0 ∨ n = 1 := by omega
  have j : m = 0 ∨ m = 1 := by omega
  rcases k with rfl | rfl <;> rcases j with rfl | rfl <;> first | rfl | exact absurd rfl h

@[simp] theorem State.setTx_txs {n : Nat} {t : TxState} : (s.setTx n t).txs n = t := Pair.at_put_same
@[simp] theorem State.setCal_cals {n : Nat} {t : CalState} : (s.setCal n t).cals n = t := Pair.at_put_same
@[simp] theorem State.setRx_rxs {n : Nat} {t : RxState} : (s.setRx n t).rxs n = t := Pair.at_put_same
@[simp] theorem State.setSub_subst {n : Nat} {t : SubState} : (s.setSub n t).subst n = t := Pair.at_put_same
@[simp] theorem State.setFec_fecs {n : Nat} {t : FecState} : (s.setFec n t).fecs n = t := Pair.at_put_same
@[simp] theorem State.setFrm_frms {n : Nat} {t : FrmState} : (s.setFrm n t).frms n = t := Pair.at_put_same

end Sys2Proof.Machine
end

