-- ==== Sys2Proof/Laws/Rap.lean ====
section
/-!
SUPPORT. Each operation of Machine/Rap.lean: what it makes of a state has evolved from it (Safety).
-/

-- One declaration at a time: all at once need more threads than the check's memory limit allows.
set_option Elab.async false
namespace Sys2Proof.Machine

variable {s0 : State}

theorem Evolves.earlyDrop {s : State} (ev : Evolves s0 s) :
    Evolves s0 s.earlyDrop := by
  unfold State.earlyDrop
  extract_lets x1 x2
  exact ev.upd.count.raiseIf

theorem Evolves.arrive {s : State} {f : State → State} (ev : Evolves s0 s) (hf0 : ∀ (a : State), Evolves s0 a → Evolves s0 (f a)) :
    Evolves s0 (s.arrive f) := by
  unfold State.arrive
  split
  · exact ev
  · split
    · exact hf0 _ ev
    · extract_lets x1 x2 x3 x4
      have h5 : Evolves s0 x3 := ev.upd
      clear_value x3
      exact Evolves.ite h5.earlyDrop (hf0 _ h5.upd)

theorem Evolves.heard {s : State} {v : Via} {hello : Bool} {f : State → State} (ev : Evolves s0 s) (hf0 : ∀ (a : State), Evolves s0 a → Evolves s0 (f a)) :
    Evolves s0 (s.heard v hello f) := by
  unfold State.heard
  exact Evolves.ite ev (ev.arrive (fun _ h1 => by exact Evolves.ite h1.count (hf0 _ h1)))

theorem Evolves.authFail {s : State} (ev : Evolves s0 s) :
    Evolves s0 s.authFail := by
  unfold State.authFail
  exact ev.count.raise

theorem Evolves.rxFrame {s : State} (ev : Evolves s0 s) :
    Evolves s0 s.rxFrame := by
  unfold State.rxFrame
  exact ev.count64

theorem Evolves.replayDrop {s : State} (ev : Evolves s0 s) :
    Evolves s0 s.replayDrop := by
  unfold State.replayDrop
  exact ev.count.raise

theorem Evolves.accept {s : State} {z0 : ReqHdr} {f : State → State} (ev : Evolves s0 s) (hf0 : ∀ (a : State), Evolves s0 a → Evolves s0 (f a)) :
    Evolves s0 (s.accept z0 f) := by
  unfold State.accept
  exact ev.heard (fun _ h1 => by
    extract_lets x2
    split
    · exact h1.count
    · split
      · exact h1.replayDrop
      · exact hf0 _ h1.setSession.heardFrom.rxFrame)

theorem Evolves.noteReq {s : State} {z0 : ReqHdr} {op : Nat} (ev : Evolves s0 s) :
    Evolves s0 (s.noteReq z0 op) := by
  unfold State.noteReq
  extract_lets x1
  exact ev.setSession

theorem Evolves.gddrRefuse {s : State} {src : Src} {a : Nat} {r : Rej} (ev : Evolves s0 s) :
    Evolves s0 (s.gddrRefuse src a r) := by
  unfold State.gddrRefuse
  exact ev.refuse

theorem Evolves.gddrBulkRead {s : State} {src : Src} {a : Nat} {n : Nat} (ev : Evolves s0 s) :
    Evolves s0 (s.gddrBulkRead src a n).snd := by
  unfold State.gddrBulkRead
  extract_lets x1 x2
  have h3 : Evolves s0 x1 := ev.unlink
  clear_value x1
  have h4 : Evolves s0 x2.snd.snd := by
    unfold x2
    refine Evolves.gddrRead ?_
    exact h3
  clear_value x2
  exact Evolves.iteF Prod.snd h3 (Evolves.iteF Prod.snd h3.gddrRefuse h4)

theorem Evolves.gddrBulkWrite {s : State} {src : Src} {toTag : Nat × Nat} {a : Nat} {ws : List Nat} (ev : Evolves s0 s) :
    Evolves s0 (s.gddrBulkWrite src toTag a ws).snd := by
  unfold State.gddrBulkWrite
  extract_lets x1 x2
  have h3 : Evolves s0 x1 := ev.unlink
  clear_value x1
  split
  · exact h3
  · split
    · exact h3
    · split
      · exact h3.gddrRefuse
      · split
        · split
          · rename_i y4 y5 y6 y7
            have h8 : Evolves s0 y6 := (congrArg (fun z => Evolves s0 z.2) y7).mp h3.tableRun
            extract_lets x9
            have h10 : Evolves s0 x9 := Evolves.ite h8.gddrRefuse h8
            clear_value x9
            exact Evolves.iteF Prod.snd h10 h10

theorem Evolves.fillEnd {s : State} {f : FillJob} {st : Nat} {done : Nat} (ev : Evolves s0 s) :
    Evolves s0 (s.fillEnd f st done) := by
  unfold State.fillEnd
  exact ev.upd.endLeave.answer

theorem Evolves.fillTable {src : Src} {g : WinSeg} {pat : List Nat} {n e : Nat} {s : State} (ev : Evolves s0 s) :
    Evolves s0 (State.fillTable src g pat n e s).snd.snd := by
  induction n generalizing s e with
  | zero => exact ev
  | succ n ih =>
    unfold State.fillTable
    extract_lets ws r
    have h : Evolves s0 r.st := ev.commitEntry.end_
    clear_value r
    split
    · exact h
    · exact ih h

theorem Evolves.fillDone {s : State} {f : FillJob} {written : Nat} (ev : Evolves s0 s) :
    Evolves s0 (s.fillDone f written) := by
  unfold State.fillDone
  extract_lets src pat o fit n st
  split
  · split
    · split
      rename_i a b t e
      exact Evolves.fillEnd ((congrArg (fun z => Evolves s0 z.2.2) e).mp ev.fillTable)
    · exact ev.fillEnd
  · split
    rename_i a t e
    have h : Evolves s0 t := (congrArg (fun z => Evolves s0 z.2) e).mp ev.tableRun
    exact Evolves.ite (Evolves.upd h) h.fillEnd

theorem Evolves.execFillComplete {written : Nat} {s : State} (ev : Evolves s0 s) :
    Keeps s0 (execFillComplete written s) := by
  unfold Sys2Proof.Machine.execFillComplete
  exact ev.act (fun _ h1 => by
    split
    · exact Evolves.ite h1.fillDone h1
    · exact h1)

theorem Evolves.fillAsk {s : State} {src : Src} {toTag : Nat × Nat} {a : Nat} {n : Nat} {pat : List Word} (ev : Evolves s0 s) :
    Evolves s0 (s.fillAsk src toTag a n pat).snd := by
  unfold State.fillAsk
  extract_lets x1 x2 x3 x4
  have h5 : Evolves s0 x1 := ev.unlink
  clear_value x1
  split
  · exact h5
  · split
    · exact h5
    · split
      · exact h5
      · split
        · exact h5.gddrRefuse
        · split
          · exact h5
          · split
            · exact h5
            · split
              · rename_i y6 y7 y8
                have h9 : Evolves s0 y7 := (congrArg (fun z => Evolves s0 z.2) y8).mp h5.requestLeave
                exact h9.refuse
              · rename_i y10 y11 y12 y13 y14
                have h15 : Evolves s0 y12 := (congrArg (fun z => Evolves s0 z.2) y14).mp h5.requestLeave
                exact h15.upd.deferred

theorem Evolves.bulkWrite {src : Src} {toTag : Option (Nat × Nat)} {v : List Nat} {a k : Nat} {s : State}
    (ev : Evolves s0 s) : Evolves s0 (State.bulkWrite src toTag v a k s).snd.snd.snd := by
  induction v generalizing s a k with
  | nil => exact ev
  | cons v r ih =>
    unfold State.bulkWrite
    extract_lets x
    have h : Evolves s0 x.st := ev.writeAt
    clear_value x
    split
    · exact h
    · split
      · exact h
      · exact ih h

theorem Evolves.bulkGo {s : State} {slot : Nat} {h : ReqHdr} {a : Nat} {ws : List Nat} {k : Nat} (ev : Evolves s0 s) :
    Evolves s0 (s.bulkGo slot h a ws k).2 := by
  unfold State.bulkGo
  extract_lets r
  have h1 : Evolves s0 r.2.2.2 := ev.bulkWrite
  clear_value r
  split
  · exact h1
  · exact h1.upd

theorem Evolves.bulkRead {src : Src} {n a : Nat} {l : List Word} {s : State} (ev : Evolves s0 s) :
    Evolves s0 (State.bulkRead src n a l s).snd.snd := by
  induction n generalizing s a l with
  | zero => exact ev
  | succ n ih =>
    unfold State.bulkRead
    extract_lets x
    have h : Evolves s0 x.st := ev.readAt
    clear_value x
    split
    · exact h
    · exact ih h

theorem Evolves.imagePush {s : State} {o : Nat} {bytes : List Byte} (ev : Evolves s0 s) :
    Evolves s0 (s.imagePush o bytes).snd := by
  unfold State.imagePush
  split
  · exact ev.raise
  · extract_lets x1 x2 x3 x4
    have h5 : Evolves s0 x4 := ev.upd
    clear_value x4
    exact h5.set.set

theorem Evolves.imageCommit {s : State} (ev : Evolves s0 s) :
    Evolves s0 s.imageCommit := by
  unfold State.imageCommit
  exact ev.upd.raise

theorem Evolves.perform {s : State} {slot : Nat} {z0 : ReqHdr} {q : Req} (ev : Evolves s0 s) :
    Evolves s0 (s.perform slot z0 q).snd := by
  unfold State.perform
  extract_lets x1 x2 x3 x4
  have h5 : ∀ (x : Acc) (w : Bool), Evolves s0 x.st → Evolves s0 (x3 x w).snd := fun _ _ h6 => by exact Evolves.ite h6.deferred h6
  split
  · exact ev
  · exact ev
  · exact h5 _ _ ev.readAt
  · exact h5 _ _ ev.writeAt
  · exact h5 _ _ ev.modifyAt
  · split
    · extract_lets x7
      have h8 : Evolves s0 x7.snd := ev.gddrBulkWrite
      clear_value x7
      exact Evolves.iteF Prod.snd h8.deferred h8
    · split
      · exact ev.unlink
      · split
        · exact ev.unlink
        · extract_lets x9
          have h10 : Evolves s0 x9.snd := ev.bulkGo
          clear_value x9
          exact Evolves.ite h10.deferred h10
  · split
    · extract_lets x11
      have h12 : Evolves s0 x11.snd := ev.gddrBulkRead
      clear_value x11
      exact h12
    · extract_lets x13
      have h14 : Evolves s0 x13.snd.snd := by
        unfold x13
        split
        · refine Evolves.bulkRead ?_
          exact ev
        · exact ev.unlink
      clear_value x13
      exact h14
  · exact ev.fillAsk
  · split
    · exact ev
    · extract_lets x15
      have h16 : Evolves s0 x15.snd := ev.imagePush
      clear_value x15
      exact h16
  · exact Evolves.iteF Prod.snd ev ev.imageCommit
  · exact ev.setSession
  · exact Evolves.iteF Prod.snd ev (Evolves.iteF Prod.snd ev (Evolves.ite ev.ackSource ev))

theorem Evolves.runReq {s : State} {slot : Nat} {z0 : ReqHdr} {q : Req} (ev : Evolves s0 s) :
    Evolves s0 (s.runReq slot z0 q) := by
  unfold State.runReq
  split
  · rename_i y1 y2 y3 y4
    have h5 : Evolves s0 y3 := (congrArg (fun z => Evolves s0 z.2) y4).mp ev.perform
    extract_lets x6
    have h7 : Evolves s0 x6 := h5.respond
    clear_value x6
    split
    · exact h7.closeSession
    · exact h7
  · rename_i y8 y9 y10
    have h11 : Evolves s0 y9 := (congrArg (fun z => Evolves s0 z.2) y10).mp ev.perform
    split
    · exact h11
    · exact h11.upd

theorem Evolves.restGo {s : State} {b : BulkRest} (ev : Evolves s0 s) :
    Evolves s0 (s.restGo b) := by
  unfold State.restGo
  extract_lets x1 x2
  have h3 : Evolves s0 x2 := ev.upd.unblock
  clear_value x2
  split
  · rename_i y4 y5 y6 y7
    have h8 : Evolves s0 y6 := (congrArg (fun z => Evolves s0 z.2) y7).mp h3.bulkGo
    exact h8.setOutstanding.respond
  · rename_i y9 y10 y11
    have h12 : Evolves s0 y10 := (congrArg (fun z => Evolves s0 z.2) y11).mp h3.bulkGo
    exact h12.upd

theorem Evolves.drainN {n : Nat} {s : State} (ev : Evolves s0 s) : Evolves s0 (State.drainN n s) := by
  induction n generalizing s with
  | zero => exact ev
  | succ n ih =>
    unfold State.drainN
    repeat' split
    · exact ih ev.restGo
    · exact ev
    · exact ih (Evolves.runReq (Evolves.setOutstanding ev.upd))
    · exact ih (Evolves.respond ev.upd)

theorem Evolves.drainHeld {s : State} (ev : Evolves s0 s) :
    Evolves s0 s.drainHeld := by
  unfold State.drainHeld
  exact ev.drainN

theorem Evolves.reply {s : State} {z0 : ReqHdr} {r : Resp} (ev : Evolves s0 s) :
    Evolves s0 (s.reply z0 r) := by
  unfold State.reply
  exact Evolves.ite ev.upd ev.respond

theorem Evolves.asked {s : State} {z0 : ReqHdr} {op : Nat} {f : State → State} (ev : Evolves s0 s) (hf0 : ∀ (a : State), Evolves s0 a → Evolves s0 (f a)) :
    Evolves s0 (s.asked z0 op f) := by
  unfold State.asked
  exact ev.accept (fun _ h1 => by
    extract_lets x2
    have h3 : Evolves s0 x2 := h1.noteReq
    clear_value x2
    split
    · exact h3.reply
    · exact hf0 _ h3)

theorem Evolves.request {s : State} {z0 : ReqHdr} {q : Req} (ev : Evolves s0 s) :
    Evolves s0 (s.request z0 q) := by
  unfold State.request
  exact ev.asked (fun _ h1 => by
    split
    · exact h1.nextFree.reply
    · exact Evolves.ite h1.upd.deferred h1.runReq)

theorem Evolves.execSessionClose {z0 : ReqHdr} {s : State} (ev : Evolves s0 s) :
    Keeps s0 (execSessionClose z0 s) := by
  unfold Sys2Proof.Machine.execSessionClose
  exact ev.act (fun _ h1 => h1.request)

theorem Evolves.execNop {z0 : ReqHdr} {s : State} (ev : Evolves s0 s) :
    Keeps s0 (execNop z0 s) := by
  unfold Sys2Proof.Machine.execNop
  exact ev.act (fun _ h1 => h1.request)

theorem Evolves.execRead {z0 : ReqHdr} {addr : BitVec 32} {s : State} (ev : Evolves s0 s) :
    Keeps s0 (execRead z0 addr s) := by
  unfold Sys2Proof.Machine.execRead
  exact ev.act (fun _ h1 => h1.request)

theorem Evolves.execWrite {z0 : ReqHdr} {addr : BitVec 32} {value : BitVec 32} {s : State} (ev : Evolves s0 s) :
    Keeps s0 (execWrite z0 addr value s) := by
  unfold Sys2Proof.Machine.execWrite
  exact ev.act (fun _ h1 => h1.request)

theorem Evolves.execModify {z0 : ReqHdr} {addr : BitVec 32} {mask : BitVec 32} {value : BitVec 32} {s : State} (ev : Evolves s0 s) :
    Keeps s0 (execModify z0 addr mask value s) := by
  unfold Sys2Proof.Machine.execModify
  exact ev.act (fun _ h1 => h1.request)

theorem Evolves.execBulkWrite {z0 : ReqHdr} {addr : BitVec 32} {count : Nat} {words : List Word} {s : State} (ev : Evolves s0 s) :
    Keeps s0 (execBulkWrite z0 addr count words s) := by
  unfold Sys2Proof.Machine.execBulkWrite
  exact ev.act (fun _ h1 => h1.request)

theorem Evolves.execBulkRead {z0 : ReqHdr} {addr : BitVec 32} {count : Nat} {s : State} (ev : Evolves s0 s) :
    Keeps s0 (execBulkRead z0 addr count s) := by
  unfold Sys2Proof.Machine.execBulkRead
  exact ev.act (fun _ h1 => h1.request)

theorem Evolves.execFill {z0 : ReqHdr} {addr : BitVec 32} {count : Nat} {pattern : List Word} {s : State} (ev : Evolves s0 s) :
    Keeps s0 (execFill z0 addr count pattern s) := by
  unfold Sys2Proof.Machine.execFill
  exact ev.act (fun _ h1 => h1.request)

theorem Evolves.execImagePush {z0 : ReqHdr} {offset : BitVec 32} {bytes : List Byte} {s : State} (ev : Evolves s0 s) :
    Keeps s0 (execImagePush z0 offset bytes s) := by
  unfold Sys2Proof.Machine.execImagePush
  exact ev.act (fun _ h1 => h1.request)

theorem Evolves.execImageCommit {z0 : ReqHdr} {length : BitVec 32} {s : State} (ev : Evolves s0 s) :
    Keeps s0 (execImageCommit z0 length s) := by
  unfold Sys2Proof.Machine.execImageCommit
  exact ev.act (fun _ h1 => h1.request)

theorem Evolves.execEvtSubscribe {z0 : ReqHdr} {pages : BitVec 128} {classes : BitVec 4} {s : State} (ev : Evolves s0 s) :
    Keeps s0 (execEvtSubscribe z0 pages classes s) := by
  unfold Sys2Proof.Machine.execEvtSubscribe
  exact ev.act (fun _ h1 => h1.request)

theorem Evolves.execEvtAck {z0 : ReqHdr} {page : BitVec 8} {index : BitVec 8} {s : State} (ev : Evolves s0 s) :
    Keeps s0 (execEvtAck z0 page index s) := by
  unfold Sys2Proof.Machine.execEvtAck
  exact ev.act (fun _ h1 => h1.request)

theorem Evolves.setupFrame {s : State} {v : Via} {tag : Nat} {opcode : Nat} {status : Nat} {body : List Nat} {retry : optParam Nat 0} (ev : Evolves s0 s) :
    Evolves s0 (s.setupFrame v tag opcode status body retry) := by
  unfold State.setupFrame
  extract_lets x1
  exact ev.emit.count64

theorem Evolves.execHello {via : Via} {tag : BitVec 16} {min : BitVec 8} {max : BitVec 8} {s : State} (ev : Evolves s0 s) :
    Keeps s0 (execHello via tag min max s) := by
  unfold Sys2Proof.Machine.execHello
  exact ev.act (fun _ h1 => h1.heard (fun _ h2 => by
    extract_lets x3 x4
    have h5 : Evolves s0 x3 := h2.rxFrame
    clear_value x3
    split
    · exact h5.setupFrame
    · split
      · exact h5.setupFrame.raise
      · exact h5.upd.setupFrame))

theorem Evolves.execSessionInit {via : Via} {tag : BitVec 16} {identity : BitVec 128} {key : BitVec 512} {authority : Option (Fin 8)} {sigOk : Bool} {s : State} (ev : Evolves s0 s) :
    Keeps s0 (execSessionInit via tag identity key authority sigOk s) := by
  unfold Sys2Proof.Machine.execSessionInit
  exact ev.act (fun _ h1 => h1.heard (fun _ h2 => by
    extract_lets x3 x4 x5 x6 x7 x8 x9 x10 x11
    have h12 : Evolves s0 x5 := h2.rxFrame
    clear_value x5
    have h13 : Evolves s0 x7 := h12.nextFree
    clear_value x7
    have h14 : Evolves s0 x9 := h13.nextFree
    clear_value x9
    split
    · exact h2.authFail
    · split
      · exact h12.setupFrame
      · split
        · exact h12.setupFrame
        · split
          · exact h12.nextFree.setupFrame
          · split
            · exact h12.setupFrame
            · exact h14.nextFree.setSession.setupFrame))

theorem Evolves.execSessionConfirm {via : Via} {tag : BitVec 16} {slot : Fin 8} {good : Bool} {s : State} (ev : Evolves s0 s) :
    Keeps s0 (execSessionConfirm via tag slot good s) := by
  unfold Sys2Proof.Machine.execSessionConfirm
  exact ev.act (fun _ h1 => by exact h1.heard (fun _ h2 => by
    extract_lets x3 x4 x5 x6
    have h7 : Evolves s0 x4 := h2.rxFrame
    clear_value x4
    exact Evolves.ite h2.count (Evolves.ite h2.setSession.authFail (Evolves.ite h7.setupFrame (Evolves.ite h7.nextFree.setupFrame h7.setSession.showSessions.setupFrame.raise)))))

theorem Evolves.execSessionIdleTimeout {slot : Fin 8} {idle : Nat} {s : State} (ev : Evolves s0 s) :
    Keeps s0 (execSessionIdleTimeout slot idle s) := by
  unfold Sys2Proof.Machine.execSessionIdleTimeout
  exact ev.act (fun _ h1 => by
    extract_lets x2 x3
    exact Evolves.ite h1 h1.closeSession)

theorem Evolves.execResponseRetentionExpiry {slot : Fin 8} {tag : BitVec 16} {s : State} (ev : Evolves s0 s) :
    Keeps s0 (execResponseRetentionExpiry slot tag s) := by
  unfold Sys2Proof.Machine.execResponseRetentionExpiry
  exact ev.act (fun _ h1 => by
    extract_lets x2
    exact h1.setSession)

theorem Evolves.execRapInvalidFrame {via : Via} {why : BadFrame} {s : State} (ev : Evolves s0 s) :
    Keeps s0 (execRapInvalidFrame via why s) := by
  unfold Sys2Proof.Machine.execRapInvalidFrame
  exact ev.act (fun _ h1 => by
    split
    · exact Evolves.ite h1 h1.earlyDrop
    · exact h1.heard (fun _ h2 => h2.authFail)
    · exact h1.heard (fun _ h3 => h3.count)
    · exact h1.heard (fun _ h4 => h4.count)
    · exact h1.heard (fun _ h5 => h5.count)
    · exact h1.heard (fun _ h6 => by exact Evolves.ite h6.replayDrop h6.count)
    · exact h1.asked (fun _ h7 => h7.reply)
    · exact h1.asked (fun _ h8 => h8.reply))

theorem Evolves.execNeighborSolicitation {addr : BitVec 128} {s : State} (ev : Evolves s0 s) :
    Keeps s0 (execNeighborSolicitation addr s) := by
  unfold Sys2Proof.Machine.execNeighborSolicitation
  exact ev.act (fun _ h1 => by exact Evolves.ite h1.send h1)

theorem Evolves.execIcmpv6Echo {addr : BitVec 128} {s : State} (ev : Evolves s0 s) :
    Keeps s0 (execIcmpv6Echo addr s) := by
  unfold Sys2Proof.Machine.execIcmpv6Echo
  exact ev.act (fun _ h1 => by exact Evolves.ite h1.send h1)

theorem Evolves.execMgtLinkDown {s : State} (ev : Evolves s0 s) :
    Keeps s0 (execMgtLinkDown s) := by
  unfold Sys2Proof.Machine.execMgtLinkDown
  exact ev.act (fun _ h1 => by exact Evolves.ite h1 h1.upd.raiseIf)

theorem Evolves.execMgtLinkUp {s : State} (ev : Evolves s0 s) :
    Keeps s0 (execMgtLinkUp s) := by
  unfold Sys2Proof.Machine.execMgtLinkUp
  exact ev.act (fun _ h1 => by exact Evolves.ite h1 h1.upd.raise)

end Sys2Proof.Machine
end

