-- ==== Sys2Proof/Laws/Waits.lean ====
section
/-!
SUPPORT. Each operation of Machine/Waits.lean: what it makes of a state has evolved from it (Safety).
-/

-- One declaration at a time: all at once need more threads than the check's memory limit allows.
set_option Elab.async false
namespace Sys2Proof.Machine

variable {s0 : State}

theorem Evolves.goOn {s : State} (ev : Evolves s0 s) :
    Evolves s0 s.goOn := by
  unfold State.goOn
  exact Evolves.ite ev.drainHeld ev

theorem Evolves.execNvCommitDone {readBack : Bool} {wear : Fin 101} {s : State} (ev : Evolves s0 s) :
    Keeps s0 (execNvCommitDone readBack wear s) := by
  unfold Sys2Proof.Machine.execNvCommitDone
  exact Keeps.ite (Keeps.next ev) ev.nvCommitEnds.goOn.done

theorem Evolves.execLeaveGrantQueued {s : State} (ev : Evolves s0 s) :
    Keeps s0 (execLeaveGrantQueued s) := by
  unfold Sys2Proof.Machine.execLeaveGrantQueued
  exact ev.act (fun _ h1 => h1.leaveAgain.goOn)

theorem Evolves.waitEnded {s : State} {who : Option (Nat × Nat × Nat)} (ev : Evolves s0 s) :
    Evolves s0 (s.waitEnded who) := by
  unfold State.waitEnded
  split
  · exact ev
  · split
    · exact ev
    · split
      · exact Evolves.ite ev.fillEnd ev.unblock.answer
      · exact ev.unblock.answer

theorem Evolves.waitsDone {s : State} {c : Nat} (ev : Evolves s0 s) :
    Evolves s0 (s.waitsDone c) := by
  unfold State.waitsDone
  exact ev.each (fun _ _ h1 => by
    extract_lets x2 x3 x4
    have h5 : Evolves s0 x3 := h1.upd
    clear_value x3
    have h6 : Evolves s0 x4 := Evolves.ite h5 h5.commitWrite
    clear_value x4
    exact h6.waitEnded)

theorem Evolves.execMemTempRead {c : Fin 16} {temp : BitVec 8} {s : State} (ev : Evolves s0 s) :
    Keeps s0 (execMemTempRead c temp s) := by
  unfold Sys2Proof.Machine.execMemTempRead
  exact ev.act (fun _ h1 => by
    split
    · exact h1
    · extract_lets x2 x3 x4 x5 x6 x7
      have h8 : Evolves s0 x5 := h1.set.set
      clear_value x5
      have h9 : Evolves s0 x6 := h8.raiseIf
      clear_value x6
      have h10 : Evolves s0 x7 := h9.raiseIf
      clear_value x7
      exact Evolves.ite h10.waitsDone.goOn h10)

end Sys2Proof.Machine
end

