-- ==== Sys2Proof/Laws/HostRows.lean ====
section
/-!
SUPPORT. Each operation of Machine/HostRows.lean: what it makes of a state has evolved from it (Safety).
-/

-- One declaration at a time: all at once need more threads than the check's memory limit allows.
set_option Elab.async false
namespace Sys2Proof.Machine

variable {s0 : State}

theorem Evolves.hostWrite {src : Src} {a : Nat} {v : Nat} {s : State} (ev : Evolves s0 s) :
    Keeps s0 (hostWrite src a v s) := by
  unfold Sys2Proof.Machine.hostWrite
  exact ev.act (fun _ h1 => by
    split
    · exact h1.request
    · exact Evolves.ite h1.writeAt h1)

theorem Evolves.hostField {src : Src} {base : Nat} {f : Fld} {x : Nat} {s : State} (ev : Evolves s0 s) :
    Keeps s0 (hostField src base f x s) := by
  unfold Sys2Proof.Machine.hostField
  exact ev.hostWrite

theorem Evolves.coreWrites {s : State} {src : Src} {ws : List Nat} {a : Nat} (ev : Evolves s0 s) :
    Evolves s0 (s.coreWrites src ws a) := by
  induction ws generalizing s a with
  | nil => exact ev
  | cons w r ih =>
    unfold State.coreWrites
    exact Evolves.ite ev.writeAt (ih ev.writeAt)

theorem Evolves.hostEntry {src : Src} {a : Nat} {ws : List Word} {s : State} (ev : Evolves s0 s) :
    Keeps s0 (hostEntry src a ws s) := by
  unfold Sys2Proof.Machine.hostEntry
  exact ev.act (fun _ h1 => by
    split
    · exact h1.request
    · exact Evolves.ite h1.coreWrites h1)

theorem Evolves.hostWords {src : Src} {a : Nat} {l : List Nat} {s : State} (ev : Evolves s0 s) :
    Keeps s0 (hostWords src a l s) := by
  unfold Sys2Proof.Machine.hostWords
  exact ev.hostEntry

theorem Evolves.execWarmReset {key : BitVec 16} {src : Src} {s : State} (ev : Evolves s0 s) :
    Keeps s0 (execWarmReset key src s) := by
  unfold Sys2Proof.Machine.execWarmReset
  exact ev.hostWrite

theorem Evolves.execCarrierUp {n : Fin 2} {src : Src} {s : State} (ev : Evolves s0 s) :
    Keeps s0 (execCarrierUp n src s) := by
  unfold Sys2Proof.Machine.execCarrierUp
  exact ev.hostField

theorem Evolves.execCarrierDown {n : Fin 2} {src : Src} {s : State} (ev : Evolves s0 s) :
    Keeps s0 (execCarrierDown n src s) := by
  unfold Sys2Proof.Machine.execCarrierDown
  exact ev.hostField

theorem Evolves.execFabricOpen {src : Src} {s : State} (ev : Evolves s0 s) :
    Keeps s0 (execFabricOpen src s) := by
  unfold Sys2Proof.Machine.execFabricOpen
  exact ev.hostField

theorem Evolves.execBlockEnable {page : Fin 128} {src : Src} {s : State} (ev : Evolves s0 s) :
    Keeps s0 (execBlockEnable page src s) := by
  unfold Sys2Proof.Machine.execBlockEnable
  exact ev.hostField

theorem Evolves.execBlockDisable {page : Fin 128} {src : Src} {s : State} (ev : Evolves s0 s) :
    Keeps s0 (execBlockDisable page src s) := by
  unfold Sys2Proof.Machine.execBlockDisable
  exact ev.hostField

theorem Evolves.execBlockSoftReset {page : Fin 128} {src : Src} {s : State} (ev : Evolves s0 s) :
    Keeps s0 (execBlockSoftReset page src s) := by
  unfold Sys2Proof.Machine.execBlockSoftReset
  exact ev.hostField

theorem Evolves.execStateReqActive {page : Fin 128} {src : Src} {s : State} (ev : Evolves s0 s) :
    Keeps s0 (execStateReqActive page src s) := by
  unfold Sys2Proof.Machine.execStateReqActive
  exact ev.hostField

theorem Evolves.execStateReqDrain {page : Fin 128} {src : Src} {s : State} (ev : Evolves s0 s) :
    Keeps s0 (execStateReqDrain page src s) := by
  unfold Sys2Proof.Machine.execStateReqDrain
  exact ev.hostField

theorem Evolves.execStateReqConfig {page : Fin 128} {src : Src} {s : State} (ev : Evolves s0 s) :
    Keeps s0 (execStateReqConfig page src s) := by
  unfold Sys2Proof.Machine.execStateReqConfig
  exact ev.hostField

theorem Evolves.execRegisterWrite {addr : BitVec 32} {value : BitVec 32} {src : Src} {s : State} (ev : Evolves s0 s) :
    Keeps s0 (execRegisterWrite addr value src s) := by
  unfold Sys2Proof.Machine.execRegisterWrite
  exact ev.hostWrite

theorem Evolves.execEncapModeWrite {ipv6 : Bool} {src : Src} {s : State} (ev : Evolves s0 s) :
    Keeps s0 (execEncapModeWrite ipv6 src s) := by
  unfold Sys2Proof.Machine.execEncapModeWrite
  exact ev.hostField

theorem Evolves.execCalFull {n : Fin 2} {src : Src} {s : State} (ev : Evolves s0 s) :
    Keeps s0 (execCalFull n src s) := by
  unfold Sys2Proof.Machine.execCalFull
  exact ev.hostField

theorem Evolves.execCalSwap {n : Fin 2} {conv : Fin 8} {pos : Fin 64} {src : Src} {s : State} (ev : Evolves s0 s) :
    Keeps s0 (execCalSwap n conv pos src s) := by
  unfold Sys2Proof.Machine.execCalSwap
  exact ev.hostWrite

theorem Evolves.execCalAbortSpare {n : Fin 2} {src : Src} {s : State} (ev : Evolves s0 s) :
    Keeps s0 (execCalAbortSpare n src s) := by
  unfold Sys2Proof.Machine.execCalAbortSpare
  exact ev.hostField

theorem Evolves.execCalTargetWrite {n : Fin 2} {entry : Fin 544} {target : BitVec 32} {src : Src} {s : State} (ev : Evolves s0 s) :
    Keeps s0 (execCalTargetWrite n entry target src s) := by
  unfold Sys2Proof.Machine.execCalTargetWrite
  exact ev.hostWrite

theorem Evolves.execAcqRestart {n : Fin 2} {subc : Option (Fin 16)} {src : Src} {s : State} (ev : Evolves s0 s) :
    Keeps s0 (execAcqRestart n subc src s) := by
  unfold Sys2Proof.Machine.execAcqRestart
  exact ev.hostWrite

theorem Evolves.execRxdSnap {n : Fin 2} {subc : Fin 16} {src : Src} {s : State} (ev : Evolves s0 s) :
    Keeps s0 (execRxdSnap n subc src s) := by
  unfold Sys2Proof.Machine.execRxdSnap
  exact ev.hostWrite

theorem Evolves.execCdMemClear {n : Fin 2} {src : Src} {s : State} (ev : Evolves s0 s) :
    Keeps s0 (execCdMemClear n src s) := by
  unfold Sys2Proof.Machine.execCdMemClear
  exact ev.hostField

theorem Evolves.execFbZero {n : Fin 2} {src : Src} {s : State} (ev : Evolves s0 s) :
    Keeps s0 (execFbZero n src s) := by
  unfold Sys2Proof.Machine.execFbZero
  exact ev.hostField

theorem Evolves.execNlcRequest {n : Fin 2} {src : Src} {s : State} (ev : Evolves s0 s) :
    Keeps s0 (execNlcRequest n src s) := by
  unfold Sys2Proof.Machine.execNlcRequest
  exact ev.hostField

theorem Evolves.execNlcStopRequest {n : Fin 2} {src : Src} {s : State} (ev : Evolves s0 s) :
    Keeps s0 (execNlcStopRequest n src s) := by
  unfold Sys2Proof.Machine.execNlcStopRequest
  exact ev.hostField

theorem Evolves.execTxMuteWrite {n : Fin 2} {mute : Bool} {src : Src} {s : State} (ev : Evolves s0 s) :
    Keeps s0 (execTxMuteWrite n mute src s) := by
  unfold Sys2Proof.Machine.execTxMuteWrite
  exact ev.hostField

theorem Evolves.execFaultEnWrite {n : Fin 2} {on : Bool} {src : Src} {s : State} (ev : Evolves s0 s) :
    Keeps s0 (execFaultEnWrite n on src s) := by
  unfold Sys2Proof.Machine.execFaultEnWrite
  exact ev.hostField

theorem Evolves.execMaskCheck {n : Fin 2} {m : Fin 2} {src : Src} {s : State} (ev : Evolves s0 s) :
    Keeps s0 (execMaskCheck n m src s) := by
  unfold Sys2Proof.Machine.execMaskCheck
  exact ev.hostField

theorem Evolves.execMaskApply {n : Fin 2} {m : Fin 2} {src : Src} {s : State} (ev : Evolves s0 s) :
    Keeps s0 (execMaskApply n m src s) := by
  unfold Sys2Proof.Machine.execMaskApply
  exact ev.hostField

theorem Evolves.execCdPreTargetWrite {n : Fin 2} {target : BitVec 16} {src : Src} {s : State} (ev : Evolves s0 s) :
    Keeps s0 (execCdPreTargetWrite n target src s) := by
  unfold Sys2Proof.Machine.execCdPreTargetWrite
  exact ev.hostField

theorem Evolves.execOcpSpiTx {n : Fin 2} {word : BitVec 32} {src : Src} {s : State} (ev : Evolves s0 s) :
    Keeps s0 (execOcpSpiTx n word src s) := by
  unfold Sys2Proof.Machine.execOcpSpiTx
  exact ev.hostWrite

theorem Evolves.execSchedCheck {n : Fin 2} {src : Src} {s : State} (ev : Evolves s0 s) :
    Keeps s0 (execSchedCheck n src s) := by
  unfold Sys2Proof.Machine.execSchedCheck
  exact ev.hostField

theorem Evolves.execSchedApply {n : Fin 2} {src : Src} {s : State} (ev : Evolves s0 s) :
    Keeps s0 (execSchedApply n src s) := by
  unfold Sys2Proof.Machine.execSchedApply
  exact ev.hostField

theorem Evolves.execLeafListedWrite {n : Fin 2} {leaf : Fin 32} {listed : Bool} {src : Src} {s : State} (ev : Evolves s0 s) :
    Keeps s0 (execLeafListedWrite n leaf listed src s) := by
  unfold Sys2Proof.Machine.execLeafListedWrite
  exact ev.hostField

theorem Evolves.execLeafDeregister {n : Fin 2} {leaf : Fin 32} {src : Src} {s : State} (ev : Evolves s0 s) :
    Keeps s0 (execLeafDeregister n leaf src s) := by
  unfold Sys2Proof.Machine.execLeafDeregister
  exact ev.hostWrite

theorem Evolves.execUpOwnerWrite {n : Fin 2} {i : Fin 16} {owner : Option (Fin 32)} {src : Src} {s : State} (ev : Evolves s0 s) :
    Keeps s0 (execUpOwnerWrite n i owner src s) := by
  unfold Sys2Proof.Machine.execUpOwnerWrite
  exact ev.hostField

theorem Evolves.execImaxWrite {n : Fin 2} {imax : BitVec 5} {src : Src} {s : State} (ev : Evolves s0 s) :
    Keeps s0 (execImaxWrite n imax src s) := by
  unfold Sys2Proof.Machine.execImaxWrite
  exact ev.hostField

theorem Evolves.execHistClear {n : Fin 2} {src : Src} {s : State} (ev : Evolves s0 s) :
    Keeps s0 (execHistClear n src s) := by
  unfold Sys2Proof.Machine.execHistClear
  exact ev.hostField

theorem Evolves.execAlignRestart {n : Fin 2} {src : Src} {s : State} (ev : Evolves s0 s) :
    Keeps s0 (execAlignRestart n src s) := by
  unfold Sys2Proof.Machine.execAlignRestart
  exact ev.hostField

theorem Evolves.execHbSnap {n : Fin 2} {src : Src} {s : State} (ev : Evolves s0 s) :
    Keeps s0 (execHbSnap n src s) := by
  unfold Sys2Proof.Machine.execHbSnap
  exact ev.hostField

theorem Evolves.execAlignOffsetWrite {offset : BitVec 64} {src : Src} {s : State} (ev : Evolves s0 s) :
    Keeps s0 (execAlignOffsetWrite offset src s) := by
  unfold Sys2Proof.Machine.execAlignOffsetWrite
  exact ev.hostWords

theorem Evolves.execGatheringCommit {g : Fin 64} {words : List Word} {src : Src} {s : State} (ev : Evolves s0 s) :
    Keeps s0 (execGatheringCommit g words src s) := by
  unfold Sys2Proof.Machine.execGatheringCommit
  exact ev.hostEntry

theorem Evolves.execGthRecollate {g : Fin 64} {src : Src} {s : State} (ev : Evolves s0 s) :
    Keeps s0 (execGthRecollate g src s) := by
  unfold Sys2Proof.Machine.execGthRecollate
  exact ev.hostWrite

theorem Evolves.execSelClear {g : Fin 64} {src : Src} {s : State} (ev : Evolves s0 s) :
    Keeps s0 (execSelClear g src s) := by
  unfold Sys2Proof.Machine.execSelClear
  exact ev.hostWrite

theorem Evolves.execSelManualA {g : Fin 64} {src : Src} {s : State} (ev : Evolves s0 s) :
    Keeps s0 (execSelManualA g src s) := by
  unfold Sys2Proof.Machine.execSelManualA
  exact ev.hostWrite

theorem Evolves.execSelManualB {g : Fin 64} {src : Src} {s : State} (ev : Evolves s0 s) :
    Keeps s0 (execSelManualB g src s) := by
  unfold Sys2Proof.Machine.execSelManualB
  exact ev.hostWrite

theorem Evolves.execSelForceA {g : Fin 64} {src : Src} {s : State} (ev : Evolves s0 s) :
    Keeps s0 (execSelForceA g src s) := by
  unfold Sys2Proof.Machine.execSelForceA
  exact ev.hostWrite

theorem Evolves.execSelForceB {g : Fin 64} {src : Src} {s : State} (ev : Evolves s0 s) :
    Keeps s0 (execSelForceB g src s) := by
  unfold Sys2Proof.Machine.execSelForceB
  exact ev.hostWrite

theorem Evolves.execPgCfgWrite {q : Fin 4} {v : BitVec 32} {src : Src} {s : State} (ev : Evolves s0 s) :
    Keeps s0 (execPgCfgWrite q v src s) := by
  unfold Sys2Proof.Machine.execPgCfgWrite
  exact ev.hostWrite

theorem Evolves.execPgClear {q : Fin 4} {src : Src} {s : State} (ev : Evolves s0 s) :
    Keeps s0 (execPgClear q src s) := by
  unfold Sys2Proof.Machine.execPgClear
  exact ev.hostWrite

theorem Evolves.execPgLockout {q : Fin 4} {src : Src} {s : State} (ev : Evolves s0 s) :
    Keeps s0 (execPgLockout q src s) := by
  unfold Sys2Proof.Machine.execPgLockout
  exact ev.hostWrite

theorem Evolves.execPgForce {q : Fin 4} {src : Src} {s : State} (ev : Evolves s0 s) :
    Keeps s0 (execPgForce q src s) := by
  unfold Sys2Proof.Machine.execPgForce
  exact ev.hostWrite

theorem Evolves.execPgManual {q : Fin 4} {src : Src} {s : State} (ev : Evolves s0 s) :
    Keeps s0 (execPgManual q src s) := by
  unfold Sys2Proof.Machine.execPgManual
  exact ev.hostWrite

theorem Evolves.execKeyEntryCommit {g : Fin 64} {words : List Word} {src : Src} {s : State} (ev : Evolves s0 s) :
    Keeps s0 (execKeyEntryCommit g words src s) := by
  unfold Sys2Proof.Machine.execKeyEntryCommit
  exact ev.hostEntry

theorem Evolves.execTxKeyLoad {g : Fin 64} {slot : Fin 512} {salt : BitVec 64} {src : Src} {s : State} (ev : Evolves s0 s) :
    Keeps s0 (execTxKeyLoad g slot salt src s) := by
  unfold Sys2Proof.Machine.execTxKeyLoad
  exact ev.hostWords

theorem Evolves.execRxKeyLoad {g : Fin 64} {slot : Fin 512} {salt : BitVec 64} {src : Src} {s : State} (ev : Evolves s0 s) :
    Keeps s0 (execRxKeyLoad g slot salt src s) := by
  unfold Sys2Proof.Machine.execRxKeyLoad
  exact ev.hostWords

theorem Evolves.execSwitchTx {g : Fin 64} {src : Src} {s : State} (ev : Evolves s0 s) :
    Keeps s0 (execSwitchTx g src s) := by
  unfold Sys2Proof.Machine.execSwitchTx
  exact ev.hostWrite

theorem Evolves.execRxResync {g : Fin 64} {src : Src} {s : State} (ev : Evolves s0 s) :
    Keeps s0 (execRxResync g src s) := by
  unfold Sys2Proof.Machine.execRxResync
  exact ev.hostWrite

theorem Evolves.execCrySelfTest {src : Src} {s : State} (ev : Evolves s0 s) :
    Keeps s0 (execCrySelfTest src s) := by
  unfold Sys2Proof.Machine.execCrySelfTest
  exact ev.hostField

theorem Evolves.execAgreeStart {g : Fin 64} {src : Src} {s : State} (ev : Evolves s0 s) :
    Keeps s0 (execAgreeStart g src s) := by
  unfold Sys2Proof.Machine.execAgreeStart
  exact ev.hostWrite

theorem Evolves.execAgreeAbort {src : Src} {s : State} (ev : Evolves s0 s) :
    Keeps s0 (execAgreeAbort src s) := by
  unfold Sys2Proof.Machine.execAgreeAbort
  exact ev.hostField

theorem Evolves.execCacheFlush {src : Src} {s : State} (ev : Evolves s0 s) :
    Keeps s0 (execCacheFlush src s) := by
  unfold Sys2Proof.Machine.execCacheFlush
  exact ev.hostField

theorem Evolves.execMeterCommit {m : Fin 266240} {words : List Word} {src : Src} {s : State} (ev : Evolves s0 s) :
    Keeps s0 (execMeterCommit m words src s) := by
  unfold Sys2Proof.Machine.execMeterCommit
  exact ev.hostEntry

theorem Evolves.execQueueEntryCommit {q : Fin 1048576} {profile : Fin 64} {en : Bool} {src : Src} {s : State} (ev : Evolves s0 s) :
    Keeps s0 (execQueueEntryCommit q profile en src s) := by
  unfold Sys2Proof.Machine.execQueueEntryCommit
  exact ev.hostWords

theorem Evolves.execShaperCommit {x : ShaperSel} {words : List Word} {src : Src} {s : State} (ev : Evolves s0 s) :
    Keeps s0 (execShaperCommit x words src s) := by
  unfold Sys2Proof.Machine.execShaperCommit
  exact ev.hostEntry

theorem Evolves.execClearDebt {x : ShaperSel} {src : Src} {s : State} (ev : Evolves s0 s) :
    Keeps s0 (execClearDebt x src s) := by
  unfold Sys2Proof.Machine.execClearDebt
  exact ev.hostWords

theorem Evolves.execFblRetrain {k : Fin 8} {src : Src} {s : State} (ev : Evolves s0 s) :
    Keeps s0 (execFblRetrain k src s) := by
  unfold Sys2Proof.Machine.execFblRetrain
  exact ev.hostField

theorem Evolves.execRouteApply {src : Src} {s : State} (ev : Evolves s0 s) :
    Keeps s0 (execRouteApply src s) := by
  unfold Sys2Proof.Machine.execRouteApply
  exact ev.hostField

theorem Evolves.execRouteEntryCommit {e : Fin 1024} {words : List Word} {src : Src} {s : State} (ev : Evolves s0 s) :
    Keeps s0 (execRouteEntryCommit e words src s) := by
  unfold Sys2Proof.Machine.execRouteEntryCommit
  exact ev.hostEntry

theorem Evolves.execDpllModeWrite {d : Fin 2} {v : BitVec 32} {src : Src} {s : State} (ev : Evolves s0 s) :
    Keeps s0 (execDpllModeWrite d v src s) := by
  unfold Sys2Proof.Machine.execDpllModeWrite
  exact ev.hostWrite

theorem Evolves.execPhaseStep {d : Fin 2} {ps : BitVec 32} {src : Src} {s : State} (ev : Evolves s0 s) :
    Keeps s0 (execPhaseStep d ps src s) := by
  unfold Sys2Proof.Machine.execPhaseStep
  exact ev.hostWrite

theorem Evolves.execSlotCfgWrite {slot : Fin 16} {v : BitVec 32} {src : Src} {s : State} (ev : Evolves s0 s) :
    Keeps s0 (execSlotCfgWrite slot v src s) := by
  unfold Sys2Proof.Machine.execSlotCfgWrite
  exact ev.hostWrite

theorem Evolves.execClkoutChange {i : Fin 4} {freq : Bool} {v : BitVec 32} {src : Src} {s : State} (ev : Evolves s0 s) :
    Keeps s0 (execClkoutChange i freq v src s) := by
  unfold Sys2Proof.Machine.execClkoutChange
  exact ev.hostWrite

theorem Evolves.execPpsoutAlign {a0 : Bool} {a1 : Bool} {src : Src} {s : State} (ev : Evolves s0 s) :
    Keeps s0 (execPpsoutAlign a0 a1 src s) := by
  unfold Sys2Proof.Machine.execPpsoutAlign
  exact ev.hostWrite

theorem Evolves.execPpsoutEnable {j : Fin 2} {v : BitVec 32} {src : Src} {s : State} (ev : Evolves s0 s) :
    Keeps s0 (execPpsoutEnable j v src s) := by
  unfold Sys2Proof.Machine.execPpsoutEnable
  exact ev.hostWrite

theorem Evolves.execRawWindowWrite {i : Fin 512} {v : BitVec 32} {src : Src} {s : State} (ev : Evolves s0 s) :
    Keeps s0 (execRawWindowWrite i v src s) := by
  unfold Sys2Proof.Machine.execRawWindowWrite
  exact ev.hostWrite

theorem Evolves.execBudgetWrite {mw : BitVec 32} {src : Src} {s : State} (ev : Evolves s0 s) :
    Keeps s0 (execBudgetWrite mw src s) := by
  unfold Sys2Proof.Machine.execBudgetWrite
  exact ev.hostWrite

theorem Evolves.execStandingBaseWrite {mw : BitVec 32} {src : Src} {s : State} (ev : Evolves s0 s) :
    Keeps s0 (execStandingBaseWrite mw src s) := by
  unfold Sys2Proof.Machine.execStandingBaseWrite
  exact ev.hostWrite

theorem Evolves.execScanStart {src : Src} {s : State} (ev : Evolves s0 s) :
    Keeps s0 (execScanStart src s) := by
  unfold Sys2Proof.Machine.execScanStart
  exact ev.hostField

theorem Evolves.execScanStop {src : Src} {s : State} (ev : Evolves s0 s) :
    Keeps s0 (execScanStop src s) := by
  unfold Sys2Proof.Machine.execScanStop
  exact ev.hostField

theorem Evolves.execHkaCal {src : Src} {s : State} (ev : Evolves s0 s) :
    Keeps s0 (execHkaCal src s) := by
  unfold Sys2Proof.Machine.execHkaCal
  exact ev.hostField

theorem Evolves.execFltAck {page : Fin 128} {index : Fin 128} {src : Src} {s : State} (ev : Evolves s0 s) :
    Keeps s0 (execFltAck page index src s) := by
  unfold Sys2Proof.Machine.execFltAck
  exact ev.hostWrite

theorem Evolves.execEvtStickyClear {page : Fin 128} {w : Fin 4} {bits : BitVec 32} {src : Src} {s : State} (ev : Evolves s0 s) :
    Keeps s0 (execEvtStickyClear page w bits src s) := by
  unfold Sys2Proof.Machine.execEvtStickyClear
  exact ev.hostWrite

theorem Evolves.execEvtClassWrite {page : Fin 128} {w : Fin 8} {value : BitVec 32} {src : Src} {s : State} (ev : Evolves s0 s) :
    Keeps s0 (execEvtClassWrite page w value src s) := by
  unfold Sys2Proof.Machine.execEvtClassWrite
  exact ev.hostWrite

theorem Evolves.execGraceMsWrite {page : Fin 128} {ms : BitVec 14} {src : Src} {s : State} (ev : Evolves s0 s) :
    Keeps s0 (execGraceMsWrite page ms src s) := by
  unfold Sys2Proof.Machine.execGraceMsWrite
  exact ev.hostField

theorem Evolves.execQuietSWrite {page : Fin 128} {seconds : BitVec 12} {src : Src} {s : State} (ev : Evolves s0 s) :
    Keeps s0 (execQuietSWrite page seconds src s) := by
  unfold Sys2Proof.Machine.execQuietSWrite
  exact ev.hostField

theorem Evolves.execForceAlarmWrite {on : Bool} {src : Src} {s : State} (ev : Evolves s0 s) :
    Keeps s0 (execForceAlarmWrite on src s) := by
  unfold Sys2Proof.Machine.execForceAlarmWrite
  exact ev.hostField

theorem Evolves.execAttestStart {src : Src} {s : State} (ev : Evolves s0 s) :
    Keeps s0 (execAttestStart src s) := by
  unfold Sys2Proof.Machine.execAttestStart
  exact ev.hostField

theorem Evolves.execAuthAdd {index : Fin 8} {src : Src} {s : State} (ev : Evolves s0 s) :
    Keeps s0 (execAuthAdd index src s) := by
  unfold Sys2Proof.Machine.execAuthAdd
  exact ev.hostWrite

theorem Evolves.execAuthRemove {index : Fin 8} {src : Src} {s : State} (ev : Evolves s0 s) :
    Keeps s0 (execAuthRemove index src s) := by
  unfold Sys2Proof.Machine.execAuthRemove
  exact ev.hostWrite

theorem Evolves.execPeerAdd {index : Fin 64} {src : Src} {s : State} (ev : Evolves s0 s) :
    Keeps s0 (execPeerAdd index src s) := by
  unfold Sys2Proof.Machine.execPeerAdd
  exact ev.hostWrite

theorem Evolves.execPeerRemove {index : Fin 64} {src : Src} {s : State} (ev : Evolves s0 s) :
    Keeps s0 (execPeerRemove index src s) := by
  unfold Sys2Proof.Machine.execPeerRemove
  exact ev.hostWrite

theorem Evolves.execKsLoadKek {ty : Bool} {src : Src} {s : State} (ev : Evolves s0 s) :
    Keeps s0 (execKsLoadKek ty src s) := by
  unfold Sys2Proof.Machine.execKsLoadKek
  exact ev.hostWrite

theorem Evolves.execKsImport {slot : Fin 512} {ty : Bool} {src : Src} {s : State} (ev : Evolves s0 s) :
    Keeps s0 (execKsImport slot ty src s) := by
  unfold Sys2Proof.Machine.execKsImport
  exact ev.hostWrite

theorem Evolves.execKsClear {slot : Fin 512} {src : Src} {s : State} (ev : Evolves s0 s) :
    Keeps s0 (execKsClear slot src s) := by
  unfold Sys2Proof.Machine.execKsClear
  exact ev.hostWrite

theorem Evolves.execGuardPolicyWrite {policy : BitVec 32} {src : Src} {s : State} (ev : Evolves s0 s) :
    Keeps s0 (execGuardPolicyWrite policy src s) := by
  unfold Sys2Proof.Machine.execGuardPolicyWrite
  exact ev.hostWrite

theorem Evolves.execGuardSelftest {src : Src} {s : State} (ev : Evolves s0 s) :
    Keeps s0 (execGuardSelftest src s) := by
  unfold Sys2Proof.Machine.execGuardSelftest
  exact ev.hostField

theorem Evolves.execDebugLockSet {src : Src} {s : State} (ev : Evolves s0 s) :
    Keeps s0 (execDebugLockSet src s) := by
  unfold Sys2Proof.Machine.execDebugLockSet
  exact ev.hostField

theorem Evolves.execDebugOpen {key : BitVec 16} {src : Src} {s : State} (ev : Evolves s0 s) :
    Keeps s0 (execDebugOpen key src s) := by
  unfold Sys2Proof.Machine.execDebugOpen
  exact ev.hostWrite

theorem Evolves.execFrChallenge {mode : Fin 4} {src : Src} {s : State} (ev : Evolves s0 s) :
    Keeps s0 (execFrChallenge mode src s) := by
  unfold Sys2Proof.Machine.execFrChallenge
  exact ev.hostWrite

theorem Evolves.execFrEnter {mode : Fin 4} {sigOk : Bool} {src : Src} {s : State} (ev : Evolves s0 s) :
    Keeps s0 (execFrEnter mode sigOk src s) := by
  unfold Sys2Proof.Machine.execFrEnter
  exact ev.act (fun _ h1 => by
    extract_lets x2 x3
    have h4 : ∀ (h : Option Bool) (t : State), Evolves s0 t → Evolves s0 (x2 h t) := fun _ _ h5 => h5.upd
    split
    · exact h4 _ _ ((h4 _ _ h1).request)
    · exact Evolves.ite (h4 _ _ ((h4 _ _ h1).writeAt)) h1)

theorem Evolves.execUserEnable {src : Src} {s : State} (ev : Evolves s0 s) :
    Keeps s0 (execUserEnable src s) := by
  unfold Sys2Proof.Machine.execUserEnable
  exact ev.hostField

theorem Evolves.execUserDisable {src : Src} {s : State} (ev : Evolves s0 s) :
    Keeps s0 (execUserDisable src s) := by
  unfold Sys2Proof.Machine.execUserDisable
  exact ev.hostField

theorem Evolves.execPmuClear {core : Fin 8} {all : Bool} {src : Src} {s : State} (ev : Evolves s0 s) :
    Keeps s0 (execPmuClear core all src s) := by
  unfold Sys2Proof.Machine.execPmuClear
  exact ev.hostWrite

theorem Evolves.execFreezeAllWrite {on : Bool} {src : Src} {s : State} (ev : Evolves s0 s) :
    Keeps s0 (execFreezeAllWrite on src s) := by
  unfold Sys2Proof.Machine.execFreezeAllWrite
  exact ev.hostField

theorem Evolves.execSweepNow {src : Src} {s : State} (ev : Evolves s0 s) :
    Keeps s0 (execSweepNow src s) := by
  unfold Sys2Proof.Machine.execSweepNow
  exact ev.hostField

theorem Evolves.execMemBist {channel : Fin 16} {src : Src} {s : State} (ev : Evolves s0 s) :
    Keeps s0 (execMemBist channel src s) := by
  unfold Sys2Proof.Machine.execMemBist
  exact ev.hostWrite

theorem Evolves.execRepairEntryClear {entry : Fin 2048} {src : Src} {s : State} (ev : Evolves s0 s) :
    Keeps s0 (execRepairEntryClear entry src s) := by
  unfold Sys2Proof.Machine.execRepairEntryClear
  exact ev.hostWrite

end Sys2Proof.Machine
end

