-- ==== Sys2Proof/Laws/Tick.lean ====
section
/-!
SUPPORT. Each operation of Machine/Tick.lean: what it makes of a state has evolved from it (Safety).
-/

-- One declaration at a time: all at once need more threads than the check's memory limit allows.
set_option Elab.async false
namespace Sys2Proof.Machine

variable {s0 : State}

theorem Evolves.idle {s : State} (ev : Evolves s0 { s with now := s.now + slowNs }) : Evolves s0 s.idle := by
  unfold State.idle
  extract_lets s1 s2 s3
  have h1 : Evolves s0 s1 := ev
  clear_value s1
  have h2 : Evolves s0 s2 := h1.dtimeTick
  clear_value s2
  have h3 : Evolves s0 s3 := Evolves.ite (Evolves.upd h2) h2
  clear_value s3
  exact Evolves.ite h1 (Evolves.ite h2 (h3.warmPins.each fun _ _ h => h.coreTick).settle)

end Sys2Proof.Machine
end

