-- ==== Sys2Proof/Laws/Words.lean ====
section
/-!
SUPPORT. The register words: what a field, a counter or a 64-bit register reads after a write to it, to another field of its
word, or to another word. The states are canonical (Safety); the updates keep them so.
-/

-- One declaration at a time: all at once need more threads than the check's memory limit allows.
set_option Elab.async false
namespace Sys2Proof.Machine

variable {s : State} {a c b v w : Nat} {f g : Fld}

/-! ### Bits -/

/-- A word as its bits below a field, the field and those above it. -/
theorem split_field (v lo w : Nat) :
    v = v % 2 ^ lo + 2 ^ lo * (2 ^ w * (v / 2 ^ lo / 2 ^ w)) + v / 2 ^ lo % 2 ^ w * 2 ^ lo := by
  have h1 := Nat.div_add_mod v (2 ^ lo)
  have h2 := Nat.div_add_mod (v / 2 ^ lo) (2 ^ w)
  have h4 : 2 ^ lo * (v / 2 ^ lo) = 2 ^ lo * (2 ^ w * (v / 2 ^ lo / 2 ^ w)) + v / 2 ^ lo % 2 ^ w * 2 ^ lo := by
    rw [Nat.mul_comm (v / 2 ^ lo % 2 ^ w) (2 ^ lo), ← Nat.mul_add, h2]
  omega

/-- The field just put. -/
theorem bitsOf_withBits_same (v lo w x : Nat) : bitsOf (withBits v lo w x) lo w = x % 2 ^ w := by
  unfold bitsOf withBits bitsOf
  simp only [Nat.shiftRight_eq_div_pow]
  have hp : 0 < 2 ^ lo := Nat.two_pow_pos lo
  have hw : 0 < 2 ^ w := Nat.two_pow_pos w
  have hle : v / 2 ^ lo % 2 ^ w * 2 ^ lo ≤ v :=
    Nat.le_trans (Nat.mul_le_mul_right _ (Nat.mod_le _ _)) (Nat.div_mul_le_self _ _)
  have e : v - v / 2 ^ lo % 2 ^ w * 2 ^ lo + x % 2 ^ w * 2 ^ lo
      = v % 2 ^ lo + 2 ^ lo * (2 ^ w * (v / 2 ^ lo / 2 ^ w) + x % 2 ^ w) := by
    have h3 := split_field v lo w
    rw [Nat.mul_add, Nat.mul_comm (x % 2 ^ w) (2 ^ lo)]
    omega
  rw [e, Nat.add_mul_div_left _ _ hp, Nat.div_eq_of_lt (Nat.mod_lt _ hp), Nat.zero_add, Nat.mul_add_mod,
    Nat.mod_mod]

/-- Bit `i` of a word after a field is put: the field's own bits change, no other. -/
theorem testBit_withBits (v lo w x i : Nat) : (withBits v lo w x).testBit i =
    if lo ≤ i ∧ i < lo + w then x.testBit (i - lo) else v.testBit i := by
  have hp : 0 < 2 ^ lo := Nat.two_pow_pos lo
  have e : withBits v lo w x = v % 2 ^ lo + 2 ^ lo * (x % 2 ^ w + 2 ^ w * (v / 2 ^ lo / 2 ^ w)) := by
    unfold withBits bitsOf
    simp only [Nat.shiftRight_eq_div_pow]
    have h3 := split_field v lo w
    rw [Nat.mul_add, Nat.mul_comm (x % 2 ^ w) (2 ^ lo)]
    omega
  rw [e]
  rcases Nat.lt_or_ge i lo with h | h
  · rw [if_neg (by omega), Nat.add_comm, Nat.testBit_two_pow_mul_add _ (Nat.mod_lt _ hp), if_pos h, Nat.testBit_mod_two_pow]
    simp [h]
  · rw [Nat.add_comm, Nat.testBit_two_pow_mul_add _ (Nat.mod_lt _ hp), if_neg (by omega),
      Nat.add_comm, Nat.testBit_two_pow_mul_add _ (Nat.mod_lt _ (Nat.two_pow_pos w))]
    by_cases hw : i - lo < w
    · rw [if_pos hw, if_pos (by omega), Nat.testBit_mod_two_pow]
      simp [hw]
    · rw [if_neg hw, if_neg (by omega), Nat.testBit_div_two_pow, Nat.testBit_div_two_pow]
      congr 1
      omega

/-- Bit `i` of a field. -/
theorem testBit_bitsOf (v lo w i : Nat) : (bitsOf v lo w).testBit i = (decide (i < w) && v.testBit (lo + i)) := by
  unfold bitsOf
  rw [Nat.testBit_mod_two_pow, Nat.testBit_shiftRight]

/-- A field apart from the one put. -/
theorem bitsOf_withBits_ne (v lo w x k n : Nat) (h : lo + w ≤ k ∨ k + n ≤ lo) :
    bitsOf (withBits v lo w x) k n = bitsOf v k n := by
  apply Nat.eq_of_testBit_eq
  intro i
  rw [testBit_bitsOf, testBit_bitsOf, testBit_withBits]
  by_cases hi : i < n
  · rw [if_neg (by omega)]
  · simp [hi]

/-- A field below bit 32 of a number cut to 32 bits. -/
theorem bitsOf_mod (v lo w : Nat) (h : lo + w ≤ 32) : bitsOf (v % 2 ^ 32) lo w = bitsOf v lo w := by
  apply Nat.eq_of_testBit_eq
  intro i
  rw [testBit_bitsOf, testBit_bitsOf, Nat.testBit_mod_two_pow]
  by_cases hi : i < w
  · have : lo + i < 32 := by omega
    simp [this]
  · simp [hi]

/-! ### Words -/

/-- Reading the word just written. -/
theorem State.nat_setNat_same (h : s.Canonical) : (s.setNat a v).nat a = v % 2 ^ 32 := by
  show (Tab.get resetWord (Tab.put resetWord s.regs a (BitVec.ofNat 32 v)) a).toNat = _
  rw [Tab.get_put_same _ h.regs.1, BitVec.toNat_ofNat]

/-- Reading another word. -/
theorem State.nat_setNat_ne (h : c ≠ a) : (s.setNat a v).nat c = s.nat c := by
  show (Tab.get resetWord (Tab.put resetWord s.regs a (BitVec.ofNat 32 v)) c).toNat = _
  rw [Tab.get_put_ne _ h]
  rfl

/-- Reading a word not touched by a field's write. -/
theorem State.nat_set_ne (h : c ≠ b + f.off) : (s.set b f v).nat c = s.nat c := State.nat_setNat_ne h

/-- Reading the field just written: the value cut to its width. -/
theorem State.get_set_same (h : s.Canonical) (hf : f.lo + f.width ≤ 32) : (s.set b f v).get b f = v % 2 ^ f.width := by
  unfold State.get State.set
  rw [State.nat_setNat_same h, bitsOf_mod _ _ _ hf, bitsOf_withBits_same]

/-- Reading a field of another word. -/
theorem State.get_set_word (h : c + g.off ≠ b + f.off) : (s.set b f v).get c g = s.get c g := by
  unfold State.get
  rw [State.nat_set_ne h]

/-- Reading another field at the same base: of another word, or of other bits of the same word. -/
theorem State.get_set_other (h : s.Canonical) (hg : g.lo + g.width ≤ 32)
    (hd : g.off ≠ f.off ∨ f.lo + f.width ≤ g.lo ∨ g.lo + g.width ≤ f.lo) :
    (s.set b f v).get b g = s.get b g := by
  rcases Decidable.em (g.off = f.off) with e | e
  · have hd := hd.resolve_left (fun n => n e)
    unfold State.get State.set
    rw [e, State.nat_setNat_same h, bitsOf_mod _ _ _ hg, bitsOf_withBits_ne _ _ _ _ _ _ hd]
  · exact State.get_set_word (by omega)

/-- Reading the one-bit field just written. -/
theorem State.flag_setB_same {x : Bool} (h : s.Canonical) (hf : f.lo + f.width ≤ 32) (hw : f.width = 1) :
    (s.setB b f x).flag b f = x := by
  unfold State.flag State.setB
  rw [State.get_set_same h hf, hw]
  cases x <;> decide

/-- Reading the signed field just written, for a value in its range. -/
theorem State.getI_setI_same {x : Int} (h : s.Canonical) (hf : f.lo + f.width ≤ 32) (hw : 0 < f.width)
    (hx : -(2 ^ (f.width - 1) : Nat) ≤ x) (hy : x < (2 ^ (f.width - 1) : Nat)) : (s.setI b f x).getI b f = x := by
  unfold State.getI State.setI
  rw [State.get_set_same h hf]
  obtain ⟨w, e⟩ : ∃ w, f.width = w + 1 := ⟨f.width - 1, by omega⟩
  rw [e] at hx hy ⊢
  simp only [Nat.add_sub_cancel] at hx hy
  unfold toSigned ofSigned
  simp only [Nat.add_sub_cancel]
  have hp : 2 ^ (w + 1) = 2 * 2 ^ w := by rw [Nat.pow_succ]; omega
  generalize 2 ^ w = m at *
  rw [hp]
  have h1 : 0 ≤ x % ((2 * m : Nat) : Int) := Int.emod_nonneg _ (by omega)
  have h2 : x % ((2 * m : Nat) : Int) < (2 * m : Nat) := Int.emod_lt_of_pos _ (by omega)
  rw [Nat.mod_eq_of_lt (by omega)]
  rcases Decidable.em (x < 0) with hn | hn
  · have e2 : x % ((2 * m : Nat) : Int) = x + (2 * m : Nat) := by
      rw [← Int.add_emod_right, Int.emod_eq_of_lt] <;> omega
    rw [e2] at h1 h2 ⊢
    rw [if_neg (by omega)]
    omega
  · have e2 : x % ((2 * m : Nat) : Int) = x := Int.emod_eq_of_lt (by omega) (by omega)
    rw [e2]
    rw [if_pos (by omega)]
    omega

/-- Reading a saturating counter after an addition. -/
theorem State.get_bumpBy_same {n : Nat} (h : s.Canonical) (hf : f.lo + f.width ≤ 32) :
    (s.bumpBy b f n).get b f = min (2 ^ f.width - 1) (s.get b f + n) := by
  unfold State.bumpBy
  rw [State.get_set_same h hf, Nat.mod_eq_of_lt]
  have := Nat.two_pow_pos f.width
  omega

/-- Reading a counter register after an addition. -/
theorem State.nat_count_same {n : Nat} (h : s.Canonical) : (s.count a n).nat a = min (2 ^ 32 - 1) (s.nat a + n) := by
  have e : ∀ t : State, t.get 0 (whole a) = t.nat a := fun t => by
    show bitsOf (t.nat (0 + a)) 0 32 = t.nat a
    rw [Nat.zero_add]
    unfold bitsOf
    exact Nat.mod_eq_of_lt (t.word a).isLt
  rw [← e, ← e]
  exact State.get_bumpBy_same h (Nat.le_refl _)

/-- A 64-bit register just written, for a value below 2⁶⁴. -/
theorem State.nat64_setNat64_same (h : s.Canonical) (hv : v < 2 ^ 64) : (s.setNat64 a v).nat64 a = v := by
  unfold State.nat64 State.setNat64
  rw [State.nat_setNat_ne (by omega), State.nat_setNat_same h, State.nat_setNat_same ((Evolves.refl s).setNat.canonical h)]
  omega

/-- A 64-bit statistics counter after an addition wraps. -/
theorem State.nat64_count64_same {n : Nat} (h : s.Canonical) : (s.count64 a n).nat64 a = (s.nat64 a + n) % 2 ^ 64 :=
  State.nat64_setNat64_same h (Nat.mod_lt _ (by decide))

/-- The reset state is canonical. -/
theorem State.Canonical.of_reset : State.reset.Canonical :=
  ⟨Tab.Canon.nil, Tab.Canon.nil, Tab.Canon.nil, Tab.Canon.nil, Tab.Canon.nil, Tab.Canon.nil, Tab.Canon.nil, Tab.Canon.nil,
    List.Pairwise.nil, Tab.Canon.nil, Tab.Canon.nil⟩

/-- The control data of a page just written. -/
theorem State.page_setPage_same {p : Nat} {x : PageCtl} (h : s.Canonical) : (s.setPage p x).page p = x :=
  Tab.get_put_same _ h.pages.1 _ _

end Sys2Proof.Machine
end

