-- ==== Sys2Proof/Laws/Meanings.lean ====
section
/-!
SUPPORT. The frame that every meaning stands in: what a running part answers, what a stopped one does, and the end of a command at
which nothing was raised.
-/

-- One declaration at a time: all at once need more threads than the check's memory limit allows.
set_option Elab.async false
namespace Sys2Proof.Machine

variable {s : State} {f : State → State}

/-- A meaning acts while the part runs. -/
theorem act_of_running (h : s.running = true) : act s f = .next (f s).settle := by
  unfold act done
  rw [if_pos h]

/-- A meaning has no effect while the part is stopped. -/
theorem act_of_stopped (h : s.running = false) : act s f = .next s := by
  unfold act
  rw [h]
  rfl

/-- A meaning of that form always answers a next state. -/
theorem act_answers (s : State) (f : State → State) : ∃ t, act s f = .next t := by
  unfold act
  split
  · exact ⟨_, rfl⟩
  · exact ⟨_, rfl⟩

/-- Where nothing was raised, no sticky bit was cleared and no other encapsulation asked for, the end of a command changes
nothing. -/
theorem State.settle_of_quiet (h : s.raised = []) (ha : s.acked = []) (hm : s.rap.udp = s.flag RAP.page RAP.ENCAP_MODE) :
    s.settle = s := by
  have e : State.settleN 6 s = s := by rw [State.settleN, h]
  rw [State.settle]
  simp only [e, ha, List.isEmpty_nil, if_true, State.modeTake, hm]

end Sys2Proof.Machine
end

