-- ==== Sys2Proof/Laws/Exec.lean ====
section
/-!
SUPPORT. One equation per command: the meaning that its arm calls.
-/
namespace Sys2Proof.Machine

variable {s : State}

theorem exec_deviceResetRelease : exec .deviceResetRelease s = execDeviceResetRelease s := rfl
theorem exec_deviceResetEntry : ∀ pwrgood resetN finish low, exec (.deviceResetEntry pwrgood resetN finish low) s = execDeviceResetEntry pwrgood resetN finish low s := fun _ _ _ _ => rfl
theorem exec_strapsSampled : ∀ straps, exec (.strapsSampled straps) s = execStrapsSampled straps s := fun _ => rfl
theorem exec_rootPllLocked : exec .rootPllLocked s = execRootPllLocked s := rfl
theorem exec_rootUnlock : exec .rootUnlock s = execRootUnlock s := rfl
theorem exec_nvLoaded : ∀ colophon mapOk, exec (.nvLoaded colophon mapOk) s = execNvLoaded colophon mapOk s := fun _ _ => rfl
theorem exec_sramDone : ∀ repairs withheld rows cols, exec (.sramDone repairs withheld rows cols) s = execSramDone repairs withheld rows cols s := fun _ _ _ _ => rfl
theorem exec_gddr7TrainingDone : ∀ failed, exec (.gddr7TrainingDone failed) s = execGddr7TrainingDone failed s := fun _ => rfl
theorem exec_loaderOk : ∀ copyA copyB, exec (.loaderOk copyA copyB) s = execLoaderOk copyA copyB s := fun _ _ => rfl
theorem exec_rapUp : exec .rapUp s = execRapUp s := rfl
theorem exec_clientSerdesLocked : exec .clientSerdesLocked s = execClientSerdesLocked s := rfl
theorem exec_fwVerify : ∀ good version, exec (.fwVerify good version) s = execFwVerify good version s := fun _ _ => rfl
theorem exec_ready : ∀ power, exec (.ready power) s = execReady power s := fun _ => rfl
theorem exec_warmReset : ∀ key src, exec (.warmReset key src) s = execWarmReset key src s := fun _ _ => rfl
theorem exec_warmResetStart : exec .warmResetStart s = execWarmResetStart s := rfl
theorem exec_carrierUp : ∀ n src, exec (.carrierUp n src) s = execCarrierUp n src s := fun _ _ => rfl
theorem exec_carrierDown : ∀ n src, exec (.carrierDown n src) s = execCarrierDown n src s := fun _ _ => rfl
theorem exec_carrierUpComplete : ∀ n, exec (.carrierUpComplete n) s = execCarrierUpComplete n s := fun _ => rfl
theorem exec_fabricOpen : ∀ src, exec (.fabricOpen src) s = execFabricOpen src s := fun _ => rfl
theorem exec_blockEnable : ∀ page src, exec (.blockEnable page src) s = execBlockEnable page src s := fun _ _ => rfl
theorem exec_blockDisable : ∀ page src, exec (.blockDisable page src) s = execBlockDisable page src s := fun _ _ => rfl
theorem exec_blockSoftReset : ∀ page src, exec (.blockSoftReset page src) s = execBlockSoftReset page src s := fun _ _ => rfl
theorem exec_softResetComplete : ∀ page, exec (.softResetComplete page) s = execSoftResetComplete page s := fun _ => rfl
theorem exec_stateReqActive : ∀ page src, exec (.stateReqActive page src) s = execStateReqActive page src s := fun _ _ => rfl
theorem exec_stateReqDrain : ∀ page src, exec (.stateReqDrain page src) s = execStateReqDrain page src s := fun _ _ => rfl
theorem exec_stateReqConfig : ∀ page src, exec (.stateReqConfig page src) s = execStateReqConfig page src s := fun _ _ => rfl
theorem exec_drainEnd : ∀ page, exec (.drainEnd page) s = execDrainEnd page s := fun _ => rfl
theorem exec_registerWrite : ∀ addr value src, exec (.registerWrite addr value src) s = execRegisterWrite addr value src s := fun _ _ _ => rfl
theorem exec_rapInvalidFrame : ∀ via why, exec (.rapInvalidFrame via why) s = execRapInvalidFrame via why s := fun _ _ => rfl
theorem exec_hello : ∀ via tag min max, exec (.hello via tag min max) s = execHello via tag min max s := fun _ _ _ _ => rfl
theorem exec_sessionInit : ∀ via tag identity key authority sigOk, exec (.sessionInit via tag identity key authority sigOk) s = execSessionInit via tag identity key authority sigOk s := fun _ _ _ _ _ _ => rfl
theorem exec_sessionConfirm : ∀ via tag slot good, exec (.sessionConfirm via tag slot good) s = execSessionConfirm via tag slot good s := fun _ _ _ _ => rfl
theorem exec_sessionClose : ∀ h, exec (.sessionClose h) s = execSessionClose h s := fun _ => rfl
theorem exec_nop : ∀ h, exec (.nop h) s = execNop h s := fun _ => rfl
theorem exec_read : ∀ h addr, exec (.read h addr) s = execRead h addr s := fun _ _ => rfl
theorem exec_write : ∀ h addr value, exec (.write h addr value) s = execWrite h addr value s := fun _ _ _ => rfl
theorem exec_modify : ∀ h addr mask value, exec (.modify h addr mask value) s = execModify h addr mask value s := fun _ _ _ _ => rfl
theorem exec_bulkWrite : ∀ h addr count words, exec (.bulkWrite h addr count words) s = execBulkWrite h addr count words s := fun _ _ _ _ => rfl
theorem exec_bulkRead : ∀ h addr count, exec (.bulkRead h addr count) s = execBulkRead h addr count s := fun _ _ _ => rfl
theorem exec_fill : ∀ h addr count pattern, exec (.fill h addr count pattern) s = execFill h addr count pattern s := fun _ _ _ _ => rfl
theorem exec_fillComplete : ∀ written, exec (.fillComplete written) s = execFillComplete written s := fun _ => rfl
theorem exec_imagePush : ∀ h offset bytes, exec (.imagePush h offset bytes) s = execImagePush h offset bytes s := fun _ _ _ => rfl
theorem exec_imageCommit : ∀ h length, exec (.imageCommit h length) s = execImageCommit h length s := fun _ _ => rfl
theorem exec_imageVerified : ∀ good ty version record, exec (.imageVerified good ty version record) s = execImageVerified good ty version record s := fun _ _ _ _ => rfl
theorem exec_evtSubscribe : ∀ h pages classes, exec (.evtSubscribe h pages classes) s = execEvtSubscribe h pages classes s := fun _ _ _ => rfl
theorem exec_evtAck : ∀ h page index, exec (.evtAck h page index) s = execEvtAck h page index s := fun _ _ _ => rfl
theorem exec_sessionIdleTimeout : ∀ slot idle, exec (.sessionIdleTimeout slot idle) s = execSessionIdleTimeout slot idle s := fun _ _ => rfl
theorem exec_responseRetentionExpiry : ∀ slot tag, exec (.responseRetentionExpiry slot tag) s = execResponseRetentionExpiry slot tag s := fun _ _ => rfl
theorem exec_neighborSolicitation : ∀ addr, exec (.neighborSolicitation addr) s = execNeighborSolicitation addr s := fun _ => rfl
theorem exec_icmpv6Echo : ∀ addr, exec (.icmpv6Echo addr) s = execIcmpv6Echo addr s := fun _ => rfl
theorem exec_encapModeWrite : ∀ ipv6 src, exec (.encapModeWrite ipv6 src) s = execEncapModeWrite ipv6 src s := fun _ _ => rfl
theorem exec_mgtLinkDown : exec .mgtLinkDown s = execMgtLinkDown s := rfl
theorem exec_mgtLinkUp : exec .mgtLinkUp s = execMgtLinkUp s := rfl
theorem exec_linePllLocked : ∀ n, exec (.linePllLocked n) s = execLinePllLocked n s := fun _ => rfl
theorem exec_linePllUnlock : ∀ n, exec (.linePllUnlock n) s = execLinePllUnlock n s := fun _ => rfl
theorem exec_sigOkChange : ∀ n ok, exec (.sigOkChange n ok) s = execSigOkChange n ok s := fun _ _ => rfl
theorem exec_calPeriodEnd : ∀ n adc dac spares, exec (.calPeriodEnd n adc dac spares) s = execCalPeriodEnd n adc dac spares s := fun _ _ _ _ => rfl
theorem exec_calGutterCommit : ∀ n tx gap, exec (.calGutterCommit n tx gap) s = execCalGutterCommit n tx gap s := fun _ _ _ => rfl
theorem exec_spareSwapCommit : ∀ n, exec (.spareSwapCommit n) s = execSpareSwapCommit n s := fun _ => rfl
theorem exec_sparePrecalTimeout : ∀ n, exec (.sparePrecalTimeout n) s = execSparePrecalTimeout n s := fun _ => rfl
theorem exec_calFull : ∀ n src, exec (.calFull n src) s = execCalFull n src s := fun _ _ => rfl
theorem exec_fullCalDone : ∀ n obsFail, exec (.fullCalDone n obsFail) s = execFullCalDone n obsFail s := fun _ _ => rfl
theorem exec_calSwap : ∀ n conv pos src, exec (.calSwap n conv pos src) s = execCalSwap n conv pos src s := fun _ _ _ _ => rfl
theorem exec_calAbortSpare : ∀ n src, exec (.calAbortSpare n src) s = execCalAbortSpare n src s := fun _ _ => rfl
theorem exec_calTargetWrite : ∀ n entry target src, exec (.calTargetWrite n entry target src) s = execCalTargetWrite n entry target src s := fun _ _ _ _ => rfl
theorem exec_d2dLaneFail : ∀ n toCore lane, exec (.d2dLaneFail n toCore lane) s = execD2dLaneFail n toCore lane s := fun _ _ _ => rfl
theorem exec_d2dLaneExchange : ∀ n toCore, exec (.d2dLaneExchange n toCore) s = execD2dLaneExchange n toCore s := fun _ _ => rfl
theorem exec_rxLosDeclare : ∀ n level, exec (.rxLosDeclare n level) s = execRxLosDeclare n level s := fun _ _ => rfl
theorem exec_rxLosClear : ∀ n level, exec (.rxLosClear n level) s = execRxLosClear n level s := fun _ _ => rfl
theorem exec_waitSignalExit : ∀ n inst, exec (.waitSignalExit n inst) s = execWaitSignalExit n inst s := fun _ _ => rfl
theorem exec_cdTrial : ∀ n inst metric, exec (.cdTrial n inst metric) s = execCdTrial n inst metric s := fun _ _ _ => rfl
theorem exec_freqAcqEstimate : ∀ n inst residual, exec (.freqAcqEstimate n inst residual) s = execFreqAcqEstimate n inst residual s := fun _ _ _ => rfl
theorem exec_freqAcqTimeout : ∀ n inst, exec (.freqAcqTimeout n inst) s = execFreqAcqTimeout n inst s := fun _ _ => rfl
theorem exec_eqBlockUpdate : ∀ n inst adc, exec (.eqBlockUpdate n inst adc) s = execEqBlockUpdate n inst adc s := fun _ _ _ => rfl
theorem exec_eqBlindTimeout : ∀ n inst, exec (.eqBlindTimeout n inst) s = execEqBlindTimeout n inst s := fun _ _ => rfl
theorem exec_rxGutterCorrelate : ∀ n inst pos found swapped low pilotOk snrOk quireErr, exec (.rxGutterCorrelate n inst pos found swapped low pilotOk snrOk quireErr) s = execRxGutterCorrelate n inst pos found swapped low pilotOk snrOk quireErr s := fun _ _ _ _ _ _ _ _ _ => rfl
theorem exec_gutterSearchTimeout : ∀ n inst, exec (.gutterSearchTimeout n inst) s = execGutterSearchTimeout n inst s := fun _ _ => rfl
theorem exec_acqTrainTimeout : ∀ n inst, exec (.acqTrainTimeout n inst) s = execAcqTrainTimeout n inst s := fun _ _ => rfl
theorem exec_freqCaptureLoss : ∀ n inst, exec (.freqCaptureLoss n inst) s = execFreqCaptureLoss n inst s := fun _ _ => rfl
theorem exec_acqRestart : ∀ n subc src, exec (.acqRestart n subc src) s = execAcqRestart n subc src s := fun _ _ _ => rfl
theorem exec_rxdSnap : ∀ n subc src, exec (.rxdSnap n subc src) s = execRxdSnap n subc src s := fun _ _ _ => rfl
theorem exec_cdMemClear : ∀ n src, exec (.cdMemClear n src) s = execCdMemClear n src s := fun _ _ => rfl
theorem exec_fbZero : ∀ n src, exec (.fbZero n src) s = execFbZero n src s := fun _ _ => rfl
theorem exec_laserFbUpdate : ∀ n f, exec (.laserFbUpdate n f) s = execLaserFbUpdate n f s := fun _ _ => rfl
theorem exec_fbResponseCheck : ∀ n f, exec (.fbResponseCheck n f) s = execFbResponseCheck n f s := fun _ _ => rfl
theorem exec_nlcRequest : ∀ n src, exec (.nlcRequest n src) s = execNlcRequest n src s := fun _ _ => rfl
theorem exec_nlcStopRequest : ∀ n src, exec (.nlcStopRequest n src) s = execNlcStopRequest n src s := fun _ _ => rfl
theorem exec_nlcGutterStart : ∀ n, exec (.nlcGutterStart n) s = execNlcGutterStart n s := fun _ => rfl
theorem exec_nlcLeaveEnd : ∀ n, exec (.nlcLeaveEnd n) s = execNlcLeaveEnd n s := fun _ => rfl
theorem exec_measPeriodEnd : ∀ n, exec (.measPeriodEnd n) s = execMeasPeriodEnd n s := fun _ => rfl
theorem exec_sopBoostStart : ∀ n, exec (.sopBoostStart n) s = execSopBoostStart n s := fun _ => rfl
theorem exec_sopBoostEnd : ∀ n, exec (.sopBoostEnd n) s = execSopBoostEnd n s := fun _ => rfl
theorem exec_phaseJump : ∀ n inst, exec (.phaseJump n inst) s = execPhaseJump n inst s := fun _ _ => rfl
theorem exec_deskewStep : ∀ n d0 d1 d2 d3, exec (.deskewStep n d0 d1 d2 d3) s = execDeskewStep n d0 d1 d2 d3 s := fun _ _ _ _ _ => rfl
theorem exec_cdFilterMove : ∀ n inst, exec (.cdFilterMove n inst) s = execCdFilterMove n inst s := fun _ _ => rfl
theorem exec_sliceFail : ∀ n slice errs, exec (.sliceFail n slice errs) s = execSliceFail n slice errs s := fun _ _ _ => rfl
theorem exec_sliceHandover : ∀ n, exec (.sliceHandover n) s = execSliceHandover n s := fun _ => rfl
theorem exec_sliceShadowError : ∀ n errs, exec (.sliceShadowError n errs) s = execSliceShadowError n errs s := fun _ _ => rfl
theorem exec_txFolioMap : ∀ n, exec (.txFolioMap n) s = execTxFolioMap n s := fun _ => rfl
theorem exec_unmuteStart : ∀ n ready, exec (.unmuteStart n ready) s = execUnmuteStart n ready s := fun _ _ => rfl
theorem exec_laserReadyTimeout : ∀ n, exec (.laserReadyTimeout n) s = execLaserReadyTimeout n s := fun _ => rfl
theorem exec_outputRampDone : ∀ n, exec (.outputRampDone n) s = execOutputRampDone n s := fun _ => rfl
theorem exec_txMuteWrite : ∀ n mute src, exec (.txMuteWrite n mute src) s = execTxMuteWrite n mute src s := fun _ _ _ => rfl
theorem exec_optFaultChange : ∀ n active, exec (.optFaultChange n active) s = execOptFaultChange n active s := fun _ _ => rfl
theorem exec_optFaultHoldoffExpiry : ∀ n, exec (.optFaultHoldoffExpiry n) s = execOptFaultHoldoffExpiry n s := fun _ => rfl
theorem exec_faultEnWrite : ∀ n on src, exec (.faultEnWrite n on src) s = execFaultEnWrite n on src s := fun _ _ _ => rfl
theorem exec_maskCheck : ∀ n m src, exec (.maskCheck n m src) s = execMaskCheck n m src s := fun _ _ _ => rfl
theorem exec_maskCheckDone : ∀ n m, exec (.maskCheckDone n m) s = execMaskCheckDone n m s := fun _ _ => rfl
theorem exec_maskApply : ∀ n m src, exec (.maskApply n m src) s = execMaskApply n m src s := fun _ _ _ => rfl
theorem exec_maskBankExchange : ∀ n m, exec (.maskBankExchange n m) s = execMaskBankExchange n m s := fun _ _ => rfl
theorem exec_maskLiveMeasure : ∀ n m, exec (.maskLiveMeasure n m) s = execMaskLiveMeasure n m s := fun _ _ => rfl
theorem exec_cdPreTargetWrite : ∀ n target src, exec (.cdPreTargetWrite n target src) s = execCdPreTargetWrite n target src s := fun _ _ _ => rfl
theorem exec_cdPreMove : ∀ n, exec (.cdPreMove n) s = execCdPreMove n s := fun _ => rfl
theorem exec_txSkewStep : ∀ n carriesChange, exec (.txSkewStep n carriesChange) s = execTxSkewStep n carriesChange s := fun _ _ => rfl
theorem exec_clipCheck : ∀ n, exec (.clipCheck n) s = execClipCheck n s := fun _ => rfl
theorem exec_ocpSpiTx : ∀ n word src, exec (.ocpSpiTx n word src) s = execOcpSpiTx n word src s := fun _ _ _ => rfl
theorem exec_ocpSpiTransferDone : ∀ n rx, exec (.ocpSpiTransferDone n rx) s = execOcpSpiTransferDone n rx s := fun _ _ => rfl
theorem exec_schedCheck : ∀ n src, exec (.schedCheck n src) s = execSchedCheck n src s := fun _ _ => rfl
theorem exec_schedApply : ∀ n src, exec (.schedApply n src) s = execSchedApply n src s := fun _ _ => rfl
theorem exec_schedSwitch : ∀ n, exec (.schedSwitch n) s = execSchedSwitch n s := fun _ => rfl
theorem exec_burstMapFill : ∀ n f, exec (.burstMapFill n f) s = execBurstMapFill n f s := fun _ _ => rfl
theorem exec_burstMapDecode : ∀ n f entries, exec (.burstMapDecode n f entries) s = execBurstMapDecode n f entries s := fun _ _ _ => rfl
theorem exec_quietWindowOpen : ∀ n opens, exec (.quietWindowOpen n opens) s = execQuietWindowOpen n opens s := fun _ _ => rfl
theorem exec_joinDecision : ∀ n inst record, exec (.joinDecision n inst record) s = execJoinDecision n inst record s := fun _ _ _ => rfl
theorem exec_leafListedWrite : ∀ n leaf listed src, exec (.leafListedWrite n leaf listed src) s = execLeafListedWrite n leaf listed src s := fun _ _ _ _ => rfl
theorem exec_leafDeregister : ∀ n leaf src, exec (.leafDeregister n leaf src) s = execLeafDeregister n leaf src s := fun _ _ _ => rfl
theorem exec_upOwnerWrite : ∀ n inst owner src, exec (.upOwnerWrite n inst owner src) s = execUpOwnerWrite n inst owner src s := fun _ _ _ _ => rfl
theorem exec_leafJoinStart : ∀ n, exec (.leafJoinStart n) s = execLeafJoinStart n s := fun _ => rfl
theorem exec_leafReplyTimeout : ∀ n, exec (.leafReplyTimeout n) s = execLeafReplyTimeout n s := fun _ => rfl
theorem exec_leafFirstBurst : ∀ n, exec (.leafFirstBurst n) s = execLeafFirstBurst n s := fun _ => rfl
theorem exec_leafHoldEntry : ∀ n, exec (.leafHoldEntry n) s = execLeafHoldEntry n s := fun _ => rfl
theorem exec_leafHoldTimeout : ∀ n, exec (.leafHoldTimeout n) s = execLeafHoldTimeout n s := fun _ => rfl
theorem exec_burstStateLoad : ∀ n inst leaf, exec (.burstStateLoad n inst leaf) s = execBurstStateLoad n inst leaf s := fun _ _ _ => rfl
theorem exec_burstDetection : ∀ n inst peakA peakB, exec (.burstDetection n inst peakA peakB) s = execBurstDetection n inst peakA peakB s := fun _ _ _ _ => rfl
theorem exec_burstSyncLatch : ∀ n inst j off metric folio rssi snr freq arrival cd adc, exec (.burstSyncLatch n inst j off metric folio rssi snr freq arrival cd adc) s = execBurstSyncLatch n inst j off metric folio rssi snr freq arrival cd adc s := fun _ _ _ _ _ _ _ _ _ _ _ _ => rfl
theorem exec_burstNoSync : ∀ n inst, exec (.burstNoSync n inst) s = execBurstNoSync n inst s := fun _ _ => rfl
theorem exec_burstRampDown : ∀ n inst, exec (.burstRampDown n inst) s = execBurstRampDown n inst s := fun _ _ => rfl
theorem exec_burstVerdict : ∀ n inst, exec (.burstVerdict n inst) s = execBurstVerdict n inst s := fun _ _ => rfl
theorem exec_burstWindowMissing : ∀ n inst leaf folio, exec (.burstWindowMissing n inst leaf folio) s = execBurstWindowMissing n inst leaf folio s := fun _ _ _ _ => rfl
theorem exec_windowLost : ∀ n, exec (.windowLost n) s = execWindowLost n s := fun _ => rfl
theorem exec_fecEncode : ∀ n stream, exec (.fecEncode n stream) s = execFecEncode n stream s := fun _ _ => rfl
theorem exec_codewordDecode : ∀ n stream, exec (.codewordDecode n stream) s = execCodewordDecode n stream s := fun _ _ => rfl
theorem exec_bchDecode : ∀ n stream, exec (.bchDecode n stream) s = execBchDecode n stream s := fun _ _ => rfl
theorem exec_lateCodeword : ∀ n stream iters, exec (.lateCodeword n stream iters) s = execLateCodeword n stream iters s := fun _ _ _ => rfl
theorem exec_engineShadowCheck : ∀ n mismatch activePass sparePass, exec (.engineShadowCheck n mismatch activePass sparePass) s = execEngineShadowCheck n mismatch activePass sparePass s := fun _ _ _ _ => rfl
theorem exec_engineSpareJoin : ∀ n refPass, exec (.engineSpareJoin n refPass) s = execEngineSpareJoin n refPass s := fun _ _ => rfl
theorem exec_imaxWrite : ∀ n imax src, exec (.imaxWrite n imax src) s = execImaxWrite n imax src s := fun _ _ _ => rfl
theorem exec_histClear : ∀ n src, exec (.histClear n src) s = execHistClear n src s := fun _ _ => rfl
theorem exec_folioRx : ∀ n inst, exec (.folioRx n inst) s = execFolioRx n inst s := fun _ _ => rfl
theorem exec_alignRestart : ∀ n src, exec (.alignRestart n src) s = execAlignRestart n src s := fun _ _ => rfl
theorem exec_hbSnap : ∀ n src, exec (.hbSnap n src) s = execHbSnap n src s := fun _ _ => rfl
theorem exec_folioTx : ∀ n core, exec (.folioTx n core) s = execFolioTx n core s := fun _ _ => rfl
theorem exec_sdSecond : ∀ n inst, exec (.sdSecond n inst) s = execSdSecond n inst s := fun _ _ => rfl
theorem exec_burstSpineCheck : ∀ n inst, exec (.burstSpineCheck n inst) s = execBurstSpineCheck n inst s := fun _ _ => rfl
theorem exec_ospExtractUnit : ∀ n mc1, exec (.ospExtractUnit n mc1) s = execOspExtractUnit n mc1 s := fun _ _ => rfl
theorem exec_ospInsertUnit : ∀ p unit cut, exec (.ospInsertUnit p unit cut) s = execOspInsertUnit p unit cut s := fun _ _ _ => rfl
theorem exec_pmbSecondEnd : exec .pmbSecondEnd s = execPmbSecondEnd s := rfl
theorem exec_pmbSecondFinal : exec .pmbSecondFinal s = execPmbSecondFinal s := rfl
theorem exec_epRecordFlush : ∀ e lost, exec (.epRecordFlush e lost) s = execEpRecordFlush e lost s := fun _ _ => rfl
theorem exec_alignOffsetWrite : ∀ offset src, exec (.alignOffsetWrite offset src) s = execAlignOffsetWrite offset src s := fun _ _ => rfl
theorem exec_gatheringCommit : ∀ g words src, exec (.gatheringCommit g words src) s = execGatheringCommit g words src s := fun _ _ _ => rfl
theorem exec_gthTxUnit : ∀ g, exec (.gthTxUnit g) s = execGthTxUnit g s := fun _ => rfl
theorem exec_gatheringMarkerRx : ∀ g p, exec (.gatheringMarkerRx g p) s = execGatheringMarkerRx g p s := fun _ _ => rfl
theorem exec_unitOutput : ∀ g, exec (.unitOutput g) s = execUnitOutput g s := fun _ => rfl
theorem exec_gthRecollate : ∀ g src, exec (.gthRecollate g src) s = execGthRecollate g src s := fun _ _ => rfl
theorem exec_selClear : ∀ g src, exec (.selClear g src) s = execSelClear g src s := fun _ _ => rfl
theorem exec_selManualA : ∀ g src, exec (.selManualA g src) s = execSelManualA g src s := fun _ _ => rfl
theorem exec_selManualB : ∀ g src, exec (.selManualB g src) s = execSelManualB g src s := fun _ _ => rfl
theorem exec_selForceA : ∀ g src, exec (.selForceA g src) s = execSelForceA g src s := fun _ _ => rfl
theorem exec_selForceB : ∀ g src, exec (.selForceB g src) s = execSelForceB g src s := fun _ _ => rfl
theorem exec_pgCfgWrite : ∀ q v src, exec (.pgCfgWrite q v src) s = execPgCfgWrite q v src s := fun _ _ _ => rfl
theorem exec_pgClear : ∀ q src, exec (.pgClear q src) s = execPgClear q src s := fun _ _ => rfl
theorem exec_pgLockout : ∀ q src, exec (.pgLockout q src) s = execPgLockout q src s := fun _ _ => rfl
theorem exec_pgForce : ∀ q src, exec (.pgForce q src) s = execPgForce q src s := fun _ _ => rfl
theorem exec_pgManual : ∀ q src, exec (.pgManual q src) s = execPgManual q src s := fun _ _ => rfl
theorem exec_pgHoldOffExpiry : ∀ q isP, exec (.pgHoldOffExpiry q isP) s = execPgHoldOffExpiry q isP s := fun _ _ => rfl
theorem exec_pgWtrExpiry : ∀ q, exec (.pgWtrExpiry q) s = execPgWtrExpiry q s := fun _ => rfl
theorem exec_pgFop : ∀ q, exec (.pgFop q) s = execPgFop q s := fun _ => rfl
theorem exec_cryTxUnit : ∀ g, exec (.cryTxUnit g) s = execCryTxUnit g s := fun _ => rfl
theorem exec_cryRxUnit : ∀ g okSel okOther left, exec (.cryRxUnit g okSel okOther left) s = execCryRxUnit g okSel okOther left s := fun _ _ _ _ => rfl
theorem exec_keyEntryCommit : ∀ g words src, exec (.keyEntryCommit g words src) s = execKeyEntryCommit g words src s := fun _ _ _ => rfl
theorem exec_txKeyLoad : ∀ g slot salt src, exec (.txKeyLoad g slot salt src) s = execTxKeyLoad g slot salt src s := fun _ _ _ _ => rfl
theorem exec_rxKeyLoad : ∀ g slot salt src, exec (.rxKeyLoad g slot salt src) s = execRxKeyLoad g slot salt src s := fun _ _ _ _ => rfl
theorem exec_keyLoadDone : ∀ g tx served, exec (.keyLoadDone g tx served) s = execKeyLoadDone g tx served s := fun _ _ _ => rfl
theorem exec_switchTx : ∀ g src, exec (.switchTx g src) s = execSwitchTx g src s := fun _ _ => rfl
theorem exec_rxResync : ∀ g src, exec (.rxResync g src) s = execRxResync g src s := fun _ _ => rfl
theorem exec_crySelfTest : ∀ src, exec (.crySelfTest src) s = execCrySelfTest src s := fun _ => rfl
theorem exec_crySelfTestDone : ∀ pass, exec (.crySelfTestDone pass) s = execCrySelfTestDone pass s := fun _ => rfl
theorem exec_agreeStart : ∀ g src, exec (.agreeStart g src) s = execAgreeStart g src s := fun _ _ => rfl
theorem exec_agreeAbort : ∀ src, exec (.agreeAbort src) s = execAgreeAbort src s := fun _ => rfl
theorem exec_agreeA1Rx : ∀ n pos identity sigOk, exec (.agreeA1Rx n pos identity sigOk) s = execAgreeA1Rx n pos identity sigOk s := fun _ _ _ _ => rfl
theorem exec_agreeA2Rx : ∀ identity sigOk confOk, exec (.agreeA2Rx identity sigOk confOk) s = execAgreeA2Rx identity sigOk confOk s := fun _ _ _ => rfl
theorem exec_agreeA3Rx : ∀ confOk, exec (.agreeA3Rx confOk) s = execAgreeA3Rx confOk s := fun _ => rfl
theorem exec_agreeAbortRx : exec .agreeAbortRx s = execAgreeAbortRx s := rfl
theorem exec_agreeTimeout : exec .agreeTimeout s = execAgreeTimeout s := rfl
theorem exec_agreeKeysStored : exec .agreeKeysStored s = execAgreeKeysStored s := rfl
theorem exec_clientLaneStatus : ∀ l sigDet cdrLock pcs hiSer snr errs corrCw uncorrCw corrSym, exec (.clientLaneStatus l sigDet cdrLock pcs hiSer snr errs corrCw uncorrCw corrSym) s = execClientLaneStatus l sigDet cdrLock pcs hiSer snr errs corrCw uncorrCw corrSym s := fun _ _ _ _ _ _ _ _ _ _ => rfl
theorem exec_laneAdaptDone : ∀ l, exec (.laneAdaptDone l) s = execLaneAdaptDone l s := fun _ => rfl
theorem exec_portFrameRx : ∀ p f bw, exec (.portFrameRx p f bw) s = execPortFrameRx p f bw s := fun _ _ _ => rfl
theorem exec_missLookupDone : ∀ ue bw, exec (.missLookupDone ue bw) s = execMissLookupDone ue bw s := fun _ _ => rfl
theorem exec_signatureBuildDone : exec .signatureBuildDone s = execSignatureBuildDone s := rfl
theorem exec_cacheFlush : ∀ src, exec (.cacheFlush src) s = execCacheFlush src s := fun _ => rfl
theorem exec_pcsFaultRx : ∀ p lf rf, exec (.pcsFaultRx p lf rf) s = execPcsFaultRx p lf rf s := fun _ _ _ => rfl
theorem exec_transparentMapUnit : ∀ p arrived, exec (.transparentMapUnit p arrived) s = execTransparentMapUnit p arrived s := fun _ _ => rfl
theorem exec_demapUnit : ∀ p sent, exec (.demapUnit p sent) s = execDemapUnit p sent s := fun _ _ => rfl
theorem exec_meterCommit : ∀ m words src, exec (.meterCommit m words src) s = execMeterCommit m words src s := fun _ _ _ => rfl
theorem exec_queueEntryCommit : ∀ q profile en src, exec (.queueEntryCommit q profile en src) s = execQueueEntryCommit q profile en src s := fun _ _ _ _ => rfl
theorem exec_shaperCommit : ∀ x words src, exec (.shaperCommit x words src) s = execShaperCommit x words src s := fun _ _ _ => rfl
theorem exec_clearDebt : ∀ x src, exec (.clearDebt x src) s = execClearDebt x src s := fun _ _ => rfl
theorem exec_shaperWheelSlot : ∀ x, exec (.shaperWheelSlot x) s = execShaperWheelSlot x s := fun _ => rfl
theorem exec_frameDequeue : ∀ dest full noRoom, exec (.frameDequeue dest full noRoom) s = execFrameDequeue dest full noRoom s := fun _ _ _ => rfl
theorem exec_stagingPageWrite : ∀ q page, exec (.stagingPageWrite q page) s = execStagingPageWrite q page s := fun _ _ => rfl
theorem exec_egressFifoXoff : ∀ p, exec (.egressFifoXoff p) s = execEgressFifoXoff p s := fun _ => rfl
theorem exec_egressFifoXon : ∀ p, exec (.egressFifoXon p) s = execEgressFifoXon p s := fun _ => rfl
theorem exec_frameReassembly : ∀ src cls full noRoom, exec (.frameReassembly src cls full noRoom) s = execFrameReassembly src cls full noRoom s := fun _ _ _ _ => rfl
theorem exec_fabricTrainStart : ∀ k, exec (.fabricTrainStart k) s = execFabricTrainStart k s := fun _ => rfl
theorem exec_ctleSweepDone : ∀ k l foms, exec (.ctleSweepDone k l foms) s = execCtleSweepDone k l foms s := fun _ _ _ => rfl
theorem exec_linkTrainTimeout : ∀ k, exec (.linkTrainTimeout k) s = execLinkTrainTimeout k s := fun _ => rfl
theorem exec_backoffExpiry : ∀ k, exec (.backoffExpiry k) s = execBackoffExpiry k s := fun _ => rfl
theorem exec_negotiateTimeout : ∀ k, exec (.negotiateTimeout k) s = execNegotiateTimeout k s := fun _ => rfl
theorem exec_laneFrameRx : ∀ k l word bad0 bad1 cells, exec (.laneFrameRx k l word bad0 bad1 cells) s = execLaneFrameRx k l word bad0 bad1 cells s := fun _ _ _ _ _ _ => rfl
theorem exec_laneFail : ∀ k l sigDet cdrLock, exec (.laneFail k l sigDet cdrLock) s = execLaneFail k l sigDet cdrLock s := fun _ _ _ _ => rfl
theorem exec_laneRestore : ∀ k l, exec (.laneRestore k l) s = execLaneRestore k l s := fun _ _ => rfl
theorem exec_ditherTrial : ∀ k l fom, exec (.ditherTrial k l fom) s = execDitherTrial k l fom s := fun _ _ _ => rfl
theorem exec_fomRefresh : ∀ k l fom, exec (.fomRefresh k l fom) s = execFomRefresh k l fom s := fun _ _ _ => rfl
theorem exec_fblRetrain : ∀ k src, exec (.fblRetrain k src) s = execFblRetrain k src s := fun _ _ => rfl
theorem exec_cellRx : ∀ m c, exec (.cellRx m c) s = execCellRx m c s := fun _ _ => rfl
theorem exec_helloSend : ∀ m, exec (.helloSend m) s = execHelloSend m s := fun _ => rfl
theorem exec_helloCellRx : ∀ m addr ver link ident domain t3 t1 t2, exec (.helloCellRx m addr ver link ident domain t3 t1 t2) s = execHelloCellRx m addr ver link ident domain t3 t1 t2 s := fun _ _ _ _ _ _ _ _ _ => rfl
theorem exec_neighbourDead : ∀ m, exec (.neighbourDead m) s = execNeighbourDead m s := fun _ => rfl
theorem exec_topoFlood : exec .topoFlood s = execTopoFlood s := rfl
theorem exec_topoCellRx : ∀ m addr ident role seq idx cnt links, exec (.topoCellRx m addr ident role seq idx cnt links) s = execTopoCellRx m addr ident role seq idx cnt links s := fun _ _ _ _ _ _ _ _ => rfl
theorem exec_topoAgeOut : ∀ addr, exec (.topoAgeOut addr) s = execTopoAgeOut addr s := fun _ => rfl
theorem exec_routeCompute : exec .routeCompute s = execRouteCompute s := rfl
theorem exec_routeApply : ∀ src, exec (.routeApply src) s = execRouteApply src s := fun _ => rfl
theorem exec_routeEntryCommit : ∀ e words src, exec (.routeEntryCommit e words src) s = execRouteEntryCommit e words src s := fun _ _ _ => rfl
theorem exec_reseqGapTimeout : ∀ src, exec (.reseqGapTimeout src) s = execReseqGapTimeout src s := fun _ => rfl
theorem exec_reseqSourceTimeout : ∀ src, exec (.reseqSourceTimeout src) s = execReseqSourceTimeout src s := fun _ => rfl
theorem exec_pauseCellRx : ∀ m origin port on seq, exec (.pauseCellRx m origin port on seq) s = execPauseCellRx m origin port on seq s := fun _ _ _ _ _ => rfl
theorem exec_pauseRefresh : ∀ p, exec (.pauseRefresh p) s = execPauseRefresh p s := fun _ => rfl
theorem exec_pauseExpiry : ∀ origin port, exec (.pauseExpiry origin port) s = execPauseExpiry origin port s := fun _ _ => rfl
theorem exec_timSecond : ∀ ys phases c0 c1 e0 e1, exec (.timSecond ys phases c0 c1 e0 e1) s = execTimSecond ys phases c0 c1 e0 e1 s := fun _ _ _ _ _ _ => rfl
theorem exec_refActivityChange : ∀ slot active, exec (.refActivityChange slot active) s = execRefActivityChange slot active s := fun _ _ => rfl
theorem exec_ppsinEdge : ∀ ps, exec (.ppsinEdge ps) s = execPpsinEdge ps s := fun _ => rfl
theorem exec_refWtrExpiry : ∀ slot, exec (.refWtrExpiry slot) s = execRefWtrExpiry slot s := fun _ => rfl
theorem exec_dpllLock : ∀ d, exec (.dpllLock d) s = execDpllLock d s := fun _ => rfl
theorem exec_dpllLockLost : ∀ d, exec (.dpllLockLost d) s = execDpllLockLost d s := fun _ => rfl
theorem exec_dpllModeWrite : ∀ d v src, exec (.dpllModeWrite d v src) s = execDpllModeWrite d v src s := fun _ _ _ => rfl
theorem exec_phaseStep : ∀ d ps src, exec (.phaseStep d ps src) s = execPhaseStep d ps src s := fun _ _ _ => rfl
theorem exec_slewDone : ∀ d, exec (.slewDone d) s = execSlewDone d s := fun _ => rfl
theorem exec_lineSteerUpdate : ∀ offset, exec (.lineSteerUpdate offset) s = execLineSteerUpdate offset s := fun _ => rfl
theorem exec_slotCfgWrite : ∀ slot v src, exec (.slotCfgWrite slot v src) s = execSlotCfgWrite slot v src s := fun _ _ _ => rfl
theorem exec_monrefChange : ∀ good offset, exec (.monrefChange good offset) s = execMonrefChange good offset s := fun _ _ => rfl
theorem exec_clkoutChange : ∀ inst freq v src, exec (.clkoutChange inst freq v src) s = execClkoutChange inst freq v src s := fun _ _ _ _ => rfl
theorem exec_ppsoutAlign : ∀ a0 a1 src, exec (.ppsoutAlign a0 a1 src) s = execPpsoutAlign a0 a1 src s := fun _ _ _ => rfl
theorem exec_ppsoutEnable : ∀ j v src, exec (.ppsoutEnable j v src) s = execPpsoutEnable j v src s := fun _ _ _ => rfl
theorem exec_ppsPulse : ∀ j, exec (.ppsPulse j) s = execPpsPulse j s := fun _ => rfl
theorem exec_esmcPduRx : ∀ slot ql, exec (.esmcPduRx slot ql) s = execEsmcPduRx slot ql s := fun _ _ => rfl
theorem exec_esmcTimeout : ∀ slot, exec (.esmcTimeout slot) s = execEsmcTimeout slot s := fun _ => rfl
theorem exec_esmcPduSend : ∀ port event, exec (.esmcPduSend port event) s = execEsmcPduSend port event s := fun _ _ => rfl
theorem exec_gddr7Read : ∀ page ce, exec (.gddr7Read page ce) s = execGddr7Read page ce s := fun _ _ => rfl
theorem exec_slowPathDone : ∀ page fixed lost who, exec (.slowPathDone page fixed lost who) s = execSlowPathDone page fixed lost who s := fun _ _ _ _ => rfl
theorem exec_wholePageWrite : ∀ page data, exec (.wholePageWrite page data) s = execWholePageWrite page data s := fun _ _ => rfl
theorem exec_readModifyWrite : ∀ page words ue lost, exec (.readModifyWrite page words ue lost) s = execReadModifyWrite page words ue lost s := fun _ _ _ _ => rfl
theorem exec_scrubPage : ∀ ce ue failed, exec (.scrubPage ce ue failed) s = execScrubPage ce ue failed s := fun _ _ _ => rfl
theorem exec_memTempRead : ∀ c temp, exec (.memTempRead c temp) s = execMemTempRead c temp s := fun _ _ => rfl
theorem exec_memRetrain : ∀ c first again, exec (.memRetrain c first again) s = execMemRetrain c first again s := fun _ _ _ => rfl
theorem exec_channelDeviceFail : ∀ c, exec (.channelDeviceFail c) s = execChannelDeviceFail c s := fun _ => rfl
theorem exec_rawWindowWrite : ∀ inst v src, exec (.rawWindowWrite inst v src) s = execRawWindowWrite inst v src s := fun _ _ _ => rfl
theorem exec_leaveRequest : ∀ op unit steps, exec (.leaveRequest op unit steps) s = execLeaveRequest op unit steps s := fun _ _ _ => rfl
theorem exec_leaveGrantQueued : exec .leaveGrantQueued s = execLeaveGrantQueued s := rfl
theorem exec_leaveEnd : ∀ op unit completed, exec (.leaveEnd op unit completed) s = execLeaveEnd op unit completed s := fun _ _ _ => rfl
theorem exec_leaveOverrun : ∀ op unit, exec (.leaveOverrun op unit) s = execLeaveOverrun op unit s := fun _ _ => rfl
theorem exec_budgetWrite : ∀ mw src, exec (.budgetWrite mw src) s = execBudgetWrite mw src s := fun _ _ => rfl
theorem exec_standingBaseWrite : ∀ mw src, exec (.standingBaseWrite mw src) s = execStandingBaseWrite mw src s := fun _ _ => rfl
theorem exec_govPeriod : ∀ readings, exec (.govPeriod readings) s = execGovPeriod readings s := fun _ => rfl
theorem exec_avsEval : ∀ slack ulinear16 commandOk, exec (.avsEval slack ulinear16 commandOk) s = execAvsEval slack ulinear16 commandOk s := fun _ _ _ => rfl
theorem exec_droopTrip : ∀ detector fall, exec (.droopTrip detector fall) s = execDroopTrip detector fall s := fun _ _ => rfl
theorem exec_droopShedEnd : exec .droopShedEnd s = execDroopShedEnd s := rfl
theorem exec_coreGateWindow : exec .coreGateWindow s = execCoreGateWindow s := rfl
theorem exec_thmSample : ∀ temps, exec (.thmSample temps) s = execThmSample temps s := fun _ => rfl
theorem exec_scanTimerTick : exec .scanTimerTick s = execScanTimerTick s := rfl
theorem exec_scanStart : ∀ src, exec (.scanStart src) s = execScanStart src s := fun _ => rfl
theorem exec_tipInTrigger : ∀ droop guard pin, exec (.tipInTrigger droop guard pin) s = execTipInTrigger droop guard pin s := fun _ _ _ => rfl
theorem exec_hkaEntryDone : ∀ v peak, exec (.hkaEntryDone v peak) s = execHkaEntryDone v peak s := fun _ _ => rfl
theorem exec_scanStop : ∀ src, exec (.scanStop src) s = execScanStop src s := fun _ => rfl
theorem exec_hkaCal : ∀ src, exec (.hkaCal src) s = execHkaCal src s := fun _ => rfl
theorem exec_hkaCalDone : ∀ zeroSum refSum, exec (.hkaCalDone zeroSum refSum) s = execHkaCalDone zeroSum refSum s := fun _ _ => rfl
theorem exec_eventFire : ∀ page index, exec (.eventFire page index) s = execEventFire page index s := fun _ _ => rfl
theorem exec_graceExpiry : ∀ page, exec (.graceExpiry page) s = execGraceExpiry page s := fun _ => rfl
theorem exec_quietExpiry : ∀ page, exec (.quietExpiry page) s = execQuietExpiry page s := fun _ => rfl
theorem exec_fltAck : ∀ page index src, exec (.fltAck page index src) s = execFltAck page index src s := fun _ _ _ => rfl
theorem exec_evtStickyClear : ∀ page w bits src, exec (.evtStickyClear page w bits src) s = execEvtStickyClear page w bits src s := fun _ _ _ _ => rfl
theorem exec_evtClassWrite : ∀ page w value src, exec (.evtClassWrite page w value src) s = execEvtClassWrite page w value src s := fun _ _ _ _ => rfl
theorem exec_graceMsWrite : ∀ page ms src, exec (.graceMsWrite page ms src) s = execGraceMsWrite page ms src s := fun _ _ _ => rfl
theorem exec_quietSWrite : ∀ page seconds src, exec (.quietSWrite page seconds src) s = execQuietSWrite page seconds src s := fun _ _ _ => rfl
theorem exec_forceAlarmWrite : ∀ on src, exec (.forceAlarmWrite on src) s = execForceAlarmWrite on src s := fun _ _ => rfl
theorem exec_nvCommitDone : ∀ readBack wear, exec (.nvCommitDone readBack wear) s = execNvCommitDone readBack wear s := fun _ _ => rfl
theorem exec_nvScrubPass : ∀ corrected twice slots user others, exec (.nvScrubPass corrected twice slots user others) s = execNvScrubPass corrected twice slots user others s := fun _ _ _ _ _ => rfl
theorem exec_attestStart : ∀ src, exec (.attestStart src) s = execAttestStart src s := fun _ => rfl
theorem exec_attestComplete : ∀ signed loader firmware user signature, exec (.attestComplete signed loader firmware user signature) s = execAttestComplete signed loader firmware user signature s := fun _ _ _ _ _ => rfl
theorem exec_authAdd : ∀ index src, exec (.authAdd index src) s = execAuthAdd index src s := fun _ _ => rfl
theorem exec_authRemove : ∀ index src, exec (.authRemove index src) s = execAuthRemove index src s := fun _ _ => rfl
theorem exec_peerAdd : ∀ index src, exec (.peerAdd index src) s = execPeerAdd index src s := fun _ _ => rfl
theorem exec_peerRemove : ∀ index src, exec (.peerRemove index src) s = execPeerRemove index src s := fun _ _ => rfl
theorem exec_ksLoadKek : ∀ ty src, exec (.ksLoadKek ty src) s = execKsLoadKek ty src s := fun _ _ => rfl
theorem exec_ksImport : ∀ slot ty src, exec (.ksImport slot ty src) s = execKsImport slot ty src s := fun _ _ _ => rfl
theorem exec_ksClear : ∀ slot src, exec (.ksClear slot src) s = execKsClear slot src s := fun _ _ => rfl
theorem exec_ksOperationDone : ∀ lengthOk verified, exec (.ksOperationDone lengthOk verified) s = execKsOperationDone lengthOk verified s := fun _ _ => rfl
theorem exec_rngFail : exec .rngFail s = execRngFail s := rfl
theorem exec_guardTrip : ∀ sensors, exec (.guardTrip sensors) s = execGuardTrip sensors s := fun _ => rfl
theorem exec_guardPolicyWrite : ∀ policy src, exec (.guardPolicyWrite policy src) s = execGuardPolicyWrite policy src s := fun _ _ => rfl
theorem exec_guardSelftest : ∀ src, exec (.guardSelftest src) s = execGuardSelftest src s := fun _ => rfl
theorem exec_guardSelftestComplete : ∀ faults, exec (.guardSelftestComplete faults) s = execGuardSelftestComplete faults s := fun _ => rfl
theorem exec_debugLockSet : ∀ src, exec (.debugLockSet src) s = execDebugLockSet src s := fun _ => rfl
theorem exec_debugOpen : ∀ key src, exec (.debugOpen key src) s = execDebugOpen key src s := fun _ _ => rfl
theorem exec_frChallenge : ∀ mode src, exec (.frChallenge mode src) s = execFrChallenge mode src s := fun _ _ => rfl
theorem exec_frEnter : ∀ mode sigOk src, exec (.frEnter mode sigOk src) s = execFrEnter mode sigOk src s := fun _ _ _ => rfl
theorem exec_tapInstruction : ∀ ins, exec (.tapInstruction ins) s = execTapInstruction ins s := fun _ => rfl
theorem exec_fwQuiesceDone : exec .fwQuiesceDone s = execFwQuiesceDone s := rfl
theorem exec_fwRunningReport : ∀ version, exec (.fwRunningReport version) s = execFwRunningReport version s := fun _ => rfl
theorem exec_fwReplaceTimeout : exec .fwReplaceTimeout s = execFwReplaceTimeout s := rfl
theorem exec_coreWatchdog : ∀ core, exec (.coreWatchdog core) s = execCoreWatchdog core s := fun _ => rfl
theorem exec_userEnable : ∀ src, exec (.userEnable src) s = execUserEnable src s := fun _ => rfl
theorem exec_userDisable : ∀ src, exec (.userDisable src) s = execUserDisable src s := fun _ => rfl
theorem exec_userVerifyDone : ∀ good, exec (.userVerifyDone good) s = execUserVerifyDone good s := fun _ => rfl
theorem exec_pmuClear : ∀ core all src, exec (.pmuClear core all src) s = execPmuClear core all src s := fun _ _ _ => rfl
theorem exec_freezeAllWrite : ∀ on src, exec (.freezeAllWrite on src) s = execFreezeAllWrite on src s := fun _ _ => rfl
theorem exec_pmuSample : ∀ core counters pc, exec (.pmuSample core counters pc) s = execPmuSample core counters pc s := fun _ _ _ => rfl
theorem exec_sweepPeriod : exec .sweepPeriod s = execSweepPeriod s := rfl
theorem exec_sweepNow : ∀ src, exec (.sweepNow src) s = execSweepNow src s := fun _ => rfl
theorem exec_sweepClassDone : ∀ hits untested losses, exec (.sweepClassDone hits untested losses) s = execSweepClassDone hits untested losses s := fun _ _ _ => rfl
theorem exec_memBist : ∀ channel src, exec (.memBist channel src) s = execMemBist channel src s := fun _ _ => rfl
theorem exec_memBistDone : ∀ pass, exec (.memBistDone pass) s = execMemBistDone pass s := fun _ => rfl
theorem exec_repairEntryClear : ∀ entry src, exec (.repairEntryClear entry src) s = execRepairEntryClear entry src s := fun _ _ => rfl
theorem exec_fabricLaneCdrLock : ∀ k l, exec (.fabricLaneCdrLock k l) s = execFabricLaneCdrLock k l s := fun _ _ => rfl
theorem exec_dedicatedLossTimeout : ∀ n leaf, exec (.dedicatedLossTimeout n leaf) s = execDedicatedLossTimeout n leaf s := fun _ _ => rfl
theorem exec_quadPllUnlock : ∀ q, exec (.quadPllUnlock q) s = execQuadPllUnlock q s := fun _ => rfl
theorem exec_coreException : ∀ core, exec (.coreException core) s = execCoreException core s := fun _ => rfl
theorem exec_scrubStarved : ∀ scrubber, exec (.scrubStarved scrubber) s = execScrubStarved scrubber s := fun _ => rfl

end Sys2Proof.Machine
end

