-- ==== Sys2Proof/Laws/Requests.lean ====
section
/-!
SUPPORT. Requests and writes that pass their checks: a request of an open session executes, a core's write of a register reaches its
block, and the last word of an entry commits the whole of it.
-/

-- One declaration at a time: all at once need more threads than the check's memory limit allows.
set_option Elab.async false
namespace Sys2Proof.Machine

/-! ### The rows that are writes by their requester -/

theorem hostWrite_answers (src : Src) (a v : Nat) (s : State) : ∃ t, hostWrite src a v s = .next t := act_answers _ _
theorem hostField_answers (src : Src) (a : Nat) (f : Fld) (v : Nat) (s : State) : ∃ t, hostField src a f v s = .next t :=
  hostWrite_answers _ _ _ _
theorem hostEntry_answers (src : Src) (a : Nat) (v : List Word) (s : State) : ∃ t, hostEntry src a v s = .next t := act_answers _ _
theorem hostWords_answers (src : Src) (a : Nat) (v : List Nat) (s : State) : ∃ t, hostWords src a v s = .next t :=
  hostEntry_answers _ _ _ _

theorem hostWrite_of_stopped {src : Src} {a v : Nat} {s : State} (h : s.running = false) : hostWrite src a v s = .next s :=
  act_of_stopped h
theorem hostField_of_stopped {src : Src} {a : Nat} {f : Fld} {v : Nat} {s : State} (h : s.running = false) :
    hostField src a f v s = .next s := hostWrite_of_stopped h
theorem hostEntry_of_stopped {src : Src} {a : Nat} {v : List Word} {s : State} (h : s.running = false) :
    hostEntry src a v s = .next s := act_of_stopped h
theorem hostWords_of_stopped {src : Src} {a : Nat} {v : List Nat} {s : State} (h : s.running = false) :
    hostWords src a v s = .next s := hostEntry_of_stopped h

/-! ### Requests -/

/-- After READY a frame that arrives is handled at once. -/
theorem State.arrive_of_ready {s : State} (u : s.rapUp = true) (h : s.ready = true) (f : State → State) : s.arrive f = f s := by
  rw [State.arrive, if_neg (by simp [u]), if_pos h]

/-- After READY a frame for this part, with a good checksum where it has one, is handled. -/
theorem State.heard_of_ready {s : State} {v : Via} {hello : Bool} (u : s.rapUp = true) (h : s.ready = true)
    (m : s.toMe v hello = true) (k : v.udp = true → v.sumOk = true) (f : State → State) : s.heard v hello f = f s := by
  rw [State.heard, if_neg (by simp [m]), State.arrive_of_ready u h,
    if_neg (by intro c; rw [Bool.and_eq_true, Bool.not_eq_true'] at c; exact Bool.false_ne_true (c.2.symm.trans (k c.1)))]

/-- A request that nothing turns away or holds back executes. -/
theorem State.Takes.request {s t : State} {h : ReqHdr} {q : Req} (k : s.Takes h q t) :
    act s (·.request h q) = .next (t.runReq h.slot h q).settle := by
  obtain ⟨hr, hu, h1, hv, hs, h2, ⟨y, h3, h4⟩, h5, h6, h7⟩ := k
  rw [act_of_running hr, State.request, State.asked, State.accept, State.heard_of_ready hu h1 hv hs]
  dsimp only
  rw [if_neg (by simp [h2]), h3]
  dsimp only
  rw [← State.taken, ← h4]
  simp only [h5, h6, h7, Bool.false_eq_true, if_false]

/-- No FILL covers a register: FILLs write tables and the GDDR7 window. -/
theorem State.filling_of_register {s : State} {a : Nat} (h : a < 0x20000000) : s.filling a = false := by
  unfold State.filling
  split
  · rename_i f _
    have : ¬ f.range.1 ≤ a ∨ ¬ a < f.range.2 := by
      unfold FillJob.range
      split
      · left; dsimp only; simp only [gddrBase] at *; omega
      · split
        · left; dsimp only [entryAddr]; omega
        · dsimp only; omega
    rcases this with h | h <;> simp [h]
  · rfl

/-- A register's address in its page and offset. -/
theorem placeAt_reg {a : Nat} {k : Kind} {n p off : Nat} {r : RegSpec} (h : placeAt a = some (.reg k n p off r)) :
    a < 0x20000000 ∧ p = a / 0x1000 ∧ off = a % 0x1000 := by
  unfold placeAt at h
  split at h
  · cases hs : segAt a <;> simp [hs] at h
  · rename_i hn
    dsimp only at h
    split at h
    · cases h
    · rw [Option.map_eq_some_iff] at h
      obtain ⟨_, _, h⟩ := h
      simp only [Place.reg.injEq] at h
      exact ⟨by omega, h.2.2.1.symm, h.2.2.2.1.symm⟩

/-- A write that passes the checks before the block's own ends as the block says. -/
theorem writeAt_reg {s t : State} {src : Src} {toTag : Option (Nat × Nat)} {a v : Nat} {k : Kind} {n p off : Nat} {l : Bool}
    (hm : s.mayWrite src a v = true) (hk : (placeAt a).bind Place.key = some (k, n, p, off))
    (ho : (s.reached src).handle src toTag k n p off (s.written a v) = ⟨none, l, t⟩) :
    s.writeAt src toTag a v = ⟨rsOK, l, 0, t.wrote a⟩ := by
  simp only [State.mayWrite, Bool.and_eq_true, decide_eq_true_eq, Bool.not_eq_true'] at hm
  obtain ⟨⟨hden, hal⟩, hp⟩ := hm
  cases hpl : placeAt a with
  | none => rw [hpl] at hk; cases hk
  | some pl =>
    cases pl with
    | win g e w => rw [hpl] at hk; cases hk
    | reg k' n' p' off' r =>
      rw [hpl] at hk hp
      simp only [Option.bind_some, Place.key, Option.some.injEq, Prod.mk.injEq] at hk
      obtain ⟨rfl, rfl, rfl, rfl⟩ := hk
      obtain ⟨hlt, hpp, hoff⟩ := placeAt_reg hpl
      have hbase : pageBase p' + off' = a := by simp only [pageBase, hpp, hoff]; omega
      simp only [Bool.and_eq_true, bne_iff_ne, Bool.not_eq_true'] at hp
      obtain ⟨⟨hw, hin⟩, hcf⟩ := hp
      rw [State.writeAt]
      have eu : s.unlink src.code = s.reached src := rfl
      rw [eu, hden, if_neg (by simp), if_neg (by simp only [gddrBase]; omega), hpl]
      dsimp only
      rw [State.filling_of_register hlt, if_neg (by simp), State.writeReg]
      dsimp only
      rw [hbase]
      have ew : newWord r ((s.reached src).nat a) v = s.written a v := by rw [State.written, hpl]; rfl
      have en : (s.reached src).nat a = s.nat a := rfl
      rw [ew, en, if_neg hw, hin, if_neg (by simp), hcf, if_neg (by simp), ho, if_neg (by simp), WOut.end_, State.wrote, hpl]

/-- The row that a core's write of a register is. -/
theorem core_write_of {s : State} {c : Fin 8} {a v : Nat} {k : Kind} {n p off : Nat} {o : WOut} (hr : s.running = true)
    (hc : s.coreRuns c = true) (hm : s.mayWrite (.core c) a v = true) (hk : (placeAt a).bind Place.key = some (k, n, p, off))
    (ho : (s.reached (.core c)).handle (.core c) none k n p off (s.written a v) = o) (hj : o.rej = none) :
    hostWrite (.core c) a v s = .next (o.st.wrote a).settle := by
  obtain ⟨r, l, t⟩ := o
  have : r = none := hj
  subst this
  rw [hostWrite, act_of_running hr]
  dsimp only
  rw [if_pos hc, writeAt_reg hm hk ho]

/-- The row that a core's write of a header register is. -/
theorem core_header {s : State} {c : Fin 8} {page off v : Nat} (hr : s.running = true) (hc : s.coreRuns c = true)
    (hm : s.mayWrite (.core c) (pageBase page + off) v = true) (ho : off < 0x100)
    (hj : (wrHDR page off (s.written (pageBase page + off) v) (s.reached (.core c))).rej = none) :
    hostWrite (.core c) (pageBase page + off) v s
      = .next ((wrHDR page off (s.written (pageBase page + off) v) (s.reached (.core c))).st.wrote (pageBase page + off)).settle := by
  cases hpl : placeAt (pageBase page + off) with
  | none => simp only [State.mayWrite, hpl, Bool.and_false, Bool.false_eq_true] at hm
  | some pl =>
    cases pl with
    | win g e w => simp only [State.mayWrite, hpl, Bool.and_false, Bool.false_eq_true] at hm
    | reg k n p o r =>
      obtain ⟨_, hp, he⟩ := placeAt_reg hpl
      have hp' : p = page := by simp only [pageBase] at hp; omega
      have he' : o = off := by simp only [pageBase] at he; omega
      subst hp' he'
      refine core_write_of hr hc hm (k := k) (n := n) (by rw [hpl]; rfl) ?_ hj
      rw [State.handle.eq_def, if_pos ho]

/-- A row that is a session's write of a register. -/
theorem session_write_of {s t : State} {h : ReqHdr} {a v : Nat} {k : Kind} {n p off : Nat} {o : WOut}
    (ht : s.Takes h (.write (BitVec.ofNat 32 a) (BitVec.ofNat 32 v)) t) (ha : a < 2 ^ 32) (hv : v < 2 ^ 32)
    (hm : t.mayWrite (.rap h) a v = true) (hk : (placeAt a).bind Place.key = some (k, n, p, off))
    (ho : (t.reached (.rap h)).handle (.rap h) (some (h.slot.val, h.tag.toNat)) k n p off (t.written a v) = o) (hj : o.rej = none) :
    hostWrite (.rap h) a v s = .next (State.settle (let u := o.st.wrote a
      if o.later then
        let w := u.deferred
        { w with rap := { w.rap with blocked := w.rap.blocked ++ [h.slot.val] } }
      else u.respond h.slot h.tag.toNat (status rsOK))) := by
  obtain ⟨r, l, x⟩ := o
  have : r = none := hj
  subst this
  rw [hostWrite]
  dsimp only
  rw [ht.request, State.runReq, State.perform]
  have ea : (BitVec.ofNat 32 a).toNat = a := by rw [BitVec.toNat_ofNat]; exact Nat.mod_eq_of_lt ha
  have ev : (BitVec.ofNat 32 v).toNat = v := by rw [BitVec.toNat_ofNat]; exact Nat.mod_eq_of_lt hv
  simp only [ea, ev, writeAt_reg hm hk ho]
  cases l
  · simp only [Bool.false_eq_true, if_false, Acc.resp, Bool.false_and]
    rfl
  · simp only [if_true]

/-! ### Refused writes -/

/-- A write that passes the checks before the block's own and that the block refuses is recorded on its page (R75). -/
theorem writeAt_rej {s t : State} {src : Src} {toTag : Option (Nat × Nat)} {a v : Nat} {k : Kind} {n p off : Nat} {l : Bool} {r : Rej}
    (hm : s.mayWrite src a v = true) (hk : (placeAt a).bind Place.key = some (k, n, p, off))
    (ho : (s.reached src).handle src toTag k n p off (s.written a v) = ⟨some r, l, t⟩) :
    s.writeAt src toTag a v = ⟨r.status, false, 0, t.refuse p off false r src.code⟩ := by
  simp only [State.mayWrite, Bool.and_eq_true, decide_eq_true_eq, Bool.not_eq_true'] at hm
  obtain ⟨⟨hden, hal⟩, hp⟩ := hm
  cases hpl : placeAt a with
  | none => rw [hpl] at hk; cases hk
  | some pl =>
    cases pl with
    | win g e w => rw [hpl] at hk; cases hk
    | reg k' n' p' off' rg =>
      rw [hpl] at hk hp
      simp only [Option.bind_some, Place.key, Option.some.injEq, Prod.mk.injEq] at hk
      obtain ⟨rfl, rfl, rfl, rfl⟩ := hk
      obtain ⟨hlt, hpp, hoff⟩ := placeAt_reg hpl
      have hbase : pageBase p' + off' = a := by simp only [pageBase, hpp, hoff]; omega
      simp only [Bool.and_eq_true, bne_iff_ne, Bool.not_eq_true'] at hp
      obtain ⟨⟨hw, hin⟩, hcf⟩ := hp
      rw [State.writeAt]
      have eu : s.unlink src.code = s.reached src := rfl
      rw [eu, hden, if_neg (by simp), if_neg (by simp only [gddrBase]; omega), hpl]
      dsimp only
      rw [State.filling_of_register hlt, if_neg (by simp), State.writeReg]
      dsimp only
      rw [hbase]
      have ew : newWord rg ((s.reached src).nat a) v = s.written a v := by rw [State.written, hpl]; rfl
      have en : (s.reached src).nat a = s.nat a := rfl
      rw [ew, en, if_neg hw, hin, if_neg (by simp), hcf, if_neg (by simp), ho, if_pos (by simp), WOut.end_]

/-- The row that is a core's write of a register that the block refuses. -/
theorem core_write_rej {s : State} {c : Fin 8} {a v : Nat} {k : Kind} {n p off : Nat} {o : WOut} {r : Rej} (hr : s.running = true)
    (hc : s.coreRuns c = true) (hm : s.mayWrite (.core c) a v = true) (hk : (placeAt a).bind Place.key = some (k, n, p, off))
    (ho : (s.reached (.core c)).handle (.core c) none k n p off (s.written a v) = o) (hj : o.rej = some r) :
    hostWrite (.core c) a v s = .next (o.st.refuse p off false r (8 + c.val)).settle := by
  obtain ⟨r', l, t⟩ := o
  have : r' = some r := hj
  subst this
  rw [hostWrite, act_of_running hr]
  dsimp only
  rw [if_pos hc, writeAt_rej hm hk ho]
  rfl

/-- A session's write that ends with another status than OK is answered with it. -/
theorem session_write_failed {s t u : State} {h : ReqHdr} {a v : BitVec 32} {n : Nat} (ht : s.Takes h (.write a v) t)
    (hw : t.writeAt (.rap h) (some (h.slot.val, h.tag.toNat)) a.toNat v.toNat = ⟨n, false, 0, u⟩) :
    act s (·.request h (.write a v)) = .next (u.respond h.slot h.tag.toNat (status n)).settle := by
  rw [ht.request, State.runReq, State.perform]
  simp only [hw]
  simp only [Bool.false_eq_true, if_false, Acc.resp, Bool.false_and]
  rfl

/-- A session's write of a register that the block refuses. -/
theorem session_write_rej {s t : State} {h : ReqHdr} {a v : BitVec 32} {k : Kind} {n p off : Nat} {o : WOut} {r : Rej}
    (ht : s.Takes h (.write a v) t) (hm : t.mayWrite (.rap h) a.toNat v.toNat = true)
    (hk : (placeAt a.toNat).bind Place.key = some (k, n, p, off))
    (ho : (t.reached (.rap h)).handle (.rap h) (some (h.slot.val, h.tag.toNat)) k n p off (t.written a.toNat v.toNat) = o)
    (hj : o.rej = some r) :
    act s (·.request h (.write a v)) = .next ((o.st.refuse p off false r h.slot).respond h.slot h.tag.toNat (status r.status)).settle := by
  obtain ⟨r', l, x⟩ := o
  have : r' = some r := hj
  subst this
  exact session_write_failed ht (writeAt_rej hm hk ho)

/-! ### Whole entries -/

/-- Writing a key twice leaves the second value. -/
theorem Tab.put_put {α : Type} [DecidableEq α] {d : Nat → α} (t : Tab α) (h : t.Pairwise (fun a b => a.1 < b.1)) (k : Nat) (v w : α) :
    Tab.put d (Tab.put d t k v) k w = Tab.put d t k w := by
  have front : ∀ (l : Tab α), (∀ e ∈ l, k < e.1) → Tab.put d l k w = if w = d k then l else (k, w) :: l := by
    intro l hl
    cases l with
    | nil => rfl
    | cons e r =>
      have := hl e (by simp)
      obtain ⟨j, x⟩ := e
      simp only at this
      rw [Tab.put, if_neg (by omega), if_neg (by omega)]
  induction t with
  | nil => by_cases hv : v = d k <;> simp [Tab.put, hv]
  | cons e r ih =>
    obtain ⟨j, x⟩ := e
    obtain ⟨hlt, hr⟩ := List.pairwise_cons.mp h
    rcases Nat.lt_trichotomy j k with hj | hj | hj
    · rw [Tab.put, if_pos hj, Tab.put, if_pos hj, ih hr, Tab.put, if_pos hj]
    · subst hj
      rw [Tab.put, if_neg (by omega), if_pos rfl]
      have e2 : Tab.put d ((j, x) :: r) j w = if w = d j then r else (j, w) :: r := by rw [Tab.put, if_neg (by omega), if_pos rfl]
      rw [e2]
      split
      · exact front r hlt
      · rw [Tab.put, if_neg (by omega), if_pos rfl]
    · rw [Tab.put, if_neg (by omega), if_neg (by omega)]
      have e2 : Tab.put d ((j, x) :: r) k w = if w = d k then (j, x) :: r else (k, w) :: (j, x) :: r := by
        rw [Tab.put, if_neg (by omega), if_neg (by omega)]
      rw [e2]
      split
      · exact e2
      · rw [Tab.put, if_neg (by omega), if_pos rfl]

/-- A requester with words staged for the entry at `b`. -/
def State.staging (s : State) (i b : Nat) (l : List (Nat × Word)) : State :=
  s.setRequester i { s.requester i with lastLow := none, entry := some b, staged := l }

variable {s : State} {i b : Nat}

theorem State.setRequester_twice (h : s.rap.requesters.Pairwise (fun a b => a.1 < b.1)) (x y : Requester) :
    (s.setRequester i x).setRequester i y = s.setRequester i y := by
  simp only [State.setRequester, Tab.put_put _ h]

theorem State.requester_same (h : s.rap.requesters.Pairwise (fun a b => a.1 < b.1)) (x : Requester) :
    (s.setRequester i x).requester i = x := by
  simp only [State.requester, State.setRequester, Tab.get_put_same _ h]

/-- An access of the entry at `b` keeps the words staged for it. -/
theorem State.staging_enter (h : s.rap.requesters.Pairwise (fun a b => a.1 < b.1)) (l : List (Nat × Word)) :
    ((s.staging i b l).unlink i).atEntry i b = s.staging i b l := by
  simp only [State.staging, State.unlink, State.atEntry, State.requester_same h, State.setRequester_twice h, if_true]

/-- The first access of the entry at `b`. -/
theorem State.first_enter (h : s.rap.requesters.Pairwise (fun a b => a.1 < b.1)) :
    ∃ l, (s.unlink i).atEntry i b = s.staging i b l := by
  simp only [State.unlink, State.atEntry, State.requester_same h]
  split
  · rename_i he
    refine ⟨(s.requester i).staged, ?_⟩
    simp only [State.staging, he]
  · refine ⟨[], ?_⟩
    simp only [State.staging, State.setRequester_twice h]

/-- What is staged after word `j`. -/
def stagedAfter (l : List (Nat × Word)) (j v : Nat) : List (Nat × Word) := l.filter (fun y => y.1 ≠ j) ++ [(j, BitVec.ofNat 32 v)]

/-- The words staged so far, found by their place. -/
def Staged (l : List (Nat × Word)) (ws : List Word) (j : Nat) : Prop :=
  ∀ k, k < j → (l.find? (fun y => y.1 = k)).map (·.2) = some (ws.getD k 0)

theorem Staged.step {l : List (Nat × Word)} {ws : List Word} {j : Nat} (h : Staged l ws j) :
    Staged (stagedAfter l j (ws.getD j 0).toNat) ws (j + 1) := by
  intro k hk
  unfold stagedAfter
  rw [List.find?_append]
  rcases Nat.lt_or_ge k j with hl | hl
  · have e : (l.filter (fun y => y.1 ≠ j)).find? (fun y => y.1 = k) = l.find? (fun y => y.1 = k) := by
      rw [List.find?_filter]
      congr 1
      funext y
      by_cases hy : y.1 = k
      · simp [hy]; omega
      · simp [hy]
    rw [e]
    have := h k hl
    cases hf : l.find? (fun y => y.1 = k) with
    | none => rw [hf] at this; cases this
    | some y => rw [hf] at this; simpa using this
  · have : k = j := by omega
    subst this
    have e : (l.filter (fun y => y.1 ≠ k)).find? (fun y => y.1 = k) = none := by
      rw [List.find?_eq_none]
      intro y hy
      have := (List.mem_filter.1 hy).2
      simpa using this
    rw [e]
    simp

variable {c : Fin 8} {g : WinSeg} {e : Nat}

/-- A core's write of a word of an entry reaches the entry. -/
theorem State.MayCommit.reach (h : s.MayCommit c g e) {j v : Nat} (hj : j < g.stride / 4) {t : State}
    (ht : t.rap.fill = s.rap.fill) :
    t.writeAt (.core c) none (entryAddr g e + 4 * j) v = (t.reached (.core c)).writeWin (.core c) g e j v := by
  have hb := h.below
  have hs : 4 * (g.stride / 4) ≤ g.stride := Nat.mul_div_le _ _
  have hal := h.aligned
  have hfil : (t.reached (.core c)).filling (entryAddr g e + 4 * j) = false := by
    have := h.free (entryAddr g e + 4 * j) (by omega) (by omega)
    unfold State.filling at this ⊢
    have e : (t.reached (.core c)).rap.fill = t.rap.fill := rfl
    rw [e, ht]
    exact this
  have hge : 0x20000000 ≤ entryAddr g e := by unfold entryAddr; omega
  have hden : (t.reached (.core c)).writeDenied (.core c) (entryAddr g e + 4 * j) = false := by
    have hc := h.service
    have : Src.isUserCore (.core c) = false := by simp [Src.isUserCore]; omega
    have a1 : entryAddr g e + 4 * j ≠ SEC.page + SEC.AUTH_CMD := by
      have : SEC.page + SEC.AUTH_CMD < 0x20000000 := by decide
      omega
    have a2 : entryAddr g e + 4 * j ≠ SEC.page + SEC.DEBUG_CMD := by
      have : SEC.page + SEC.DEBUG_CMD < 0x20000000 := by decide
      omega
    simp [State.writeDenied, this, a1, a2]
  rw [State.writeAt]
  have eu : t.unlink (Src.code (.core c)) = t.reached (.core c) := rfl
  rw [eu, hden, if_neg (by simp), if_neg (by omega), h.place j hj]
  dsimp only
  rw [hfil, if_neg (by simp)]

theorem State.MayCommit.tail (h : s.MayCommit c g e) {ws : List Word} (hl : ws.length = g.stride / 4) :
    ∀ (m j : Nat) (l : List (Nat × Word)) (t : State) (x : Bool) (u : State), m + 1 + j = g.stride / 4 → Staged l ws j →
      t.rap.fill = s.rap.fill → (t.reached (.core c)).atEntry (8 + c.val) (entryAddr g e) = s.staging (8 + c.val) (entryAddr g e) l →
      (s.unstaged c).commitEntry (.core c) g e (s.entryOf g e (ws.map (·.toNat))) = ⟨none, x, u⟩ →
      t.coreWrites (.core c) ((ws.drop j).map (·.toNat)) (entryAddr g e + 4 * j) = u := by
  have hq := h.canonical.requesters.1
  have pr : ∀ l, (s.staging (8 + c.val) (entryAddr g e) l).requester (8 + c.val)
      = { s.requester (8 + c.val) with lastLow := none, entry := some (entryAddr g e), staged := l } := fun l =>
    State.requester_same hq _
  intro m
  induction m with
  | zero =>
    intro j l t x u hj hst hf ht ho
    have hd : ws.drop j = [ws.getD j 0] := by
      rw [List.drop_eq_getElem_cons (by omega), List.drop_eq_nil_of_le (by omega), List.getD_eq_getElem?_getD,
        List.getElem?_eq_getElem (by omega)]
      rfl
    rw [hd, List.map_cons, List.map_nil, State.coreWrites, h.reach (by omega) hf, State.writeWin]
    have ec : Src.code (.core c) = 8 + c.val := rfl
    dsimp only
    rw [ec, ht, if_neg (show ¬ j + 1 < g.stride / 4 by omega), pr]
    dsimp only
    have eu : (s.staging (8 + c.val) (entryAddr g e) l).setRequester (8 + c.val)
        { s.requester (8 + c.val) with lastLow := none, entry := none, staged := [] } = s.unstaged c :=
      State.setRequester_twice hq _ _
    rw [eu]
    have ew : (List.range (g.stride / 4)).map (fun i =>
        match (if i = j then some (ws.getD j 0).toNat else (l.find? (fun y => y.1 = i)).map (·.2.toNat)) with
        | some y => merged (s.staging (8 + c.val) (entryAddr g e) l) g e i y
        | none => (s.staging (8 + c.val) (entryAddr g e) l).nat (entryAddr g e + 4 * i)) = s.entryOf g e (ws.map (·.toNat)) := by
      unfold State.entryOf
      refine List.map_congr_left (fun i hi => ?_)
      have hi' := List.mem_range.1 hi
      have ev : (ws.map (·.toNat)).getD i 0 = (ws.getD i 0).toNat := by
        rw [List.getD_eq_getElem?_getD, List.getD_eq_getElem?_getD, List.getElem?_map]
        cases ws[i]? <;> rfl
      rw [ev]
      by_cases hij : i = j
      · subst hij; rw [if_pos rfl]; rfl
      · rw [if_neg hij]
        have := hst i (by omega)
        cases hfd : l.find? (fun y => y.1 = i) with
        | none => rw [hfd] at this; cases this
        | some z =>
          rw [hfd] at this
          simp only [Option.map_some, Option.some.injEq] at this
          simp only [Option.map_some, this]
          rfl
    erw [ew]
    rw [ho, WOut.end_]
    rfl
  | succ m ih =>
    intro j l t x u hj hst hf ht ho
    have hd : ws.drop j = ws.getD j 0 :: ws.drop (j + 1) := by
      rw [List.drop_eq_getElem_cons (by omega), List.getD_eq_getElem?_getD, List.getElem?_eq_getElem (by omega)]
      rfl
    rw [hd, List.map_cons, State.coreWrites, h.reach (by omega) hf, State.writeWin]
    have ec : Src.code (.core c) = 8 + c.val := rfl
    dsimp only
    rw [ec, ht, if_pos (show j + 1 < g.stride / 4 by omega), pr]
    dsimp only
    have es : (s.staging (8 + c.val) (entryAddr g e) l).setRequester (8 + c.val)
        { s.requester (8 + c.val) with
          lastLow := none
          entry := some (entryAddr g e)
          staged := l.filter (fun y => y.1 ≠ j) ++ [(j, BitVec.ofNat 32 (ws.getD j 0).toNat)] }
        = s.staging (8 + c.val) (entryAddr g e) (stagedAfter l j (ws.getD j 0).toNat) :=
      State.setRequester_twice hq _ _
    rw [es, if_neg (by simp)]
    have e4 : entryAddr g e + 4 * j + 4 = entryAddr g e + 4 * (j + 1) := by omega
    rw [e4]
    exact ih (j + 1) _ (s.staging (8 + c.val) (entryAddr g e) (stagedAfter l j (ws.getD j 0).toNat)) x u (by omega) hst.step rfl
      (State.staging_enter hq _) ho

/-- A core's write of all words of an entry commits them together (R81). -/
theorem State.MayCommit.bulk (h : s.MayCommit c g e) {ws : List Word} (hl : ws.length = g.stride / 4) {x : Bool} {u : State}
    (ho : (s.unstaged c).commitEntry (.core c) g e (s.entryOf g e (ws.map (·.toNat))) = ⟨none, x, u⟩) :
    s.coreWrites (.core c) (ws.map (·.toNat)) (entryAddr g e) = u := by
  obtain ⟨l, hl0⟩ := State.first_enter (s := s) (i := 8 + c.val) (b := entryAddr g e) h.canonical.requesters.1
  have hw := h.words
  exact h.tail hl (g.stride / 4 - 1) 0 l s x u (by omega) (fun k hk => by omega) rfl hl0 ho

/-- The row that writes a whole entry, by a core. -/
theorem core_entry (h : s.MayCommit c g e) {ws : List Word} (hl : ws.length = g.stride / 4) {x : Bool} {u : State}
    (ho : (s.unstaged c).commitEntry (.core c) g e (s.entryOf g e (ws.map (·.toNat))) = ⟨none, x, u⟩) {a : Nat}
    (ha : a = entryAddr g e) : hostEntry (.core c) a ws s = .next u.settle := by
  subst ha
  rw [hostEntry, act_of_running h.running]
  dsimp only
  rw [if_pos h.runs, h.bulk hl ho]

/-- The same, for the table's answer by name. -/
theorem core_entry_of (h : s.MayCommit c g e) {ws : List Word} (hl : ws.length = g.stride / 4) {o : WOut}
    (ho : (s.unstaged c).commitEntry (.core c) g e (s.entryOf g e (ws.map (·.toNat))) = o) (hj : o.rej = none) {a : Nat}
    (ha : a = entryAddr g e) : hostEntry (.core c) a ws s = .next o.st.settle := by
  obtain ⟨r, l, t⟩ := o
  have : r = none := hj
  subst this
  exact core_entry h hl ho ha

/-- A core's write of the last word of an entry for which it has staged none commits it (R81). -/
theorem State.MayCommit.last (h : s.MayCommit c g e) (hn : (s.requester (8 + c.val)).entry ≠ some (entryAddr g e)) {v : Nat} {x : Bool}
    {u : State} (ho : (s.unstaged c).commitEntry (.core c) g e (s.lastOf g e v) = ⟨none, x, u⟩) {a : Nat}
    (ha : a = entryAddr g e + 4 * (g.stride / 4 - 1)) : hostWrite (.core c) a v s = .next u.settle := by
  subst ha
  have hw := h.words
  have hq := h.canonical.requesters.1
  rw [hostWrite, act_of_running h.running]
  dsimp only
  rw [if_pos h.runs, h.reach (by omega) rfl, State.writeWin]
  have ec : Src.code (.core c) = 8 + c.val := rfl
  have ht : (s.reached (.core c)).atEntry (8 + c.val) (entryAddr g e) = s.staging (8 + c.val) (entryAddr g e) [] := by
    simp only [State.reached, ec, State.unlink, State.atEntry, State.requester_same hq, State.setRequester_twice hq, State.staging]
    rw [if_neg hn]
  have pr : (s.staging (8 + c.val) (entryAddr g e) []).requester (8 + c.val)
      = { s.requester (8 + c.val) with lastLow := none, entry := some (entryAddr g e), staged := [] } := State.requester_same hq _
  dsimp only
  rw [ec, ht, if_neg (show ¬ g.stride / 4 - 1 + 1 < g.stride / 4 by omega), pr]
  dsimp only
  have eu : (s.staging (8 + c.val) (entryAddr g e) []).setRequester (8 + c.val)
      { s.requester (8 + c.val) with lastLow := none, entry := none, staged := [] } = s.unstaged c := State.setRequester_twice hq _ _
  rw [eu]
  have ew : (List.range (g.stride / 4)).map (fun i =>
      match (if i = g.stride / 4 - 1 then some v else (([] : List (Nat × Word)).find? (fun y => y.1 = i)).map (·.2.toNat)) with
      | some y => merged (s.staging (8 + c.val) (entryAddr g e) []) g e i y
      | none => (s.staging (8 + c.val) (entryAddr g e) []).nat (entryAddr g e + 4 * i)) = s.lastOf g e v := by
    unfold State.lastOf
    refine List.map_congr_left (fun i _ => ?_)
    by_cases hij : i = g.stride / 4 - 1
    · rw [if_pos hij, if_pos (by omega)]; rfl
    · rw [if_neg hij, if_neg (by omega)]; rfl
  erw [ew]
  rw [ho, WOut.end_]

/-- The same, for the table's answer by name. -/
theorem State.MayCommit.last_of (h : s.MayCommit c g e) (hn : (s.requester (8 + c.val)).entry ≠ some (entryAddr g e)) {v : Nat}
    {o : WOut} (ho : (s.unstaged c).commitEntry (.core c) g e (s.lastOf g e v) = o) (hj : o.rej = none) {a : Nat}
    (ha : a = entryAddr g e + 4 * (g.stride / 4 - 1)) : hostWrite (.core c) a v s = .next o.st.settle := by
  obtain ⟨r, l, t⟩ := o
  have : r = none := hj
  subst this
  exact h.last hn ho ha

/-- The segment of a table whose words a core may write. -/
theorem State.MayCommit.mem (h : s.MayCommit c g e) : g ∈ winSegs := by
  have := h.place 0 h.words
  unfold placeAt at this
  split at this
  · unfold segAt at this
    split at this
    · cases this
    · dsimp only at this
      split at this
      · cases this
      · rename_i hf
        simp only [Option.map_some, Option.some.injEq, Place.win.injEq] at this
        rw [← this.1]
        exact List.mem_of_find?_eq_some hf
  · dsimp only at this
    split at this
    · cases this
    · rw [Option.map_eq_some_iff] at this
      obtain ⟨_, _, h⟩ := this
      cases h

/-- An entry with a writable word is handed to its table. -/
theorem commit_acts {ws : List Nat} (hl : ws.length = g.stride / 4)
    (hc : (List.range (g.stride / 4)).any (fun i => g.rw.getD i 0 != 0) = true) :
    ¬ ((((List.range ws.length).filter (fun i => g.rw.getD i 0 != 0)).map
      (fun i => (entryAddr g e + 4 * i, ws.getD i 0))).isEmpty = true) := by
  rw [hl, List.isEmpty_iff, List.map_eq_nil_iff, List.filter_eq_nil_iff]
  intro h
  obtain ⟨i, hi, hp⟩ := List.any_eq_true.1 hc
  exact h i hi hp

end Sys2Proof.Machine
end

