-- ==== Sys2Proof/WellFormed.lean ====
section
/-!
DEFINITION. Which commands are well formed: the operands that are lists or open numbers have the lengths and lie in the ranges that
the rules of the manual give them; every other operand is in range by its type.
-/
namespace Sys2Proof

/-- The check of a command's operands. -/
def Instr.wf : Instr → Bool
  | .bulkWrite _ _ count words => words.length = count
  | .bulkRead _ _ count => decide (count < 2 ^ 32)
  | .fill _ _ count pattern => pattern.length = 8 && decide (count < 2 ^ 32)
  | .imagePush _ _ bytes => decide (bytes.length ≤ 4100)
  | .imageVerified _ _ _ record => decide (record.length ≤ 4096)
  | .calPeriodEnd _ adc dac _ =>
    (adc.isEmpty || (adc.length = 4 && adc.all (fun a => a.pos.length = 64))) && (dac.isEmpty || dac.length = 64)
  | .eqBlockUpdate _ _ adc => adc.length = 4
  | .burstMapDecode _ _ entries => entries.length = 16
  | .burstSyncLatch _ _ _ _ _ _ _ _ _ _ _ adc => adc.length = 4
  | .fecEncode _ stream => decide (stream < 16)
  | .codewordDecode _ stream => decide (stream < 16)
  | .bchDecode _ stream => decide (stream < 16)
  | .lateCodeword _ stream _ => decide (stream < 16)
  | .gatheringCommit _ words _ => words.length = 16
  | .keyEntryCommit _ words _ => words.length = 8
  | .meterCommit _ words _ => words.length = 8
  | .shaperCommit _ words _ => words.length = 4
  | .ctleSweepDone _ _ foms => foms.length = 16
  | .topoCellRx _ _ _ _ _ idx cnt _ => decide (idx.val < cnt.val)
  | .routeEntryCommit _ words _ => words.length = 4
  | .timSecond ys phases _ _ _ _ => ys.length = 16 && phases.length = 16
  | .wholePageWrite _ data => data.length = 56 && data.all (fun l => l.length = 32)
  | .readModifyWrite _ words _ _ =>
    decide (words.length < 56) && words.all (fun x => x.2.length = 32) && (words.map (·.1)).eraseDups.length = words.length
  | .govPeriod readings => readings.length = 16
  | .thmSample temps => temps.length = 40
  | .deviceResetRelease .. | .deviceResetEntry .. | .strapsSampled .. | .rootPllLocked .. | .rootUnlock ..
  | .nvLoaded .. | .sramDone .. | .gddr7TrainingDone .. | .loaderOk .. | .rapUp .. | .clientSerdesLocked ..
  | .fwVerify .. | .ready .. | .warmReset .. | .warmResetStart .. | .carrierUp .. | .carrierDown ..
  | .carrierUpComplete .. | .fabricOpen .. | .blockEnable .. | .blockDisable .. | .blockSoftReset ..
  | .softResetComplete .. | .stateReqActive .. | .stateReqDrain .. | .stateReqConfig .. | .drainEnd ..
  | .registerWrite .. | .rapInvalidFrame .. | .hello .. | .sessionInit .. | .sessionConfirm .. | .sessionClose ..
  | .nop .. | .read .. | .write .. | .modify .. | .fillComplete .. | .imageCommit .. | .evtSubscribe .. | .evtAck ..
  | .sessionIdleTimeout .. | .responseRetentionExpiry .. | .neighborSolicitation .. | .icmpv6Echo ..
  | .encapModeWrite .. | .mgtLinkDown .. | .mgtLinkUp .. | .linePllLocked .. | .linePllUnlock .. | .sigOkChange ..
  | .calGutterCommit .. | .spareSwapCommit .. | .sparePrecalTimeout .. | .calFull .. | .fullCalDone .. | .calSwap ..
  | .calAbortSpare .. | .calTargetWrite .. | .d2dLaneFail .. | .d2dLaneExchange .. | .rxLosDeclare ..
  | .rxLosClear .. | .waitSignalExit .. | .cdTrial .. | .freqAcqEstimate .. | .freqAcqTimeout .. | .eqBlindTimeout ..
  | .rxGutterCorrelate .. | .gutterSearchTimeout .. | .acqTrainTimeout .. | .freqCaptureLoss .. | .acqRestart ..
  | .rxdSnap .. | .cdMemClear .. | .fbZero .. | .laserFbUpdate .. | .fbResponseCheck .. | .nlcRequest ..
  | .nlcStopRequest .. | .nlcGutterStart .. | .nlcLeaveEnd .. | .measPeriodEnd .. | .sopBoostStart ..
  | .sopBoostEnd .. | .phaseJump .. | .deskewStep .. | .cdFilterMove .. | .sliceFail .. | .sliceHandover ..
  | .sliceShadowError .. | .txFolioMap .. | .unmuteStart .. | .laserReadyTimeout .. | .outputRampDone ..
  | .txMuteWrite .. | .optFaultChange .. | .optFaultHoldoffExpiry .. | .faultEnWrite .. | .maskCheck ..
  | .maskCheckDone .. | .maskApply .. | .maskBankExchange .. | .maskLiveMeasure .. | .cdPreTargetWrite ..
  | .cdPreMove .. | .txSkewStep .. | .clipCheck .. | .ocpSpiTx .. | .ocpSpiTransferDone .. | .schedCheck ..
  | .schedApply .. | .schedSwitch .. | .burstMapFill .. | .quietWindowOpen .. | .joinDecision ..
  | .leafListedWrite .. | .leafDeregister .. | .upOwnerWrite .. | .leafJoinStart .. | .leafReplyTimeout ..
  | .leafFirstBurst .. | .leafHoldEntry .. | .leafHoldTimeout .. | .burstStateLoad .. | .burstDetection ..
  | .burstNoSync .. | .burstRampDown .. | .burstVerdict .. | .burstWindowMissing .. | .windowLost ..
  | .engineShadowCheck .. | .engineSpareJoin .. | .imaxWrite .. | .histClear .. | .folioRx .. | .alignRestart ..
  | .hbSnap .. | .folioTx .. | .sdSecond .. | .burstSpineCheck .. | .ospExtractUnit .. | .ospInsertUnit ..
  | .pmbSecondEnd .. | .pmbSecondFinal .. | .epRecordFlush .. | .alignOffsetWrite .. | .gthTxUnit ..
  | .gatheringMarkerRx .. | .unitOutput .. | .gthRecollate .. | .selClear .. | .selManualA .. | .selManualB ..
  | .selForceA .. | .selForceB .. | .pgCfgWrite .. | .pgClear .. | .pgLockout .. | .pgForce .. | .pgManual ..
  | .pgHoldOffExpiry .. | .pgWtrExpiry .. | .pgFop .. | .cryTxUnit .. | .cryRxUnit .. | .txKeyLoad .. | .rxKeyLoad ..
  | .keyLoadDone .. | .switchTx .. | .rxResync .. | .crySelfTest .. | .crySelfTestDone .. | .agreeStart ..
  | .agreeAbort .. | .agreeA1Rx .. | .agreeA2Rx .. | .agreeA3Rx .. | .agreeAbortRx .. | .agreeTimeout ..
  | .agreeKeysStored .. | .clientLaneStatus .. | .laneAdaptDone .. | .portFrameRx .. | .missLookupDone ..
  | .signatureBuildDone .. | .cacheFlush .. | .pcsFaultRx .. | .transparentMapUnit .. | .demapUnit ..
  | .queueEntryCommit .. | .clearDebt .. | .shaperWheelSlot .. | .frameDequeue .. | .stagingPageWrite ..
  | .egressFifoXoff .. | .egressFifoXon .. | .frameReassembly .. | .fabricTrainStart .. | .linkTrainTimeout ..
  | .backoffExpiry .. | .negotiateTimeout .. | .laneFrameRx .. | .laneFail .. | .laneRestore .. | .ditherTrial ..
  | .fomRefresh .. | .fblRetrain .. | .cellRx .. | .helloSend .. | .helloCellRx .. | .neighbourDead ..
  | .topoFlood .. | .topoAgeOut .. | .routeCompute .. | .routeApply .. | .reseqGapTimeout .. | .reseqSourceTimeout ..
  | .pauseCellRx .. | .pauseRefresh .. | .pauseExpiry .. | .refActivityChange .. | .ppsinEdge .. | .refWtrExpiry ..
  | .dpllLock .. | .dpllLockLost .. | .dpllModeWrite .. | .phaseStep .. | .slewDone .. | .lineSteerUpdate ..
  | .slotCfgWrite .. | .monrefChange .. | .clkoutChange .. | .ppsoutAlign .. | .ppsoutEnable .. | .ppsPulse ..
  | .esmcPduRx .. | .esmcTimeout .. | .esmcPduSend .. | .gddr7Read .. | .slowPathDone .. | .scrubPage ..
  | .memTempRead .. | .memRetrain .. | .channelDeviceFail .. | .rawWindowWrite .. | .leaveRequest ..
  | .leaveGrantQueued .. | .leaveEnd .. | .leaveOverrun .. | .budgetWrite .. | .standingBaseWrite .. | .avsEval ..
  | .droopTrip .. | .droopShedEnd .. | .coreGateWindow .. | .scanTimerTick .. | .scanStart .. | .tipInTrigger ..
  | .hkaEntryDone .. | .scanStop .. | .hkaCal .. | .hkaCalDone .. | .eventFire .. | .graceExpiry .. | .quietExpiry ..
  | .fltAck .. | .evtStickyClear .. | .evtClassWrite .. | .graceMsWrite .. | .quietSWrite .. | .forceAlarmWrite ..
  | .nvCommitDone .. | .nvScrubPass .. | .attestStart .. | .attestComplete .. | .authAdd .. | .authRemove ..
  | .peerAdd .. | .peerRemove .. | .ksLoadKek .. | .ksImport .. | .ksClear .. | .ksOperationDone .. | .rngFail ..
  | .guardTrip .. | .guardPolicyWrite .. | .guardSelftest .. | .guardSelftestComplete .. | .debugLockSet ..
  | .debugOpen .. | .frChallenge .. | .frEnter .. | .tapInstruction .. | .fwQuiesceDone .. | .fwRunningReport ..
  | .fwReplaceTimeout .. | .coreWatchdog .. | .userEnable .. | .userDisable .. | .userVerifyDone .. | .pmuClear ..
  | .freezeAllWrite .. | .pmuSample .. | .sweepPeriod .. | .sweepNow .. | .sweepClassDone .. | .memBist ..
  | .memBistDone .. | .repairEntryClear .. | .fabricLaneCdrLock .. | .dedicatedLossTimeout .. | .quadPllUnlock ..
  | .coreException .. | .scrubStarved .. => true

end Sys2Proof
end

