-- ==== Sys2Proof/Tests/Slice0.lean ====
section
/-!
SUPPORT. Tests: the well-formedness checks, witnesses that the hypotheses of the statements can be met, and single steps whose results the
manual gives.
-/

-- One declaration at a time: all at once need more threads than the check's memory limit allows.
set_option Elab.async false
open Sys2Proof Sys2Proof.Machine
namespace Sys2Proof.Tests

/-! ### Small states -/

/-- Out of device reset. -/
def up : State := { boot := { pwrgood := true, resetN := true } }

/-- Out of device reset, at a stage of the boot. -/
def stage (n : Nat) : State := up.setStage n

/-- READY has been reached, with its firmware. -/
def live : State :=
  let s := (up.setStage stREADY).setB SYS.page SYS.SYS_STATE_READY true
  { s with boot := { s.boot with fwStarted := true } }.set CPU.page CPU.FW_STATUS_SVC_STATE svRUNNING

/-- READY, with session 0 open. -/
def opened : State := live.setSession 0 { stage := .opened, version := 0x21, tokens := 10 }

/-- The first request of session 0. -/
def hdr : ReqHdr := { slot := 0, seq := 1, tag := 7, retry := false }

/-- The state at which a request of session 0 executes. -/
def tk (s : State) (q : Req) : State := s.taken hdr ((seqAccept (s.session hdr.slot) hdr.seq.toNat).getD {}) q

/-- What `State.Takes` asks of the first request of session 0, as one check. -/
def takesCheck (s : State) (q : Req) : Bool :=
  s.running && s.rapUp && s.ready && s.toMe hdr.via false && (!hdr.via.udp || hdr.via.sumOk)
    && (s.session hdr.slot).stage = .opened && (seqAccept (s.session hdr.slot) hdr.seq.toNat).isSome && ((tk s q).keptFor hdr).isNone
    && ((tk s q).turnedAway ((tk s q).session hdr.slot).version q).isNone && !(tk s q).rap.blocked.contains hdr.slot.val

theorem takes {s : State} {q : Req} (h : takesCheck s q = true) : s.Takes hdr q (tk s q) := by
  simp only [takesCheck, Bool.and_eq_true, Option.isSome_iff_exists, Option.isNone_iff_eq_none, decide_eq_true_eq,
    Bool.not_eq_true', Bool.or_eq_true] at h
  obtain ⟨⟨⟨⟨⟨⟨⟨⟨⟨h1, h2⟩, h3⟩, h4⟩, _⟩, h6⟩, y, h7⟩, h8⟩, h9⟩, h10⟩ := h
  exact { running := h1, up := h2, ready := h3, toMe := h4, sumOk := fun _ => rfl, opened := h6,
          seq := ⟨y, h7, by rw [tk, h7]; rfl⟩, fresh := h8, fits := h9, free := h10 }

/-- The state after a command; the state before it where it stops. -/
def after (c : Instr) (s : State) : State :=
  match exec c s with
  | .next t => t
  | _ => s

/-- A table in canonical form, as a check. -/
def canonTab {α : Type} [DecidableEq α] (d : Nat → α) (t : List (Nat × α)) : Bool :=
  decide (t.Pairwise (fun a b => a.1 < b.1)) && t.all (fun e => decide (e.2 ≠ d e.1))

theorem canonTab_ok {α : Type} [DecidableEq α] {d : Nat → α} {t : List (Nat × α)} (h : canonTab d t = true) : Tab.Canon d t := by
  rw [canonTab, Bool.and_eq_true, decide_eq_true_eq, List.all_eq_true] at h
  exact ⟨h.1, fun e he => of_decide_eq_true (h.2 e he)⟩

/-- `State.Canonical`, as a check. -/
def canonCheck (s : State) : Bool :=
  canonTab resetWord s.regs && canonTab (fun _ => {}) s.pages && canonTab (fun _ => []) s.osp && canonTab (fun _ => {}) s.gath
    && canonTab (fun _ => {}) s.pg && canonTab (fun _ => {}) s.cry && canonTab (fun _ => {}) s.ports && canonTab (fun _ => {}) s.fbl
    && decide (Memory.wf s.mem) && canonTab (fun _ => {}) s.rap.sessions && canonTab (fun _ => {}) s.rap.requesters

theorem canonical {s : State} (h : canonCheck s = true) : s.Canonical := by
  simp only [canonCheck, Bool.and_eq_true, decide_eq_true_eq] at h
  obtain ⟨⟨⟨⟨⟨⟨⟨⟨⟨⟨h1, h2⟩, h3⟩, h4⟩, h5⟩, h6⟩, h7⟩, h8⟩, h9⟩, h10⟩, h11⟩ := h
  exact ⟨canonTab_ok h1, canonTab_ok h2, canonTab_ok h3, canonTab_ok h4, canonTab_ok h5, canonTab_ok h6, canonTab_ok h7,
    canonTab_ok h8, h9, canonTab_ok h10, canonTab_ok h11⟩

/-! ### Witnesses: states that meet the hypotheses of the statements -/

theorem witness_EmptyQueueStepIsAClockCycle :
    State.reset.pending = [] ∧ State.reset.inReset = true ∧ up.pending = [] ∧ up.inReset = false ∧
    ({ up with boot := { up.boot with shutdown := true } } : State).boot.shutdown = true := by decide +kernel

theorem witness_CommandsKeepQueueTimeAndOutput :
    exec (.quietWindowOpen 0 true) State.reset = .next State.reset ∧
    ∃ t, exec .coreGateWindow { up with pending := [.drainEnd 20] } = .next t ∧ t.pending = [.drainEnd 20] :=
  ⟨rfl, _, rfl, by decide +kernel⟩

theorem witness_OnlyAnOpenTapStops :
    exec (.tapInstruction .vendor) (up.set SEC.page SEC.DEBUG_STATE 1) = .fault .tapUndescribed ∧
    ∃ t, exec (.tapInstruction .vendor) up = .next t := ⟨rfl, _, rfl⟩

theorem witness_StoppedPartIgnoresCommands :
    State.reset.running = false ∧ ({ up with boot := { up.boot with shutdown := true } } : State).running = false := by
  decide +kernel

theorem witness_BootStepsComplete :
    up.running = true ∧ up.stage = stSTRAPS - 1 ∧
    (∀ n ∈ [stSTRAPS, stSRAM, stLOADER, stRAP], (stage n).running = true ∧ (stage n).stage = n) := by decide +kernel

theorem witness_BootSideStepsComplete :
    (let s := up.setB CLK.page CLK.ROOT_STATUS_LOCKED true; s.running = true ∧ s.flag CLK.page CLK.ROOT_STATUS_LOCKED = true) ∧
    (let s := stage stRAP; s.running = true ∧ stRAP ≤ s.stage ∧ s.boot.recovery = false ∧ s.boot.serdesLocked = false) ∧
    (let s := stage stSRAM; s.running = true ∧ stSRAM ≤ s.stage ∧ s.boot.recovery = false ∧ s.boot.gddrDone = false) ∧
    (let s : State := { stage stROOT with boot := { up.boot with alarmHold := false } }
     s.running = true ∧ s.stage = stROOT ∧ s.boot.alarmHold = false) ∧
    (stage stNV).stage = stNV ∧
    (let s : State := { live with nv := { live.nv with verifying := true } }
     s.running = true ∧ s.nv.verifying = true ∧ s.boot.recovery = false) := by decide +kernel

theorem witness_ReadyAndCarriersComplete :
    (stage stVERIFY).running = true ∧ (stage stVERIFY).stage = stVERIFY ∧
    (let s : State := { live with boot := { live.boot with warmDue := some 5 } }; s.running = true ∧ s.boot.warmDue = some 5) ∧
    (∀ n ∈ [0, 1], let s := (live.set SYS.page (carrierStateFld n) cBRINGING).setStream n 0 { locked := true }
      s.running = true ∧ s.carrier n = cBRINGING ∧ (s.stream n 0).locked = true) ∧
    (let s := live.set SYS.page (carrierStateFld 1) cBRINGING
     let s : State := { s with now := 200 * nsMs, pwr := { s.pwr with active := [{ op := 0, unit := 1, cost := 0, standing := 0, at_ := 0, durationMs := 200 }] } }
     s.carrier 1 = cBRINGING ∧ s.pwr.active.all (fun r => decide (r.at_ + 200 * nsMs ≤ s.now)) = true) ∧
    (∀ p ∈ [0, 127], let s := live.setPage p { softReset := true }; s.running = true ∧ (s.page p).softReset = true) ∧
    (∀ p ∈ [0x20, 0x28], let s := live.setBlk p bDRAIN
      s.running = true ∧ s.blk p = bDRAIN ∧ (s.page p).softReset = false ∧ s.drained p = true) := by decide +kernel

theorem witness_DeviceResetEntersAndReleases :
    up.inReset = false ∧ State.reset.inReset = true ∧ (999 < 1000 ∧ 1000 ≤ 1000 ∧ 1000 < 10000 ∧ 1000 ≤ 9999 ∧ 9999 < 10000) ∧
    ((true && false) = false ∧ (true = true → 10000 ≤ 10000)) ∧ ((false && true) = false ∧ (false = true → 10000 ≤ 0)) ∧
    canonCheck State.reset = true ∧ nvWord (SYS.page + SYS.BOOT_TIME) = false ∧ (∀ i < 16, SYS.page + SYS.BOOT_TIME ≠ PWR.page + PWR.RAIL i) ∧
    SYS.page + SYS.BOOT_TIME ≠ SEC.page + SEC.DEBUG_LOCKED.off ∧ SYS.page + SYS.BOOT_TIME ≠ THM.page + THM.LAST_SHUTDOWN := by
  decide +kernel

theorem witness_RequestRowsComplete :
    opened.Takes hdr .nop (tk opened .nop) ∧ opened.Takes hdr .close (tk opened .close) ∧
    (opened.Takes hdr (.read 0) (tk opened (.read 0)) ∧ opened.Takes hdr (.read 0x1FFC) (tk opened (.read 0x1FFC)) ∧
      (∀ a ∈ [0, 0x1FFC], a % 4 = 0 ∧ a < gddrBase ∧ (tk opened (.read (BitVec.ofNat 32 a))).filling a = false) ∧
      (placeAt 0).any (·.half != 2) = true) ∧
    (opened.Takes hdr (.write 0x44 1) (tk opened (.write 0x44 1)) ∧
      (let x := (tk opened (.write 0x44 1)).writeAt (.rap hdr) (some (0, 7)) 0x44 1; x.status = rsOK ∧ x.later = false)) ∧
    (opened.Takes hdr (.modify 0x44 1 1) (tk opened (.modify 0x44 1 1)) ∧
      (let x := (tk opened (.modify 0x44 1 1)).modifyAt (.rap hdr) (some (0, 7)) 0x44 1 1; x.status = rsOK ∧ x.later = false)) := by
  refine ⟨takes ?_, takes ?_, ⟨takes ?_, takes ?_, ?_⟩, ⟨takes ?_, ?_⟩, takes ?_, ?_⟩ <;> decide +kernel

/-- `opened` under the largest power budget. -/
def rich : State := opened.set PWR.page PWR.BUDGET_MW 195000

theorem witness_RequestRowsComplete_bulk :
    (opened.Takes hdr (.bulkWrite 0x40 2 [1, 2]) (tk opened (.bulkWrite 0x40 2 [1, 2])) ∧
      (let t := tk opened (.bulkWrite 0x40 2 [1, 2])
       t.writeDenied (.rap hdr) 0x40 = false ∧ (State.bulkWrite (.rap hdr) (some (0, 7)) [1, 2] 0x40 0 t).2.2.1 = none)) ∧
    opened.Takes hdr (.bulkRead 0x1000 2) (tk opened (.bulkRead 0x1000 2)) ∧
    (let q : Req := .fill 0x20000000 4 (List.replicate 8 0)
     rich.Takes hdr q (tk rich q) ∧ (tk rich q).isClaim (.rap hdr) = false ∧
      (segAt 0x20000000).isNone = false ∧ (tk rich q).rap.fill = none ∧
      (((tk rich q).unlink (Src.rap hdr).code).requestLeave { catalogue 4 0 with durationMs := Config.fillMs 4 }).1 = .granted) ∧
    (opened.Takes hdr (.push 0 [1, 2]) (tk opened (.push 0 [1, 2])) ∧ (tk opened (.push 0 [1, 2])).isClaim (.rap hdr) = false) ∧
    (opened.Takes hdr (.commit 2) (tk opened (.commit 2)) ∧ (tk opened (.commit 2)).isClaim (.rap hdr) = false) ∧
    opened.Takes hdr (.subscribe 1 1) (tk opened (.subscribe 1 1)) ∧
    (opened.Takes hdr (.ack 0 3) (tk opened (.ack 0 3)) ∧ (tk opened (.ack 0 3)).isClaim (.rap hdr) = false ∧
      (pageKind 0).isNone = false ∧ (3 : BitVec 8).toNat < 128) := by
  refine ⟨⟨takes ?_, ?_⟩, takes ?_, ⟨takes ?_, ?_⟩, ⟨takes ?_, ?_⟩, ⟨takes ?_, ?_⟩, takes ?_, takes ?_, ?_⟩ <;> decide +kernel

/-- A frame of the encapsulation 1 (UDP) for the part's link-local address. -/
def udpVia (s : State) : Via :=
  { udp := true, dst := BitVec.ofNat 128 (0xFE80 * 2 ^ 112 + s.ifaceId), dport := BitVec.ofNat 16 (s.get RAP.page RAP.UDP_PORT_PORT) }

theorem witness_SessionRowsComplete :
    (let s := live; s.running = true ∧ s.rapUp = true ∧ s.ready = true ∧ hdr.via.udp = false ∧ s.toMe hdr.via true = true ∧
      s.toMe hdr.via false = true ∧ s.rxFrame.rap.outstanding < 64) ∧
    (let s : State := { live with rap := { live.rap with udp := true } }
     s.toMe (udpVia s) false = true ∧ (udpVia s).udp = true ∧ (udpVia s).sumOk = true) ∧
    (versions.find? (fun v => decide ((0x10 : BitVec 8).toNat ≤ v) && decide (v ≤ (0x21 : BitVec 8).toNat)
      && (!hdr.via.udp || decide (0x11 ≤ (0x21 : BitVec 8).toNat)))) = some 0x21 ∧
    (let s : State := { live with nv := { live.nv with auths := 1 } }
     bitOf s.nv.auths 0 = true ∧ s.rxFrame.rap.outstanding < 64 ∧ s.rxFrame.flag SEC.page SEC.RNG_STATUS_FAILED = false ∧
     s.rxFrame.svcState = svRUNNING ∧ (List.range 8).find? (fun i => (s.rxFrame.session i).stage = .free) = some 0) ∧
    (let s := live.setSession 2 { stage := .accepted }
     (s.session 2).stage = .accepted ∧ s.rxFrame.rap.outstanding < 64 ∧ s.rxFrame.svcState = svRUNNING) ∧
    ((opened.session 0).stage ≠ .free ∧ opened.get RAP.page RAP.IDLE_TIMEOUT_SECONDS ≤ 300 ∧
      (let s : State := { opened with now := 400 * nsSec }
       (s.session 0).lastValid + s.get RAP.page RAP.IDLE_TIMEOUT_SECONDS * nsSec ≤ s.now)) ∧
    (opened.session 0).stage = .opened ∧
    (let s := ({ live with boot := { live.boot with mgtTx := .live }, rap := { live.rap with udp := true } } : State)
     s.ipv6Up = true ∧ s.ownAddr (0xFE80 * 2 ^ 112 + s.ifaceId) = true ∧ 0xFE80 * 2 ^ 112 + s.ifaceId < 2 ^ 128) ∧
    (let s : State := { live with rap := { live.rap with mgtUp := true } }; s.rap.mgtUp = true) ∧
    (let s : State := { live with boot := { live.boot with mgtTx := .live } }; s.rap.mgtUp = false ∧ s.boot.mgtTx = .live) ∧
    (let s : State := { live with rap := { live.rap with
        fill := some { addr := 0x20000000, count := 4, pattern := [], slot := 0, tag := 7, running := true } } }
     s.rap.fill.any (fun f => f.running && !f.applied) = true) := by decide +kernel

/-- Carrier 1 active, subcarrier `i` of its receiver in a state. -/
def rxAt (i : Nat) (st : Acq) : State := (live.setBlk (Kind.RXD.pg 1) bACTIVE).setSubc 1 i { st := st }

/-- CAL1 active. -/
def calUp : State := live.setBlk (Kind.CAL.pg 1) bACTIVE

/-- CAL1 active in a gutter of either direction. -/
def gutters : State :=
  let s := ((calUp.setBlk (Kind.TXD.pg 1) bACTIVE).set (CNV.page 1) CNV.PATH_STATE_DAC_OUT 2).setB (CNV.page 1)
    CNV.PATH_STATE_SIG_OK true
  s.set (FRM.page 1) FRM.ALIGN_STATUS_LOCKED 1

/-- CAL1 active, a leaf between its bursts. -/
def leafGap : State :=
  ((calUp.setBlk (Kind.TXD.pg 1) bACTIVE).set (SUB.page 1) SUB.ROLE_ROLE 2).setB (SUB.page 1) SUB.LEAF_STATUS_DED_VALID false

theorem witness_LinePllAndPeriodsComplete :
    (let s := live.setCal 1 { pllRuns := true }
     let t := fun u : State => ((u.setB (CNV.page 1) CNV.PLL_STATUS_LOCKED true).raise (Kind.CNV.pg 1) CNV.ev_PLL_LOCK)
     (s.cals 1).pllRuns = true ∧ s.flag (CNV.page 1) CNV.PLL_STATUS_LOCKED = false ∧ (s.cals 1).upLocked = false ∧
     (t s).carrier 1 ≠ cBRINGING ∧ (t (s.set SYS.page (carrierStateFld 1) cBRINGING)).carrier 1 = cBRINGING) ∧
    (let s := live.setCal 1 { pllRuns := true, upLocked := true }; (s.cals 1).upLocked = true) ∧
    (let s := (live.setCal 1 { pllRuns := true }).setB (CNV.page 1) CNV.PLL_STATUS_LOCKED true
     (s.cals 1).pllRuns = true ∧ s.flag (CNV.page 1) CNV.PLL_STATUS_LOCKED = true) ∧
    (let s := live.setB (CNV.page 1) CNV.PATH_STATE_SIG_OK true; s.flag (CNV.page 1) CNV.PATH_STATE_SIG_OK = true) ∧
    live.flag (CNV.page 1) CNV.PATH_STATE_SIG_OK = false ∧
    (let s := calUp.setB (CNV.page 1) CNV.PATH_STATE_SIG_OK true
     (s.cals 1).fullRunning = false ∧ s.active (Kind.CAL.pg 1) = true ∧ s.flag (CNV.page 1) CNV.PATH_STATE_SIG_OK = true) ∧
    (let s := calUp.setB (CAL.page 1) CAL.OBS_CTRL_OBS_EN true
     (s.cals 1).fullRunning = false ∧ s.active (Kind.CAL.pg 1) = true ∧
     s.flag (CAL.page 1) CAL.OBS_CTRL_OBS_EN = true ∧ (s.cals 1).obsFailed = false) ∧
    (∀ d ∈ [false, true], ∀ lane ∈ [0, 511], 0 < live.laneSpares 1 (b2n d) ∧ live.rpr.sweepOn = false ∧
      (live.cals 1).d2dDue.any (fun y => y.1 = b2n d && y.2.1 = lane) = false ∧
      (live.cals 1).d2dDead.contains (b2n d, lane) = false) ∧
    (let s : State := { live with rpr := { live.rpr with sweepOn := true, lastClass := 2 } }
     s.rpr.lastClass ≠ 3 ∧ 0 < s.laneSpares 1 1 ∧ (s.cals 1).d2dDue = [] ∧ (s.cals 1).d2dDead = []) ∧
    (∀ d ∈ [false, true], let s := gutters.setCal 1 { d2dDue := [(b2n d, 5, d)] }
     (s.cals 1).d2dDue.find? (fun y => y.1 = b2n d) = some (b2n d, 5, d) ∧ s.slotFree 1 (!d) = true) := by decide +kernel

theorem witness_GutterCommitsAndSwapsComplete :
    (∀ tx ∈ [false, true],
      let s := (gutters.set (CAL.page 1) CAL.CTRL_MODE 0).setCal 1
        { pend := [(0, [{ entry := 3, code := 1, up := true }]), (4, [{ entry := 280, code := 0, up := false }])] }
      s.slotOpen 1 tx = true ∧ s.d2dWaits 1 tx = false ∧ s.swapDue 1 tx = false ∧ s.get (CAL.page 1) CAL.CTRL_MODE = 0 ∧
      ((s.cals 1).pend.find? (fun e => tx == decide (e.1 < 4) && !e.2.isEmpty && s.sideEn 1 e.1)).isSome = true) ∧
    (let s := (leafGap.set (CAL.page 1) CAL.CTRL_MODE 0).setCal 1 { pend := [(0, [{ entry := 3, code := 1, up := true }])] }
     (∀ p ∈ [0, 1000], s.betweenBursts 1 p = true) ∧ s.slotOpen 1 true true = true ∧ s.d2dWaits 1 true = false ∧
     s.swapDue 1 true = false ∧ s.get (CAL.page 1) CAL.CTRL_MODE = 0 ∧
     ((s.cals 1).pend.find? (fun e => decide (e.1 < 4) && !e.2.isEmpty && s.sideEn 1 e.1)).isSome = true) ∧
    (∀ tx ∈ [false, true], calUp.slotOpen 1 tx = false ∧ (gutters.setCal 1 { d2dDue := [(0, 5, false), (1, 5, false)] }).d2dWaits 1 tx = true ∧
      (let w : Swap := { conv := if tx then 0 else 7, pos := 5, unit := 64, failed := 5, ready := true }
       (((gutters.setCal 1 { swap := some w }).setSubc 1 0 { st := .track })).swapDue 1 tx = true)) ∧
    (∀ tx ∈ [false, true],
      let s := ((gutters.set (CAL.page 1) CAL.CTRL_MODE 2).setWord (State.subAt 1 3 + 12) 1).setWord (State.subAt 1 280 + 12) 1
      s.slotOpen 1 tx = true ∧ s.d2dWaits 1 tx = false ∧ s.swapDue 1 tx = false ∧ s.get (CAL.page 1) CAL.CTRL_MODE = 2 ∧
      s.sideEn 1 (if tx then 0 else 4) = true ∧ s.slewSteps 1 tx ≠ []) ∧
    (∀ c ∈ [0, 7], let w : Swap := { conv := c, pos := 5, unit := 64, failed := 5, ready := true }
      let s := (gutters.setCal 1 { swap := some w }).setSubc 1 0 { st := .track }
      (s.cals 1).swap = some w ∧ s.slotOpen 1 (decide (w.conv < 4)) = true ∧ s.d2dWaits 1 (decide (w.conv < 4)) = false ∧
      s.swapDue 1 (decide (w.conv < 4)) = true) ∧
    (let w : Swap := { conv := 7, pos := 5, unit := 64, failed := 5, periods := 256 }
     w.ready = false ∧ 256 ≤ w.periods ∧ ((calUp.setCal 1 { swap := some w }).cals 1).swap = some w) ∧
    (let s := calUp.setCal 1 { fullRunning := true, fullGood := (List.range 544).map (fun e => (e, 2)) }
     (s.cals 1).fullRunning = true ∧
     (s.fullUnits 1).filter (fun e => Tab.get (fun _ => 0) (s.cals 1).fullGood e < 2) = []) := by decide +kernel

theorem witness_AcquisitionRowsComplete :
    (let s := rxAt 0 .waitSignal
     s.running = true ∧ (s.rxs 1).los = false ∧ s.active (Kind.RXD.pg 1) = true ∧
     10 * s.get (RXD.page 1) RXD.LOS_CFG_THRESH < 10 * s.get (RXD.page 1) RXD.LOS_CFG_THRESH + 1 ∧
     (let r := s.setRx 1 { losRun := 254 }; r.get (RXD.page 1) RXD.LOS_CFG_HOLD ≤ min 255 ((r.rxs 1).losRun + 1))) ∧
    (∀ i ∈ [0, 1, 15], let s := rxAt i .waitSignal; (s.subc 1 i).st = .waitSignal ∧ (s.rxs 1).los = false) ∧
    (let s := live.setSubc 1 15 { st := .cdSearch, search := { lo := 0, hi := 100000000 } }
     let c := s.subc 1 15
     let f := { c.search with found := c.search.found ++ [9], j := c.search.j + 1 }
     c.st = .cdSearch ∧ trialIn (s.cdStep 1) f f.j = true ∧ 0 < s.cdStep 1) ∧
    (let s := live.setSubc 1 3 { st := .track, moveDue := true }
     (s.subc 1 3).st = .track ∧ (s.subc 1 3).moveDue = true ∧ (s.rxs 1).flagged = false) ∧
    (let s := rxAt 3 .freqAcq; (s.subc 1 3).st = .freqAcq ∧ s.foMode 1 ≠ 1) ∧
    ((rxAt 3 .train).subc 1 3).st = .train ∧ ((rxAt 3 .track).subc 1 3).st = .track ∧
    (∀ a ∈ [Acq.eqBlind, .track], let s := rxAt 3 a; 4 ≤ (s.subc 1 3).st.code ∧ (s.subc 1 3).st ≠ .burst) ∧
    (let s := (rxAt 3 .burst).setBurstRx 1 3 { cur := some { folio := 20, leaf := 7, latched := {} } }
     4 ≤ (s.subc 1 3).st.code ∧ (s.subc 1 3).st = .burst ∧ (s.burstPayload 1 3).isSome = true) ∧
    (∀ x ∈ [(Acq.freqAcq, 1000 * nsMs), (.eqBlind, 5 * nsMs), (.gutterSearch, 2 * nsMs), (.train, 10 * nsMs)],
      let s : State := { rxAt 3 x.1 with now := x.2 }
      s.inFor 1 3 x.1 x.2 = true ∧ s.get (RXD.page 1) RXD.FO_CFG_FREQ_TIMEOUT ≤ 1000) := by decide +kernel

theorem witness_LaserDeskewNlcSlicesComplete :
    (let s := (rxAt 0 .track).set (RXD.page 1) RXD.CTRL_FO_MODE 1
     (s.subc 1 0).st = .track ∧ s.foMode 1 = 1 ∧
     (s.rxs 1).fbAt.any (fun t => s.now < t + 1000000 / s.get (RXD.page 1) RXD.FB_CFG_RATE) = false ∧
     (let t := s.setRx 1 { s.rxs 1 with fbAt := some s.now }
      (t.rxs 1).holdC = false ∧ t.foMode 1 = 1 ∧
      (∀ f ∈ [(5000 : Int), -5000], 100 * t.get (RXD.page 1) RXD.FB_CFG_DEADBAND ≤ f.natAbs))) ∧
    (let s : State := { live.setRx 1 { checkC := some (10, 2560) } with now := 1000 * nsMs }
     (s.rxs 1).checkC = some (10, 2560) ∧ (s.rxs 1).checkAt + s.get (RXD.page 1) RXD.FB_CFG_SETTLE * nsMs ≤ s.now) ∧
    (let s := ((rxAt 0 .track).setSubc 1 3 { st := .track, acc := { sopLast := 100000 } }).setB (RXD.page 1) RXD.CTRL_SOP_BOOST_EN true
     (s.rxs 1).boost = false ∧ s.flag (RXD.page 1) RXD.CTRL_SOP_BOOST_EN = true ∧ s.active (Kind.RXD.pg 1) = true ∧
     (List.range 16).any (fun i => (s.subc 1 i).st = .track && s.sopFast 1 (s.subc 1 i).acc.sopLast) = true) ∧
    (let s : State := { live with now := 1000 * nsMs }
     (s.rxs 1).boostAt + s.get (RXD.page 1) RXD.SOP_CFG_BOOST_HOLD * nsUs ≤ s.now) ∧
    (∀ a ∈ [Acq.train, .track], let s := live.setSubc 1 15 { st := a, phases := [1 / 2, 0] }
     (s.subc 1 15).phases = [1 / 2, 0] ∧ (1 / 4 : Rat) < 1 / 2 - 0 ∧ (s.subc 1 15).st = a) ∧
    (((rxAt 0 .train).subc 1 0).st = .train ∧ ((rxAt 0 .train).rxs 1).flagged = false) ∧
    (let s := (rxAt 0 .track).set (RXD.page 1) RXD.NLC_STATUS_STATE 5
     s.get (RXD.page 1) RXD.NLC_STATUS_STATE = 5 ∧ (s.subc 1 0).st = .track ∧ (s.rxs 1).flagged = false) ∧
    (let s := live.setRx 1 { nlcLeave := true }; (s.rxs 1).nlcLeave = true) ∧
    (let s := ((live.set (RXD.page 1) RXD.SLICE_STATUS_SPARE_STATE 1).set (RXD.page 1) RXD.SLICE_STATUS_SLICE 23).setRx 1
       { failedSlices := [23] }
     s.get (RXD.page 1) RXD.SLICE_STATUS_SPARE_STATE = 1 ∧
     (s.rxs 1).failedSlices.contains (s.get (RXD.page 1) RXD.SLICE_STATUS_SLICE) = true ∧
     (s.sliceErrs 1 8).get (RXD.page 1) RXD.SLICE_STATUS_SPARE_STATE = 1) := by decide +kernel

theorem witness_TransmitRowsComplete :
    (let s := (live.setBlk (Kind.TXD.pg 1) bACTIVE).setTx 1 { due := [(5, [0])], coded := [(0, [(5, [true])])] }
     s.running = true ∧ s.active (Kind.TXD.pg 1) = true ∧ (s.txs 1).due = [(5, [0])] ∧
     [0].count 0 ≤ ((s.txs 1).codedOf 0 5).length) ∧
    (let s := (live.set (TXD.page 1) TXD.MASK_ASSIGN_U0 0).setTx 1 { mask0 := { liveMuted := true } }; s.subMuted 1 0 = true) ∧
    (let s := live.setTx 1 { mask1 := { checking := true, exchangeDue := true } }
     ((s.txs 1).mask 1).checking = true ∧ ((s.txs 1).mask 1).exchangeDue = true) ∧
    (live.carries 1 0 = false ∧ ((live.txs 1).mask 0).spectrum = []) ∧
    (let s := ((live.setBlk (Kind.TXD.pg 1) bACTIVE).set (TXD.page 1) TXD.MASK_ASSIGN_U0 0).setTx 1 { mask0 := { spectrum := [1] } }
     s.carries 1 0 = true ∧ ((s.txs 1).mask 0).spectrum ≠ []) ∧
    (let s := (live.setBlk (Kind.TXD.pg 1) bACTIVE).setI (TXD.page 1) TXD.CD_PRE_TARGET (-3)
     s.inConfig (Kind.TXD.pg 1) = false ∧ s.getI (TXD.page 1) TXD.CD_PRE_CURRENT ≠ s.getI (TXD.page 1) TXD.CD_PRE_TARGET) := by
  decide +kernel

theorem witness_OutputEnableRowsComplete :
    (let s : State := { (live.setB (TXD.page 1) TXD.OCP_CFG_READY_EN true).setTx 1 { laserEn := true } with now := 100000 * nsMs }
     (s.txs 1).laserEn = true ∧ (s.txs 1).armed = false ∧ s.laserWaited 1 = true ∧ (s.txs 1).laserReady = false ∧
     (s.setTx 1 { s.txs 1 with waitDone := true }).flag (TXD.page 1) TXD.OCP_CFG_READY_EN = true) ∧
    (let s := live.setTx 1 { ramp := .rising, gain := 1000 }
     (s.txs 1).ramp = .rising ∧
     1000 ≤ rampGain (s.txs 1) (s.now - (s.txs 1).rampAt) (s.get (TXD.page 1) TXD.OCP_CFG_UNMUTE_RAMP)) ∧
    (let s := live.setTx 1 { ramp := .falling, gain := 0 }
     (s.txs 1).ramp = .falling ∧
     rampGain (s.txs 1) (s.now - (s.txs 1).rampAt) (s.get (TXD.page 1) TXD.OCP_CFG_UNMUTE_RAMP) = 0) ∧
    (live.txs 1).optActive = false ∧ ((live.setTx 1 { optActive := true }).txs 1).optActive = true ∧
    (let s : State := { live with now := 100 * nsMs }
     (s.txs 1).optActive = false ∧ (s.txs 1).optOffAt + 100 * nsMs ≤ s.now) ∧
    (∀ b ∈ [false, true], ((live.setTx 1 { spiBusy := some (b, 5) }).txs 1).spiBusy = some (b, 5)) := by decide +kernel

/-- A hub on carrier 1, subcarrier 2 shared upstream by bursts, subcarrier 4 owned by leaf 7, SUB1 active. -/
def hub : State :=
  let s := (live.setBlk (Kind.SUB.pg 1) bACTIVE).set (SUB.page 1) SUB.ROLE_ROLE 1
  let s := (s.set (SUB.page 1) (SUB.UP_TYPE_TYPE 2) 2).setSubc 1 2 { st := .burst }
  let s := (s.set (SUB.page 1) (SUB.UP_TYPE_TYPE 4) 1).setB (SUB.page 1) (SUB.UP_OWNER_VALID 1 0) true
  s.set (SUB.page 1) (SUB.UP_OWNER_LEAF 1 0) 7

/-- The hub's burst receiver of subcarrier 2 in a state. -/
def burst (r : BurstRx) : State := hub.setBurstRx 1 2 r

/-- The record of a join burst of the leaf of identity 5 with tag 9. -/
def joinRecord (crc : Nat) : BitVec 128 := BitVec.ofNat 128 (5 + 9 * 2 ^ 64 + crc * 2 ^ 96)

/-- Leaf entry 3 of the hub, listed, with identity 5. -/
def listed (s : State) : State := (s.setNat64 (SUBW.LEAFE 1 3 + 20) 5).setB (SUBW.LEAFE 1 3) SUBW.LEAFE_LISTED true

theorem witness_HubRowsComplete :
    (let s := hub.set (SUBW.LEAFE 1 7) SUBW.LEAFE_LSTATE leafINSERVICE
     s.running = true ∧ s.dedSub 1 7 = some 4 ∧ s.leafServing 1 7 = true ∧ (s.subc 1 4).st ≠ .track ∧
     (let t : State := { s with now := 100000 * nsMs }
      (t.subc 1 4).lostAt + t.get (SUB.page 1) SUB.RANGE_CFG_LOSS_N * nsMs ≤ t.now)) ∧
    (let t := hub.gutterSeen 1 2 0 true false false true true
     (hub.subc 1 2).swapDue = false ∧ (hub.rxs 1).nlcStop = false ∧
     (∀ l < 32, (t.role 1 = 1 ∧ t.dedSub 1 l = some 2) → False)) ∧
    (let t := hub.gutterSeen 1 4 0 true false false true true
     (hub.subc 1 4).swapDue = false ∧ (List.range 32).find? (fun l => t.role 1 = 1 && t.dedSub 1 l = some 4) = some 7) ∧
    (hub.role 1 = 1 ∧ hub.active (Kind.SUB.pg 1) = true ∧ (hub.subst 1).switchAt = none) ∧
    (let s := burst { st := .join }; (Tab.get (fun _ => {}) (s.subst 1).rx 2 : BurstRx).st = .join) ∧
    (let r := (joinRecord 0).toNat; bitsOf r 96 32 ≠ joinCrc (bitsOf r 0 64) (bitsOf r 64 32)) ∧
    (let r := (joinRecord (joinCrc 5 9)).toNat
     bitsOf r 96 32 = joinCrc (bitsOf r 0 64) (bitsOf r 64 32) ∧
     (let s := (burst { st := .join }).setB (SUB.page 1) SUB.JOIN_CFG_ADMIT true
      let t := s.setSub 1 { s.subst 1 with rx := Tab.put (fun _ => {}) (s.subst 1).rx 2 { st := .armed } }
      t.flag (SUB.page 1) SUB.JOIN_CFG_ADMIT = true ∧
      (∀ l < 32, (t.nat64 (SUBW.LEAFE 1 l + 20) = bitsOf r 0 64 ∧ t.flag (SUBW.LEAFE 1 l) SUBW.LEAFE_LISTED = true) → False)) ∧
     (let s := listed ((burst { st := .join }).setB (SUB.page 1) SUB.JOIN_CFG_ADMIT true)
      let t := s.setSub 1 { s.subst 1 with rx := Tab.put (fun _ => {}) (s.subst 1).rx 2 { st := .armed } }
      t.flag (SUB.page 1) SUB.JOIN_CFG_ADMIT = true ∧
      (List.range 32).find? (fun l => t.nat64 (SUBW.LEAFE 1 l + 20) = bitsOf r 0 64 && t.flag (SUBW.LEAFE 1 l) SUBW.LEAFE_LISTED)
        = some 3 ∧
      (t.assign 1 { leaf := 3, action := 0, offset := 0, tag := 9 }).1 = true)) := by decide +kernel

theorem witness_BurstReceiverRowsComplete :
    (hub.running = true ∧ hub.hasBurstRx 1 2 = true) ∧
    ((burst {}).hasBurstRx 1 2 = true ∧ ((burst {}).burstRx 1 2).st = .armed ∧
      256 * (burst {}).get (SUB.page 1) SUB.BURST_CFG_DET_TH ≤ 256 * 255 ∧
      256 * (burst {}).get (SUB.page 1) SUB.BURST_CFG_SYNC_TH ≤ 256 * 255) ∧
    (let u : Burst := { leaf := 31, folio := 20, latched := { rssi := 30 } }
     let s := burst { st := .payload, cur := some u }
     s.hasBurstRx 1 2 = true ∧ (s.burstRx 1 2).st = .payload ∧ (s.burstRx 1 2).cur = some u ∧
     s.get (SUB.page 1) SUB.CAPTURE_MARGIN ≠ 0xFF ∧
     -(u.latched.rssi : Int) + 10 * s.get (SUB.page 1) SUB.CAPTURE_MARGIN ≤ 2600) ∧
    (∀ j ∈ [0, 31], ∀ arr ∈ [(0 : Int), 1000, -1000],
      let g : Grant := { leaf := j, subc := 2, folio := 20, start := 0, len := 4 }
      let s := (burst { st := .syncSearch }).setSub 1
        { (burst { st := .syncSearch }).subst 1 with grants := [g] }
      (s.burstRx 1 2).st = .syncSearch ∧ (s.burstRx 1 2).captured = false ∧
      (s.subst 1).grants.find? (fun (g : Grant) => g.leaf = j && g.subc = 2 && g.folio = 20) = some g ∧ (∀ off ∈ [(8 : Int), -8], off.natAbs ≤ 8) ∧
      arr.natAbs ≤ 1000 * (s.set (SUB.page 1) SUB.BURST_CFG_WIN_TOL 1).get (SUB.page 1) SUB.BURST_CFG_WIN_TOL) ∧
    (let u : Burst := { leaf := 31, folio := 20, latched := {} }
     let p : Passed := {}
     let s := (burst { ended := some u }).setFec 1 { toFrm := [(2, some p)] }
     (s.burstRx 1 2).ended = some u ∧ Tab.get (fun _ => none) (s.fecs 1).toFrm 2 = some p) ∧
    (let g : Grant := { leaf := 31, subc := 2, folio := 20, start := 0, len := 4 }
     let s := hub.setSub 1 { hub.subst 1 with grants := [g] }
     (s.subst 1).grants.find? (fun (g : Grant) => g.leaf = 31 && g.subc = 2 && g.folio = 20) = some g ∧ g.latched = false) := by
  decide +kernel

/-- A leaf on carrier 1, SUB1 active, its machine in a state. -/
def leafAt (st : Nat) : State :=
  (((live.setBlk (Kind.SUB.pg 1) bACTIVE).set (SUB.page 1) SUB.ROLE_ROLE 2).set SYS.page (carrierStateFld 1) cUP).setLeafState 1 st

theorem witness_LeafRowsComplete :
    ((leafAt 0).running = true ∧ (leafAt 0).role 1 = 2 ∧ (leafAt 0).active (Kind.SUB.pg 1) = true) ∧
    (let s := ((leafAt 0).setSubc 1 0 { st := .track }).setStream 1 0 { locked := true }
     s.role 1 = 2 ∧ s.leafState 1 = 0 ∧ s.carrier 1 = cUP ∧ (s.subc 1 0).st = .track ∧ s.frmAligned 1 = true ∧
     s.active (Kind.SUB.pg 1) = true) ∧
    (∀ k ∈ [2, 3, 5], let s : State := { leafAt k with now := 100000 * nsMs }
      s.leafState 1 = k ∧ s.leafFor 1 (s.get (SUB.page 1) SUB.LEAF_CFG_REPLY_WAIT) = true ∧
      s.leafFor 1 (s.get (SUB.page 1) SUB.LEAF_CFG_HOLD) = true) ∧
    (∀ k ∈ [1, 4], (leafAt k).role 1 = 2 ∧ 1 ≤ (leafAt k).leafState 1 ∧ (leafAt k).leafState 1 ≤ 4 ∧
      (leafAt k).frmAligned 1 = false) := by decide +kernel

/-- FEC1 active. -/
def fecUp : State := live.setBlk (Kind.FEC.pg 1) bACTIVE

theorem witness_FecRowsComplete :
    (let s := fecUp.setFec 1 { txIn := [(2, [(5, [true])])] }
     s.running = true ∧ s.active (Kind.FEC.pg 1) = true ∧ Tab.get (fun _ => []) (s.fecs 1).txIn 2 = [(5, [true])]) ∧
    ((live.setSub 1 { switchAt := some 8 }).subst 1).switchAt = some 8 ∧
    (fecUp.serves (Kind.FEC.pg 1) = true ∧ (fecUp.decoded 1 0).length < (fecUp.rxStream 1 0).2) ∧
    (let nc := (fecUp.rxStream 1 0).2
     let s := fecUp.setFec 1 { dec := [(0, List.replicate nc { kind := 0, bits := [] })] }
     s.serves (Kind.FEC.pg 1) = true ∧ (s.decoded 1 0).length = nc ∧ (s.rxStream 1 0).2 = nc ∧ nc ≠ 0) ∧
    (fecUp.fecs 1).spares = [24, 25] ∧
    (let s := fecUp.setFec 1 { joinDue := 1 }; (s.fecs 1).joinDue = 0 + 1 ∧ (s.fecs 1).spares = [24, 25]) ∧
    (let s : State := { live with now := 1000 * nsMs }; s.measDue 1 = true) := by decide +kernel

/-- Carrier 1 UP, FRM1 active, stream 3 in use. -/
def frmUp : State :=
  ((live.setBlk (Kind.FRM.pg 1) bACTIVE).set SYS.page (carrierStateFld 1) cUP).setStream 1 3 { inUse := true }

/-- The first bytes of a burst spine of leaf 31, upstream folio 20. -/
def spine (leaf : Nat) : List (BitVec 8) :=
  ((List.range 8).map (fun i => sfaw / 2 ^ (8 * (7 - i)) % 256) ++ [0, 0, 0, 20, leaf]).map (BitVec.ofNat 8)

theorem witness_FrameRowsComplete :
    (let p : Passed := { absent := 3 }
     let s := frmUp.setFec 1 { toFrm := [(3, some p)] }
     s.running = true ∧ s.frmReceives 1 3 = true ∧ (s.stream 1 3).locked = false ∧ Tab.get (fun _ => none) (s.fecs 1).toFrm 3 = some p) ∧
    (let s := (frmUp.setStream 1 3 { inUse := true, locked := true }).setFec 1 { toFrm := [(3, some {})] }
     s.frmReceives 1 3 = true ∧ (s.stream 1 3).locked = true ∧ (s.stream 1 3).lead = 0 ∧ (s.stream 1 3).held = [] ∧
     Tab.get (fun _ => none) (s.fecs 1).toFrm 3 = some {} ∧ ({} : Passed).unc = 0 ∧ ({} : Passed).absent = 0) ∧
    (frmUp.frmReceives 1 3 = true ∧ Tab.get (fun _ => none) (frmUp.fecs 1).toFrm 3 = none) ∧
    (let u : Burst := { leaf := 31, folio := 20, latched := {} }
     ∀ l ∈ [31, 30],
       let p : Passed := { bytes := (spine l).map (·.toNat) }
       let s := (burst { last := some u }).setFec 1 { toFrm := [(2, some p)] }
       let t := (s.setBurstRx 1 2 { s.burstRx 1 2 with last := none }).setFec 1
         { s.fecs 1 with toFrm := Tab.put (fun _ => none) (s.fecs 1).toFrm 2 none }
       (s.burstRx 1 2).last = some u ∧ Tab.get (fun _ => none) (s.fecs 1).toFrm 2 = some p ∧ t.fawMatch 1 false p.bytes = true ∧
       (p.bytes.getD 12 0 = u.leaf ↔ l = 31) ∧ countOf false p.bytes = (u.folio + t.payFolios 1 u.start) % 2 ^ 32) ∧
    (frmUp.frmSends 1 = true ∧ frmUp.unitsReady 1 (frmUp.frms 1).txCount = true) := by decide +kernel

theorem witness_OverheadPortsAndPmbComplete :
    (let s := (live.setBlk Kind.OSP.pages.1 bACTIVE).setFrm 1 { mc0 := [[1, 2]], mc1 := [[3]] }
     s.running = true ∧ s.active Kind.OSP.pages.1 = true ∧ (s.frms 1).mc0 = [[1, 2]] ∧ (s.frms 1).mc1 = [[3]]) ∧
    (let s := (live.setBlk Kind.OSP.pages.1 bACTIVE).setB OSP.page (OSP.PORT_CFG_INS_EN 3) true
     s.active Kind.OSP.pages.1 = true ∧ s.flag OSP.page (OSP.PORT_CFG_INS_EN 3) = true ∧
     ((s.setOspFifo 3 (List.replicate 15 [])).ospFifo 3).length < 16 ∧
     16 ≤ ((s.setOspFifo 3 (List.replicate 16 [])).ospFifo 3).length) ∧
    (live.setBlk Kind.PMB.pages.1 bACTIVE).active Kind.PMB.pages.1 = true ∧
    (let s : State := { (live.setBlk Kind.PMB.pages.1 bACTIVE).setB PMB.page PMB.CTRL_EP_EN true with
       pmb := { eps := [(262143, { c := [0, 0, 0, 0, 0, 0, 1] })] } }
     s.flag PMB.page PMB.CTRL_EP_EN = true ∧ s.active Kind.PMB.pages.1 = true ∧
     ((Tab.get (fun _ => {}) s.pmb.eps 262143 : EpCounts).c.any (· ≠ 0)) = true ∧ s.eccServes = false ∧
     (let h := each (List.range 16) (fun c t => (t.set (MEM.page c) MEM.STATUS_BAND 3).setBlk (Kind.MEM.pg c) bACTIVE) (s.setBlk Kind.ECC.pages.1 bACTIVE)
      h.eccServes = true ∧
      ([false, true].map (fun d => (h.physPage (h.tableWord (h.epRecord 262143 (pmBin d
        (if d then pmDay h.pmTime else pmInterval h.pmTime)))).1).1)).filter (fun c => h.chOver c && !h.chDown c) ≠ [])) := by
  decide +kernel

/-- Gathering 63 enabled at position 5 of carrier 1, on slot 0 there, GTH active. -/
def gathUp : State :=
  let s := (live.setBlk Kind.GTH.pages.1 bACTIVE).setB (GTHW.CFG 63) GTHW.CFG_EN true
  let s := (s.setB (GTHW.CFG 63) GTHW.CFG_POS1_VALID true).set (GTHW.CFG 63) GTHW.CFG_POS1 5
  s.setNat (GTHW.CFG 63 + 20) 1

theorem witness_GatheringRowsComplete :
    (let ready := fun (s : State) (ao : Bool) (prot : Option Bool) => (s.unitRoom 63).any (fun r =>
       (!s.gthRuns || (s.transparent 63 && s.clientFailed 63)) = ao &&
       (match s.groupOf 63 with
        | some (q, true) => some (s.flag GTH.page (GTH.PG_STATUS_BR q))
        | _ => none) = prot &&
       (if ao then some (List.replicate r.1 0xFF, r.2) else if prot.isSome then some (List.replicate r.1 0, r.2)
        else r.2.unitBody 63 r.1).isSome)
     let fault := gathUp.setBlk Kind.GTH.pages.1 bFAULT
     let prot := (gathUp.setB GTH.page (GTH.PG_CFG_EN 3) true).set GTH.page (GTH.PG_CFG_P 3) 63
     gathUp.running = true ∧ (∀ s ∈ [gathUp, fault, prot], s.gthEn 63 = true ∧ s.blk Kind.GTH.pages.1 ≠ bOFF ∧
       s.blk Kind.GTH.pages.1 ≠ bCONFIG) ∧ ready gathUp false none = true ∧ ready fault true none = true ∧
     ready prot false (some false) = true) ∧
    (gathUp.gthEn 63 = true ∧ (gathUp.partIn 63 0).isSome = true ∧ gathUp.collates 63 = false) ∧
    (let s := (gathUp.setB (GTHW.CFG 63) GTHW.CFG_POS0_VALID true).setNat (GTHW.CFG 63 + 8) 1
     let d : FolioIn := { at_ := 0, ones := false, sd := false, bytes := [], marker := some 4 }
     let s := s.setFrm (s.partCarrier 63 1) { burstIn := [(63, [d])] }
     s.gthEn 63 = true ∧ s.collates 63 = true ∧ ((s.gth 63).part 1).st = .off ∧ (s.partIn 63 1).any (·.1 = d) = true ∧
     (((s.gth 63).part 1).acquire (s.get GTH.page GTH.LOSS_CFG_LOCK_N) (some 4) (fun k => { gsn := k, t := 0, ao := false, sd := false })).st
       = .acquire) ∧
    (let s := (gathUp.set (SUB.page 1) SUB.ROLE_ROLE 1).setB (GTHW.CFG 63) GTHW.CFG_LEAF_VALID true
     s.gthEn 63 = true ∧ s.partIn 63 0 = none) ∧
    (let s : State := { (gathUp.setB GTH.page (GTH.PG_CFG_EN 3) true).setPgrp 3
       { failFromW := some 1, failFromP := some 2, wtrEnd := some 9, fopFrom := some 3 } with now := 100000 * nsMs }
     s.flag GTH.page (GTH.PG_CFG_EN 3) = true ∧ s.held (s.pgrp 3).failFromW (s.holdOff 3) = true ∧
     s.held (s.pgrp 3).failFromP (s.holdOff 3) = true ∧ s.held (s.pgrp 3).wtrEnd 0 = true ∧
     s.held (s.pgrp 3).fopFrom (50 * nsMs) = true) ∧
    (let v : Machine.PUnit := { gsn := 4, t := 0, ao := false, sd := false }
     let s := gathUp.setGth 63 { p0 := { units := [v] } }
     s.gthEn 63 = true ∧ s.collates 63 = false ∧ (s.gth 63).p0.units = [v] ∧
     (s.setGth 63 { s.gth 63 with p0 := { (s.gth 63).p0 with units := [] } }).groupOf 63 = none) := by decide +kernel

theorem witness_KeyAndAgreementRowsComplete :
    (let k : KeyRef := ⟨5, 9⟩
     let s := live.setCtx 63 { txLoad := some k, rxLoad := some k }
     s.running = true ∧ (s.ctx 63).txLoad = some k ∧ (s.ctx 63).rxLoad = some k) ∧
    (let u : TxUnit := { gsn := 4, ones := false, bytes := [1, 2] }
     let s := gathUp.setGth 63 { txUnits := [u] }
     let p := (s.setB GTH.page (GTH.PG_CFG_EN 3) true).set GTH.page (GTH.PG_CFG_P 3) 63
     (s.gth 63).txUnits = [u] ∧ (s.setGth 63 { s.gth 63 with txUnits := [] }).suite 63 = 0 ∧
     (s.setGth 63 { s.gth 63 with txUnits := [] }).groupOf 63 = none ∧
     (p.gth 63).txUnits = [u] ∧ (p.setGth 63 { p.gth 63 with txUnits := [] }).groupOf 63 = some (3, true)) ∧
    (let u : TxUnit := { gsn := 4, ones := false, bytes := [1, 2] }
     let s := ((gathUp.setBlk Kind.CRY.pages.1 bACTIVE).setGth 63 { txUnits := [u] }).set (CRYW.KEY 63) CRYW.KEY_SUITE 1
     let s := s.setCtx 63 { txCur := some ⟨5, 9⟩ }
     let t := s.setGth 63 { s.gth 63 with txUnits := [] }
     let v := (t.suiteVersion 63).ctrWarn 63 4
     (s.gth 63).txUnits = [u] ∧ t.groupOf 63 = none ∧ t.suite 63 ≠ 0 ∧ v.txMaySwitch 63 4 = false ∧ (v.ctx 63).txCur.isSome = true ∧
     (v.ctx 63).exhausted = false ∧ v.txCounter 63 4 ≠ 2 ^ 32 - 1 ∧
     (v.set (CRYW.CTX 63) CRYW.CTX_TX_CTR (v.txCounter 63 4)).cryFails 63 (v.ctx 63).refetchTx = false) ∧
    (let h : Handed := { gsn := 4, failed := false, sel := true, other := false }
     let s := (gathUp.setBlk Kind.CRY.pages.1 bACTIVE).setGth 63 { handed := [h] }
     let t := (s.setGth 63 { s.gth 63 with handed := [] }).suiteVersion 63
     let e := s.set (CRYW.KEY 63) CRYW.KEY_SUITE 1
     (s.gth 63).handed = [h] ∧ s.suite 63 = 0 ∧ t.suite 63 = 0 ∧ (t.cryIdle && !h.failed) = false ∧
     (e.gth 63).handed = [h] ∧ ((e.setGth 63 { e.gth 63 with handed := [] }).suiteVersion 63).suite 63 ≠ 0 ∧ h.failed = false ∧
     h.tagDue = false) ∧
    (let s : State := { live.setB CRY.page CRY.SELFTEST_RUNNING true with
       pwr := { active := [{ op := 7, unit := 0, cost := 1, durationMs := 1, standing := 0 }] } }
     s.flag CRY.page CRY.SELFTEST_RUNNING = true ∧ s.hasLeave 7 0 = true) ∧
    (let s := ((gathUp.set OSP.page (OSP.MC_SRC_SRC 3) 2).setB (CRYW.KEY 63) CRYW.KEY_AGREE_RESP true).setNat64
       (SEC.page + SEC.PEER_VALID) (2 ^ 63)
     let s := s.setNat (SECW.PEER 63 + 4) 77
     s.mc1Core 1 = true ∧ s.agree.on = false ∧
     s.gatherings.find? (fun g => s.agreeCarrier g = 1 && s.gthPos g 1 = some 5) = some 63 ∧
     s.flag (CRYW.KEY 63) CRYW.KEY_AGREE_RESP = true ∧ s.flag CRY.page CRY.GUARD_STATE_LOCK = false ∧
     s.touchesV1 63 = false ∧ (s.agreeBegin 63 true).flag SEC.page SEC.RNG_STATUS_FAILED = false ∧
     (s.agreeBegin 63 true).peerListed 77 = true) ∧
    (let s : State := { (live.setNat64 (SEC.page + SEC.PEER_VALID) 1).setNat (SECW.PEER 0 + 4) 77 with
       agree := { on := true } }
     s.agree.on = true ∧ s.agree.responder = false ∧ s.agree.storing = 0 ∧ s.peerListed 77 = true) ∧
    (let s : State := { live with agree := { on := true, responder := true } }
     s.agree.on = true ∧ s.agree.responder = true ∧ s.agree.storing = 0) ∧
    (let s : State := { live with agree := { on := true, stored := true } }
     s.agree.on = true ∧ s.agree.stored = true ∧ s.now < s.agree.from_ + 50 * nsMs ∧
     (let l : State := { s with now := 50 * nsMs }; l.agree.from_ + 50 * nsMs ≤ l.now)) := by decide +kernel

/-- Quads 0 and 7 active with a one-lane mode, port 31 a packet port, MAC active. -/
def port31 : State :=
  let s := ((live.setBlk (Kind.CLN.pg 7) bACTIVE).set (CLN.page 7) CLN.QUAD_CFG_MODE 1).setBlk Kind.MAC.pages.1 bACTIVE
  (s.setB MAC.page (MAC.PORT_CFG_EN 31) true).setB MAC.page (MAC.PORT_STATUS_PCS_ALIGNED 31) true

theorem witness_ClientRowsComplete :
    (port31.running = true ∧ port31.blk (Kind.CLN.pg (31 / 4)) ≠ bOFF ∧ port31.quadMode (31 / 4) ≠ 0) ∧
    (let s := live.setB (CLN.page 7) (CLN.RX_STATUS_SIG_DET 3) true
     s.flag (CLN.page (31 / 4)) (CLN.RX_STATUS_SIG_DET (31 % 4)) = true ∧
     s.flag (CLN.page (31 / 4)) (CLN.RX_CFG_ADAPT_FREEZE (31 % 4)) = false) ∧
    (live.setB (CLN.page 7) CLN.QUAD_STATUS_PLL_LOCK true).flag (CLN.page 7) CLN.QUAD_STATUS_PLL_LOCK = true ∧
    port31.isPort 31 = true ∧
    (let s := (gathUp.setB (GTHW.CFG 63) GTHW.CFG_TYPE true).set (GTHW.CFG 63) GTHW.CFG_CLIENT 31
     let s := ((s.set (CLN.page 7) CLN.QUAD_CFG_MODE 1).setBlk Kind.MAC.pages.1 bACTIVE).setB MAC.page (MAC.PORT_CFG_EN 31) true
     let s := s.setB MAC.page (MAC.PORT_CFG_PATH 31) true
     s.portEn 31 = true ∧ s.portTransparent 31 = true ∧ s.portGath 31 = some 63 ∧ s.active Kind.MAC.pages.1 = true ∧
     s.flag MAC.page (MAC.PORT_STATUS_CLIENT_FAIL 31) = false ∧
     (let f := s.setB MAC.page (MAC.PORT_STATUS_CLIENT_FAIL 31) true
      f.portEn 31 = true ∧ f.portTransparent 31 = true ∧ f.portGath 31 = some 63 ∧
      f.flag MAC.page (MAC.PORT_STATUS_CLIENT_FAIL 31) = true) ∧
     (let r := s.setGth 63 { released := [(true, [0, 3])] }
      r.portGath 31 = some 63 ∧ (r.gth 63).released = [(true, [0, 3])])) ∧
    (port31.portEn 31 = true ∧ port31.portTransparent 31 = false ∧ port31.active Kind.MAC.pages.1 = true ∧
      port31.quadsActive 31 = true ∧ port31.flag MAC.page (MAC.PORT_STATUS_PCS_ALIGNED 31) = true ∧
      64 ≤ port31.get MAC.page (MAC.PORT_CFG_MAX_FRAME 31)) ∧
    (let s : State := { live.setBlk Kind.CLS.pages.1 bACTIVE with
       cls := { miss := [{ key := 5, frame := {} }], sigReady := true } }
     s.cls.miss = [{ key := 5, frame := {} }] ∧ s.serves Kind.CLS.pages.1 = true ∧ s.cls.sigReady = true ∧
     (s.setB CLS.page CLS.CTRL_DT_EN true).flag CLS.page CLS.CTRL_DT_EN = true ∧ s.active Kind.CLS.pages.1 = true) ∧
    (let s := (live.setBlk Kind.ECC.pages.1 bACTIVE).setQueue 1048575 { frames := [{ len := 2000, staged := 2000, spilled := true }] }
     let s := each (List.range 16) (fun c t => t.setBlk (Kind.MEM.pg c) bACTIVE) s
     let s := s.set ECC.page ECC.TOTAL_PAGES_P 1000
     (s.queue 1048575).unwritten ≠ 0 ∧ 1792 ≤ (s.queue 1048575).unwritten ∧ s.eccServes = true ∧
     s.blk Kind.ECC.pages.1 ≠ bFAULT ∧ s.chDown (s.physPage 999).1 = false ∧ s.blk (Kind.MEM.pg (s.physPage 999).1) ≠ bFAULT ∧
     s.pkt.pagesUsed.contains 999 = false ∧ s.ecc.region ≤ 999 ∧ 999 < s.get ECC.page ECC.TOTAL_PAGES_P ∧
     s.collWaits (s.physPage 999).1 = false ∧ s.lookupWaits (s.physPage 999).1 = false ∧
     (let l : State := { s with now := 4 * nsUs }; (l.queue 1048575).stageAt + 4 * nsUs ≤ l.now)) := by decide +kernel

/-- The fabric open, link 7 enabled and its block active, in a state. -/
def linkAt (st : Nat) : State :=
  let s := (live.setB SYS.page SYS.FABRIC_CTRL_OPEN true).set FBR.page FBR.CTRL_ROLE 1
  let s := ((s.setBlk (Kind.FBL.pg 7) bACTIVE).setBlk Kind.FBR.pages.1 bACTIVE).setB (FBL.page 7) FBL.CFG_EN true
  s.set (FBL.page 7) FBL.STATUS_STATE st

/-- Link 7 since time 0, its signal seen then, at 1 s. -/
def lateLink (st : Nat) : State :=
  { (linkAt st).setLink 7 { sigAt := some 0 } with now := 1000000000 }

theorem witness_FabricLinkRowsComplete :
    (let s := linkAt kDISABLED; s.running = true ∧ s.linkSt 7 = kDISABLED ∧ s.mayTrain 7 = true ∧ s.blk (Kind.FBL.pg 7) = bACTIVE) ∧
    (let s := lateLink kTRAIN
     s.linkSt 7 = kTRAIN ∧ (s.link 7).sigAt = some 0 ∧ 0 + 20 * nsMs ≤ s.now ∧ (s.lanesLocked 7).length < 3 ∧
     (s.setB (FBL.page 7) (FBL.LANE_CDR_LOCK 3) true).flag (FBL.page 7) (FBL.LANE_CDR_LOCK 3) = true) ∧
    (let s := each [0, 1, 2] (fun l t => t.setB (FBL.page 7) (FBL.LANE_CW_LOCK l) true) (lateLink kTRAIN)
     3 ≤ ((s.set (FBL.page 7) FBL.STATUS_PEER_RX_OK 15).lanesLocked 7).length) ∧
    (let s := lateLink kBACKOFF; s.linkSt 7 = kBACKOFF ∧ (s.link 7).since + 100 * nsMs ≤ s.now) ∧
    (let s := lateLink kNEGOTIATE
     s.linkSt 7 = kNEGOTIATE ∧ (s.link 7).hellos = 0 ∧ (s.link 7).since + 2 * nsMs ≤ s.now) ∧
    (let s := (lateLink kUP).setLane 7 3 { passFrom := some 0, failed := true }
     let s := (s.setB (FBL.page 7) (FBL.LANE_CW_LOCK 3) true).setB (FBL.page 7) (FBL.LANE_SIG_DET 3) true
     let s := s.setB (FBL.page 7) (FBL.LANE_CDR_LOCK 3) true
     (s.lane 7 3).passFrom = some 0 ∧ s.linkUp 7 = true ∧ (s.lane 7 3).failed = true ∧
     s.flag (FBL.page 7) (FBL.LANE_CW_LOCK 3) = true ∧ s.flag (FBL.page 7) (FBL.LANE_SIG_DET 3) = true ∧
     s.flag (FBL.page 7) (FBL.LANE_CDR_LOCK 3) = true ∧ 0 + nsMs ≤ s.now) ∧
    (let s := ((linkAt kUP).setB (FBL.page 7) FBL.CFG_DITHER_EN true).setB (FBL.page 7) (FBL.LANE_RX_OK 3) true
     s.flag (FBL.page 7) FBL.CFG_DITHER_EN = true ∧ s.linkUp 7 = true ∧ s.rxOk 7 3 = true) ∧
    (let s := linkAt kNEGOTIATE
     kNEGOTIATE ≤ s.linkSt 7 ∧ s.fabRole ≠ 0 ∧ s.mayCtl 7 = true ∧ s.blk Kind.FBR.pages.1 ≠ bOFF) ∧
    (let s := (gathUp.set FBR.page FBR.CTRL_ROLE 1).setBlk Kind.FBR.pages.1 bACTIVE
     8 ≤ 71 ∧ s.isLine 71 = true ∧ s.fabRole ≠ 0 ∧ s.mayCtl 71 = true ∧ s.blk Kind.FBR.pages.1 ≠ bOFF) ∧
    (let s : State := { live.setNeigh 7 { alive := true, heardAt := 0 } with now := 1000000000 }
     (s.neigh 7).alive = true ∧ (s.neigh 7).heardAt + 4 * (s.get FBR.page FBR.TIMERS_HELLO * 100 * nsUs) ≤ s.now) := by
  decide +kernel

/-- Endpoint 0 routed to port output of the part itself, one frame waiting in its queue 0, QMG, SHP and FBR active. -/
def routed : State :=
  let s := ((linkAt kUP).setBlk Kind.QMG.pages.1 bACTIVE).setBlk Kind.SHP.pages.1 bACTIVE
  let r := FBRW.ROUTE 5
  let s := (s.setB r FBRW.ROUTE_RVALID true).setB r FBRW.ROUTE_LOCAL true
  s.setQueue 0 { frames := [{ len := 100, part := 5 }] }

theorem witness_FabricTransitRowsComplete :
    (let x : Reseq := { expect := 0, held := [({ seq := 2 }, 0)] }
     let s : State := { live.setReseq 511 (some x) with now := 2000000000 }
     s.running = true ∧ s.reseqOf 511 = some x ∧ (x.held.map (·.2)).min? = some 0 ∧
     0 + s.get FBR.page FBR.RESEQ_CFG_TIMEOUT * nsUs ≤ s.now ∧ x.lastAt + nsSec ≤ s.now) ∧
    (let s := (live.set (CLN.page 7) CLN.QUAD_CFG_MODE 1).setBlk Kind.QMG.pages.1 bACTIVE
     s.isPort 31 = true ∧ s.blk Kind.QMG.pages.1 ≠ bOFF ∧ s.blk Kind.QMG.pages.1 ≠ bCONFIG) ∧
    (let s := live.set QMG.page QMG.BP_STATE_PAUSED (2 ^ 31); bitOf (s.get QMG.page QMG.BP_STATE_PAUSED) 31 = true) ∧
    (let x : Pause := { origin := 511, port := 31, at_ := 0 }
     let s : State := { live with fbr := { pauses := [x] }, now := 1000000 }
     x ∈ s.fbr.pauses ∧ x.origin = 511 ∧ x.port = 31 ∧ x.at_ + 200 * nsUs ≤ s.now) := by decide +kernel

theorem witness_FabricTransitRowsComplete_cells :
    kNEGOTIATE ≤ (linkAt kUP).linkSt 7 ∧
    (let c : RawCell := { header := 5, payload := [1, 2] }
     let s := gathUp.setGth 63 { released := [(true, wireBytes c)] }
     s.isLine 71 = true ∧ (s.takeCell 63 c).isSome = true) ∧
    (let s := (linkAt kUP).setB (FBL.page 7) (FBL.LANE_CDR_LOCK 3) true
     let s := each (List.range 4) (fun l t => (t.setB (FBL.page 7) (FBL.LANE_RX_OK l) true).setB (FBL.page 7) (FBL.LANE_CW_LOCK l) true) s
     let w := 15 * 2 ^ 12 + crc8 (15 * 2 ^ 4)
     kNEGOTIATE ≤ s.linkSt 7 ∧ s.linkSt 7 ≠ kBACKOFF ∧ s.linkSt 7 ≠ kDISABLED ∧
     s.flag (FBL.page 7) (FBL.LANE_CDR_LOCK 3) = true ∧ crc8 (w / 256) = w % 256 ∧
     (let t := ((s.count (FBL.page 7 + FBL.CW_UNCORR) 0).setLane 7 3
        { (s.count (FBL.page 7 + FBL.CW_UNCORR) 0).lane 7 3 with uncorrRun := 0 }).laneWord 7 3 w
      t.rxOk 7 3 = true ∧ kNEGOTIATE ≤ t.linkSt 7)) := by decide +kernel

theorem witness_FabricTransitRowsComplete_frames :
    (let s := routed
     s.blk Kind.QMG.pages.1 = bACTIVE ∧ (s.page Kind.QMG.pages.1).softReset = false ∧ s.active Kind.FBR.pages.1 = true ∧
     s.blk Kind.FBR.pages.1 ≠ bFAULT ∧ bitOf (s.outKey 5) 8 = true ∧
     (let p := s.pickQueue (s.outKey 5) (fun f => s.outKey f.part = s.outKey 5)
      p.1 = some 0 ∧ (let r := p.2.takeFrame 0
        r.1 = some { len := 100, part := 5 } ∧ r.2.frameLost { len := 100, part := 5 } = false ∧
        (r.2.egress 0 100 false false).1 = false))) ∧
    (firstFrame [{ eof := true }] = some (false, [{ eof := true }], []) ∧
      Tab.get (fun _ => ({} : Reasm)) [(4 * 511 + 3, { ready := [{ eof := true }] })] (4 * 511 + 3) = { ready := [{ eof := true }] }) ∧
    (let c : Machine.Cell := { sof := true, eof := true, len := 100 }
     let s : State := { routed with fbr := { routed.fbr with reasm := [(4 * 511 + 3, { ready := [c] })] } }
     let e := s.setB (CLSW.EP 0) CLSW.EP_EG_VALID true
     firstFrame (Tab.get (fun _ => {}) s.fbr.reasm (4 * 511 + 3)).ready = some (true, [c], []) ∧
     s.blk Kind.QMG.pages.1 ≠ bOFF ∧ s.blk Kind.QMG.pages.1 ≠ bCONFIG ∧
     (s.egress 0 100 false false).1 = false ∧ (e.egress 0 100 false false).1 = false ∧ (e.egress 0 100 true true).1 = true) := by
  decide +kernel

theorem witness_TopologyRowsComplete :
    (let s := linkAt kUP
     s.running = true ∧ s.fabFirmware = true ∧ s.inConflict = false) ∧
    (let s := (linkAt kUP).setNeigh 7 { alive := true }
     s.memberOpen 7 = true ∧ s.fabRole ≠ 0 ∧ s.active Kind.FBR.pages.1 = true ∧ s.topoRec 511 = none ∧ s.fbr.parts = []) ∧
    (let x : TopoRec := { ident := 5, role := 1, seq := 1, links := [] }
     let s : State := { live with fbr := { topo := [(511, some x)] }, now := 4000000000 }
     s.topoRec 511 = some x ∧ x.refreshed + 4 * nsSec ≤ s.now) ∧
    (let s : State := { linkAt kUP with fbr := { computeDue := true } }
     s.fabFirmware = true ∧ s.fbr.computeDue = true) := by decide +kernel

theorem witness_TimingRowsComplete :
    (live.setBlk timPg bACTIVE).active timPg = true ∧
    (∀ src ∈ [3, 8], let s := (live.set TIM.page (TIM.SLOT_CFG_SOURCE 15) src).setB TIM.page (TIM.SLOT_STATUS_ACTIVE 15) (src = 8)
     s.get TIM.page (TIM.SLOT_CFG_SOURCE 15) ≠ 0x3F ∧ s.flag TIM.page (TIM.SLOT_STATUS_ACTIVE 15) = decide (src = 8) ∧
     s.recovered (s.get TIM.page (TIM.SLOT_CFG_SOURCE 15)) = if src = 8 then some false else none) ∧
    (let s := ((live.setBlk timPg bACTIVE).set TIM.page (TIM.SLOT_CFG_SOURCE 15) 8).setB TIM.page (TIM.SLOT_CFG_EN 15) true
     let s := (s.setB TIM.page (TIM.SLOT_STATUS_ACTIVE 15) true).setB TIM.page (TIM.SLOT_STATUS_MON_VALID 15) true
     let s := s.setB TIM.page (TIM.SLOT_STATUS_WTR 15) true
     s.slotIs TIM.SLOT_STATUS_WTR 15 = true ∧ s.get TIM.page (TIM.SLOT_STATUS_WTR_LEFT 15) = 0 ∧ s.slotGood 15 = true) ∧
    (∀ d ∈ [0, 1],
      (let s : State := { live.set TIM.page (TIM.DSTATUS_STATE d) dpLOCKING with now := 10 * nsSec }
       s.dpState d = dpLOCKING ∧ s.phaseOver d (s.lockLimit d) = false ∧ (s.dpll d).since + 10 * nsSec ≤ s.now) ∧
      (let s : State := { (live.set TIM.page (TIM.DSTATUS_STATE d) dpLOCKED).setI TIM.page (TIM.PHASE_ERR_PS d) (-1000001) with
         now := nsSec }
       s.dpState d = dpLOCKED ∧ s.phaseOver d 1000000 = true ∧ (s.dpll d).since + nsSec ≤ s.now) ∧
      (let s := (live.setB TIM.page (TIM.DSTATUS_SLEWING d) true).setDpll d { slew := -3, slewed := 3 * 10 ^ 8 }
       s.flag TIM.page (TIM.DSTATUS_SLEWING d) = true ∧ (s.dpll d).slew.natAbs * 10 ^ 8 ≤ (s.dpll d).slewed)) ∧
    (∀ run ∈ [false, true], let s : State := { (live.setB TIM.page (TIM.PPSOUT_CFG_EN 1) true).setB TIM.page (TIM.PPSOUT_CFG_SRC 1) false with
       dtime := if run then 0 else 7, tim := { pps := ⟨{}, { next := some 7, period := 1000, run := run }⟩ } }
     (s.pps 1).next = some 7 ∧ s.flag TIM.page (TIM.PPSOUT_CFG_EN 1) = true ∧
     (if run then (s.pps 1).run = true ∧ s.flag TIM.page (TIM.PPSOUT_CFG_SRC 1) = false else 7 ≤ s.dtime)) ∧
    (let s := (live.setB TIM.page (TIM.SLOT_CFG_QL_SRC 0) true).set TIM.page (TIM.SLOT_CFG_SOURCE 0) 0x27
     s.esmcSlot 0 = true ∧ (let l : State := { s with now := 5 * nsSec }; l.esmcSlot 0 = true ∧ (l.slot 0).pduAt + 5 * nsSec ≤ l.now)) ∧
    (let s := port31.setB (CLN.page 7) CLN.QUAD_CFG_TX_TIMING true
     s.portEn 31 = true ∧ s.portTransparent 31 = false ∧ s.flag (CLN.page (31 / 4)) CLN.QUAD_CFG_TX_TIMING = true ∧
     s.selected 0 = none) := by decide +kernel

/-- ECC and the channels active, 1,000 pages in all, the first 2 in the table region. -/
def memUp : State :=
  let s := each (List.range 16) (fun c t => t.setBlk (Kind.MEM.pg c) bACTIVE) (live.setBlk Kind.ECC.pages.1 bACTIVE)
  (s.set ECC.page ECC.TOTAL_PAGES_P 1000).set ECC.page ECC.TABLE_PAGES_T 2

theorem witness_MemoryRowsComplete :
    (memUp.running = true ∧ memUp.pageServed 0 = true ∧ memUp.pageServed 999 = true ∧ 0 < (56 : Fin 57).val) ∧
    (∀ p ∈ [0, 999], memUp.eccServes = true ∧ p < memUp.get ECC.page ECC.TOTAL_PAGES_P ∧ memUp.chDown (memUp.physPage p).1 = false ∧
      (p < memUp.tableFirst ∨ memUp.tableFirst + memUp.tablePages ≤ p ∨ memUp.chOver (memUp.physPage p).1 = false)) ∧
    (memUp.get ECC.page ECC.SCRUB_CFG_PASS ≠ 0 ∧ memUp.shed = false) ∧
    (memUp.chLive 15 = true ∧ memUp.chFailed 15 = false ∧ memUp.blk (Kind.MEM.pg 15) ≠ bOFF ∧
      memUp.get (MEM.page 15) MEM.STATUS_BAND ≠ 3) := by decide +kernel

/-- Page 0 with 2,048 bytes 0. -/
def zeroPage : State := { memUp with mem := (List.range' 0 2048).map (fun i => (i, 0)) }

theorem get_zeros : ∀ n b k, k < n → Cells.get ((List.range' b n).map (fun i => (i, 0))) (b + k) = some 0
  | n + 1, b, 0, _ => by simp [List.range'_succ, Cells.get]
  | n + 1, b, k + 1, h => by
    rw [List.range'_succ, List.map_cons, Cells.get, if_neg (by omega), show b + (k + 1) = b + 1 + k by omega]
    exact get_zeros n (b + 1) k (by omega)

/-- A scrubbed page of 56 words with no error. -/
theorem zeroPage_scrub (t : State) (hm : t.mem = zeroPage.mem) (hr : t.ecc.raw = []) (hp : t.poisoned = []) :
    (List.range 56).foldl (fun (m : Nat × Nat × Nat) w =>
      let y := t.scrubWord 0 w; (m.1 + y.1, m.2.1 + y.2.1, m.2.2 + y.2.2)) (0, 0, 0) = (0, 0, 0) := by
  have h : ∀ w, w < 56 → t.scrubWord 0 w = (0, 0, 0) := by
    intro w hw
    have hc : ∃ l, t.cleanWord 0 w = some l := by
      rw [State.cleanWord]
      refine ⟨(List.range 32).map (fun i => t.memByte (2048 * 0 + 34 * w + i)), ?_⟩
      rw [if_neg (by simp [hp]), if_pos]
      rw [List.all_eq_true]
      intro i hi
      have hi := List.mem_range.1 hi
      have := get_zeros 2048 0 (34 * w + i) (by omega)
      simp only [Nat.mul_zero, Nat.zero_add] at this ⊢
      rw [hm, zeroPage, this]; rfl
    obtain ⟨l, hl⟩ := hc
    rw [State.scrubWord, State.lightWord, if_neg (by simp [hr]), hl]
  have g : ∀ l : List Nat, (∀ w ∈ l, w < 56) → l.foldl (fun (m : Nat × Nat × Nat) w =>
      let y := t.scrubWord 0 w; (m.1 + y.1, m.2.1 + y.2.1, m.2.2 + y.2.2)) (0, 0, 0) = (0, 0, 0) := by
    intro l
    induction l with
    | nil => intro _; rfl
    | cons w l ih =>
      intro hl
      rw [List.foldl_cons, h w (hl w (by simp))]
      exact ih (fun w hw => hl w (by simp [hw]))
  exact g _ (fun w hw => List.mem_range.1 hw)

theorem witness_MemoryRowsComplete_scrub :
    zeroPage.get ECC.page ECC.SCRUB_CFG_PASS ≠ 0 ∧ zeroPage.eccServes = true ∧ zeroPage.shed = false ∧
    zeroPage.tableFirst ≤ zeroPage.get ECC.page ECC.SCRUB_STATUS_PAGE ∧
    zeroPage.get ECC.page ECC.SCRUB_STATUS_PAGE + 1 < zeroPage.tableFirst + zeroPage.tablePages ∧
    zeroPage.ecc.passAt.any (fun t => zeroPage.now < t + zeroPage.get ECC.page ECC.SCRUB_CFG_PASS * nsSec) = false ∧
    (let first := decide (zeroPage.get ECC.page ECC.SCRUB_STATUS_PAGE = zeroPage.tableFirst)
     let u : State := if first then { zeroPage with ecc := { zeroPage.ecc with passAt := some zeroPage.now } } else zeroPage
     let t := (u.set ECC.page ECC.SCRUB_STATUS_PAGE (zeroPage.get ECC.page ECC.SCRUB_STATUS_PAGE + 1)).setB ECC.page
       ECC.SCRUB_STATUS_STARVED false
     t.physPage (zeroPage.get ECC.page ECC.SCRUB_STATUS_PAGE) = (0, 0) ∧ t.chDown 0 = false ∧
     (List.range 56).foldl (fun (m : Nat × Nat × Nat) w =>
       let y := t.scrubWord 0 w; (m.1 + y.1, m.2.1 + y.2.1, m.2.2 + y.2.2)) (0, 0, 0) = (0, 0, 0) ∧
     0 < t.get ECC.page ECC.SCRUB_CFG_CE_TH ∧ t.get ECC.page ECC.SCRUB_CFG_CE_TH ≤ 56) := by
  refine ⟨by decide +kernel, by decide +kernel, by decide +kernel, by decide +kernel, by decide +kernel, by decide +kernel, ?_, ?_, ?_, ?_, ?_⟩
  · decide +kernel
  · decide +kernel
  · exact zeroPage_scrub _ rfl rfl rfl
  · decide +kernel
  · decide +kernel

/-- Rails 0 and 1 monitored, rail 1 the AVS rail. -/
def rails : State := (live.set PWR.page (PWR.RAIL_ROLE 0) 1).set PWR.page (PWR.RAIL_ROLE 1) 2

/-- A budget of 200 W. -/
def budget : State := live.set PWR.page PWR.BUDGET_MW 200000

theorem witness_PowerAndThermalRowsComplete :
    (rails.running = true ∧ (let s : State := { rails with now := 1000 * nsMs }
       s.pwr.govAt + s.get PWR.page PWR.PMBUS_CFG_PERIOD_MS * nsMs ≤ s.now) ∧ (rails.railsRead.any (fun i => (([some 5, some 6] : List (Option Nat)).getD i none).isNone)) = false) ∧
    (rails.railsRead.any (fun i => (([some 5, none] : List (Option Nat)).getD i none).isNone)) = true ∧
    (let s : State := { rails.setB PWR.page PWR.AVS_CFG_EN true with pwr := { avsStarted := true } }
     s.ready = true ∧ s.flag PWR.page PWR.AVS_CFG_EN = true ∧ s.avsRail.isNone = false ∧ s.pwr.avsBad = false ∧
     s.pwr.avsStarted = true) ∧
    ((live.setB PWR.page PWR.DROOP_STATUS_SHED true).shed = true ∧ live.pwr.shedEnd ≤ live.now) ∧
    (200 + 50 * live.get PWR.page PWR.DROOP_CFG_TH < 2000 ∧ 200 ≤ 200 + 50 * live.get PWR.page PWR.DROOP_CFG_TH) ∧
    (∀ op ∈ [0, 8], let r := leaveOf op 1 0
      budget.standing + r.cost ≤ budget.get PWR.page PWR.BUDGET_MW ∧ budget.pwr.queue = [] ∧ budget.mayGrant r.cost = true) ∧
    (let r := leaveOf 1 1 0
     let s : State := { budget with pwr := { queue := [r] } }
     s.pwr.queue = [r] ∧ s.standing + r.cost ≤ s.get PWR.page PWR.BUDGET_MW ∧ s.mayGrant r.cost = true) ∧
    (let r := leaveOf 8 1 0
     let s : State := { budget with pwr := { active := [r] }, now := 1000 * nsMs }
     s.pwr.active.find? (fun r => r.op = 8 && r.unit = 1) = some r ∧
     s.pwr.active.any (fun r => r.op = 8 && r.unit = 1 && !r.overrun && decide (r.at_ + 2 * r.durationMs * nsMs < s.now)) = true) := by decide +kernel

/-- HKA active, its sequencer in a state. -/
def hkAt (st : Nat) : State := (live.setBlk Kind.HKA.pages.1 bACTIVE).set HKA.page HKA.STATUS_STATE st

theorem witness_HousekeepingAndFaultRowsComplete :
    (let s : State := { (hkAt hkIDLE).setB HKA.page HKA.CTRL_TIMER_EN true with now := 1000 * nsSec }
     s.running = true ∧ s.hkFlag HKA.CTRL_TIMER_EN = true ∧ s.hka.tick + s.get HKA.page HKA.TIMER_PERIOD * (100 * nsUs) ≤ s.now ∧
     s.hkActive = true ∧ s.hkState = hkIDLE ∧
     s.hkFlag HKA.STATUS_SCAN_INTERRUPTED = false ∧ s.hkFlag HKA.STATUS_SCAN_PENDING = false ∧ s.shed = false) ∧
    (∀ len ∈ [1, 2], let s : State := { (hkAt hkSCAN).set HKA.page HKA.SEQ_LEN_SCAN_LEN len with now := nsSec }
     let i := s.get HKA.page HKA.STATUS_SCAN_ENTRY
     let w := s.nat (HKA.page + HKA.SCAN_ENTRY i)
     let t := s.hkKeep (HKA.SCAN_RESULT i) (hkRaw w 9) (hkOver w 9 || hkOver w 9)
     s.hkState = hkSCAN ∧ s.hka.at_ + s.hkEntryNs w ≤ s.now ∧ t.hkActive = true ∧
     (if len = 1 then t.get HKA.page HKA.SEQ_LEN_SCAN_LEN ≤ i + 1 else i + 1 < t.get HKA.page HKA.SEQ_LEN_SCAN_LEN)) ∧
    (let s : State := { (hkAt hkTIP).set HKA.page HKA.SEQ_LEN_TIP_LEN 2 with now := nsSec }
     let i := s.get HKA.page HKA.STATUS_TIP_ENTRY
     let w := s.nat (HKA.page + HKA.TIP_ENTRY i)
     let t := s.hkKeep (HKA.TIP_RESULT i) (hkRaw w 9) (hkOver w 9 || hkOver w 9)
     s.hkState = hkTIP ∧ s.hka.at_ + s.hkEntryNs w ≤ s.now ∧ i + 1 < t.get HKA.page HKA.SEQ_LEN_TIP_LEN ∧ t.hkActive = true) ∧
    (let s : State := { hkAt hkCAL with now := nsSec }
     s.hkState = hkCAL ∧ s.hka.at_ + 13 * hkPeriod (s.hka.last.getD (0, false)) ≤ s.now) ∧ evUsed 0 127 = true ∧
    (let s : State := { live.setPage 32 { graceFrom := some 4 } with now := 100000 * nsMs }
     (s.page 32).graceFrom = some 4 ∧ 4 + s.get (pageBase 32) HDR.GRACE_MS * nsMs ≤ s.now) ∧
    (let s : State := { live.setBlk 32 bFAULT with now := 100000 * nsSec }
     s.blk 32 = bFAULT ∧ s.safe = false ∧ (s.page 32).softReset = false ∧
     (s.page 32).quietFrom + s.get (pageBase 32) HDR.QUIET_S * nsSec ≤ s.now) := by decide +kernel

theorem witness_SecurityAndStoreRowsComplete :
    (let s := live.set SEC.page SEC.ATTEST_STATUS_STATE 1; s.running = true ∧ s.get SEC.page SEC.ATTEST_STATUS_STATE = 1) ∧
    (∀ op ∈ [ksLOAD, ksIMPORT, ksCLEAR],
      let s : State := { live with
        sec := { ksOp := some (op, 511, 1), ksGranted := true, ksTx := 2 }, nv := { kek := some 1 } }
      s.sec.ksOp = some (op, 511, 1) ∧ s.sec.ksGranted = true ∧ s.sec.ksErased = false ∧ s.sec.ksTx = 2 ∧
      s.nv.kek.isNone = false ∧ ({ s with sec := { s.sec with ksTx := 0 } } : State).sec.ksTx = 0) ∧
    (let s : State := { live with boot := { live.boot with strapsSampled := true } }
     s.guardOn = true ∧ (s.setB SEC.page SEC.GUARD_STATUS_SELFTEST_BUSY true).flag SEC.page SEC.GUARD_STATUS_SELFTEST_BUSY = true) ∧
    live.get SEC.page SEC.DEBUG_STATE = 0 ∧ (live.set SEC.page SEC.DEBUG_STATE 1).get SEC.page SEC.DEBUG_STATE ≠ 0 ∧
    (live.nvRequest (.image 2) 64).nv.queue ≠ [] ∧     (let s : State := { live.set NVS.page NVS.SCRUB_CFG_HOURS 1 with now := 3600 * nsSec }
     s.get NVS.page NVS.SCRUB_CFG_HOURS ≠ 0 ∧
     s.nv.scrubAt + s.get NVS.page NVS.SCRUB_CFG_HOURS * (3600 * nsSec) ≤ s.now) := by decide +kernel

theorem witness_CoresAndRepairRowsComplete :
    (let s := live.set CPU.page CPU.FW_STATUS_SVC_STATE svQUIESCING; s.running = true ∧ s.svcState = svQUIESCING ∧ s.agree.on = false) ∧
    (let s : State := { live.set CPU.page CPU.FW_STATUS_SVC_STATE svRESTARTING with cpu := { restart := 1 } }
     s.svcState = svRESTARTING ∧ s.cpu.restart = 1 ∧
     (let l : State := { s with now := 2 * nsSec }; l.cpu.haltAt + 2 * nsSec ≤ l.now)) ∧
    (live.boot.fwStarted = true ∧ live.svcState ≠ svRESTARTING ∧
      (live.set CPU.page CPU.FW_STATUS_USER_STATE 2).get CPU.page CPU.FW_STATUS_USER_STATE = 2) ∧
    (live.coreRuns 0 = true ∧ (live.set CPU.page CPU.FW_STATUS_USER_STATE 2).coreRuns 7 = true) ∧
    (let s : State := { live.set CPU.page CPU.FW_STATUS_USER_STATE 1 with nv := { userHome := true } }
     s.get CPU.page CPU.FW_STATUS_USER_STATE = 1 ∧ s.nv.userHome = true) ∧
    (let s : State := { (live.set CPU.page (CPU.PMU_CTRL_SAMPLE_EN 0) 1).set CPU.page (CPU.PMU_CTRL_EN 0) 4 with
       cpu := { sinceSample := [(0, 2 ^ 32)] } }
     (List.range 8).filter (fun k => bitOf (255 : BitVec 8).toNat k && bitOf (s.get CPU.page (CPU.PMU_CTRL_SAMPLE_EN 0)) k
       && bitOf (s.get CPU.page (CPU.PMU_CTRL_EN 0)) (2 + k)
       && decide (s.get CPU.page (CPU.SAMPLE_PERIOD_EVENTS 0) ≤ Tab.get (fun _ => 0) s.cpu.sinceSample (8 * 0 + k))) ≠ [] ∧ s.coreRuns 0 = true ∧
     s.flag CPU.page CPU.CTRL_FREEZE_ALL = false) ∧
    (let s := live.setBlk rpPg bACTIVE
     s.flag RPR.page RPR.CTRL_SWEEP_EN = true ∧ s.active rpPg = true ∧ s.sweepBusy = false ∧
     (let l : State := { s with now := 1000000 * nsSec }
      l.rpr.periodAt + l.get RPR.page RPR.CTRL_PERIOD * (3600 * nsSec) ≤ l.now)) ∧
    (let s : State := { live with rpr := { sweepOn := true } }
     s.rpr.sweepOn = true ∧ s.rpr.sweepEnding = false ∧ s.shed = false) ∧
    (let s : State := { live with
       rpr := { bistChannel := some 15 }
       pwr := { active := [{ op := 3, unit := 0, cost := 1, durationMs := 1, standing := 0 }] } }
     s.rpr.bistChannel = some 15 ∧ s.hasLeave 3 0 = true) := by decide +kernel

/-- Gathering 63 on both carriers, 1+1 selected. -/
def onePlus : State :=
  let s := (gathUp.setB (GTHW.CFG 63) GTHW.CFG_POS0_VALID true).set (GTHW.CFG 63) GTHW.CFG_POS0 6
  (s.setNat (GTHW.CFG 63 + 8) 1).setB (GTHW.CFG 63) GTHW.CFG_MODE true

/-- What `State.CoreDoes` asks, as one check. -/
def coreDoes (s : State) (c : Fin 8) (a v : Nat) (f : Nat → State → WOut) : Bool :=
  s.running && s.coreRuns c && s.mayWrite (.core c) a v && (f (s.written a v) (s.reached (.core c))).rej.isNone

theorem witness_HostSystemRowsComplete :
    (let s := live; let c : Fin 8 := 0
     coreDoes s c ((SYS.page + SYS.RESET_CTRL)) ((1 + (0xA5C3 : BitVec 16).toNat * 2 ^ 16)) (wrSYS (8 + c.val) SYS.RESET_CTRL) = true) ∧
    (let s := live; let c : Fin 8 := 0; let n : Fin 2 := 1
     s.ready = true ∧ coreDoes s c ((SYS.page + SYS.CARRIER_CTRL)) ((s.withField (SYS.page) (carrierUpFld n) 1)) (fun x u => ok (State.wrUp (State.wrUp (u.setNat (SYS.page + SYS.CARRIER_CTRL) x) (s.nat (SYS.page + SYS.CARRIER_CTRL)) x (8 + c.val) 0) (s.nat (SYS.page + SYS.CARRIER_CTRL)) x (8 + c.val) 1)) = true) ∧
    (let s := live; let c : Fin 8 := 0; let n : Fin 2 := 1
     s.ready = true ∧ coreDoes s c ((SYS.page + SYS.CARRIER_CTRL)) ((s.withField (SYS.page) (carrierUpFld n) 0)) (fun x u => ok (State.wrUp (State.wrUp (u.setNat (SYS.page + SYS.CARRIER_CTRL) x) (s.nat (SYS.page + SYS.CARRIER_CTRL)) x (8 + c.val) 0) (s.nat (SYS.page + SYS.CARRIER_CTRL)) x (8 + c.val) 1)) = true) ∧
    (let s := live; let c : Fin 8 := 0
     s.ready = true ∧ coreDoes s c ((SYS.page + SYS.FABRIC_CTRL)) ((s.withField (SYS.page) SYS.FABRIC_CTRL_OPEN 1)) (wrSYS (8 + c.val) SYS.FABRIC_CTRL) = true) ∧
    (let s := live; let c : Fin 8 := 0; let ipv6 : Bool := true
     coreDoes s c ((RAP.page + RAP.ENCAP)) ((s.withField (RAP.page) RAP.ENCAP_MODE (b2n ipv6))) (fun x u => ok (u.setNat (RAP.page + RAP.ENCAP) x)) = true) ∧
    (let s := live; let c : Fin 8 := 0; let page : Fin 128 := 0; let index : Fin 128 := 127
     (let x := s.written (FLT.page + FLT.ACK) (page.val + index.val * 2 ^ 8); evUsed (fv x FLT.ACK_PAGE) (fv x FLT.ACK_INDEX) = true) ∧ coreDoes s c ((FLT.page + FLT.ACK)) ((page.val + index.val * 2 ^ 8)) (fun x u => ok (u.ackSource (fv x FLT.ACK_PAGE) (fv x FLT.ACK_INDEX))) = true) ∧
    (let s := live; let c : Fin 8 := 0; let on : Bool := true
     coreDoes s c ((FLT.page + FLT.CTRL)) ((s.withField (FLT.page) FLT.CTRL_FORCE_ALARM (b2n on))) (fun x u => ok (State.refreshAlarm (u.setNat (FLT.page + FLT.CTRL) x))) = true) := by
  decide +kernel

theorem witness_HostCarrierRowsComplete :
    (let s := calUp; let c : Fin 8 := 0; let n : Fin 2 := 1
     coreDoes s c ((CAL.page n + CAL.CMD)) ((s.withField (CAL.page n) CAL.CMD_FULL 1)) (wrCAL n CAL.CMD) = true) ∧
    (let s := calUp; let c : Fin 8 := 0; let n : Fin 2 := 1; let conv : Fin 8 := 7; let pos : Fin 64 := 63
     coreDoes s c ((CAL.page n + CAL.CMD)) ((2 + conv.val * 2 ^ 8 + pos.val * 2 ^ 16)) (wrCAL n CAL.CMD) = true) ∧
    (let s := live; let c : Fin 8 := 0; let n : Fin 2 := 1
     coreDoes s c ((CAL.page n + CAL.CMD)) ((s.withField (CAL.page n) CAL.CMD_ABORT_SPARE 1)) (wrCAL n CAL.CMD) = true) ∧
    (let s := live.set (TXD.page 1) TXD.SC_CFG_K_LOG2 4; let c : Fin 8 := 0; let n : Fin 2 := 1; let i : Fin 16 := 15
     coreDoes s c ((RXD.page n + RXD.CMD)) ((1 + i.val * 2 ^ 8)) (fun x u => u.rxdCmd n x) = true) ∧
    (let s := live; let c : Fin 8 := 0; let n : Fin 2 := 1
     coreDoes s c ((RXD.page n + RXD.CMD)) ((1 + 2 ^ 12)) (fun x u => u.rxdCmd n x) = true) ∧
    (let s := live.set (TXD.page 1) TXD.SC_CFG_K_LOG2 4; let c : Fin 8 := 0; let n : Fin 2 := 1; let i : Fin 16 := 15
     coreDoes s c ((RXD.page n + RXD.CMD)) ((2 + i.val * 2 ^ 8)) (fun x u => u.rxdCmd n x) = true) ∧
    (let s := live; let c : Fin 8 := 0; let n : Fin 2 := 1
     coreDoes s c ((RXD.page n + RXD.CMD)) ((s.withField (RXD.page n) RXD.CMD_MEM_CLEAR 1)) (fun x u => u.rxdCmd n x) = true) ∧
    (let s := live; let c : Fin 8 := 0; let n : Fin 2 := 1
     coreDoes s c ((RXD.page n + RXD.CMD)) ((s.withField (RXD.page n) RXD.CMD_FB_ZERO 1)) (fun x u => u.rxdCmd n x) = true) ∧
    (let s := live; let c : Fin 8 := 0; let n : Fin 2 := 1
     coreDoes s c ((RXD.page n + RXD.CTRL)) ((s.withField (RXD.page n) RXD.CTRL_NLC_REQ 1)) (wrRXD n RXD.CTRL) = true) ∧
    (let s := live; let c : Fin 8 := 0; let n : Fin 2 := 1
     coreDoes s c ((RXD.page n + RXD.CTRL)) ((s.withField (RXD.page n) RXD.CTRL_NLC_REQ 0)) (wrRXD n RXD.CTRL) = true) ∧
    (let s := live; let c : Fin 8 := 0; let n : Fin 2 := 1; let mute : Bool := true
     coreDoes s c ((TXD.page n + TXD.CTRL)) ((s.withField (TXD.page n) TXD.CTRL_MUTE (b2n mute))) (fun x u => ok ((u.setNat (TXD.page n + TXD.CTRL) x).outCause n (fun t => { t with cHost := fb x TXD.CTRL_MUTE }))) = true) ∧
    (let s := live; let c : Fin 8 := 0; let n : Fin 2 := 1; let on : Bool := true
     coreDoes s c ((TXD.page n + TXD.OCP_CFG)) ((s.withField (TXD.page n) TXD.OCP_CFG_FAULT_EN (b2n on))) (fun x u => ok (wrTXD n TXD.OCP_CFG x u).st) = true) ∧
    (let s := live; let c : Fin 8 := 0; let n : Fin 2 := 1; let m : Fin 2 := 1
     coreDoes s c ((TXD.page n + TXD.MASK_CTRL m)) ((s.withField (TXD.page n) (TXD.MASK_CTRL_CHECK m) 1)) (wrTXD n (TXD.MASK_CTRL m)) = true) ∧
    (let s := live.set (TXD.page 1) (TXD.MASK_CTRL_RESULT 1) 1; let c : Fin 8 := 0; let n : Fin 2 := 1; let m : Fin 2 := 1
     coreDoes s c ((TXD.page n + TXD.MASK_CTRL m)) ((s.withField (TXD.page n) (TXD.MASK_CTRL_APPLY m) 1)) (wrTXD n (TXD.MASK_CTRL m)) = true) ∧
    (let s := live; let c : Fin 8 := 0; let n : Fin 2 := 1; let target : BitVec 16 := 100
     coreDoes s c ((TXD.page n + TXD.CD_PRE)) ((s.withField (TXD.page n) TXD.CD_PRE_TARGET target.toNat)) (fun x u =>
       let v := u.setNat (TXD.page n + TXD.CD_PRE) x
       let cur := u.getI (TXD.page n) TXD.CD_PRE_CURRENT
       ok (if u.inConfig (Kind.TXD.pg n) then v.txTake n
         else v.raiseIf (u.getI (TXD.page n) TXD.CD_PRE_TARGET != cur && v.getI (TXD.page n) TXD.CD_PRE_TARGET = cur)
           (Kind.TXD.pg n) TXD.ev_PRECOMP_DONE)) = true) ∧
    (let s := live; let c : Fin 8 := 0; let n : Fin 2 := 1; let word : BitVec 32 := 0xFFFFFFFF
     (s.txs n).spi.length < 8 ∧ coreDoes s c ((TXD.page n + TXD.OCP_SPI_TX)) ((word.toNat)) (fun x u => ok (State.spiStart (u.setTx n { s.txs n with spi := (s.txs n).spi ++ [BitVec.ofNat 32 x] }) n)) = true) := by
  decide +kernel

theorem witness_HostFramingRowsComplete :
    (let s := live; let c : Fin 8 := 0; let n : Fin 2 := 1
     coreDoes s c ((SUB.page n + SUB.SCHED_CTRL)) ((s.withField (SUB.page n) SUB.SCHED_CTRL_CHECK 1)) (wrSUB n SUB.SCHED_CTRL) = true) ∧
    (let s := live.set (SUB.page 1) SUB.SCHED_CTRL_RESULT 1; let c : Fin 8 := 0; let n : Fin 2 := 1
     coreDoes s c ((SUB.page n + SUB.SCHED_CTRL)) ((s.withField (SUB.page n) SUB.SCHED_CTRL_APPLY 1)) (wrSUB n SUB.SCHED_CTRL) = true) ∧
    (let s := live.set (SUBW.LEAFE 1 31) SUBW.LEAFE_LSTATE leafINSERVICE; let c : Fin 8 := 0; let n : Fin 2 := 1; let leaf : Fin 32 := 31
     coreDoes s c ((SUB.page n + SUB.LEAF_CMD)) ((leaf.val + 2 ^ 8)) (wrSUB n SUB.LEAF_CMD) = true) ∧
    (let s := live; let c : Fin 8 := 0; let n : Fin 2 := 1; let i : Fin 16 := 15; let owner : Option (Fin 32) := some 31
     coreDoes s c ((SUB.page n + SUB.UP_OWNER (i / 4))) ((s.withField (SUB.page n) ⟨SUB.UP_OWNER (i / 4), 8 * (i % 4), 8⟩ (match owner with | some l => 128 + l.val | none => 0))) (wrSUB n (SUB.UP_OWNER (i / 4))) = true) ∧
    (let s := live; let c : Fin 8 := 0; let n : Fin 2 := 1; let imax : BitVec 5 := 24
     coreDoes s c ((FEC.page n + FEC.CAP_REQ)) ((s.withField (FEC.page n) FEC.CAP_REQ_IMAX imax.toNat)) (fun x u => u.imaxWrite n (fv x FEC.CAP_REQ_IMAX)) = true) ∧
    (let s := live; let c : Fin 8 := 0; let n : Fin 2 := 1
     (let x := s.written (FEC.page n + FEC.CMD) (s.withField (FEC.page n) FEC.CMD_HIST_CLEAR 1); fb x FEC.CMD_HIST_CLEAR = true) ∧ coreDoes s c ((FEC.page n + FEC.CMD)) ((s.withField (FEC.page n) FEC.CMD_HIST_CLEAR 1)) (fun x u => ok (each (List.range 32) (fun e t => t.setNat64 (FECW.HIST n e) 0) u)) = true) ∧
    (let s := live; let c : Fin 8 := 0; let n : Fin 2 := 1
     coreDoes s c ((FRM.page n + FRM.CMD)) ((s.withField (FRM.page n) FRM.CMD_ALIGN_RESTART 1)) (fun x u => ok (wrFRM n FRM.CMD x u).st) = true) ∧
    (let s := live; let c : Fin 8 := 0; let n : Fin 2 := 1
     coreDoes s c ((FRM.page n + FRM.CMD)) ((s.withField (FRM.page n) FRM.CMD_HB_SNAP 1)) (fun x u => ok (wrFRM n FRM.CMD x u).st) = true) := by
  decide +kernel

theorem witness_HostGatheringRowsComplete :
    (let s := live; let c : Fin 8 := 0; let g : Fin 64 := 63
     coreDoes s c ((GTH.page + GTH.CMD)) ((g.val + 1 * 2 ^ 8)) (fun x u => u.gthCmd (fv x GTH.CMD_GATHERING) (fv x GTH.CMD_ACTION)) = true) ∧
    (let s := onePlus; let c : Fin 8 := 0; let g : Fin 64 := 63
     coreDoes s c ((GTH.page + GTH.CMD)) ((g.val + 2 * 2 ^ 8)) (fun x u => u.gthCmd (fv x GTH.CMD_GATHERING) (fv x GTH.CMD_ACTION)) = true) ∧
    (let s := onePlus; let c : Fin 8 := 0; let g : Fin 64 := 63
     coreDoes s c ((GTH.page + GTH.CMD)) ((g.val + 3 * 2 ^ 8)) (fun x u => u.gthCmd (fv x GTH.CMD_GATHERING) (fv x GTH.CMD_ACTION)) = true) ∧
    (let s := onePlus; let c : Fin 8 := 0; let g : Fin 64 := 63
     coreDoes s c ((GTH.page + GTH.CMD)) ((g.val + 4 * 2 ^ 8)) (fun x u => u.gthCmd (fv x GTH.CMD_GATHERING) (fv x GTH.CMD_ACTION)) = true) ∧
    (let s := onePlus; let c : Fin 8 := 0; let g : Fin 64 := 63
     coreDoes s c ((GTH.page + GTH.CMD)) ((g.val + 5 * 2 ^ 8)) (fun x u => u.gthCmd (fv x GTH.CMD_GATHERING) (fv x GTH.CMD_ACTION)) = true) ∧
    (let s := onePlus; let c : Fin 8 := 0; let g : Fin 64 := 63
     coreDoes s c ((GTH.page + GTH.CMD)) ((g.val + 6 * 2 ^ 8)) (fun x u => u.gthCmd (fv x GTH.CMD_GATHERING) (fv x GTH.CMD_ACTION)) = true) ∧
    (let s := live; let c : Fin 8 := 0; let q : Fin 4 := 3; let v : BitVec 32 := 0
     coreDoes s c ((GTH.page + GTH.PG_CFG q)) ((v.toNat)) (fun x u => u.pgCfgWrite q x) = true) ∧
    (let s := live.setB GTH.page (GTH.PG_CFG_EN 3) true; let c : Fin 8 := 0; let q : Fin 4 := 3
     (let x := s.written (GTH.page + GTH.PG_CMD) (q.val + 0 * 2 ^ 4); s.flag GTH.page (GTH.PG_CFG_EN (fv x GTH.PG_CMD_GROUP)) = true) ∧ coreDoes s c ((GTH.page + GTH.PG_CMD)) ((q.val + 0 * 2 ^ 4)) (fun x u => ok (u.pgCmd (fv x GTH.PG_CMD_GROUP) (fv x GTH.PG_CMD_CMD))) = true) ∧
    (let s := live.setB GTH.page (GTH.PG_CFG_EN 3) true; let c : Fin 8 := 0; let q : Fin 4 := 3
     (let x := s.written (GTH.page + GTH.PG_CMD) (q.val + 1 * 2 ^ 4); s.flag GTH.page (GTH.PG_CFG_EN (fv x GTH.PG_CMD_GROUP)) = true) ∧ coreDoes s c ((GTH.page + GTH.PG_CMD)) ((q.val + 1 * 2 ^ 4)) (fun x u => ok (u.pgCmd (fv x GTH.PG_CMD_GROUP) (fv x GTH.PG_CMD_CMD))) = true) ∧
    (let s := live.setB GTH.page (GTH.PG_CFG_EN 3) true; let c : Fin 8 := 0; let q : Fin 4 := 3
     (let x := s.written (GTH.page + GTH.PG_CMD) (q.val + 2 * 2 ^ 4); s.flag GTH.page (GTH.PG_CFG_EN (fv x GTH.PG_CMD_GROUP)) = true) ∧ coreDoes s c ((GTH.page + GTH.PG_CMD)) ((q.val + 2 * 2 ^ 4)) (fun x u => ok (u.pgCmd (fv x GTH.PG_CMD_GROUP) (fv x GTH.PG_CMD_CMD))) = true) ∧
    (let s := live.setB GTH.page (GTH.PG_CFG_EN 3) true; let c : Fin 8 := 0; let q : Fin 4 := 3
     (let x := s.written (GTH.page + GTH.PG_CMD) (q.val + 3 * 2 ^ 4); s.flag GTH.page (GTH.PG_CFG_EN (fv x GTH.PG_CMD_GROUP)) = true) ∧ coreDoes s c ((GTH.page + GTH.PG_CMD)) ((q.val + 3 * 2 ^ 4)) (fun x u => ok (u.pgCmd (fv x GTH.PG_CMD_GROUP) (fv x GTH.PG_CMD_CMD))) = true) ∧
    (let s := live.setCtx 63 { txNext := some ⟨5, 9⟩ }; let c : Fin 8 := 0; let g : Fin 64 := 63
     coreDoes s c ((CRY.page + CRY.CMD)) ((g.val + 2 ^ 8)) (wrCRY CRY.CMD) = true) ∧
    (let s := live; let c : Fin 8 := 0; let g : Fin 64 := 63
     coreDoes s c ((CRY.page + CRY.CMD)) ((g.val + 2 * 2 ^ 8)) (wrCRY CRY.CMD) = true) ∧
    (let s := live; let c : Fin 8 := 0
     coreDoes s c ((CRY.page + CRY.CMD)) ((s.withField (CRY.page) CRY.CMD_SELF_TEST 1)) (wrCRY CRY.CMD) = true) ∧
    (let s := (gathUp.set (CRYW.KEY 63) CRYW.KEY_SUITE 1).set OSP.page (OSP.MC_SRC_SRC 3) 2; let c : Fin 8 := 0; let g : Fin 64 := 63
     coreDoes s c ((CRY.page + CRY.AGREE_CMD)) ((g.val + 2 ^ 8)) (fun x u => u.agreeCmd x) = true) ∧
    (let s := live; let c : Fin 8 := 0
     coreDoes s c ((CRY.page + CRY.AGREE_CMD)) ((s.withField (CRY.page) CRY.AGREE_CMD_ABORT 1)) (fun x u => u.agreeCmd x) = true) := by
  decide +kernel

theorem witness_HostNetworkRowsComplete :
    (let s := live; let c : Fin 8 := 0
     (let x := s.written (CLS.page + CLS.CMD) (s.withField (CLS.page) CLS.CMD_CACHE_FLUSH 1); fb x CLS.CMD_CACHE_FLUSH = true) ∧ coreDoes s c ((CLS.page + CLS.CMD)) ((s.withField (CLS.page) CLS.CMD_CACHE_FLUSH 1)) (fun x u => ok { u with cls := { s.cls with cache := [] } }) = true) ∧
    (let s := linkAt kUP; let c : Fin 8 := 0; let k : Fin 8 := 7
     coreDoes s c ((FBL.page k + FBL.CMD)) ((s.withField (FBL.page k) FBL.CMD_RETRAIN 1)) (wrFBL k FBL.CMD) = true) ∧
    (let s := live; let c : Fin 8 := 0
     coreDoes s c ((FBR.page + FBR.ROUTE_CTRL)) ((s.withField (FBR.page) FBR.ROUTE_CTRL_APPLY 1)) (wrFBR (isFirmware (.core c)) FBR.ROUTE_CTRL) = true) ∧
    (let s := live; let c : Fin 8 := 0; let d : Fin 2 := 1; let v : BitVec 32 := 0
     coreDoes s c ((TIM.page + TIM.DCTRL d)) ((v.toNat)) (wrTIM (isFirmware (.core c)) (TIM.DCTRL d)) = true) ∧
    (let s := live; let c : Fin 8 := 0; let d : Fin 2 := 1; let ps : BitVec 32 := 0
     coreDoes s c ((TIM.page + TIM.PHASE_STEP d)) ((ps.toNat)) (wrTIM (isFirmware (.core c)) (TIM.PHASE_STEP d)) = true) ∧
    (let s := live; let c : Fin 8 := 0; let slot : Fin 16 := 15; let v : BitVec 32 := 0
     coreDoes s c ((TIM.page + TIM.SLOT_CFG slot)) ((v.toNat)) (wrTIM (isFirmware (.core c)) (TIM.SLOT_CFG slot)) = true) ∧
    (let s := live; let c : Fin 8 := 0; let i : Fin 4 := 3; let v : BitVec 32 := 10000
     coreDoes s c ((TIM.page + TIM.CLKOUT_FREQ i)) ((v.toNat)) (wrTIM (isFirmware (.core c)) (TIM.CLKOUT_FREQ i)) = true) ∧
    (let s := live; let c : Fin 8 := 0; let i : Fin 4 := 3; let v : BitVec 32 := 0
     coreDoes s c ((TIM.page + TIM.CLKOUT_CFG i)) ((v.toNat)) (wrTIM (isFirmware (.core c)) (TIM.CLKOUT_CFG i)) = true) ∧
    (let s := live; let c : Fin 8 := 0; let a0 : Bool := true; let a1 : Bool := true
     coreDoes s c ((TIM.page + TIM.CMD)) ((b2n a0 + 2 * b2n a1)) (wrTIM (isFirmware (.core c)) TIM.CMD) = true) ∧
    (let s := live; let c : Fin 8 := 0; let j : Fin 2 := 1; let v : BitVec 32 := 0x10000
     coreDoes s c ((TIM.page + TIM.PPSOUT_CFG j)) ((v.toNat)) (wrTIM (isFirmware (.core c)) (TIM.PPSOUT_CFG j)) = true) ∧
    (let s := live; let c : Fin 8 := 0; let mw : BitVec 32 := 100000
     coreDoes s c ((PWR.page + PWR.BUDGET)) ((mw.toNat)) (fun x u => ok (State.syncPower (u.setNat (PWR.page + PWR.BUDGET) x))) = true) ∧
    (let s := live; let c : Fin 8 := 0; let mw : BitVec 32 := 100000
     coreDoes s c ((PWR.page + PWR.STANDING_BASE)) ((mw.toNat)) (fun x u => ok (State.syncPower (u.setNat (PWR.page + PWR.STANDING_BASE) x))) = true) ∧
    (let s := live; let c : Fin 8 := 0
     coreDoes s c ((HKA.page + HKA.CMD)) ((s.withField (HKA.page) HKA.CMD_SCAN_START 1)) (wrHKA HKA.CMD) = true) ∧
    (let s := live; let c : Fin 8 := 0
     coreDoes s c ((HKA.page + HKA.CMD)) ((s.withField (HKA.page) HKA.CMD_SCAN_STOP 1)) (wrHKA HKA.CMD) = true) ∧
    (let s := live; let c : Fin 8 := 0
     coreDoes s c ((HKA.page + HKA.CMD)) ((s.withField (HKA.page) HKA.CMD_CAL 1)) (wrHKA HKA.CMD) = true) := by
  decide +kernel

theorem witness_HostSecurityRowsComplete :
    (let s := live; let c : Fin 8 := 0
     coreDoes s c ((SEC.page + SEC.ATTEST_CMD)) ((s.withField (SEC.page) SEC.ATTEST_CMD_START 1)) (wrSEC none SEC.ATTEST_CMD) = true) ∧
    (let s := live; let c : Fin 8 := 0; let index : Fin 64 := 127
     coreDoes s c ((SEC.page + SEC.PEER_CMD)) ((index.val + 2 ^ 8)) (fun x u => u.peerCmd x) = true) ∧
    (let s := live; let c : Fin 8 := 0; let index : Fin 64 := 127
     coreDoes s c ((SEC.page + SEC.PEER_CMD)) ((index.val + 2 ^ 9)) (fun x u => u.peerCmd x) = true) ∧
    (let s := live; let c : Fin 8 := 0; let ty : Bool := true
     coreDoes s c ((SEC.page + SEC.KS_CMD)) ((1 * 2 ^ 12 + b2n ty * 2 ^ 16)) (fun x u => u.ksCmd x) = true) ∧
    (let s := live; let c : Fin 8 := 0; let slot : Fin 512 := 15; let ty : Bool := true
     coreDoes s c ((SEC.page + SEC.KS_CMD)) ((slot.val + 2 * 2 ^ 12 + b2n ty * 2 ^ 16)) (fun x u => u.ksCmd x) = true) ∧
    (let s := live; let c : Fin 8 := 0; let slot : Fin 512 := 15
     coreDoes s c ((SEC.page + SEC.KS_CMD)) ((slot.val + 3 * 2 ^ 12)) (fun x u => u.ksCmd x) = true) ∧
    (let s := live; let c : Fin 8 := 0; let policy : BitVec 32 := 0x6815
     coreDoes s c ((SEC.page + SEC.GUARD_POLICY)) ((policy.toNat)) (fun x u => u.policyWrite x) = true) ∧
    (let s := live; let c : Fin 8 := 0
     coreDoes s c ((SEC.page + SEC.GUARD_CMD)) ((s.withField (SEC.page) SEC.GUARD_CMD_SELFTEST 1)) (wrSEC none SEC.GUARD_CMD) = true) ∧
    (let s := live; let c : Fin 8 := 0
     coreDoes s c ((SEC.page + SEC.DEBUG)) ((s.withField (SEC.page) SEC.DEBUG_LOCKED 1)) (wrSEC none SEC.DEBUG) = true) ∧
    (let s := live; let c : Fin 8 := 0; let mode : Fin 4 := 1
     coreDoes s c ((SEC.page + SEC.FR_CMD)) ((1 + mode.val * 2 ^ 8)) (fun x u => u.frCmd x none) = true) ∧
    (let s := live; let c : Fin 8 := 0
     coreDoes s c ((CPU.page + CPU.CTRL)) ((s.withField (CPU.page) CPU.CTRL_USER_EN 1)) (fun x u => u.cpuCtrl x) = true) ∧
    (let s := live; let c : Fin 8 := 0
     coreDoes s c ((CPU.page + CPU.CTRL)) ((s.withField (CPU.page) CPU.CTRL_USER_EN 0)) (fun x u => u.cpuCtrl x) = true) ∧
    (let s := live; let c : Fin 8 := 0; let on : Bool := true
     coreDoes s c ((CPU.page + CPU.CTRL)) ((s.withField (CPU.page) CPU.CTRL_FREEZE_ALL (b2n on))) (fun x u => u.cpuCtrl x) = true) ∧
    (let s := live; let c : Fin 8 := 0; let core : Fin 8 := 7; let all : Bool := true
     coreDoes s c ((CPU.page + CPU.CMD)) ((1 + core.val * 2 ^ 8 + b2n all * 2 ^ 12)) (fun x u => ok (u.cpuCmd x)) = true) ∧
    (let s := live; let c : Fin 8 := 0
     coreDoes s c ((RPR.page + RPR.CMD)) ((s.withField (RPR.page) RPR.CMD_SWEEP_NOW 1)) (fun x u => u.rprCmd x) = true) ∧
    (let s := live.setB (MEM.page 15) MEM.STATUS_FAILED true; let c : Fin 8 := 0; let channel : Fin 16 := 15
     coreDoes s c ((RPR.page + RPR.CMD)) ((2 + channel.val * 2 ^ 4)) (fun x u => u.rprCmd x) = true) ∧
    (let s := live.set (RPRW.MAP 2047) RPRW.MAP_MSTATE 1; let c : Fin 8 := 0; let entry : Fin 2048 := 2047
     coreDoes s c ((RPR.page + RPR.CMD)) ((4 + entry.val * 2 ^ 16)) (fun x u => u.rprCmd x) = true) := by
  decide +kernel

theorem witness_HeaderRowsComplete :
    (let s := (live.setBlk 32 bOFF).setB (pageBase 32) HDR.ENABLE false; let c : Fin 8 := 0; let page : Fin 128 := 32
     coreDoes s c ((pageBase page + HDR.BLK_CTRL)) ((s.withField (pageBase page) HDR.ENABLE 1)) (wrHDR page HDR.BLK_CTRL) = true) ∧
    (let s := live; let c : Fin 8 := 0; let page : Fin 128 := 32
     coreDoes s c ((pageBase page + HDR.BLK_CTRL)) ((s.withField (pageBase page) HDR.ENABLE 0)) (wrHDR page HDR.BLK_CTRL) = true) ∧
    (let s := live; let c : Fin 8 := 0; let page : Fin 128 := 32
     coreDoes s c ((pageBase page + HDR.BLK_CTRL)) ((s.withField (pageBase page) HDR.SOFT_RESET 1)) (wrHDR page HDR.BLK_CTRL) = true) ∧
    (let s := live; let c : Fin 8 := 0; let page : Fin 128 := 32
     coreDoes s c ((pageBase page + HDR.BLK_CTRL)) ((s.withField (pageBase page) HDR.STATE_REQ 2)) (wrHDR page HDR.BLK_CTRL) = true) ∧
    (let s := live.setBlk 32 bACTIVE; let c : Fin 8 := 0; let page : Fin 128 := 32
     coreDoes s c ((pageBase page + HDR.BLK_CTRL)) ((s.withField (pageBase page) HDR.STATE_REQ 3)) (wrHDR page HDR.BLK_CTRL) = true) ∧
    (let s := live; let c : Fin 8 := 0; let page : Fin 128 := 32; let ms : BitVec 14 := 10000
     coreDoes s c ((pageBase page + HDR.GRACE_MS.off)) ((s.withField (pageBase page) HDR.GRACE_MS ms.toNat)) (wrHDR page HDR.GRACE_MS.off) = true) ∧
    (let s := live; let c : Fin 8 := 0; let page : Fin 128 := 32; let seconds : BitVec 12 := 3600
     coreDoes s c ((pageBase page + HDR.QUIET_S.off)) ((s.withField (pageBase page) HDR.QUIET_S seconds.toNat)) (wrHDR page HDR.QUIET_S.off) = true) ∧
    (let s := live; let c : Fin 8 := 0; let page : Fin 128 := 32; let w : Fin 4 := 3; let bits : BitVec 32 := 0xFFFFFFFF
     coreDoes s c ((pageBase page + HDR.EVT_STICKY w)) (bits.toNat) (wrHDR page (HDR.EVT_STICKY w)) = true) ∧
    (let s := live; let c : Fin 8 := 0; let page : Fin 128 := 32; let w : Fin 8 := 3; let value : BitVec 32 := 0
     coreDoes s c ((pageBase page + HDR.EVT_CLASS w)) (value.toNat) (wrHDR page (HDR.EVT_CLASS w)) = true) ∧
    (let s := live; let c : Fin 8 := 0; let a : BitVec 32 := 0x44; let v : BitVec 32 := 1; let k := Kind.SYS; let n := 0; let p := 0; let off := 0x44
     coreDoes s c (a.toNat) (v.toNat) (fun x u => u.handle (.core c) none k n p off x) = true) ∧
    (let s := live; let c : Fin 8 := 0; let page : Fin 128 := 32
     s.running = true ∧ s.coreRuns c = true ∧ s.flag (pageBase page) HDR.ENABLE = true ∧
     s.mayWrite (.core c) (pageBase page + HDR.BLK_CTRL) (s.withField (pageBase page) HDR.STATE_REQ 1) = true) ∧
    (let s := live.setB (pageBase 32) HDR.BUSY true; let c : Fin 8 := 0; let page : Fin 128 := 32
     s.running = true ∧ s.coreRuns c = true ∧ s.flag (pageBase page) HDR.ENABLE = true ∧
     s.mayWrite (.core c) (pageBase page + HDR.BLK_CTRL) (s.withField (pageBase page) HDR.STATE_REQ 1) = true) := by
  decide +kernel

theorem witness_EveryStepKeepsTheCanonicalForm :
    State.reset.Canonical ∧ opened.Canonical ∧ ∃ t, step { opened with pending := [.nop hdr] } = .next t :=
  ⟨canonical (by decide +kernel), canonical (by decide +kernel), _, rfl⟩

/-- The segment of a window at an offset. -/
def segOf (w off : Nat) : WinSeg := (winSegs.find? (fun g => g.win = w && g.off = off)).getD ⟨0, 0, 0, 0, 0, [], none⟩

/-- What `State.MayCommit` asks, as one check. -/
def commitCheck (s : State) (c : Fin 8) (g : WinSeg) (e : Nat) : Bool :=
  s.running && decide (c.val < 4) && s.coreRuns c && decide (0 < g.stride / 4) && decide (entryAddr g e % 4 = 0)
    && (List.range (g.stride / 4)).all (fun j => decide (placeAt (entryAddr g e + 4 * j) = some (.win g e j)))
    && decide (entryAddr g e + g.stride ≤ gddrBase) && s.rap.fill.isNone && canonCheck s

theorem mayCommit {s : State} {c : Fin 8} {g : WinSeg} {e : Nat} (h : commitCheck s c g e = true) : s.MayCommit c g e := by
  simp only [commitCheck, Bool.and_eq_true, decide_eq_true_eq, List.all_eq_true, List.mem_range, Option.isNone_iff_eq_none] at h
  obtain ⟨⟨⟨⟨⟨⟨⟨⟨h1, h2⟩, h3⟩, h4⟩, h5⟩, h6⟩, h7⟩, h8⟩, h9⟩ := h
  exact ⟨h1, h2, h3, h4, h5, h6, h7, fun a _ _ => by simp [State.filling, h8], canonical h9⟩

/-- A whole entry may be committed, with these words, where the block takes it. -/
def commits (s : State) (w off e : Nat) (ws : List Nat) (f : List Nat → State → WOut) : Bool :=
  (segOf w off).win = w && (segOf w off).off = off && commitCheck s 0 (segOf w off) e
    && (f (s.entryOf (segOf w off) e ws) (s.unstaged 0)).rej.isNone

theorem witness_EntryRowsComplete :
    commits gathUp 13 0 63 ((List.range 16).map (fun i => if i = 0 then clrBit (gathUp.nat (GTHW.CFG 63)) 0 else gathUp.nat (GTHW.CFG 63 + 4 * i)))
      (entGTH 63) = true ∧
    commits live 14 0 63 (List.replicate 8 0) (entCRY 63) = true ∧
    commits live 14 0 63 (live.keyWords 63 true 511 9) (entCRY 63) = true ∧
    commits live 14 0 63 (live.keyWords 63 false 511 9) (entCRY 63) = true ∧
    (∀ m ∈ [0, 266239], commits live 19 0 m (List.replicate 8 0) (entMTR m) = true) ∧
    (∀ q ∈ [0, 1048575], commits live 18 0 q [63 + 2 ^ 8, 0, 0, 0] (entQ q) = true) ∧
    (∀ e ∈ [512, 1023], commits live 22 0 e (List.replicate 4 0) (entROUTE (isFirmware (.core 0)) e) = true) := by decide +kernel

theorem witness_ShaperRowsComplete :
    (∀ q ∈ [0, 1048575], commits live 20 0 q (List.replicate 4 0) (entSHP q) = true) ∧
    (∀ e ∈ [0, 262143], commits live 21 0 e (List.replicate 4 0) (entSHP (2 ^ 20 + e)) = true) ∧
    (∀ g ∈ [0, 63], commits live 21 0x400000 g (List.replicate 4 0) (entSHP (2 ^ 21 + g)) = true) ∧
    (∀ k ∈ [0, 7], commits live 21 0x400400 k (List.replicate 4 0) (entSHP (2 ^ 21 + 64 + k)) = true) ∧
    (live.entryWords (shaperAddr (.queue 5)) 3 ++ [setBit (live.nat (shaperAddr (.queue 5) + 12)) 0]) = [0, 0, 0, 1] ∧
    commits live 20 0 5 [0, 0, 0, 1] (entSHP 5) = true ∧ commits live 21 0 5 [0, 0, 0, 1] (entSHP (2 ^ 20 + 5)) = true ∧
    commits live 21 0x400000 5 [0, 0, 0, 1] (entSHP (2 ^ 21 + 5)) = true ∧
    commits live 21 0x400400 5 [0, 0, 0, 1] (entSHP (2 ^ 21 + 64 + 5)) = true := by decide +kernel

theorem witness_SingleWordAndSessionRowsComplete :
    (∀ n ∈ [0, 1], let s := live.set (CAL.page n) CAL.CTRL_MODE 2; let g := segOf n 0
      g.win = n ∧ g.off = 0 ∧ commitCheck s 0 g 543 = true ∧ (s.requester (8 + 0)).entry ≠ some (entryAddr g 543) ∧
      (winCAL n (CALW.SUBCONV n 543 + 12) (merged s g 543 3 0) (s.unstaged 0)).rej.isNone = true) ∧
    (∀ n ∈ [0, 1], let g := segOf (6 + n) 0x1000
      g.win = 6 + n ∧ g.off = 0x1000 ∧ commitCheck live 0 g 31 = true ∧ (live.requester (8 + 0)).entry ≠ some (entryAddr g 31) ∧
      ((live.unstaged 0).commitEntry (.core 0) g 31 (live.lastOf g 31 (live.withField (SUBW.LEAFE n 31) SUBW.LEAFE_LISTED 1))).rej.isNone = true) ∧
    (let s := live.setB ECC.page ECC.TEST_EN true; let g := segOf 24 0
     g.win = 24 ∧ g.off = 0 ∧ commitCheck s 0 g 511 = true ∧ (s.requester (8 + 0)).entry ≠ some (entryAddr g 511) ∧
     ((s.unstaged 0).rawWordWrite 511 (merged s g 511 0 0xFFFFFFFF)).rej.isNone = true) ∧
    (let s := live; let lo := PMB.page + PMB.ALIGN_OFFSET; let hi := PMB.page + (PMB.ALIGN_OFFSET + 4)
     let o := wrPMB PMB.ALIGN_OFFSET (s.written lo 5) (s.reached (.core 0))
     let t := o.st.wrote lo
     let q := wrPMB (PMB.ALIGN_OFFSET + 4) (t.written hi 1) (t.reached (.core 0))
     s.running = true ∧ s.coreRuns 0 = true ∧ s.mayWrite (.core 0) lo 5 = true ∧ o.rej.isNone = true ∧
     t.mayWrite (.core 0) hi 1 = true ∧ q.rej.isNone = true) ∧
    (let a := SEC.page + SEC.FR_CMD; let v := 2 + 1 * 2 ^ 8
     let s : State := { live with sec := { challenge := some (0, 1, false) } }
     let t : State := { s with sec := { s.sec with sigHint := some true } }
     s.running = true ∧ s.coreRuns 0 = true ∧ t.mayWrite (.core 0) a v = true ∧
     (State.frCmd (t.reached (.core 0)) (t.written a v) none).rej.isNone = true) := by decide +kernel

/-- What `State.SessionDoes` asks of the first request of session 0, as one check. -/
def sessionCheck (s : State) (a v : Nat) (f : Nat → State → WOut) : Bool :=
  let q : Req := .write (BitVec.ofNat 32 a) (BitVec.ofNat 32 v)
  takesCheck s q && (tk s q).mayWrite (.rap hdr) a v && (f ((tk s q).written a v) ((tk s q).reached (.rap hdr))).rej.isNone

theorem witness_SingleWordAndSessionRowsComplete_session :
    sessionCheck opened (SEC.page + SEC.AUTH_CMD) (7 + 2 ^ 4) (fun x u => u.authCmd x 0) = true ∧
    sessionCheck opened (SEC.page + SEC.AUTH_CMD) (7 + 2 ^ 5) (fun x u => u.authCmd x 0) = true ∧
    sessionCheck opened (SEC.page + SEC.DEBUG_CMD) (1 + 0x5E7D * 2 ^ 16) (fun x u => u.debugCmd x (some (0, 7))) = true := by
  decide +kernel

theorem witness_RequestSeqIsFreshAndRecent :
    (let s := opened.setSession 0 { stage := .opened, seqHigh := 5 }
     s.running = true ∧ s.rapUp = true ∧ s.ready = true ∧ s.toMe hdr.via false = true ∧ hdr.via.udp = false ∧
     (s.session 0).stage = .opened ∧ (seqAccept (s.session 0) 5).isNone = true) ∧
    (offered [3, 70, 5, 5, 6]).2 = [70, 5, 6] ∧ (seqAccept (offered [70, 5, 6]).1 6).isSome = false ∧
    (seqAccept (offered [70, 6]).1 7).isSome = true ∧ (seqAccept (offered [70]).1 6).isSome = true ∧
    (seqAccept (offered [70]).1 5).isSome = false ∧ canonCheck opened = true := by decide +kernel

theorem witness_KeptResponsesAreRepeated :
    (let k : Kept := { tag := 7, resp := { status := rsOK }, sentAt := 0 }
     let s := opened.setSession 0 { stage := .opened, version := 0x20, kept := [k] }
     s.running = true ∧ s.rapUp = true ∧ s.ready = true ∧ s.toMe hdr.via false = true ∧ hdr.via.udp = false ∧
     (s.session 0).stage = .opened ∧ (seqAccept (s.session 0) 1).isSome = true ∧ canonCheck s = true ∧ ({ hdr with retry := true } : ReqHdr).retry = true ∧
     0x20 ≤ (s.session 0).version ∧ (s.session 0).kept.find? (fun k => k.tag = hdr.tag.toNat) = some k) ∧
    (let k : Kept := { tag := 7, resp := { status := rsOK }, sentAt := 0 }
     let s : State := { opened.setSession 0 { stage := .opened, version := 0x20, kept := [k] } with now := nsSec }
     s.running = true ∧ s.raised = [] ∧ s.acked = [] ∧ s.rap.udp = s.flag RAP.page RAP.ENCAP_MODE ∧ canonCheck s = true ∧
     (s.session 0).kept = [k] ∧ k.sentAt + nsSec ≤ s.now) := by decide +kernel

theorem witness_KeptResponsesAreRepeated_none : ∃ t, opened.Takes { hdr with retry := true } .nop t :=
  ⟨tk opened .nop,
   { running := by decide +kernel, up := by decide +kernel, ready := by decide +kernel, toMe := by decide +kernel
     sumOk := fun _ => rfl, opened := by decide +kernel, seq := ⟨(seqAccept (opened.session 0) 1).getD {}, by decide +kernel, rfl⟩
     fresh := by decide +kernel, fits := by decide +kernel, free := by decide +kernel }⟩

theorem witness_MisalignedAccessesReturnAlign :
    ∀ k ∈ [1, 3, 0x20000002, 0x1FFFFFFF, 0x3FFFFFFF, 0x40000001], let a := BitVec.ofNat 32 k
      a.toNat % 4 ≠ 0 ∧ takesCheck opened (.read a) = true ∧ takesCheck opened (.bulkRead a 1) = true ∧
      (∀ q ∈ [Req.write a 0, .modify a 0 0, .bulkWrite a 1 [0], .fill a 1 []],
        takesCheck opened q = true ∧ ((tk opened q).session 0).claim = false) := by decide +kernel

theorem witness_Gddr7WindowTakesWholeWordsOnly :
    (let s := memUp.setSession 0 { stage := .opened, version := 0x21 }
     let fits := fun (q : Req) => takesCheck s q && !((tk s q).session 0).claim
     (∀ k ∈ [0x40000000, 0xFFFFFFFC], let a := BitVec.ofNat 32 k
       fits (.read a) = true ∧ fits (.write a 0) = true ∧ fits (.modify a 0 0) = true) ∧
     (∀ k ∈ [0x40000004, 0x40000000], let a := BitVec.ofNat 32 k
       (a.toNat % 32 ≠ 0 ∨ 7 % 8 ≠ 0) ∧ fits (.bulkRead a 7) = true ∧ fits (.bulkWrite a 7 (List.replicate 7 0)) = true ∧
       fits (.fill a 7 []) = true) ∧
     (∀ k ∈ [0x40000E00, 0xFFFFFFE0], let a := BitVec.ofNat 32 k
       a.toNat % 32 = 0 ∧ (∀ q ∈ [Req.bulkRead a 8, .bulkWrite a 8 (List.replicate 8 0), .fill a 8 []],
         fits q = true ∧ (tk s q).eccServes = true ∧ 0x40000000 + 32 * (tk s q).tableWords ≤ a.toNat))) := by decide +kernel

theorem witness_ControlPagesRefuseDisable :
    ∀ k ∈ [Kind.SYS, .RAP, .PWR, .THM, .FLT, .SEC, .CLK, .NVS],
      (let a := BitVec.ofNat 32 (pageBase k.pages.1 + HDR.BLK_CTRL)
       let t := tk opened (.write a 0)
       a.toNat = pageBase k.pages.1 + HDR.BLK_CTRL ∧ live.running = true ∧ live.coreRuns 0 = true ∧
       live.mayWrite (.core 0) a.toNat 0 = true ∧ fb (live.written a.toNat 0) HDR.ENABLE = false ∧
       takesCheck opened (.write a 0) = true ∧ t.mayWrite (.rap hdr) a.toNat 0 = true ∧
       fb (t.written a.toNat 0) HDR.ENABLE = false) := by decide +kernel

/-- The state in which a session's write of `v` to a page's BLK_CTRL executes. -/
def ctrlTaken (s : State) (p v : Nat) : State := tk s (.write (BitVec.ofNat 32 (pageBase p + HDR.BLK_CTRL)) (BitVec.ofNat 32 v))

/-- A session's write of `v` to a page's BLK_CTRL is taken and keeps ENABLE. -/
def ctrlWrite (s : State) (p v : Nat) : Bool :=
  let a := pageBase p + HDR.BLK_CTRL
  let t := ctrlTaken s p v
  takesCheck s (.write (BitVec.ofNat 32 a) (BitVec.ofNat 32 v)) && t.mayWrite (.rap hdr) a v && fb (t.written a v) HDR.ENABLE
    && t.flag (pageBase p) HDR.ENABLE

theorem witness_BlockRequestsOutsideTheTableAreRefused :
    (let w := fun (s : State) (p v : Nat) => (ctrlTaken s p v).written (pageBase p + HDR.BLK_CTRL) v
     let idle := fun (s : State) (p v : Nat) => !(ctrlTaken s p v).flag (pageBase p) HDR.BUSY
     (ctrlWrite opened 0 3 = true ∧ fb (w opened 0 3) HDR.SOFT_RESET = true) ∧
     (let s := opened.setB (pageBase 32) HDR.BUSY true
      (∀ v ∈ [3, 0x203], ctrlWrite s 32 v = true ∧ idle s 32 v = false ∧ fb (w s 32 v) HDR.SOFT_RESET = true) ∧
      ctrlWrite s 32 0x201 = true ∧ idle s 32 0x201 = false ∧ fv (w s 32 0x201) HDR.STATE_REQ = 2 ∧
      fb (w s 32 0x201) HDR.SOFT_RESET = false) ∧
     (∀ v ∈ [0x101, 0x103], ctrlWrite opened 32 v = true ∧ idle opened 32 v = true ∧ fv (w opened 32 v) HDR.STATE_REQ = 1) ∧
     (∀ v ∈ [0x301, 0x303], ctrlWrite opened 32 v = true ∧ idle opened 32 v = true ∧ fv (w opened 32 v) HDR.STATE_REQ = 3 ∧
       (ctrlTaken opened 32 v).blk 32 ≠ bACTIVE) ∧
     (ctrlWrite opened 1 0x301 = true ∧ idle opened 1 0x301 = true ∧ alwaysActive 1 = true) ∧
     (let s := opened.setBlk 32 bACTIVE
      ctrlWrite s 32 0x201 = true ∧ idle s 32 0x201 = true ∧ (ctrlTaken s 32 0x201).blk 32 ≠ bCONFIG ∧
      (ctrlTaken s 32 0x201).blk 32 ≠ bDRAIN) ∧
     (let s := opened.setBlk 32 bOFF
      ctrlWrite s 32 3 = true ∧ idle s 32 3 = true ∧ fb (w s 32 3) HDR.SOFT_RESET = true ∧ (ctrlTaken s 32 3).blk 32 = bOFF)) := by
  decide +kernel

theorem witness_RefusedWritesChangeOnlyTheRecord :
    (let a := PWR.page + PWR.BUDGET
     let t := tk opened (.write (BitVec.ofNat 32 a) 0)
     takesCheck opened (.write (BitVec.ofNat 32 a) 0) = true ∧ t.writeDenied (.rap hdr) a = false ∧ a % 4 = 0 ∧
     (placeAt a).any (fun pl => match pl with
       | .reg k _ _ off r => k = .PWR && off = PWR.BUDGET && r.rw ||| r.wo ||| r.w1s ||| r.w1c != 0
       | _ => false) = true ∧
     (t.reached (.rap hdr)).inRange .PWR PWR.BUDGET (t.written a 0) = false) ∧
    (let a := TXD.page 1 + TXD.SC_CFG
     let s := opened.setBlk (Kind.TXD.pg 1) bACTIVE
     let t := tk s (.write (BitVec.ofNat 32 a) 4)
     takesCheck s (.write (BitVec.ofNat 32 a) 4) = true ∧ t.writeDenied (.rap hdr) a = false ∧ a % 4 = 0 ∧
     (placeAt a).any (fun pl => match pl with
       | .reg k _ _ off r => k = .TXD && off = TXD.SC_CFG && r.rw ||| r.wo ||| r.w1s ||| r.w1c != 0
           && (t.nat a) &&& r.cfg != t.written a 4 &&& r.cfg
       | _ => false) = true ∧
     (t.reached (.rap hdr)).inRange .TXD TXD.SC_CFG (t.written a 4) = true ∧
     t.blk (Kind.TXD.pg 1) ≠ bOFF ∧ t.blk (Kind.TXD.pg 1) ≠ bCONFIG) ∧
    (canonCheck opened = true ∧ 4095 < 4096 ∧ 15 < 16) := by decide +kernel

theorem witness_PlainWritesChangeOneRegister :
    (∀ x ∈ [(Kind.QMG, QMG.page + QMG.BP_CFG, 0x3F5F), (Kind.ECC, ECC.page + ECC.TEST, 1)],
      let q : Req := .write (BitVec.ofNat 32 x.2.1) (BitVec.ofNat 32 x.2.2)
      let t := tk opened q
      takesCheck opened q = true ∧ t.mayWrite (.rap hdr) x.2.1 x.2.2 = true ∧
      (placeAt x.2.1).any (fun pl => match pl with
        | .reg k _ _ off _ => k = x.1 && decide (0x100 ≤ off)
        | _ => false) = true ∧
      canonCheck t = true ∧ t.raised = [] ∧ t.acked = [] ∧ t.rap.udp = t.flag RAP.page RAP.ENCAP_MODE ∧
      (t.session 0).stage = .opened) ∧ canonCheck opened = true := by decide +kernel

theorem witness_WrittenBitsFollowTheAccessCodes :
    ∀ a ∈ [SYS.page, FLT.page + FLT.ACK, pageBase 32 + HDR.EVT_STICKY 3], a < 2 ^ 32 ∧
      (placeAt a).any (fun pl => match pl with
        | .reg .. => true
        | _ => false) = true := by decide +kernel

theorem witness_FiredSourceIsRecorded :
    (live.running = true ∧ live.raised = [] ∧ live.acked = [] ∧ live.rap.udp = live.flag RAP.page RAP.ENCAP_MODE ∧
      canonCheck live = true) ∧
    (evUsed 0 126 = false ∧ evUsed 0 127 = true) ∧
    (let s := live.setB (pageBase 0) (evEnable 127) false; s.flag (pageBase 0) (evEnable 127) = false) ∧
    (let s := (live.setB (pageBase 0) (evEnable 127) true).set (pageBase 0) (evClassFld 127) 0
     s.flag (pageBase 0) (evEnable 127) = true ∧ s.evClass 0 127 = 0 ∧ s.flag (pageBase 0) HDR.FIRST_VALID = false ∧
     (s.setB (pageBase 0) HDR.FIRST_VALID true).flag (pageBase 0) HDR.FIRST_VALID = true) := by decide +kernel

theorem witness_HighWordsComeFromTheSnapshot :
    (let a := RAP.page + RAP.TX_FRAMES
     canonCheck live = true ∧ a % 4 = 0 ∧ a + 4 < 0x40000000 ∧ live.filling a = false ∧ live.filling (a + 4) = false ∧
     (placeAt a).any (·.half = 1) = true ∧ (placeAt (a + 4)).any (·.half = 2) = true ∧
     readDenied (.rap hdr) a = false ∧ readDenied (.rap hdr) (a + 4) = false ∧
     (live.requester (Src.rap hdr).code).lastLow ≠ some a) ∧
    (Src.core 7).code ≠ (Src.rap hdr).code := by decide +kernel

theorem witness_LowerWordsOfAnEntryAreStaged :
    ∀ w ∈ [0, 2], let g := segOf 21 0; let a := entryAddr g 262143 + 4 * w
      let t := tk opened (.write (BitVec.ofNat 32 a) 5)
      takesCheck opened (.write (BitVec.ofNat 32 a) 5) = true ∧ t.writeDenied (.rap hdr) a = false ∧ a % 4 = 0 ∧
      a < 0x40000000 ∧ placeAt a = some (.win g 262143 w) ∧ w + 1 < g.stride / 4 ∧ t.filling a = false ∧
      canonCheck t = true := by decide +kernel

/-! ### Well-formedness: each check refuses a term that breaks it -/

theorem test_wf_requests :
    (Instr.bulkWrite hdr 0 2 [1]).wf = false ∧ (Instr.bulkWrite hdr 0 1 [1]).wf = true ∧
    (Instr.bulkRead hdr 0 (2 ^ 32)).wf = false ∧ (Instr.bulkRead hdr 0 (2 ^ 32 - 1)).wf = true ∧
    (Instr.fill hdr 0 1 [0]).wf = false ∧ (Instr.fill hdr 0 (2 ^ 32) (List.replicate 8 0)).wf = false ∧
    (Instr.fill hdr 0 8 (List.replicate 8 0)).wf = true ∧
    (Instr.imagePush hdr 0 (List.replicate 4101 0)).wf = false ∧ (Instr.imagePush hdr 0 (List.replicate 4100 0)).wf = true ∧
    (Instr.imageVerified true 0 0 (List.replicate 4097 0)).wf = false := by decide +kernel

theorem test_wf_carrier :
    (Instr.calPeriodEnd 0 [] (List.replicate 63 default) []).wf = false ∧
    (Instr.calPeriodEnd 0 (List.replicate 3 ⟨0, List.replicate 64 {}, 0, 0, 0⟩) [] []).wf = false ∧
    (Instr.calPeriodEnd 0 (List.replicate 4 ⟨0, [], 0, 0, 0⟩) [] []).wf = false ∧
    (Instr.calPeriodEnd 0 [] (List.replicate 64 default) []).wf = true ∧
    (Instr.eqBlockUpdate 0 0 [[], [], []]).wf = false ∧ (Instr.eqBlockUpdate 0 0 [[], [], [], []]).wf = true ∧
    (Instr.burstMapDecode 0 0 (List.replicate 15 0)).wf = false ∧ (Instr.burstMapDecode 0 0 (List.replicate 16 0)).wf = true ∧
    (Instr.burstSyncLatch 0 0 0 0 0 0 0 0 0 0 0 [[]]).wf = false ∧
    (Instr.fecEncode 0 16).wf = false ∧ (Instr.fecEncode 0 15).wf = true ∧ (Instr.codewordDecode 0 16).wf = false ∧
    (Instr.bchDecode 0 16).wf = false ∧ (Instr.lateCodeword 0 16 0).wf = false := by decide +kernel

theorem test_wf_others :
    (Instr.gatheringCommit 0 (List.replicate 15 0) (.core 0)).wf = false ∧
    (Instr.keyEntryCommit 0 (List.replicate 9 0) (.core 0)).wf = false ∧
    (Instr.meterCommit 0 (List.replicate 7 0) (.core 0)).wf = false ∧
    (Instr.shaperCommit (.link 0) (List.replicate 3 0) (.core 0)).wf = false ∧
    (Instr.ctleSweepDone 0 0 (List.replicate 15 0)).wf = false ∧
    (Instr.topoCellRx 0 0 0 0 0 1 1 []).wf = false ∧ (Instr.topoCellRx 0 0 0 0 0 0 1 []).wf = true ∧
    (Instr.routeEntryCommit 0 (List.replicate 5 0) (.core 0)).wf = false ∧
    (Instr.timSecond (List.replicate 15 none) (List.replicate 16 (0, 0)) 0 0 0 0).wf = false ∧
    (Instr.timSecond (List.replicate 16 none) (List.replicate 15 (0, 0)) 0 0 0 0).wf = false ∧
    (Instr.wholePageWrite 0 (List.replicate 55 (List.replicate 32 0))).wf = false ∧
    (Instr.wholePageWrite 0 (List.replicate 56 (List.replicate 31 0))).wf = false ∧
    (Instr.readModifyWrite 0 (List.replicate 56 (0, List.replicate 32 0)) [] []).wf = false ∧
    (Instr.readModifyWrite 0 [(0, [])] [] []).wf = false ∧
    (Instr.readModifyWrite 0 (List.replicate 2 (0, List.replicate 32 0)) [] []).wf = false ∧
    (Instr.govPeriod (List.replicate 15 none)).wf = false ∧ (Instr.thmSample (List.replicate 39 0)).wf = false := by decide +kernel

/-! ### Steps and values that the manual gives -/

theorem test_reset_then_release :
    (after .deviceResetRelease State.reset).running = true ∧
    (after .deviceResetRelease State.reset).flag SYS.page SYS.RESET_CAUSE_POR = true := by decide +kernel

theorem test_idle_clock : ∃ t, step up = .next t ∧ t.dtime = 8 ∧ t.now = 8 := ⟨_, rfl, by decide +kernel, by decide +kernel⟩

theorem test_decodeTableWord : decodeTableWord 0 0 = none ∧ decodeTableWord 32 0xFFFFFFFF = none := by decide

/-- The status, words and words done of the responses that have left. -/
def answers (s : State) : List Resp := s.out.filterMap (fun o => match o with
  | .response _ _ r _ _ => some r
  | _ => none)

/-- Table 3-6: RAP.UDP_PORT resets to 0x88B5. -/
theorem test_read : answers (after (.read hdr (BitVec.ofNat 32 (RAP.page + RAP.UDP_PORT))) opened)
    = [{ status := rsOK, words := [0x88B5] }] := by decide +kernel

/-- R641. -/
theorem test_read_misaligned : answers (after (.read hdr 2) opened) = [{ status := rsALIGN }] := by decide +kernel

/-- Table 17-8: BUDGET takes 80,000 to 195,000 mW; R75: a refused write is recorded. -/
theorem test_write_range :
    (let a := BitVec.ofNat 32 (PWR.page + PWR.BUDGET)
     let t := after (.write hdr a 79999) opened
     answers t = [{ status := rsRANGE }] ∧ t.get PWR.page PWR.BUDGET_MW = opened.get PWR.page PWR.BUDGET_MW ∧
     t.get PWR.page HDR.REJ_OFFSET = PWR.BUDGET ∧ t.sticky (PWR.page / 0x1000) 127 = true) ∧
    (let t := after (.write hdr (BitVec.ofNat 32 (PWR.page + PWR.BUDGET)) 80000) opened
     answers t = [{ status := rsOK }] ∧ t.get PWR.page PWR.BUDGET_MW = 80000) := by decide +kernel

/-- R68, R71. -/
theorem test_drain :
    (after (.stateReqDrain 32 (.core 0)) (live.setBlk 32 bACTIVE)).blk 32 = bDRAIN ∧
    (after (.drainEnd 32) (live.setBlk 32 bDRAIN)).blk 32 = bCONFIG ∧
    (after (.stateReqDrain 0 (.core 0)) live).blk 0 = bACTIVE := by decide +kernel

/-- Table 2-3: the straps lead to stage 1, the root PLL to stage 2. -/
theorem test_boot : (after (.strapsSampled 0) up).stage = stSTRAPS ∧ (after .rootPllLocked (stage stSTRAPS)).stage = stROOT ∧
    after .rootPllLocked up = up := by decide +kernel

/-- Table 17-1. -/
theorem test_catalogue : (catalogue 0 1).cost = 70000 ∧ (catalogue 0 1).standing = 48000 ∧ (catalogue 3 0).durationMs = 700 := by decide

/-- R509 and Table 16-4: bands start at 85, 95 and above 105 °C and end 2 °C lower. -/
theorem test_bands : nextBand 0 84 = 0 ∧ nextBand 0 85 = 1 ∧ nextBand 1 84 = 1 ∧ nextBand 1 82 = 0 ∧ nextBand 1 95 = 2 ∧
    nextBand 2 105 = 2 ∧ nextBand 2 106 = 3 := by decide +kernel

/-- R525: E above 0 lowers GOV, never below 6. -/
theorem test_governor : govNext 24 1 1500 3000 = 23 ∧ govNext 7 100000 1500 3000 = 6 ∧ govNext 23 (-3000) 1500 3000 = 24 := by decide

/-- The check value of the CRC-32 of IEEE 802.3. -/
theorem test_crc32 : crc32 [0x31, 0x32, 0x33, 0x34, 0x35, 0x36, 0x37, 0x38, 0x39] = 0xCBF43926 := by decide +kernel

/-- R7: a W1C bit clears where 1 is written, an RO bit stays. -/
theorem test_sticky_clears :
    let s := live.setNat (pageBase 32 + HDR.EVT_STICKY 0) 5
    (after (.evtStickyClear 32 0 4 (.core 0)) s).nat (pageBase 32 + HDR.EVT_STICKY 0) = 1 := by decide +kernel

/-- R553: a first fire is captured, a second sets OVERFLOW. -/
theorem test_event_first :
    let s := live.setB (pageBase 32) (evEnable 127) true
    (after (.eventFire 32 127) s).get (pageBase 32) HDR.FIRST_INDEX = 127 ∧
    (after (.eventFire 32 127) (after (.eventFire 32 127) s)).flag (pageBase 32) HDR.FIRST_OVERFLOW = true := by decide +kernel

/-- R91. -/
theorem test_replay : (after (.nop hdr) (after (.nop hdr) opened)).out.length = 1 ∧
    (after (.nop hdr) (after (.nop hdr) opened)).nat (RAP.page + RAP.REPLAY_DROPS) = 1 := by decide +kernel

/-- R587: an instruction outside IEEE 1149.1 while debug is closed trips sensor 7. -/
theorem test_tap : (after (.tapInstruction .vendor) live).sticky secPg (SEC.ev_GUARD_TRIP 7) = true ∧
    exec (.tapInstruction .vendor) (live.set SEC.page SEC.DEBUG_STATE 1) = .fault .tapUndescribed := ⟨by decide +kernel, rfl⟩

end Sys2Proof.Tests
end

/-!
Access codes (R7, R73, Table 0-4): what `newWord` leaves in each bit of a word, and that no bit of the register map
has two of the codes that a write acts on.
-/
namespace Sys2Proof.Machine

/-! ### The register map gives a bit one code -/

/-- The masks of the codes that a write acts on fit a word and share no bit: WO with RW, W1S with those two, W1C with those
three (Table 0-4). -/
def RegSpec.codesApart (r : RegSpec) : Bool :=
  r.rw &&& r.wo = 0 && (r.rw ||| r.wo) &&& r.w1s = 0 && (r.rw ||| r.wo ||| r.w1s) &&& r.w1c = 0
    && decide (r.rw ||| r.wo ||| r.w1s ||| r.w1c < 2 ^ 32)

theorem codesApart_reservedReg (off : Nat) : (reservedReg off).codesApart = true := by
  simp [RegSpec.codesApart, reservedReg]

theorem codesApart_headerRegs : HDR.regs.all RegSpec.codesApart = true := by decide +kernel

theorem codesApart_kindRegs (k : Kind) : k.regs.all RegSpec.codesApart = true := by
  cases k <;> decide +kernel

theorem codesApart_of_findReg {l : List RegSpec} {off : Nat} {r : RegSpec} (hl : l.all RegSpec.codesApart = true)
    (h : findReg l off = some r) : r.codesApart = true :=
  List.all_eq_true.mp hl r (List.mem_of_find?_eq_some h)

/-- A register place is a header register, a reserved header word or a register of its page's kind; each keeps its codes
apart. -/
theorem codesApart_of_placeAt {a : Nat} {k : Kind} {n p off : Nat} {r : RegSpec}
    (h : placeAt a = some (.reg k n p off r)) : r.codesApart = true := by
  unfold placeAt at h
  split at h
  · simp at h
  · dsimp only at h
    split at h
    · cases h
    · next k' n' _ =>
      obtain ⟨r', hr, he⟩ := Option.map_eq_some_iff.mp h
      cases he
      split at hr
      · cases hf : findReg HDR.regs (a % 0x1000) with
        | none =>
          rw [hf] at hr
          cases hr
          exact codesApart_reservedReg _
        | some x =>
          rw [hf] at hr
          cases hr
          exact codesApart_of_findReg codesApart_headerRegs hf
      · exact codesApart_of_findReg (codesApart_kindRegs k) hr

section
variable {r : RegSpec} (h : r.codesApart = true) (i : Nat)
include h

/-- The codes of bit `i`, pairwise exclusive. -/
theorem RegSpec.codesApart_testBit :
    (r.rw.testBit i && r.wo.testBit i) = false ∧ ((r.rw.testBit i || r.wo.testBit i) && r.w1s.testBit i) = false ∧
      ((r.rw.testBit i || r.wo.testBit i || r.w1s.testBit i) && r.w1c.testBit i) = false := by
  simp only [RegSpec.codesApart, Bool.and_eq_true, decide_eq_true_eq] at h
  obtain ⟨⟨⟨hwo, hw1s⟩, hw1c⟩, -⟩ := h
  simp only [← Nat.testBit_and, ← Nat.testBit_or, hwo, hw1s, hw1c, Nat.zero_testBit, and_self]

theorem RegSpec.codesApart_lt : r.rw ||| r.wo ||| r.w1s ||| r.w1c < 2 ^ 32 := by
  simp only [RegSpec.codesApart, Bool.and_eq_true, decide_eq_true_eq] at h
  exact h.2

end

/-! ### The bits of a written word -/

theorem testBit_allOnes_sub {m i : Nat} (hm : m < 2 ^ 32) (hi : i < 32) : (0xFFFFFFFF - m).testBit i = !m.testBit i := by
  have e : 0xFFFFFFFF - m = 2 ^ 32 - (m + 1) := by omega
  rw [e, Nat.testBit_two_pow_sub_succ hm]
  simp [hi]

/-- Bit `i` of the word handed to the block, from the old bit, the written bit and the bit's codes. -/
theorem testBit_newWord {r : RegSpec} {old v i : Nat} (hr : r.codesApart = true) (hv : v < 2 ^ 32) (hi : i < 32) :
    (newWord r old v).testBit i =
      (old.testBit i && !(r.rw.testBit i || r.wo.testBit i || r.w1s.testBit i || r.w1c.testBit i)
        || v.testBit i && (r.rw.testBit i || r.wo.testBit i)
        || (old.testBit i || v.testBit i) && r.w1s.testBit i
        || old.testBit i && !v.testBit i && r.w1c.testBit i) := by
  simp only [newWord, Nat.testBit_or, Nat.testBit_and, testBit_allOnes_sub (RegSpec.codesApart_lt hr) hi,
    testBit_allOnes_sub hv hi]

theorem written_of_placeAt {s : State} {a v : Nat} {k : Kind} {n p off : Nat} {r : RegSpec}
    (h : placeAt a = some (.reg k n p off r)) : s.written a v = newWord r (s.nat a) v := by
  simp only [State.written, h]

/-- Settles O55: bit by bit, where one code excludes the others. -/
theorem writtenBitsFollowTheAccessCodes : Obligations.WrittenBitsFollowTheAccessCodes := by
  intro s a v k n p off r hp hv i hi
  have hr : r.codesApart = true := codesApart_of_placeAt hp
  obtain ⟨hwo, hw1s, hw1c⟩ := RegSpec.codesApart_testBit hr i
  dsimp only
  rw [written_of_placeAt hp, testBit_newWord hr hv hi]
  refine ⟨fun rw1 => ?_, fun wo1 => ?_, fun w1s1 => ?_, fun w1c1 => ?_, fun rw0 wo0 w1s0 w1c0 => ?_⟩
  · simp only [rw1, Bool.true_or, Bool.true_and] at hwo hw1s hw1c
    simp [rw1, hwo, hw1s, hw1c]
  · simp only [wo1, Bool.or_true, Bool.true_or, Bool.true_and, Bool.and_true] at hwo hw1s hw1c
    simp [wo1, hwo, hw1s, hw1c]
  · simp only [w1s1, Bool.or_true, Bool.true_and, Bool.and_true, Bool.or_eq_false_iff] at hw1s hw1c
    simp [w1s1, hw1s, hw1c]
  · simp only [w1c1, Bool.and_true, Bool.or_eq_false_iff] at hw1c
    simp [w1c1, hw1c]
  · simp [rw0, wo0, w1s0, w1c0]

end Sys2Proof.Machine

/-!
The frame of commands: what acts past its guard, and what changes register words alone.
-/
namespace Sys2Proof.Machine

/-- A meaning that leaves the state as it is where a condition holds: past the condition it acts (log entry 7). -/
theorem act_past_guard {s : State} {c : State → Prop} [DecidablePred c] {g : State → State} (h : s.running = true)
    (hc : ¬ c s) : act s (fun t => if c t then t else g t) = .next (g s).settle := by
  rw [act_of_running h, if_neg hc]

/-- An action over no elements leaves the state as it is. -/
@[simp] theorem each_nil {α : Type} (f : α → State → State) (s : State) : each [] f s = s := rfl

/-! ### Updates of register words alone -/

/-- `t` is `s` with other register words, where a word has changed only at an address of which `p` holds. -/
def State.RegsOnly (p : Nat → Prop) (s t : State) : Prop :=
  ∃ r, t = { s with regs := r } ∧ ∀ a, ¬ p a → Tab.get resetWord r a = s.word a

section
variable {p : Nat → Prop} {s t u : State}

theorem State.RegsOnly.refl (p : Nat → Prop) (s : State) : s.RegsOnly p s := ⟨s.regs, rfl, fun _ _ => rfl⟩

theorem State.RegsOnly.imp {q : Nat → Prop} (h : s.RegsOnly p t) (hpq : ∀ a, p a → q a) : s.RegsOnly q t := by
  obtain ⟨r, e, words⟩ := h
  exact ⟨r, e, fun a ha => words a fun hp => ha (hpq a hp)⟩

theorem State.RegsOnly.setNat {a v : Nat} (h : s.RegsOnly p t) (ha : p a) : s.RegsOnly p (t.setNat a v) := by
  obtain ⟨r, rfl, words⟩ := h
  refine ⟨Tab.put resetWord r a (BitVec.ofNat 32 v), rfl, fun c hc => ?_⟩
  have hne : c ≠ a := fun e => hc (e ▸ ha)
  rw [Tab.get_put_ne _ hne, words c hc]

theorem State.RegsOnly.set {b v : Nat} {f : Fld} (h : s.RegsOnly p t) (ha : p (b + f.off)) : s.RegsOnly p (t.set b f v) :=
  h.setNat ha

theorem State.RegsOnly.each {α : Type} {l : List α} {f : α → State → State} (h : s.RegsOnly p t)
    (hf : ∀ x ∈ l, ∀ u, s.RegsOnly p u → s.RegsOnly p (f x u)) : s.RegsOnly p (each l f t) := by
  induction l generalizing t with
  | nil => exact h
  | cons x l ih => exact ih (hf x (by simp) t h) fun y hy => hf y (by simp [hy])

theorem State.RegsOnly.copy {base : Nat} {fs : List Fld} (h : s.RegsOnly p t) (hp : ∀ f ∈ fs, p (base + f.off)) :
    s.RegsOnly p (t.copy u base fs) :=
  h.each fun f hf _ hv => hv.set (hp f hf)

end

end Sys2Proof.Machine

/-!
A part that is stopped, and a step with no command waiting (chapters 2 and 17).
-/
namespace Sys2Proof.Machine

/-! ### Commands in device reset and thermal shutdown (R32, R47, R536) -/

/-- Settles O6: beside the seven commands, each is a write by its requester or acts only while the part runs. -/
theorem stoppedPartIgnoresCommands : Obligations.StoppedPartIgnoresCommands := by
  intro c s h
  cases c
  case deviceResetEntry | deviceResetRelease | nvCommitDone | thmSample | guardTrip | guardSelftestComplete | tapInstruction =>
    trivial
  all_goals dsimp only [exec]
  case warmReset | registerWrite | calSwap | calTargetWrite | acqRestart | rxdSnap | ocpSpiTx | leafDeregister |
      gthRecollate | selClear | selManualA | selManualB | selForceA | selForceB | pgCfgWrite | pgClear | pgLockout | pgForce |
      pgManual | switchTx | rxResync | agreeStart | dpllModeWrite | phaseStep | slotCfgWrite | clkoutChange | ppsoutAlign |
      ppsoutEnable | rawWindowWrite | budgetWrite | standingBaseWrite | fltAck | evtStickyClear | evtClassWrite | authAdd |
      authRemove | peerAdd | peerRemove | ksLoadKek | ksImport | ksClear | guardPolicyWrite | debugOpen | frChallenge |
      pmuClear | memBist | repairEntryClear =>
    exact hostWrite_of_stopped h
  case carrierUp | carrierDown | fabricOpen | blockEnable | blockDisable | blockSoftReset | stateReqActive | stateReqDrain |
      stateReqConfig | encapModeWrite | calFull | calAbortSpare | cdMemClear | fbZero | nlcRequest | nlcStopRequest |
      txMuteWrite | faultEnWrite | maskCheck | maskApply | cdPreTargetWrite | schedCheck | schedApply | leafListedWrite |
      upOwnerWrite | imaxWrite | histClear | alignRestart | hbSnap | crySelfTest | agreeAbort | cacheFlush | fblRetrain |
      routeApply | scanStart | scanStop | hkaCal | graceMsWrite | quietSWrite | forceAlarmWrite | attestStart |
      guardSelftest | debugLockSet | userEnable | userDisable | freezeAllWrite | sweepNow =>
    exact hostField_of_stopped h
  case gatheringCommit | keyEntryCommit | meterCommit | shaperCommit | routeEntryCommit =>
    exact hostEntry_of_stopped h
  case alignOffsetWrite | txKeyLoad | rxKeyLoad | queueEntryCommit | clearDebt =>
    exact hostWords_of_stopped h
  all_goals exact act_of_stopped h

/-! ### A cycle of the clock (R43, R464) -/

theorem step_of_no_command {s : State} (h : s.pending = []) : step s = .next s.idle := by
  rw [step, h]

/-- A cycle of the clock: 8 ns pass, and the state evolves from the one in which they have passed. -/
theorem Evolves.clockCycle (s : State) : Evolves { s with now := s.now + slowNs } s.idle := Evolves.idle (Evolves.refl _)

theorem State.idle_of_inReset {s : State} (h : s.inReset = true) : s.idle = { s with now := s.now + slowNs } :=
  if_pos h

theorem State.slewTick_boot {s : State} {d ns : Nat} : (s.slewTick d ns).1.boot = s.boot := by
  rw [State.slewTick]
  split <;> rfl

theorem State.dtimeTick_boot {s : State} {ns : Nat} : (s.dtimeTick ns).boot = s.boot :=
  State.slewTick_boot.trans State.slewTick_boot

theorem State.idle_of_shutdown {s : State} (h : s.inReset = false) (hs : s.boot.shutdown = true) :
    s.idle = ({ s with now := s.now + slowNs } : State).dtimeTick slowNs := by
  have on : (({ s with now := s.now + slowNs } : State).dtimeTick slowNs).boot.shutdown = true := by
    rw [State.dtimeTick_boot, hs]
  exact (if_neg (Bool.eq_false_iff.mp h)).trans (if_pos on)

/-- Settles O2: the cycle evolves from the state in which 8 ns have passed, and it ends early in device reset and in thermal
shutdown. -/
theorem emptyQueueStepIsAClockCycle : Obligations.EmptyQueueStepIsAClockCycle := by
  intro s hs
  have ev := Evolves.clockCycle s
  exact ⟨s.idle, step_of_no_command hs, ev.now, ev.pending.trans hs, ev.out, State.idle_of_inReset, State.idle_of_shutdown⟩

end Sys2Proof.Machine

/-!
Device reset: what it leaves, how it is entered and released (2.1), and the values of the state at reset.
-/
namespace Sys2Proof.Machine

/-! ### Device reset -/

/-- A key that a table does not list holds its default. -/
theorem Tab.get_of_unlisted {α : Type} {d : Nat → α} {t : Tab α} {k : Nat} (h : ∀ e ∈ t, e.1 ≠ k) : Tab.get d t k = d k := by
  induction t with
  | nil => rfl
  | cons e t ih =>
    rw [Tab.get, if_neg (h e (by simp)), ih fun x hx => h x (by simp [hx])]

/-- A reset keeps words of the NV store alone (R37). -/
theorem nvWord_of_mem_nvKept {l : List (Nat × Word)} {e : Nat × Word} (h : e ∈ nvKept l) : nvWord e.1 = true := by
  obtain ⟨x, -, hx⟩ := List.mem_filterMap.mp h
  by_cases hn : (!nvWord x.1) = true
  · rw [if_pos hn] at hx
    cases hx
  · rw [if_neg hn] at hx
    extract_lets v at hx
    by_cases hv : v = resetWord x.1
    · rw [if_pos hv] at hx
      cases hx
    · rw [if_neg hv] at hx
      cases hx
      simpa using hn

/-- An address of the rail table (R528). -/
def railWord (a : Nat) : Prop := ∃ i < 16, a = PWR.page + PWR.RAIL i

theorem State.loadRails_regsOnly (s : State) : ∃ x, ({ s with pwr := x } : State).RegsOnly railWord s.loadRails := by
  unfold State.loadRails
  extract_lets ws avs t _
  have rails : s.RegsOnly railWord t :=
    (State.RegsOnly.refl _ s).each fun i hi _ h => h.setNat ⟨i, List.mem_range.mp hi, rfl⟩
  clear_value t
  obtain ⟨r, rfl, words⟩ := rails
  exact ⟨_, r, rfl, words⟩

/-- The state in which a device reset begins, but for register words: the clock, the free values, what has left the part, the
commands that wait and the NV store go on, all else is as at reset (R35, R37). -/
def State.cleared (s : State) (b : BootState) (x : PwrState) : State :=
  { now := s.now, freeCtr := s.freeCtr, out := s.out, pending := s.pending, nv := s.nv, boot := b,
    rpr := { mapSeq := s.rpr.mapSeq }, pwr := x, regs := nvKept s.regs }

theorem State.fresh_regsOnly (s : State) (b : BootState) : ∃ x, (s.cleared b x).RegsOnly railWord (s.fresh b) :=
  State.loadRails_regsOnly _

/-- The registers that outlive a reset while PWRGOOD stays high: the debug lock and the record of a shutdown (R41, R537). -/
def State.keepAlwaysOn (r s : State) : State :=
  (r.copy s SEC.page [SEC.DEBUG_LOCKED]).copy s THM.page [whole THM.LAST_SHUTDOWN]

/-- A low level of 10 µs or more always resets the part (R34). -/
theorem State.pulseIgnored_of_long {s : State} {low : Nat} (h : 10000 ≤ low) : s.pulseIgnored low = false := by
  rw [State.pulseIgnored, decide_eq_false (by omega), decide_eq_false (by omega)]
  rfl

/-- Levels that reset a running part put it into the state that a reset leaves. -/
theorem execDeviceResetEntry_enters {s : State} {pg rn finish : Bool} {low : Nat} (hl : (pg && rn) = false)
    (hp : pg = true → s.pulseIgnored low = false) (hs : s.inReset = false) :
    execDeviceResetEntry pg rn finish low s = .next
      (let r := ({ s.nvCut finish with out := s.out } : State).fresh { pwrgood := pg, resetN := rn, pwrgoodFell := !pg }
       if (s.boot.pwrgood && pg) = true then r.keepAlwaysOn s else r) := by
  have long : ¬ (pg && !s.inReset && s.pulseIgnored low) = true := by
    cases pg with
    | true => simp [hp rfl]
    | false => simp
  rw [execDeviceResetEntry, hl, if_neg (by decide), if_neg long]
  dsimp only
  rw [hs, if_neg (by decide)]
  rfl

theorem execDeviceResetEntry_both_high {s : State} {finish : Bool} {low : Nat} :
    execDeviceResetEntry true true finish low s = .next s := by
  rw [execDeviceResetEntry, if_pos (by decide)]

/-- A pulse of RESET_N that the part ignores (R34). -/
theorem execDeviceResetEntry_ignored {s : State} {finish : Bool} {low : Nat} (hs : s.inReset = false)
    (hi : s.pulseIgnored low = true) :
    execDeviceResetEntry true false finish low s = .next (if low < 1000 then s else s.nextFree) := by
  rw [execDeviceResetEntry, if_neg (by decide), if_pos (by simp [hs, hi])]

/-- An address of the register words that a device reset does not leave at their reset values, beside the NV store's: the rail
table, and what PWRGOOD alone clears (R41, R528, R537). -/
def resetKept (a : Nat) : Prop := railWord a ∨ a = SEC.page + SEC.DEBUG_LOCKED.off ∨ a = THM.page + THM.LAST_SHUTDOWN

/-- The state that a device reset leaves, but for the words that it keeps. -/
theorem execDeviceResetEntry_clears {s : State} {pg rn finish : Bool} {low : Nat} (hl : (pg && rn) = false)
    (hp : pg = true → s.pulseIgnored low = false) (hs : s.inReset = false) :
    ∃ x t, execDeviceResetEntry pg rn finish low s = .next t ∧
      (({ s.nvCut finish with out := s.out } : State).cleared
        { pwrgood := pg, resetN := rn, pwrgoodFell := !pg } x).RegsOnly resetKept t := by
  obtain ⟨x, fresh⟩ := State.fresh_regsOnly { s.nvCut finish with out := s.out }
    { pwrgood := pg, resetN := rn, pwrgoodFell := !pg }
  replace fresh := fresh.imp (q := resetKept) fun _ => Or.inl
  refine ⟨x, _, execDeviceResetEntry_enters hl hp hs, ?_⟩
  dsimp only
  split
  · exact (fresh.copy fun f hf => by rw [List.mem_singleton.mp hf]; exact .inr (.inl rfl)).copy fun f hf => by
      rw [List.mem_singleton.mp hf]; exact .inr (.inr rfl)
  · exact fresh

/-- After the release of a device reset: t0 is now, DTIME is 0, and the cause of the reset is shown (R32, R43). -/
theorem execDeviceResetRelease_inReset {s : State} (h : s.inReset = true) : ∃ t, execDeviceResetRelease s = .next t ∧
    ({ s with dtime := 0, boot := { s.boot with pwrgood := true, resetN := true, t0 := s.now } } : State).RegsOnly
      (· = SYS.page + SYS.RESET_CAUSE) t ∧
    (s.Canonical → t.flag SYS.page SYS.RESET_CAUSE_POR = s.boot.pwrgoodFell ∧
      t.flag SYS.page SYS.RESET_CAUSE_PIN = !s.boot.pwrgoodFell) := by
  rw [execDeviceResetRelease, if_neg (by simp [h])]
  extract_lets _ t1 t2
  have cause : t1.RegsOnly (· = SYS.page + SYS.RESET_CAUSE) t2 := (State.RegsOnly.refl _ t1).set (f := SYS.RESET_CAUSE_POR) rfl
  refine ⟨_, rfl, cause.set (f := SYS.RESET_CAUSE_PIN) rfl, fun hc => ?_⟩
  have h1 : t1.Canonical := (Evolves.refl s).upd.canonical hc
  have h2 : t2.Canonical := (Evolves.refl t1).setB.canonical h1
  refine ⟨?_, State.flag_setB_same h2 (by decide) rfl⟩
  rw [State.flag, State.setB, State.get_set_other h2 (by decide) (.inr (.inr (by decide)))]
  exact State.flag_setB_same h1 (by decide) rfl

/-- Settles O10: a pulse is ignored or resets the part as a long one does, and the state that a reset leaves and the release
of one are known but for the words they keep or write. -/
theorem deviceResetEntersAndReleases : Obligations.DeviceResetEntersAndReleases := by
  intro s
  refine ⟨fun rn finish low hl hs => ?_, fun rn finish low hl hh hs => ?_, fun pg rn finish low hr hp hs => ?_, fun hs => ?_⟩
  · rw [exec_deviceResetEntry]
    cases rn with
    | true => exact execDeviceResetEntry_both_high
    | false => rw [execDeviceResetEntry_ignored hs (by simp [State.pulseIgnored, hl]), if_pos hl]
  · simp only [exec_deviceResetEntry]
    cases rn with
    | true => exact .inr (by rw [execDeviceResetEntry_both_high, execDeviceResetEntry_both_high])
    | false =>
      cases hi : s.pulseIgnored low with
      | true => exact .inl (by rw [execDeviceResetEntry_ignored hs hi, if_neg (by omega)])
      | false =>
        have long : s.pulseIgnored 10000 = false := State.pulseIgnored_of_long (Nat.le_refl _)
        exact .inr (by
          rw [execDeviceResetEntry_enters rfl (fun _ => hi) hs, execDeviceResetEntry_enters rfl (fun _ => long) hs])
  · obtain ⟨x, t, ht, r, rfl, words⟩ :=
      execDeviceResetEntry_clears hr (fun h => State.pulseIgnored_of_long (hp h)) hs (finish := finish)
    have ev : Evolves s (s.nvCut finish) := (Evolves.refl s).nvCut
    have inReset : (!(pg && rn)) = true := by rw [hr]; rfl
    refine ⟨_, (exec_deviceResetEntry _ _ _ _).trans ht, inReset, rfl, rfl, rfl, rfl, rfl, rfl, ev.pending, ev.now, rfl, rfl, fun a hn hrail hlock hshut => ?_⟩
    have kept := words a (by
      rintro (⟨i, hi, e⟩ | e | e)
      · exact hrail i hi e
      · exact hlock e
      · exact hshut e)
    exact kept.trans (Tab.get_of_unlisted fun e he heq => by rw [← heq, nvWord_of_mem_nvKept he] at hn; cases hn)
  · obtain ⟨t, ht, ⟨r, rfl, words⟩, cause⟩ := execDeviceResetRelease_inReset hs
    exact ⟨_, exec_deviceResetRelease.trans ht, rfl, rfl, rfl, rfl, rfl, rfl, cause, words⟩

/-! ### The values of reset -/

/-- The headers of the control pages show ACTIVE and those of all other pages CONFIG (R66, R68). -/
theorem reset_headers : ∀ p ∈ allPages,
    State.reset.blk p = (if p ∈ [0, 1, 2, 3, 5, 6, 7, 10] then bACTIVE else bCONFIG) ∧ State.reset.step_ p = 0 ∧
    State.reset.flag (pageBase p) HDR.ENABLE = true ∧ State.reset.nat (pageBase p + HDR.GRACE_MS.off) = 0x003103E8 ∧
    State.reset.nat (pageBase p + HDR.QUIET_S.off) = 0x3C := by decide +kernel

/-- Settles O57: the registers of reset are their Reset columns, page by page. -/
theorem resetHoldsTheSpecsValues : Obligations.ResetHoldsTheSpecsValues :=
  ⟨rfl, rfl, rfl, rfl, reset_headers, by decide +kernel⟩

end Sys2Proof.Machine

/-!
The boot steps, READY, warm reset and the moves that complete later (2.3 to 2.7, 3.3).
-/
namespace Sys2Proof.Machine

/-- Settles O7: the stage before each step passes its guard. -/
theorem bootStepsComplete : Obligations.BootStepsComplete := by
  intro s hr
  refine ⟨fun v h => ?_, fun h => ?_, fun h => ?_, fun b h => ?_, fun h => ?_, fun v h => ?_, fun v h => ?_⟩
  · rw [exec_strapsSampled, execStrapsSampled, act_past_guard hr (not_not_intro h)]
  · have h0 : ¬ s.stage = 0 := by rw [h]; decide
    rw [exec_rootPllLocked, execRootPllLocked, act_past_guard hr h0]
    dsimp only
    rw [if_pos h]
  · rw [exec_loaderOk, execLoaderOk, act_past_guard hr (not_not_intro h)]
    rfl
  · rw [exec_loaderOk, execLoaderOk, act_past_guard hr (not_not_intro h)]
    cases b <;> rfl
  · rw [exec_rapUp, execRapUp, act_past_guard hr (not_not_intro h)]
  · rw [exec_fwVerify, execFwVerify, act_past_guard hr (not_not_intro h), if_pos rfl]
    rfl
  · rw [exec_fwVerify, execFwVerify, act_past_guard hr (not_not_intro h)]
    rfl

/-- Settles O8: the conditions pass the guard of each step, and select its branch. -/
theorem bootSideStepsComplete : Obligations.BootSideStepsComplete := by
  intro s hr
  refine ⟨fun h => ?_, fun h1 h2 h3 => ?_, fun h1 h2 h3 => ?_, fun c h1 h2 => ?_, fun rows cols h => ?_, fun ty v r h => ?_,
    fun v r h1 h2 => ?_⟩
  · rw [exec_rootUnlock, execRootUnlock, act_past_guard hr (by simp [h])]
  · rw [exec_clientSerdesLocked, execClientSerdesLocked, act_past_guard hr (by simp [h1, h2, h3])]
  · have none_bad : (List.range 16).filter (fun c => bitOf (0 : BitVec 16).toNat c) = [] := by decide
    rw [exec_gddr7TrainingDone, execGddr7TrainingDone, act_past_guard hr (by simp [h1, h2, h3])]
    simp only [none_bad, List.contains_nil, Bool.not_false, each_nil]
  · rw [exec_nvLoaded, execNvLoaded, act_past_guard hr (not_not_intro h1)]
    dsimp only
    rw [if_pos rfl, if_neg (by simp [h2])]
  · rw [exec_sramDone, execSramDone, act_past_guard hr (not_not_intro h)]
    rfl
  · rw [exec_imageVerified, execImageVerified, act_past_guard hr (by simp [h])]
    extract_lets
    rw [if_pos (by simp)]
  · rw [exec_imageVerified, execImageVerified, act_past_guard hr (by simp [h1])]
    extract_lets _ verified _ running _ board _
    have not_resident : ¬ (2 : Fin 4) = 1 := by decide
    have not_refused : ¬ ((!true) = true ∨ verified.boot.recovery = true ∧ (2 : Fin 4) ≠ 0) := by simp [verified, h2]
    have not_board : board = running := if_neg (by decide)
    rw [if_neg not_refused, if_neg (fun h => not_resident h.1), if_neg (fun h => not_resident h.1), not_board]
    rfl

/-- The test of a bring-up's end: the leaves that the carrier holds were granted 200 ms ago or earlier (R171). -/
theorem leaves_old {l : List LeaveReq} {unit now : Nat}
    (h : ∀ r ∈ l, r.op = 0 → r.unit = unit → r.at_ + 200 * nsMs ≤ now) :
    l.all (fun r => !(r.op = 0 && r.unit = unit) || decide (r.at_ + 200 * nsMs ≤ now)) = true := by
  refine List.all_eq_true.mpr fun r hr => ?_
  by_cases ho : r.op = 0
  · by_cases hu : r.unit = unit
    · rw [decide_eq_true (h r hr ho hu), Bool.or_true]
    · rw [decide_eq_false hu, Bool.and_false, Bool.not_false, Bool.true_or]
  · rw [decide_eq_false ho, Bool.false_and, Bool.not_false, Bool.true_or]

/-- Settles O9: the conditions pass the guard of each command. -/
theorem readyAndCarriersComplete : Obligations.ReadyAndCarriersComplete := by
  intro s hr
  refine ⟨fun power h => ?_, fun due h => ?_, fun n h1 h2 => ?_, fun p h => ?_, fun p h1 h2 h3 => ?_⟩
  · rw [exec_ready, execReady, act_past_guard hr (not_not_intro h)]
  · rw [exec_warmResetStart, execWarmResetStart, act_past_guard hr (by simp [h])]
  · rw [exec_carrierUpComplete, execCarrierUpComplete, act_of_running hr]
    dsimp only
    have completes : ((s.stream n 0).locked || _) = true := (Bool.or_eq_true _ _).mpr (h2.imp_right leaves_old)
    rw [decide_eq_true h1, Bool.true_and, if_pos completes, State.carrierComplete]
  · rw [exec_softResetComplete, execSoftResetComplete]
    dsimp only
    rw [act_past_guard hr (by simp [h])]
  · rw [exec_drainEnd, execDrainEnd]
    dsimp only
    rw [act_past_guard hr (by simp [h1, h2, h3])]

end Sys2Proof.Machine

/-!
Rows that are a core's write of a register: the fields of the word it writes, and what SYS, RAP, FLT and the page header make of
it (3.2 to 3.4).
-/
namespace Sys2Proof.Machine

/-! ### A core's write -/

/-- A row that is a core's write of a register, where the register's block takes the word by `f`. -/
theorem State.CoreDoes.of_handle {s : State} {c : Fin 8} {a v : Nat} {i : Instr} {f : Nat → State → WOut} {k : Kind}
    {n p off : Nat} (hi : exec i s = hostWrite (.core c) a v s) (hk : (placeAt a).bind Place.key = some (k, n, p, off))
    (ho : (s.reached (.core c)).handle (.core c) none k n p off (s.written a v) = f (s.written a v) (s.reached (.core c))) :
    s.CoreDoes c a v i f :=
  fun hr hc hm hj => hi.trans (core_write_of hr hc hm hk ho hj)

/-- A row that is a core's write of a header register. -/
theorem State.CoreDoes.of_header {s : State} {c : Fin 8} {page off v : Nat} {i : Instr}
    (hi : exec i s = hostWrite (.core c) (pageBase page + off) v s) (ho : off < 0x100) :
    s.CoreDoes c (pageBase page + off) v i (wrHDR page off) :=
  fun hr hc hm hj => hi.trans (core_header hr hc hm ho hj)

/-! ### SYS and FLT (R50 to R56, R555) -/

/-- After READY a write of CARRIER_CTRL acts on both carriers (R51, R55). -/
theorem wrSYS_carrierCtrl {s : State} (h : s.ready = true) (src v : Nat) :
    wrSYS src SYS.CARRIER_CTRL v s = ok (((s.setNat (SYS.page + SYS.CARRIER_CTRL) v).wrUp
      (s.nat (SYS.page + SYS.CARRIER_CTRL)) v src 0).wrUp (s.nat (SYS.page + SYS.CARRIER_CTRL)) v src 1) := by
  rw [wrSYS]
  dsimp only
  rw [if_neg (by decide), if_neg (by decide), if_pos rfl, if_neg (by simp [h])]

/-- A write of ACK acknowledges a source that its page uses (R555). -/
theorem wrFLT_ack {s : State} {v : Nat} (h : evUsed (fv v FLT.ACK_PAGE) (fv v FLT.ACK_INDEX) = true) :
    wrFLT FLT.ACK v s = ok (s.ackSource (fv v FLT.ACK_PAGE) (fv v FLT.ACK_INDEX)) := by
  rw [wrFLT, if_pos rfl]
  dsimp only
  rw [if_pos h]

theorem carrierUpFld_off (n : Nat) : (carrierUpFld n).off = SYS.CARRIER_CTRL := by
  unfold carrierUpFld
  split <;> rfl

/-- A core's write of UPn with the other fields of CARRIER_CTRL as they are. -/
theorem State.CoreDoes.of_carrierCtrl {s : State} {c : Fin 8} {v : Nat} {i : Instr} (h : s.ready = true)
    (hi : exec i s = hostWrite (.core c) (SYS.page + SYS.CARRIER_CTRL) v s) :
    s.CoreDoes c (SYS.page + SYS.CARRIER_CTRL) v i
      (fun x u => ok (State.wrUp (State.wrUp (u.setNat (SYS.page + SYS.CARRIER_CTRL) x)
      (s.nat (SYS.page + SYS.CARRIER_CTRL)) x (8 + c.val) 0) (s.nat (SYS.page + SYS.CARRIER_CTRL)) x (8 + c.val) 1)) :=
  .of_handle hi (k := .SYS) (n := 0) (p := 0) (off := SYS.CARRIER_CTRL) (by decide +kernel)
    (wrSYS_carrierCtrl (s := s.reached (.core c)) h (8 + c.val) (s.written (SYS.page + SYS.CARRIER_CTRL) v))

/-- Settles O37: each row is a core's write, and its page's block takes the word as stated. -/
theorem hostSystemRowsComplete : Obligations.HostSystemRowsComplete := by
  intro s
  refine ⟨fun c => ?_, fun c n h => ?_, fun c n h => ?_, fun c h => ?_, fun c ipv6 => ?_, fun c page index h => ?_,
    fun c on => ?_⟩
  · exact .of_handle (exec_warmReset _ _) (k := .SYS) (n := 0) (p := 0) (off := SYS.RESET_CTRL) (by decide +kernel) rfl
  · exact .of_carrierCtrl h (by rw [exec_carrierUp, execCarrierUp, hostField, carrierUpFld_off])
  · exact .of_carrierCtrl h (by rw [exec_carrierDown, execCarrierDown, hostField, carrierUpFld_off])
  · exact .of_handle (exec_fabricOpen _) (k := .SYS) (n := 0) (p := 0) (off := SYS.FABRIC_CTRL) (by decide +kernel) rfl
  · exact .of_handle (exec_encapModeWrite _ _) (k := .RAP) (n := 0) (p := 1) (off := RAP.ENCAP) (by decide +kernel) rfl
  · exact .of_handle (exec_fltAck _ _ _) (k := .FLT) (n := 0) (p := 5) (off := FLT.ACK) (by decide +kernel) (wrFLT_ack h)
  · exact .of_handle (exec_forceAlarmWrite _ _) (k := .FLT) (n := 0) (p := 5) (off := FLT.CTRL) (by decide +kernel) rfl

/-! ### The fields of a written word -/

/-- A field whose bits are all RW or WO holds, in the word that a write leaves, what was written (R7). -/
theorem fv_newWord {r : RegSpec} {f : Fld} (hr : r.codesApart = true) (hf : f.lo + f.width ≤ 32)
    (hm : bitsOf (r.rw ||| r.wo) f.lo f.width = 2 ^ f.width - 1) {old v : Nat} (hv : v < 2 ^ 32) :
    fv (newWord r old v) f = fv v f := by
  apply Nat.eq_of_testBit_eq
  intro i
  simp only [fv, testBit_bitsOf]
  by_cases hi : i < f.width
  · have taken : (r.rw.testBit (f.lo + i) || r.wo.testBit (f.lo + i)) = true := by
      have := congrArg (·.testBit i) hm
      simpa [testBit_bitsOf, hi, Nat.testBit_two_pow_sub_one] using this
    obtain ⟨-, hw1s, hw1c⟩ := RegSpec.codesApart_testBit hr (f.lo + i)
    rw [taken, Bool.true_and] at hw1s
    rw [taken, Bool.true_or, Bool.true_and] at hw1c
    rw [testBit_newWord hr hv (by omega), taken, hw1s, hw1c]
    simp
  · simp [hi]

theorem fv_written {s : State} {a v : Nat} {k : Kind} {n p off : Nat} {r : RegSpec} {f : Fld}
    (hp : placeAt a = some (.reg k n p off r)) (hf : f.lo + f.width ≤ 32)
    (hm : bitsOf (r.rw ||| r.wo) f.lo f.width = 2 ^ f.width - 1) (hv : v < 2 ^ 32) :
    fv (s.written a v) f = fv v f := by
  rw [written_of_placeAt hp, fv_newWord (codesApart_of_placeAt hp) hf hm hv]

theorem bitsOf_and (v m lo w : Nat) : bitsOf (v &&& m) lo w = bitsOf v lo w &&& bitsOf m lo w := by
  rw [bitsOf, Nat.shiftRight_and_distrib, Nat.and_mod_two_pow]
  rfl

theorem bitsOf_lt (v lo w : Nat) : bitsOf v lo w < 2 ^ w := Nat.mod_lt _ (Nat.two_pow_pos w)

theorem withBits_lt {v lo w x : Nat} (hv : v < 2 ^ 32) (h : lo + w ≤ 32) : withBits v lo w x < 2 ^ 32 := by
  apply Nat.lt_pow_two_of_testBit
  intro i hi
  rw [testBit_withBits, if_neg (by omega)]
  exact Nat.testBit_lt_two_pow (Nat.lt_of_lt_of_le hv (Nat.pow_le_pow_right (by decide) hi))

section
variable {s : State} {base x : Nat} {f g : Fld} {k : Kind} {n p off : Nat} {r : RegSpec}

theorem State.withField_of_placeAt (hp : placeAt (base + f.off) = some (.reg k n p off r)) :
    s.withField base f x = putF (s.nat (base + f.off) &&& r.rw) f x := by
  simp only [State.withField, hp, Place.keeps]

theorem State.withField_lt (hp : placeAt (base + f.off) = some (.reg k n p off r)) (hf : f.lo + f.width ≤ 32) :
    s.withField base f x < 2 ^ 32 := by
  rw [State.withField_of_placeAt hp]
  exact withBits_lt (Nat.lt_of_le_of_lt Nat.and_le_left (s.word (base + f.off)).isLt) hf

/-- The field that a host row writes. -/
theorem State.fv_withField (hp : placeAt (base + f.off) = some (.reg k n p off r)) :
    fv (s.withField base f x) f = x % 2 ^ f.width := by
  rw [State.withField_of_placeAt hp]
  exact bitsOf_withBits_same _ _ _ _

/-- The other fields: those that are RW stand as they are, the others are 0. -/
theorem State.fv_withField_other (hp : placeAt (base + f.off) = some (.reg k n p off r))
    (hg : f.lo + f.width ≤ g.lo ∨ g.lo + g.width ≤ f.lo) :
    fv (s.withField base f x) g = fv (s.nat (base + f.off)) g &&& bitsOf r.rw g.lo g.width := by
  rw [State.withField_of_placeAt hp, fv, putF, bitsOf_withBits_ne _ _ _ _ _ _ hg, bitsOf_and]
  rfl

end

/-! ### The header of a page -/

theorem placeAt_header {p off : Nat} (hp : p < 128) (ho : off < 0x100) : placeAt (pageBase p + off) =
    (pageKind p).map (fun x => .reg x.1 x.2 p off ((findReg HDR.regs off).getD (reservedReg off))) := by
  have page : (pageBase p + off) / 0x1000 = p := by rw [pageBase]; omega
  have offset : (pageBase p + off) % 0x1000 = off := by rw [pageBase]; omega
  have below : ¬ 0x20000000 ≤ pageBase p + off := by rw [pageBase]; omega
  rw [placeAt, if_neg below]
  simp only [page, offset]
  cases pageKind p with
  | none => rfl
  | some x => simp only [if_pos ho, Option.map_some]

/-- A write that passes the checks is of a place that is there. -/
theorem State.placeAt_of_mayWrite {s : State} {src : Src} {a v : Nat} (h : s.mayWrite src a v = true) :
    (placeAt a).isSome = true := by
  cases hp : placeAt a with
  | none => simp only [State.mayWrite, hp, Bool.and_false, Bool.false_eq_true] at h
  | some pl => rfl

/-- BLK_CTRL: ENABLE is RW, SOFT_RESET and STATE_REQ are WO (Table 3-2). -/
def blkCtrlReg : RegSpec := ⟨0x08, 1, 4, 1, 1, 0x702, 0, 0, 0, 0, 0⟩

theorem placeAt_blkCtrl {s : State} {src : Src} {p v : Nat} (hp : p < 128)
    (hm : s.mayWrite src (pageBase p + HDR.BLK_CTRL) v = true) :
    ∃ k n, placeAt (pageBase p + HDR.BLK_CTRL) = some (.reg k n p HDR.BLK_CTRL blkCtrlReg) := by
  have there := State.placeAt_of_mayWrite hm
  rw [placeAt_header hp (by decide)] at there ⊢
  cases hk : pageKind p with
  | none => rw [hk] at there; cases there
  | some x => exact ⟨x.1, x.2, rfl⟩

/-- A write of BLK_CTRL, on any page, is a request. -/
theorem State.handle_blkCtrl {s : State} {src : Src} {toTag : Option (Nat × Nat)} {k : Kind} {n p v : Nat} :
    s.handle src toTag k n p HDR.BLK_CTRL v = wrCtrl p v s := by
  rw [State.handle.eq_def, if_pos (by decide), wrHDR, if_pos rfl]

/-- Table 3-4 lists STATE_REQ = CONFIG for no state: it is refused, while a soft reset runs with TRANSITION (R67). -/
theorem wrCtrl_config {s : State} {p v : Nat} (he : fb v HDR.ENABLE = s.flag (pageBase p) HDR.ENABLE)
    (ha : s.flag (pageBase p) HDR.ENABLE = true ∨ alwaysActive p = false) (hs : fb v HDR.SOFT_RESET = false)
    (hq : fv v HDR.STATE_REQ = 1) :
    wrCtrl p v s = no (if s.flag (pageBase p) HDR.BUSY then .transition else .state) s := by
  have kept : ¬ (!fb v HDR.ENABLE && alwaysActive p) = true := by rcases ha with h | h <;> simp [he, h]
  have unlisted : s.stateReq p 1 = no .state s := by simp [State.stateReq]
  rw [wrCtrl]
  dsimp only
  rw [if_neg kept]
  simp only [he, hs, hq, unlisted, bne_self_eq_false, Bool.false_and, Bool.false_eq_true, if_false, decide_true, Bool.true_or,
    Bool.not_true]
  split <;> rfl

/-- The word that a host row's STATE_REQ = CONFIG leaves in BLK_CTRL asks for nothing else, and is refused. -/
theorem wrCtrl_written_config {s : State} {src : Src} {p n : Nat} {k : Kind}
    (hp : placeAt (pageBase p + HDR.BLK_CTRL) = some (.reg k n p HDR.BLK_CTRL blkCtrlReg))
    (ha : s.flag (pageBase p) HDR.ENABLE = true ∨ alwaysActive p = false) :
    wrCtrl p (s.written (pageBase p + HDR.BLK_CTRL) (s.withField (pageBase p) HDR.STATE_REQ 1)) (s.reached src)
      = no (if s.flag (pageBase p) HDR.BUSY then .transition else .state) (s.reached src) := by
  have hv : s.withField (pageBase p) HDR.STATE_REQ 1 < 2 ^ 32 := State.withField_lt hp (by decide)
  refine wrCtrl_config ?_ ha ?_ ?_
  · have h : fv (s.withField (pageBase p) HDR.STATE_REQ 1) HDR.ENABLE = s.get (pageBase p) HDR.ENABLE &&& 1 :=
      State.fv_withField_other (f := HDR.STATE_REQ) (g := HDR.ENABLE) hp (by decide)
    have one_bit : s.get (pageBase p) HDR.ENABLE % 2 = s.get (pageBase p) HDR.ENABLE := Nat.mod_eq_of_lt (bitsOf_lt _ _ _)
    rw [fb, fv_written hp (by decide) (by decide) hv, h, Nat.and_one_is_mod, one_bit]
    rfl
  · have h : fv (s.withField (pageBase p) HDR.STATE_REQ 1) HDR.SOFT_RESET = _ &&& 0 :=
      State.fv_withField_other (f := HDR.STATE_REQ) (g := HDR.SOFT_RESET) hp (by decide)
    rw [fb, fv_written hp (by decide) (by decide) hv, h, Nat.and_zero]
    rfl
  · rw [fv_written hp (by decide) (by decide) hv, State.fv_withField hp]
    rfl

/-- Settles O43: each row is a core's write of a header register; the word of STATE_REQ = CONFIG is refused. -/
theorem headerRowsComplete : Obligations.HeaderRowsComplete := by
  intro s
  refine ⟨fun c page => ?_, fun c page => ?_, fun c page => ?_, fun c page => ?_, fun c page => ?_, fun c page hr hc hm ha => ?_,
    fun c page ms => ?_, fun c page seconds => ?_, fun c page w bits => ?_, fun c page w value => ?_,
    fun c a v k n p off hk => ?_⟩
  · exact .of_header (exec_blockEnable _ _) (by decide)
  · exact .of_header (exec_blockDisable _ _) (by decide)
  · exact .of_header (exec_blockSoftReset _ _) (by decide)
  · exact .of_header (exec_stateReqActive _ _) (by decide)
  · exact .of_header (exec_stateReqDrain _ _) (by decide)
  · obtain ⟨k, n, hp⟩ := placeAt_blkCtrl page.isLt hm
    have key : (placeAt (pageBase page + HDR.BLK_CTRL)).bind Place.key = some (k, n, page.val, HDR.BLK_CTRL) := by rw [hp]; rfl
    have refused := core_write_rej hr hc hm key (State.handle_blkCtrl.trans (wrCtrl_written_config hp ha)) rfl
    exact (exec_stateReqConfig _ _).trans refused
  · exact .of_header (exec_graceMsWrite _ _ _) (by decide)
  · exact .of_header (exec_quietSWrite _ _ _) (by decide)
  · exact .of_header (exec_evtStickyClear _ _ _ _) (by rw [HDR.EVT_STICKY]; omega)
  · exact .of_header (exec_evtClassWrite _ _ _ _) (by rw [HDR.EVT_CLASS]; omega)
  · exact .of_handle (exec_registerWrite _ _ _) hk rfl

end Sys2Proof.Machine

/-!
Rows of the carriers' CAL, RXD and TXD registers that are a core's write (4.5, 4.6, chapters 5 and 6).
-/
namespace Sys2Proof.Machine

/-! ### Rows that write CAL, RXD and TXD (R121 to R129, R144, R158, R164, R174, R181, R200 to R210) -/

theorem key_calCmd : ∀ n : Fin 2, (placeAt (CAL.page n + CAL.CMD)).bind Place.key
    = some (.CAL, n.val, Kind.CAL.pg n, CAL.CMD) := by decide +kernel

theorem key_rxd : ∀ n : Fin 2, ∀ off ∈ [RXD.CTRL, RXD.CMD], (placeAt (RXD.page n + off)).bind Place.key
    = some (.RXD, n.val, Kind.RXD.pg n, off) := by decide +kernel

/-- The registers of TXDn that have a row of their own (R200 to R210). -/
def txdRowRegs : List Nat := [TXD.CTRL, TXD.CD_PRE, TXD.OCP_CFG, TXD.MASK_CTRL 0, TXD.MASK_CTRL 1, TXD.OCP_SPI_TX]

theorem key_txd : ∀ n : Fin 2, ∀ off ∈ txdRowRegs, (placeAt (TXD.page n + off)).bind Place.key
    = some (.TXD, n.val, Kind.TXD.pg n, off) := by decide +kernel

theorem txdRowRegs_past_header : ∀ off ∈ txdRowRegs, ¬ off < 0x100 := by decide

theorem maskCtrl_mem_txdRowRegs : ∀ m : Fin 2, TXD.MASK_CTRL m ∈ txdRowRegs := by decide

section
variable {s : State} {c : Fin 8} {n : Fin 2} {off v : Nat} {i : Instr} {f : Nat → State → WOut}

/-- A row that is a core's write of CALn.CMD. -/
theorem State.CoreDoes.of_calCmd (hi : exec i s = hostWrite (.core c) (CAL.page n + CAL.CMD) v s) :
    s.CoreDoes c (CAL.page n + CAL.CMD) v i (wrCAL n CAL.CMD) :=
  .of_handle hi (key_calCmd n) rfl

/-- A row that is a core's write of RXDn.CMD. -/
theorem State.CoreDoes.of_rxdCmd (hi : exec i s = hostWrite (.core c) (RXD.page n + RXD.CMD) v s) :
    s.CoreDoes c (RXD.page n + RXD.CMD) v i (fun x u => u.rxdCmd n x) :=
  .of_handle hi (key_rxd n RXD.CMD (by decide)) rfl

/-- A row that is a core's write of RXDn.CTRL. -/
theorem State.CoreDoes.of_rxdCtrl (hi : exec i s = hostWrite (.core c) (RXD.page n + RXD.CTRL) v s) :
    s.CoreDoes c (RXD.page n + RXD.CTRL) v i (wrRXD n RXD.CTRL) :=
  .of_handle hi (key_rxd n RXD.CTRL (by decide)) rfl

/-- A row that is a core's write of a register of TXDn, where the block makes `f` of the word. -/
theorem State.CoreDoes.of_txd (hi : exec i s = hostWrite (.core c) (TXD.page n + off) v s) (ho : off ∈ txdRowRegs)
    (hf : wrTXD n off (s.written (TXD.page n + off) v) (s.reached (.core c))
      = f (s.written (TXD.page n + off) v) (s.reached (.core c))) :
    s.CoreDoes c (TXD.page n + off) v i f := by
  refine .of_handle hi (key_txd n off ho) ?_
  rw [State.handle.eq_def, if_neg (txdRowRegs_past_header off ho), ← hf]

end

section
variable {n v : Nat} {s : State}

/-- A write of CTRL sets the mute of the host (R208). -/
theorem wrTXD_ctrl : wrTXD n TXD.CTRL v s =
    ok ((s.setNat (TXD.page n + TXD.CTRL) v).outCause n (fun t => { t with cHost := fb v TXD.CTRL_MUTE })) := by
  rw [wrTXD]
  dsimp only
  rw [if_pos rfl]

/-- A write of CD_PRE is taken at once in OFF and CONFIG; else a target at which CURRENT stands already is done (R202). -/
theorem wrTXD_cdPre : wrTXD n TXD.CD_PRE v s =
    (let t := s.setNat (TXD.page n + TXD.CD_PRE) v
     let cur := s.getI (TXD.page n) TXD.CD_PRE_CURRENT
     ok (if s.inConfig (Kind.TXD.pg n) then t.txTake n
      else t.raiseIf (s.getI (TXD.page n) TXD.CD_PRE_TARGET != cur && t.getI (TXD.page n) TXD.CD_PRE_TARGET = cur)
        (Kind.TXD.pg n) TXD.ev_PRECOMP_DONE)) := by
  rw [wrTXD]
  dsimp only
  rw [if_neg (by decide), if_pos (.inl rfl)]

/-- A write of OCP_CFG is never refused (R208). -/
theorem wrTXD_ocpCfg : wrTXD n TXD.OCP_CFG v s = ok (wrTXD n TXD.OCP_CFG v s).st := by
  rw [wrTXD]
  dsimp only
  rw [if_neg (by decide), if_neg (by decide), if_pos rfl]
  rfl

/-- A write of OCP_SPI_TX queues its word while fewer than 8 wait (R210). -/
theorem wrTXD_spiTx (h : (s.txs n).spi.length < 8) : wrTXD n TXD.OCP_SPI_TX v s =
    ok ((s.setTx n { s.txs n with spi := (s.txs n).spi ++ [BitVec.ofNat 32 v] }).spiStart n) := by
  rw [wrTXD]
  dsimp only
  rw [if_neg (by decide), if_neg (by decide), if_neg (by decide), if_neg (by decide), if_neg (by decide),
    if_neg (by decide), if_pos rfl, if_neg (Nat.not_le.mpr h)]

end

/-- Settles O38: each row is a core's write, and its carrier's block takes the word as stated. -/
theorem hostCarrierRowsComplete : Obligations.HostCarrierRowsComplete := by
  intro s
  refine ⟨fun c n => ?_, fun c n conv pos => ?_, fun c n => ?_, fun c n i => ?_, fun c n => ?_, fun c n i => ?_,
    fun c n => ?_, fun c n => ?_, fun c n => ?_, fun c n => ?_, fun c n mute => ?_, fun c n on => ?_, fun c n m => ?_,
    fun c n m => ?_, fun c n target => ?_, fun c n word h => ?_⟩
  · exact .of_calCmd (exec_calFull _ _)
  · exact .of_calCmd (exec_calSwap _ _ _ _)
  · exact .of_calCmd (exec_calAbortSpare _ _)
  · exact .of_rxdCmd (exec_acqRestart _ _ _)
  · exact .of_rxdCmd (exec_acqRestart _ _ _)
  · exact .of_rxdCmd (exec_rxdSnap _ _ _)
  · exact .of_rxdCmd (exec_cdMemClear _ _)
  · exact .of_rxdCmd (exec_fbZero _ _)
  · exact .of_rxdCtrl (exec_nlcRequest _ _)
  · exact .of_rxdCtrl (exec_nlcStopRequest _ _)
  · exact .of_txd (exec_txMuteWrite _ _ _) (by decide) wrTXD_ctrl
  · exact .of_txd (exec_faultEnWrite _ _ _) (by decide) wrTXD_ocpCfg
  · exact .of_txd (exec_maskCheck _ _ _) (maskCtrl_mem_txdRowRegs m) rfl
  · exact .of_txd (exec_maskApply _ _ _) (maskCtrl_mem_txdRowRegs m) rfl
  · exact .of_txd (exec_cdPreTargetWrite _ _ _) (by decide) wrTXD_cdPre
  · exact .of_txd (exec_ocpSpiTx _ _ _) (by decide) (wrTXD_spiTx h)

end Sys2Proof.Machine

/-!
Converters and calibration: the line PLL, estimation periods, gutter commits, spare swaps, full calibration and the die-to-die
lanes (R12, 4.1 to 4.6).
-/
namespace Sys2Proof.Machine

section
variable {s : State} {n : Fin 2}

/-! ### The line PLL, periods and lanes (R12, R111, R114, R643) -/

/-- A class that no sweep tests has no sweep to end (R611). -/
theorem State.sweepYield_of_untested {k : Nat} (h : s.rpr.sweepOn = false ∨ s.rpr.lastClass ≠ k) : s.sweepYield k = s := by
  rw [State.sweepYield, if_pos]
  rcases h with off | other
  · exact .inl (by rw [off]; rfl)
  · exact .inr (.inr other)

/-- The state in which LINE_PLL_LOCKED has shown the lock (R643). -/
def State.pllLocked (s : State) (n : Nat) : State :=
  let t := (s.setB (CNV.page n) CNV.PLL_STATUS_LOCKED true).raise (Kind.CNV.pg n) CNV.ev_PLL_LOCK
  (t.setCal n { t.cals n with pllLockedOnce := true }).showD2d n

section
variable (hr : s.running = true) (hp : (s.cals n).pllRuns = true) (hl : s.flag (CNV.page n) CNV.PLL_STATUS_LOCKED = false)
include hr hp hl

/-- A lock that is none of a bring-up's steps is shown and no more (R643). -/
theorem execLinePllLocked_shows (h : (s.pllLocked n).carrier n ≠ cBRINGING ∨ (s.cals n).upLocked = true) :
    execLinePllLocked n s = .next (s.pllLocked n).settle := by
  have only_shown : ¬ (decide ((s.pllLocked n).carrier n = cBRINGING) && !(s.cals n).upLocked) = true := by
    rcases h with elsewhere | again
    · rw [decide_eq_false elsewhere, Bool.false_and]
      exact Bool.false_ne_true
    · rw [again, Bool.not_true, Bool.and_false]
      exact Bool.false_ne_true
  rw [execLinePllLocked]
  dsimp only
  rw [act_past_guard hr (by simp [hp, hl])]
  exact congrArg (Host.Outcome.next ∘ State.settle) (if_neg only_shown)

/-- The first lock of a bring-up starts its next steps (R207). -/
theorem execLinePllLocked_bringsUp (h : (s.pllLocked n).carrier n = cBRINGING) (hu : (s.cals n).upLocked = false) :
    execLinePllLocked n s = .next ((s.pllLocked n).pllBringUp n).settle := by
  have goes : (decide ((s.pllLocked n).carrier n = cBRINGING) && !(s.cals n).upLocked) = true := by
    rw [decide_eq_true h, hu]; rfl
  rw [execLinePllLocked]
  dsimp only
  rw [act_past_guard hr (by simp [hp, hl])]
  exact congrArg (Host.Outcome.next ∘ State.settle) (if_pos goes)

end

end

/-- Settles O13: the conditions pass the guard of each command and select its branch. -/
theorem linePllAndPeriodsComplete : Obligations.LinePllAndPeriodsComplete := by
  intro s hr n
  refine ⟨fun runs unlocked => ⟨fun h => ?_, fun bringing notYet => ?_⟩, fun runs locked => ?_, fun sig => ?_, fun sig => ?_,
    fun adc four full active sig => ?_, fun dac all full active obs works => ?_, fun d lane data sweep spare due dead => ?_,
    fun d y hy slot => ?_⟩
  · exact (exec_linePllLocked n).trans (execLinePllLocked_shows hr runs unlocked h)
  · exact (exec_linePllLocked n).trans (execLinePllLocked_bringsUp hr runs unlocked bringing notYet)
  · rw [exec_linePllUnlock, execLinePllUnlock, act_past_guard hr (by simp [runs, locked])]
  · rw [exec_sigOkChange, execSigOkChange, act_of_running hr, sig]
    rfl
  · rw [exec_sigOkChange, execSigOkChange, act_of_running hr, sig]
    rfl
  · have taken : (decide (adc.length = 4) && s.flag (CNV.page n) CNV.PATH_STATE_SIG_OK) = true := by rw [four, sig]; rfl
    have measured : ¬ adc.isEmpty = true := by
      rw [List.isEmpty_iff]
      rintro rfl
      cases four
    rw [exec_calPeriodEnd, execCalPeriodEnd, act_past_guard hr (by simp [active])]
    dsimp only
    rw [if_neg (by simp [full]), if_pos taken, if_neg measured]
    rfl
  · have taken : (decide (dac.length = 64) && s.flag (CAL.page n) CAL.OBS_CTRL_OBS_EN && !(s.cals n).obsFailed) = true := by
      rw [all, obs, works]; rfl
    have measured : ¬ (dac.map (dacFit s.freeVal)).isEmpty = true := by
      rw [List.isEmpty_iff, List.map_eq_nil_iff]
      rintro rfl
      cases all
    rw [exec_calPeriodEnd, execCalPeriodEnd, act_past_guard hr (by simp [active])]
    dsimp only
    rw [if_neg (by simp [full]), if_pos taken, if_neg measured]
    rfl
  · have usable : ¬ (512 ≤ lane.val || (s.cals n).d2dDue.any (fun y => y.1 = b2n d && y.2.1 = lane.val)
        || (s.cals n).d2dDead.contains (b2n d, lane.val)) = true := by
      rw [due, dead, decide_eq_false (Nat.not_le.mpr data)]; decide
    rw [exec_d2dLaneFail, execD2dLaneFail, act_of_running hr, State.sweepYield_of_untested sweep, State.d2dLaneFail]
    dsimp only
    rw [if_neg usable, if_neg (Nat.ne_of_gt spare)]
  · rw [exec_d2dLaneExchange, execD2dLaneExchange, act_of_running hr]
    dsimp only
    rw [hy]
    dsimp only
    rw [if_neg (by simp [slot])]

/-! ### Gutter commits, swaps and full calibration (R114 to R130) -/

/-- A slot carries a change of the codes: it is open, and neither a lane exchange nor a swap takes it (R118). -/
theorem State.slot_carries {s : State} {n : Nat} {tx gap : Bool} (ho : s.slotOpen n tx gap = true) (hd : s.d2dWaits n tx = false)
    (hw : s.swapDue n tx = false) : ¬ (!s.slotOpen n tx gap || s.d2dWaits n tx || s.swapDue n tx) = true := by
  simp [ho, hd, hw]

/-- Settles O14: the conditions pass the guard of each command and select its branch. -/
theorem gutterCommitsAndSwapsComplete : Obligations.GutterCommitsAndSwapsComplete := by
  intro s hr n
  refine ⟨fun tx c l slot lanes swap mode update => ?_, fun p c l gap slot lanes swap mode update => ?_, fun tx closed => ?_,
    fun tx slot lanes swap mode side steps => ?_, fun w swap slot lanes due => ?_, fun w swap late spent => ?_,
    fun obsFail runs good => ?_⟩
  · rw [exec_calGutterCommit, execCalGutterCommit, act_of_running hr]
    dsimp only
    rw [if_neg (by simp), if_neg (State.slot_carries slot lanes swap), if_pos mode, update]
  · rw [exec_calGutterCommit, execCalGutterCommit, act_of_running hr]
    simp only [gap, Bool.true_and, Bool.true_beq]
    rw [if_neg (by simp), if_neg (State.slot_carries slot lanes swap), if_pos mode, update]
  · have barred : (!s.slotOpen n tx || s.d2dWaits n tx || s.swapDue n tx) = true := by
      rcases closed with h | h | h <;> simp [h]
    rw [exec_calGutterCommit, execCalGutterCommit, act_of_running hr]
    dsimp only
    rw [if_neg (by simp), if_pos barred]
  · have not_track : ¬ s.get (CAL.page n) CAL.CTRL_MODE = 0 := by rw [mode]; decide
    have slews : (decide (s.get (CAL.page n) CAL.CTRL_MODE = 2) && s.sideEn n (if tx then 0 else 4)) = true := by
      rw [decide_eq_true mode, side]; rfl
    rw [exec_calGutterCommit, execCalGutterCommit, act_of_running hr]
    dsimp only
    rw [if_neg (by simp), if_neg (State.slot_carries slot lanes swap), if_neg not_track, if_pos slews,
      if_neg (mt List.isEmpty_iff.mp steps)]
  · rw [exec_spareSwapCommit, execSpareSwapCommit, act_of_running hr]
    dsimp only
    rw [swap]
    dsimp only
    rw [if_neg (by simp [slot, lanes, due])]
  · rw [exec_sparePrecalTimeout, execSparePrecalTimeout, act_of_running hr]
    dsimp only
    rw [swap]
    dsimp only
    rw [if_neg (by simp [late, spent])]
  · rw [exec_fullCalDone, execFullCalDone, act_of_running hr]
    dsimp only
    rw [if_neg (by simp [runs]), good]
    rfl

end Sys2Proof.Machine

/-!
The receive DSP: loss of signal, the causes and moves of the acquisition machine (5.2, 5.6, 5.8), carrier tracking, deskew, NLC
and the spare slice (5.3 to 5.7, 5.10).
-/
namespace Sys2Proof.Machine

/-- A meaning that acts where a condition holds, and leaves the state as it is elsewhere: under the condition it acts (log
entry 7). -/
theorem act_under_guard {s : State} {c : State → Prop} [DecidablePred c] {g : State → State} (h : s.running = true)
    (hc : c s) : act s (fun t => if c t then g t else t) = .next (g s).settle := by
  rw [act_of_running h, if_pos hc]

section
variable {s : State} {n : Nat}

/-! ### Loss of signal (R168, R170) -/

/-- An interval that is not dark ends the run of dark ones and clears RX_LOS. -/
theorem State.losInterval_of_bright {level : Nat} (ha : s.active (Kind.RXD.pg n) = true)
    (hl : level ≤ 10 * s.get (RXD.page n) RXD.LOS_CFG_THRESH) :
    s.losInterval n level = s.setRx n { s.rxs n with los := false, losRun := 0 } := by
  rw [State.losInterval]
  dsimp only
  rw [if_neg (by simp [ha]), if_pos hl]

/-- The HOLD-th dark interval in a row declares RX_LOS: it is raised, and acquisition goes back to WAIT_SIGNAL. -/
theorem State.losInterval_of_held {level : Nat} (ha : s.active (Kind.RXD.pg n) = true)
    (hl : 10 * s.get (RXD.page n) RXD.LOS_CFG_THRESH < level)
    (hh : s.get (RXD.page n) RXD.LOS_CFG_HOLD ≤ min 255 ((s.rxs n).losRun + 1)) (hn : (s.rxs n).los = false) :
    s.losInterval n level = each (List.range 16) (fun k t => if (t.subc n k).st.acquiring then t.acqTo n k .waitSignal else t)
      ((s.setRx n { s.rxs n with losRun := min 255 ((s.rxs n).losRun + 1), los := true }).raise (Kind.RXD.pg n)
        RXD.ev_RX_LOS) := by
  have declared : ¬ ((s.rxs n).los = true ∨ min 255 ((s.rxs n).losRun + 1) < s.get (RXD.page n) RXD.LOS_CFG_HOLD) := by
    rw [hn]
    exact not_or_intro Bool.false_ne_true (Nat.not_lt.mpr hh)
  rw [State.losInterval]
  dsimp only
  rw [if_neg (by simp [ha]), if_neg (Nat.not_le.mpr hl), State.setRx_get, if_neg declared, decide_eq_true hh, Bool.or_true]

/-! ### Causes and moves of acquisition (R142, R146, R149, R152, R157, R168) -/

@[simp] theorem State.setSubc_foMode {m i : Nat} {c : Subc} : (s.setSubc n i c).foMode m = s.foMode m := rfl

/-- A decoding state's block passes: its code is at least EQ_BLIND's, and a burst subcarrier is in a burst's payload (R169,
R238). -/
theorem State.takes_block {i : Nat} (hc : 4 ≤ (s.subc n i).st.code)
    (hb : (s.subc n i).st = .burst → (s.burstPayload n i).isSome = true) :
    ¬ ((s.subc n i).st.code < 4 ∨ ((s.subc n i).st = .burst ∧ (s.burstPayload n i).isNone = true)) := by
  rintro (low | ⟨st, gap⟩)
  · exact Nat.not_le.mpr low hc
  · rw [Option.isNone_iff_eq_none.mp gap] at hb
    exact Bool.false_ne_true (hb st)

/-! ### The handover of a slice (R179) -/

theorem State.handingOver_of_shadow (hs : s.get (RXD.page n) RXD.SLICE_STATUS_SPARE_STATE = 1)
    (hf : (s.rxs n).failedSlices.contains (s.get (RXD.page n) RXD.SLICE_STATUS_SLICE) = true) : s.handingOver n = true := by
  rw [State.handingOver, decide_eq_true hs, hf]
  rfl

end

/-- Settles O15: the conditions pass the guard of each command and select its branch. -/
theorem acquisitionRowsComplete : Obligations.AcquisitionRowsComplete := by
  intro s hr n i
  refine ⟨fun level active dark => ?_, fun level active bright => ?_, fun waits light other => ?_, fun waits light first => ?_,
    fun metric searches other => ?_, fun tracks due unflagged => ?_, fun r acquires mode => ?_, fun late => ?_,
    fun locked => ?_, fun adc decoding burst => ?_, fun late => ?_, fun late => ?_, fun late => ?_⟩
  · intro run held unlost
    rw [exec_rxLosDeclare, execRxLosDeclare, act_of_running hr, State.losInterval_of_held active dark held unlost]
  · rw [exec_rxLosClear, execRxLosClear, act_of_running hr, State.losInterval_of_bright active bright]
  · rw [exec_waitSignalExit, execWaitSignalExit, act_past_guard hr (by simp [waits, light])]
    dsimp only
    rw [if_neg other]
  · rw [exec_waitSignalExit, execWaitSignalExit, act_past_guard hr (by simp [waits, light])]
    dsimp only
    rw [if_pos first]
  · intro c f within wide
    have goes_on : (trialIn (s.cdStep n) f f.j && decide (0 < s.cdStep n)) = true := by rw [within, decide_eq_true wide]; rfl
    rw [exec_cdTrial, execCdTrial, act_past_guard hr (not_not_intro searches)]
    dsimp only
    rw [if_neg other, if_pos goes_on]
  · rw [exec_cdFilterMove, execCdFilterMove, act_past_guard hr (by simp [tracks, due, unflagged])]
  · have guard : ¬ ((s.subc n i).st ≠ .freqAcq ∨ (s.foMode n = 1 ∧
        (s.subc n i).estAt.any (fun t => s.now < t + s.get (RXD.page n) RXD.FB_CFG_SETTLE * nsMs) = true)) := by
      simp [acquires, mode]
    rw [exec_freqAcqEstimate, execFreqAcqEstimate, act_past_guard hr guard]
    dsimp only
    rw [State.setSubc_foMode, if_neg mode]
  · rw [exec_freqAcqTimeout, execFreqAcqTimeout, act_under_guard hr late]
  · rw [exec_freqCaptureLoss, execFreqCaptureLoss, act_under_guard hr locked]
  · rw [exec_eqBlockUpdate, execEqBlockUpdate, act_past_guard hr (State.takes_block decoding burst)]
  · rw [exec_eqBlindTimeout, execEqBlindTimeout, act_under_guard hr late]
  · rw [exec_gutterSearchTimeout, execGutterSearchTimeout, act_under_guard hr late]
  · rw [exec_acqTrainTimeout, execAcqTrainTimeout, act_under_guard hr late]

/-- Settles O16: the conditions pass the guard of each command and select its branch. -/
theorem laserDeskewNlcSlicesComplete : Obligations.LaserDeskewNlcSlicesComplete := by
  intro s hr n
  refine ⟨fun f tracks mode due => ?_, fun f f0 d checks settled => ?_, fun unboosted enabled active fast => ?_, fun held => ?_,
    fun i a b phases jump st => ?_, fun d0 d1 d2 d3 st unflagged => ?_, fun starting tracks unflagged => ?_, fun leave => ?_,
    fun k e => ?_, fun shadow failed => ?_, fun e shadow => ?_⟩
  · intro t free mode' far
    have guard : ¬ ((s.subc n 0).st ≠ .track ∨ 2 ≤ s.foMode n ∨
        (s.rxs n).fbAt.any (fun t => s.now < t + 1000000 / s.get (RXD.page n) RXD.FB_CFG_RATE) = true) := by
      simp only [tracks, mode, due]; decide
    have feedback : ¬ t.foMode n = 0 := by rw [mode']; decide
    have acts : ¬ ((t.rxs n).holdC = true ∨ f.natAbs < 100 * t.get (RXD.page n) RXD.FB_CFG_DEADBAND) := by
      rw [free]
      exact not_or_intro Bool.false_ne_true (Nat.not_lt.mpr far)
    rw [exec_laserFbUpdate, execLaserFbUpdate, act_past_guard hr guard]
    dsimp only
    rw [if_neg feedback, if_neg acts]
  · rw [exec_fbResponseCheck, execFbResponseCheck, act_of_running hr, checks]
    dsimp only
    rw [if_neg (Nat.not_lt.mpr settled)]
  · rw [exec_sopBoostStart, execSopBoostStart, act_past_guard hr (by simp only [unboosted, enabled, active, fast]; decide)]
  · rw [exec_sopBoostEnd, execSopBoostEnd, act_past_guard hr (Nat.not_lt.mpr held)]
  · have guard : ¬ ((!(decide (1 / 4 < a - b) || decide (1 / 4 < b - a))) = true ∨
        ((s.subc n i).st ≠ .train ∧ (s.subc n i).st ≠ .track)) := by
      rw [← Bool.decide_or, decide_eq_true jump]
      rcases st with h | h <;> simp [h]
    rw [exec_phaseJump, execPhaseJump, act_of_running hr]
    dsimp only
    rw [phases]
    dsimp only
    rw [if_neg guard]
  · have guard : ¬ (((s.subc n 0).st ≠ .train ∧ (s.subc n 0).st ≠ .track) ∨ (s.rxs n).flagged = true) := by
      rcases st with h | h <;> simp [h, unflagged]
    rw [exec_deskewStep, execDeskewStep, act_past_guard hr guard]
  · rw [exec_nlcGutterStart, execNlcGutterStart, act_past_guard hr (by simp [starting, tracks, unflagged])]
  · rw [exec_nlcLeaveEnd, execNlcLeaveEnd, act_past_guard hr (by simp [leave])]
  · rw [exec_sliceFail, execSliceFail, act_of_running hr]
  · have hands : s.handingOver n = true := State.handingOver_of_shadow shadow failed
    rw [exec_sliceHandover, execSliceHandover, act_past_guard hr (by simp [hands])]
  · rw [exec_sliceShadowError, execSliceShadowError, act_of_running hr]
    dsimp only
    rw [if_neg (not_not_intro shadow)]

end Sys2Proof.Machine

/-!
The transmitter: mapping of a folio, mask units, moves of the pre-compensation and the skew, clipping (6.1 to 6.6), the enables
and mutes of the output and the SPI port (6.7).
-/
namespace Sys2Proof.Machine

/-- What each action of a list leaves as it is, the whole list leaves as it is. -/
theorem each_preserves {α β : Type} {l : List α} {f : α → State → State} {g : State → β}
    (h : ∀ x t, g (f x t) = g t) (s : State) : g (each l f s) = g s := by
  induction l generalizing s with
  | nil => rfl
  | cons x l ih => exact (ih (f x s)).trans (h x s)

section
variable {s t : State} {n : Nat}

/-! ### A folio goes through the mapping and the DACs (R192, R203 to R205) -/

/-- The spectra of the mask units change no register. -/
theorem State.addSpectra_regs {x y : List (List Cx)} : (s.addSpectra n x y).regs = s.regs :=
  each_preserves (fun m t => by dsimp only; split <;> rfl) s

/-- Nothing leaves the part as the mask units take their spectra. -/
theorem State.addSpectra_out {x y : List (List Cx)} : (s.addSpectra n x y).out = s.out :=
  each_preserves (fun m t => by dsimp only; split <;> rfl) s

/-- The taps of the pre-emphasis are register words. -/
theorem State.preTaps_of_regs (h : t.regs = s.regs) (d : Nat) : t.preTaps n d = s.preTaps n d := by
  simp only [State.preTaps, State.nat, State.word, h]

/-- The state in which folio `c` stands before the DACs: its bursts have started, the mask units have taken the spectra of its
shaped subcarriers `x` and `y`, and `due` lists the folios after it. -/
def State.folioMapped (s : State) (n c : Nat) (x y : List (List Cx)) (due : List (Nat × List Nat))
    (coded : Tab (List (Nat × List Bool))) (tail : Tab (List Cx)) : State :=
  let t := ((s.endBursts n c).startBursts n c).addSpectra n x y
  t.setTx n { t.txs n with
    due := due, coded := coded, tail := tail, tapsInUse := (List.range 4).flatMap (t.preTaps n), folio := c }

section
variable {c : Nat} {x y : List (List Cx)} {due : List (Nat × List Nat)} {coded : Tab (List (Nat × List Bool))}
  {tail : Tab (List Cx)}

theorem State.folioMapped_regs : (s.folioMapped n c x y due coded tail).regs = s.regs := by
  rw [State.folioMapped, State.setTx_regs]
  exact State.addSpectra_regs

theorem State.folioMapped_out : (s.folioMapped n c x y due coded tail).out = s.out := by
  rw [State.folioMapped, State.setTx_out]
  exact State.addSpectra_out

theorem State.folioMapped_due : ((s.folioMapped n c x y due coded tail).txs n).due = due := by
  rw [State.folioMapped, State.setTx_txs]

theorem State.folioMapped_folio : ((s.folioMapped n c x y due coded tail).txs n).folio = c := by
  rw [State.folioMapped, State.setTx_txs]

theorem State.folioMapped_tapsInUse : ((s.folioMapped n c x y due coded tail).txs n).tapsInUse =
    (List.range 4).flatMap (s.preTaps n) := by
  rw [State.folioMapped, State.setTx_txs]
  exact congrArg (List.range 4).flatMap (funext (State.preTaps_of_regs State.addSpectra_regs))

end

/-- `k` DACs have sent a folio since `s`: a list of codes each has left, and only the clip counts and the DACs' filter memories
have changed in the transmitter. -/
structure State.SentBy (s : State) (n k : Nat) (t : State) : Prop where
  regs : t.regs = s.regs
  txs : ∃ clips tails, t.txs n = { s.txs n with clips := clips, dacTail := tails }
  out : ∃ l : List (List Int), l.length = k ∧ t.out = s.out ++ l.map (Out.sent "dac")

theorem State.dacFolio_sentBy {d : Nat} {v : List Dual} : s.SentBy n 1 (s.dacFolio n d v) :=
  ⟨rfl, ⟨_, _, State.setTx_txs⟩, ⟨[_], rfl, rfl⟩⟩

theorem State.SentBy.trans {u : State} {j k : Nat} (h : s.SentBy n j t) (h' : t.SentBy n k u) : s.SentBy n (j + k) u := by
  obtain ⟨regs, ⟨_, _, txs⟩, l, len, out⟩ := h
  obtain ⟨regs', ⟨_, _, txs'⟩, l', len', out'⟩ := h'
  refine ⟨regs'.trans regs, ⟨_, _, txs'.trans (by rw [txs])⟩, l ++ l', by rw [List.length_append, len, len'], ?_⟩
  rw [out', out, List.map_append, List.append_assoc]

theorem State.each_dacFolio_sentBy {v : List Dual} (l : List Nat) (s : State) :
    s.SentBy n l.length (each l (fun d t => t.dacFolio n d v) s) := by
  induction l generalizing s with
  | nil => exact ⟨rfl, ⟨_, _, rfl⟩, ⟨[], rfl, (List.append_nil _).symm⟩⟩
  | cons d l ih =>
    rw [List.length_cons, Nat.add_comm]
    exact State.dacFolio_sentBy.trans (ih _)

/-- The oldest folio due, its streams coded, is mapped and goes to the four DACs (R192). -/
theorem execTxFolioMap_sends {n : Fin 2} {c : Nat} {streams : List Nat} {r : List (Nat × List Nat)} (hr : s.running = true)
    (hd : (s.txs n).due = (c, streams) :: r) (ha : s.active (Kind.TXD.pg n) = true)
    (hc : ∀ st ∈ streams, streams.count st ≤ ((s.txs n).codedOf st c).length) :
    ∃ x y coded tail v, execTxFolioMap n s = .next
      (each (List.range 4) (fun d t => t.dacFolio n d v) (s.folioMapped n c x y r coded tail)).settle := by
  have coded : ¬ (!s.active (Kind.TXD.pg n) ||
      streams.any (fun st => decide (((s.txs n).codedOf st c).length < streams.count st))) = true := by
    simpa [ha] using hc
  rw [execTxFolioMap, act_of_running hr]
  dsimp only
  rw [hd]
  dsimp only
  rw [if_neg coded]
  exact ⟨_, _, _, _, _, rfl⟩

/-- A subcarrier that a mask unit mutes carries zeros (R201). -/
theorem State.subSymbols_of_muted {c i : Nat} {y : Bool} {bits : List Bool} (h : s.subMuted n i = true) :
    s.subSymbols n c i y bits = List.replicate (s.txSet n).sy {} := by
  rw [State.subSymbols]
  exact if_pos h

end

/-- Settles O17: the conditions pass the guard of each command and select its branch; a mapped folio leaves by the four DACs one
after another. -/
theorem transmitRowsComplete : Obligations.TransmitRowsComplete := by
  intro s hr n m
  refine ⟨fun c streams r due active coded => ?_, fun c i y bits muted => State.subSymbols_of_muted muted, fun checking => ?_,
    fun due => ?_, ⟨fun gone => ?_, fun carries measured => ?_⟩, fun outside away => ?_, fun active => ?_, ?_⟩
  · obtain ⟨x, y, coded', tail, v, maps⟩ := execTxFolioMap_sends hr due active coded
    obtain ⟨regs, ⟨_, _, txs⟩, l, len, out⟩ :=
      State.each_dacFolio_sentBy (n := n) (v := v) (List.range 4) (s.folioMapped n c x y r coded' tail)
    refine ⟨_, maps, regs.trans State.folioMapped_regs, ?_, ?_, ?_, l, len, out.trans (by rw [State.folioMapped_out])⟩
    · rw [txs, State.folioMapped_due]
    · rw [txs, State.folioMapped_folio]
    · rw [txs, State.folioMapped_tapsInUse]
  · rw [exec_maskCheckDone, execMaskCheckDone, act_past_guard hr (by simp [checking])]
  · rw [exec_maskBankExchange, execMaskBankExchange, act_under_guard hr due]
  · have nothing : (!s.carries n m || ((s.txs n).mask m).spectrum.isEmpty) = true := by
      rcases gone with h | h <;> simp [h]
    rw [exec_maskLiveMeasure, execMaskLiveMeasure, act_of_running hr]
    dsimp only
    rw [if_pos nothing]
  · have both : ¬ (!s.carries n m || ((s.txs n).mask m).spectrum.isEmpty) = true := by simp [carries, measured]
    rw [exec_maskLiveMeasure, execMaskLiveMeasure, act_of_running hr]
    dsimp only
    rw [if_neg both]
  · rw [exec_cdPreMove, execCdPreMove, act_past_guard hr (by simp [outside, away])]
  · rw [exec_txSkewStep, execTxSkewStep, act_past_guard hr (by simp [active])]
  · rw [exec_clipCheck, execClipCheck, act_of_running hr]

/-- Settles O18: the conditions pass the guard of each command and select its branch. -/
theorem outputEnableRowsComplete : Obligations.OutputEnableRowsComplete := by
  intro s hr n
  refine ⟨fun ready => ?_, ?_, fun enabled unarmed waited unready en => ?_, ⟨fun rising full => ?_, fun falling zero => ?_⟩,
    fun inactive => ?_, fun active => ?_, fun inactive held => ?_, fun rx w busy => ?_, fun rx w busy => ?_⟩
  · rw [exec_unmuteStart, execUnmuteStart, act_of_running hr]
  · rw [exec_unmuteStart, execUnmuteStart, act_of_running hr]
  · have late : ((s.txs n).laserEn && !(s.txs n).armed && s.laserWaited n) = true := by rw [enabled, unarmed, waited]; rfl
    rw [exec_laserReadyTimeout, execLaserReadyTimeout, act_of_running hr]
    dsimp only
    rw [late, Bool.or_true, en, unready]
    rfl
  · rw [exec_outputRampDone, execOutputRampDone, act_past_guard hr (by simp [rising, full])]
    dsimp only
    rw [rising]
  · rw [exec_outputRampDone, execOutputRampDone, act_past_guard hr (by simp [falling, zero])]
    dsimp only
    rw [falling]
  · rw [exec_optFaultChange, execOptFaultChange, act_of_running hr]
    dsimp only
    rw [inactive]
    rfl
  · rw [exec_optFaultChange, execOptFaultChange, act_of_running hr]
    dsimp only
    rw [active]
    rfl
  · rw [exec_optFaultHoldoffExpiry, execOptFaultHoldoffExpiry, act_past_guard hr (by simp [inactive, held])]
  · rw [exec_ocpSpiTransferDone, execOcpSpiTransferDone, act_of_running hr]
    dsimp only
    rw [busy]
    rfl
  · rw [exec_ocpSpiTransferDone, execOcpSpiTransferDone, act_of_running hr]
    dsimp only
    rw [busy]
    rfl

end Sys2Proof.Machine

/-!
The hub of a shared carrier, its burst receivers, and the LEAF role (7.4 to 7.6).
-/
namespace Sys2Proof.Machine

section
variable {s t : State} {n : Fin 2} {i : Fin 16}

/-! ### A gutter at the hub (R150, R152, R164, R168, R218, R228) -/

/-- The state in which a folio's gutter has passed at subcarrier `i`: an exchange of outputs that was due has taken place, a stop of
NLC that waited has taken effect, and the correlation has been judged. -/
def State.gutterPassed (s : State) (n i : Nat) (pos : Int) (fd sw lo pk sk : Bool) : State :=
  let c := s.subc n i
  let t := if c.swapDue then
      (s.setSubc n i { c with swapDue := false, taps := swapTaps c.taps }).raise (Kind.RXD.pg n) RXD.ev_POL_SWAP
    else s
  let stop := i = 0 && (t.rxs n).nlcStop && !(t.rxs n).flagged
  let t := if stop then t.nlcStopped n else t
  let t := t.gutterSeen n i pos fd sw lo pk sk
  if i = 0 then t.setRx n { t.rxs n with flagged := stop } else t

/-- The leaf that owns subcarrier `i` of a hub as its dedicated one. -/
def State.subcOwner (s : State) (n i : Nat) : Option Nat :=
  (List.range 32).find? (fun l => s.role n = 1 && s.dedSub n l = some i)

theorem State.subcOwner_eq_none (h : ∀ l < 32, (s.role n = 1 ∧ s.dedSub n l = some i.val) → False) :
    s.subcOwner n i = none := by
  simpa [State.subcOwner, List.find?_range_eq_none] using h

/-- What a subcarrier's owner takes from its gutter: TRACK brings the leaf into service, and the arrival error over a quire, where
one is given, enters its average. -/
def State.ownersGutter (s : State) (n i : Nat) (q : Option Int) : Option Nat → State
  | none => s
  | some l =>
    let u := if (s.subc n i).st = .track then s.leafJoined n l else s
    match q with
    | none => u
    | some e => (u.hubArrival n l e).arrivalAvg n l (u.upFolio n) e

/-- The gutter passes, and the owner of the subcarrier takes its part. -/
theorem execRxGutterCorrelate_passes {pos : Int} {fd sw lo pk sk : Bool} {q : Option Int} (hr : s.running = true)
    (ht : s.gutterPassed n i pos fd sw lo pk sk = t) :
    execRxGutterCorrelate n i pos fd sw lo pk sk q s = .next (t.ownersGutter n i q (t.subcOwner n i)).settle := by
  subst ht
  rw [execRxGutterCorrelate, act_of_running hr]
  unfold State.ownersGutter
  rfl

/-! ### Joining (R227) -/

/-- No number below `m` meets two conditions that exclude each other there. -/
theorem find?_range_eq_none_of_unmet {m : Nat} {P : Nat → Prop} [DecidablePred P] {q : Nat → Bool}
    (h : ∀ l < m, (P l ∧ q l = true) → False) : (List.range m).find? (fun l => P l && q l) = none := by
  simpa [List.find?_range_eq_none] using h

end

/-- Settles O19: the conditions pass the guard of each command and select its branch. -/
theorem hubRowsComplete : Obligations.HubRowsComplete := by
  intro s hr n
  refine ⟨?_, fun l i owned serving lost late => ?_, fun i pos fd sw lo pk sk q => ?_, fun f hub active => ?_, fun o => ?_,
    fun i r joins => ?_⟩
  · rw [exec_windowLost, execWindowLost, act_of_running hr]
  · rw [exec_dedicatedLossTimeout, execDedicatedLossTimeout, act_of_running hr, owned]
    dsimp only
    rw [if_pos (by simp [serving, lost, late])]
  · intro _ _ _ _ _ t
    have passed : s.gutterPassed n i pos fd sw lo pk sk = t := rfl
    clear_value t
    simp only [exec_rxGutterCorrelate, execRxGutterCorrelate_passes hr passed]
    refine ⟨fun unowned => ?_, fun l e owned => ⟨?_, ?_⟩⟩
    · rw [State.subcOwner_eq_none unowned, State.ownersGutter]
    · rw [State.subcOwner, owned, State.ownersGutter]
    · rw [State.subcOwner, owned, State.ownersGutter]
  · rw [exec_burstMapFill, execBurstMapFill]
    dsimp only
    exact (act_past_guard hr (by simp [hub, active])).trans rfl
  · rw [exec_quietWindowOpen, execQuietWindowOpen, act_of_running hr]
  · rw [exec_joinDecision, execJoinDecision]
    dsimp only
    rw [act_past_guard hr (not_not_intro joins)]
    refine ⟨fun bad => ?_, fun good admits unlisted => ?_, fun l u good admits listed queued => ?_⟩
    · rw [if_pos bad]
    · rw [if_neg (not_not_intro good), if_pos admits, find?_range_eq_none_of_unmet unlisted]
    · rw [if_neg (not_not_intro good), if_pos admits, listed]
      dsimp only
      rw [queued] <;> rfl

section
variable {s : State} {n : Fin 2} {i : Fin 16}

/-! ### Detection of a burst (R233 to R235) -/

/-- The peak that counts of those of correlators A and B: at DET_TH or above, the higher of two, A's on equal metrics. The flag says
that it is B's. -/
def State.detectedPeak (s : State) (n : Nat) (a b : Option (Nat × Int)) : Option (Bool × Nat × Int) :=
  let hit := fun (p : Option (Nat × Int)) => p.filter (fun x => 256 * s.get (SUB.page n) SUB.BURST_CFG_DET_TH ≤ x.1)
  match hit a, hit b with
  | some x, some y => if x.1 < y.1 then some (true, y) else some (false, x)
  | some x, none => some (false, x)
  | none, some y => some (true, y)
  | none, none => none

theorem State.detectedPeak_single {m : Nat} {st : Int} (cb : Bool) (h : 256 * s.get (SUB.page n) SUB.BURST_CFG_DET_TH ≤ m) :
    s.detectedPeak n (if cb then none else some (m, st)) (if cb then some (m, st) else none) = some (cb, m, st) := by
  cases cb <;> simp [State.detectedPeak, Option.filter, h]

theorem State.detectedPeak_both {ma mb : Nat} {sa sb : Int} (ha : 256 * s.get (SUB.page n) SUB.BURST_CFG_DET_TH ≤ ma)
    (hb : 256 * s.get (SUB.page n) SUB.BURST_CFG_DET_TH ≤ mb) :
    s.detectedPeak n (some (ma, sa)) (some (mb, sb)) =
      some (decide (ma < mb), if ma < mb then mb else ma, if ma < mb then sb else sa) := by
  by_cases h : ma < mb <;> simp [State.detectedPeak, Option.filter, ha, hb, h]

section
variable {a b : Option (Nat × Int)} {cb : Bool} {m : Nat} {st : Int} (hr : s.running = true)
  (hp : s.detectedPeak n a b = some (cb, m, st)) (hx : s.hasBurstRx n i = true)
include hr hp hx

/-- An armed receiver takes the candidate and searches its sync word. -/
theorem execBurstDetection_armed (ha : (s.burstRx n i).st = .armed) : execBurstDetection n i a b s = .next
    (s.setBurstRx n i { s.burstRx n i with st := .syncSearch, corrB := cb, candM := m, captured := false }).settle := by
  rw [execBurstDetection, act_of_running hr]
  extract_lets _ r _ win
  have peak : win = some (cb, m, st) := hp
  have armed : r.st = .armed := ha
  rw [peak]
  dsimp only
  rw [if_neg (by simp [hx]), armed]

/-- A candidate stronger than the burst in PAYLOAD by CAPTURE_MARGIN captures the receiver: that burst has COLLIDED. -/
theorem execBurstDetection_captures {u : Burst} (hs : (s.burstRx n i).st = .payload) (hu : (s.burstRx n i).cur = some u)
    (hm : s.get (SUB.page n) SUB.CAPTURE_MARGIN ≠ 0xFF)
    (hc : -(u.latched.rssi : Int) + 10 * s.get (SUB.page n) SUB.CAPTURE_MARGIN ≤ st) :
    execBurstDetection n i a b s = .next
      (let t := s.setBurstRx n i { s.burstRx n i with st := .syncSearch, corrB := cb, candM := m, captured := true, cur := none }
       (((t.setSubc n i { t.subc n i with syms := [] }).raise (Kind.SUB.pg n) SUB.ev_COLLIDED).logBurst n
        { verdict := 2, leaf := some u.leaf, subc := i, intruded := u.intruded, l := u.latched }).settle) := by
  rw [execBurstDetection, act_of_running hr]
  extract_lets _ r _ win
  have peak : win = some (cb, m, st) := hp
  have payload : r.st = .payload := hs
  have current : r.cur = some u := hu
  rw [peak]
  dsimp only
  rw [if_neg (by simp [hx]), payload, current]
  dsimp only
  rw [if_pos ⟨hm, hc⟩]

end

end

/-- Settles O20: the conditions pass the guard of each command and select its branch. -/
theorem burstReceiverRowsComplete : Obligations.BurstReceiverRowsComplete := by
  intro s hr n i
  refine ⟨fun l rx => ?_, fun cb m st rx strong armed => ?_, fun ma mb sa sb rx strongA strongB armed => ?_,
    fun cb m st u rx strong payload cur margin stronger => ?_,
    fun j off metric folio rssi snr freq arr cd adc g leaf searches near good uncaptured => ?_, fun searches => ?_,
    fun payload => ?_, fun u p ended passed => ?_, fun leaf folio g => ?_⟩
  · rw [exec_burstStateLoad, execBurstStateLoad, act_under_guard hr rx]
  · exact (exec_burstDetection _ _ _ _).trans (execBurstDetection_armed hr (State.detectedPeak_single cb strong) rx armed)
  · exact (exec_burstDetection _ _ _ _).trans (execBurstDetection_armed hr (State.detectedPeak_both strongA strongB) rx armed)
  · exact (exec_burstDetection _ _ _ _).trans
      (execBurstDetection_captures hr (State.detectedPeak_single cb strong) rx payload cur margin stronger)
  · intro mine granted within
    have guard : ¬ ((s.burstRx n i).st ≠ .syncSearch ∨ 8 < off.natAbs ∨
        metric < 256 * s.get (SUB.page n) SUB.BURST_CFG_SYNC_TH) := by
      simp [searches, near, good]
    rw [exec_burstSyncLatch, execBurstSyncLatch]
    dsimp only
    rw [act_past_guard hr guard, if_neg (Nat.ne_of_lt leaf), granted]
    dsimp only
    rw [if_neg (Nat.not_lt.mpr within), if_neg (by simp [uncaptured])]
  · rw [exec_burstNoSync, execBurstNoSync]
    dsimp only
    rw [act_past_guard hr (not_not_intro searches)]
  · rw [exec_burstRampDown, execBurstRampDown]
    dsimp only
    rw [act_past_guard hr (not_not_intro payload)]
  · rw [exec_burstVerdict, execBurstVerdict, act_of_running hr]
    dsimp only
    rw [ended, passed]
  · intro mine granted unlatched
    rw [exec_burstWindowMissing, execBurstWindowMissing, act_of_running hr]
    dsimp only
    rw [granted]
    dsimp only
    rw [if_neg (by simp [unlatched])]

/-- Settles O21: the conditions pass the guard of each command and select its branch. -/
theorem leafRowsComplete : Obligations.LeafRowsComplete := by
  intro s hr n
  refine ⟨fun f entries leaf active => ?_, fun leaf idle up tracks aligned active => ?_, fun waits late => ?_, fun verify => ?_,
    fun leaf joined notHeld unaligned => ?_, fun holds late => ?_⟩
  · rw [exec_burstMapDecode, execBurstMapDecode, act_past_guard hr (by simp [leaf, active])]
  · rw [exec_leafJoinStart, execLeafJoinStart, act_under_guard hr (by simp [leaf, idle, up, tracks, aligned, active])]
  · rw [exec_leafReplyTimeout, execLeafReplyTimeout, act_under_guard hr ⟨waits, late⟩]
  · rw [exec_leafFirstBurst, execLeafFirstBurst, act_under_guard hr verify]
  · rw [exec_leafHoldEntry, execLeafHoldEntry]
    dsimp only
    rw [act_under_guard hr (by simp [leaf, joined, notHeld, unaligned])]
  · rw [exec_leafHoldTimeout, execLeafHoldTimeout, act_under_guard hr ⟨holds, late⟩]

end Sys2Proof.Machine

/-!
Rows of the SUB, FEC and FRM registers that are a core's write (chapters 7 to 9).
-/
namespace Sys2Proof.Machine

/-! ### Rows that write SUB, FEC and FRM (R222, R223, R228, R230, R262 to R265, R268, R281, R312) -/

/-- The registers of SUBn that have a row of their own. -/
def subRowRegs : List Nat :=
  [SUB.SCHED_CTRL, SUB.LEAF_CMD, SUB.UP_OWNER 0, SUB.UP_OWNER 1, SUB.UP_OWNER 2, SUB.UP_OWNER 3]

theorem key_sub : ∀ n : Fin 2, ∀ off ∈ subRowRegs, (placeAt (SUB.page n + off)).bind Place.key
    = some (.SUB, n.val, Kind.SUB.pg n, off) := by decide +kernel

theorem key_fec : ∀ n : Fin 2, ∀ off ∈ [FEC.CMD, FEC.CAP_REQ], (placeAt (FEC.page n + off)).bind Place.key
    = some (.FEC, n.val, Kind.FEC.pg n, off) := by decide +kernel

theorem key_frmCmd : ∀ n : Fin 2, (placeAt (FRM.page n + FRM.CMD)).bind Place.key
    = some (.FRM, n.val, Kind.FRM.pg n, FRM.CMD) := by decide +kernel

theorem subRowRegs_past_header : ∀ off ∈ subRowRegs, ¬ off < 0x100 := by decide

theorem upOwner_mem_subRowRegs : ∀ i : Fin 16, SUB.UP_OWNER (i / 4) ∈ subRowRegs := by decide

section
variable {s : State} {c : Fin 8} {n : Fin 2} {off v : Nat} {i : Instr}

/-- A row that is a core's write of a register of SUBn. -/
theorem State.CoreDoes.of_sub (hi : exec i s = hostWrite (.core c) (SUB.page n + off) v s) (ho : off ∈ subRowRegs) :
    s.CoreDoes c (SUB.page n + off) v i (wrSUB n off) := by
  refine .of_handle hi (key_sub n off ho) ?_
  rw [State.handle.eq_def, if_neg (subRowRegs_past_header off ho)]

/-- A row that is a core's write of FRMn.CMD, which is never refused. -/
theorem State.CoreDoes.of_frmCmd (hi : exec i s = hostWrite (.core c) (FRM.page n + FRM.CMD) v s) :
    s.CoreDoes c (FRM.page n + FRM.CMD) v i (fun x u => ok (wrFRM n FRM.CMD x u).st) :=
  .of_handle hi (key_frmCmd n) rfl

end

section
variable {n v : Nat} {s : State}

/-- A write of CAP_REQ asks for an iteration cap (R265). -/
theorem wrFEC_capReq : wrFEC n FEC.CAP_REQ v s = s.imaxWrite n (fv v FEC.CAP_REQ_IMAX) := by
  rw [wrFEC, if_neg (by decide), if_pos rfl]

/-- A write of 1 to HIST_CLEAR clears the histogram (R268). -/
theorem wrFEC_histClear (h : fb v FEC.CMD_HIST_CLEAR = true) :
    wrFEC n FEC.CMD v s = ok (each (List.range 32) (fun e t => t.setNat64 (FECW.HIST n e) 0) s) := by
  rw [wrFEC, if_pos rfl, if_pos h]

end

/-- Settles O39: each row is a core's write, and its carrier's block takes the word as stated. -/
theorem hostFramingRowsComplete : Obligations.HostFramingRowsComplete := by
  intro s
  refine ⟨fun c n => ?_, fun c n => ?_, fun c n leaf => ?_, fun c n i owner => ?_, fun c n imax => ?_, fun c n clears => ?_,
    fun c n => ?_, fun c n => ?_⟩
  · exact .of_sub (exec_schedCheck _ _) (by decide)
  · exact .of_sub (exec_schedApply _ _) (by decide)
  · exact .of_sub (exec_leafDeregister _ _ _) (by decide)
  · exact .of_sub (exec_upOwnerWrite _ _ _ _) (upOwner_mem_subRowRegs i)
  · exact .of_handle (exec_imaxWrite _ _ _) (key_fec n _ (by decide)) wrFEC_capReq
  · exact .of_handle (exec_histClear _ _) (key_fec n _ (by decide)) (wrFEC_histClear clears)
  · exact .of_frmCmd (exec_alignRestart _ _)
  · exact .of_frmCmd (exec_hbSnap _ _)

end Sys2Proof.Machine

/-!
FECn: encoding, decoding and its counters, the engine pool, and the end of a measurement period (chapter 8, R175 to R177, R223).
-/
namespace Sys2Proof.Machine

section
variable {s : State} {n : Fin 2} {i : Nat}

/-! ### Decoding (R251, R252, R261, R268) -/

/-- The values with which the positions of a codeword enter the decoder (R251). -/
def softValues (pos : List SoftPos) (k : Nat) : Int := ((pos[k]?).map SoftPos.value).getD 0

/-- The state in which a codeword ends its decoding under the cap in force: it and the causes now limiting are counted, and the cap's
margin enters the average (R263, R264, R266, R268). -/
def State.cwCounted (s : State) (n : Nat) : State :=
  let t := (s.count64 (FEC.page n + FEC.CW_DECODED) 1).countLimits n
  t.setFec n { t.fecs n with
    avgSum := (t.fecs n).avgSum + t.deltaM n (s.get (FEC.page n) FEC.CAP_STATUS_EFF), avgN := (t.fecs n).avgN + 1 }

section
variable {pos : List SoftPos} (hr : s.running = true) (hs : s.serves (Kind.FEC.pg n) = true)
  (hc : (s.decoded n i).length < (s.rxStream n i).2) (hp : s.codewordIn n i (s.decoded n i).length = pos)
include hr hs hc hp

/-- A codeword with more than 25 % of its positions absent is ABSENT, and goes on as its hard decisions. -/
theorem exec_codewordDecode_absent (ha : 7680 < (pos.filter SoftPos.isAbsent).length) :
    exec (.codewordDecode n i) s = .next (((s.count (FEC.page n + FEC.ABSENT_CW)).count64 (FECW.HIST n 27) 1).addDecoded n i
      ⟨2, hardBits (ldpcK (s.get (FEC.page n) FEC.CTRL_PROFILE)) (softValues pos)⟩).settle := by
  rw [exec_codewordDecode, execCodewordDecode]
  dsimp only
  rw [act_past_guard hr (by simp [hs, hc]), hp, if_pos ha]
  rfl

/-- Any other codeword goes through the decoder: CONVERGED where the syndrome comes to zero within the cap, else UNCONVERGED. -/
theorem exec_codewordDecode_present {run : Option Nat × LdpcSt} (ha : ¬ 7680 < (pos.filter SoftPos.isAbsent).length)
    (hrun : ldpcRun ((s.cwCounted n).baseRows n (s.get (FEC.page n) FEC.CTRL_PROFILE)) (s.get (FEC.page n) FEC.CAP_STATUS_EFF) 0
      ⟨softValues pos, fun _ _ _ => 0⟩ = run) :
    exec (.codewordDecode n i) s = .next (State.settle
      (let bits := hardBits (ldpcK (s.get (FEC.page n) FEC.CTRL_PROFILE)) run.2.v
       run.1.elim ((s.cwCounted n).addDecoded n i ⟨1, bits⟩)
         (fun k => ((s.cwCounted n).countConverged n pos run.2.v k).addDecoded n i ⟨0, bits⟩))) := by
  subst hrun
  rw [exec_codewordDecode, execCodewordDecode]
  dsimp only
  rw [act_past_guard hr (by simp [hs, hc]), hp, if_neg ha]
  unfold State.cwCounted softValues
  dsimp only
  generalize ldpcRun _ _ _ _ = run
  obtain ⟨need, x⟩ := run
  cases need with
  | none => rfl
  | some k => rfl

end

/-! ### The engine pool (R260, R261) -/

/-- The state in which the check goes on to the next engine of the pool (R260). -/
def State.shadowMoved (s : State) (n : Nat) : State :=
  s.setFec n { s.fecs n with shadow := ((s.fecs n).shadow + 1) % max 1 (s.fecs n).active.length }

/-- The active engine that the spare has shadowed. -/
def State.shadowedEngine (s : State) (n : Nat) : Nat :=
  (s.fecs n).active.getD ((s.fecs n).shadow % max 1 (s.fecs n).active.length) 0

section
variable {d x : Nat} {r : List Nat} (hr : s.running = true) (hs : (s.fecs n).spares = x :: r)
include hr hs

/-- A check by spare `x`: on a mismatch a unit that fails its reference decode fails, and with both good the mismatch is counted. -/
theorem exec_engineShadowCheck_of_spare {mismatch ap sp : Bool} :
    exec (.engineShadowCheck n mismatch ap sp) s = .next (State.settle
    (let t := s.shadowMoved n
     if mismatch = false then t else if (ap && sp) = true then t.bump (FEC.page n) FEC.ENGINES_MISMATCHES
     else
       let u := if sp then t.sweepYield 2 else (t.sweepYield 2).engineSpareFail n x
       if ap then u else u.engineFail n (s.shadowedEngine n))) := by
  rw [exec_engineShadowCheck, execEngineShadowCheck, act_of_running hr, State.shadowMoved]
  dsimp only
  rw [hs]
  cases mismatch <;> rfl

/-- Spare `x` is due to join the pool: with its reference decode passed it joins, else it fails. -/
theorem exec_engineSpareJoin_of_due {pass : Bool} (hd : (s.fecs n).joinDue = d + 1) :
    exec (.engineSpareJoin n pass) s = .next (State.settle
      (if pass = false then (s.sweepYield 2).engineSpareFail n x
       else
         let t := s.setFec n { s.fecs n with active := sortNat (x :: (s.fecs n).active), spares := r, joinDue := d }
         ((((t.raise (Kind.FEC.pg n) FEC.ev_ENGINE_SPARED).useSpare RPR.SPARES_ENGINES).showEngines n).fecStructShort n))) := by
  rw [exec_engineSpareJoin, execEngineSpareJoin, act_of_running hr]
  dsimp only
  rw [hd, hs]
  cases pass <;> rfl

end

end

/-- Settles O22: the conditions pass the guard of each command and select its branch. -/
theorem fecRowsComplete : Obligations.FecRowsComplete := by
  intro s hr n
  refine ⟨fun i c bits r waits active => ?_, fun u due => ?_, fun i serves more => ?_, fun i k serves more => ?_,
    fun i d nc serves stream all nonzero => ?_, fun ap sp x r spares => ?_, fun d x r due spares => ?_, fun due => ?_⟩
  · rw [exec_fecEncode, execFecEncode, act_of_running hr]
    dsimp only
    rw [waits]
    dsimp only
    rw [active, if_neg (by decide)]
  · rw [exec_schedSwitch, execSchedSwitch, act_of_running hr]
    dsimp only
    rw [due]
  · intro prof cap pos v0 absent _ _ run
    by_cases ha : 7680 < absent
    · rw [if_pos ha]
      exact exec_codewordDecode_absent hr serves more rfl ha
    · rw [if_neg ha]
      exact exec_codewordDecode_present hr serves more rfl ha rfl
  · rw [exec_lateCodeword, execLateCodeword]
    dsimp only
    rw [act_past_guard hr (by simp [serves, more])]
  · intro dec words failed corrected open_ unc pass hand
    rw [exec_bchDecode, execBchDecode, act_of_running hr, stream]
    dsimp only
    rw [if_neg (by simp [serves, all, nonzero])]
  · have check {m a p} := exec_engineShadowCheck_of_spare (mismatch := m) (ap := a) (sp := p) hr spares
    exact ⟨check, check, check, check⟩
  · exact ⟨exec_engineSpareJoin_of_due hr spares due, exec_engineSpareJoin_of_due hr spares due⟩
  · rw [exec_measPeriodEnd, execMeasPeriodEnd, act_past_guard hr (by simp [due])]

end Sys2Proof.Machine

/-!
FRMn, OSP and PMB: received folios and burst spines, overhead ports, seconds and endpoint records (chapter 9).
-/
namespace Sys2Proof.Machine

/-! ### The stages of a received folio (R279 to R285, R300 to R302, R306) -/

/-- What a stream holds, and then what FECn passed, from the position at which its folio begins. -/
def Stream.text (x : Stream) (raw : List Nat) : List Nat := (x.held ++ raw).drop x.lead

/-- A LOCKED stream has a complete folio. -/
def Stream.whole (x : Stream) (raw : List Nat) : Bool := x.locked && decide (raw.length ≤ (x.text raw).length)

/-- FRMn takes what FECn passed of a stream, and counts it where it is absent. -/
def State.folioTaken (s : State) (n i : Nat) (p : Passed) : State :=
  let t := s.setFec n { s.fecs n with toFrm := Tab.put (fun _ => none) (s.fecs n).toFrm i none }
  if p.absent != 0 then t.count (FRM.page n + FRM.ABSENT_FOLIOS) else t

/-- In SEARCH every position is examined; in LOCKED a complete folio is checked and its fields taken. With it, whether a folio was
good. -/
def State.folioExamined (s : State) (n i : Nat) (p : Passed) : State × Bool :=
  let x := s.stream n i
  let text := x.text p.bytes
  if !x.locked then ((s.missedFields n i none).searchPass n i p.bytes, false)
  else
    let t := s.setStream n i { x with lead := x.lead - min x.lead (x.held ++ p.bytes).length, held := text.drop p.bytes.length }
    if !x.whole p.bytes then (t.setStream n i { t.stream n i with held := text }, false)
    else t.lockedFolio n i p.absent0 (text.take p.bytes.length)

/-- The errors and the absence of a folio enter the stream's history and its defects. -/
def State.folioNoted (s : State) (n i : Nat) (absent uncorrected : Bool) : State :=
  let t := s.setStream n i { s.stream n i with lastErr := uncorrected }
  let t := if uncorrected then t.erroredFolio n i else t
  (t.uncFolio n i (absent || uncorrected)).showFrm n

/-- The defects of a folio enter the second in progress, and its slots go on to GTH. -/
def State.folioGiven (s : State) (n i : Nat) (absent uncorrected whole good : Bool) (plain : List Nat) : State :=
  let y := s.stream n i
  let bad := !y.locked || y.unc || absent || s.blk (Kind.FRM.pg n) = bFAULT
  let t := s.pm n (fun z => { z with defect := z.defect || bad, rdi := z.rdi || y.rdiRx })
  t.giveSlots n i (!whole || t.slotsOnes n i absent uncorrected) y.sd good plain

section
variable {x : Stream} {raw : List Nat}

theorem Stream.text_of_empty (lead : x.lead = 0) (held : x.held = []) : x.text raw = raw := by
  rw [Stream.text, lead, held, List.nil_append, List.drop_zero]

theorem Stream.whole_of_search (search : x.locked = false) : x.whole raw = false := by
  rw [Stream.whole, search, Bool.false_and]

theorem Stream.whole_of_empty (locked : x.locked = true) (lead : x.lead = 0) (held : x.held = []) : x.whole raw = true := by
  rw [Stream.whole, locked, Stream.text_of_empty lead held, Bool.true_and, decide_eq_true (Nat.le_refl _)]

end

section
variable {s : State} {n : Fin 2} {i : Fin 16} {p : Passed}

@[simp] theorem State.folioTaken_stream {n i k : Nat} : (s.folioTaken n i p).stream n k = s.stream n k := by
  unfold State.folioTaken
  dsimp only
  split
  · rfl
  · rfl

/-- Taking a folio that is present counts nothing. -/
theorem State.folioTaken_of_present (absent : p.absent = 0) :
    s.folioTaken n i p = s.setFec n { s.fecs n with toFrm := Tab.put (fun _ => none) (s.fecs n).toFrm i none } := by
  unfold State.folioTaken
  rw [absent]
  rfl

theorem State.folioExamined_of_search (search : (s.stream n i).locked = false) :
    s.folioExamined n i p = ((s.missedFields n i none).searchPass n i p.bytes, false) := by
  unfold State.folioExamined
  dsimp only
  rw [search]
  rfl

/-- A LOCKED stream that begins its folios where FECn does, and holds nothing, has its folio in what FECn passed. -/
theorem State.folioExamined_of_empty (locked : (s.stream n i).locked = true) (lead : (s.stream n i).lead = 0)
    (held : (s.stream n i).held = []) :
    s.folioExamined n i p = (s.setStream n i { s.stream n i with lead := 0, held := [] }).lockedFolio n i p.absent0 p.bytes := by
  unfold State.folioExamined
  dsimp only
  rw [Stream.whole_of_empty locked lead held, Stream.text_of_empty lead held, locked, lead, List.drop_length, List.take_length,
    Nat.zero_sub]
  rfl

/-- The slots of a complete folio without a fault of its own. -/
theorem State.folioGiven_clean {good : Bool} {plain : List Nat} : s.folioGiven n i false false true good plain =
    (let y := s.stream n i
     let bad := !y.locked || y.unc || s.blk (Kind.FRM.pg n) = bFAULT
     let t := s.pm n (fun z => { z with defect := z.defect || bad, rdi := z.rdi || y.rdiRx })
     t.giveSlots n i (t.slotsOnes n i false false) y.sd good plain) := by
  unfold State.folioGiven
  simp only [Bool.or_false, Bool.not_true, Bool.false_or]

/-- FOLIO_RX by its stages. -/
theorem exec_folioRx_stages : exec (.folioRx n i) s = act s fun s =>
    (if s.frmReceives n i then Tab.get (fun _ => none) (s.fecs n).toFrm i.val else none).elim s fun p =>
      let t := s.folioTaken n i p
      let x := t.stream n i
      let r := t.folioExamined n i p
      (r.1.folioNoted n i (p.absent != 0) (p.unc != 0)).folioGiven n i (p.absent != 0) (p.unc != 0) (x.whole p.bytes) r.2
        (scrFolio x.expected ((x.text p.bytes).take p.bytes.length)) := by
  rw [exec_folioRx, execFolioRx]
  congr 1
  funext s
  extract_lets fe
  generalize (if s.frmReceives n i then Tab.get (fun _ => none) fe.toFrm i.val else none) = o
  cases o with
  | none => rfl
  | some p => rfl

/-- A folio that FECn passed goes through the stages. -/
theorem exec_folioRx_of_passed {x : Stream} {r : State × Bool} (hr : s.running = true) (receives : s.frmReceives n i = true)
    (passed : Tab.get (fun _ => none) (s.fecs n).toFrm i.val = some p) (hx : s.stream n i = x)
    (examined : (s.folioTaken n i p).folioExamined n i p = r) :
    exec (.folioRx n i) s = .next (State.settle
      ((r.1.folioNoted n i (p.absent != 0) (p.unc != 0)).folioGiven n i (p.absent != 0) (p.unc != 0) (x.whole p.bytes) r.2
        (scrFolio x.expected ((x.text p.bytes).take p.bytes.length)))) := by
  rw [exec_folioRx_stages, act_of_running hr, if_pos receives, passed, Option.elim_some]
  dsimp only
  rw [State.folioTaken_stream, hx, examined]

/-- Where FECn passed nothing of the stream, the state stays as it is. -/
theorem exec_folioRx_of_nothing (hr : s.running = true) (nothing : Tab.get (fun _ => none) (s.fecs n).toFrm i.val = none) :
    exec (.folioRx n i) s = .next s.settle := by
  rw [exec_folioRx_stages, act_of_running hr, nothing, ite_self, Option.elim_none]

end

/-- Settles O23: a received folio goes through its stages as its stream and its errors decide; elsewhere the conditions pass the
guard of each command and select its branch. -/
theorem frameRowsComplete : Obligations.FrameRowsComplete := by
  intro s hr n i
  refine ⟨fun p receives passed search => ?_, fun p receives passed locked lead held unc absent => ?_,
    fun _ nothing => exec_folioRx_of_nothing hr nothing, fun receives => ?_, fun u p last passed => ?_, fun core sends ready => ?_⟩
  · have examined := State.folioExamined_of_search (s := s.folioTaken n i p) (p := p) (by rw [State.folioTaken_stream, search])
    rw [exec_folioRx_of_passed hr receives passed rfl examined, Stream.whole_of_search search]
    rfl
  · rw [exec_folioRx_of_passed hr receives passed rfl rfl, State.folioTaken_of_present absent,
      State.folioExamined_of_empty (s := s.setFec n _) locked lead held, Stream.whole_of_empty locked lead held,
      Stream.text_of_empty lead held, List.take_length, unc, absent]
    exact congrArg done State.folioGiven_clean
  · rw [exec_sdSecond, execSdSecond, act_past_guard hr (by simp [receives])]
  · intro raw c plain t
    rw [exec_burstSpineCheck, execBurstSpineCheck, act_of_running hr]
    dsimp only
    rw [last, passed]
    dsimp only
    refine ⟨fun faw leaf count => ?_, fun bad => ?_⟩
    · rw [if_pos]
      simp only [Bool.and_eq_true, decide_eq_true_eq]
      exact ⟨⟨faw, leaf⟩, count⟩
    · rw [if_neg]
      simp only [Bool.and_eq_true, decide_eq_true_eq]
      rintro ⟨⟨faw, leaf⟩, count⟩
      rcases bad with h | h | h
      · exact Bool.false_ne_true (h.symm.trans faw)
      · exact h leaf
      · exact h count
  · rw [exec_folioTx, execFolioTx]
    dsimp only
    rw [act_past_guard hr (by simp [sends, ready])]

section
variable {s : State}

/-! ### Overhead ports (R291 to R293) -/

/-- The oldest unit of a channel goes out on every port that extracts it. -/
theorem exec_ospExtractUnit_of_unit {n : Fin 2} {mc1 : Bool} {u : List Nat} {r : List (List Nat)} (hr : s.running = true)
    (active : s.active Kind.OSP.pages.1 = true) (unit : (if mc1 then (s.frms n).mc1 else (s.frms n).mc0) = u :: r) :
    exec (.ospExtractUnit n mc1) s = .next (State.settle
      (each ((List.range 4).filter (fun p => s.flag OSP.page (OSP.PORT_CFG_EXT_EN p)
          && s.get OSP.page (OSP.PORT_CFG_CARRIER p) = n.val && s.flag OSP.page (OSP.PORT_CFG_CHAN p) = mc1))
        (fun p t => t.send "osp" ((p : Int) :: u.map (fun (v : Nat) => (v : Int))))
        (s.setFrm n (if mc1 then { s.frms n with mc1 := r } else { s.frms n with mc0 := r })))) := by
  have serves {f : FrmState} : ¬ (!(s.setFrm n f).active Kind.OSP.pages.1) = true := by
    change ¬ (!s.active Kind.OSP.pages.1) = true
    simp [active]
  rw [exec_ospExtractUnit, execOspExtractUnit, act_of_running hr]
  dsimp only
  rw [unit]
  dsimp only
  rw [if_neg serves]
  rfl

/-- A unit on an enabled port: one cut short and one that finds the FIFO full are counted, any other is queued. -/
theorem exec_ospInsertUnit_of_enabled {p : Fin 4} {unit : List (BitVec 8)} {cut : Bool} (hr : s.running = true)
    (active : s.active Kind.OSP.pages.1 = true) (ins : s.flag OSP.page (OSP.PORT_CFG_INS_EN p) = true) :
    exec (.ospInsertUnit p unit cut) s = .next (State.settle
      (if cut then (s.count (OSP.page + OSP.INS_SHORT p)).raise Kind.OSP.pages.1 OSP.ev_INS_SHORT
       else if 16 ≤ (s.ospFifo p).length then (s.count (OSP.page + OSP.INS_OVERFLOWS p)).raise Kind.OSP.pages.1 OSP.ev_INS_OVERFLOW
       else s.setOspFifo p (s.ospFifo p ++ [unit.map (·.toNat)]))) := by
  rw [exec_ospInsertUnit, execOspInsertUnit, act_past_guard hr (by simp [active, ins])]

/-! ### Endpoint records (R310, R510) -/

/-- The channels in band OVER on which the two records of an endpoint lie. -/
def State.epWaits (s : State) (e : Nat) : List Nat :=
  ([false, true].map (fun d =>
    (s.physPage (s.tableWord (s.epRecord e (pmBin d (if d then pmDay s.pmTime else pmInterval s.pmTime)))).1).1)).filter
      (fun c => s.chOver c && !s.chDown c)

/-- Counts on die of an endpoint enter its records, or wait where GDDR7 serves and a channel of theirs is in band OVER. -/
theorem exec_epRecordFlush_of_counts {e : Fin 262144} {lost : Bool} {x : EpCounts} (hr : s.running = true)
    (en : s.flag PMB.page PMB.CTRL_EP_EN = true) (active : s.active Kind.PMB.pages.1 = true)
    (hx : Tab.get (fun _ => {}) s.pmb.eps e.val = x) (counts : x.c.any (· ≠ 0) = true) :
    exec (.epRecordFlush e lost) s = .next (State.settle
      (if s.eccServes && !(s.epWaits e).isEmpty then each (s.epWaits e) (fun c t => t.count (MEM.page c + MEM.DEFERRED)) s
       else
         let t := { s with pmb := { s.pmb with eps := Tab.put (fun _ => {}) s.pmb.eps e.val {} } }
         (t.epBin e x.c false lost).epBin e x.c true lost)) := by
  subst hx
  have nonzero : ¬ (Tab.get (fun _ => {}) s.pmb.eps e.val : EpCounts).c.all (· = 0) = true := by
    simpa using counts
  rw [exec_epRecordFlush, execEpRecordFlush]
  dsimp only
  rw [act_past_guard hr (by simp only [en, active, nonzero, Bool.not_true, Bool.false_eq_true, or_self, not_false_eq_true])]
  rfl

end

/-- Settles O24: the conditions pass the guard of each command and select its branch. -/
theorem overheadPortsAndPmbComplete : Obligations.OverheadPortsAndPmbComplete := by
  intro s hr
  refine ⟨fun n u r active unit => exec_ospExtractUnit_of_unit hr active unit,
    fun n u r active unit => exec_ospExtractUnit_of_unit hr active unit, fun p unit active ins => ?_, fun active => ?_,
    exec_pmbSecondFinal.trans (act_of_running hr), fun e lost en active => ?_⟩
  · have insert {cut} := exec_ospInsertUnit_of_enabled (unit := unit) (cut := cut) hr active ins
    refine ⟨insert, fun room => ?_, fun full => ?_⟩
    · rw [insert, if_neg Bool.false_ne_true, if_neg (Nat.not_le.mpr room)]
    · rw [insert, if_neg Bool.false_ne_true, if_pos full]
  · rw [exec_pmbSecondEnd, execPmbSecondEnd, act_of_running hr, if_neg (by simp [active])]
  · intro x record waits counts
    have flush := exec_epRecordFlush_of_counts (lost := lost) hr en active rfl counts
    refine ⟨fun free => ?_, fun serves wait => ?_⟩
    · have now : ¬ (s.eccServes && !waits.isEmpty) = true := by rcases free with h | h <;> simp [h]
      exact flush.trans (congrArg done (if_neg now))
    · have later : (s.eccServes && !waits.isEmpty) = true := by simp [serves, wait]
      exact flush.trans (congrArg done (if_pos later))

end Sys2Proof.Machine

/-!
GTH and CRY: rows that are a core's write of their registers (10.3 to 10.5, 11.3 to 11.7).
-/
namespace Sys2Proof.Machine

/-! ### Rows that write GTH and CRY (R334, R337, R339 to R343, R364, R367, R375 to R378) -/

/-- The registers of GTH that have a row of their own. -/
def gthRowRegs : List Nat := [GTH.CMD, GTH.PG_CMD, GTH.PG_CFG 0, GTH.PG_CFG 1, GTH.PG_CFG 2, GTH.PG_CFG 3]

theorem key_gth : ∀ off ∈ gthRowRegs, (placeAt (GTH.page + off)).bind Place.key = some (.GTH, 0, Kind.GTH.pages.1, off) := by
  decide +kernel

theorem gthRowRegs_past_header : ∀ off ∈ gthRowRegs, ¬ off < 0x100 := by decide

theorem pgCfg_mem_gthRowRegs : ∀ q : Fin 4, GTH.PG_CFG q ∈ gthRowRegs := by decide

theorem key_cry : ∀ off ∈ [CRY.CMD, CRY.AGREE_CMD], (placeAt (CRY.page + off)).bind Place.key
    = some (.CRY, 0, Kind.CRY.pages.1, off) := by decide +kernel

section
variable {s : State} {v : Nat}

/-- A write of CMD is a command to the gathering that it names (R334, R337). -/
theorem wrGTH_cmd : wrGTH GTH.CMD v s = s.gthCmd (fv v GTH.CMD_GATHERING) (fv v GTH.CMD_ACTION) := by
  rw [wrGTH, if_pos rfl]

/-- A write of PG_CMD is a command to an enabled group (R340 to R343). -/
theorem wrGTH_pgCmd (h : s.flag GTH.page (GTH.PG_CFG_EN (fv v GTH.PG_CMD_GROUP)) = true) :
    wrGTH GTH.PG_CMD v s = ok (s.pgCmd (fv v GTH.PG_CMD_GROUP) (fv v GTH.PG_CMD_CMD)) := by
  rw [wrGTH, if_neg (by decide), if_pos rfl]
  dsimp only
  rw [if_neg (by simp [h])]

/-- A write of PG_CFGq configures group q (R339). -/
theorem wrGTH_pgCfg {q : Fin 4} : wrGTH (GTH.PG_CFG q) v s = s.pgCfgWrite q v := by
  have index : ∀ q : Fin 4, GTH.PG_CFG q ≠ GTH.CMD ∧ GTH.PG_CFG q ≠ GTH.PG_CMD
      ∧ (GTH.PG_CFG 0 ≤ GTH.PG_CFG q ∧ GTH.PG_CFG q ≤ GTH.PG_CFG 3) ∧ (GTH.PG_CFG q - GTH.PG_CFG 0) / 4 = q := by decide
  obtain ⟨not_cmd, not_pgCmd, between, number⟩ := index q
  rw [wrGTH, if_neg not_cmd, if_neg not_pgCmd, if_pos between, number]

end

section
variable {s : State} {c : Fin 8} {off v : Nat} {i : Instr} {f : Nat → State → WOut}

/-- A row that is a core's write of a register of GTH, where the block makes `f` of the word. -/
theorem State.CoreDoes.of_gth (hi : exec i s = hostWrite (.core c) (GTH.page + off) v s) (ho : off ∈ gthRowRegs)
    (hf : wrGTH off (s.written (GTH.page + off) v) (s.reached (.core c))
      = f (s.written (GTH.page + off) v) (s.reached (.core c))) :
    s.CoreDoes c (GTH.page + off) v i f := by
  refine .of_handle hi (key_gth off ho) ?_
  rw [State.handle.eq_def, if_neg (gthRowRegs_past_header off ho), ← hf]

/-- A row that is a core's write of GTH.CMD. -/
theorem State.CoreDoes.of_gthCmd (hi : exec i s = hostWrite (.core c) (GTH.page + GTH.CMD) v s) :
    s.CoreDoes c (GTH.page + GTH.CMD) v i (fun x u => u.gthCmd (fv x GTH.CMD_GATHERING) (fv x GTH.CMD_ACTION)) :=
  .of_gth hi (by decide) wrGTH_cmd

/-- A row that is a core's write of GTH.PG_CMD, where the word names an enabled group. -/
theorem State.CoreDoes.of_pgCmd (hi : exec i s = hostWrite (.core c) (GTH.page + GTH.PG_CMD) v s)
    (en : s.flag GTH.page (GTH.PG_CFG_EN (fv (s.written (GTH.page + GTH.PG_CMD) v) GTH.PG_CMD_GROUP)) = true) :
    s.CoreDoes c (GTH.page + GTH.PG_CMD) v i (fun x u => ok (u.pgCmd (fv x GTH.PG_CMD_GROUP) (fv x GTH.PG_CMD_CMD))) :=
  .of_gth hi (by decide) (wrGTH_pgCmd (s := s.reached (.core c)) en)

/-- A row that is a core's write of CRY.CMD. -/
theorem State.CoreDoes.of_cryCmd (hi : exec i s = hostWrite (.core c) (CRY.page + CRY.CMD) v s) :
    s.CoreDoes c (CRY.page + CRY.CMD) v i (wrCRY CRY.CMD) :=
  .of_handle hi (key_cry _ (by decide)) rfl

/-- A row that is a core's write of CRY.AGREE_CMD. -/
theorem State.CoreDoes.of_agreeCmd (hi : exec i s = hostWrite (.core c) (CRY.page + CRY.AGREE_CMD) v s) :
    s.CoreDoes c (CRY.page + CRY.AGREE_CMD) v i (fun x u => u.agreeCmd x) :=
  .of_handle hi (key_cry _ (by decide)) rfl

end

/-- Settles O40: each row is a core's write, and GTH or CRY takes the word as stated. -/
theorem hostGatheringRowsComplete : Obligations.HostGatheringRowsComplete := by
  intro s
  refine ⟨fun c g => ?_, fun c g => ?_, fun c g => ?_, fun c g => ?_, fun c g => ?_, fun c g => ?_, fun c q v => ?_,
    fun c q en => ?_, fun c q en => ?_, fun c q en => ?_, fun c q en => ?_, fun c g => ?_, fun c g => ?_, fun c => ?_,
    fun c g => ?_, fun c => ?_⟩
  · exact .of_gthCmd (exec_gthRecollate _ _)
  · exact .of_gthCmd (exec_selClear _ _)
  · exact .of_gthCmd (exec_selManualA _ _)
  · exact .of_gthCmd (exec_selManualB _ _)
  · exact .of_gthCmd (exec_selForceA _ _)
  · exact .of_gthCmd (exec_selForceB _ _)
  · exact .of_gth (exec_pgCfgWrite _ _ _) (pgCfg_mem_gthRowRegs q) wrGTH_pgCfg
  · exact .of_pgCmd (exec_pgClear _ _) en
  · exact .of_pgCmd (exec_pgLockout _ _) en
  · exact .of_pgCmd (exec_pgForce _ _) en
  · exact .of_pgCmd (exec_pgManual _ _) en
  · exact .of_cryCmd (exec_switchTx _ _)
  · exact .of_cryCmd (exec_rxResync _ _)
  · exact .of_cryCmd (exec_crySelfTest _)
  · exact .of_agreeCmd (exec_agreeStart _ _)
  · exact .of_agreeCmd (exec_agreeAbort _)

end Sys2Proof.Machine

/-!
GTH: transmitted and received units, markers, protection groups and the output of a gathering (10.2 to 10.6).
-/
namespace Sys2Proof.Machine

/-! ### A received marker (R328, R329) -/

/-- The unit that a received folio gives a part, under GSN `k`; `far` where the other end does not carry the slots. -/
def FolioIn.unit (d : FolioIn) (far : Bool) (k : Nat) : PUnit :=
  { gsn := k, t := d.at_, ao := d.ones || far, sd := d.sd, data := d.bytes, phase := if far then none else d.phase,
    tag := if d.own then some d.tag else none }

section
variable {s t : State} {g p : Nat}

/-- Which carriers a gathering has slots on is a matter of the registers alone. -/
theorem State.collates_of_regs (h : t.regs = s.regs) : t.collates g = s.collates g := by
  simp only [State.collates, State.onCarrier, State.slotsOn, State.nat, State.word, h]

/-- A part takes its folio from FRM: no register changes. -/
theorem State.partIn_regs {d : FolioIn} (h : s.partIn g p = some (d, t)) : t.regs = s.regs := by
  unfold State.partIn at h
  dsimp only at h
  split at h
  · cases h; rfl
  · split at h
    · split at h
      · cases h
      · cases h; rfl
    · split at h
      · cases h
      · cases h; rfl

@[simp] theorem State.tagIn_regs {gsn : Nat} {tag : Option Nat} : (s.tagIn g p gsn tag).regs = s.regs := by
  unfold State.tagIn
  dsimp only
  split
  · rfl
  · rfl

end

section
variable {s t v : State} {g : Fin 64} {p : Fin 2} {d : FolioIn} {far : Bool} (hr : s.running = true) (en : s.gthEn g = true)
  (arrives : s.partIn g p = some (d, t)) (hfar : t.notCarried g p = far)
  (hv : (if d.own then t else t.tagIn g p ((t.gth g).part p).last (if far then none else d.tag)) = v)
include hr en arrives hfar hv

omit hr en hfar in
/-- Taking a folio and its tag leaves a gathering collating or not. -/
theorem State.collates_of_tagged : v.collates g = s.collates g := by
  refine State.collates_of_regs (Eq.trans ?_ (State.partIn_regs arrives))
  subst hv
  split
  · rfl
  · exact State.tagIn_regs

/-- A folio of a gathering on one carrier: its unit goes to the part, under the marker's GSN or the next one. -/
theorem exec_gatheringMarkerRx_single (single : s.collates g = false) (first : p = 0) :
    exec (.gatheringMarkerRx g p) s = .next (State.settle
      (let y := (v.gth g).part p
       let k := (if far then none else d.marker).getD ((y.last + 1) % 2 ^ 32)
       (v.setGth g ((v.gth g).setPart p { y with
         st := if v.singleLocked g then .in_ else .acquire, last := k, units := y.units ++ [d.unit far k] })).showPart g)) := by
  have alone : v.collates g = false := (State.collates_of_tagged arrives hv).trans single
  rw [exec_gatheringMarkerRx, execGatheringMarkerRx, act_past_guard hr (by simp [en, first]), arrives]
  dsimp only
  rw [hfar, hv, if_pos (by simp [alone])]
  rfl

/-- A folio of a collating gathering whose part stays in ACQUIRE. -/
theorem exec_gatheringMarkerRx_acquire {y' : GPart} (both : s.collates g = true)
    (idle : ((v.gth g).part p).st = .acquire ∨ ((v.gth g).part p).st = .off)
    (hy : ((v.gth g).part p).acquire (v.get GTH.page GTH.LOSS_CFG_LOCK_N) (if far then none else d.marker) (d.unit far) = y')
    (stays : y'.st = .acquire) :
    exec (.gatheringMarkerRx g p) s = .next (State.settle ((v.setGth g ((v.gth g).setPart p y')).showPart g)) := by
  have collates : v.collates g = true := (State.collates_of_tagged arrives hv).trans both
  have held : (decide (((v.gth g).part p).st = .in_) && decide (y'.st = .acquire)) = false := by
    rcases idle with h | h <;> simp [h]
  unfold FolioIn.unit at hy
  rw [exec_gatheringMarkerRx, execGatheringMarkerRx, act_past_guard hr (by simp [en, both]), arrives]
  dsimp only
  rw [hfar, hv, if_neg (by simp [collates]), if_pos idle, hy, held, if_pos stays]
  rfl

end

/-! ### The other commands (R325, R341, R343, R345, R346) -/

section
variable {s : State} {g : Fin 64}

/-- Of the protection gathering of a group: whether the group's working units are bridged into it (R342). -/
def State.bridging (s : State) (g : Nat) : Option Bool :=
  match s.groupOf g with
  | some (q, true) => some (s.flag GTH.page (GTH.PG_STATUS_BR q))
  | _ => none

/-- An enabled gathering makes a unit, all-ones, of zeros or with its client's bytes: it goes to CRY under the next GSN. -/
theorem exec_gthTxUnit_of_room {room : Nat} {t u : State} {bytes : List Nat} {ao : Bool} {prot : Option Bool}
    (hr : s.running = true) (en : s.gthEn g = true) (on : s.blk Kind.GTH.pages.1 ≠ bOFF)
    (configured : s.blk Kind.GTH.pages.1 ≠ bCONFIG) (hroom : s.unitRoom g = some (room, t))
    (hao : (!s.gthRuns || (s.transparent g && s.clientFailed g)) = ao) (hprot : s.bridging g = prot)
    (body : (if ao then some (List.replicate room 0xFF, t) else if prot.isSome then some (List.replicate room 0, t)
      else t.unitBody g room) = some (bytes, u)) :
    exec (.gthTxUnit g) s = .next (State.settle
      (let n := (u.gth g).gsnNext
       let v := u.setGth g { u.gth g with
         gsnNext := (n + 1) % 2 ^ 32
         txUnits := (u.gth g).txUnits ++ [{ gsn := n, ones := ao, bridged := prot = some true, bytes := bytes }] }
       (v.set (GTHW.STAT g) GTHW.STAT_GSN_TX n).send "unit"
         [(g.val : Int), (n : Int), (b2n ao : Nat), (b2n (prot = some false) : Nat)])) := by
  subst hao hprot
  rw [exec_gthTxUnit, execGthTxUnit, act_past_guard hr (by simp [en, on, configured]), hroom]
  dsimp only
  split
  next none_made => cases none_made.symm.trans body
  next made =>
    cases made.symm.trans body
    rfl

/-- The oldest unit of a gathering on one carrier that is in no group goes out, as failed where it arrived so. -/
theorem exec_unitOutput_single {v : PUnit} {r : List PUnit} (hr : s.running = true) (en : s.gthEn g = true)
    (single : s.collates g = false) (waits : (s.gth g).p0.units = v :: r)
    (alone : (s.setGth g { s.gth g with p0 := { (s.gth g).p0 with units := r } }).groupOf g = none) :
    exec (.unitOutput g) s = .next (State.settle
      ((s.setGth g { s.gth g with p0 := { (s.gth g).p0 with units := r } }).hand g v.gsn
        (!s.gthRuns || v.ao || (s.gth g).p0.st != .in_) false g [some v])) := by
  rw [exec_unitOutput, execUnitOutput]
  dsimp only
  rw [act_past_guard hr (by simp [en]), if_neg (by simp [single]), waits]
  dsimp only
  rw [alone]

end

/-- Settles O25: the conditions pass the guard of each command and select its branch. -/
theorem gatheringRowsComplete : Obligations.GatheringRowsComplete := by
  intro s hr
  refine ⟨fun g room t bytes u en on configured hroom => ?_, fun g p d t en arrives => ⟨?_, fun both idle => ?_⟩,
    fun g p en takes nothing => ?_, fun q en => ⟨fun lasts => ?_, fun lasts => ?_⟩, fun q ended => ?_, fun q waits => ?_,
    fun g v r en single waits alone => ?_⟩
  · exact exec_gthTxUnit_of_room hr en on configured hroom rfl rfl
  · exact exec_gatheringMarkerRx_single hr en arrives rfl rfl
  · exact exec_gatheringMarkerRx_acquire hr en arrives rfl rfl both idle rfl
  · have passes : ¬ ((!s.gthEn g) = true ∨ (!s.collates g && decide (p.val = 1)) = true) := by
      rcases takes with h | h <;> simp [en, h]
    rw [exec_gatheringMarkerRx, execGatheringMarkerRx, act_past_guard hr passes, nothing]
  · rw [exec_pgHoldOffExpiry, execPgHoldOffExpiry]
    dsimp only
    rw [act_past_guard hr (by simp [en]), if_neg Bool.false_ne_true, if_neg (by simp [lasts])]
  · rw [exec_pgHoldOffExpiry, execPgHoldOffExpiry]
    dsimp only
    rw [act_past_guard hr (by simp [en]), if_pos rfl, if_neg (by simp [lasts])]
  · rw [exec_pgWtrExpiry, execPgWtrExpiry, act_past_guard hr (by simp [ended])]
  · rw [exec_pgFop, execPgFop, act_of_running hr, waits, State.raiseIf, if_pos rfl]
  · exact exec_unitOutput_single hr en single waits alone

end Sys2Proof.Machine

/-!
CRY: key loads, encrypted and verified units, the self-test and key agreement over MC1 (chapter 11).
-/
namespace Sys2Proof.Machine

section
variable {s : State} {g : Fin 64} (hr : s.running = true)
include hr

/-! ### Key loads (R361) -/

/-- The fetch of a next key that a context is loading ends the load. -/
theorem exec_keyLoadDone_of_loading {tx served : Bool} {k : KeyRef}
    (loading : (if tx then (s.ctx g).txLoad else (s.ctx g).rxLoad) = some k) :
    exec (.keyLoadDone g tx served) s = .next (s.endLoad g tx served k).settle := by
  rw [exec_keyLoadDone, execKeyLoadDone, act_of_running hr]
  dsimp only
  rw [loading]

/-! ### Units for the line (R327, R339, R342, R352 to R359) -/

section
variable {t : State} {u : TxUnit} {r : List TxUnit} (waits : (s.gth g).txUnits = u :: r)
  (ht : s.setGth g { s.gth g with txUnits := r } = t)
include waits ht

/-- A unit of a protection gathering goes out as the group bridges it, as all-ones while CRY is idle. -/
theorem exec_cryTxUnit_protection {q : Nat} (protects : t.groupOf g = some (q, true)) :
    exec (.cryTxUnit g) s = .next
      (let ao := u.ones || t.cryIdle
       let l := t.protUnit (t.get GTH.page (GTH.PG_CFG_W q)) { u with ones := ao }
       State.settle ((t.lineOut g (if t.cryIdle then { l with bytes := List.replicate u.bytes.length 0xFF } else l)).send "cipher"
         [(g.val : Int), (u.gsn : Int), (b2n ao : Nat), 0])) := by
  rw [exec_cryTxUnit, execCryTxUnit, act_of_running hr, waits]
  dsimp only
  rw [ht, protects]

section
variable (alone : ∀ q, t.groupOf g ≠ some (q, true))
include alone

/-- With suite NONE the bytes of a unit pass CRY unchanged, with a tag of zeros. -/
theorem exec_cryTxUnit_plain (plain : t.suite g = 0) :
    exec (.cryTxUnit g) s = .next
      (let bad := u.ones || t.cryIdle
       State.settle ((t.lineOut g { gsn := u.gsn, phase := false, tag := 0
                                    bytes := if bad then List.replicate u.bytes.length 0xFF else u.bytes }).send "cipher"
         [(g.val : Int), (u.gsn : Int), (b2n bad : Nat), 0])) := by
  rw [exec_cryTxUnit, execCryTxUnit, act_of_running hr, waits]
  dsimp only
  rw [ht]
  split
  next q protects => exact absurd protects (alone q)
  next => rw [if_pos plain]

/-- Under a current key that no switch replaces, with a counter left and CRY passing the gathering, a unit leaves as ciphertext. -/
theorem exec_cryTxUnit_encrypted {v w : State} (hv : (t.suiteVersion g).ctrWarn g u.gsn = v)
    (hw : v.set (CRYW.CTX g) CRYW.CTX_TX_CTR (v.txCounter g u.gsn) = w) (ciphers : t.suite g ≠ 0)
    (stays : v.txMaySwitch g u.gsn = false) (filled : u.ones = false) (keyed : (v.ctx g).txCur.isSome = true)
    (fresh : (v.ctx g).exhausted = false) (room : v.txCounter g u.gsn ≠ 2 ^ 32 - 1)
    (passes : w.cryFails g (v.ctx g).refetchTx = false) :
    exec (.cryTxUnit g) s = .next
      (State.settle ((w.nextFree.lineOut g { gsn := u.gsn, phase := w.flag (CRYW.CTX g) CRYW.CTX_TX_PHASE
                                             tag := w.freeVal % 2 ^ 128
                                             bytes := w.cipherBytes Config.cipherByte u.bytes.length }).send "cipher"
         [(g.val : Int), (u.gsn : Int), 0, (v.txCounter g u.gsn : Int)])) := by
  have keeps : (if v.txMaySwitch g u.gsn then v.txSwitch g u.gsn else v) = v := if_neg (by simp [stays])
  have counts : ((v.ctx g).txCur.isSome && ((v.ctx g).exhausted || decide (v.txCounter g u.gsn = 2 ^ 32 - 1))) = false := by
    rw [fresh, decide_eq_false room, Bool.or_self, Bool.and_false]
  have good : (u.ones || false || (v.ctx g).txCur.isNone || w.cryFails g (v.ctx g).refetchTx) = false := by
    simp [filled, passes, keyed]
  rw [exec_cryTxUnit, execCryTxUnit, act_of_running hr, waits]
  dsimp only
  rw [ht]
  split
  next q protects => exact absurd protects (alone q)
  next =>
    rw [if_neg ciphers, hv, keeps, counts, if_neg Bool.false_ne_true, if_pos keyed, hw, good]
    rfl

end

end

/-! ### Units from the line (R352, R354, R368 to R374) -/

section
variable {okSel okOther : Bool} {left len : Nat} {t : State} {bytes : List Nat} {h : Handed} {r : List Handed}
  (waits : (s.gth g).handed = h :: r) (hb : h.bytes (s.onePlusOne g) = bytes)
  (hl : (if h.failed then s.unitBytes g else bytes.length) = len)
  (ht : (s.setGth g { s.gth g with handed := r }).suiteVersion g = t)
include waits hb hl ht

/-- With suite NONE a unit passes CRY unverified, as all-ones where GTH failed it. -/
theorem exec_cryRxUnit_plain (before : s.suite g = 0) (plain : t.suite g = 0) (passes : (t.cryIdle && !h.failed) = false) :
    exec (.cryRxUnit g okSel okOther left) s = .next
      (State.settle (((t.setGth g { t.gth g with cryFailed := false }).toEgress g (!h.failed)
        (if h.failed then List.replicate len 0xFF else bytes)).send "plain"
        [(g.val : Int), (h.gsn : Int), (b2n (!h.failed) : Nat)])) := by
  rw [exec_cryRxUnit, execCryRxUnit, act_of_running hr, waits]
  dsimp only
  rw [if_neg (by simp [before]), hb, hl, ht, if_neg (by simpa [plain] using passes), if_pos plain]

/-- With a cipher suite, a unit that GTH delivers good and whose tag has come is verified; the other copy may be released in HOLD
only. -/
theorem exec_cryRxUnit_verified (ciphers : t.suite g ≠ 0) (good : h.failed = false) (tagged : h.tagDue = false) :
    exec (.cryRxUnit g okSel okOther left) s = .next
      (State.settle ((t.gradeCopies g h.sel okSel (h.other && okOther)).verify g h.gsn len left h.agree (h.phases.headD false)
        (okSel || (h.other && okOther))
        (okSel || (!t.flag (CRYW.KEY g) CRYW.KEY_RELEASE && (h.other && okOther))))) := by
  rw [exec_cryRxUnit, execCryRxUnit, act_of_running hr, waits]
  dsimp only
  rw [if_neg (by simp [tagged]), hb, hl, ht, if_neg (by simp [ciphers]), if_neg ciphers, if_neg (by simp [good])]

end

/-! ### The self-test (R378) -/

/-- A self-test that runs under leave ends with its result, which a pass keeps for the configuration check. -/
theorem exec_crySelfTestDone_of_granted {pass : Bool} (runs : s.flag CRY.page CRY.SELFTEST_RUNNING = true)
    (leave : s.hasLeave 7 0 = true) :
    exec (.crySelfTestDone pass) s = .next
      (let t := (s.endLeave 7 0).setB CRY.page CRY.SELFTEST_RUNNING false
       let t := t.set CRY.page CRY.SELFTEST_RESULT (if pass then 1 else 2)
       let t := { t with cryPassed := t.cryPassed || pass }
       ((t.raise Kind.CRY.pages.1 CRY.ev_SELFTEST_DONE).raiseIf (!pass) Kind.CRY.pages.1 CRY.ev_SELFTEST_FAIL).settle) := by
  rw [exec_crySelfTestDone, execCrySelfTestDone, act_past_guard hr (by simp [runs, leave])]

/-! ### Key agreement (R375 to R377) -/

/-- An A1 with a good signature, from a listed peer and for a gathering that answers, makes this part the responder: A2 leaves. -/
theorem exec_agreeA1Rx_answered {n : Fin 2} {pos : Fin 32} {identity : BitVec 64} {g : Nat} (core : s.mc1Core n = true)
    (free : s.agree.on = false)
    (found : s.gatherings.find? (fun g => s.agreeCarrier g = n.val && s.gthPos g n = some pos.val) = some g)
    (answers : s.flag (CRYW.KEY g) CRYW.KEY_AGREE_RESP = true) (unlocked : s.flag CRY.page CRY.GUARD_STATE_LOCK = false)
    (version : s.touchesV1 g = false) (random : (s.agreeBegin g true).flag SEC.page SEC.RNG_STATUS_FAILED = false)
    (listed : (s.agreeBegin g true).peerListed identity.toNat = true) :
    exec (.agreeA1Rx n pos identity true) s = .next ((s.agreeBegin g true).agreeSend n 2 pos).settle := by
  rw [exec_agreeA1Rx, execAgreeA1Rx, act_past_guard hr (by simp [core]), if_neg (by simp [free]), found]
  dsimp only
  rw [if_neg (by simp [answers, unlocked, version]), if_neg (by simp [random]), if_neg (by decide), if_neg (by simp [listed])]

/-- An A2 that verifies lets the initiator send A3 and ask for leave to store the keys. -/
theorem exec_agreeA2Rx_verified {identity : BitVec 64} (on : s.agree.on = true) (initiator : s.agree.responder = false)
    (waits : s.agree.storing = 0) (listed : s.peerListed identity.toNat = true) :
    exec (.agreeA2Rx identity true true) s = .next
      (State.agreeStore (s.agreeSend (s.agreeCarrier s.agree.gathering) 3 (s.agreePos s.agree.gathering))).settle := by
  rw [exec_agreeA2Rx, execAgreeA2Rx, act_past_guard hr (by simp [on, initiator, waits]), if_neg (by decide),
    if_neg (by simp [listed]), if_neg (by decide)]

/-- An A3 lets the responder store the keys where its confirmation is good, and ends the exchange where it is bad. -/
theorem exec_agreeA3Rx_of_responder {confOk : Bool} (on : s.agree.on = true) (responder : s.agree.responder = true)
    (waits : s.agree.storing = 0) :
    exec (.agreeA3Rx confOk) s = .next (if confOk then s.agreeStore else s.agreeFail 3).settle := by
  rw [exec_agreeA3Rx, execAgreeA3Rx, act_past_guard hr (by simp [on, responder, waits])]
  cases confOk with
  | false => rfl
  | true => rfl

/-- An exchange in progress times out 50 ms after its start, and not before. -/
theorem exec_agreeTimeout_of_on (on : s.agree.on = true) :
    exec .agreeTimeout s = .next (if s.agree.from_ + 50 * nsMs ≤ s.now then s.agreeFail 1 else s).settle := by
  rw [exec_agreeTimeout, execAgreeTimeout, act_of_running hr]
  simp only [on, Bool.true_and, decide_eq_true_eq]

/-- The keys of an exchange stand in their slots: they are loaded as next keys under salts of their own, and the exchange is done. -/
theorem exec_agreeKeysStored_of_stored (on : s.agree.on = true) (stored : s.agree.stored = true) :
    exec .agreeKeysStored s = .next
      (let g := s.agree.gathering
       let k := CRYW.KEY g
       let t := { s.nextFree.nextFree with agree := {} }.endLeave 6 1
       let t := t.startLoad g true ⟨t.get k CRYW.KEY_AGREE_TX_SLOT, s.freeVal % 2 ^ 64⟩
       let t := t.startLoad g false ⟨t.get k CRYW.KEY_AGREE_RX_SLOT, s.nextFree.freeVal % 2 ^ 64⟩
       ((t.set CRY.page CRY.AGREE_STATUS_STATE 3).raise Kind.CRY.pages.1 CRY.ev_AGREE_DONE).settle) := by
  rw [exec_agreeKeysStored, execAgreeKeysStored, act_past_guard hr (by simp [on, stored])]

end

/-- Settles O26: the conditions pass the guard of each command and select its branch. -/
theorem keyAndAgreementRowsComplete : Obligations.KeyAndAgreementRowsComplete := by
  intro s hr
  refine ⟨fun g served k => ⟨exec_keyLoadDone_of_loading hr (tx := true), exec_keyLoadDone_of_loading hr (tx := false)⟩,
    fun g u r waits => ⟨fun q => exec_cryTxUnit_protection hr waits rfl, exec_cryTxUnit_plain hr waits rfl,
      fun alone ciphers stays filled keyed fresh room passes => ?_⟩,
    fun g okSel okOther left h r waits => ⟨exec_cryRxUnit_plain hr waits rfl rfl rfl, exec_cryRxUnit_verified hr waits rfl rfl rfl⟩,
    fun pass => exec_crySelfTestDone_of_granted hr,
    fun n pos identity g core free found => exec_agreeA1Rx_answered hr core free found,
    fun identity => exec_agreeA2Rx_verified hr,
    fun on responder waits => ⟨?_, ?_⟩, fun on => ⟨?_, fun late => ?_, fun early => ?_⟩, exec_agreeKeysStored_of_stored hr⟩
  · exact exec_cryTxUnit_encrypted hr waits rfl alone rfl rfl ciphers stays filled keyed fresh room passes
  · exact exec_agreeA3Rx_of_responder hr on responder waits
  · exact exec_agreeA3Rx_of_responder hr on responder waits
  · rw [exec_agreeAbortRx, execAgreeAbortRx, act_under_guard hr on]
  · rw [exec_agreeTimeout_of_on hr on, if_pos late]
  · rw [exec_agreeTimeout_of_on hr on, if_neg (Nat.not_le.mpr early)]

end Sys2Proof.Machine

/-!
Every command: what its answer has kept (chapter 1, 3.9), and the state at reset (2.1).
-/
namespace Sys2Proof.Machine

/-- Every row of the table evolves the state. -/
theorem Evolves.exec {s0 s : State} (c : Instr) (ev : Evolves s0 s) : Keeps s0 (exec c s) := by
  cases c with
  | deviceResetRelease => exact ev.execDeviceResetRelease
  | deviceResetEntry => exact ev.execDeviceResetEntry
  | strapsSampled => exact ev.execStrapsSampled
  | rootPllLocked => exact ev.execRootPllLocked
  | rootUnlock => exact ev.execRootUnlock
  | nvLoaded => exact ev.execNvLoaded
  | sramDone => exact ev.execSramDone
  | gddr7TrainingDone => exact ev.execGddr7TrainingDone
  | loaderOk => exact ev.execLoaderOk
  | rapUp => exact ev.execRapUp
  | clientSerdesLocked => exact ev.execClientSerdesLocked
  | fwVerify => exact ev.execFwVerify
  | ready => exact ev.execReady
  | warmReset => exact ev.execWarmReset
  | warmResetStart => exact ev.execWarmResetStart
  | carrierUp => exact ev.execCarrierUp
  | carrierDown => exact ev.execCarrierDown
  | carrierUpComplete => exact ev.execCarrierUpComplete
  | fabricOpen => exact ev.execFabricOpen
  | blockEnable => exact ev.execBlockEnable
  | blockDisable => exact ev.execBlockDisable
  | blockSoftReset => exact ev.execBlockSoftReset
  | softResetComplete => exact ev.execSoftResetComplete
  | stateReqActive => exact ev.execStateReqActive
  | stateReqDrain => exact ev.execStateReqDrain
  | stateReqConfig => exact ev.execStateReqConfig
  | drainEnd => exact ev.execDrainEnd
  | registerWrite => exact ev.execRegisterWrite
  | rapInvalidFrame => exact ev.execRapInvalidFrame
  | hello => exact ev.execHello
  | sessionInit => exact ev.execSessionInit
  | sessionConfirm => exact ev.execSessionConfirm
  | sessionClose => exact ev.execSessionClose
  | nop => exact ev.execNop
  | read => exact ev.execRead
  | write => exact ev.execWrite
  | modify => exact ev.execModify
  | bulkWrite => exact ev.execBulkWrite
  | bulkRead => exact ev.execBulkRead
  | fill => exact ev.execFill
  | fillComplete => exact ev.execFillComplete
  | imagePush => exact ev.execImagePush
  | imageCommit => exact ev.execImageCommit
  | imageVerified => exact ev.execImageVerified
  | evtSubscribe => exact ev.execEvtSubscribe
  | evtAck => exact ev.execEvtAck
  | sessionIdleTimeout => exact ev.execSessionIdleTimeout
  | responseRetentionExpiry => exact ev.execResponseRetentionExpiry
  | neighborSolicitation => exact ev.execNeighborSolicitation
  | icmpv6Echo => exact ev.execIcmpv6Echo
  | encapModeWrite => exact ev.execEncapModeWrite
  | mgtLinkDown => exact ev.execMgtLinkDown
  | mgtLinkUp => exact ev.execMgtLinkUp
  | linePllLocked => exact ev.execLinePllLocked
  | linePllUnlock => exact ev.execLinePllUnlock
  | sigOkChange => exact ev.execSigOkChange
  | calPeriodEnd => exact ev.execCalPeriodEnd
  | calGutterCommit => exact ev.execCalGutterCommit
  | spareSwapCommit => exact ev.execSpareSwapCommit
  | sparePrecalTimeout => exact ev.execSparePrecalTimeout
  | calFull => exact ev.execCalFull
  | fullCalDone => exact ev.execFullCalDone
  | calSwap => exact ev.execCalSwap
  | calAbortSpare => exact ev.execCalAbortSpare
  | calTargetWrite => exact ev.execCalTargetWrite
  | d2dLaneFail => exact ev.execD2dLaneFail
  | d2dLaneExchange => exact ev.execD2dLaneExchange
  | rxLosDeclare => exact ev.execRxLosDeclare
  | rxLosClear => exact ev.execRxLosClear
  | waitSignalExit => exact ev.execWaitSignalExit
  | cdTrial => exact ev.execCdTrial
  | freqAcqEstimate => exact ev.execFreqAcqEstimate
  | freqAcqTimeout => exact ev.execFreqAcqTimeout
  | eqBlockUpdate => exact ev.execEqBlockUpdate
  | eqBlindTimeout => exact ev.execEqBlindTimeout
  | rxGutterCorrelate => exact ev.execRxGutterCorrelate
  | gutterSearchTimeout => exact ev.execGutterSearchTimeout
  | acqTrainTimeout => exact ev.execAcqTrainTimeout
  | freqCaptureLoss => exact ev.execFreqCaptureLoss
  | acqRestart => exact ev.execAcqRestart
  | rxdSnap => exact ev.execRxdSnap
  | cdMemClear => exact ev.execCdMemClear
  | fbZero => exact ev.execFbZero
  | laserFbUpdate => exact ev.execLaserFbUpdate
  | fbResponseCheck => exact ev.execFbResponseCheck
  | nlcRequest => exact ev.execNlcRequest
  | nlcStopRequest => exact ev.execNlcStopRequest
  | nlcGutterStart => exact ev.execNlcGutterStart
  | nlcLeaveEnd => exact ev.execNlcLeaveEnd
  | measPeriodEnd => exact ev.execMeasPeriodEnd
  | sopBoostStart => exact ev.execSopBoostStart
  | sopBoostEnd => exact ev.execSopBoostEnd
  | phaseJump => exact ev.execPhaseJump
  | deskewStep => exact ev.execDeskewStep
  | cdFilterMove => exact ev.execCdFilterMove
  | sliceFail => exact ev.execSliceFail
  | sliceHandover => exact ev.execSliceHandover
  | sliceShadowError => exact ev.execSliceShadowError
  | txFolioMap => exact ev.execTxFolioMap
  | unmuteStart => exact ev.execUnmuteStart
  | laserReadyTimeout => exact ev.execLaserReadyTimeout
  | outputRampDone => exact ev.execOutputRampDone
  | txMuteWrite => exact ev.execTxMuteWrite
  | optFaultChange => exact ev.execOptFaultChange
  | optFaultHoldoffExpiry => exact ev.execOptFaultHoldoffExpiry
  | faultEnWrite => exact ev.execFaultEnWrite
  | maskCheck => exact ev.execMaskCheck
  | maskCheckDone => exact ev.execMaskCheckDone
  | maskApply => exact ev.execMaskApply
  | maskBankExchange => exact ev.execMaskBankExchange
  | maskLiveMeasure => exact ev.execMaskLiveMeasure
  | cdPreTargetWrite => exact ev.execCdPreTargetWrite
  | cdPreMove => exact ev.execCdPreMove
  | txSkewStep => exact ev.execTxSkewStep
  | clipCheck => exact ev.execClipCheck
  | ocpSpiTx => exact ev.execOcpSpiTx
  | ocpSpiTransferDone => exact ev.execOcpSpiTransferDone
  | schedCheck => exact ev.execSchedCheck
  | schedApply => exact ev.execSchedApply
  | schedSwitch => exact ev.execSchedSwitch
  | burstMapFill => exact ev.execBurstMapFill
  | burstMapDecode => exact ev.execBurstMapDecode
  | quietWindowOpen => exact ev.execQuietWindowOpen
  | joinDecision => exact ev.execJoinDecision
  | leafListedWrite => exact ev.execLeafListedWrite
  | leafDeregister => exact ev.execLeafDeregister
  | upOwnerWrite => exact ev.execUpOwnerWrite
  | leafJoinStart => exact ev.execLeafJoinStart
  | leafReplyTimeout => exact ev.execLeafReplyTimeout
  | leafFirstBurst => exact ev.execLeafFirstBurst
  | leafHoldEntry => exact ev.execLeafHoldEntry
  | leafHoldTimeout => exact ev.execLeafHoldTimeout
  | burstStateLoad => exact ev.execBurstStateLoad
  | burstDetection => exact ev.execBurstDetection
  | burstSyncLatch => exact ev.execBurstSyncLatch
  | burstNoSync => exact ev.execBurstNoSync
  | burstRampDown => exact ev.execBurstRampDown
  | burstVerdict => exact ev.execBurstVerdict
  | burstWindowMissing => exact ev.execBurstWindowMissing
  | windowLost => exact ev.execWindowLost
  | fecEncode => exact ev.execFecEncode
  | codewordDecode => exact ev.execCodewordDecode
  | bchDecode => exact ev.execBchDecode
  | lateCodeword => exact ev.execLateCodeword
  | engineShadowCheck => exact ev.execEngineShadowCheck
  | engineSpareJoin => exact ev.execEngineSpareJoin
  | imaxWrite => exact ev.execImaxWrite
  | histClear => exact ev.execHistClear
  | folioRx => exact ev.execFolioRx
  | alignRestart => exact ev.execAlignRestart
  | hbSnap => exact ev.execHbSnap
  | folioTx => exact ev.execFolioTx
  | sdSecond => exact ev.execSdSecond
  | burstSpineCheck => exact ev.execBurstSpineCheck
  | ospExtractUnit => exact ev.execOspExtractUnit
  | ospInsertUnit => exact ev.execOspInsertUnit
  | pmbSecondEnd => exact ev.execPmbSecondEnd
  | pmbSecondFinal => exact ev.execPmbSecondFinal
  | epRecordFlush => exact ev.execEpRecordFlush
  | alignOffsetWrite => exact ev.execAlignOffsetWrite
  | gatheringCommit => exact ev.execGatheringCommit
  | gthTxUnit => exact ev.execGthTxUnit
  | gatheringMarkerRx => exact ev.execGatheringMarkerRx
  | unitOutput => exact ev.execUnitOutput
  | gthRecollate => exact ev.execGthRecollate
  | selClear => exact ev.execSelClear
  | selManualA => exact ev.execSelManualA
  | selManualB => exact ev.execSelManualB
  | selForceA => exact ev.execSelForceA
  | selForceB => exact ev.execSelForceB
  | pgCfgWrite => exact ev.execPgCfgWrite
  | pgClear => exact ev.execPgClear
  | pgLockout => exact ev.execPgLockout
  | pgForce => exact ev.execPgForce
  | pgManual => exact ev.execPgManual
  | pgHoldOffExpiry => exact ev.execPgHoldOffExpiry
  | pgWtrExpiry => exact ev.execPgWtrExpiry
  | pgFop => exact ev.execPgFop
  | cryTxUnit => exact ev.execCryTxUnit
  | cryRxUnit => exact ev.execCryRxUnit
  | keyEntryCommit => exact ev.execKeyEntryCommit
  | txKeyLoad => exact ev.execTxKeyLoad
  | rxKeyLoad => exact ev.execRxKeyLoad
  | keyLoadDone => exact ev.execKeyLoadDone
  | switchTx => exact ev.execSwitchTx
  | rxResync => exact ev.execRxResync
  | crySelfTest => exact ev.execCrySelfTest
  | crySelfTestDone => exact ev.execCrySelfTestDone
  | agreeStart => exact ev.execAgreeStart
  | agreeAbort => exact ev.execAgreeAbort
  | agreeA1Rx => exact ev.execAgreeA1Rx
  | agreeA2Rx => exact ev.execAgreeA2Rx
  | agreeA3Rx => exact ev.execAgreeA3Rx
  | agreeAbortRx => exact ev.execAgreeAbortRx
  | agreeTimeout => exact ev.execAgreeTimeout
  | agreeKeysStored => exact ev.execAgreeKeysStored
  | clientLaneStatus => exact ev.execClientLaneStatus
  | laneAdaptDone => exact ev.execLaneAdaptDone
  | portFrameRx => exact ev.execPortFrameRx
  | missLookupDone => exact ev.execMissLookupDone
  | signatureBuildDone => exact ev.execSignatureBuildDone
  | cacheFlush => exact ev.execCacheFlush
  | pcsFaultRx => exact ev.execPcsFaultRx
  | transparentMapUnit => exact ev.execTransparentMapUnit
  | demapUnit => exact ev.execDemapUnit
  | meterCommit => exact ev.execMeterCommit
  | queueEntryCommit => exact ev.execQueueEntryCommit
  | shaperCommit => exact ev.execShaperCommit
  | clearDebt => exact ev.execClearDebt
  | shaperWheelSlot => exact ev.execShaperWheelSlot
  | frameDequeue => exact ev.execFrameDequeue
  | stagingPageWrite => exact ev.execStagingPageWrite
  | egressFifoXoff => exact ev.execEgressFifoXoff
  | egressFifoXon => exact ev.execEgressFifoXon
  | frameReassembly => exact ev.execFrameReassembly
  | fabricTrainStart => exact ev.execFabricTrainStart
  | ctleSweepDone => exact ev.execCtleSweepDone
  | linkTrainTimeout => exact ev.execLinkTrainTimeout
  | backoffExpiry => exact ev.execBackoffExpiry
  | negotiateTimeout => exact ev.execNegotiateTimeout
  | laneFrameRx => exact ev.execLaneFrameRx
  | laneFail => exact ev.execLaneFail
  | laneRestore => exact ev.execLaneRestore
  | ditherTrial => exact ev.execDitherTrial
  | fomRefresh => exact ev.execFomRefresh
  | fblRetrain => exact ev.execFblRetrain
  | cellRx => exact ev.execCellRx
  | helloSend => exact ev.execHelloSend
  | helloCellRx => exact ev.execHelloCellRx
  | neighbourDead => exact ev.execNeighbourDead
  | topoFlood => exact ev.execTopoFlood
  | topoCellRx => exact ev.execTopoCellRx
  | topoAgeOut => exact ev.execTopoAgeOut
  | routeCompute => exact ev.execRouteCompute
  | routeApply => exact ev.execRouteApply
  | routeEntryCommit => exact ev.execRouteEntryCommit
  | reseqGapTimeout => exact ev.execReseqGapTimeout
  | reseqSourceTimeout => exact ev.execReseqSourceTimeout
  | pauseCellRx => exact ev.execPauseCellRx
  | pauseRefresh => exact ev.execPauseRefresh
  | pauseExpiry => exact ev.execPauseExpiry
  | timSecond => exact ev.execTimSecond
  | refActivityChange => exact ev.execRefActivityChange
  | ppsinEdge => exact ev.execPpsinEdge
  | refWtrExpiry => exact ev.execRefWtrExpiry
  | dpllLock => exact ev.execDpllLock
  | dpllLockLost => exact ev.execDpllLockLost
  | dpllModeWrite => exact ev.execDpllModeWrite
  | phaseStep => exact ev.execPhaseStep
  | slewDone => exact ev.execSlewDone
  | lineSteerUpdate => exact ev.execLineSteerUpdate
  | slotCfgWrite => exact ev.execSlotCfgWrite
  | monrefChange => exact ev.execMonrefChange
  | clkoutChange => exact ev.execClkoutChange
  | ppsoutAlign => exact ev.execPpsoutAlign
  | ppsoutEnable => exact ev.execPpsoutEnable
  | ppsPulse => exact ev.execPpsPulse
  | esmcPduRx => exact ev.execEsmcPduRx
  | esmcTimeout => exact ev.execEsmcTimeout
  | esmcPduSend => exact ev.execEsmcPduSend
  | gddr7Read => exact ev.execGddr7Read
  | slowPathDone => exact ev.execSlowPathDone
  | wholePageWrite => exact ev.execWholePageWrite
  | readModifyWrite => exact ev.execReadModifyWrite
  | scrubPage => exact ev.execScrubPage
  | memTempRead => exact ev.execMemTempRead
  | memRetrain => exact ev.execMemRetrain
  | channelDeviceFail => exact ev.execChannelDeviceFail
  | rawWindowWrite => exact ev.execRawWindowWrite
  | leaveRequest => exact ev.execLeaveRequest
  | leaveGrantQueued => exact ev.execLeaveGrantQueued
  | leaveEnd => exact ev.execLeaveEnd
  | leaveOverrun => exact ev.execLeaveOverrun
  | budgetWrite => exact ev.execBudgetWrite
  | standingBaseWrite => exact ev.execStandingBaseWrite
  | govPeriod => exact ev.execGovPeriod
  | avsEval => exact ev.execAvsEval
  | droopTrip => exact ev.execDroopTrip
  | droopShedEnd => exact ev.execDroopShedEnd
  | coreGateWindow => exact ev.execCoreGateWindow
  | thmSample => exact ev.execThmSample
  | scanTimerTick => exact ev.execScanTimerTick
  | scanStart => exact ev.execScanStart
  | tipInTrigger => exact ev.execTipInTrigger
  | hkaEntryDone => exact ev.execHkaEntryDone
  | scanStop => exact ev.execScanStop
  | hkaCal => exact ev.execHkaCal
  | hkaCalDone => exact ev.execHkaCalDone
  | eventFire => exact ev.execEventFire
  | graceExpiry => exact ev.execGraceExpiry
  | quietExpiry => exact ev.execQuietExpiry
  | fltAck => exact ev.execFltAck
  | evtStickyClear => exact ev.execEvtStickyClear
  | evtClassWrite => exact ev.execEvtClassWrite
  | graceMsWrite => exact ev.execGraceMsWrite
  | quietSWrite => exact ev.execQuietSWrite
  | forceAlarmWrite => exact ev.execForceAlarmWrite
  | nvCommitDone => exact ev.execNvCommitDone
  | nvScrubPass => exact ev.execNvScrubPass
  | attestStart => exact ev.execAttestStart
  | attestComplete => exact ev.execAttestComplete
  | authAdd => exact ev.execAuthAdd
  | authRemove => exact ev.execAuthRemove
  | peerAdd => exact ev.execPeerAdd
  | peerRemove => exact ev.execPeerRemove
  | ksLoadKek => exact ev.execKsLoadKek
  | ksImport => exact ev.execKsImport
  | ksClear => exact ev.execKsClear
  | ksOperationDone => exact ev.execKsOperationDone
  | rngFail => exact ev.execRngFail
  | guardTrip => exact ev.execGuardTrip
  | guardPolicyWrite => exact ev.execGuardPolicyWrite
  | guardSelftest => exact ev.execGuardSelftest
  | guardSelftestComplete => exact ev.execGuardSelftestComplete
  | debugLockSet => exact ev.execDebugLockSet
  | debugOpen => exact ev.execDebugOpen
  | frChallenge => exact ev.execFrChallenge
  | frEnter => exact ev.execFrEnter
  | tapInstruction => exact ev.execTapInstruction
  | fwQuiesceDone => exact ev.execFwQuiesceDone
  | fwRunningReport => exact ev.execFwRunningReport
  | fwReplaceTimeout => exact ev.execFwReplaceTimeout
  | coreWatchdog => exact ev.execCoreWatchdog
  | userEnable => exact ev.execUserEnable
  | userDisable => exact ev.execUserDisable
  | userVerifyDone => exact ev.execUserVerifyDone
  | pmuClear => exact ev.execPmuClear
  | freezeAllWrite => exact ev.execFreezeAllWrite
  | pmuSample => exact ev.execPmuSample
  | sweepPeriod => exact ev.execSweepPeriod
  | sweepNow => exact ev.execSweepNow
  | sweepClassDone => exact ev.execSweepClassDone
  | memBist => exact ev.execMemBist
  | memBistDone => exact ev.execMemBistDone
  | repairEntryClear => exact ev.execRepairEntryClear
  | fabricLaneCdrLock => exact ev.execFabricLaneCdrLock
  | dedicatedLossTimeout => exact ev.execDedicatedLossTimeout
  | quadPllUnlock => exact ev.execQuadPllUnlock
  | coreException => exact ev.execCoreException
  | scrubStarved => exact ev.execScrubStarved

/-- What a command answers has evolved from the state it ran on. -/
theorem evolves_of_exec {c : Instr} {s t : State} (h : Machine.exec c s = .next t) : Evolves s t := by
  have keeps := (Evolves.refl s).exec c
  rw [h] at keeps
  exact keeps

/-- The canonical form does not speak of the commands that wait or of the clock. -/
theorem State.Canonical.at_front {s : State} (c : s.Canonical) (now : Nat) (pending : List Instr) :
    ({ s with now := now, pending := pending } : State).Canonical :=
  ⟨c.regs, c.pages, c.osp, c.gath, c.pg, c.cry, c.ports, c.fbl, c.mem, c.sessions, c.requesters⟩

/-- Settles O3: a step is a cycle of the clock or the front command, and each evolves the state that it starts from. -/
theorem everyStepKeepsTheCanonicalForm : Obligations.EveryStepKeepsTheCanonicalForm := by
  intro s t canonical h
  cases hp : s.pending with
  | nil =>
    obtain rfl : s.idle = t := Host.Outcome.next.inj ((step_of_no_command hp).symm.trans h)
    exact (Evolves.clockCycle s).canonical (canonical.at_front _ s.pending)
  | cons c rest =>
    have ran : Machine.exec c { s with pending := rest } = .next t := by rw [← h, step, hp]
    exact (evolves_of_exec ran).canonical (canonical.at_front s.now rest)

/-- Settles O4: the four are what a state keeps as it evolves. -/
theorem commandsKeepQueueTimeAndOutput : Obligations.CommandsKeepQueueTimeAndOutput := by
  intro c s t h
  have ev := evolves_of_exec h
  obtain ⟨sent, out⟩ := ev.out
  exact ⟨ev.pending, ev.now, ⟨sent, out.symm⟩, ev.freeCtr⟩

/-- Settles O1: the step looks at the queue's front. -/
theorem stepRunsFrontCommand : Obligations.StepRunsFrontCommand := fun _ _ => rfl

/-- Settles O56: at reset every table is empty. -/
theorem resetStateIsCanonical : Obligations.ResetStateIsCanonical := ⟨State.Canonical.of_reset, rfl⟩

end Sys2Proof.Machine

/-!
A source of class INFO that fires alone: its sticky bit and EVT_FIRST (19.1, 19.2).
-/
namespace Sys2Proof.Machine

/-! ### Words that an update of register words leaves -/

section
variable {p : Nat → Prop} {s t : State} {a b v : Nat} {f : Fld}

theorem State.RegsOnly.nat (h : s.RegsOnly p t) (ha : ¬ p a) : t.nat a = s.nat a := by
  obtain ⟨r, rfl, words⟩ := h
  exact congrArg BitVec.toNat (words a ha)

theorem State.RegsOnly.get (h : s.RegsOnly p t) (ha : ¬ p (b + f.off)) : t.get b f = s.get b f := by
  rw [State.get, h.nat ha, State.get]

theorem State.RegsOnly.setNat64 (h : s.RegsOnly p t) (ha : p a) (ha4 : p (a + 4)) : s.RegsOnly p (t.setNat64 a v) :=
  (h.setNat ha).setNat ha4

theorem State.get_setNat64_ne (h : b + f.off ≠ a) (h4 : b + f.off ≠ a + 4) : (s.setNat64 a v).get b f = s.get b f := by
  rw [State.get, State.setNat64, State.nat_setNat_ne h4, State.nat_setNat_ne h, State.get]

theorem State.nat64_set_ne (h : a ≠ b + f.off) (h4 : a + 4 ≠ b + f.off) : (s.set b f v).nat64 a = s.nat64 a := by
  rw [State.nat64, State.nat_set_ne h, State.nat_set_ne h4, State.nat64]

/-- A 64-bit register takes the low 64 bits of what is written. -/
theorem State.nat64_setNat64_mod (h : s.Canonical) : (s.setNat64 a v).nat64 a = v % 2 ^ 64 := by
  have low : v % 2 ^ 64 % 2 ^ 32 = v % 2 ^ 32 := Nat.mod_mod_of_dvd v (by decide)
  have high : v % 2 ^ 64 / 2 ^ 32 % 2 ^ 32 = v / 2 ^ 32 % 2 ^ 32 := by omega
  have cut : s.setNat64 a v = s.setNat64 a (v % 2 ^ 64) := by rw [State.setNat64, State.setNat64, low, high]
  rw [cut, State.nat64_setNat64_same h (Nat.mod_lt _ (by decide))]

end

/-! ### The capture (R553) -/

/-- The words of a page's EVT_FIRST and EVT_FIRST_TIME. -/
def firstWord (p a : Nat) : Prop :=
  a = pageBase p + HDR.FIRST_VALID.off ∨ a = pageBase p + HDR.EVT_FIRST_TIME ∨ a = pageBase p + HDR.EVT_FIRST_TIME + 4

section
variable {s : State} {p i j c : Nat}

theorem State.capture_of_valid (h : s.flag (pageBase p) HDR.FIRST_VALID = true) :
    s.capture p i c = s.setB (pageBase p) HDR.FIRST_OVERFLOW true := by
  rw [State.capture]
  dsimp only
  rw [if_pos h]

theorem State.capture_of_free (h : s.flag (pageBase p) HDR.FIRST_VALID = false) :
    s.capture p i c = (((s.set (pageBase p) HDR.FIRST_INDEX i).set (pageBase p) HDR.FIRST_CLASS c).setB (pageBase p)
      HDR.FIRST_VALID true).setNat64 (pageBase p + HDR.EVT_FIRST_TIME) s.dtime := by
  rw [State.capture]
  dsimp only
  rw [if_neg (Bool.eq_false_iff.mp h)]
  rfl

theorem State.capture_regsOnly : s.RegsOnly (firstWord p) (s.capture p i c) := by
  have same := State.RegsOnly.refl (firstWord p) s
  cases h : s.flag (pageBase p) HDR.FIRST_VALID with
  | true =>
    rw [State.capture_of_valid h]
    exact same.set (.inl rfl)
  | false =>
    rw [State.capture_of_free h]
    have first : firstWord p (pageBase p + HDR.FIRST_VALID.off) := .inl rfl
    have index := same.set (f := HDR.FIRST_INDEX) (v := i) first
    have cls := index.set (f := HDR.FIRST_CLASS) (v := c) first
    have valid := cls.set (f := HDR.FIRST_VALID) (v := b2n true) first
    exact valid.setNat64 (.inr (.inl rfl)) (.inr (.inr rfl))

/-- Where EVT_FIRST holds no capture, the source's index and class and DTIME are captured; OVERFLOW stays. -/
theorem State.capture_captures (h : s.Canonical) (free : s.flag (pageBase p) HDR.FIRST_VALID = false) (hi : i < 128) (hc : c < 4) :
    (s.capture p i c).flag (pageBase p) HDR.FIRST_VALID = true ∧ (s.capture p i c).get (pageBase p) HDR.FIRST_INDEX = i ∧
      (s.capture p i c).get (pageBase p) HDR.FIRST_CLASS = c ∧
      (s.capture p i c).flag (pageBase p) HDR.FIRST_OVERFLOW = s.flag (pageBase p) HDR.FIRST_OVERFLOW ∧
      (s.capture p i c).nat64 (pageBase p + HDR.EVT_FIRST_TIME) = s.dtime % 2 ^ 64 := by
  rw [State.capture_of_free free]
  have h1 : (s.set (pageBase p) HDR.FIRST_INDEX i).Canonical := (Evolves.refl s).set.canonical h
  generalize hx : s.set (pageBase p) HDR.FIRST_INDEX i = x at h1
  have h2 : (x.set (pageBase p) HDR.FIRST_CLASS c).Canonical := (Evolves.refl x).set.canonical h1
  generalize hy : x.set (pageBase p) HDR.FIRST_CLASS c = y at h2
  have h3 : (y.setB (pageBase p) HDR.FIRST_VALID true).Canonical := (Evolves.refl y).setB.canonical h2
  have time_apart : ∀ f : Fld, f.off = HDR.EVT_FIRST → ((y.setB (pageBase p) HDR.FIRST_VALID true).setNat64
      (pageBase p + HDR.EVT_FIRST_TIME) s.dtime).get (pageBase p) f = (y.setB (pageBase p) HDR.FIRST_VALID true).get (pageBase p) f :=
    fun f hf => State.get_setNat64_ne (by rw [hf, HDR.EVT_FIRST, HDR.EVT_FIRST_TIME]; omega)
      (by rw [hf, HDR.EVT_FIRST, HDR.EVT_FIRST_TIME]; omega)
  refine ⟨?_, ?_, ?_, ?_, State.nat64_setNat64_mod h3⟩
  · rw [State.flag, time_apart _ rfl]
    exact State.flag_setB_same h2 (by decide) rfl
  · rw [time_apart _ rfl, State.setB, State.get_set_other h2 (by decide) (by decide), ← hy,
      State.get_set_other h1 (by decide) (by decide), ← hx, State.get_set_same h (by decide)]
    exact Nat.mod_eq_of_lt hi
  · rw [time_apart _ rfl, State.setB, State.get_set_other h2 (by decide) (by decide), ← hy, State.get_set_same h1 (by decide)]
    exact Nat.mod_eq_of_lt hc
  · rw [State.flag, time_apart _ rfl, State.setB, State.get_set_other h2 (by decide) (by decide), ← hy,
      State.get_set_other h1 (by decide) (by decide), ← hx, State.get_set_other h (by decide) (by decide), State.flag]

/-- Where EVT_FIRST holds a capture, it stays and OVERFLOW is set. -/
theorem State.capture_overflows (h : s.Canonical) (held : s.flag (pageBase p) HDR.FIRST_VALID = true) :
    (s.capture p i c).flag (pageBase p) HDR.FIRST_VALID = true ∧ (s.capture p i c).flag (pageBase p) HDR.FIRST_OVERFLOW = true ∧
      (s.capture p i c).get (pageBase p) HDR.FIRST_INDEX = s.get (pageBase p) HDR.FIRST_INDEX ∧
      (s.capture p i c).get (pageBase p) HDR.FIRST_CLASS = s.get (pageBase p) HDR.FIRST_CLASS ∧
      (s.capture p i c).nat64 (pageBase p + HDR.EVT_FIRST_TIME) = s.nat64 (pageBase p + HDR.EVT_FIRST_TIME) := by
  rw [State.capture_of_valid held]
  refine ⟨?_, State.flag_setB_same h (by decide) rfl, State.get_set_other h (by decide) (by decide),
    State.get_set_other h (by decide) (by decide), State.nat64_set_ne ?_ ?_⟩
  · rw [State.flag, State.setB, State.get_set_other h (by decide) (by decide)]
    exact held
  · show pageBase p + 0x54 ≠ pageBase p + 0x50
    omega
  · show pageBase p + 0x54 + 4 ≠ pageBase p + 0x50
    omega

/-! ### Firing (R552) -/

theorem State.fire_of_disabled (h : s.flag (pageBase p) (evEnable i) = false) : s.fire p i = s := by
  rw [State.fire, if_pos (by simp [h])]

/-- An enabled source of class INFO sets its sticky bit and is captured. -/
theorem State.fire_of_info (enabled : s.flag (pageBase p) (evEnable i) = true) (info : s.evClass p i = 0) :
    s.fire p i = (s.setB (pageBase p) (evBit i) true).capture p i 0 := by
  rw [State.fire, if_neg (by simp [enabled])]
  dsimp only
  rw [info, if_pos (by simp)]

/-- A command that raises one source in a quiet state ends where the source's fire does, if that raises nothing more. -/
theorem State.settle_raise {t : State} (alone : s.raised = []) (fired : s.fire p i = t) (raised : t.raised = [])
    (acked : t.acked = []) (mode : t.rap.udp = t.flag RAP.page RAP.ENCAP_MODE) : (s.raise p i).settle = t := by
  have raises : s.raise p i = { s with raised := [(p, i)] } := by rw [State.raise, alone, List.nil_append]
  have taken : ({ s with raised := [] } : State) = s := by rw [← alone]
  have rounds : (s.raise p i).settleN 6 = t.settleN 5 := by
    rw [raises, State.settleN]
    dsimp only [sortRaised, insertRaised]
    rw [taken, ← fired]
    rfl
  have quiet : t.settle = t := State.settle_of_quiet raised acked mode
  have ends : t.settleN 5 = t.settleN 6 := by rw [State.settleN, State.settleN, raised]
  rw [State.settle, rounds, ends]
  exact quiet

/-- The word of a sticky bit lies below EVT_FIRST. -/
theorem evBit_off_lt (hi : i < 128) : (evBit i).off < HDR.EVT_FIRST := by
  show 0x10 + 4 * (i / 32) < 0x50
  omega

theorem not_firstWord_evBit (hi : i < 128) : ¬ firstWord p (pageBase p + (evBit i).off) := by
  have below := evBit_off_lt hi
  simp only [firstWord, HDR.FIRST_VALID, HDR.EVT_FIRST_TIME, HDR.EVT_FIRST] at below ⊢
  omega

/-- Two sticky bits of a page lie in different words or at different bits. -/
theorem evBit_apart (h : j ≠ i) : (evBit j).off ≠ (evBit i).off ∨ (evBit i).lo + (evBit i).width ≤ (evBit j).lo ∨
    (evBit j).lo + (evBit j).width ≤ (evBit i).lo := by
  show 0x10 + 4 * (j / 32) ≠ 0x10 + 4 * (i / 32) ∨ i % 32 + 1 ≤ j % 32 ∨ j % 32 + 1 ≤ i % 32
  omega

theorem evBit_fits (i : Nat) : (evBit i).lo + (evBit i).width ≤ 32 := by
  show i % 32 + 1 ≤ 32
  omega

/-- The sticky bits after a capture. -/
theorem State.capture_sticky (hj : j < 128) : (s.capture p i c).sticky p j = s.sticky p j := by
  rw [State.sticky, State.flag, State.capture_regsOnly.get (not_firstWord_evBit hj), State.sticky, State.flag]

/-- A field of EVT_FIRST after a sticky bit's set. -/
theorem State.get_first_setB_evBit {f : Fld} {x : Bool} (hi : i < 128) (hf : f.off = HDR.EVT_FIRST) :
    (s.setB (pageBase p) (evBit i) x).get (pageBase p) f = s.get (pageBase p) f := by
  have below := evBit_off_lt hi
  exact State.get_set_word (by omega)

theorem State.nat64_first_setB_evBit {x : Bool} (hi : i < 128) : (s.setB (pageBase p) (evBit i) x).nat64
    (pageBase p + HDR.EVT_FIRST_TIME) = s.nat64 (pageBase p + HDR.EVT_FIRST_TIME) := by
  have below := evBit_off_lt hi
  rw [HDR.EVT_FIRST] at below
  exact State.nat64_set_ne (by rw [HDR.EVT_FIRST_TIME]; omega) (by rw [HDR.EVT_FIRST_TIME]; omega)

end

/-- RAP.ENCAP lies in no page's header. -/
theorem encap_not_recorded {p i : Nat} (hi : i < 128) :
    ¬ (RAP.page + RAP.ENCAP_MODE.off = pageBase p + (evBit i).off ∨ firstWord p (RAP.page + RAP.ENCAP_MODE.off)) := by
  have below := evBit_off_lt hi
  simp only [firstWord, pageBase, RAP.page, RAP.ENCAP_MODE, HDR.FIRST_VALID, HDR.EVT_FIRST_TIME, HDR.EVT_FIRST] at below ⊢
  omega

/-- Settles O58: the fire of the source changes the words of its sticky bit and of EVT_FIRST alone, and raises nothing more. -/
theorem firedSourceIsRecorded : Obligations.FiredSourceIsRecorded := by
  intro s p i hr alone acked mode canonical
  rw [exec_eventFire, execEventFire, act_of_running hr]
  have fires : evUsed p i = true → s.raiseIf (evUsed p i) p i = s.raise p i := fun used => if_pos used
  refine ⟨fun unused => ?_, fun used disabled => ?_, fun used enabled info => ?_⟩
  · have nothing : s.raiseIf (evUsed p i) p i = s := if_neg (Bool.eq_false_iff.mp unused)
    rw [nothing, State.settle_of_quiet alone acked mode]
  · rw [fires used, State.settle_raise alone (State.fire_of_disabled disabled) alone acked mode]
  · generalize hx : s.setB (pageBase p) (evBit i) true = x
    have canonical' : x.Canonical := hx ▸ (Evolves.refl s).setB.canonical canonical
    have words : s.RegsOnly (fun a => a = pageBase p + (evBit i).off ∨ firstWord p a) (x.capture p i 0) := by
      obtain ⟨r, e, same⟩ := x.capture_regsOnly (p := p) (i := i) (c := 0)
      refine ⟨r, by rw [e, ← hx]; rfl, fun a ha => ?_⟩
      rw [same a fun h => ha (.inr h), ← hx]
      exact Tab.get_put_ne _ (fun h => ha (.inl h)) _
    have ⟨r, e, same⟩ := words
    have ends : (s.raise p i).settle = x.capture p i 0 := by
      refine State.settle_raise alone ((State.fire_of_info enabled info).trans (by rw [hx])) (by rw [e]; exact alone)
        (by rw [e]; exact acked) ?_
      rw [State.flag, words.get (encap_not_recorded i.isLt), e]
      exact mode
    refine ⟨x.capture p i 0, by rw [fires used, ends], ?_, fun j hj => ?_, fun free => ?_, fun held => ?_,
      fun a bit first time high => ?_, ?_⟩
    · rw [State.capture_sticky i.isLt, ← hx]
      exact State.flag_setB_same canonical (evBit_fits i) rfl
    · rw [State.capture_sticky j.isLt, ← hx, State.sticky, State.flag, State.setB, State.get_set_other canonical (evBit_fits j)
        (evBit_apart fun h => hj (Fin.ext h))]
      rfl
    · rw [State.flag, ← State.get_first_setB_evBit (x := true) i.isLt rfl, hx] at free
      obtain ⟨valid, index, cls, overflow, time⟩ := State.capture_captures (i := i) (c := 0) canonical' free i.isLt (by decide)
      refine ⟨valid, index, cls, overflow.trans ?_, ?_⟩
      · rw [State.flag, ← hx, State.get_first_setB_evBit i.isLt rfl, State.flag]
      · rw [time, ← hx]
        rfl
    · rw [State.flag, ← State.get_first_setB_evBit (x := true) i.isLt rfl, hx] at held
      obtain ⟨valid, overflow, index, cls, time⟩ := State.capture_overflows (i := i) (c := 0) canonical' held
      refine ⟨valid, overflow, index.trans ?_, cls.trans ?_, time.trans ?_⟩
      · rw [← hx, State.get_first_setB_evBit i.isLt rfl]
      · rw [← hx, State.get_first_setB_evBit i.isLt rfl]
      · rw [← hx, State.nat64_first_setB_evBit i.isLt]
    · have apart : ¬ (a = pageBase p + (evBit i).off ∨ firstWord p a) := by
        rintro (h | h | h | h)
        · exact bit h
        · exact first h
        · exact time h
        · exact high h
      rw [e]
      exact same a apart
    · rw [e]

end Sys2Proof.Machine

/-!
Which commands stop (R587).
-/
namespace Sys2Proof.Machine

theorem answers_next {s : State} : ∃ t, (.next s : Host.Outcome State Fault Refusal) = .next t := ⟨s, rfl⟩

theorem answers_ite {p : Prop} [Decidable p] {a b : Host.Outcome State Fault Refusal} (ha : ∃ t, a = .next t)
    (hb : ∃ t, b = .next t) : ∃ t, (if p then a else b) = .next t := by
  split
  · exact ha
  · exact hb

/-- The six commands that the part does not wait for. -/
theorem exec_unwaited_answers (s : State) :
    (∀ pg rn finish low, ∃ t, execDeviceResetEntry pg rn finish low s = .next t) ∧ (∃ t, execDeviceResetRelease s = .next t) ∧
      (∀ readBack wear, ∃ t, execNvCommitDone readBack wear s = .next t) ∧ (∀ temps, ∃ t, execThmSample temps s = .next t) ∧
      (∀ sensors, ∃ t, execGuardTrip sensors s = .next t) ∧ ∀ faults, ∃ t, execGuardSelftestComplete faults s = .next t := by
  refine ⟨fun _ _ _ _ => ?_, ?_, fun _ _ => ?_, fun _ => ?_, fun _ => ?_, fun _ => ?_⟩
  · exact answers_ite answers_next (answers_ite answers_next (answers_ite answers_next answers_next))
  · exact answers_ite answers_next answers_next
  · exact answers_ite answers_next answers_next
  · exact answers_ite answers_next (answers_ite answers_next answers_next)
  · exact answers_ite answers_next answers_next
  · exact answers_ite answers_next answers_next

/-- Every meaning but that of a TAP instruction answers a next state: beside those six, each is a write by its requester or acts
while the part runs. -/
theorem exec_answers {c : Instr} (h : ∀ i, c ≠ .tapInstruction i) (s : State) : ∃ t, exec c s = .next t := by
  obtain ⟨entry, release, commit, sample, trip, selftest⟩ := exec_unwaited_answers s
  cases c
  case tapInstruction i => exact absurd rfl (h i)
  all_goals dsimp only [exec]
  case deviceResetEntry => exact entry _ _ _ _
  case deviceResetRelease => exact release
  case nvCommitDone => exact commit _ _
  case thmSample => exact sample _
  case guardTrip => exact trip _
  case guardSelftestComplete => exact selftest _
  case warmReset | registerWrite | calSwap | calTargetWrite | acqRestart | rxdSnap | ocpSpiTx | leafDeregister |
      gthRecollate | selClear | selManualA | selManualB | selForceA | selForceB | pgCfgWrite | pgClear | pgLockout | pgForce |
      pgManual | switchTx | rxResync | agreeStart | dpllModeWrite | phaseStep | slotCfgWrite | clkoutChange | ppsoutAlign |
      ppsoutEnable | rawWindowWrite | budgetWrite | standingBaseWrite | fltAck | evtStickyClear | evtClassWrite | authAdd |
      authRemove | peerAdd | peerRemove | ksLoadKek | ksImport | ksClear | guardPolicyWrite | debugOpen | frChallenge |
      pmuClear | memBist | repairEntryClear =>
    exact hostWrite_answers _ _ _ _
  case carrierUp | carrierDown | fabricOpen | blockEnable | blockDisable | blockSoftReset | stateReqActive | stateReqDrain |
      stateReqConfig | encapModeWrite | calFull | calAbortSpare | cdMemClear | fbZero | nlcRequest | nlcStopRequest |
      txMuteWrite | faultEnWrite | maskCheck | maskApply | cdPreTargetWrite | schedCheck | schedApply | leafListedWrite |
      upOwnerWrite | imaxWrite | histClear | alignRestart | hbSnap | crySelfTest | agreeAbort | cacheFlush | fblRetrain |
      routeApply | scanStart | scanStop | hkaCal | graceMsWrite | quietSWrite | forceAlarmWrite | attestStart |
      guardSelftest | debugLockSet | userEnable | userDisable | freezeAllWrite | sweepNow =>
    exact hostField_answers _ _ _ _ _
  case gatheringCommit | keyEntryCommit | meterCommit | shaperCommit | routeEntryCommit =>
    exact hostEntry_answers _ _ _ _
  case alignOffsetWrite | txKeyLoad | rxKeyLoad | queueEntryCommit | clearDebt =>
    exact hostWords_answers _ _ _ _
  all_goals exact act_answers _ _

/-- A TAP instruction in device reset, when one of IEEE 1149.1 or while debug is closed, answers; else it stops. -/
theorem exec_tapInstruction_cases (i : TapInstr) (s : State) :
    (exec (.tapInstruction i) s = .fault .tapUndescribed ∧ i = .vendor ∧ s.inReset = false ∧
      s.get SEC.page SEC.DEBUG_STATE ≠ 0) ∨
    ((∃ t, exec (.tapInstruction i) s = .next t) ∧ ¬ (i = .vendor ∧ s.inReset = false ∧ s.get SEC.page SEC.DEBUG_STATE ≠ 0)) := by
  rw [exec_tapInstruction, execTapInstruction]
  cases hr : s.inReset with
  | true => exact .inr ⟨⟨s, rfl⟩, fun h => Bool.false_ne_true h.2.1.symm⟩
  | false =>
    rw [if_neg Bool.false_ne_true]
    cases i
    case vendor =>
      by_cases closed : s.get SEC.page SEC.DEBUG_STATE = 0
      · exact .inr ⟨⟨_, if_pos closed⟩, fun h => h.2.2 closed⟩
      · exact .inl ⟨if_neg closed, rfl, rfl, closed⟩
    all_goals exact .inr ⟨⟨_, rfl⟩, fun h => TapInstr.noConfusion h.1⟩

/-- Settles O5: a command acts while the part runs, or has a meaning in reset that always answers, or is a TAP instruction. -/
theorem onlyAnOpenTapStops : Obligations.OnlyAnOpenTapStops := by
  intro s
  refine ⟨fun c h => exec_answers h s, fun i => ?_, fun i h => ?_⟩
  · rcases exec_tapInstruction_cases i s with ⟨stops, opened⟩ | ⟨⟨t, answers⟩, closed⟩
    · exact iff_of_true stops opened
    · exact iff_of_false (fun stops => nomatch answers.symm.trans stops) closed
  · rcases exec_tapInstruction_cases i s with ⟨stops, -⟩ | ⟨answers, -⟩
    · exact absurd stops h
    · exact answers

end Sys2Proof.Machine

/-!
Rows that are a core's write of a register of CLS, FBL, FBR, TIM, PWR, HKA, SEC, CPU or RPR (chapters 12, 14, 15, 17, 18, 20 to 22).
-/
namespace Sys2Proof.Machine

/-! ### Where the registers with a row of their own lie -/

/-- The registers of TIM that have a row of their own (R469, R476, R479, R482, R484). -/
def timRowRegs : List Nat :=
  [TIM.DCTRL 0, TIM.DCTRL 1, TIM.PHASE_STEP 0, TIM.PHASE_STEP 1, TIM.CMD, TIM.PPSOUT_CFG 0, TIM.PPSOUT_CFG 1]
    ++ (List.range 16).map TIM.SLOT_CFG ++ (List.range 4).map TIM.CLKOUT_FREQ ++ (List.range 4).map TIM.CLKOUT_CFG

theorem key_tim : ∀ off ∈ timRowRegs, (placeAt (TIM.page + off)).bind Place.key = some (.TIM, 0, timPg, off) := by
  decide +kernel

theorem timRowRegs_past_header : ∀ off ∈ timRowRegs, ¬ off < 0x100 := by decide

theorem dctrl_mem_timRowRegs : ∀ d : Fin 2, TIM.DCTRL d ∈ timRowRegs := by decide

theorem phaseStep_mem_timRowRegs : ∀ d : Fin 2, TIM.PHASE_STEP d ∈ timRowRegs := by decide

theorem ppsoutCfg_mem_timRowRegs : ∀ j : Fin 2, TIM.PPSOUT_CFG j ∈ timRowRegs := by decide

theorem slotCfg_mem_timRowRegs : ∀ slot : Fin 16, TIM.SLOT_CFG slot ∈ timRowRegs := by decide

theorem clkoutFreq_mem_timRowRegs : ∀ i : Fin 4, TIM.CLKOUT_FREQ i ∈ timRowRegs := by decide

theorem clkoutCfg_mem_timRowRegs : ∀ i : Fin 4, TIM.CLKOUT_CFG i ∈ timRowRegs := by decide

theorem key_fblCmd : ∀ k : Fin 8, (placeAt (FBL.page k + FBL.CMD)).bind Place.key = some (.FBL, k.val, Kind.FBL.pg k, FBL.CMD) := by
  decide +kernel

/-- The registers of SEC that have a row of their own (R572, R575, R577, R582 to R586). -/
def secRowRegs : List Nat :=
  [SEC.ATTEST_CMD, SEC.PEER_CMD, SEC.KS_CMD, SEC.GUARD_POLICY, SEC.GUARD_CMD, SEC.DEBUG, SEC.FR_CMD]

theorem key_sec : ∀ off ∈ secRowRegs, (placeAt (SEC.page + off)).bind Place.key = some (.SEC, 0, secPg, off) := by
  decide +kernel

theorem secRowRegs_past_header : ∀ off ∈ secRowRegs, ¬ off < 0x100 := by decide

theorem key_pwr : ∀ off ∈ [PWR.BUDGET, PWR.STANDING_BASE], (placeAt (PWR.page + off)).bind Place.key
    = some (.PWR, 0, Kind.PWR.pages.1, off) := by decide +kernel

theorem key_hkaCmd : (placeAt (HKA.page + HKA.CMD)).bind Place.key = some (.HKA, 0, Kind.HKA.pages.1, HKA.CMD) := by
  decide +kernel

theorem key_cpu : ∀ off ∈ [CPU.CTRL, CPU.CMD], (placeAt (CPU.page + off)).bind Place.key = some (.CPU, 0, cpuPg, off) := by
  decide +kernel

theorem key_rprCmd : (placeAt (RPR.page + RPR.CMD)).bind Place.key = some (.RPR, 0, rpPg, RPR.CMD) := by decide +kernel

theorem key_clsCmd : (placeAt (CLS.page + CLS.CMD)).bind Place.key = some (.CLS, 0, Kind.CLS.pages.1, CLS.CMD) := by
  decide +kernel

theorem key_routeCtrl : (placeAt (FBR.page + FBR.ROUTE_CTRL)).bind Place.key
    = some (.FBR, 0, Kind.FBR.pages.1, FBR.ROUTE_CTRL) := by decide +kernel

section
variable {s : State} {c : Fin 8} {off v : Nat} {i : Instr} {f : Nat → State → WOut}

/-- A row that is a core's write of a register of TIM. -/
theorem State.CoreDoes.of_tim (hi : exec i s = hostWrite (.core c) (TIM.page + off) v s) (ho : off ∈ timRowRegs) :
    s.CoreDoes c (TIM.page + off) v i (wrTIM (isFirmware (.core c)) off) := by
  refine .of_handle hi (key_tim off ho) ?_
  rw [State.handle.eq_def, if_neg (timRowRegs_past_header off ho)]

/-- A row that is a core's write of a register of SEC, where the block makes `f` of the word. -/
theorem State.CoreDoes.of_sec (hi : exec i s = hostWrite (.core c) (SEC.page + off) v s) (ho : off ∈ secRowRegs)
    (hf : wrSEC none off (s.written (SEC.page + off) v) (s.reached (.core c))
      = f (s.written (SEC.page + off) v) (s.reached (.core c))) :
    s.CoreDoes c (SEC.page + off) v i f := by
  refine .of_handle hi (key_sec off ho) ?_
  rw [State.handle.eq_def, if_neg (secRowRegs_past_header off ho), ← hf]

/-- A row that is a core's write of HKA.CMD. -/
theorem State.CoreDoes.of_hkaCmd (hi : exec i s = hostWrite (.core c) (HKA.page + HKA.CMD) v s) :
    s.CoreDoes c (HKA.page + HKA.CMD) v i (wrHKA HKA.CMD) :=
  .of_handle hi key_hkaCmd rfl

/-- A row that is a core's write of RPR.CMD. -/
theorem State.CoreDoes.of_rprCmd (hi : exec i s = hostWrite (.core c) (RPR.page + RPR.CMD) v s) :
    s.CoreDoes c (RPR.page + RPR.CMD) v i (fun x u => u.rprCmd x) :=
  .of_handle hi key_rprCmd rfl

/-- A row that is a core's write of CPU.CTRL. -/
theorem State.CoreDoes.of_cpuCtrl (hi : exec i s = hostWrite (.core c) (CPU.page + CPU.CTRL) v s) :
    s.CoreDoes c (CPU.page + CPU.CTRL) v i (fun x u => u.cpuCtrl x) :=
  .of_handle hi (key_cpu _ (by decide)) rfl

end

/-- A write of 1 to CACHE_FLUSH empties the cache (R400). -/
theorem wrCLS_cacheFlush {s : State} {v : Nat} (h : fb v CLS.CMD_CACHE_FLUSH = true) :
    wrCLS CLS.CMD v s = ok { s with cls := { s.cls with cache := [] } } := by
  rw [wrCLS, if_pos rfl, if_pos h]

/-- Settles O41: each row is a core's write, and its page's block takes the word as stated. -/
theorem hostNetworkRowsComplete : Obligations.HostNetworkRowsComplete := by
  intro s
  refine ⟨fun c flushes => ?_, fun c k => ?_, fun c => ?_, fun c d v => ?_, fun c d ps => ?_, fun c slot v => ?_, fun c i v => ?_,
    fun c i v => ?_, fun c a0 a1 => ?_, fun c j v => ?_, fun c mw => ?_, fun c mw => ?_, fun c => ?_, fun c => ?_, fun c => ?_⟩
  · exact .of_handle (exec_cacheFlush _) key_clsCmd (wrCLS_cacheFlush (s := s.reached (.core c)) flushes)
  · exact .of_handle (exec_fblRetrain _ _) (key_fblCmd k) rfl
  · exact .of_handle (exec_routeApply _) key_routeCtrl rfl
  · exact .of_tim (exec_dpllModeWrite _ _ _) (dctrl_mem_timRowRegs d)
  · exact .of_tim (exec_phaseStep _ _ _) (phaseStep_mem_timRowRegs d)
  · exact .of_tim (exec_slotCfgWrite _ _ _) (slotCfg_mem_timRowRegs slot)
  · exact .of_tim (exec_clkoutChange _ _ _ _) (clkoutFreq_mem_timRowRegs i)
  · exact .of_tim (exec_clkoutChange _ _ _ _) (clkoutCfg_mem_timRowRegs i)
  · exact .of_tim (exec_ppsoutAlign _ _ _) (by decide)
  · exact .of_tim (exec_ppsoutEnable _ _ _) (ppsoutCfg_mem_timRowRegs j)
  · exact .of_handle (exec_budgetWrite _ _) (key_pwr _ (by decide)) rfl
  · exact .of_handle (exec_standingBaseWrite _ _) (key_pwr _ (by decide)) rfl
  · exact .of_hkaCmd (exec_scanStart _)
  · exact .of_hkaCmd (exec_scanStop _)
  · exact .of_hkaCmd (exec_hkaCal _)

/-- Settles O42: each row is a core's write, and its page's block takes the word as stated. -/
theorem hostSecurityRowsComplete : Obligations.HostSecurityRowsComplete := by
  intro s
  refine ⟨fun c => ?_, fun c index => ?_, fun c index => ?_, fun c ty => ?_, fun c slot ty => ?_, fun c slot => ?_,
    fun c policy => ?_, fun c => ?_, fun c => ?_, fun c mode => ?_, fun c => ?_, fun c => ?_, fun c on => ?_, fun c core all => ?_,
    fun c => ?_, fun c channel => ?_, fun c entry => ?_⟩
  · exact .of_sec (exec_attestStart _) (by decide) rfl
  · exact .of_sec (exec_peerAdd _ _) (by decide) rfl
  · exact .of_sec (exec_peerRemove _ _) (by decide) rfl
  · exact .of_sec (exec_ksLoadKek _ _) (by decide) rfl
  · exact .of_sec (exec_ksImport _ _ _) (by decide) rfl
  · exact .of_sec (exec_ksClear _ _) (by decide) rfl
  · exact .of_sec (exec_guardPolicyWrite _ _) (by decide) rfl
  · exact .of_sec (exec_guardSelftest _) (by decide) rfl
  · exact .of_sec (exec_debugLockSet _) (by decide) rfl
  · exact .of_sec (exec_frChallenge _ _) (by decide) rfl
  · exact .of_cpuCtrl (exec_userEnable _)
  · exact .of_cpuCtrl (exec_userDisable _)
  · exact .of_cpuCtrl (exec_freezeAllWrite _ _)
  · exact .of_handle (exec_pmuClear _ _ _) (key_cpu _ (by decide)) rfl
  · exact .of_rprCmd (exec_sweepNow _)
  · exact .of_rprCmd (exec_memBist _ _)
  · exact .of_rprCmd (exec_repairEntryClear _ _)

end Sys2Proof.Machine

/-!
Client lanes and ports, transparent mapping, received frames, lookups and the staging of frames (chapter 12, R494).
-/
namespace Sys2Proof.Machine

section
variable {s : State} {p : Fin 32} {g : Nat}

/-- The gathering of an enabled transparent port. -/
theorem State.transparent_gathering (en : s.portEn p = true) (tr : s.portTransparent p = true) (hg : s.portGath p = some g) :
    (if s.portEn p && s.portTransparent p then s.portGath p else none) = some g := by
  rw [en, tr, hg]
  rfl

/-- Past the checks of a port that receives, a frame is checked. -/
theorem execPortFrameRx_received {f : RxFrame} {bw : Bool} (hr : s.running = true) (en : s.portEn p = true)
    (packet : s.portTransparent p = false) (mac : s.active Kind.MAC.pages.1 = true) (quads : s.quadsActive p = true)
    (aligned : s.flag MAC.page (MAC.PORT_STATUS_PCS_ALIGNED p) = true) :
    execPortFrameRx p f bw s = .next (State.settle
      (if !f.fcsOk then s.macCount p 2 1
      else if f.len < 64 then s.macCount p 3 1
      else if s.get MAC.page (MAC.PORT_CFG_MAX_FRAME p) < f.len then s.macCount p 4 1
      else if f.etherType = 0x8808 ∧ f.tags = [] then s.macCount p 6 1
      else
        let t := (s.macCount p 0 1).macCount p 1 f.len
        if linkLocal f.dst.toNat then t.linkLocalFrame p f else t.classify p f bw)) := by
  rw [execPortFrameRx, act_past_guard hr (by simp [en, packet, mac, quads, aligned])]

end

/-- Settles O27: the conditions pass the guard of each command and select its branch. -/
theorem clientRowsComplete : Obligations.ClientRowsComplete := by
  intro s hr
  refine ⟨fun l sig cdr pcs hi snr errs cc uc cs on mode => ?_, fun l sig free => ?_, fun q locked => ?_, fun p lf rf port => ?_,
    fun p g en tr hg => ⟨fun arrived mac up => ?_, fun arrived idle => ?_, fun sent good bytes rest released => ?_⟩,
    fun p f bw en packet mac quads aligned => ?_, fun ue bw m r miss serves sig => ?_, fun cls dt => ?_,
    fun q page some_ due ecc eccOk up mem free past within coll look => ?_⟩
  · rw [exec_clientLaneStatus, execClientLaneStatus]
    dsimp only
    refine (act_past_guard hr (by simp [on, mode])).trans ?_
    rfl
  · rw [exec_laneAdaptDone, execLaneAdaptDone, act_of_running hr]
    dsimp only
    rw [if_pos (by simp [sig, free])]
  · rw [exec_quadPllUnlock, execQuadPllUnlock, act_past_guard hr (by simp [locked])]
  · rw [exec_pcsFaultRx, execPcsFaultRx, act_past_guard hr (by simp [port])]
  · rw [exec_transparentMapUnit, execTransparentMapUnit, act_of_running hr]
    dsimp only
    rw [State.transparent_gathering en tr hg]
    dsimp only
    rw [if_neg (by simp [mac, up])]
  · rw [exec_transparentMapUnit, execTransparentMapUnit, act_of_running hr]
    dsimp only
    rw [State.transparent_gathering en tr hg]
    dsimp only
    rw [if_pos (idle.imp_left (by simp [·]))]
  · rw [exec_demapUnit, execDemapUnit, act_of_running hr]
    dsimp only
    rw [State.transparent_gathering en tr hg]
    dsimp only
    rw [released]
  · have received := execPortFrameRx_received (f := f) (bw := bw) hr en packet mac quads aligned
    rw [exec_portFrameRx, received]
    refine ⟨fun bad => ?_, fun good short => ?_, fun good long big => ?_, fun good long fits ctl untagged => ?_,
      fun good long fits data => ?_⟩
    · rw [if_pos (by simp [bad])]
    · rw [if_neg (by simp [good]), if_pos short]
    · rw [if_neg (by simp [good]), if_neg (Nat.not_lt.mpr long), if_pos big]
    · rw [if_neg (by simp [good]), if_neg (Nat.not_lt.mpr long), if_neg (Nat.not_lt.mpr fits), if_pos ⟨ctl, untagged⟩]
    · rw [if_neg (by simp [good]), if_neg (Nat.not_lt.mpr long), if_neg (Nat.not_lt.mpr fits), if_neg fun h => data h.1]
  · rw [exec_missLookupDone, execMissLookupDone, act_of_running hr]
    dsimp only
    rw [miss]
    dsimp only
    refine (congrArg (fun t : State => Host.Outcome.next t.settle) (if_neg (by simp [serves, sig]))).trans ?_
    rfl
  · rw [exec_signatureBuildDone, execSignatureBuildDone, act_of_running hr, if_pos (by simp [cls, dt])]
  · rw [exec_stagingPageWrite, execStagingPageWrite]
    dsimp only
    rw [act_past_guard hr, if_neg]
    · have unused : page ∉ s.pkt.pagesUsed := by simpa using free
      simp [ecc, eccOk, up, mem, unused, Nat.not_lt.mpr past, Nat.not_le.mpr within, coll, look]
    · rintro (empty | ⟨part, early⟩)
      · exact some_ empty
      · rcases due with h | h <;> omega

end Sys2Proof.Machine

/-!
Fabric links: training, lanes, HELLO and neighbours (14.1, 14.2, 14.4).
-/
namespace Sys2Proof.Machine

/-- The quiet of NEGOTIATE counts from its entry while no HELLO has come. -/
theorem negotiate_due {since at_ hellos now : Nat} (none_ : hellos = 0) (due : since + 2 * nsMs ≤ now) :
    max since (if 0 < hellos then at_ else 0) + 2 * nsMs ≤ now := by
  rw [none_, if_neg (Nat.lt_irrefl 0), Nat.max_zero]
  exact due

/-- Settles O28: the conditions pass the guard of each command and select its branch. -/
theorem fabricLinkRowsComplete : Obligations.FabricLinkRowsComplete := by
  intro s hr
  refine ⟨fun k st may act_ => ?_, fun k l st ⟨t, sig⟩ => ?_, fun k l foms lock st => ?_, fun k t0 sig st due => ?_,
    fun k st due => ?_, fun k st hellos due => ?_, fun k l sig cdr lost => ?_, fun k l t0 pass up failed cw sig cdr due => ?_,
    fun k l fom => ?_, fun k l fom dither up ok => ?_, fun m link line role ctl on => ?_,
    fun m addr ver link ident domain t3 t1 t2 => ?_, fun m alive due => ?_⟩
  · rw [exec_fabricTrainStart, execFabricTrainStart, act_of_running hr, if_pos ⟨st, may, act_⟩]
  · rw [exec_fabricLaneCdrLock, execFabricLaneCdrLock, act_of_running hr]
    dsimp only
    have started : (s.link k).sigAt.isNone = false := by rw [sig]; rfl
    rw [if_pos (.inl st), if_neg fun h => Bool.false_ne_true (started.symm.trans h.2)]
  · rw [exec_ctleSweepDone, execCtleSweepDone]
    dsimp only
    rw [act_past_guard hr (by simp [lock, st])]
  · rw [exec_linkTrainTimeout, execLinkTrainTimeout, act_of_running hr]
    dsimp only
    rw [sig]
    dsimp only
    rw [if_neg (by simp [st, due])]
    exact ⟨fun enough => by rw [if_pos enough], fun few => by rw [if_neg (Nat.not_le.mpr few)]⟩
  · rw [exec_backoffExpiry, execBackoffExpiry]
    dsimp only
    rw [act_past_guard hr (by simp [st, due])]
  · rw [exec_negotiateTimeout, execNegotiateTimeout, act_of_running hr]
    dsimp only
    rw [if_pos ⟨st, negotiate_due hellos due⟩]
  · rw [exec_laneFail, execLaneFail, act_of_running hr]
    dsimp only
    rw [if_pos]
    rcases lost with rfl | rfl
    · rfl
    · rw [Bool.not_false, Bool.or_true, Bool.true_or]
  · rw [exec_laneRestore, execLaneRestore, act_of_running hr]
    dsimp only
    rw [pass]
    dsimp only
    rw [if_neg (by simp [up, failed, cw, sig, cdr, due])]
  · rw [exec_fomRefresh, execFomRefresh, act_of_running hr]
  · rw [exec_ditherTrial, execDitherTrial]
    dsimp only
    rw [act_past_guard hr (by simp [dither, up, ok])]
  · have opened : (if m.val < 8 then decide (kNEGOTIATE ≤ s.linkSt m) else s.isLine m) = true := by
      by_cases h : m.val < 8
      · rw [if_pos h, decide_eq_true (link h)]
      · rw [if_neg h, line (Nat.not_lt.mp h)]
    rw [exec_helloSend, execHelloSend, act_of_running hr]
    dsimp only
    rw [opened, if_neg (by simp [role, ctl, on])]
  · rw [exec_helloCellRx, execHelloCellRx, act_of_running hr]
  · rw [exec_neighbourDead, execNeighbourDead]
    dsimp only
    rw [act_past_guard hr (by simp [alive, due])]

end Sys2Proof.Machine

/-!
Cells in transit: resequencing, pause, received cells and lane frames, dequeue, reassembly, shaper slots (13.5, 14.1, 14.3, 14.5, 14.6).
-/
namespace Sys2Proof.Machine

section
variable {s : State}

/-- A lane frame on a lane whose clock is recovered, with a good lane word and good codewords, hands on its cells (R439, R440). -/
theorem execLaneFrameRx_good {k : Fin 8} {l : Fin 4} {word : BitVec 40} {cells : List RawCell} {t : State}
    (hr : s.running = true) (off : s.linkSt k ≠ kDISABLED) (backoff : s.linkSt k ≠ kBACKOFF)
    (cdr : s.flag (FBL.page k) (FBL.LANE_CDR_LOCK l) = true) (crc : crc8 (word.toNat / 256) = word.toNat % 256)
    (taken : ((s.count (FBL.page k + FBL.CW_UNCORR) 0).setLane k l
      { (s.count (FBL.page k + FBL.CW_UNCORR) 0).lane k l with uncorrRun := 0 }).laneWord k l word.toNat = t)
    (rxOk : t.rxOk k l = true) (up : kNEGOTIATE ≤ t.linkSt k) :
    execLaneFrameRx k l word false false cells s = .next (State.settle (each (cells.take 5) (fun c u => u.cellRx k c) t)) := by
  rw [execLaneFrameRx]
  dsimp only [b2n]
  rw [act_past_guard hr (by simp [off, backoff, cdr])]
  simp only [Bool.false_eq_true, if_false, crc, decide_true, if_true, taken, rxOk, up, Bool.not_true, Bool.and_false,
    Nat.add_zero, Nat.reduceLeDiff, or_self]

end

/-- Settles O29: the conditions pass the guard of each command and select its branch. -/
theorem fabricTransitRowsComplete : Obligations.FabricTransitRowsComplete := by
  intro s hr
  refine ⟨fun src x t0 known gap due => ?_, fun src x known due => ?_, fun p port off config => ⟨?_, ?_⟩,
    fun m origin port on seq => ?_, fun p paused => ?_, fun origin port x mem ho hp due => ?_, fun m c link up => ?_,
    fun m c t line isLine taken => ?_, fun k l word cells up backoff off cdr crc rxOk link => ?_,
    fun dest q t f u full noRoom active soft fbr fault_ local_ picked took readable v egress => ?_,
    fun src cls cs rest full noRoom first off config => ?_, fun src cls cs rest full noRoom t first off config => ?_, fun x => ?_⟩
  · rw [exec_reseqGapTimeout, execReseqGapTimeout, act_of_running hr]
    rw [known]
    dsimp only
    rw [gap]
    dsimp only
    rw [if_pos due]
  · rw [exec_reseqSourceTimeout, execReseqSourceTimeout, act_of_running hr]
    rw [known]
    dsimp only
    rw [if_pos due]
  · rw [exec_egressFifoXoff, execEgressFifoXoff, act_past_guard hr (by simp [port, off, config])]
  · rw [exec_egressFifoXon, execEgressFifoXon, act_past_guard hr (by simp [port, off, config])]
  · rw [exec_pauseCellRx, execPauseCellRx, act_of_running hr]
  · rw [exec_pauseRefresh, execPauseRefresh, act_of_running hr, if_pos paused]
  · have stale : x ∈ s.fbr.pauses.filter (fun p => p.origin = origin.val && p.port = port.val && decide (p.at_ + 200 * nsUs ≤ s.now)) :=
      List.mem_filter.mpr ⟨mem, by simp [ho, hp, due]⟩
    rw [exec_pauseExpiry, execPauseExpiry]
    dsimp only
    rw [act_past_guard hr fun none_ => List.ne_nil_of_mem stale (List.isEmpty_iff.mp none_)]
  · rw [exec_cellRx, execCellRx, act_of_running hr]
    rw [if_pos link, if_pos up]
  · rw [exec_cellRx, execCellRx, act_of_running hr]
    rw [if_neg (Nat.not_lt.mpr line), if_neg (by simp [isLine]), taken]
  · rw [exec_laneFrameRx]
    exact execLaneFrameRx_good hr off backoff cdr crc rfl rxOk link
  · rw [exec_frameDequeue, execFrameDequeue]
    dsimp only
    have ready : ¬ bACTIVE = bOFF := by decide
    have set_ : ¬ bACTIVE = bCONFIG := by decide
    rw [act_past_guard hr (by simp [active, ready, set_, soft, fbr, local_]), picked]
    dsimp only
    rw [took]
    dsimp only
    rw [if_neg (Bool.eq_false_iff.mp readable), if_neg fault_, if_pos local_, egress]
  · rw [exec_frameReassembly, execFrameReassembly, act_of_running hr]
    dsimp only
    rw [first]
    dsimp only
    rw [if_neg (not_or.mpr ⟨off, config⟩), if_pos (show (!false) = true from rfl)]
  · rw [exec_frameReassembly, execFrameReassembly, act_of_running hr]
    dsimp only
    rw [first]
    dsimp only
    rw [if_neg (not_or.mpr ⟨off, config⟩), if_neg (show ¬ (!true) = true by decide)]
    exact ⟨fun moves => by rw [moves], fun stalls => by rw [stalls]⟩
  · rw [exec_shaperWheelSlot, execShaperWheelSlot, act_of_running hr]

end Sys2Proof.Machine

/-!
Topology: the records of the parts, their age, and the routes that firmware computes (14.4).
-/
namespace Sys2Proof.Machine

/-- A record that comes in one cell is found complete in it. -/
theorem topo_complete (a q : Nat) (ls : List TopoLink) :
    (List.range (1 : Fin 4).val).map (fun i => ([(a, q, (0 : Fin 4).val, ls)].find? (fun x => x.1 = a && x.2.1 = q && x.2.2.1 = i)).map
      (fun x => x.2.2.2)) = [some ls] := by
  simp [List.range_succ]

/-- The cells of a complete record are given up. -/
theorem topo_spent (a q i : Nat) (ls : List TopoLink) : [(a, q, i, ls)].filter (fun x => x.1 ≠ a) = [] := by simp

/-- Settles O30: the conditions pass the guard of each command and select its branch. -/
theorem topologyRowsComplete : Obligations.TopologyRowsComplete := by
  intro s hr
  refine ⟨fun firmware free => ?_, fun m addr ident role seq links opened part active new none_ => ?_, fun addr x known due => ?_,
    fun firmware due => ?_⟩
  · rw [exec_topoFlood, execTopoFlood, act_past_guard hr (by simp [firmware, free])]
  · rw [exec_topoCellRx, execTopoCellRx, act_of_running hr]
    dsimp only
    rw [new, none_]
    dsimp only
    rw [if_neg (by simp [opened, part, active])]
    simp only [List.filter_nil, List.nil_append, topo_complete, List.all_cons, List.all_nil, Option.isSome_some, Bool.and_self,
      if_true, topo_spent, List.flatMap_singleton, Option.getD_some]
    rfl
  · rw [exec_topoAgeOut, execTopoAgeOut, act_of_running hr]
    rw [known]
    dsimp only
    rw [if_pos due]
  · rw [exec_routeCompute, execRouteCompute]
    refine (act_past_guard hr (by simp [firmware, due])).trans ?_
    rfl

end Sys2Proof.Machine

/-!
Timing: the second of DTIME, references, the DPLLs, steering, pulses and ESMC (chapter 15).
-/
namespace Sys2Proof.Machine

/-- A recovered clock whose condition is not the other one lets the slot's activity change. -/
theorem recovered_agrees {o : Option Bool} {b : Bool} (h : o ≠ some (!b)) : o.any (· != b) = false := by
  cases o with
  | none => rfl
  | some c =>
    have other : c ≠ !b := fun e => h (congrArg some e)
    rw [Option.any_some, Bool.eq_not_of_ne other, Bool.not_not, bne_self_eq_false]

/-- Settles O31: the conditions pass the guard of each command and select its branch. -/
theorem timingRowsComplete : Obligations.TimingRowsComplete := by
  intro s hr
  refine ⟨fun ys phases c0 c1 e0 e1 active => ?_, fun slot used => ⟨fun idle rec => ?_, fun active rec => ?_⟩, fun ps => ?_,
    fun slot wtr waited good => ?_, fun d st within due => ?_, fun d st beyond due => ?_, fun d slewing moved => ?_, fun offset => ?_,
    fun good offset => ?_, fun j t0 next en due => ?_, fun slot esmc => ⟨fun ql => ?_, fun silent => ?_⟩,
    fun port event en packet sync none_ => ?_⟩
  · rw [exec_timSecond, execTimSecond, act_past_guard hr (by simp [active])]
  · rw [exec_refActivityChange, execRefActivityChange]
    dsimp only
    have same := recovered_agrees (b := true) rec
    rw [act_past_guard hr (not_or.mpr ⟨used, not_or.mpr ⟨by simp [idle], Bool.eq_false_iff.mp same⟩⟩), if_pos rfl]
  · rw [exec_refActivityChange, execRefActivityChange]
    dsimp only
    have same := recovered_agrees (b := false) rec
    rw [act_past_guard hr (not_or.mpr ⟨used, not_or.mpr ⟨by simp [active], Bool.eq_false_iff.mp same⟩⟩), if_neg Bool.false_ne_true]
  · rw [exec_ppsinEdge, execPpsinEdge, act_of_running hr]
  · rw [exec_refWtrExpiry, execRefWtrExpiry, act_of_running hr, if_pos (by simp [wtr, waited, good])]
  · rw [exec_dpllLock, execDpllLock, act_past_guard hr (by simp [st, within, due])]
  · rw [exec_dpllLockLost, execDpllLockLost, act_past_guard hr (by simp [st, beyond, due])]
  · rw [exec_slewDone, execSlewDone, act_past_guard hr]
    rw [slewing, decide_eq_false (Nat.not_lt.mpr moved)]
    exact Bool.false_ne_true
  · rw [exec_lineSteerUpdate, execLineSteerUpdate, act_of_running hr]
  · rw [exec_monrefChange, execMonrefChange, act_of_running hr]
  · rw [exec_ppsPulse, execPpsPulse, act_of_running hr]
    dsimp only
    rw [next]
    dsimp only
    have sends : ¬ (!s.flag TIM.page (TIM.PPSOUT_CFG_EN j) || ((!(s.pps j).run || s.flag TIM.page (TIM.PPSOUT_CFG_SRC j))
        && decide (s.dtime < t0))) = true := by
      rcases due with ⟨run, fine⟩ | late
      · simp [en, run, fine]
      · simp [en, late]
    rw [if_neg sends]
    rfl
  · rw [exec_esmcPduRx, execEsmcPduRx, act_of_running hr, if_pos esmc]
  · rw [exec_esmcTimeout, execEsmcTimeout, act_of_running hr, if_pos ⟨esmc, silent⟩]
  · rw [exec_esmcPduSend, execEsmcPduSend, act_past_guard hr (by simp [en, packet, sync])]
    dsimp only
    rw [none_]
    rfl

end Sys2Proof.Machine

/-!
GDDR7: reads, the slow path, page writes, the scrubber, retraining, device faults and temperatures (chapter 16).
-/
namespace Sys2Proof.Machine

section
variable {s : State} {page : Nat}

/-- A page that the map holds, on a channel that serves, is written at once, unless it lies in the table region on a channel that
is OVER (R510, R512). -/
theorem State.pageWrite_commits (ecc : s.eccServes = true) (mapped : page < s.get ECC.page ECC.TOTAL_PAGES_P)
    (up : s.chDown (s.physPage page).1 = false)
    (cool : page < s.tableFirst ∨ s.tableFirst + s.tablePages ≤ page ∨ s.chOver (s.physPage page).1 = false)
    (words : List (Nat × List Nat)) (ue lost : List Nat) : s.pageWrite page words ue lost = s.commitWrite page words ue lost := by
  have now_ : ¬ ((decide (s.tableFirst ≤ page) && decide (page < s.tableFirst + s.tablePages))
      && (s.chOver (s.physPage page).1 || s.chDown (s.physPage page).1)) = true := by
    rcases cool with before | after | cool
    · simp [Nat.not_le.mpr before]
    · simp [Nat.not_lt.mpr after]
    · simp [cool, up]
  rw [State.pageWrite, if_neg (by simp [ecc, mapped]), if_neg now_, if_neg (by simp [up])]

/-- A pass of the scrubber begins with the region's first page. -/
def State.scrubBegun (s : State) (first : Bool) : State :=
  if first then { s with ecc := { s.ecc with passAt := some s.now } } else s

theorem State.scrubBegun_tableFirst (first : Bool) : (s.scrubBegun first).tableFirst = s.tableFirst := by
  cases first <;> rfl

theorem State.scrubBegun_tablePages (first : Bool) : (s.scrubBegun first).tablePages = s.tablePages := by
  cases first <;> rfl

/-- The state in which the scrubber has moved on to the page after `p`, with a pass begun where `first`. -/
def State.scrubMoved (s : State) (p : Nat) (first : Bool) : State :=
  ((s.scrubBegun first).set ECC.page ECC.SCRUB_STATUS_PAGE (p + 1)).setB ECC.page ECC.SCRUB_STATUS_STARVED false

/-- What the scrubber counts in page `p`: words that the light code corrects, that it does not, and that the strong code loses. -/
def State.scrubCounts (s : State) (p : Nat) : Nat × Nat × Nat :=
  if s.chDown (s.physPage p).1 then (0, 56, 56)
  else (List.range 56).foldl (fun (m : Nat × Nat × Nat) w =>
    let y := s.scrubWord (s.physPage p).2 w
    (m.1 + y.1, m.2.1 + y.2.1, m.2.2 + y.2.2)) (0, 0, 0)

/-- The scrubber reads a page of the table region that is not its last (R507). -/
theorem execScrubPage_within {ce ue : Fin 57} {failed : Bool} {p : Nat} {first : Bool} {t : State} {n : Nat × Nat × Nat}
    (hr : s.running = true) (period : s.get ECC.page ECC.SCRUB_CFG_PASS ≠ 0) (ecc : s.eccServes = true) (calm : s.shed = false)
    (hp : s.get ECC.page ECC.SCRUB_STATUS_PAGE = p) (after : s.tableFirst ≤ p) (before : p + 1 < s.tableFirst + s.tablePages)
    (hf : decide (p = s.tableFirst) = first)
    (due : first = true → s.ecc.passAt.any (fun t => s.now < t + s.get ECC.page ECC.SCRUB_CFG_PASS * nsSec) = false)
    (ht : s.scrubMoved p first = t) (hn : t.scrubCounts p = n) :
    execScrubPage ce ue failed s = .next (State.settle
      (if n.1 + ce.val < t.get ECC.page ECC.SCRUB_CFG_CE_TH ∧ n.2.1 + ue.val = 0 then t
      else
        let k := t.nat (ECC.page + ECC.SCRUB_WR)
        let u := t.setWords (ECCW.SLOG (k % 256)) [t.dtime % 2 ^ 32, t.dtime / 2 ^ 32 % 2 ^ 32, p,
          min 255 (n.1 + ce.val) + 2 ^ 8 * min 255 (n.2.1 + ue.val) + 2 ^ 16 *
            (if n.2.1 + ue.val = 0 then 0 else if failed || decide (0 < n.2.2) then 2 else 1)]
        (u.setNat (ECC.page + ECC.SCRUB_WR) ((k + 1) % 2 ^ 32)).raise Kind.ECC.pages.1 ECC.ev_SCRUB_REPORT)) := by
  have table : ¬ s.tablePages = 0 := by omega
  have here : ¬ (p < s.tableFirst ∨ s.tableFirst + s.tablePages ≤ p) := by omega
  have more : ¬ p + 1 = s.tableFirst + s.tablePages := by omega
  have begins : ¬ (first && s.ecc.passAt.any (fun t => s.now < t + s.get ECC.page ECC.SCRUB_CFG_PASS * nsSec)) = true := by
    cases first with
    | false => exact Bool.false_ne_true
    | true => rw [due rfl]; exact Bool.false_ne_true
  rw [execScrubPage]
  dsimp only
  rw [act_past_guard hr (by simp [period, ecc, calm, table]), hp, if_neg here, hf, if_neg begins]
  simp only [← State.scrubBegun.eq_1, State.scrubBegun_tableFirst, State.scrubBegun_tablePages]
  rw [if_neg more]
  subst hn ht
  rfl

end

/-- Settles O32: the conditions pass the guard of each command and select its branch. -/
theorem memoryRowsComplete : Obligations.MemoryRowsComplete := by
  intro s hr
  refine ⟨fun page ce served => ?_, fun page fixed who served => ?_, fun page lost served bad => ?_,
    fun page ecc mapped up cool => ⟨fun data => ?_, fun words ue lost => ?_⟩,
    fun ce ue failed period ecc calm after before due => ?_, fun ecc period => ?_, fun c again live ok => ?_, fun c on => ?_,
    fun c temp on cool => ?_⟩
  · rw [exec_gddr7Read, execGddr7Read, act_of_running hr, if_pos served]
  · rw [exec_slowPathDone, execSlowPathDone, act_past_guard hr (by simp [served])]
    rfl
  · rw [exec_slowPathDone, execSlowPathDone, act_past_guard hr (by simp [served])]
    dsimp only
    rw [decide_eq_true bad, if_neg (Nat.ne_of_gt bad)]
    rfl
  · rw [exec_wholePageWrite, execWholePageWrite, act_of_running hr, State.pageWrite_commits ecc mapped up cool]
  · rw [exec_readModifyWrite, execReadModifyWrite, act_of_running hr, State.pageWrite_commits ecc mapped up cool]
  · have page := execScrubPage_within (ce := ce) (ue := ue) (failed := failed) hr period ecc calm rfl after before rfl due rfl rfl
    rw [exec_scrubPage, page]
    refine ⟨fun few clean => ?_, fun many clean => ?_⟩
    · exact congrArg done (if_pos ⟨few, clean⟩)
    · have none_bad : (State.scrubCounts (State.scrubMoved s _ _) _).2.1 + ue.val = 0 := clean
      rw [none_bad]
      exact congrArg done (if_neg fun h => Nat.not_le.mpr h.1 many)
  · rw [exec_scrubStarved, execScrubStarved, act_of_running hr, if_pos ⟨rfl, ecc, period⟩]
  · rw [exec_memRetrain, execMemRetrain]
    dsimp only
    rw [act_past_guard hr (by simp [live]), if_pos rfl, if_neg (by simp [ok]), if_pos rfl]
  · rw [exec_channelDeviceFail, execChannelDeviceFail, act_past_guard hr on]
  · rw [exec_memTempRead, execMemTempRead, act_past_guard hr on]
    dsimp only
    rw [if_neg (by simp [cool])]

end Sys2Proof.Machine

/-!
Power and temperature: the governor, AVS, droop sheds, temperature samples and leaves (chapter 17).
-/
namespace Sys2Proof.Machine

section
variable {s : State}

theorem State.not_inReset (h : s.running = true) : s.inReset = false := by
  rw [State.running, Bool.and_eq_true, Bool.not_eq_true'] at h
  exact h.1

theorem State.not_shutdown (h : s.running = true) : s.boot.shutdown = false := by
  rw [State.running, Bool.and_eq_true, Bool.not_eq_true', Bool.not_eq_true'] at h
  exact h.2

/-- A leave that fits the budget, with none waiting, is granted at once (R521). -/
theorem State.requestLeave_grants {r : LeaveReq} (fits : s.standing + r.cost ≤ s.get PWR.page PWR.BUDGET_MW)
    (empty : s.pwr.queue = []) (may : s.mayGrant r.cost = true) : s.requestLeave r = (.granted, s.leaveGranted r) := by
  rw [State.requestLeave, if_neg (Nat.not_lt.mpr fits), empty, if_neg (by decide), if_pos (by simp [may])]

/-- The head of the queue is granted when it fits (R522). -/
theorem State.leaveAgain_grants {r : LeaveReq} {q : List LeaveReq} (head : s.pwr.queue = r :: q)
    (fits : s.standing + r.cost ≤ s.get PWR.page PWR.BUDGET_MW) (may : s.mayGrant r.cost = true) :
    s.leaveAgain = ((State.syncPower { s with pwr := { s.pwr with queue := q } }).leaveGranted r).leaveTaken r.op r.unit := by
  rw [State.leaveAgain, head]
  dsimp only
  rw [if_neg (Nat.not_lt.mpr fits), if_pos may]

end

/-- Settles O33: the conditions pass the guard of each command and select its branch. -/
theorem powerAndThermalRowsComplete : Obligations.PowerAndThermalRowsComplete := by
  intro s hr
  refine ⟨fun readings all due => ?_, fun readings fails due => ?_, fun slack u16 ready en rail good started => ?_,
    fun detector fall deep => ?_, fun detector fall shallow => ?_, fun shed over_ => ?_, ?_, fun temps => ?_,
    fun op unit steps fits empty may => ?_, fun r q head fits may => ?_, fun op unit r held => ⟨?_, ?_⟩, fun op unit late => ?_⟩
  · rw [exec_govPeriod, execGovPeriod]
    dsimp only
    rw [act_past_guard hr (Nat.not_lt.mpr due), if_neg (Bool.eq_false_iff.mp all)]
  · rw [exec_govPeriod, execGovPeriod]
    dsimp only
    rw [act_past_guard hr (Nat.not_lt.mpr due), if_pos fails]
  · rw [exec_avsEval, execAvsEval]
    dsimp only
    rw [act_past_guard hr (by simp [ready, en, rail, good]), if_neg (by simp [started])]
    simp only [started, if_true, Bool.true_or]
  · rw [exec_droopTrip, execDroopTrip, act_past_guard hr (Nat.not_le.mpr deep)]
    rfl
  · rw [exec_droopTrip, execDroopTrip, act_of_running hr, if_pos shallow]
  · rw [exec_droopShedEnd, execDroopShedEnd, act_past_guard hr (by simp [shed, over_])]
  · rw [exec_coreGateWindow, execCoreGateWindow, act_of_running hr]
  · rw [exec_thmSample, execThmSample, if_neg (Bool.eq_false_iff.mp (State.not_inReset hr)),
      if_neg (Bool.eq_false_iff.mp (State.not_shutdown hr)), done]
  · rw [exec_leaveRequest, execLeaveRequest, act_of_running hr, State.requestLeave_grants fits empty may]
  · rw [exec_leaveGrantQueued, execLeaveGrantQueued, act_of_running hr, State.leaveAgain_grants head fits may]
  · rw [exec_leaveEnd, execLeaveEnd, act_of_running hr]
    dsimp only
    rw [held]
    rfl
  · rw [exec_leaveEnd, execLeaveEnd, act_of_running hr]
    dsimp only
    rw [held]
    rfl
  · rw [exec_leaveOverrun, execLeaveOverrun]
    dsimp only
    rw [act_past_guard hr (fun unlate => Bool.false_ne_true ((congrArg (!·) late).symm.trans unlate))]

end Sys2Proof.Machine

/-!
The housekeeping converter's sequences and calibration; events, grace and quiet timers (chapters 18 and 19).
-/
namespace Sys2Proof.Machine

section
variable {s : State}

/-- A scan trigger with the converter idle and nothing waiting starts the sequence (Table 18-3). -/
theorem State.scanTrigger_starts (active : s.hkActive = true) (idle : s.hkState = hkIDLE)
    (whole_ : s.hkFlag HKA.STATUS_SCAN_INTERRUPTED = false) (none_ : s.hkFlag HKA.STATUS_SCAN_PENDING = false)
    (calm : s.shed = false) : s.scanTrigger = s.scanStart := by
  rw [State.scanTrigger, active, idle, whole_, none_, calm]
  rfl

/-- The entry in progress of the scan ends: the sequence completes, or moves on while the block is active (R544). -/
theorem execHkaEntryDone_scan {v : Int} {peak i : Nat} {w : Nat} {t : State} (hr : s.running = true) (st : s.hkState = hkSCAN)
    (hi : s.get HKA.page HKA.STATUS_SCAN_ENTRY = i) (hw : s.nat (HKA.page + HKA.SCAN_ENTRY i) = w)
    (ht : s.hkKeep (HKA.SCAN_RESULT i) (hkRaw w v) (hkOver w v || hkOver w peak) = t) (due : s.hka.at_ + s.hkEntryNs w ≤ s.now) :
    execHkaEntryDone v peak s = .next (State.settle
      (if t.get HKA.page HKA.SEQ_LEN_SCAN_LEN ≤ i + 1 then (t.raise Kind.HKA.pages.1 HKA.ev_SCAN_DONE).hkNext
      else if !t.hkActive then t.set HKA.page HKA.STATUS_STATE hkIDLE
      else (t.set HKA.page HKA.STATUS_SCAN_ENTRY (i + 1)).hkBegin (t.nat (HKA.page + HKA.SCAN_ENTRY (i + 1))))) := by
  rw [execHkaEntryDone, act_of_running hr]
  dsimp only
  rw [if_pos st, if_pos st, hi, hw, if_neg (Nat.not_lt.mpr due), ht]

/-- The entry in progress of a tip-in ends before the last: the sequence moves on while the block is active (R544). -/
theorem execHkaEntryDone_tip {v : Int} {peak i : Nat} {w : Nat} {t : State} (hr : s.running = true) (st : s.hkState = hkTIP)
    (hi : s.get HKA.page HKA.STATUS_TIP_ENTRY = i) (hw : s.nat (HKA.page + HKA.TIP_ENTRY i) = w)
    (ht : s.hkKeep (HKA.TIP_RESULT i) (hkRaw w v) (hkOver w v || hkOver w peak) = t) (due : s.hka.at_ + s.hkEntryNs w ≤ s.now)
    (more : i + 1 < t.get HKA.page HKA.SEQ_LEN_TIP_LEN) (active : t.hkActive = true) :
    execHkaEntryDone v peak s = .next (State.settle
      ((t.set HKA.page HKA.STATUS_TIP_ENTRY (i + 1)).hkBegin (t.nat (HKA.page + HKA.TIP_ENTRY (i + 1))))) := by
  have not_scan : ¬ s.hkState = hkSCAN := by rw [st]; decide
  rw [execHkaEntryDone, act_of_running hr]
  dsimp only
  rw [if_neg not_scan, if_neg not_scan, if_pos st, hi, hw, if_neg (Nat.not_lt.mpr due), ht, if_neg (Nat.not_le.mpr more),
    if_neg (by simp [active])]

end

/-- Settles O34: the conditions pass the guard of each command and select its branch. -/
theorem housekeepingAndFaultRowsComplete : Obligations.HousekeepingAndFaultRowsComplete := by
  intro s hr
  refine ⟨fun timer due active idle whole_ none_ calm => ?_, fun droop guard pin => ?_,
    fun v peak st due => ⟨fun last => ?_, fun more active => ?_⟩, fun v peak st due more active => ?_, fun zero ref st due => ?_,
    fun page index used => ?_, fun page t0 grace due => ?_, fun page fault_ safe soft due => ?_⟩
  · have starts : ({ s with hka := { s.hka with tick := s.now } } : State).scanTrigger = _ :=
      State.scanTrigger_starts active idle whole_ none_ calm
    rw [exec_scanTimerTick, execScanTimerTick, act_of_running hr, if_pos (by simp [timer, due]), starts]
  · rw [exec_tipInTrigger, execTipInTrigger, act_of_running hr]
  · rw [exec_hkaEntryDone, execHkaEntryDone_scan hr st rfl rfl rfl due, if_pos last]
  · rw [exec_hkaEntryDone, execHkaEntryDone_scan hr st rfl rfl rfl due, if_neg (Nat.not_le.mpr more), if_neg (by simp [active])]
  · rw [exec_hkaEntryDone, execHkaEntryDone_tip hr st rfl rfl rfl due more active]
  · rw [exec_hkaCalDone, execHkaCalDone, act_past_guard hr (by simp [st, due])]
  · rw [exec_eventFire, execEventFire, act_of_running hr, used]
    rfl
  · rw [exec_graceExpiry, execGraceExpiry]
    have over_ : (s.page page.val).graceFrom.any (fun t => t + s.get (pageBase page.val) HDR.GRACE_MS * nsMs ≤ s.now) = true := by
      rw [grace, Option.any_some]
      exact decide_eq_true due
    dsimp only
    rw [act_past_guard hr (by rw [over_]; exact Bool.false_ne_true)]
  · rw [exec_quietExpiry, execQuietExpiry, act_past_guard hr (by simp [fault_, safe, soft, due])]

end Sys2Proof.Machine

/-!
Security and the NV store: attestation, the key store, the random source, the guard, the TAP, commits and the scrubber (chapter 20).
-/
namespace Sys2Proof.Machine

section
variable {s : State}

/-- A granted key-store command that has not lost its key is at one of three places of its work (R577). -/
theorem execKsOperationDone_granted {op slot ty : Nat} {lengthOk verified : Bool} (hr : s.running = true)
    (op_ : s.sec.ksOp = some (op, slot, ty)) (granted : s.sec.ksGranted = true) (kept : s.sec.ksErased = false) :
    execKsOperationDone lengthOk verified s = .next (State.settle
      (if s.sec.ksTx = 2 then
        s.ksEnd 1 (if op = ksLOAD then SEC.ev_KEK_LOADED else if op = ksIMPORT then SEC.ev_KEY_WRITTEN else SEC.ev_SLOT_CLEARED)
      else if s.sec.ksTx = 1 then s
      else if op = ksIMPORT && s.nv.kek.isNone then s.ksEnd 2 SEC.ev_KEY_WRITE_FAIL
      else if !lengthOk then s.ksEnd 4 SEC.ev_KEY_WRITE_FAIL
      else if !verified then
        (if op = ksIMPORT then s.ksEnd 3 SEC.ev_UNWRAP_FAIL else s.ksEnd 5 SEC.ev_KEK_LOAD_FAIL)
      else State.nvRequest { s with sec := { s.sec with ksTx := 1 } } (if op = ksIMPORT then .key slot ty else .kek ty) 3)) := by
  rw [execKsOperationDone, act_of_running hr]
  dsimp only
  rw [op_]
  dsimp only
  rw [if_neg (by simp [granted]), if_neg (Bool.eq_false_iff.mp kept)]

/-- A commit that waits ends, and what waited for it goes on. -/
theorem execNvCommitDone_ends {readBack : Bool} {wear : Fin 101} (hr : s.inReset = false) (waits : s.nv.queue ≠ []) :
    execNvCommitDone readBack wear s = .next (s.nvCommitEnds readBack wear.val).goOn.settle := by
  have queued : s.nv.queue.isEmpty = false := List.isEmpty_eq_false_iff.mpr waits
  rw [execNvCommitDone, hr, queued]
  rfl

/-- Outside device reset a TAP instruction of IEEE 1149.1 that takes the balls puts the part into device safe state (R587). -/
theorem execTapInstruction_boundary {i : TapInstr} (hr : s.inReset = false)
    (h : i = .extest ∨ i = .extestPulse ∨ i = .extestTrain ∨ i = .clamp ∨ i = .highz) :
    execTapInstruction i s = .next
      (let t : State := { s with sec := { s.sec with boundary := true } }
       State.settle (t.nextFree.enterSafe secPg t.freeVal)) := by
  rw [execTapInstruction, if_neg (Bool.eq_false_iff.mp hr)]
  rcases h with rfl | rfl | rfl | rfl | rfl
  all_goals rfl

/-- A TAP instruction that only reads has no effect on the part (R587). -/
theorem execTapInstruction_reads {i : TapInstr} (h : i = .bypass ∨ i = .idcode ∨ i = .sample) :
    execTapInstruction i s = .next s := by
  rw [execTapInstruction]
  rcases h with rfl | rfl | rfl
  all_goals exact ite_self _

end

/-- Settles O35: the conditions pass the guard of each command and select its branch. -/
theorem securityAndStoreRowsComplete : Obligations.SecurityAndStoreRowsComplete := by
  intro s hr
  have out_of_reset : s.inReset = false := State.not_inReset hr
  refine ⟨fun l f u sig running => ⟨?_, ?_⟩, fun op slot ty op_ granted kept => ⟨fun lengthOk verified sealed_ => ?_,
      fun first kek => ?_⟩, ?_, fun sensors on => ?_, fun on busy faults => ?_, fun i h => ?_, fun i h => ?_, fun closed => ?_,
    fun opened => ?_, fun wear waits => ⟨?_, ?_⟩, fun corrected twice slots user others hours due => ?_⟩
  · rw [exec_attestComplete, execAttestComplete]
    dsimp only
    rw [act_past_guard hr (not_not_intro running), if_neg (by decide)]
  · rw [exec_attestComplete, execAttestComplete]
    dsimp only
    rw [act_past_guard hr (not_not_intro running), if_pos (show (!false) = true from rfl)]
  · rw [exec_ksOperationDone, execKsOperationDone_granted hr op_ granted kept, if_pos sealed_]
  · have key : ¬ (decide (op = ksIMPORT) && s.nv.kek.isNone) = true := by
      rw [Bool.and_eq_true, decide_eq_true_eq]
      rintro ⟨import_, none_⟩
      exact Bool.false_ne_true ((kek import_).symm.trans none_)
    rw [exec_ksOperationDone, execKsOperationDone_granted hr op_ granted kept, if_neg (by rw [first]; decide),
      if_neg (by rw [first]; decide), if_neg key, if_neg (by decide), if_neg (by decide)]
  · rw [exec_rngFail, execRngFail, act_of_running hr]
  · rw [exec_guardTrip, execGuardTrip, if_neg (by simp [on]), done]
  · rw [exec_guardSelftestComplete, execGuardSelftestComplete]
    dsimp only
    rw [if_neg (by simp [on, busy]), done]
  · exact (exec_tapInstruction i).trans (execTapInstruction_reads h)
  · exact (exec_tapInstruction i).trans (execTapInstruction_boundary out_of_reset h)
  · rw [exec_tapInstruction, execTapInstruction, if_neg (Bool.eq_false_iff.mp out_of_reset)]
    dsimp only
    rw [if_pos closed, done]
  · rw [exec_tapInstruction, execTapInstruction, if_neg (Bool.eq_false_iff.mp out_of_reset)]
    dsimp only
    rw [if_neg opened]
  · rw [exec_nvCommitDone, execNvCommitDone_ends out_of_reset waits]
  · rw [exec_nvCommitDone, execNvCommitDone_ends out_of_reset waits]
    rfl
  · rw [exec_nvScrubPass, execNvScrubPass]
    dsimp only
    rw [act_past_guard hr (not_or.mpr ⟨hours, Nat.not_lt.mpr due⟩)]

end Sys2Proof.Machine

/-!
Cores and repair: firmware replacement, watchdogs, traps, user firmware, the PMU, sweeps and memory BIST (chapters 21 and 22).
-/
namespace Sys2Proof.Machine

/-- Settles O36: the conditions pass the guard of each command and select its branch. -/
theorem coresAndRepairRowsComplete : Obligations.CoresAndRepairRowsComplete := by
  intro s hr
  refine ⟨fun quiescing off => ?_, fun version restarting => ?_, fun restarting new due => ?_,
    fun core started => ⟨fun service idle => ?_, fun user running => ?_⟩, fun core runs => ?_,
    fun verifying => ⟨fun home => ?_, ?_⟩, fun core counters pc some_ runs free => ?_, fun enabled active idle due => ?_,
    fun hits untested losses on going lit => ?_, fun c channel leave => ⟨?_, ?_⟩⟩
  · rw [exec_fwQuiesceDone, execFwQuiesceDone, act_past_guard hr (by simp [quiescing, off])]
  · rw [exec_fwRunningReport, execFwRunningReport, act_past_guard hr (not_not_intro restarting)]
  · rw [exec_fwReplaceTimeout, execFwReplaceTimeout, act_past_guard hr
      (not_or.mpr ⟨not_not_intro restarting, not_or.mpr ⟨not_not_intro new, Nat.not_lt.mpr due⟩⟩)]
  · rw [exec_coreWatchdog, execCoreWatchdog]
    dsimp only
    rw [act_past_guard hr (by simp [started, idle]; omega), if_pos service]
  · rw [exec_coreWatchdog, execCoreWatchdog]
    dsimp only
    rw [act_past_guard hr (by simp [started, running]; omega), if_neg (Nat.not_lt.mpr user)]
  · rw [exec_coreException, execCoreException]
    dsimp only
    rw [act_past_guard hr (by simp [runs])]
  · rw [exec_userVerifyDone, execUserVerifyDone]
    dsimp only
    rw [act_past_guard hr (not_not_intro verifying), if_pos (by rw [home]; rfl)]
  · rw [exec_userVerifyDone, execUserVerifyDone]
    dsimp only
    rw [act_past_guard hr (not_not_intro verifying), if_neg (by simp)]
  · rw [exec_pmuSample, execPmuSample, act_of_running hr]
    dsimp only
    rw [if_neg (not_or.mpr ⟨by rwa [List.isEmpty_iff], not_or.mpr ⟨by simp [runs], Bool.eq_false_iff.mp free⟩⟩)]
  · rw [exec_sweepPeriod, execSweepPeriod, act_past_guard hr (Nat.not_lt.mpr due)]
    dsimp only
    have clear : ¬ ((!s.flag RPR.page RPR.CTRL_SWEEP_EN) = true ∨ (!s.active rpPg) = true ∨ s.sweepBusy = true) := by
      simp [enabled, active, idle]
    exact congrArg (fun t : State => Host.Outcome.next t.settle) (if_neg clear)
  · rw [exec_sweepClassDone, execSweepClassDone, act_past_guard hr (by simp [on, going, lit])]
  · rw [exec_memBistDone, execMemBistDone, act_of_running hr]
    dsimp only
    rw [channel]
    dsimp only
    rw [if_neg (by simp [leave]), if_pos (show (!false) = true from rfl)]
  · rw [exec_memBistDone, execMemBistDone, act_of_running hr]
    dsimp only
    rw [channel]
    dsimp only
    rw [if_neg (by simp [leave]), if_neg (show ¬ (!true) = true by decide)]

end Sys2Proof.Machine

/-!
Requests of an open session that execute and are answered (3.9, R92 to R104).
-/
namespace Sys2Proof.Machine

section
variable {s t u : State} {h : ReqHdr} {q : Req} {r : Resp}

/-- A request that is answered at once, and does not close its session. -/
theorem State.Takes.answered (k : s.Takes h q t) (hq : q ≠ .close) (hp : t.perform h.slot h q = (some r, u)) :
    act s (·.request h q) = .next (u.respond h.slot h.tag.toNat r).settle := by
  rw [k.request, State.runReq, hp]
  cases q
  case close => exact absurd rfl hq
  all_goals rfl

/-- A FILL that is answered later holds back no other request (R99). -/
theorem State.Takes.filled {a : BitVec 32} {n : Nat} {pat : List Word} (k : s.Takes h (.fill a n pat) t)
    (hp : t.perform h.slot h (.fill a n pat) = (none, u)) : act s (·.request h (.fill a n pat)) = .next u.settle := by
  rw [k.request, State.runReq, hp]

/-! ### Accesses of one word (R96) -/

/-- A read of a word that is there, but for the high word of a 64-bit register, returns what the word shows. -/
theorem State.readAt_of_place {src : Src} {a : Nat} {pl : Place} (hd : readDenied src a = false) (aligned : a % 4 = 0)
    (below : a < gddrBase) (there : placeAt a = some pl) (free : s.filling a = false) (live : pl.half ≠ 2) :
    s.readAt src a = ⟨rsOK, false, s.shown a pl, s.afterRead src.code a pl⟩ := by
  rw [State.readAt]
  dsimp only
  rw [if_neg (by simp [hd]), if_neg (by omega), there]
  dsimp only
  rw [if_neg (by simp [free]), if_neg (by simp [live])]

theorem State.perform_read {a : BitVec 32} {x : Acc} (hx : s.readAt (.rap h) a.toNat = x) (now : x.later = false) :
    s.perform h.slot h (.read a) = (some (x.resp true), x.st) := by
  simp only [State.perform, hx, now, Bool.false_eq_true, if_false]

theorem State.perform_write {a v : BitVec 32} {x : Acc}
    (hx : s.writeAt (.rap h) (some (h.slot.val, h.tag.toNat)) a.toNat v.toNat = x) (now : x.later = false) :
    s.perform h.slot h (.write a v) = (some (status x.status), x.st) := by
  simp only [State.perform, hx, now, Bool.false_eq_true, if_false, Acc.resp, Bool.false_and, status]

theorem State.perform_modify {a m v : BitVec 32} {x : Acc}
    (hx : s.modifyAt (.rap h) (some (h.slot.val, h.tag.toNat)) a.toNat m.toNat v.toNat = x) (now : x.later = false) :
    s.perform h.slot h (.modify a m v) = (some (x.resp true), x.st) := by
  simp only [State.perform, hx, now, Bool.false_eq_true, if_false]

/-- The response of an access that returns a word. -/
theorem Acc.resp_of_ok {x : Acc} (ok : x.status = rsOK) : x.resp true = { status := rsOK, words := [BitVec.ofNat 32 x.word] } := by
  rw [Acc.resp, if_pos (by simp [ok]), ok]

/-! ### Bulk accesses of registers and on-die tables (R97) -/

theorem State.perform_bulkWrite {a : BitVec 32} {n k st : Nat} {ws : List Word} (below : a.toNat < gddrBase)
    (hd : s.writeDenied (.rap h) a.toNat = false) (aligned : a.toNat % 4 = 0)
    (hw : State.bulkWrite (.rap h) (some (h.slot.val, h.tag.toNat)) (ws.map (·.toNat)) a.toNat 0 s = (st, k, none, u)) :
    s.perform h.slot h (.bulkWrite a n ws) = (some { status := st, done := k }, u) := by
  simp only [State.perform, if_neg (Nat.not_le.mpr below), hd, Bool.false_eq_true, if_false, aligned, ne_eq, not_true_eq_false,
    State.bulkGo, hw, Option.isNone_some]

theorem State.perform_bulkRead {a : BitVec 32} {n st : Nat} {l : List Word} (below : a.toNat < gddrBase) (aligned : a.toNat % 4 = 0)
    (hw : State.bulkRead (.rap h) n a.toNat [] s = (st, l, u)) :
    s.perform h.slot h (.bulkRead a n) = (some { status := st, words := l, done := l.length }, u) := by
  simp only [State.perform, if_neg (Nat.not_le.mpr below), aligned, if_true, hw]

/-! ### FILL (R98) -/

/-- A FILL of an on-die table whose leave is granted begins. -/
theorem State.fillAsk_of_table {src : Src} {toTag : Nat × Nat} {a n : Nat} {pat : List Word} (known : s.isClaim src = false)
    (below : a < gddrBase) (aligned : a % 4 = 0) (table : (segAt a).isNone = false) (free : s.rap.fill = none)
    (leave : (s.unlink src.code).requestLeave { catalogue 4 0 with durationMs := Config.fillMs n } = (.granted, u)) :
    s.fillAsk src toTag a n pat = (none, State.deferred { u with rap := { u.rap with
      fill := some { addr := a, count := n, pattern := pat, slot := toTag.1, tag := toTag.2, running := true } } }) := by
  have known' : (s.unlink src.code).isClaim src = false := by cases src <;> exact known
  have free' : ((s.unlink src.code).rap.fill).isSome = false := by
    show s.rap.fill.isSome = false
    rw [free]
    rfl
  have onDie : decide (gddrBase ≤ a) = false := decide_eq_false (Nat.not_le.mpr below)
  rw [State.fillAsk]
  simp only [known', aligned, onDie, table, free', leave, Bool.false_eq_true, false_and, and_false, if_false, ne_eq,
    not_true_eq_false, or_self]
  rfl

end

/-- Settles O11: each request is performed as its conditions say, and answered. -/
theorem requestRowsComplete : Obligations.RequestRowsComplete := by
  intro s t h
  refine ⟨fun k => ?_, fun k => ?_, fun a pl k aligned below there free live => ?_, fun a v k ok now => ?_,
    fun a m v k ok now => ?_, fun a n ws k below hd aligned st done u hw => ?_, fun a n k below aligned st l u hw => ?_,
    fun a n pat u k known below aligned table free leave => ?_, fun o bytes k known => ?_, fun len k known => ?_,
    fun p c k => ?_, fun p i k known page index => ?_⟩
  · rw [exec_nop, execNop, k.answered (by simp) rfl]
  · rw [exec_sessionClose, execSessionClose, k.request]
    rfl
  · rw [exec_read, execRead, k.answered (by simp) (State.perform_read
      (State.readAt_of_place rfl aligned below there free live) rfl), Acc.resp_of_ok rfl]
  · rw [exec_write, execWrite, k.answered (by simp) (State.perform_write rfl now), ok]
  · rw [exec_modify, execModify, k.answered (by simp) (State.perform_modify rfl now), Acc.resp_of_ok ok]
  · rw [exec_bulkWrite, execBulkWrite, k.answered (by simp) (State.perform_bulkWrite below hd aligned hw)]
  · rw [exec_bulkRead, execBulkRead, k.answered (by simp) (State.perform_bulkRead below aligned hw)]
  · rw [exec_fill, execFill, k.filled (State.fillAsk_of_table known below aligned table free leave)]
  · rw [exec_imagePush, execImagePush, k.answered (by simp) (by rw [State.perform]; dsimp only; rw [known]; rfl)]
  · rw [exec_imageCommit, execImageCommit, k.answered (by simp) (by rw [State.perform, known]; rfl)]
  · rw [exec_evtSubscribe, execEvtSubscribe, k.answered (by simp) rfl]
  · rw [exec_evtAck, execEvtAck, k.answered (by simp) (by
      rw [State.perform, known, page, if_neg (by simp), if_neg (by simp [Nat.not_le.mpr index])])]

end Sys2Proof.Machine

/-!
Session set-up and end, frames that RAP drops, IPv6 and the management link (3.6 to 3.10).
-/
namespace Sys2Proof.Machine

section
variable {s : State} {via : Via} {hello : Bool}

/-- What a frame for this part does after READY is what its row does with it. -/
theorem act_heard {f : State → State} (hr : s.running = true) (up : s.rapUp = true) (ready : s.ready = true)
    (me : s.toMe via hello = true) (sum : via.udp = true → via.sumOk = true) :
    act s (·.heard via hello f) = .next (f s).settle := by
  rw [act_of_running hr, State.heard_of_ready up ready me sum]

end

/-- Settles O12: the frame reaches its row, whose conditions select its branch. -/
theorem sessionRowsComplete : Obligations.SessionRowsComplete := by
  intro s via hr up ready sum
  refine ⟨fun tag min max v me room agrees => ?_, fun tag id key k i me known room random runs free => ?_,
    fun tag slot me accepted room runs => ?_, fun slot idle taken due => ?_, fun slot tag => ?_, fun me => ⟨?_, ?_, ?_, ?_, ?_⟩,
    fun addr v6 own => ⟨?_, ?_⟩, fun isUp => ?_, fun isDown live => ?_, fun f written fill running waits => ?_⟩
  · rw [exec_hello, execHello, act_heard hr up ready me sum]
    dsimp only
    rw [if_neg (Nat.not_le.mpr room), agrees]
  · rw [exec_sessionInit, execSessionInit, act_heard hr up ready me sum]
    dsimp only
    rw [if_neg (by simp [known]), if_neg (Nat.not_le.mpr room), if_neg (by simp [random]), if_neg (by simp [runs]), free]
    rfl
  · rw [exec_sessionConfirm, execSessionConfirm, act_heard hr up ready me sum]
    dsimp only
    rw [if_neg (not_not_intro accepted), if_neg (by simp), if_neg (Nat.not_le.mpr room), if_neg (by simp [runs])]
  · rw [exec_sessionIdleTimeout, execSessionIdleTimeout, act_past_guard hr 
      (not_or.mpr ⟨taken, fun early => due.elim (Nat.not_le.mpr early.1) (Nat.not_le.mpr early.2)⟩)]
  · rw [exec_responseRetentionExpiry, execResponseRetentionExpiry, act_of_running hr]
  · rw [exec_rapInvalidFrame, execRapInvalidFrame]
    exact act_heard hr up ready me sum
  · rw [exec_rapInvalidFrame, execRapInvalidFrame]
    exact act_heard hr up ready me sum
  · rw [exec_rapInvalidFrame, execRapInvalidFrame]
    exact act_heard hr up ready me sum
  · rw [exec_rapInvalidFrame, execRapInvalidFrame]
    exact act_heard hr up ready me sum
  · intro i opened
    rw [exec_rapInvalidFrame, execRapInvalidFrame]
    refine (act_heard hr up ready me sum).trans ?_
    rw [if_pos opened]
  · rw [exec_neighborSolicitation, execNeighborSolicitation, act_of_running hr, if_pos (by simp [v6, own])]
  · rw [exec_icmpv6Echo, execIcmpv6Echo, act_of_running hr, if_pos (by simp [v6, own])]
  · rw [exec_mgtLinkDown, execMgtLinkDown, act_past_guard hr (by simp [isUp])]
    exact congrArg (fun t : State => Host.Outcome.next t.settle) (if_pos ready)
  · rw [exec_mgtLinkUp, execMgtLinkUp, act_past_guard hr (by simp [isDown, live])]
  · rw [exec_fillComplete, execFillComplete, act_of_running hr, fill]
    dsimp only
    rw [if_pos (by simp [running, waits])]

end Sys2Proof.Machine

/-!
Rows that are a core's write of a table entry, of its last word, or of one register more (3.5, R81), and the commands that only a
session may give.
-/
namespace Sys2Proof.Machine

/-! ### Tables -/

/-- The table at offset `off` of window `win`, with entries of `n` words, some of them writable. -/
structure WinSeg.IsTable (g : WinSeg) (win off n : Nat) : Prop where
  win : g.win = win
  off : g.off = off
  stride : g.stride = 4 * n
  writable : (List.range (g.stride / 4)).any (fun i => g.rw.getD i 0 != 0) = true

/-- The tables that rows write: window, offset, words of an entry. -/
def rowTables : List (Nat × Nat × Nat) :=
  [(0, 0, 4), (1, 0, 4), (6, 0x1000, 8), (7, 0x1000, 8), (13, 0, 16), (14, 0, 8), (18, 0, 4), (19, 0, 8), (20, 0, 4), (21, 0, 4),
    (21, 0x400000, 4), (21, 0x400400, 4), (22, 0, 4), (24, 0, 1)]

theorem rowTables_shape : ∀ g ∈ winSegs, ∀ x ∈ rowTables, g.win = x.1 → g.off = x.2.1 →
    g.stride = 4 * x.2.2 ∧ (List.range (g.stride / 4)).any (fun i => g.rw.getD i 0 != 0) = true := by decide +kernel

section
variable {s u : State} {c : Fin 8} {src : Src} {g : WinSeg} {e n win off : Nat} {ws : List Nat}

theorem State.MayCommit.isTable (h : s.MayCommit c g e) (hx : (win, off, n) ∈ rowTables) (hw : g.win = win) (ho : g.off = off) :
    g.IsTable win off n :=
  have shape := rowTables_shape g h.mem _ hx hw ho
  ⟨hw, ho, shape.1, shape.2⟩

theorem WinSeg.IsTable.words (t : g.IsTable win off n) : g.stride / 4 = n := by
  rw [t.stride]
  omega

theorem WinSeg.IsTable.entryAddr (t : g.IsTable win off n) :
    entryAddr g e = 0x20000000 + 0x1000000 * win + off + e * (4 * n) := by
  rw [Machine.entryAddr, t.win, t.off, t.stride]

/-- A whole entry is handed to the block that owns its table. -/
theorem WinSeg.IsTable.acts (t : g.IsTable win off n) (hl : ws.length = n) :
    ¬ ((((List.range ws.length).filter (fun i => g.rw.getD i 0 != 0)).map
      (fun i => (Machine.entryAddr g e + 4 * i, ws.getD i 0))).isEmpty = true) :=
  commit_acts (hl.trans t.words.symm) t.writable

/-! ### What takes an entry -/

theorem commitEntry_cal (k : Fin 2) (t : g.IsTable k off n) (hl : ws.length = n) :
    u.commitEntry src g e ws = winCAL k (entryAddr g e + 12) (ws.getD 3 0) u := by
  match k with
  | 0 | 1 => simp only [State.commitEntry, if_neg (t.acts hl), t.win, Fin.val_zero, Fin.val_one]

theorem commitEntry_gth (t : g.IsTable 13 off n) (hl : ws.length = n) : u.commitEntry src g e ws = entGTH e ws u := by
  simp only [State.commitEntry, if_neg (t.acts hl), t.win]

theorem commitEntry_cry (t : g.IsTable 14 off n) (hl : ws.length = n) : u.commitEntry src g e ws = entCRY e ws u := by
  simp only [State.commitEntry, if_neg (t.acts hl), t.win]

theorem commitEntry_qmg (t : g.IsTable 18 off n) (hl : ws.length = n) : u.commitEntry src g e ws = entQ e ws u := by
  simp only [State.commitEntry, if_neg (t.acts hl), t.win]

theorem commitEntry_mtr (t : g.IsTable 19 off n) (hl : ws.length = n) : u.commitEntry src g e ws = entMTR e ws u := by
  simp only [State.commitEntry, if_neg (t.acts hl), t.win]

theorem commitEntry_route (t : g.IsTable 22 0 n) (hl : ws.length = n) :
    u.commitEntry src g e ws = entROUTE (isFirmware src) e ws u := by
  simp only [State.commitEntry, if_neg (t.acts hl), t.win, t.off, if_true]

theorem commitEntry_raw (t : g.IsTable 24 off n) (hl : ws.length = n) :
    u.commitEntry src g e ws = u.rawWordWrite e (ws.getD 0 0) := by
  simp only [State.commitEntry, if_neg (t.acts hl), t.win]

/-- The number of a shaper by its table: queues, endpoints, gatherings, fabric links (R424). -/
theorem commitEntry_shp {k : Nat} (t : g.IsTable win off n) (hl : ws.length = n)
    (hk : (win, off, k) ∈ [(20, 0, e), (21, 0, 2 ^ 20 + e), (21, 0x400000, 2 ^ 21 + e), (21, 0x400400, 2 ^ 21 + 64 + e)]) :
    u.commitEntry src g e ws = entSHP k ws u := by
  simp only [List.mem_cons, Prod.mk.injEq, List.not_mem_nil, or_false] at hk
  obtain ⟨rfl, rfl, rfl⟩ | ⟨rfl, rfl, rfl⟩ | ⟨rfl, rfl, rfl⟩ | ⟨rfl, rfl, rfl⟩ := hk
  · simp only [State.commitEntry, if_neg (t.acts hl), t.win]
  · simp only [State.commitEntry, if_neg (t.acts hl), t.win, t.off, if_true]
  · simp only [State.commitEntry, if_neg (t.acts hl), t.win, t.off, if_true, if_neg (show ¬ 0x400000 = 0 by decide)]
  · simp only [State.commitEntry, if_neg (t.acts hl), t.win, t.off, if_neg (show ¬ 0x400400 = 0 by decide),
      if_neg (show ¬ 0x400400 = 0x400000 by decide)]

/-! ### Rows that write an entry -/

/-- A row that writes all words of an entry, where `f` takes the entry. -/
theorem State.MayCommit.row {f : List Nat → State → WOut} {ws : List Word} {a : Nat} (h : s.MayCommit c g e)
    (t : g.IsTable win off n) (takes : ∀ {l : List Nat} {u : State}, l.length = n → u.commitEntry (.core c) g e l = f l u)
    (hl : ws.length = n) (hj : (f (s.entryOf g e (ws.map (·.toNat))) (s.unstaged c)).rej = none)
    (ha : a = 0x20000000 + 0x1000000 * win + off + e * (4 * n)) :
    hostEntry (.core c) a ws s = .next (f (s.entryOf g e (ws.map (·.toNat))) (s.unstaged c)).st.settle :=
  core_entry_of h (hl.trans t.words.symm) (takes (by rw [State.entryOf, List.length_map, List.length_range, t.words])) hj
    (ha.trans t.entryAddr.symm)

theorem State.keyWords_length {tx : Bool} {slot salt : Nat} : (s.keyWords e tx slot salt).length = 8 := by
  simp [State.keyWords, State.entryWords]

end

/-- Settles O44: each row writes all words of an entry, which its table's block takes. -/
theorem entryRowsComplete : Obligations.EntryRowsComplete := by
  intro s
  refine ⟨fun c g e ws hw ho h hl hj => ?_, fun c g e ws hw ho h hl hj => ?_, fun c g e slot salt hw ho h hj => ?_,
    fun c g e slot salt hw ho h hj => ?_, fun c g m ws hw ho h hl hj => ?_, fun c g q profile en hw ho h hj => ?_,
    fun c g e ws hw ho h hl hj => ?_⟩
  · have t := h.isTable (n := 16) (by decide) hw ho
    exact (exec_gatheringCommit _ _ _).trans (h.row t (commitEntry_gth t) hl hj (by rw [GTHW.CFG]; omega))
  · have t := h.isTable (n := 8) (by decide) hw ho
    exact (exec_keyEntryCommit _ _ _).trans (h.row t (commitEntry_cry t) hl hj (by rw [CRYW.KEY]; omega))
  · have t := h.isTable (n := 8) (by decide) hw ho
    exact (exec_txKeyLoad _ _ _ _).trans (h.row t (commitEntry_cry t) (by rw [List.length_map, State.keyWords_length]) hj
      (by rw [CRYW.KEY]; omega))
  · have t := h.isTable (n := 8) (by decide) hw ho
    exact (exec_rxKeyLoad _ _ _ _).trans (h.row t (commitEntry_cry t) (by rw [List.length_map, State.keyWords_length]) hj
      (by rw [CRYW.KEY]; omega))
  · have t := h.isTable (n := 8) (by decide) hw ho
    exact (exec_meterCommit _ _ _).trans (h.row t (commitEntry_mtr t) hl hj (by rw [MTRW.M]; omega))
  · have t := h.isTable (n := 4) (by decide) hw ho
    exact (exec_queueEntryCommit _ _ _ _).trans (h.row t (commitEntry_qmg t) rfl hj (by rw [QMGW.Q]; omega))
  · have t := h.isTable (n := 4) (by decide) hw ho
    exact (exec_routeEntryCommit _ _ _).trans (h.row t (commitEntry_route t) hl hj (by rw [FBRW.ROUTE]; omega))

/-! ### Shapers -/

section
variable {s : State} {c : Fin 8} {g : WinSeg} {e win off k : Nat} {x : ShaperSel}

/-- SHAPER_COMMIT by a core, of the shaper `x`, entry `e` of its table. -/
theorem State.MayCommit.shaperCommit {ws : List Word} (h : s.MayCommit c g e) (t : g.IsTable win off 4)
    (hk : (win, off, k) ∈ [(20, 0, e), (21, 0, 2 ^ 20 + e), (21, 0x400000, 2 ^ 21 + e), (21, 0x400400, 2 ^ 21 + 64 + e)])
    (ha : shaperAddr x = 0x20000000 + 0x1000000 * win + off + e * (4 * 4)) (hl : ws.length = 4)
    (hj : (entSHP k (s.entryOf g e (ws.map (·.toNat))) (s.unstaged c)).rej = none) :
    exec (.shaperCommit x ws (.core c)) s = .next (entSHP k (s.entryOf g e (ws.map (·.toNat))) (s.unstaged c)).st.settle :=
  (exec_shaperCommit _ _ _).trans (h.row t (fun hl => commitEntry_shp t hl hk) hl hj ha)

/-- CLEAR_DEBT by a core: the entry as it stands, with CLEAR_DEBT (R425). -/
theorem State.MayCommit.clearDebt {ws : List Word} (h : s.MayCommit c g e) (t : g.IsTable win off 4)
    (hk : (win, off, k) ∈ [(20, 0, e), (21, 0, 2 ^ 20 + e), (21, 0x400000, 2 ^ 21 + e), (21, 0x400400, 2 ^ 21 + 64 + e)])
    (ha : shaperAddr x = 0x20000000 + 0x1000000 * win + off + e * (4 * 4))
    (hl : ws = (s.entryWords (shaperAddr x) 3 ++ [setBit (s.nat (shaperAddr x + 12)) 0]).map (BitVec.ofNat 32))
    (hj : (entSHP k (s.entryOf g e (ws.map (·.toNat))) (s.unstaged c)).rej = none) :
    exec (.clearDebt x (.core c)) s = .next (entSHP k (s.entryOf g e (ws.map (·.toNat))) (s.unstaged c)).st.settle := by
  subst hl
  exact (exec_clearDebt _ _).trans (h.row t (fun hl => commitEntry_shp t hl hk) rfl hj ha)

end

/-- Settles O45: each row writes all words of a shaper's entry; the table tells which shaper it is. -/
theorem shaperRowsComplete : Obligations.ShaperRowsComplete := by
  intro s
  refine ⟨fun c g q ws hw ho h hl hj => ?_, fun c g q hw ho h hj => ?_, fun c g e ws hw ho h hl hj => ?_,
    fun c g e hw ho h hj => ?_, fun c g e ws hw ho h hl hj => ?_, fun c g e hw ho h hj => ?_,
    fun c g k ws hw ho h hl hj => ?_, fun c g k hw ho h hj => ?_⟩
  · exact h.shaperCommit (h.isTable (by decide) hw ho) (by simp) (by rw [shaperAddr, SHPW.QSH]; omega) hl hj
  · exact h.clearDebt (h.isTable (by decide) hw ho) (by simp) (by rw [shaperAddr, SHPW.QSH]; omega) rfl hj
  · exact h.shaperCommit (h.isTable (by decide) hw ho) (by simp) (by rw [shaperAddr, SHPW.ESH]; omega) hl hj
  · exact h.clearDebt (h.isTable (by decide) hw ho) (by simp) (by rw [shaperAddr, SHPW.ESH]; omega) rfl hj
  · exact h.shaperCommit (h.isTable (by decide) hw ho) (by simp) (by rw [shaperAddr, SHPW.GSH]; omega) hl hj
  · exact h.clearDebt (h.isTable (by decide) hw ho) (by simp) (by rw [shaperAddr, SHPW.GSH]; omega) rfl hj
  · exact h.shaperCommit (h.isTable (by decide) hw ho) (by simp) (by rw [shaperAddr, SHPW.FSH]; omega) hl hj
  · exact h.clearDebt (h.isTable (by decide) hw ho) (by simp) (by rw [shaperAddr, SHPW.FSH]; omega) rfl hj

/-! ### Rows that write the last word of an entry, or two registers -/

section
variable {s t u : State} {c : Fin 8} {g : WinSeg} {e n v a b : Nat}

/-- The last word of an entry, written alone, stands in the entry as written; the others stand as they were. -/
theorem State.lastOf_getD (hn : g.stride / 4 = n + 1) : (s.lastOf g e v).getD n 0 = merged s g e n v := by
  rw [State.lastOf, List.getD_eq_getElem?_getD, List.getElem?_map, hn, List.getElem?_range (Nat.lt_succ_self n)]
  simp

theorem State.lastOf_length : (s.lastOf g e v).length = g.stride / 4 := by
  rw [State.lastOf, List.length_map, List.length_range]

/-- A write that passes the checks before the block's own ends as the block says, by the block's answer. -/
theorem writeAt_reg_of {src : Src} {toTag : Option (Nat × Nat)} {k : Kind} {p off m : Nat} {o : WOut}
    (hm : s.mayWrite src a v = true) (hk : (placeAt a).bind Place.key = some (k, m, p, off))
    (ho : (s.reached src).handle src toTag k m p off (s.written a v) = o) (hj : o.rej = none) :
    s.writeAt src toTag a v = ⟨rsOK, o.later, 0, o.st.wrote a⟩ := by
  obtain ⟨r, l, x⟩ := o
  have taken : r = none := hj
  subst taken
  exact writeAt_reg hm hk ho

/-- Two consecutive registers that a core writes, where their block takes both words. -/
theorem core_writes_two {k : Kind} {p off m a' off' : Nat} {o q : WOut} (hr : s.running = true) (hc : s.coreRuns c = true)
    (hm : s.mayWrite (.core c) a v = true) (hk : (placeAt a).bind Place.key = some (k, m, p, off))
    (ho : (s.reached (.core c)).handle (.core c) none k m p off (s.written a v) = o) (hj : o.rej = none)
    (ha' : a' = a + 4) (hm' : (o.st.wrote a).mayWrite (.core c) a' b = true)
    (hk' : (placeAt a').bind Place.key = some (k, m, p, off'))
    (hq : ((o.st.wrote a).reached (.core c)).handle (.core c) none k m p off' ((o.st.wrote a).written a' b) = q)
    (hj' : q.rej = none) (ha : v < 2 ^ 32) (hb : b < 2 ^ 32) :
    hostWords (.core c) a [v, b] s = .next (q.st.wrote a').settle := by
  subst ha'
  have ev : (BitVec.ofNat 32 v).toNat = v := by rw [BitVec.toNat_ofNat, Nat.mod_eq_of_lt ha]
  have eb : (BitVec.ofNat 32 b).toNat = b := by rw [BitVec.toNat_ofNat, Nat.mod_eq_of_lt hb]
  rw [hostWords, hostEntry, act_of_running hr]
  dsimp only
  rw [if_pos hc]
  simp only [List.map_cons, List.map_nil, ev, eb, State.coreWrites, writeAt_reg_of hm hk ho hj, writeAt_reg_of hm' hk' hq hj', ne_eq,
    not_true_eq_false, if_false]

theorem State.handle_pmb {src : Src} {toTag : Option (Nat × Nat)} {p off m : Nat} (past : ¬ off < 0x100) :
    s.handle src toTag .PMB m p off v = wrPMB off v s := by
  rw [State.handle.eq_def, if_neg past]

theorem State.handle_frCmd {src : Src} {toTag : Option (Nat × Nat)} {p m : Nat} :
    s.handle src toTag .SEC m p SEC.FR_CMD v = s.frCmd v toTag := by
  rw [State.handle.eq_def, if_neg (by decide)]
  rfl

end

/-! ### Rows that a session gives -/

section
variable {s t : State} {h : ReqHdr} {v off : Nat} {i : Instr} {f : Nat → State → WOut}

theorem key_session : ∀ off ∈ [SEC.AUTH_CMD, SEC.DEBUG_CMD], (placeAt (SEC.page + off)).bind Place.key
    = some (.SEC, 0, secPg, off) ∧ ¬ off < 0x100 ∧ SEC.page + off < 2 ^ 32 := by decide +kernel

/-- A row of SEC that a session gives, where SEC takes the word by `f`. -/
theorem State.SessionDoes.of_sec (hi : exec i s = hostWrite (.rap h) (SEC.page + off) v s)
    (ho : off ∈ [SEC.AUTH_CMD, SEC.DEBUG_CMD]) (hv : v < 2 ^ 32)
    (hf : ∀ {x : Nat} {u : State}, wrSEC (some (h.slot.val, h.tag.toNat)) off x u = f x u) :
    s.SessionDoes t h (SEC.page + off) v i f := by
  intro ht hm hj
  obtain ⟨hk, past, ha⟩ := key_session off ho
  refine hi.trans (session_write_of ht ha hv hm hk ?_ hj)
  rw [State.handle.eq_def, if_neg past]
  exact hf

end

/-- Settles O46: each row writes one word, two registers, or one register for the session that gives it. -/
theorem singleWordAndSessionRowsComplete : Obligations.SingleWordAndSessionRowsComplete := by
  intro s
  refine ⟨fun c g n e target hw ho h hn => ?_, fun c g n leaf listed hw ho h hn => ?_, fun c g i v hw ho h hn => ?_,
    fun c offset => ?_, fun c mode sigOk => ?_, fun t h index => ?_, fun t h index => ?_, fun t h key => ?_, fun h a v => ?_⟩
  · intro o hj
    have t := h.isTable (win := n.val) (n := 4) (by fin_cases n <;> decide) hw ho
    have base : CALW.SUBCONV n e = entryAddr g e := by rw [CALW.SUBCONV, t.entryAddr]; omega
    refine (exec_calTargetWrite _ _ _ _).trans (h.last_of hn ?_ hj (by rw [base, t.words]))
    rw [commitEntry_cal n t (by rw [State.lastOf_length, t.words]), State.lastOf_getD t.words, base.symm]
  · intro v o hj
    have t := h.isTable (win := 6 + n.val) (n := 8) (by fin_cases n <;> decide) hw ho
    refine (exec_leafListedWrite _ _ _ _).trans (h.last_of hn rfl hj ?_)
    rw [t.words, t.entryAddr, SUBW.LEAFE]
    simp only [SUBW.LEAFE_LISTED]
    omega
  · intro o hj
    have t := h.isTable (n := 1) (by decide) hw ho
    refine (exec_rawWindowWrite _ _ _).trans (h.last_of hn ?_ hj (by rw [t.words, t.entryAddr, ECCW.RAW]; omega))
    rw [commitEntry_raw t (by rw [State.lastOf_length, t.words]), State.lastOf_getD t.words]
  · intro lo hi a b o t q hr hc hm hj hm' hj'
    have low : a < 2 ^ 32 := Nat.mod_lt _ (by decide)
    have high : b < 2 ^ 32 := Nat.div_lt_of_lt_mul offset.isLt
    have past : ¬ PMB.ALIGN_OFFSET < 0x100 := by decide
    have past' : ¬ PMB.ALIGN_OFFSET + 4 < 0x100 := by decide
    exact (exec_alignOffsetWrite _ _).trans (core_writes_two (m := 0) (p := Kind.PMB.pages.1) hr hc hm (by decide +kernel)
      (State.handle_pmb past) hj rfl hm' (by decide +kernel) (State.handle_pmb past') hj' low high)
  · intro a v t o hr hc hm hj
    have taken : t.writeAt (.core c) none a v = ⟨rsOK, o.later, 0, o.st.wrote a⟩ :=
      writeAt_reg_of hm (m := 0) (p := secPg) (by decide +kernel) State.handle_frCmd hj
    rw [exec_frEnter, execFrEnter, act_of_running hr]
    dsimp only
    rw [if_pos hc]
    exact congrArg (fun x : Acc => Host.Outcome.next (State.settle { x.st with sec := { x.st.sec with sigHint := none } })) taken
  · exact .of_sec (exec_authAdd _ _) (by decide) (by omega) rfl
  · exact .of_sec (exec_authRemove _ _) (by decide) (by omega) rfl
  · exact .of_sec (exec_debugOpen _ _) (by decide) (by omega) rfl
  · rw [exec_registerWrite, exec_write, execRegisterWrite, hostWrite, execWrite]
    simp only [BitVec.ofNat_toNat, BitVec.setWidth_eq]

end Sys2Proof.Machine

/-!
Accesses that a requester's address or word makes fail: misaligned ones, partial words of GDDR7, ENABLE = 0 on the control pages,
values out of range and CONFIG only fields (3.3 to 3.5, R68, R70, R75, R83, R641).
-/
namespace Sys2Proof.Machine

section
variable {s t u : State} {h : ReqHdr} {src : Src} {toTag : Option (Nat × Nat)} {n : Nat} {ws : List Word} {r : Resp}

/-! ### Accesses of one word -/

/-- A read of no whole word below the GDDR7 window ends with ALIGN, where it is not forbidden (R76, R83, R641). -/
theorem State.readAt_align {a : Nat} (bad : a % 4 ≠ 0 ∨ gddrBase ≤ a) : s.readAt src a =
    if readDenied src a then ⟨rsDENIED, false, 0, s.unlink src.code⟩ else ⟨rsALIGN, false, 0, s.unlink src.code⟩ := by
  rw [State.readAt, if_pos bad]

/-- A write that its requester may not make is one before its snapshot link ends and after it. -/
theorem State.writeDenied_unlink {a i : Nat} : (s.unlink i).writeDenied src a = s.writeDenied src a := by
  cases src <;> rfl

/-- A write of no whole word below the GDDR7 window ends with ALIGN, where it is not forbidden (R76, R83, R641). -/
theorem State.writeAt_align {a v : Nat} (bad : a % 4 ≠ 0 ∨ gddrBase ≤ a) : s.writeAt src toTag a v =
    if s.writeDenied src a then ⟨rsDENIED, false, 0, s.unlink src.code⟩ else ⟨rsALIGN, false, 0, s.unlink src.code⟩ := by
  rw [State.writeAt, if_pos bad, State.writeDenied_unlink]

/-- A MODIFY whose write fails ends as that write does. -/
theorem State.modifyAt_of_failed {a m v st : Nat} (failed : st ≠ rsOK)
    (hw : ∀ x, s.writeAt src toTag a x = ⟨st, false, 0, u⟩) : s.modifyAt src toTag a m v = ⟨st, false, 0, u⟩ := by
  rw [State.modifyAt]
  simp only [hw, ne_eq, failed, not_false_eq_true, if_true]

/-- The response of an access that fails. -/
theorem Acc.resp_of_failed {x : Acc} {w : Bool} (failed : x.status ≠ rsOK) : x.resp w = Machine.status x.status := by
  rw [Acc.resp, if_neg (by simp [failed]), Machine.status]

/-- A session that is no claim session may write everywhere (R573, R574). -/
theorem State.writeDenied_of_member {a : Nat} (member : (s.session h.slot).claim = false) :
    s.writeDenied (.rap h) a = false := by
  rw [State.writeDenied, State.isClaim, member]
  rfl

/-! ### Bulk accesses and FILL -/

/-- Where a bulk access returns ALIGN: no multiple of 4, and in the GDDR7 window no whole 32-byte words (R83, R641). -/
def partialRun (a n : Nat) : Prop := a % 4 ≠ 0 ∨ (gddrBase ≤ a ∧ (a % 32 ≠ 0 ∨ n % 8 ≠ 0))

/-- Such an access covers no whole 32-byte words. -/
theorem partialRun.within {a n : Nat} (bad : partialRun a n) : a % 32 ≠ 0 ∨ n % 8 ≠ 0 := by
  rcases bad with h | ⟨-, h⟩
  · omega
  · exact h

/-- Below the GDDR7 window it starts at no multiple of 4. -/
theorem partialRun.below {a n : Nat} (bad : partialRun a n) (outside : ¬ gddrBase ≤ a) : a % 4 ≠ 0 := by
  rcases bad with h | ⟨h, -⟩
  · exact h
  · exact absurd h outside

theorem State.perform_bulkRead_gddr {a : BitVec 32} (inside : gddrBase ≤ a.toNat)
    (hg : s.gddrBulkRead (.rap h) a.toNat n = (r, u)) : s.perform h.slot h (.bulkRead a n) = (some r, u) := by
  rw [State.perform]
  dsimp only
  rw [if_pos inside, hg]

theorem State.perform_bulkWrite_gddr {a : BitVec 32} (inside : gddrBase ≤ a.toNat)
    (hg : s.gddrBulkWrite (.rap h) (h.slot.val, h.tag.toNat) a.toNat (ws.map (·.toNat)) = (some r, u)) :
    s.perform h.slot h (.bulkWrite a n ws) = (some r, u) := by
  rw [State.perform]
  dsimp only
  rw [if_pos inside, hg]
  rfl

theorem State.gddrBulkWrite_align {toTag : Nat × Nat} {a : Nat} {l : List Nat} (member : s.isClaim src = false)
    (bad : a % 32 ≠ 0 ∨ l.length % 8 ≠ 0) :
    s.gddrBulkWrite src toTag a l = (some (status rsALIGN), s.unlink src.code) := by
  have known : (s.unlink src.code).isClaim src = false := by cases src <;> exact member
  simp only [State.gddrBulkWrite, known, Bool.false_eq_true, if_false, if_pos bad]

theorem State.perform_bulkRead_align {a : BitVec 32} (bad : partialRun a.toNat n) :
    s.perform h.slot h (.bulkRead a n) = (some (status rsALIGN), s.unlink h.slot) := by
  by_cases inside : gddrBase ≤ a.toNat
  · exact State.perform_bulkRead_gddr inside (by rw [State.gddrBulkRead, if_pos (bad.within)]; rfl)
  · rw [State.perform]
    dsimp only
    rw [if_neg inside, if_neg (bad.below inside)]
    rfl

theorem State.perform_bulkWrite_align {a : BitVec 32} (member : (s.session h.slot).claim = false)
    (bad : partialRun a.toNat ws.length) :
    s.perform h.slot h (.bulkWrite a n ws) = (some (status rsALIGN), s.unlink h.slot) := by
  by_cases inside : gddrBase ≤ a.toNat
  · exact State.perform_bulkWrite_gddr inside
      (State.gddrBulkWrite_align member (by rw [List.length_map]; exact bad.within))
  · rw [State.perform]
    dsimp only
    rw [if_neg inside, State.writeDenied_of_member member, if_neg (by simp), if_pos (bad.below inside)]
    rfl

theorem State.perform_fill_align {a : BitVec 32} (member : (s.session h.slot).claim = false) (bad : partialRun a.toNat n) :
    s.perform h.slot h (.fill a n ws) = (some (status rsALIGN), s.unlink h.slot) := by
  have known : (s.unlink (Src.code (.rap h))).isClaim (.rap h) = false := member
  have run : a.toNat % 4 ≠ 0 ∨ (decide (gddrBase ≤ a.toNat) = true ∧ (a.toNat % 32 ≠ 0 ∨ n % 8 ≠ 0)) := by
    rw [decide_eq_true_eq]
    exact bad
  rw [State.perform, State.fillAsk]
  dsimp only
  rw [if_neg (Bool.eq_false_iff.mp known), if_pos run]
  rfl

/-! ### Rows of one word that end with ALIGN -/

section
variable {a m v : BitVec 32} (bad : a.toNat % 4 ≠ 0 ∨ gddrBase ≤ a.toNat)
include bad

theorem State.Takes.read_align (k : s.Takes h (.read a) t) :
    exec (.read h a) s = .next ((t.unlink h.slot).respond h.slot h.tag.toNat (status rsALIGN)).settle := by
  rw [exec_read, execRead, k.answered (by simp) (State.perform_read (State.readAt_align bad) rfl)]
  rfl

theorem State.Takes.write_align (k : s.Takes h (.write a v) t) (member : (t.session h.slot).claim = false) :
    exec (.write h a v) s = .next ((t.unlink h.slot).respond h.slot h.tag.toNat (status rsALIGN)).settle := by
  have ends := State.writeAt_align (s := t) (src := .rap h) (toTag := some (h.slot.val, h.tag.toNat)) (v := v.toNat) bad
  rw [State.writeDenied_of_member member, if_neg (by simp)] at ends
  rw [exec_write, execWrite, k.answered (by simp) (State.perform_write ends rfl)]
  rfl

theorem State.Takes.modify_align (k : s.Takes h (.modify a m v) t) (member : (t.session h.slot).claim = false) :
    exec (.modify h a m v) s = .next ((t.unlink h.slot).respond h.slot h.tag.toNat (status rsALIGN)).settle := by
  have ends := State.modifyAt_of_failed (s := t) (src := .rap h) (toTag := some (h.slot.val, h.tag.toNat)) (a := a.toNat)
    (m := m.toNat) (v := v.toNat) (st := rsALIGN) (by decide) (fun x => by
      rw [State.writeAt_align bad, State.writeDenied_of_member member, if_neg (by simp)])
  rw [exec_modify, execModify, k.answered (by simp) (State.perform_modify ends rfl)]
  rfl

end

/-! ### Runs that end with ALIGN -/

section
variable {a : BitVec 32}

theorem State.Takes.bulkRead_align (bad : partialRun a.toNat n) (k : s.Takes h (.bulkRead a n) t) :
    exec (.bulkRead h a n) s = .next ((t.unlink h.slot).respond h.slot h.tag.toNat (status rsALIGN)).settle := by
  rw [exec_bulkRead, execBulkRead, k.answered (by simp) (State.perform_bulkRead_align bad)]

theorem State.Takes.bulkWrite_align (bad : partialRun a.toNat ws.length) (k : s.Takes h (.bulkWrite a n ws) t)
    (member : (t.session h.slot).claim = false) :
    exec (.bulkWrite h a n ws) s = .next ((t.unlink h.slot).respond h.slot h.tag.toNat (status rsALIGN)).settle := by
  rw [exec_bulkWrite, execBulkWrite, k.answered (by simp) (State.perform_bulkWrite_align member bad)]

theorem State.Takes.fill_align (bad : partialRun a.toNat n) (k : s.Takes h (.fill a n ws) t)
    (member : (t.session h.slot).claim = false) :
    exec (.fill h a n ws) s = .next ((t.unlink h.slot).respond h.slot h.tag.toNat (status rsALIGN)).settle := by
  rw [exec_fill, execFill, k.answered (by simp) (State.perform_fill_align member bad)]

/-- A request that executes has a COUNT that its opcode takes (R92, R97). -/
theorem State.Takes.lengthOk {q : Req} (k : s.Takes h q t) : reqLengthOk q = true := by
  have fits := k.fits
  rw [State.turnedAway.eq_def] at fits
  by_contra bad
  have refused : (!reqLengthOk q) = true := by rw [Bool.eq_false_iff.mpr bad]; rfl
  rw [if_pos refused] at fits
  split at fits
  · cases fits
  · split at fits <;> cases fits

end

/-! ### Runs that start beyond the table region -/

section
variable {a : BitVec 32} (inside : gddrBase ≤ a.toNat) (start : a.toNat % 32 = 0) (whole : n % 8 = 0) (serves : t.eccServes = true)
  (beyond : gddrBase + 32 * t.tableWords ≤ a.toNat)
include inside start whole serves beyond

omit inside start whole serves in
/-- The first group of such a run fails (R82, R83). -/
theorem State.groupFails_beyond : (t.unlink (Src.code (.rap h))).groupFails (a.toNat - gddrBase) = some rsNO_REG := by
  have first : t.tableWords ≤ (a.toNat - gddrBase) / 32 := by omega
  exact if_pos first

theorem State.Takes.bulkRead_beyond (k : s.Takes h (.bulkRead a n) t) :
    exec (.bulkRead h a n) s = .next ((t.unlink h.slot).respond h.slot h.tag.toNat (status rsNO_REG)).settle := by
  have some_ : 1 ≤ n := by
    have := k.lengthOk
    simp only [reqLengthOk, Bool.and_eq_true, decide_eq_true_eq] at this
    exact this.1
  obtain ⟨groups, count⟩ : ∃ m, n / 8 = m + 1 := ⟨n / 8 - 1, by omega⟩
  have none_ : t.gddrBulkRead (.rap h) a.toNat n = (status rsNO_REG, t.unlink h.slot) := by
    have serves' : (!(t.unlink (Src.code (.rap h))).eccServes) = false := by
      show (!t.eccServes) = false
      rw [serves]
      rfl
    rw [State.gddrBulkRead, if_neg (by omega)]
    dsimp only
    rw [if_neg (Bool.eq_false_iff.mp serves'), count, State.gddrRead, State.groupFails_beyond beyond]
    rfl
  rw [exec_bulkRead, execBulkRead, k.answered (by simp) (State.perform_bulkRead_gddr inside none_)]

theorem State.Takes.bulkWrite_beyond (k : s.Takes h (.bulkWrite a n ws) t) (member : (t.session h.slot).claim = false)
    (length : ws.length = n) :
    exec (.bulkWrite h a n ws) s = .next ((t.unlink h.slot).respond h.slot h.tag.toNat (status rsNO_REG)).settle := by
  have some_ : 1 ≤ n := by
    have := k.lengthOk
    simp only [reqLengthOk, Bool.and_eq_true, decide_eq_true_eq] at this
    exact this.1.1
  obtain ⟨groups, count⟩ : ∃ m, n / 8 = m + 1 := ⟨n / 8 - 1, by omega⟩
  have none_ : t.gddrBulkWrite (.rap h) (h.slot.val, h.tag.toNat) a.toNat (ws.map (·.toNat))
      = (some (status rsNO_REG), t.unlink h.slot) := by
    have known : (t.unlink (Src.code (.rap h))).isClaim (.rap h) = false := member
    have serves' : (!(t.unlink (Src.code (.rap h))).eccServes) = false := by
      show (!t.eccServes) = false
      rw [serves]
      rfl
    rw [State.gddrBulkWrite]
    dsimp only
    rw [if_neg (Bool.eq_false_iff.mp known), List.length_map, length, if_neg (by omega), if_neg (Bool.eq_false_iff.mp serves'), count,
      State.gddrPrefix, State.groupFails_beyond beyond]
    rfl
  rw [exec_bulkWrite, execBulkWrite, k.answered (by simp) (State.perform_bulkWrite_gddr inside none_)]

theorem State.Takes.fill_beyond (k : s.Takes h (.fill a n ws) t) (member : (t.session h.slot).claim = false) :
    exec (.fill h a n ws) s = .next ((t.unlink h.slot).respond h.slot h.tag.toNat (status rsNO_REG)).settle := by
  have known : (t.unlink (Src.code (.rap h))).isClaim (.rap h) = false := member
  have table : decide (gddrBase ≤ a.toNat) = true := decide_eq_true inside
  have serves' : (t.unlink (Src.code (.rap h))).eccServes = true := serves
  have first : (t.unlink (Src.code (.rap h))).tableWords ≤ (a.toNat - gddrBase) / 32 := by
    show t.tableWords ≤ _
    omega
  have none_ : t.perform h.slot h (.fill a n ws) = (some (status rsNO_REG), t.unlink h.slot) := by
    rw [State.perform, State.fillAsk]
    dsimp only
    rw [if_neg (Bool.eq_false_iff.mp known), if_neg (by omega), if_neg (by simp [table]), if_neg (by simp [serves']),
      if_pos ⟨table, first⟩]
    rfl
  rw [exec_fill, execFill, k.answered (by simp) none_]

end

end

/-- Settles O49: the check of alignment comes after that of access alone. -/
theorem misalignedAccessesReturnAlign : Obligations.MisalignedAccessesReturnAlign := by
  refine ⟨fun s src toTag a v bad => ⟨State.readAt_align (.inl bad), State.writeAt_align (.inl bad)⟩,
    fun s t h a m v n ws bad => ⟨?_, ?_, ?_, ?_, ?_, ?_⟩⟩
  · exact State.Takes.read_align (.inl bad)
  · exact State.Takes.write_align (.inl bad)
  · exact State.Takes.modify_align (.inl bad)
  · exact State.Takes.bulkRead_align (.inl bad)
  · exact State.Takes.bulkWrite_align (.inl bad)
  · exact State.Takes.fill_align (.inl bad)

/-- Settles O50: no word and no run of such an access reaches GDDR7. -/
theorem gddr7WindowTakesWholeWordsOnly : Obligations.Gddr7WindowTakesWholeWordsOnly := by
  intro s t h a m v n ws inside member
  refine ⟨fun k => k.read_align (.inr inside), fun k => k.write_align (.inr inside) member,
    fun k => k.modify_align (.inr inside) member, fun bad => ⟨fun k => ?_, fun length k => ?_, fun k => ?_⟩,
    fun start whole serves beyond => ⟨fun k => ?_, fun length k => ?_, fun k => ?_⟩⟩
  · exact k.bulkRead_align (.inr ⟨inside, bad⟩)
  · exact k.bulkWrite_align (.inr ⟨inside, by rw [length]; exact bad⟩) member
  · exact k.fill_align (.inr ⟨inside, bad⟩) member
  · exact k.bulkRead_beyond inside start whole serves beyond
  · exact k.bulkWrite_beyond inside start whole serves beyond member length
  · exact k.fill_beyond inside start whole serves beyond member

end Sys2Proof.Machine

/-!
Writes that are refused: ENABLE = 0 on the control pages, values out of range, CONFIG only fields; and what a refusal records (3.3,
3.4, R68, R70, R75).
-/
namespace Sys2Proof.Machine

section
variable {s t : State} {h : ReqHdr} {c : Fin 8} {a v : BitVec 32} {p : Nat}

/-! ### The control pages (R68) -/

/-- ENABLE = 0 on a page that is always active is refused with reason STATE, before anything else (log entry 25). -/
theorem wrCtrl_disable {x : Nat} (control : alwaysActive p = true) (off : fb x HDR.ENABLE = false) : wrCtrl p x s = no .state s := by
  rw [wrCtrl]
  dsimp only
  rw [if_pos (by simp [off, control])]

/-- The place of BLK_CTRL, where a write of it passes the checks before the block's own. -/
theorem key_blkCtrl {src : Src} {w : Nat} (hp : p < 128) (ha : a.toNat = pageBase p + HDR.BLK_CTRL)
    (hm : s.mayWrite src a.toNat w = true) : ∃ k n, (placeAt a.toNat).bind Place.key = some (k, n, p, HDR.BLK_CTRL) := by
  rw [ha] at hm ⊢
  obtain ⟨k, n, there⟩ := placeAt_blkCtrl hp hm
  exact ⟨k, n, by rw [there]; rfl⟩

theorem core_disable_refused (hp : p < 128) (control : alwaysActive p = true) (ha : a.toNat = pageBase p + HDR.BLK_CTRL)
    (hr : s.running = true) (hc : s.coreRuns c = true) (hm : s.mayWrite (.core c) a.toNat v.toNat = true)
    (off : fb (s.written a.toNat v.toNat) HDR.ENABLE = false) :
    exec (.registerWrite a v (.core c)) s = .next ((s.reached (.core c)).refuse p HDR.BLK_CTRL false .state (8 + c.val)).settle := by
  obtain ⟨k, n, key⟩ := key_blkCtrl hp ha hm
  have refused := core_write_rej hr hc hm key (State.handle_blkCtrl.trans (wrCtrl_disable control off)) rfl
  exact (exec_registerWrite _ _ _).trans refused

theorem session_disable_refused (hp : p < 128) (control : alwaysActive p = true) (ha : a.toNat = pageBase p + HDR.BLK_CTRL)
    (k : s.Takes h (.write a v) t) (hm : t.mayWrite (.rap h) a.toNat v.toNat = true)
    (off : fb (t.written a.toNat v.toNat) HDR.ENABLE = false) :
    exec (.write h a v) s = .next (((t.reached (.rap h)).refuse p HDR.BLK_CTRL false .state h.slot).respond h.slot h.tag.toNat
      (status rsSTATE)).settle := by
  obtain ⟨_, n, key⟩ := key_blkCtrl hp ha hm
  have refused := session_write_rej k hm key (State.handle_blkCtrl.trans (wrCtrl_disable control off)) rfl
  exact (exec_write _ _ _).trans refused

end

theorem controlPages : ∀ k ∈ [Kind.SYS, .RAP, .PWR, .THM, .FLT, .SEC, .CLK, .NVS],
    k.pages.1 < 128 ∧ alwaysActive k.pages.1 = true ∧ State.reset.blk k.pages.1 = bACTIVE := by decide +kernel

/-- Settles O51: BLK_CTRL refuses ENABLE = 0 there first of all. -/
theorem controlPagesRefuseDisable : Obligations.ControlPagesRefuseDisable := by
  intro k hk
  obtain ⟨hp, control, active⟩ := controlPages k hk
  exact ⟨active, fun s c a v ha hr hc hm off => core_disable_refused hp control ha hr hc hm off,
    fun s t h a v ha takes hm off => session_disable_refused hp control ha takes hm off⟩

/-! ### Values out of range and CONFIG only fields (R70, R75) -/

section
variable {s : State} {src : Src} {toTag : Option (Nat × Nat)} {a v : Nat} {k : Kind} {n p off : Nat} {r : RegSpec} {w : Bool}

/-- A write of a register that its requester may make goes to the register's own checks. -/
theorem writeAt_of_register (hd : s.writeDenied src a = false) (aligned : a % 4 = 0) (there : placeAt a = some (.reg k n p off r)) :
    s.writeAt src toTag a v = (s.reached src).writeReg src toTag k n p off r v := by
  obtain ⟨below, -, -⟩ := placeAt_reg there
  have denied : (s.unlink src.code).writeDenied src a = false := by cases src <;> exact hd
  rw [State.writeAt, denied, if_neg (by simp), if_neg (by simp only [gddrBase]; omega), there]
  dsimp only
  rw [State.filling_of_register below, if_neg (by simp)]
  rfl

/-- The word that a write leaves does not depend on who reaches the block. -/
theorem State.reached_written : (s.reached src).written a v = s.written a v := by
  cases there : placeAt a with
  | none => simp only [State.written, there]
  | some pl =>
    cases pl with
    | reg k n p off r =>
      rw [written_of_placeAt there, written_of_placeAt there]
      exact congrArg (newWord r · v) (rfl : (s.reached src).nat a = s.nat a)
    | win g e w => simp only [State.written, there]

/-- The address of a register's place. -/
theorem pageBase_add_of_placeAt (there : placeAt a = some (.reg k n p off r)) : pageBase p + off = a := by
  obtain ⟨-, page, offset⟩ := placeAt_reg there
  rw [pageBase, page, offset]
  omega

theorem writeReg_range (there : placeAt a = some (.reg k n p off r)) (takes : r.rw ||| r.wo ||| r.w1s ||| r.w1c ≠ 0)
    (bad : s.inRange k off (s.written a v) = false) :
    s.writeReg src toTag k n p off r v = ⟨rsRANGE, false, 0, s.refuse p off false .range src.code⟩ := by
  rw [written_of_placeAt there] at bad
  rw [State.writeReg, pageBase_add_of_placeAt there, if_neg takes]
  dsimp only
  rw [bad]
  rfl

theorem writeReg_cfg (there : placeAt a = some (.reg k n p off r)) (takes : r.rw ||| r.wo ||| r.w1s ||| r.w1c ≠ 0)
    (good : s.inRange k off (s.written a v) = true) (off_ : s.blk p ≠ bOFF) (config : s.blk p ≠ bCONFIG)
    (changes : s.nat a &&& r.cfg ≠ s.written a v &&& r.cfg) :
    s.writeReg src toTag k n p off r v = ⟨rsSTATE, false, 0, s.refuse p off false .state src.code⟩ := by
  rw [written_of_placeAt there] at good changes
  have some_ : r.cfg ≠ 0 := by
    intro none_
    rw [none_, Nat.and_zero, Nat.and_zero] at changes
    exact changes rfl
  have barred : s.cfgBarred p r (s.nat a) (newWord r (s.nat a) v) = true := by
    simp [State.cfgBarred, State.inConfig, some_, off_, config, changes]
  rw [State.writeReg, pageBase_add_of_placeAt there, if_neg takes]
  dsimp only
  rw [good, barred]
  rfl

/-! ### REJECT_LAST -/

/-- REJECT_LAST as a refusal writes it. -/
def State.rejected (s : State) (p off : Nat) (w : Bool) (x : Rej) (c : Nat) : State :=
  (((s.set (pageBase p) HDR.REJ_OFFSET off).set (pageBase p) HDR.REJ_REASON x.code).set (pageBase p) HDR.REJ_SOURCE c).setB
    (pageBase p) HDR.REJ_WINDOW w

variable {x : Rej} {c : Nat}

theorem State.refuse_eq : s.refuse p off w x c = (s.rejected p off w x c).raise p evWRITE_REJECTED := rfl

theorem State.rejected_regsOnly : s.RegsOnly (· = pageBase p + HDR.REJECT_LAST) (s.rejected p off w x c) := by
  have here {t : State} {f : Fld} {v : Nat} (hf : f.off = HDR.REJECT_LAST) (ht : s.RegsOnly (· = pageBase p + HDR.REJECT_LAST) t) :
      s.RegsOnly (· = pageBase p + HDR.REJECT_LAST) (t.set (pageBase p) f v) := ht.set (congrArg (pageBase p + ·) hf)
  exact here rfl (here rfl (here rfl (here rfl (.refl _ s))))

theorem Rej.code_lt (x : Rej) : x.code < 2 ^ 4 := by cases x <;> decide

theorem State.rejected_records (h : s.Canonical) (ho : off < 4096) (hc : c < 16) :
    (s.rejected p off w x c).get (pageBase p) HDR.REJ_OFFSET = off ∧
    (s.rejected p off w x c).get (pageBase p) HDR.REJ_REASON = x.code ∧
    (s.rejected p off w x c).get (pageBase p) HDR.REJ_SOURCE = c ∧
    (s.rejected p off w x c).flag (pageBase p) HDR.REJ_WINDOW = w := by
  have h1 := (Evolves.refl s).set (base := pageBase p) (f := HDR.REJ_OFFSET) (v := off) |>.canonical h
  have h2 := (Evolves.refl _).set (base := pageBase p) (f := HDR.REJ_REASON) (v := x.code) |>.canonical h1
  have h3 := (Evolves.refl _).set (base := pageBase p) (f := HDR.REJ_SOURCE) (v := c) |>.canonical h2
  rw [State.rejected]
  refine ⟨?_, ?_, ?_, State.flag_setB_same h3 (by decide) rfl⟩
  · rw [State.setB, State.get_set_other h3 (by decide) (by decide), State.get_set_other h2 (by decide) (by decide),
      State.get_set_other h1 (by decide) (by decide), State.get_set_same h (by decide)]
    exact Nat.mod_eq_of_lt ho
  · rw [State.setB, State.get_set_other h3 (by decide) (by decide), State.get_set_other h2 (by decide) (by decide),
      State.get_set_same h1 (by decide)]
    exact Nat.mod_eq_of_lt x.code_lt
  · rw [State.setB, State.get_set_other h3 (by decide) (by decide), State.get_set_same h2 (by decide)]
    exact Nat.mod_eq_of_lt hc

theorem State.refuse_records (h : s.Canonical) (ho : off < 4096) (hc : c < 16) :
    (s.refuse p off w x c).get (pageBase p) HDR.REJ_OFFSET = off ∧
    (s.refuse p off w x c).get (pageBase p) HDR.REJ_REASON = x.code ∧
    (s.refuse p off w x c).get (pageBase p) HDR.REJ_SOURCE = c ∧
    (s.refuse p off w x c).flag (pageBase p) HDR.REJ_WINDOW = w := by
  rw [State.refuse_eq, State.raise_get, State.raise_get, State.raise_get, State.raise_flag]
  exact State.rejected_records h ho hc

theorem State.refuse_frame : (s.refuse p off w x c).raised = s.raised ++ [(p, 127)] ∧
    (∀ a, a ≠ pageBase p + HDR.REJ_OFFSET.off → (s.refuse p off w x c).word a = s.word a) ∧
    s.refuse p off w x c = { s with regs := (s.refuse p off w x c).regs, raised := (s.refuse p off w x c).raised } := by
  obtain ⟨regs, same, words⟩ := State.rejected_regsOnly (s := s) (p := p) (off := off) (w := w) (x := x) (c := c)
  rw [State.refuse_eq, same]
  exact ⟨rfl, words, rfl⟩

end

/-- Settles O53: the two checks refuse before the block sees the word, and a refusal writes REJECT_LAST. -/
theorem refusedWritesChangeOnlyTheRecord : Obligations.RefusedWritesChangeOnlyTheRecord := by
  refine ⟨fun s t h a v k n p off r takes hd aligned there some_ => ⟨fun bad => ?_, fun good off_ config changes => ?_⟩,
    fun s p off src w x h ho hc => ?_⟩
  · rw [← State.reached_written (src := .rap h)] at bad
    have ends := (writeAt_of_register (toTag := some (h.slot.val, h.tag.toNat)) hd aligned there).trans (writeReg_range there some_ bad)
    exact (exec_write _ _ _).trans (session_write_failed takes ends)
  · rw [← State.reached_written (src := .rap h)] at good changes
    have ends := (writeAt_of_register (toTag := some (h.slot.val, h.tag.toNat)) hd aligned there).trans
      (writeReg_cfg there some_ good off_ config changes)
    exact (exec_write _ _ _).trans (session_write_failed takes ends)
  · obtain ⟨offset, reason, source, window⟩ := State.refuse_records (w := w) (x := x) (p := p) h ho hc
    exact ⟨offset, reason, source, window, State.refuse_frame⟩

end Sys2Proof.Machine

/-!
The SEQ of requests and of the part's own frames (R91).
-/
namespace Sys2Proof.Machine

/-! ### The window of accepted SEQs -/

theorem bitOf_eq_testBit (v i : Nat) : bitOf v i = v.testBit i := by
  rw [bitOf, Nat.testBit, Nat.one_and_eq_mod_two]
  rcases Nat.mod_two_eq_zero_or_one (v >>> i) with h | h <;> simp [h]

theorem testBit_setBit (v i k : Nat) : (setBit v i).testBit k = (decide (k = i) || v.testBit k) := by
  rw [setBit, testBit_withBits]
  by_cases h : k = i
  · subst h
    rw [if_pos (by omega), Nat.sub_self]
    simp
  · rw [if_neg (by omega)]
    simp [h]

/-- The seen SEQs after the highest moves up by `d`. -/
theorem testBit_seqShift {seen d k : Nat} {b : Bool} (hd : 0 < d) (hk : k < 64) :
    ((2 * seen + b2n b) * 2 ^ (d - 1) % 2 ^ 64).testBit k
      = if k + 1 < d then false else if k + 1 = d then b else seen.testBit (k - d) := by
  have shifted : 2 * seen + b2n b = Nat.bit b seen := by
    rw [Nat.bit_val]
    cases b <;> rfl
  rw [Nat.testBit_mod_two_pow, Nat.testBit_mul_two_pow, shifted, decide_eq_true hk, Bool.true_and]
  rcases Nat.lt_trichotomy (k + 1) d with h | h | h
  · rw [if_pos h, decide_eq_false (by omega), Bool.false_and]
  · rw [if_neg (by omega), if_pos h, decide_eq_true (by omega), show k - (d - 1) = 0 by omega, Nat.testBit_bit_zero, Bool.true_and]
  · rw [if_neg (by omega), if_neg (by omega), decide_eq_true (by omega), show k - (d - 1) = k - d + 1 by omega,
      Nat.testBit_bit_succ, Bool.true_and]

/-- A largest element is what folding by `max` gives. -/
theorem foldl_max_eq {l : List Nat} {a m : Nat} (le : ∀ q ∈ l, q ≤ m) (ha : a ≤ m) (top : m = a ∨ m ∈ l) :
    l.foldl max a = m := by
  induction l generalizing a with
  | nil => simpa using top.elim Eq.symm (by simp)
  | cons q l ih =>
    refine ih (fun x hx => le x (by simp [hx])) (Nat.max_le.mpr ⟨ha, le q (by simp)⟩) ?_
    have := le q (by simp)
    rcases top with h | h
    · left; omega
    · rcases List.mem_cons.mp h with h | h
      · left; omega
      · exact .inr h

/-- A session that has accepted the SEQs `l`: the highest of them, and those of the 64 below it. -/
structure Session.HasSeen (x : Session) (l : List Nat) : Prop where
  le : ∀ q ∈ l, q ≤ x.seqHigh
  top : (x.seqHigh = 0 ∧ l = []) ∨ (0 < x.seqHigh ∧ x.seqHigh ∈ l)
  seen : ∀ k, k < 64 → (x.seqSeen.testBit k = true ↔ k < x.seqHigh ∧ x.seqHigh - 1 - k ∈ l)

section
variable {x y : Session} {l : List Nat} {q : Nat}

theorem Session.HasSeen.empty : ({} : Session).HasSeen [] :=
  ⟨by simp, .inl ⟨rfl, rfl⟩, by simp⟩

theorem Session.HasSeen.foldl_max (h : x.HasSeen l) : l.foldl max 0 = x.seqHigh :=
  foldl_max_eq h.le (Nat.zero_le _) (h.top.imp And.left And.right)

/-- A SEQ is taken where it is above the highest, or among the 64 below it and not seen. -/
theorem Session.HasSeen.accepts_iff (h : x.HasSeen l) :
    (seqAccept x q).isSome = true ↔ x.seqHigh < q ∨ (q < x.seqHigh ∧ x.seqHigh ≤ q + 64 ∧ q ∉ l) := by
  rw [seqAccept]
  by_cases above : x.seqHigh < q
  · simp [above]
  · rw [if_neg above]
    dsimp only
    rw [bitOf_eq_testBit]
    by_cases near : x.seqHigh - q = 0 ∨ 64 < x.seqHigh - q
    · rw [if_pos (near.elim .inl fun n => .inr (.inl n))]
      simp only [Option.isSome_none, Bool.false_eq_true, false_iff]
      omega
    · have seen := h.seen (x.seqHigh - q - 1) (by omega)
      rw [show x.seqHigh - 1 - (x.seqHigh - q - 1) = q by omega] at seen
      by_cases old : q ∈ l
      · rw [if_pos (.inr (.inr (seen.mpr ⟨by omega, old⟩)))]
        simp [above, old]
      · have new : ¬ x.seqSeen.testBit (x.seqHigh - q - 1) = true := fun b => old (seen.mp b).2
        rw [if_neg (by tauto)]
        simp only [Option.isSome_some, true_iff]
        exact .inr ⟨by omega, by omega, old⟩

/-- A SEQ taken joins those that the session has accepted. -/
theorem Session.HasSeen.accept (h : x.HasSeen l) (hy : seqAccept x q = some y) : y.HasSeen (q :: l) := by
  rw [seqAccept] at hy
  by_cases above : x.seqHigh < q
  · rw [if_pos above, Option.some.injEq] at hy
    subst hy
    refine ⟨fun z hz => ?_, .inr ⟨by dsimp only; omega, by simp⟩, fun k hk => ?_⟩
    · rcases List.mem_cons.mp hz with rfl | hz
      · exact Nat.le_refl _
      · exact Nat.le_of_lt (Nat.lt_of_le_of_lt (h.le z hz) above)
    · dsimp only
      have new : q - 1 - k ∈ q :: l ↔ q - 1 - k ∈ l := by
        rw [List.mem_cons]
        exact or_iff_right (by omega)
      have fits : q - 1 - k ∈ l → q - 1 - k ≤ x.seqHigh := h.le _
      by_cases far : 64 < q - x.seqHigh
      · rw [if_pos far, Nat.zero_testBit]
        simp only [Bool.false_eq_true, false_iff, not_and]
        intro below mem
        have := fits (new.mp mem)
        omega
      · rw [if_neg far, testBit_seqShift (by omega) hk]
        split
        · simp only [Bool.false_eq_true, false_iff, not_and]
          intro below mem
          have := fits (new.mp mem)
          omega
        · split
          · rename_i first
            rw [new, show q - 1 - k = x.seqHigh by omega, bne_iff_ne]
            rcases h.top with ⟨zero, none_⟩ | ⟨pos, mem⟩
            · simp [zero, none_]
            · exact ⟨fun _ => ⟨by omega, mem⟩, fun _ => by omega⟩
          · rw [h.seen _ (by omega), new, show x.seqHigh - 1 - (k - (q - x.seqHigh)) = q - 1 - k by omega]
            exact and_congr_left fun _ => by omega
  · rw [if_neg above] at hy
    dsimp only at hy
    rw [bitOf_eq_testBit] at hy
    split at hy
    · cases hy
    · rename_i free
      rw [Option.some.injEq] at hy
      subst hy
      have below : 0 < x.seqHigh - q := by omega
      refine ⟨fun z hz => ?_, ?_, fun k hk => ?_⟩
      · rcases List.mem_cons.mp hz with rfl | hz
        · dsimp only; omega
        · exact h.le z hz
      · exact .inr ⟨by dsimp only; omega, List.mem_cons_of_mem _ (h.top.elim (fun n => by omega) And.right)⟩
      · dsimp only
        rw [testBit_setBit, Bool.or_eq_true, decide_eq_true_eq, h.seen k hk, List.mem_cons]
        have here : k = x.seqHigh - q - 1 ↔ k < x.seqHigh ∧ x.seqHigh - 1 - k = q := by omega
        rw [here]
        tauto

end

end Sys2Proof.Machine

/-!
The frames that a session sends and the responses that it keeps (R88, R91, R100).
-/
namespace Sys2Proof.Machine

/-- A list in which an element stands in place of those under its key: found under its key, the others as before. -/
theorem find?_replaced {α : Type} (key : α → Nat) (l : List α) (x : α) (j : Nat) :
    (l.filter (fun y => key y ≠ key x) ++ [x]).find? (fun y => key y = j)
      = if j = key x then some x else l.find? (fun y => key y = j) := by
  rw [List.find?_append]
  by_cases h : j = key x
  · have others : (l.filter (fun y => key y ≠ key x)).find? (fun y => key y = j) = none := by
      rw [List.find?_eq_none]
      intro y hy
      rw [h]
      simpa using (List.mem_filter.mp hy).2
    rw [others, if_pos h]
    simp [h]
  · have others : (l.filter (fun y => key y ≠ key x)).find? (fun y => key y = j) = l.find? (fun y => key y = j) := by
      rw [List.find?_filter]
      congr 1
      funext y
      by_cases hy : key y = j
      · simp [hy, h]
      · simp [hy]
    rw [others, if_neg h]
    simp [Ne.symm h]

section
variable {s t : State} {i j slot tag : Nat} {x : Session} {o : Out} {to_ : Option Peer} {r : Resp}

/-! ### Sessions -/

theorem State.session_setSession_same (h : s.Canonical) : (s.setSession i x).session i = x := Tab.get_put_same _ h.sessions.1 _ _

theorem State.session_setSession_ne (h : j ≠ i) : (s.setSession i x).session j = s.session j := Tab.get_put_ne _ h _

theorem State.setSession_twice {y : Session} (h : s.Canonical) : (s.setSession i x).setSession i y = s.setSession i y := by
  simp only [State.setSession, Tab.put_put _ h.sessions.1]

/-- A frame of a session leaves, counted, or waits behind those that wait for a peer (R88). -/
theorem State.sendTo_cases (s : State) (slot : Nat) (to_ : Option Peer) (o : Out) :
    (∃ p, s.sendTo slot to_ o = (s.emit (o.toPeer p)).count64 (RAP.page + RAP.TX_FRAMES) 1) ∨
    s.sendTo slot to_ o = s.setSession slot { s.session slot with unsent := (s.session slot).unsent ++ [o] } := by
  rw [State.sendTo]
  dsimp only
  split
  · exact .inl ⟨_, rfl⟩
  · exact .inr rfl

/-- What a session has sent and what waits, after `n` frames more: the frames that left, those that wait, and the session else. -/
structure State.Sends (s t : State) (slot n : Nat) : Prop where
  frames : ∃ l k, t.out = s.out ++ l ∧ (t.session slot).unsent = (s.session slot).unsent ++ k ∧ l.length + k.length = n
  txSeq : (t.session slot).txSeq = (s.session slot).txSeq
  canonical : t.Canonical

theorem State.sendTo_sends (h : s.Canonical) : s.Sends (s.sendTo slot to_ o) slot 1 := by
  have canonical := (Evolves.refl s).sendTo (slot := slot) (to_ := to_) (o := o) |>.canonical h
  rcases s.sendTo_cases slot to_ o with ⟨p, e⟩ | e
  · refine ⟨⟨[o.toPeer p], [], ?_, ?_, rfl⟩, ?_, canonical⟩
    · rw [e]; rfl
    · rw [e, List.append_nil]; rfl
    · rw [e]; rfl
  · refine ⟨⟨[], [o], ?_, ?_, rfl⟩, ?_, canonical⟩
    · rw [e, List.append_nil]; rfl
    · rw [e, State.session_setSession_same h]
    · rw [e, State.session_setSession_same h]

theorem State.Sends.trans {u : State} {n m : Nat} (h : s.Sends t slot n) (h' : t.Sends u slot m) : s.Sends u slot (n + m) := by
  obtain ⟨⟨l, k, out, unsent, count⟩, txSeq, -⟩ := h
  obtain ⟨⟨l', k', out', unsent', count'⟩, txSeq', canonical⟩ := h'
  refine ⟨⟨l ++ l', k ++ k', ?_, ?_, ?_⟩, txSeq'.trans txSeq, canonical⟩
  · rw [out', out, List.append_assoc]
  · rw [unsent', unsent, List.append_assoc]
  · rw [List.length_append, List.length_append]
    omega

/-! ### Responses -/

/-- The session that a response leaves behind: one frame more, and the response kept under its TAG. -/
def State.responded (s : State) (slot tag : Nat) (r : Resp) : Session :=
  { s.session slot with
    txSeq := (s.session slot).txSeq + 1
    kept := (s.session slot).kept.filter (fun y => y.tag ≠ tag) ++ [{ tag := tag, resp := r, sentAt := s.now }] }

/-- The opcode and the sender of the request that a response answers. -/
def State.askedAs (s : State) (slot tag : Nat) : Option (Nat × Peer) :=
  ((s.session slot).asked.find? (fun e => e.1 = tag)).map (·.2)

theorem State.respond_of_opened (h : (s.session slot).stage = .opened) : s.respond slot tag r =
    (s.setSession slot (s.responded slot tag r)).sendTo slot ((s.askedAs slot tag).map (·.2))
      (.response slot tag r {} ((s.session slot).respWire (((s.askedAs slot tag).map (·.1)).getD 0) tag r)) := by
  rw [State.respond, if_neg (not_not_intro h), State.askedAs, Option.map_map, Option.map_map]
  rfl

/-- A response leaves, or waits for a peer of its session (R88). -/
theorem State.respond_cases (h : (s.session slot).stage = .opened) (c : s.Canonical) :
    ∃ op, let wire := (s.session slot).respWire op tag r
      (∃ p, s.respond slot tag r
        = ((s.setSession slot (s.responded slot tag r)).emit (.response slot tag r p wire)).count64 (RAP.page + RAP.TX_FRAMES) 1) ∨
      s.respond slot tag r = s.setSession slot { s.responded slot tag r with
        unsent := (s.session slot).unsent ++ [.response slot tag r {} wire] } := by
  refine ⟨((s.askedAs slot tag).map (·.1)).getD 0, ?_⟩
  rw [State.respond_of_opened h]
  rcases State.sendTo_cases (s.setSession slot (s.responded slot tag r)) slot ((s.askedAs slot tag).map (·.2))
    (.response slot tag r {} ((s.session slot).respWire (((s.askedAs slot tag).map (·.1)).getD 0) tag r)) with ⟨p, e⟩ | e
  · exact .inl ⟨p, e⟩
  · refine .inr (e.trans ?_)
    rw [State.session_setSession_same c, State.setSession_twice c]
    rfl

/-- The session after a response. -/
theorem State.respond_session (h : (s.session slot).stage = .opened) (c : s.Canonical) :
    ∃ k, (s.respond slot tag r).session slot = { s.responded slot tag r with unsent := (s.session slot).unsent ++ k } := by
  obtain ⟨op, ⟨p, e⟩ | e⟩ := State.respond_cases (tag := tag) (r := r) h c
  · refine ⟨[], ?_⟩
    rw [e, List.append_nil]
    exact State.session_setSession_same c
  · exact ⟨_, by rw [e, State.session_setSession_same c]⟩

end

end Sys2Proof.Machine

/-!
The SEQ of requests and of the part's own frames (R91): the statement.
-/
namespace Sys2Proof.Machine

theorem offered_hasSeen : ∀ l : List Nat, (offered l).1.HasSeen (offered l).2
  | [] => .empty
  | q :: l => by
    have ih := offered_hasSeen l
    rw [offered]
    split
    · exact ih
    · rename_i y hy
      exact ih.accept hy

section
variable {s t : State} {h : ReqHdr} {q : Req} {slot p i cls : Nat}

/-- A request of an open session whose SEQ is not acceptable is dropped, and counted in REPLAY_DROPS. -/
theorem act_request_replayed (hr : s.running = true) (up : s.rapUp = true) (ready : s.ready = true)
    (me : s.toMe h.via false = true) (sum : h.via.udp = true → h.via.sumOk = true) (opened : (s.session h.slot).stage = .opened)
    (old : seqAccept (s.session h.slot) h.seq.toNat = none) : act s (·.request h q) = .next s.replayDrop.settle := by
  rw [act_of_running hr, State.request, State.asked, State.accept, State.heard_of_ready up ready me sum]
  dsimp only
  rw [if_neg (not_not_intro opened), old]

/-! ### Event messages -/

theorem State.Sends.of_raiseIf {b : Bool} {i : Nat} (c : s.Canonical) : s.Sends (s.raiseIf b p i) slot 0 := by
  have canonical := (Evolves.refl s).raiseIf (b := b) (p := p) (i := i) |>.canonical c
  cases b <;> exact ⟨⟨[], [], (List.append_nil _).symm, (List.append_nil _).symm, rfl⟩, rfl, canonical⟩

/-- One frame of a session, with another before it on a condition. -/
theorem State.Sends.of_frames {b : Bool} {o o' : Out} (c : s.Canonical) :
    s.Sends ((if b then s.sendTo slot none o else s).sendTo slot none o') slot (if b then 2 else 1) := by
  cases b
  · exact State.sendTo_sends c
  · exact (State.sendTo_sends c).trans (State.sendTo_sends (State.sendTo_sends c).canonical)

/-- The frames of a session that has counted them. -/
theorem State.Sends.counted {y : Session} {n : Nat} (sends : (s.setSession slot y).Sends t slot n) (c : s.Canonical)
    (unsent : y.unsent = (s.session slot).unsent) (txSeq : y.txSeq = (s.session slot).txSeq + n) :
    ∃ l k, t.out = s.out ++ l ∧ (t.session slot).unsent = (s.session slot).unsent ++ k ∧
      (t.session slot).txSeq = (s.session slot).txSeq + (l.length + k.length) := by
  obtain ⟨⟨l, k, out, waits, count⟩, last, -⟩ := sends
  rw [State.session_setSession_same c] at waits last
  exact ⟨l, k, out, by rw [waits, unsent], by rw [last, txSeq, count]⟩

/-- A message that the session's masks or its bucket hold back sends nothing; otherwise EVT_LOST goes before it where messages were
withheld, and each of the two is a frame with its own SEQ (R91, R102 to R104). -/
theorem State.msgTo_sends (c : s.Canonical) : ∃ l k, (s.msgTo slot p i cls).out = s.out ++ l ∧
    ((s.msgTo slot p i cls).session slot).unsent = (s.session slot).unsent ++ k ∧
    ((s.msgTo slot p i cls).session slot).txSeq = (s.session slot).txSeq + (l.length + k.length) := by
  have counts {y : Session} : (s.setSession slot y).Canonical := (Evolves.refl s).setSession.canonical c
  rw [State.msgTo]
  dsimp only
  split
  · exact ⟨[], [], (List.append_nil _).symm, (List.append_nil _).symm, rfl⟩
  · split
    · exact (State.Sends.of_raiseIf counts).counted c rfl rfl
    · exact (State.Sends.of_frames counts).counted c rfl rfl

end

/-- Settles O47: the window of SEQs by induction on the run; every frame of a session takes the next SEQ. -/
theorem requestSeqIsFreshAndRecent : Obligations.RequestSeqIsFreshAndRecent := by
  refine ⟨fun l q => ?_, fun s h hr up ready me sum opened old => ⟨?_, ?_, ?_⟩, fun s c => ?_, rfl,
    fun s slot tag r opened c => ?_, fun s slot p i cls c => State.msgTo_sends c⟩
  · have seen := offered_hasSeen l
    dsimp only
    rw [seen.foldl_max]
    exact seen.accepts_iff
  · intro i hi
    fin_cases hi
    · exact (exec_nop _).trans (act_request_replayed hr up ready me sum opened old)
    · exact (exec_sessionClose _).trans (act_request_replayed hr up ready me sum opened old)
  · intro a v m n ws i hi
    fin_cases hi
    · exact (exec_read _ _).trans (act_request_replayed hr up ready me sum opened old)
    · exact (exec_write _ _ _).trans (act_request_replayed hr up ready me sum opened old)
    · exact (exec_modify _ _ _ _).trans (act_request_replayed hr up ready me sum opened old)
    · exact (exec_bulkWrite _ _ _ _).trans (act_request_replayed hr up ready me sum opened old)
    · exact (exec_bulkRead _ _ _).trans (act_request_replayed hr up ready me sum opened old)
    · exact (exec_fill _ _ _ _).trans (act_request_replayed hr up ready me sum opened old)
  · intro o b l p c x y i hi
    fin_cases hi
    · exact (exec_imagePush _ _ _).trans (act_request_replayed hr up ready me sum opened old)
    · exact (exec_imageCommit _ _).trans (act_request_replayed hr up ready me sum opened old)
    · exact (exec_evtSubscribe _ _ _).trans (act_request_replayed hr up ready me sum opened old)
    · exact (exec_evtAck _ _ _).trans (act_request_replayed hr up ready me sum opened old)
  · rw [State.replayDrop, State.raise_nat]
    exact State.nat_count_same c
  · obtain ⟨k, e⟩ := State.respond_session (tag := tag) (r := r) opened c
    refine ⟨by rw [e]; rfl, ?_⟩
    obtain ⟨op, h⟩ := State.respond_cases (tag := tag) (r := r) opened c
    refine ⟨op, h.imp (fun ⟨p, e⟩ => ⟨p, by rw [e]; rfl⟩) fun e => ⟨by rw [e]; rfl, ?_⟩⟩
    rw [e, State.session_setSession_same c]

end Sys2Proof.Machine

/-!
Repeated requests and kept responses (R99, R100).
-/
namespace Sys2Proof.Machine

section
variable {s t : State} {h : ReqHdr} {q : Req} {y : Session} {k : Kept}

/-! ### A repeated request -/

/-- The SEQ of a request changes what the session knows of SEQs alone. -/
theorem seqAccept_keeps {x : Session} {n : Nat} (hy : seqAccept x n = some y) :
    ∃ high seen, y = { x with seqHigh := high, seqSeen := seen } := by
  rw [seqAccept] at hy
  dsimp only at hy
  split at hy
  · cases hy
    exact ⟨_, _, rfl⟩
  · split at hy
    · cases hy
    · cases hy
      exact ⟨_, _, rfl⟩

/-- What has waited for a session's peer changes nothing of RAP as it leaves but the session. -/
theorem State.heardFrom_rap {slot : Nat} {p : Peer} : (s.heardFrom slot p).rap
    = (s.setSession slot { s.session slot with peer := some p, unsent := [] }).rap := by
  rw [State.heardFrom]
  refine each_preserves (g := State.rap) ?_ _
  intro _ _
  rfl

/-- The session of a request that has been taken: the opcode and the sender of the request stand under its TAG. -/
theorem State.taken_session (c : s.Canonical) : ∃ asked, (s.taken h y q).session h.slot =
    { y with lastValid := s.now, peer := some h.via.peer, unsent := [], asked := asked } ∧
    asked.find? (fun e => e.1 = h.tag.toNat) = some (h.tag.toNat, reqOp q, h.via.peer) := by
  have c1 : (s.setSession h.slot { y with lastValid := s.now }).Canonical := (Evolves.refl s).setSession.canonical c
  have c2 : (((s.setSession h.slot { y with lastValid := s.now }).heardFrom h.slot h.via.peer).rxFrame).Canonical :=
    (Evolves.refl _).heardFrom.rxFrame.canonical c1
  have heard : (((s.setSession h.slot { y with lastValid := s.now }).heardFrom h.slot h.via.peer).rxFrame).session h.slot
      = { y with lastValid := s.now, peer := some h.via.peer, unsent := [] } := by
    have same := congrArg (fun x : RapState => Tab.get (fun _ => {}) x.sessions h.slot.val)
      (State.heardFrom_rap (s := s.setSession h.slot { y with lastValid := s.now }) (slot := h.slot) (p := h.via.peer))
    refine same.trans ((State.session_setSession_same c1).trans ?_)
    rw [State.session_setSession_same c]
  rw [State.taken, State.noteReq, State.session_setSession_same c2, heard]
  exact ⟨_, rfl, (find?_replaced (·.1) _ (h.tag.toNat, reqOp q, h.via.peer) _).trans (if_pos rfl)⟩

/-- A request that is taken leaves what RAP holds back as it is. -/
theorem State.taken_blocked : (s.taken h y q).rap.blocked = s.rap.blocked := by
  have same := congrArg RapState.blocked
    (State.heardFrom_rap (s := s.setSession h.slot { y with lastValid := s.now }) (slot := h.slot) (p := h.via.peer))
  exact same

/-- A repeated request receives the response kept under its TAG, in the order of its session (R99, R100). -/
theorem act_request_kept (hr : s.running = true) (up : s.rapUp = true) (ready : s.ready = true)
    (me : s.toMe h.via false = true) (sum : h.via.udp = true → h.via.sumOk = true) (opened : (s.session h.slot).stage = .opened)
    (fresh : seqAccept (s.session h.slot) h.seq.toNat = some y) (c : s.Canonical) (retry : h.retry = true)
    (version : 0x20 ≤ (s.session h.slot).version) (kept : (s.session h.slot).kept.find? (fun k => k.tag = h.tag.toNat) = some k) :
    act s (·.request h q) = .next (if s.rap.blocked.contains h.slot.val then
        let t := s.taken h y q
        State.settle { t with rap := { t.rap with held := t.rap.held ++ [(h.slot.val, h, Held.say k.resp)] } }
      else ((s.taken h y q).respond h.slot h.tag.toNat k.resp).settle) := by
  obtain ⟨high, seen, hy⟩ := seqAccept_keeps fresh
  have found : (s.taken h y q).keptFor h = some k := by
    obtain ⟨asked, e, -⟩ := State.taken_session (h := h) (q := q) (y := y) c
    rw [State.keptFor, e]
    subst hy
    dsimp only
    rw [if_pos (by simp [retry, version]), kept]
  rw [act_of_running hr, State.request, State.asked, State.accept, State.heard_of_ready up ready me sum]
  dsimp only
  rw [if_neg (not_not_intro opened), fresh]
  dsimp only
  rw [← State.taken, found]
  dsimp only
  rw [State.reply]
  have same : (s.taken h y q).rap.blocked.contains h.slot.val = s.rap.blocked.contains h.slot.val := by rw [State.taken_blocked]
  by_cases behind : s.rap.blocked.contains h.slot.val = true
  · rw [if_pos (same.trans behind), if_pos behind]
  · rw [if_neg (same ▸ behind), if_neg behind]

end

/-- Settles O48: a kept response is found by its TAG before the request is looked at. -/
theorem keptResponsesAreRepeated : Obligations.KeptResponsesAreRepeated := by
  refine ⟨fun s h y k hr up ready me sum opened fresh c retry version kept => ?_, fun s t h _ => ?_, fun s slot tag r opened c => ?_,
    fun s slot tag hr raised acked mode c old => ?_⟩
  · have again {q : Req} := act_request_kept (q := q) hr up ready me sum opened fresh c retry version kept
    exact ⟨again, again, fun a v m n ws => ⟨again, again, again, again, again, again⟩,
      fun o b l p c x z => ⟨again, again, again, again⟩⟩
  · exact ⟨State.Takes.request, State.Takes.request,
      fun a v m n ws => ⟨State.Takes.request, State.Takes.request, State.Takes.request, State.Takes.request, State.Takes.request,
        State.Takes.request⟩,
      fun o b l p c x y => ⟨State.Takes.request, State.Takes.request, State.Takes.request, State.Takes.request⟩⟩
  · obtain ⟨_, e⟩ := State.respond_session (tag := tag) (r := r) opened c
    have found (u : Nat) := find?_replaced Kept.tag (s.session slot).kept { tag := tag, resp := r, sentAt := s.now } u
    rw [e]
    exact ⟨congrArg (Option.map Kept.resp) ((found tag).trans (if_pos rfl)), fun u hu => (found u).trans (if_neg hu)⟩
  · have expired := State.settle_of_quiet (s := s.setSession slot { s.session slot with
        kept := (s.session slot).kept.filter (fun k => k.tag ≠ tag.toNat || decide (s.now < k.sentAt + nsSec)) }) raised acked mode
    refine ⟨_, (exec_responseRetentionExpiry _ _).trans (act_of_running hr), ?_⟩
    dsimp only
    rw [expired, State.session_setSession_same c]
    refine ⟨?_, rfl, rfl, rfl, fun j hj => State.session_setSession_ne hj⟩
    rw [List.find?_eq_none]
    intro k hk htag
    obtain ⟨mem, stays⟩ := List.mem_filter.mp hk
    have same : k.tag = tag.toNat := by simpa using htag
    have := old k mem same
    simp [same] at stays
    omega

end Sys2Proof.Machine

/-!
What each requester holds of its own: the words staged for a table entry (R81) and the snapshot of a 64-bit register (R77).
-/
namespace Sys2Proof.Machine

section
variable {s t u : State} {src other : Src} {i j a b : Nat}

theorem State.requester_setRequester_ne {x : Requester} (h : j ≠ i) : (s.setRequester i x).requester j = s.requester j :=
  Tab.get_put_ne _ h _

/-! ### Staged words (R81) -/

/-- The words that a requester has staged for the entry at `b`; what it staged for another entry is discarded. -/
def State.stagedFor (s : State) (i b : Nat) : List (Nat × Word) :=
  if (s.requester i).entry = some b then (s.requester i).staged else []

/-- A requester's access of the entry at `b`. -/
theorem State.unlink_atEntry (c : s.Canonical) : (s.unlink i).atEntry i b = s.staging i b (s.stagedFor i b) := by
  have sorted := c.requesters.1
  by_cases same : (s.requester i).entry = some b
  · simp only [State.unlink, State.atEntry, State.requester_same sorted, State.staging, State.stagedFor, same, if_true]
  · simp only [State.unlink, State.atEntry, State.requester_same sorted, State.setRequester_twice sorted, State.staging,
      State.stagedFor, same, if_false]

/-- A word of an entry but its highest-addressed one is staged, and nothing else happens. -/
theorem State.writeWin_lower {g : WinSeg} {e w v : Nat} (c : s.Canonical) (lower : w + 1 < g.stride / 4) :
    (s.unlink src.code).writeWin src g e w v
      = ⟨rsOK, false, 0, s.staging src.code (entryAddr g e) (stagedAfter (s.stagedFor src.code (entryAddr g e)) w v)⟩ := by
  have sorted := c.requesters.1
  rw [State.writeWin]
  dsimp only
  rw [State.unlink_atEntry c, if_pos lower]
  simp only [State.staging, State.requester_same sorted, State.setRequester_twice sorted, stagedAfter]

/-- A write of a word of a table goes to the table's entry. -/
theorem writeAt_of_window {toTag : Option (Nat × Nat)} {v : Nat} {g : WinSeg} {e w : Nat} (hd : s.writeDenied src a = false)
    (aligned : a % 4 = 0) (below : a < gddrBase) (there : placeAt a = some (.win g e w)) (free : s.filling a = false) :
    s.writeAt src toTag a v = (s.unlink src.code).writeWin src g e w v := by
  have denied : (s.unlink src.code).writeDenied src a = false := by cases src <;> exact hd
  have free' : (s.unlink src.code).filling a = false := free
  rw [State.writeAt, denied, if_neg (by simp), if_neg (by omega), there]
  dsimp only
  rw [free', if_neg (by simp)]

end

/-- Settles O60: a lower word joins those that its requester has staged for the entry. -/
theorem lowerWordsOfAnEntryAreStaged : Obligations.LowerWordsOfAnEntryAreStaged := by
  intro s t h a v g e w k hd aligned below there lower free c
  have sorted := c.requesters.1
  have found (j : Nat) := find?_replaced (·.1) (t.stagedFor h.slot (entryAddr g e)) (w, v) j
  refine ⟨t.staging h.slot (entryAddr g e) (stagedAfter (t.stagedFor h.slot (entryAddr g e)) w v.toNat), ?_, rfl, ?_, ?_, ?_, ?_⟩
  · have ends := (writeAt_of_window (toTag := some (h.slot.val, h.tag.toNat)) (v := v.toNat) hd aligned below there free).trans
      (State.writeWin_lower c lower)
    rw [exec_write, execWrite, k.answered (by simp) (State.perform_write ends rfl)]
    rfl
  all_goals simp only [State.staging, State.requester_same sorted, stagedAfter, BitVec.ofNat_toNat, BitVec.setWidth_eq]
  · exact congrArg (Option.map Prod.snd) ((found w).trans (if_pos rfl))
  · intro j hj
    refine (found j).trans ((if_neg hj).trans ?_)
    rw [State.stagedFor]
    split <;> rfl
  · exact fun i hi => State.requester_setRequester_ne hi

/-! ### The snapshot of a 64-bit register (R77) -/

section
variable {s t u : State} {src other : Src} {i j a b : Nat} {pl : Place}

/-- The low word of a 64-bit register of a page has its high word right behind it. -/
theorem wide_registers (k : Kind) : ∀ r ∈ HDR.regs ++ k.regs, r.w64 = 1 →
    ∃ q ∈ HDR.regs ++ k.regs, q.w64 = 2 ∧ q.off = r.off + 4 ∧ q.count = r.count ∧ (q.stride = r.stride ∨ r.count = 1) := by
  cases k <;> decide +kernel

theorem State.atEntry_word {c : Nat} : (s.atEntry i b).word c = s.word c := by
  rw [State.atEntry]
  split <;> rfl

theorem State.atEntry_requester_ne (h : j ≠ i) : (s.atEntry i b).requester j = s.requester j := by
  rw [State.atEntry]
  split
  · rfl
  · exact State.requester_setRequester_ne h

theorem State.setNat_word_ne {c v : Nat} (h : c ≠ a) : (s.setNat a v).word c = s.word c := Tab.get_put_ne _ h _

/-- What a read leaves of the state, but for its requester's snapshot: every other word, and what other requesters hold. -/
structure State.ReadBy (s t : State) (i a : Nat) : Prop where
  sorted : s.Canonical → t.rap.requesters.Pairwise (fun a b => a.1 < b.1)
  word : ∀ c, c ≠ a → t.word c = s.word c
  requester : ∀ j, j ≠ i → t.requester j = s.requester j

theorem State.ReadBy.of_rap (rap : t.rap = s.rap) (word : ∀ c, c ≠ a → t.word c = s.word c) : s.ReadBy t i a :=
  ⟨fun h => by rw [rap]; exact h.requesters.1, word, fun j _ => by rw [State.requester, rap]; rfl⟩

/-- A read of a low word loads the requester's snapshot, and any other ends its link (R77). -/
theorem State.afterRead_cases : ∃ t : State, s.ReadBy t i a ∧ s.afterRead i a pl =
    if pl.half = 1 then t.setRequester i { t.requester i with lastLow := some a, snap := t.word (a + 4) } else t.unlink i := by
  unfold State.afterRead
  extract_lets x y
  refine ⟨x, ?_, rfl⟩
  unfold x
  cases pl with
  | win g e w =>
    refine ⟨fun h => ?_, fun _ _ => State.atEntry_word, fun j hj => State.atEntry_requester_ne hj⟩
    dsimp only [State.atEntry]
    split
    · exact h.requesters.1
    · exact Tab.put_sorted h.requesters.1 _ _
  | reg k n p off r =>
    dsimp only
    have cleared : ∃ t : State, t.rap = s.rap ∧ (∀ c, c ≠ a → t.word c = s.word c) ∧
        (if r.rc = 0 then s else s.setNat a (s.nat a &&& (0xFFFFFFFF - r.rc))) = t :=
      ⟨_, by split <;> rfl, fun c hc => by split; exacts [rfl, State.setNat_word_ne hc], rfl⟩
    obtain ⟨t, rap, word, e⟩ := cleared
    rw [e]
    split <;> split <;> exact .of_rap rap word

/-- A high word that follows its low word shows the requester's snapshot. -/
theorem State.readAt_of_high {hi : Place} (hd : readDenied src (a + 4) = false) (aligned : a % 4 = 0) (below : a + 4 < gddrBase)
    (there : placeAt (a + 4) = some hi) (free : u.filling (a + 4) = false) (high : hi.half = 2) :
    u.readAt src (a + 4) = ⟨rsOK, false, if (u.requester src.code).lastLow = some a then (u.requester src.code).snap.toNat
      else u.shown (a + 4) hi, u.afterRead src.code (a + 4) hi⟩ := by
  rw [State.readAt]
  dsimp only
  rw [if_neg (by simp [hd]), if_neg (by omega), there]
  dsimp only
  rw [if_neg (by simp [free]), Nat.add_sub_cancel]
  simp only [high, decide_true, Bool.true_and, decide_eq_true_eq]

theorem State.afterRead_low (h : s.Canonical) (low : pl.half = 1) :
    ((s.afterRead i a pl).requester i).lastLow = some a ∧ ((s.afterRead i a pl).requester i).snap = s.word (a + 4) := by
  obtain ⟨t, read, e⟩ := State.afterRead_cases (i := i) (a := a) (pl := pl)
  rw [e, if_pos low, State.requester_same (read.sorted h)]
  exact ⟨rfl, read.word _ (by omega)⟩

theorem State.afterRead_requester_ne (ne : j ≠ i) : (s.afterRead i a pl).requester j = s.requester j := by
  obtain ⟨t, read, e⟩ := State.afterRead_cases (s := s) (i := i) (a := a) (pl := pl)
  rw [e]
  split
  · exact (State.requester_setRequester_ne ne).trans (read.requester j ne)
  · exact (State.requester_setRequester_ne ne).trans (read.requester j ne)

theorem State.readAt_requester_ne (ne : j ≠ other.code) : ((s.readAt other a).st).requester j = s.requester j := by
  have unlinked : (s.unlink other.code).requester j = s.requester j := State.requester_setRequester_ne ne
  rw [State.readAt]
  dsimp only
  split
  · exact unlinked
  · split
    · exact unlinked
    · split
      · exact unlinked
      · split
        · exact unlinked
        · exact State.afterRead_requester_ne ne

end

/-- Settles O59: a low word's read leaves the high word with its requester, and a high word's read looks there first. -/
theorem highWordsComeFromTheSnapshot : Obligations.HighWordsComeFromTheSnapshot := by
  refine ⟨wide_registers, fun s u src a lo hi c aligned below free free' there there' low high hd hd' => ?_,
    fun s src other a ne => State.readAt_requester_ne ne.symm⟩
  have read := State.readAt_of_place hd aligned (Nat.lt_of_le_of_lt (Nat.le_add_right a 4) below) there free (by omega)
  have second := State.readAt_of_high hd' aligned below there' free' high
  refine ⟨by rw [read], by rw [read], fun kept => ?_, fun other => by rw [second, if_neg other]⟩
  rw [read] at kept
  obtain ⟨link, snap⟩ := State.afterRead_low (i := src.code) (a := a) c low
  rw [second, kept, if_pos link, snap]
  rfl

end Sys2Proof.Machine

/-!
The frame of a session's write of a register that no block acts on (R73, R91, R100).
-/
namespace Sys2Proof.Machine

section
variable {s t u : State} {h : ReqHdr} {q : Req} {r : Resp} {a v : Nat} {k : Kind} {n p off : Nat} {reg : RegSpec}

/-! ### Blocks whose registers only hold what is written -/

/-- The kinds of page whose registers no block acts on. -/
def plainKinds : List Kind := [.THM, .NVS, .CNV, .QMG, .MTR, .SHP, .MEM, .ECC]

theorem State.handle_plain {src : Src} {toTag : Option (Nat × Nat)} (hk : k ∈ plainKinds) (past : 0x100 ≤ off) :
    s.handle src toTag k n p off v = ok (s.setNat (pageBase p + off) v) := by
  rw [State.handle.eq_def, if_neg (by omega)]
  simp only [plainKinds, List.mem_cons, List.not_mem_nil, or_false] at hk
  rcases hk with rfl | rfl | rfl | rfl | rfl | rfl | rfl | rfl <;> rfl

/-- The kind of a register's page. -/
theorem pageKind_of_placeAt (there : placeAt a = some (.reg k n p off reg)) : pageKind (a / 0x1000) = some (k, n) := by
  rw [placeAt.eq_def] at there
  split at there
  · cases hs : segAt a <;> simp [hs] at there
  · dsimp only at there
    split at there
    · cases there
    · rename_i k' n' hk
      rw [Option.map_eq_some_iff] at there
      obtain ⟨_, _, there⟩ := there
      simp only [Place.reg.injEq] at there
      rw [hk, there.1, there.2.1]

/-- A register of such a page is none of RAP's. -/
theorem plain_not_rap (there : placeAt a = some (.reg k n p off reg)) (hk : k ∈ plainKinds) {b : Nat} (hb : b < 0x1000) :
    a ≠ RAP.page + b := by
  rintro rfl
  have page := pageKind_of_placeAt there
  rw [show (RAP.page + b) / 0x1000 = 1 by rw [RAP.page]; omega, show pageKind 1 = some (.RAP, 0) by decide +kernel] at page
  cases page
  revert hk
  decide

/-! ### The one register that changes -/

/-- The word after a write of it whose WO bits then read 0, and the other words. -/
theorem State.nat_wrote (c : s.Canonical) (there : placeAt a = some (.reg k n p off reg)) :
    ((s.setNat a v).wrote a).nat a = (if reg.wo = 0 then v else v &&& (0xFFFFFFFF - reg.wo)) % 2 ^ 32 := by
  have c1 : (s.setNat a v).Canonical := (Evolves.refl s).setNat.canonical c
  rw [State.wrote, there]
  dsimp only
  rw [State.stripWo]
  split
  · exact State.nat_setNat_same c
  · rw [State.nat_setNat_same c1, State.nat_setNat_same c, Nat.and_mod_two_pow, Nat.and_mod_two_pow, Nat.mod_mod]

theorem State.wrote_regsOnly : s.RegsOnly (· = a) ((s.setNat a v).wrote a) := by
  have first : s.RegsOnly (· = a) (s.setNat a v) := (State.RegsOnly.refl _ s).setNat rfl
  rw [State.wrote]
  split
  · rw [State.stripWo]
    split
    · exact first
    · exact first.setNat rfl
  · exact first

theorem State.flag_of_word {f : Fld} (e : t.word (a + f.off) = s.word (a + f.off)) : t.flag a f = s.flag a f := by
  rw [State.flag, State.get, State.nat, e]
  rfl

/-! ### The response to a request that was taken -/

/-- The state after a response that has left towards `p`: kept under its TAG, sent and counted. -/
def State.replied (s : State) (slot tag : Nat) (r : Resp) (p : Peer) (wire : List Nat) : State :=
  ((s.setSession slot (s.responded slot tag r)).emit (.response slot tag r p wire)).count64 (RAP.page + RAP.TX_FRAMES) 1

theorem State.replied_word {slot tag : Nat} {p : Peer} {wire : List Nat} (low : a ≠ RAP.page + RAP.TX_FRAMES)
    (high : a ≠ RAP.page + RAP.TX_FRAMES + 4) : (s.replied slot tag r p wire).word a = s.word a :=
  (State.setNat_word_ne high).trans (State.setNat_word_ne low)

/-- A request's response goes to its sender, and nothing waits before it. -/
theorem State.Takes.respond (k : s.Takes h q t) (c : s.Canonical) (ct : t.Canonical) (sessions : u.rap.sessions = t.rap.sessions)
    (opened : (t.session h.slot).stage = .opened) : u.respond h.slot h.tag.toNat r =
      u.replied h.slot h.tag.toNat r h.via.peer ((t.session h.slot).respWire (reqOp q) h.tag.toNat r) := by
  obtain ⟨y, -, rfl⟩ := k.seq
  obtain ⟨asked, session, found⟩ := State.taken_session (h := h) (q := q) (y := y) c
  have same : u.session h.slot = (s.taken h y q).session h.slot := by rw [State.session, sessions]; rfl
  have sender : u.askedAs h.slot h.tag.toNat = some (reqOp q, h.via.peer) := by
    rw [State.askedAs, same, session]
    exact congrArg (Option.map Prod.snd) found
  have after : (u.setSession h.slot (u.responded h.slot h.tag.toNat r)).session h.slot = u.responded h.slot h.tag.toNat r :=
    Tab.get_put_same _ (sessions ▸ ct.sessions.1) _ _
  have waits : (u.responded h.slot h.tag.toNat r).unsent = [] := by rw [State.responded, same, session]
  have peer : (u.responded h.slot h.tag.toNat r).peer = some h.via.peer := by rw [State.responded, same, session]
  rw [State.respond_of_opened (same ▸ opened), sender, State.sendTo, same]
  dsimp only [Option.map_some, Option.getD_some, State.peerOf]
  rw [after, waits, peer, List.isEmpty_nil, if_pos rfl, ite_self]
  rfl

end

/-- Settles O54: the block holds the word, and the end of the command finds nothing to do. -/
theorem plainWritesChangeOneRegister : Obligations.PlainWritesChangeOneRegister := by
  intro s t h a v k n p off r takes may there plain past c ct raised acked mode opened
  have apart (b : Nat) (hb : b < 0x1000) : RAP.page + b ≠ a.toNat := (plain_not_rap there plain hb).symm
  let w := ((t.reached (.rap h)).setNat a.toNat (t.written a.toNat v.toNat)).wrote a.toNat
  let u := w.replied h.slot h.tag.toNat (status rsOK) h.via.peer
    ((t.session h.slot).respWire (reqOp (.write a v)) h.tag.toNat (status rsOK))
  have written : t.writeAt (.rap h) (some (h.slot.val, h.tag.toNat)) a.toNat v.toNat = ⟨rsOK, false, 0, w⟩ :=
    writeAt_reg_of may (by rw [there]; rfl) ((State.handle_plain plain past).trans (by rw [pageBase_add_of_placeAt there])) rfl
  have one : (t.reached (.rap h)).RegsOnly (· = a.toNat) w := State.wrote_regsOnly
  have frame : w = { t.reached (.rap h) with regs := w.regs } := by
    obtain ⟨_, e, -⟩ := one
    rw [e]
  have responded : w.respond h.slot h.tag.toNat (status rsOK) = u :=
    takes.respond c ct (congrArg (·.rap.sessions) frame) opened
  have whole : u = { t with regs := u.regs, rap := u.rap, out := u.out } :=
    congrArg (fun y : State => { y with regs := u.regs, rap := u.rap, out := u.out }) frame
  have word {b : Nat} (other : b ≠ a.toNat) (low : b ≠ RAP.page + RAP.TX_FRAMES) (high : b ≠ RAP.page + RAP.TX_FRAMES + 4) :
      u.word b = t.word b := by
    obtain ⟨_, e, words⟩ := one
    refine (State.replied_word low high).trans ?_
    rw [e]
    exact words b other
  have quiet : u.settle = u := by
    have same : u.flag RAP.page RAP.ENCAP_MODE = t.flag RAP.page RAP.ENCAP_MODE :=
      State.flag_of_word (word (apart RAP.ENCAP_MODE.off (by decide)) (by decide) (by decide))
    have udp : u.rap.udp = t.rap.udp := congrArg (·.rap.udp) frame
    exact State.settle_of_quiet (by rw [whole]; exact raised) (by rw [whole]; exact acked) (udp.trans (mode.trans same.symm))
  refine ⟨u, ?_, ?_, fun _ => word, ?_, fun i hi => ?_, whole⟩
  · rw [exec_write, execWrite, takes.answered (by simp) (State.perform_write written rfl), responded, quiet]
  · have kept : u.word a.toNat = w.word a.toNat :=
      State.replied_word (apart RAP.TX_FRAMES (by decide)).symm (apart (RAP.TX_FRAMES + 4) (by decide)).symm
    exact (congrArg BitVec.toNat kept).trans (State.nat_wrote ((Evolves.refl t).unlink.canonical ct) there)
  · have before : w.out = t.out := congrArg (·.out) frame
    exact congrArg (· ++ _) before
  · exact (State.session_setSession_ne hi).trans (congrArg (·.session i) frame)

end Sys2Proof.Machine
